-- ==== Sys2Proof/Word.lean ====
section
/-! DEFINITION. The plainest words of the model: bytes, register words, instants and keyed tables. -/

namespace Sys2Proof

/-- One byte of a packet, an image, a frame or a queue word. -/
abbrev Byte := BitVec 8

/-- A string of bytes, lowest offset first. -/
abbrev Bytes := List Byte

/-- A 32-bit register word (02 R40). -/
abbrev Word32 := BitVec 32

/-- A quality word (04 R94). -/
abbrev Qual := BitVec 16

/-- An instant of the time base, counted in units of 2^-32 s of TAI (00 R7). -/
abbrev Instant := Nat

/-- A table keyed by number; kept in strictly increasing order of its keys. -/
abbrev Map (α : Type) := List (Nat × α)

end Sys2Proof
end

