-- ==== Sys2Proof/Types.lean ====
section
/-! DEFINITION. The plain data the block holds and the rows carry, chapter by chapter of the spec, under its names. -/

namespace Sys2Proof

/-! ## Chapter 02: masters, packets, replies -/

/-- Where a command comes from (02 R33). -/
inductive Origin where
  | host
  | mgp
  | twin
deriving DecidableEq, Repr

/-- The two ports with registers of their own (02 R26). -/
inductive Master where
  | host
  | mgp
deriving DecidableEq, Repr

/-- A command packet as its master wrote it, its OPCODE apart (02 R32). -/
structure Packet where
  origin : Origin
  flags : Nat
  hdrver : Nat
  tag : Nat
  seq : Nat
  plen : Nat
  crc : Nat
  params : Bytes
deriving DecidableEq, Repr

/-- A reply (02 R33). -/
structure Reply where
  origin : Origin
  status : Nat
  opcode : Nat
  tag : Nat
  final : Bool
  result : Bytes
deriving DecidableEq, Repr

/-- A read of a counter of the CNT block: 32 bits of its low word or, over PCIe, all 64 (02 R40). -/
structure CntRead where
  n : Fin 512
  wide : Bool
deriving DecidableEq, Repr

/-- OP and ADDR of a request of the management port (02 R43). -/
structure MgpHead where
  op : Nat
  addr : Nat
deriving DecidableEq, Repr

/-- What a QUEUED command's final reply needs (02 R30). -/
structure Waiter where
  origin : Origin
  opcode : Nat
  tag : Nat
  seq : Nat
  crc : Nat
  noIrq : Bool
deriving DecidableEq, Repr

/-- The last command executed from an origin and its stored reply (02 R31). -/
structure LastCmd where
  opcode : Nat
  seq : Nat
  crc : Nat
  reply : Reply
deriving DecidableEq, Repr

/-- An unfinished chunked load (02 R35). -/
structure ChunkLoad where
  origin : Origin
  opcode : Nat
  target : Nat
  totalLen : Nat
  data : Bytes
  last : Instant
deriving DecidableEq, Repr

/-- A posted slot whose OPCODE the table does not hold (02 R34): the slot it lies in, and what it holds. -/
structure UnknownCmd where
  slot : Nat
  opcode : Nat
  pk : Packet
deriving DecidableEq, Repr

/-- The command and reply rings and the MGP mailbox (02 R27, R28, R44). lastOrigin is the origin that the last command came
from (02 R24), replyWait the replies that wait to be posted, each with its NO_IRQ, and unknown the posted slots of the host's
ring whose OPCODE the table does not hold. -/
structure CmdIf where
  cqBaseLo : Nat := 0
  cqBaseHi : Nat := 0
  cqSize : Nat := 4
  cqTail : Nat := 0
  cqHead : Nat := 0
  cqEn : Bool := false
  rqBaseLo : Nat := 0
  rqBaseHi : Nat := 0
  rqSize : Nat := 4
  rqTail : Nat := 0
  rqHead : Nat := 0
  rqEn : Bool := false
  lastHost : Option LastCmd := none
  lastMgp : Option LastCmd := none
  chunks : List ChunkLoad := []
  mailbox : Map Byte := []
  mailSubmitted : Bool := false
  replyBox : Option Reply := none
  replyWait : List (Reply × Bool) := []
  lastOrigin : Option Origin := none
  unknown : Map UnknownCmd := []
deriving DecidableEq, Repr

/-! ## Chapters 02, 17, 19: GLB registers, trace and pins -/

/-- The GLB block's stored fields (02 R40, 17 R437). -/
structure Glb where
  irqStatus : BitVec 9 := 0
  irqEnable : BitVec 9 := 0
  temp : BitVec 16 := 0
  scratch : Word32 := 0
  trcEn : Bool := false
  trcTypes : BitVec 6 := 0
  trcGidLo : Nat := 0
  trcGidHi : Nat := 0x3FF
  trcTidLo : Nat := 0
  trcTidHi : Nat := 0x3FFF
  trcQ : Nat := 0x7F
  trcFifo : Nat := 0
  trcLost : Nat := 0
  trcAt : Instant := 0
  vecTab : Map Word32 := []
  vecPend : Map Bool := []
deriving DecidableEq, Repr

/-- One accepted edge of a WAS_IN pin (19 R473). -/
structure Edge where
  at_ : Instant
  level : Bool
deriving DecidableEq, Repr

/-- The pins the rules name (19 R468). -/
structure Pins where
  wasIn : Map (List Edge) := []
  wasInBase : Map Bool := []
  wasOut : BitVec 16 := 0
  wasOutReq : BitVec 16 := 0
  hbOut : Bool := false
  alarm : Bool := false
  therm : Bool := false
  modReady : Bool := false
  phyRst : Bool := true
  peerDet : Bool := false
  prefRole : Bool := false
  bootSel0 : Bool := false
  bootSel1 : Bool := false
  pwrFail : Bool := false
  modRst : Bool := false
deriving DecidableEq, Repr

/-! ## Chapter 03: time base -/

inductive TbState where
  | freerun
  | locked
  | holdover
deriving DecidableEq, Repr

/-- TIME_CONFIG's parameters (03 R78). -/
structure TimeConfig where
  source : Nat := 0
  profile : Nat := 0
  domain : Nat := 0
  ports : Nat := 0
  options : Nat := 0
  ppsInDelay : Int := 0
  ppsOutWidth : Nat := 1
  asym : List Int := [0, 0, 0, 0, 0, 0]
deriving DecidableEq, Repr

/-- What an Announce message carries into best-master selection and the offset (03 R48, R57). -/
structure Announce where
  domain : Nat
  sender : Nat
  prio1 : Nat
  clockClass : Nat
  accuracy : Nat
  variance : Nat
  prio2 : Nat
  gmId : Nat
  steps : Nat
  utcOffset : Nat
  utcValid : Bool
  leap61 : Bool
  leap59 : Bool
  tti : Option Nat
deriving DecidableEq, Repr

/-- A Sync (one-step 0, two-step 1) or Follow_Up (2) message (03 R48). -/
structure PtpSync where
  kind : Nat
  domain : Nat
  sender : Nat
  seq : Nat
  originNs : Nat
  corrNs : Int
deriving DecidableEq, Repr

/-- The time base. slew is what is left of a slew, in units of 2^-64 s ahead of the source (03 R54); lockSrc the source that
gave the last lock (03 R53); todErr by how many seconds the count is ahead of the named second, and zdaEdge the edge that the
last sentence named (03 R49); lastLeap the second at which the offset last changed, the offset before it and whether a second
was deleted (03 R58); seqPos the last issue's instant and its rank among coincident ones (01 R12). -/
structure TimeBase where
  count : Nat := 0
  incr : Nat := 73786976295
  state : TbState := .freerun
  cfg : TimeConfig := {}
  offsetNs : Int := 0
  goodRun : Nat := 0
  holdFrom : Instant := 0
  stepPending : Option Int := none
  slew : Int := 0
  lockSrc : Nat := 0
  todErr : Int := 0
  zdaEdge : Option Instant := none
  seqPos : Option (Instant × Nat) := none
  sourceSeen : Bool := false
  refPresent : Bool := false
  ppsEdge : Option Instant := none
  ppsDisagree : Nat := 0
  todSet : Bool := false
  utcOffset : Nat := 0
  leap : Nat := 0
  leapEnd : Option Nat := none
  utcFromPtp : Bool := false
  lastLeap : Option (Nat × Nat × Bool) := none
  storedOffset : Nat := 0
  storedFlags : Nat := 0
  storedWaiting : Bool := false
  masters : Map Announce := []
  gmPort : Nat := 0xFF
  syncStamps : Map (Nat × Instant × Int) := []
  pdelaySent : Map (Nat × Instant) := []
  pdelay : List Int := [0, 0, 0, 0, 0, 0]
  lastSync : Instant := 0
  snapSec : Nat := 0
  snapFrac : Nat := 0
  stepRestart : Option Int := none
  announceAt : Map Instant := []
  pdelayGot : Map (Nat × Nat × Instant × Int) := []
  pdelaySeq : Nat := 0
  secDone : Option Nat := none
  slotDone : Option Instant := none
deriving DecidableEq, Repr

/-- What a phase request does when it is taken (03 R64). -/
inductive PhaseAct where
  | pin (scheme pin : Nat) (level : Bool)
  | capture (cap src srcId : Nat) (trig : Instant) (mark : Bytes) (accepted : Bool)
deriving DecidableEq, Repr

/-- A pending phase request (03 R64, R65): its anchor num/den s, exact, and on the grid; cycle0 counts reference cycles as the
tracked angle does. -/
structure PhaseReq where
  num : Nat
  den : Nat
  anchor : Instant
  cycle0 : Option Int := none
  phi : Nat
  cyc : Nat
  skip : Bool
  act : PhaseAct
  target : Option Instant := none
  fallback : Bool := false
deriving DecidableEq, Repr

/-- The reference bus as the filter chain tracks it (03 R63, 05 R116): theta at the newest valid sample in units of 2^-64 turns,
counted on through every turn, and its frequency in units of 2^-16 Hz. -/
structure RefBus where
  sample : Option Instant := none
  theta : Int := 0
  freq : Nat := 0
  settled : Bool := false
deriving DecidableEq, Repr

/-! ## Data-path tables (01 R17) -/

structure PmuBlock where
  fmt : Nat
  phnmr : Nat
  annmr : Nat
  dgnmr : Nat
deriving DecidableEq, Repr

/-- A stream descriptor (04 R81), its SID apart; defaults resolved. -/
structure StreamDef where
  type : Nat
  ports : Nat
  rate : Nat
  tol : Nat
  tq : Nat
  dropout : Nat
  opts : Nat
  altSid : Nat
  vlan : Nat
  udpPort : Nat
  idcode : Nat
  srcAddr : Nat
  dstMac : Nat
  locker : Nat
  ident : Nat
  nch : Nat
  tbConf : Nat
  blocks : List PmuBlock
deriving DecidableEq, Repr

/-- A channel entry (04 R95), its CID apart. -/
structure ChannelDef where
  sid : Nat
  kind : Nat
  index : Nat
  block : Nat
  format : Nat
  subst : Nat
  flags : Nat
  scale : Nat
  nominal : Nat
  substRe : Nat
  substIm : Nat
  fci : Nat
deriving DecidableEq, Repr

/-- A match group (06 R133). -/
structure GroupDef where
  rate : Nat
  wUs : Nat
  policy : Nat
  sids : List Nat
  prods : List Nat
deriving DecidableEq, Repr

/-- A task template (06 R145). -/
structure Template where
  type : Nat
  prio : Nat
  pavset : Nat
  affDepth : Nat
  gid : Nat
  object : Nat
  tflags : Nat
  wcet : Nat
  stateSize : Nat
  blk : Bytes
deriving DecidableEq, Repr

/-- A detector definition (07 R163). -/
structure DetDef where
  kernel : Nat
  opts : Nat
  pinLevel : Nat
  oq : Nat
  blindN : Nat
  dgPort : Nat
  dgAddr : Nat
  dgUdp : Nat
  dgVlan : Nat
  dgDscp : Nat
  dgLocker : Nat
  kblk : Bytes
deriving DecidableEq, Repr

structure InBind where
  var : Nat
  src : Nat
  sel : Nat
  ref : Nat
  ofs : Nat
  empty : Nat
deriving DecidableEq, Repr

structure OutBind where
  var : Nat
  kind : Nat
  station : Nat
  index : Nat
  arg : Nat
  safe : Nat
deriving DecidableEq, Repr

structure VarDecl where
  type : Nat
  cls : Nat
  ident : Nat
  init : Nat
deriving DecidableEq, Repr

/-- A scheme image, read from its bytes (08 R191, R192). -/
structure SchemeImg where
  cycleK : Nat
  prio : Nat
  imageId : Nat
  wcet : Nat
  stateSize : Nat
  fnom : Nat
  flags : Nat
  exportLen : Nat
  entry : Nat
  errEntry : Nat
  inputs : List InBind
  stations : List (Nat × Nat)
  outputs : List OutBind
  consts : List VarDecl
  vars : List VarDecl
  fbs : List (Nat × Nat)
  exports : List Nat
  code : Bytes
deriving DecidableEq, Repr

/-- A capture definition (10 R259). -/
structure CapDef where
  cls : Nat
  oq : Nat
  e : Nat
  opts : Nat
  sign : Nat
  lateOq : Nat
  pre : Nat
  post : Nat
  hold : Nat
  decim : Nat
  blockN : Nat
  phase : Nat
  sealS : Nat
  wasRise : Nat
  wasFall : Nat
  trig : Nat
  dets : List (Nat × Nat)
  schs : List (Nat × Nat)
  sids : List Nat
deriving DecidableEq, Repr

structure OutEntry where
  cid : Nat
  field : Nat
  eflags : Nat
  scale : Nat
deriving DecidableEq, Repr

structure OutBlock where
  sid : Nat
  inblk : Nat
  format : Nat
  entries : List OutEntry
deriving DecidableEq, Repr

structure OutMember where
  cid : Nat
  type : Nat
  msrc : Nat
deriving DecidableEq, Repr

/-- An output stream or publication (12 R332). -/
structure OutDef where
  port : Nat
  flags : Nat
  dscp : Nat
  locker : Nat
  vlan : Nat
  dstAddr : Nat
  dstUdp : Nat
  srcUdp : Nat
  idcode : Nat
  rtMin : Nat
  rtMax : Nat
  tbConf : Nat
  goid : Nat
  gocbref : Nat
  datset : Nat
  blocks : List OutBlock
  members : List OutMember
deriving DecidableEq, Repr

structure MapEntry where
  kind : Nat
  index : Nat
  base : Nat
  length : Nat
deriving DecidableEq, Repr

/-- A schedule entry (03 R68). -/
structure SchedEntry where
  q : Nat
  a : Nat
  m : Nat
  n : Nat
  action : Nat
  flags : Nat
  target : Nat
  arg : Nat
deriving DecidableEq, Repr

/-- A schedule image (03 R67). -/
structure SchedImg where
  fnom : Nat
  voicePav : Nat
  imageId : Nat
  powerMw : Nat
  refbusCid : Nat
  ssRate : Nat
  cuRate : Nat
  voiceUnits : Nat
  omap : List MapEntry
  entries : List SchedEntry
deriving DecidableEq, Repr

/-- One table bank (01 R17). -/
structure Bank where
  streams : Map StreamDef := []
  channels : Map ChannelDef := []
  groups : Map GroupDef := []
  templates : Map Template := []
  dets : Map DetDef := []
  schemes : Map SchemeImg := []
  caps : Map CapDef := []
  outs : Map OutDef := []
  sched : Option SchedImg := none
deriving DecidableEq, Repr

/-! ## Chapter 04: ingest -/

inductive StreamState where
  | idle
  | up
  | dropped
  | cfgMismatch
deriving DecidableEq, Repr

/-- The dataset a GOOSE_R stream holds (04 R88). -/
structure GooseHeld where
  stNum : Nat
  sqNum : Nat
  until_ : Instant
  members : List Nat
  qual : Qual
  stamp : Instant
deriving DecidableEq, Repr

/-- What a stream's history holds for one instant, as a scheme station reads it (08 R198): an instance accepted good or bad, or
missing; entry to IDLE; entry to and end of CFG_MISMATCH. -/
inductive StMark where
  | good
  | bad
  | missing
  | idle
  | mismatch
  | agreed
deriving DecidableEq, Repr

/-- A station's input up to an instant: heard since it last entered IDLE, in CFG_MISMATCH, and its run of consecutive missing or
bad instances (08 R198). -/
structure StHist where
  heard : Bool := false
  mismatch : Bool := false
  run : Nat := 0
deriving DecidableEq, Repr

/-- A stream's running state (04 R103, R480). missed holds the instances judged missing at the earliest deadline; hist the marks
of the last 4 s by instant, and histBase what the earlier ones left. -/
structure StreamRun where
  state : StreamState := .idle
  wasDropped : Bool := false
  heard : Bool := false
  missRun : Nat := 0
  lastInst : Option Instant := none
  counts : Map Nat := []
  dropout : Nat := 0
  srcSwitch : Nat := 0
  tqBad : Nat := 0
  prpA : Option Instant := none
  prpB : Option Instant := none
  held : Option GooseHeld := none
  older : Option GooseHeld := none
  lastSrc : Option (Nat × Nat × Nat) := none
  refusedSec : Option Nat := none
  written : List Nat := []
  firstAcc : Option Instant := none
  judged : Option Nat := none
  missed : List Instant := []
  hist : List (Instant × StMark) := []
  histBase : StHist := {}
deriving DecidableEq, Repr

/-! ## Chapter 05: filter chain -/

/-- One accepted sample set of a stream: index n = s × RATE + smpCnt (04 R87). -/
structure SampleSet where
  n : Nat
  alt : Bool
  timeUnc : Bool
  vals : List (Int × Nat)
deriving DecidableEq, Repr

/-- Restart and step-detector state of one FCI (05 R124). -/
structure FciRun where
  phRestarts : List Nat := []
  wfRestarts : List Nat := []
  disarmed : Nat := 0
  checked : Nat := 0
deriving DecidableEq, Repr

/-- The running state of one FILTER template's stream (05 R119): the delay line, the accepted sets of either source not yet
consumed, the first instants accepted and the next instance to release. -/
structure FilterRun where
  line : List SampleSet := []
  prim : List SampleSet := []
  altq : List SampleSet := []
  first : Option Nat := none
  altFirst : Option Nat := none
  next : Nat := 0
  opened : Nat := 0
  start : Nat := 0
  useAlt : Bool := false
  primMiss : Nat := 0
  primRun : Nat := 0
  fcis : Map FciRun := []
deriving DecidableEq, Repr

/-- One FCI's outputs for a reporting instant (05 R121). -/
structure FciOut where
  fci : Nat
  re : Int
  im : Int
  freq : Nat
  qual : Qual
  wave : List Int
  wqual : Qual
deriving DecidableEq, Repr

/-! ## Chapter 06: matching store and dispatch -/

/-- The data an operand refers to (04 R98, 05 R121, 06 R157). -/
inductive OperandData where
  | frame (bytes : Bytes)
  | filter (outs : List FciOut)
  | dataset (members : List Nat) (qual : Qual) (bad : Bool)
  | record (bytes : Bytes)
  | staging
deriving DecidableEq, Repr

/-- A cell with its operand (06 R129); key is KEY of R129 (bit 14 set for a producer). -/
structure Cell where
  key : Nat
  inst : Instant
  fptr : Nat
  fbLen : Nat
  staging : Bool
  latePartial : Bool
  qual : Qual
  stamp : Instant
  data : OperandData
  waiting : List Nat
deriving DecidableEq, Repr

/-- Frame-buffer space in use, in units of 64 bytes (04 R104). -/
structure FbRegion where
  fptr : Nat
  len : Nat
  key : Nat
  inst : Instant
deriving DecidableEq, Repr

inductive InstState where
  | open_
  | complete
  | expired
  | fired
  | retired
deriving DecidableEq, Repr

/-- A channel's value as a group presents it; floats are float32 bit patterns (04 R98, R99). -/
inductive ChanVal where
  | phasor (a b : Nat) (polar : Bool)
  | scalar (v : Nat)
  | raw (bits : Nat)
  | sv (re im freq : Nat) (wave : Option (Qual × List Nat))
deriving DecidableEq, Repr

structure ChanView where
  cid : Nat
  qual : Qual
  val : ChanVal
deriving DecidableEq, Repr

/-- A group instance (06 R140). tasks counts its released tasks that have not ended; cycles names the schemes whose CYCLE issue
may still release their cycle for it once it has fired (08 R194). -/
structure GroupInst where
  gid : Nat
  t : Instant
  state : InstState
  kind : Nat := 0
  present : List Nat := []
  view : List ChanView := []
  ops : List Cell := []
  tasks : Nat := 0
  cycles : List Nat := []
deriving DecidableEq, Repr

/-- A deadline evaluation to come: the group's instance and the evaluation's instant (01 R14). -/
structure DueEval where
  gid : Nat
  t : Instant
  at_ : Instant
deriving DecidableEq, Repr

/-- What a task instance released before a bank swap completes under: the bank that was active, and its filter chain where the
swap starts the chain anew (06 R158). -/
structure OldDef where
  bank : Bank
  chain : Option FilterRun
deriving DecidableEq, Repr

/-- A released task instance (06 R154): holdUntil is its hold limit (06 R155); old is present from a swap on. -/
structure TaskInst where
  tid : Nat
  tmpl : Template
  t : Instant
  gid : Nat
  released : Instant
  holdUntil : Instant
  serial : Nat
  old : Option OldDef := none
deriving DecidableEq, Repr

/-- A core's local queue and running task (06 R151). -/
structure CoreRun where
  queue : List TaskInst := []
  running : Option TaskInst := none
  start : Instant := 0
  overrun : Bool := false
deriving DecidableEq, Repr

/-- A template's dispatch state (06 R148, R150). -/
structure TmplRun where
  lastCore : Option Nat := none
  pending : Nat := 0
  backlogSec : Option Nat := none
  abortSec : Option Nat := none
deriving DecidableEq, Repr

structure Match where
  cells : List Cell := []
  fb : List FbRegion := []
  insts : List GroupInst := []
  firstInst : Map Instant := []
  lastFired : Map Instant := []
  hold : Map (Map ChanVal) := []
  evalDue : List DueEval := []
deriving DecidableEq, Repr

structure Disp where
  ready : List TaskInst := []
  held : List TaskInst := []
  cores : Map CoreRun := []
  tmpls : Map TmplRun := []
  serial : Nat := 0
  dropSec : Option Nat := none
  skipSec : Option Nat := none
  dropped : List TaskInst := []
deriving DecidableEq, Repr

/-! ## Chapter 07: Belvedere -/

/-- A criterion (07 R166, R167): its level, the runs of evaluable instances that raise and clear it, and what stood at the
start of each; values are float32 patterns. tracked and unmatched serve modes and lines (07 R179, R183); byDamp and byAmp say
which conditions hold a mode's ALARM, and clrA counts the instants at which the amplitude condition has failed (07 R180). -/
structure Crit where
  level : Nat := 0
  run2 : Nat := 0
  run3 : Nat := 0
  clr : Nat := 0
  st2 : Nat := 0
  st3 : Nat := 0
  stc : Nat := 0
  tracked : Bool := false
  unmatched : Nat := 0
  byDamp : Bool := false
  byAmp : Bool := false
  clrA : Nat := 0
  value1 : Nat := 0
  value2 : Nat := 0
  aux : Nat := 0
  cid : Nat := 0
deriving DecidableEq, Repr

/-- The unwrapped difference of a D-ISL pair and the last angle difference, in units of 2^-64 degrees, its references and
its past values since the last restart (07 R176). -/
structure IslPair where
  dth : Int
  phi : Int
  refA : Nat
  refB : Nat
  past : List (Instant × Int)
deriving DecidableEq, Repr

/-- What an estimation gives of one mode or line (07 R179-R183); floats are float32 patterns. value is the damping ratio of
a mode or the F-statistic of a line, cid the strongest channel, and shape each channel's magnitude and angle relative to it: the
fits give the channels by position, the reports by CID. -/
structure ModeEst where
  freq : Nat
  value : Nat
  energy : Nat
  amp : Nat
  cid : Nat
  shape : List (Nat × Nat × Int)
deriving DecidableEq, Repr

/-- One stored sample of D-OSC or D-FOSC: its number s × r + i, each channel's 16-bit value, and the means that were subtracted,
in units of 2^-64 degrees (07 R179). -/
structure HistSample where
  m : Nat
  vals : List (Option Int)
  means : List Int
deriving DecidableEq, Repr

/-- A detector instance's running state (07 R189). hist keeps channel values by reporting instant; est the last ambient
estimates; areas the area frequencies, references and flags; vals the last ROCOF of each channel; waves D-SSO's waveform blocks
with their flags; inputs, unwrap, samples and means what D-OSC and D-FOSC resample and store; ringAt the start of a ring-down. -/
structure DetRun where
  crits : Map Crit := []
  latch : Nat := 0
  seq : Nat := 0
  unevalRun : Nat := 0
  blind : Bool := false
  evals : Nat := 0
  skips : Nat := 0
  lastT : Option Instant := none
  since : Option Instant := none
  hist : List (Instant × List (Option Nat)) := []
  histFlags : List (Instant × List Nat) := []
  secFlags : List (Nat × Nat) := []
  pairs : Map IslPair := []
  areas : List (Nat × Nat × Nat) := []
  vals : List Nat := []
  est : List ModeEst := []
  recSec : Nat := 0
  recN : Nat := 0
  ringdown : Bool := false
  ringAt : Option Instant := none
  waves : List (Instant × List (Option (Nat × List Nat))) := []
  inputs : List (Instant × List (Option Int)) := []
  unwrap : List (Option (Int × Int)) := []
  samples : List HistSample := []
  means : List Int := []
  fTh : Nat := 0
deriving DecidableEq, Repr

/-! ## Chapter 08: schemes -/

/-- A function block (08 R200); times are cycle numbers s × Fnom + k and whole ns. -/
structure FbState where
  kind : Nat
  ident : Nat
  start : Nat := 0
  inMem : Bool := false
  q : Bool := false
  et : Nat := 0
  cv : Int := 0
  m : Option Bool := none
deriving DecidableEq, Repr

/-- A cell of PROG_SET_VALUES (08 R209). -/
structure SetCell where
  id : Nat
  space : Nat
  type : Nat
  value : Nat
deriving DecidableEq, Repr

/-- A command that waits for a cycle: effect is the instance of the first cycle that may apply it (08 R209, R211, R217). -/
inductive PendCmd where
  | set (w : Waiter) (effect : Instant) (cells : List SetCell)
  | force (w : Waiter) (effect : Instant) (id : Nat) (value : Nat)
  | unforce (w : Waiter) (effect : Instant) (id : Nat)
  | unforceAll (w : Waiter) (effect : Instant)
deriving DecidableEq, Repr

/-- A scheme's running state (08 R194-R217). stUp holds, for each station, whether it was UP at the last executed cycle and
lastT that cycle's instance; lastOut the last value of each output that acts on a rising edge; cycleAt the last CYCLE issue;
stopLast the instance of the last cycle that was released when PROG_STOP executed; owner the image that the state belongs to while the active
bank has none; changing a program exchange that still waits for cycles opened before its boundary: the boundary, the old image
and the new one. -/
structure SchRun where
  running : Bool := false
  fresh : Bool := true
  vars : List Nat := []
  consts : List Nat := []
  fbs : List FbState := []
  forces : Map Nat := []
  pend : List PendCmd := []
  stUp : Map Bool := []
  lastT : Option Instant := none
  cycleAt : Option Instant := none
  skipNext : Bool := false
  lastOut : Map Bool := []
  startWait : Option Waiter := none
  notBefore : Instant := 0
  stopWait : Option (List Waiter) := none
  stopLast : Option Instant := none
  opened : List Instant := []
  exchange : Option SchemeImg := none
  owner : Option SchemeImg := none
  changing : Option (Instant × SchemeImg × SchemeImg) := none
  faultSec : Option Nat := none
  phaseStat : Map Nat := []
deriving DecidableEq, Repr

/-- A publication's sending state (12 R337). newState is a state that waits for its PUBLISH issue: its instance, when it was
complete and the members. -/
structure PubRun where
  stNum : Nat := 0
  sqNum : Nat := 0
  spdu : Nat := 0
  data : List Nat := []
  interval : Nat := 0
  nextAt : Option Instant := none
  newState : Option (Instant × Instant × List Nat) := none
  owed : List Instant := []
deriving DecidableEq, Repr

/-! ## Chapter 09: Bandstand -/

structure VchParams where
  codecF : Nat
  codecC : Nat
  frameMs : Nat
  jbMode : Nat
  jbMin : Nat
  jbMax : Nat
  jbInit : Nat
  ecTail : Nat
  ecOpts : Nat
  toneMask : Nat
  toneOpts : Nat
  relay : Nat
  evtPtF : Nat
  evtPtC : Nat
  ptF : Nat
  ptC : Nat
  recSel : Nat
  recOq : Nat
  recBlockSel : Nat
  evtOq : Nat
  opts : Nat
  label : Nat
deriving DecidableEq, Repr

/-- The contents of a received RTP packet once it is decrypted (09 R231). -/
structure RtpIn where
  pt : Nat
  seq : Nat
  ts : Nat
  ssrc : Nat
  payload : Bytes
  stamp : Instant
deriving DecidableEq, Repr

/-- A packet held in a leg's receive buffer (09 R231). -/
structure HeldPkt where
  ts : Nat
  payload : Bytes
  event : Bool
  stamp : Instant
deriving DecidableEq, Repr

/-- An SSRC that may replace the learned one: how many consecutive packets it has sent, and its own SRTP context (09 R232). -/
structure Cand where
  ssrc : Nat
  n : Nat
  high : Option Nat := none
  window : List Nat := []
deriving DecidableEq, Repr

/-- What a leg keeps of the stream it receives for its RTCP reports, as RFC 3550 does (09 R235): the highest extended sequence
number, the packets expected and received and what they were at the last report, the jitter times 16, and the last SR with its
arrival. -/
structure RtcpRx where
  base : Nat := 0
  maxExt : Nat := 0
  received : Nat := 0
  expPrior : Nat := 0
  recPrior : Nat := 0
  transit : Option Int := none
  jitter : Nat := 0
  lsr : Nat := 0
  lsrAt : Option Instant := none
  started : Bool := false
deriving DecidableEq, Repr

/-- A digit detector on a leg's input (09 R247), in ms: ready once 40 ms of pause have passed, the digit that lasts and for how
long, whether it is accepted, and what is left of the 40 ms after its end. -/
structure DtmfRun where
  ready : Bool := true
  off : Nat := 0
  cand : Option Nat := none
  on : Nat := 0
  active : Bool := false
  level : Nat := 0
  tail : Nat := 0
deriving DecidableEq, Repr

/-- A fax and modem tone detector on a leg's input (09 R245, R246), in ms: how long 2,100 Hz has lasted, and how long with the
15 Hz modulation, whether ANS or ANSam has been issued, the last phase reversal, and the HDLC flags seen in a row. -/
structure ModemRun where
  on : Nat := 0
  am : Nat := 0
  told : Bool := false
  lastRev : Option Nat := none
  clock : Nat := 0
  flags : Nat := 0
  v21 : Bool := false
deriving DecidableEq, Repr

/-- A call-progress tone's cadence (09 R249), in units of 10 ms: whether the tone is on and for how long, the cadence's segment,
the complete cadences, and after detection the absence. -/
structure ToneRun where
  on : Bool := false
  len : Nat := 0
  seg : Option Nat := none
  reps : Nat := 0
  detected : Bool := false
  absent : Nat := 0
deriving DecidableEq, Repr

/-- An event that a leg sends (09 R248): its code and volume, the received event that it forwards (none for a detected digit), the
timestamp at which it started, its final duration, and the end packets sent. -/
structure EvtOut where
  code : Nat
  vol : Nat
  src : Option Nat
  start : Nat
  done_ : Option Nat := none
  ends : Nat := 0
  sent : Bool := false
deriving DecidableEq, Repr

/-- The echo canceller's state (09 R244): no taps listed are zero taps. -/
structure Canceller where
  taps : List Int := []
  doubleTalk : Nat := 0
  nlp : Nat := 0
deriving DecidableEq, Repr, Inhabited

/-- A receive leg (09 R236-R241) with what the channel keeps of its codec, its detectors and the event it sends. Issues are
numbered s × N + i. dec and enc name the states of the leg's decoder and encoder, 0 after a restart; lost counts the ms concealed in a
row; past is the newest 100 ms of the leg's input. -/
structure Leg where
  anchor : Option (Nat × Nat) := none
  delta : Int := 0
  held : Map HeldPkt := []
  margins : List (Instant × Int × Bool) := []
  lastMove : Option Instant := none
  ssrc : Option Nat := none
  cand : Option Cand := none
  failRun : Nat := 0
  lastRx : Option Instant := none
  lastSeq : Option Nat := none
  lastTs : Nat := 0
  silent : Bool := false
  reanchor : Option Nat := none
  rxPkts : Nat := 0
  conceal : Nat := 0
  late : Nat := 0
  farLost : Nat := 0
  farJitter : Nat := 0
  rtt : Nat := 0
  rtcpAt : Option Instant := none
  rtcp : RtcpRx := {}
  dec : Nat := 0
  enc : Nat := 0
  lost : Nat := 0
  sid : Bool := false
  past : List Int := []
  dtmf : DtmfRun := {}
  modem : ModemRun := {}
  evt : Option EvtOut := none
deriving DecidableEq, Repr

/-- The recording of a call (09 R251-R253); oq is the queue that its packets go to. -/
structure RecRun where
  blockSeq : Nat := 0
  issues : Nat := 0
  firstAt : Instant := 0
  conc0 : Nat := 0
  conc1 : Nat := 0
  ecDis : Bool := false
  dir0 : Bytes := []
  dir1 : Bytes := []
  buffer : List (Bool × Bytes) := []
  gap : Option (Nat × Nat × Instant) := none
  chain : Bytes := []
  sinceSeal : Nat := 0
  firstSeal : Nat := 0
  oq : Nat := 0xFF
deriving DecidableEq, Repr

/-- An open voice channel (09 R224-R258). issue is the last issue whose transmission the state holds (p_c of R258); events
wait for the next issue's step 9; opened is the issue at which it opened, and ended says that only its recording buffer is left;
low is how long both inputs have been below −36 dBm0, in ms; sinPast and sinModem watch Sin for the tone disabler; rec0 and rec1
name the states of the recording's encoders. -/
structure VchRun where
  par : VchParams
  next : Option (VchParams × Instant) := none
  openAt : Option Instant := none
  closeAt : Option Instant := none
  legF : Leg := {}
  legC : Leg := {}
  ecDisabled : Bool := false
  ecConverged : Bool := false
  erle : Nat := 0
  opened : Instant := 0
  ended : Bool := false
  ec : Canceller := {}
  low : Nat := 0
  sinPast : List Int := []
  sinModem : ModemRun := {}
  tones : Map ToneRun := []
  rec0 : Nat := 0
  rec1 : Nat := 0
  recd : RecRun := {}
  issue : Nat := 0
  events : List (Nat × Nat × Bytes) := []
deriving DecidableEq, Repr

/-- FLOW_SET's parameters (09 R227). -/
structure FlowDef where
  vch : Nat
  role : Nat
  port : Nat
  vlan : Nat
  localAddr : Nat
  remoteAddr : Nat
  localUdp : Nat
  remoteUdp : Nat
  ssrc : Nat
  profile : Nat
  locker : Nat
  dscp : Nat
  seq0 : Nat
  ts0 : Nat
  roc0 : Nat
deriving DecidableEq, Repr

/-- A flow's running state: the next sequence number, timestamp and rollover counter to send; the highest index received and
the replay window; resume = the first packet after a takeover is still to come (09 R258); the packets and octets sent, the SRTCP
index, and the SRTCP replay window (09 R229, R235). -/
structure FlowRun where
  def_ : FlowDef
  seq : Nat
  ts : Nat
  roc : Nat
  high : Option Nat := none
  window : List Nat := []
  keyLost : Bool := false
  marker : Bool := true
  resume : Bool := false
  packets : Nat := 0
  octets : Nat := 0
  rtcpIndex : Nat := 0
  rtcpHigh : Option Nat := none
  rtcpWindow : List Nat := []
deriving DecidableEq, Repr

/-! What the signal measurements of an issue give; their arithmetic is outside the spec. -/

/-- Two tones in 1 ms of a signal: their frequencies in 0.1 Hz and their powers in 0.1 dBm0. -/
structure DtmfPoint where
  low : Nat
  high : Nat
  lowPow : Int
  highPow : Int
deriving DecidableEq, Repr

/-- A frame's fax and modem tones: the frequency in 0.1 Hz of the tone that fills it, the phase reversals with their place in ms and
their angle in degrees, an amplitude modulation's frequency in 0.1 Hz and depth in 0.1 %, and the HDLC flags of the V.21 channel 2
preamble that end in it, with whether the preamble goes on. -/
structure ModemMeas where
  freq : Option Nat
  reversals : List (Nat × Nat)
  amHz : Nat
  amDepth : Nat
  flags : Nat
  preamble : Bool
deriving DecidableEq, Repr, Inhabited

/-- A call-progress tone's two frequencies in 10 ms of a signal: each one's power in 0.1 dBm0 and deviation in ‰. -/
structure TonePoint where
  pow1 : Int
  dev1 : Nat
  pow2 : Int
  dev2 : Nat
deriving DecidableEq, Repr

/-- What the canceller gives at an issue. -/
structure CancelOut where
  next : Canceller
  sout : List Int
  converged : Bool
  erle : Nat
deriving DecidableEq, Repr, Inhabited

/-! ## Chapter 10: capture -/

/-- A ring slot (10 R262): the sample set's index, values and qualities; marked = the missing marker stands. -/
structure RingSlot where
  n : Nat
  marked : Bool
  vals : List (Int × Nat)
deriving DecidableEq, Repr

/-- An accepted trigger (10 R271). -/
structure Trigger where
  src : Nat
  srcId : Nat
  t : Instant
  mark : Bytes
  flags : Nat
deriving DecidableEq, Repr

/-- An open class W record (10 R265): its trigger, the instant after any phase request, the instant of acceptance, and
whether it is closed and waits for its queue. -/
structure CapRec where
  trig : Trigger
  at_ : Instant
  acc : Instant
  recSeq : Nat
  starts : Map Nat
  deferred : Bool := false
deriving DecidableEq, Repr

/-- What a stream gave a kept instance: its quality and each channel's values (10 R268). -/
structure KeptStream where
  qual : Qual
  chans : Map (List Int)
deriving DecidableEq, Repr

/-- A kept instance of an open segment set (10 R267): for each stream its quality and channel values. -/
structure KeptInst where
  t : Instant
  streams : Map (Option KeptStream)
deriving DecidableEq, Repr

/-- A class W ring's stream: its rate, values per sample set and slots (10 R262). -/
structure CapStr where
  sid : Nat
  rate : Nat
  nch : Nat
  slots : Nat
deriving DecidableEq, Repr

/-- A packet that a standby holds (10 R289), and the hash chain before it. -/
structure HeldPacket where
  mark : Bool
  bytes : Bytes
  chain : Bytes
deriving DecidableEq, Repr

/-- The running state of a capture definition. -/
structure CapRun where
  def_ : CapDef
  strs : List CapStr := []
  armed : Bool := false
  rings : Map (List RingSlot) := []
  recs : List CapRec := []
  lastAt : Option Instant := none
  ignoreLeft : Nat := 0
  recSeq : Nat := 0
  pktSeq : Nat := 0
  chain : Bytes := []
  sealFirst : Nat := 0
  sealFrom : Nat := 0
  kept : List KeptInst := []
  shadow : List HeldPacket := []
  confirmed : Nat := 0
  waiting : List (Bool × Bytes) := []
deriving DecidableEq, Repr

/-! ## Chapter 11: queues -/

/-- A producer held by a full queue (11 R295, R296): its number, its packet's words, which are in progress and count against
the capacity, and whether it has resumed and only has to commit. -/
structure OqHeld where
  key : Nat
  words : Nat
  resumed : Bool
deriving DecidableEq, Repr

/-- A committed packet of a queue (11 R293). -/
structure QPkt where
  data : Bytes
  mark : Bool
deriving DecidableEq, Repr

/-- An output queue with its registers (02 R40, 11). -/
structure Oq where
  en : Bool := false
  notice : Bool := true
  dma : Bool := false
  flushing : Bool := false
  held : List OqHeld := []
  stale : Bool := false
  qtmo : Nat := 0
  ringLo : Nat := 0
  ringHi : Nat := 0
  ringSize : Nat := 4
  ringTail : Nat := 0
  ringHead : Nat := 0
  pkts : List QPkt := []
  begun : Nat := 0
  pseq : Nat := 0
  oldCap : Option Nat := none
  staleFrom : Option Instant := none
  staleFired : Bool := false
  peak : Nat := 0
  packets : Nat := 0
  notices : Nat := 0
  stalls : Nat := 0
  drops : Nat := 0
  oversizeSec : Option Nat := none
  flushWait : List Waiter := []
  disabling : Bool := false
deriving DecidableEq, Repr

/-- An entry of an injection ring as the host wrote it (11 R301, R307). -/
structure IqEntry where
  len : Nat
  flags : Nat
  queue : Nat
  pseq : Nat
  offset : Nat
  plen : Nat
  data : Bytes
deriving DecidableEq, Repr

/-- An injection queue with its registers (11 R306). -/
structure Iq where
  en : Bool := false
  notice : Bool := true
  dma : Bool := false
  qtmo : Nat := 0
  ringLo : Nat := 0
  ringHi : Nat := 0
  ringSize : Nat := 4
  ringTail : Nat := 0
  ringHead : Nat := 0
  entries : List IqEntry := []
  part : Option (Nat × Bytes) := none
  dropping : Bool := false
  pkts : List Bytes := []
  peak : Nat := 0
  packets : Nat := 0
  notices : Nat := 0
  drops : Nat := 0
  lastNotice : Option Instant := none
  oldCap : Option Nat := none
deriving DecidableEq, Repr

/-! ## Chapter 12: network -/

/-- PORT_CONFIG's parameters (12 R316). -/
structure PortCfg where
  flags : Nat := 0
  maxFrame : Nat := 1522
  mac : Nat := 0
  ptpVlan : Nat := 0
  pfcTx : Nat := 0
  pfcRx : Nat := 0
  xoff : List Nat := []
  xon : List Nat := []
  ringXoff : Nat := 0
  rx0Pause : Nat := 0
  rx1Pause : Nat := 0
  vlans : List Nat := []
  addrs : List (Nat × Nat × Nat) := []
deriving DecidableEq, Repr

/-- A descriptor of a transmit ring as the host wrote it (12 R321). -/
structure TxDesc where
  addr : Nat
  len : Nat
  flags : Nat
  cls : Nat
  tag : Nat
  data : Bytes
deriving DecidableEq, Repr

/-- A network ring (02 R40). -/
structure NetRing where
  lo : Nat := 0
  hi : Nat := 0
  size : Nat := 8
  tail : Nat := 0
  head : Nat := 0
  en : Bool := false
  descs : List TxDesc := []
deriving DecidableEq, Repr

/-- An egress timestamp (12 R328). -/
structure TsEntry where
  tag : Nat
  stamp : Instant
deriving DecidableEq, Repr

structure PrpSrc where
  last : Instant
  seqs : List (Nat × Instant)
deriving DecidableEq, Repr

/-- A network port (12). -/
structure Port where
  up : Bool := false
  phyFault : Bool := false
  linkDowns : Nat := 0
  cfg : PortCfg := {}
  rings : Map NetRing := []
  irq : BitVec 6 := 0
  tsq : List TsEntry := []
  popTag : Nat := 0
  popValid : Bool := false
  popSec : Nat := 0
  popFrac : Nat := 0
  ovfFirst : Nat := 0
  ovfLast : Nat := 0
  lost : Nat := 0
  ovf : Bool := false
  clsBuf : Map Nat := []
  pausing : Nat := 0
  paused : Map Instant := []
  neigh : Map Nat := []
  neighUse : List Nat := []
  counts : Map Nat := []
  prp : Map PrpSrc := []
  prpSeq : Nat := 0
  svcAnnounced : Nat := 0
deriving DecidableEq, Repr

/-- A wake table entry (12 R340, R341). -/
structure WakeEntry where
  ports : Nat
  pattern : Bytes
  mask : Bytes
deriving DecidableEq, Repr

/-! ## Chapter 13: Gatehouse -/

inductive LockerState where
  | empty
  | loaded
  | orphaned
deriving DecidableEq, Repr

/-- A key locker (13 R352); parent is as KEY_STATUS shows it. -/
structure Locker where
  state : LockerState := .empty
  key : Bytes := []
  type : Nat := 0
  usage : Nat := 0
  kid : Nat := 0
  keyId : Nat := 0
  depth : Nat := 0
  parent : Nat := 0xFF
  rootDom : Nat := 0
  rootGen : Nat := 0
deriving DecidableEq, Repr

structure Gatehouse where
  gen : Map Nat := []
  aonIntent : Option (Nat × Nat) := none
  journal : List (Nat × Nat) := []
  lockers : Map Locker := []
  pairBlob : Option Bytes := none
  idCert : Bytes := []
  idOk : Bool := true
  pairWait : Option (Waiter × Nat × Bytes) := none
  peerPair : Nat := 0
deriving DecidableEq, Repr

/-! ## Chapter 14: Castling -/

inductive Role where
  | solo
  | active
  | standby
  | stalemate
deriving DecidableEq, Repr

/-- A service address (14 R378). -/
structure SvcAddr where
  port : Nat
  prefix_ : Nat
  vlan : Nat
  addr : Nat
deriving DecidableEq, Repr

/-- CAS_CONFIG's stored parameters (14 R378). -/
structure CasConfig where
  opts : Nat := 0
  minScore : Nat := 128
  presPorts : Nat := 0
  hbTimeout : Nat := 2000
  presVlan : Nat := 0xFFFF
  presMac : Nat := 0x034E4C510001
  svc : List SvcAddr := []
  crc : Nat := 0
deriving DecidableEq, Repr

/-- A LINKBEAT (14 R380). listening and lane say that its unit is in its listening window and the lane it was
sent on; request asks for a full resynchronisation, and discard says that CAS_RESYNC does (14 R373, R379, R387; 08 R215). -/
structure Linkbeat where
  role : Role
  term : Nat
  health : Nat
  version : Nat
  cfgCrc : Nat
  peerId : Nat
  listening : Bool
  lane : Nat
  request : Bool
  discard : Bool
deriving DecidableEq, Repr

/-- A presence frame's payload (14 R377); tag is its TAG field. -/
structure Presence where
  magic : Nat
  role : Nat
  score : Nat
  term : Nat
  id : Nat
  frac : Nat
  sec : Nat
  tag : Bytes
deriving DecidableEq, Repr

/-- A digest entry (14 R384). -/
structure DigestEntry where
  tid : Nat
  inst : Instant
  res : BitVec 64
  state : BitVec 64
deriving DecidableEq, Repr

/-- A state home's content as a commit carries it (14 R384). -/
inductive Home where
  | det (i : Nat) (r : DetRun)
  | scheme (i : Nat) (r : SchRun)
  | voice (i : Nat) (r : VchRun) (flows : Map FlowRun)
  | filter (i : Nat) (r : FilterRun)
deriving DecidableEq, Repr

/-- A changed region line (14 R384). -/
inductive RegionLine where
  | inst (gid : Nat) (t : Instant) (st : InstState) (kind : Nat)
  | hold (gid cid : Nat) (v : Option ChanVal)
  | home (tid : Nat) (h : Home)
deriving DecidableEq, Repr

/-- The engine state of a commit (14 R384). -/
structure EngineState where
  triggers : List (Nat × Trigger)
  confirmed : Map Nat
  recConfirmed : Map Nat
  phases : Map PhaseReq
  wasOutReq : BitVec 16
  pubs : Map (Nat × Nat)
deriving DecidableEq, Repr

/-- A commit (14 R384). -/
structure Commit where
  cseq : Nat
  term : Nat
  slot : Instant
  bytes : Nat
  crcOk : Bool
  lines : List RegionLine
  engine : EngineState
  digests : List DigestEntry
deriving DecidableEq, Repr

/-- A task instance's outputs in the order written (14 R384): operand, queue packets, frames with the state of the flows,
and the WAS_OUT levels requested. -/
structure TaskOut where
  operand : Bytes
  packets : List (Nat × Bytes)
  frame : Bytes
  flows : Map FlowRun
  pins : BitVec 16
deriving DecidableEq, Repr

/-- What a commit on its way holds, kept until it is acknowledged: the regions whole, and the triggers and digests it
reports (14 R385). -/
structure SentCommit where
  lines : List RegionLine
  trigs : List (Nat × Trigger)
  digests : List DigestEntry
deriving DecidableEq, Repr

/-- A commit whose digest entries the standby has not all compared: its slot, its receipt, what is left, and whether an
item differed (14 R386, R387). -/
structure CommitWait where
  cseq : Nat
  slot : Instant
  at_ : Instant
  left : List DigestEntry
  bad : Bool
deriving DecidableEq, Repr

/-- The copy set, or a part of it (14 R388). -/
structure CopySet where
  active : Bool
  bank0 : Bank
  bank1 : Bank
  lines : List RegionLine
  exchange : Map SchemeImg
deriving DecidableEq, Repr

/-- The divergence record (14 R398). -/
structure Divergence where
  slot : Instant
  kind : Nat
  tid : Nat
  inst : Instant
  cseq : Nat
deriving DecidableEq, Repr

structure Castling where
  role : Role := .solo
  term : Nat := 0
  cfg : CasConfig := {}
  twinUp : Bool := false
  lanes : Nat := 0
  lastTwin : Instant := 0
  hbOk : Bool := false
  hbEdges : List Instant := []
  copyOk : Bool := false
  diverge : Bool := false
  score : Nat := 0
  divcnt : Nat := 0
  bistFail : Bool := false
  eyeWarn : Bool := false
  shadowOk : Bool := false
  shadowRun : Nat := 0
  slotCount : Nat := 0
  irq : BitVec 5 := 0
  peerRole : Option Role := none
  peerTerm : Nat := 0
  peerHealth : Nat := 0
  peerHealthAt : Option Instant := none
  peerId : Nat := 0
  peerVersion : Nat := 0
  peerCrc : Option Nat := none
  peerListening : Bool := false
  activeHeardAt : Option Instant := none
  presHeard : Option Instant := none
  absentSlots : Nat := 0
  lossAt : Option Instant := none
  lossElig : Bool := false
  decideFrom : Option Instant := none
  eligSlot : Bool := false
  takenAt : Option Instant := none
  listening : Option Instant := none
  cseq : Nat := 0
  nextCseq : Nat := 0
  unacked : List Nat := []
  trigs : List (Nat × Trigger) := []
  mirrorSlot : Instant := 0
  mirrorBits : Nat := 0
  stopped : Bool := false
  lastApplied : Option Instant := none
  commitPeak : Nat := 0
  sakN : Nat := 0
  copySnap : Option (Instant × List RegionLine × EngineState) := none
  resync : Bool := false
  resyncFrom : Instant := 0
  resyncRetry : Option Instant := none
  resyncDone : Bool := false
  resyncWait : List Waiter := []
  resyncReq : Bool := false
  resyncBuf : List CopySet := []
  divRec : Option Divergence := none
  divSec : Option Nat := none
  ownDigests : List (Instant × DigestEntry) := []
  base : List RegionLine := []
  sent : Map SentCommit := []
  waits : List CommitWait := []
  homeWaits : List (Home × Nat × List DigestEntry) := []
  laneAt : Map Instant := []
  yieldAt : Option Instant := none
  divSlot : Option Instant := none
  versionNoted : Bool := false
  switchAt : Option (Instant × Option Waiter) := none
  switchExchange : Bool := false
  promoteAt : Option Instant := none
  fwdWait : List (Nat × Packet × Instant) := []
  takeoverAt : Option Instant := none
  announceAt : List Instant := []
  warmAfter : Bool := false
deriving DecidableEq, Repr

/-! ## Chapter 15: real-time clock -/

/-- A set of T or W registers (15 R401). -/
structure RtcRegs where
  sub : Nat := 0
  r1 : Nat := 0
  r2 : Nat := 0
  hour : Nat := 0
  day : Nat := 0x01
  wday : Nat := 6
  month : Nat := 0x01
  year : Nat := 0x2000
deriving DecidableEq, Repr

/-- A port's shadows and freeze (15 R406). -/
structure RtcPort where
  sh : RtcRegs := {}
  shFlags : Nat := 0x4
  frozen : Option Instant := none
  w : RtcRegs := {}
deriving DecidableEq, Repr

structure Rtc where
  sec : Nat := 0
  sub : Nat := 0
  phase : Nat := 0
  curveTerm : Int := 0
  steer : Int := 0
  acc : Int := 0
  curve : List Int := []
  newCurve : Option (List Int) := none
  leaps : List Nat := []
  calendar : Bool := false
  stale : Bool := false
  locked : Bool := false
  lost : Bool := true
  rangeEnd : Bool := false
  impossible : Bool := false
  host : RtcPort := {}
  mgp : RtcPort := {}
  setWait : Option (Master × Nat × Nat) := none
  loadNext : Bool := false
  restarted : Bool := true
  unlockAt : Option Instant := none
deriving DecidableEq, Repr

/-! ## Chapter 16: recorder -/

/-- A recorder record (16 R418). -/
structure Record where
  sev : Nat
  cls : Nat
  seq : Nat
  cycles : Nat
  opTime : Nat
  code : Nat
  origin : Nat
  pflags : Nat
  subject : Nat
  arg0 : Nat
  arg1 : Nat
  utc : Nat
  detail : Bytes
  staged : Bool := true
deriving DecidableEq, Repr

/-- A port's cursor (16 R429). -/
structure RecCursor where
  copy : Option Record := none
  edge : Bool := false
  page : Nat := 0
  seek : Nat := 0
deriving DecidableEq, Repr

structure Recorder where
  live : List Record := []
  seq : Nat := 0
  cycles : Nat := 0
  opPhase : Nat := 0
  opTime : Nat := 0
  checkpoint : Nat := 0
  discards : Nat := 0
  owed : Bool := false
  owedN : Nat := 0
  owedFirst : Nat := 0
  owedLast : Nat := 0
  host : RecCursor := {}
  mgp : RecCursor := {}
  clearing : List (Nat × Nat × Origin) := []
  suspended : Bool := false
deriving DecidableEq, Repr

/-! ## Chapter 18: power and NOR -/

inductive PState where
  | off
  | aonOnly
  | boot
  | idle
  | run
  | dormant
deriving DecidableEq, Repr

/-- A powered-device interface (18 R441): class granted, delivering. -/
structure Pd where
  delivering : Bool := false
  alloc : Nat := 0
deriving DecidableEq, Repr

structure Power where
  ps : PState := .aonOnly
  vinOk : Bool := false
  mainUp : Bool := false
  vbatOk : Bool := false
  pwrFail : Bool := false
  pdA : Pd := {}
  pdB : Pd := {}
  aonAlert : BitVec 4 := 0
  aonAlertEn : BitVec 4 := 1
  fwImg : Option Nat := none
  recovery : Bool := false
  tripped : Bool := false
  bistFail : Bool := false
  bootKind : Nat := 0
  fellBack : Bool := false
  strapHold : Bool := false
  keptFuses : Bool := false
  fwFault : Bool := false
  fwFaultAt : Instant := 0
  warmAt : Bool := false
  mainOffWait : Option (Option Waiter) := none
  dormantWait : Option (Option Waiter) := none
  thermAt : Option Instant := none
  configAmbiguous : Bool := false
  startWait : Option (List Waiter) := none
  stopWait : Option (List Waiter) := none
  swapWait : Option (Instant × Waiter) := none
  firstRefusal : Map Nat := []
deriving DecidableEq, Repr

/-- A firmware image slot in NOR (18 R454). -/
structure FwImage where
  ver : Nat
  commit : Nat
  valid : Bool
  image : Bytes
deriving DecidableEq, Repr

/-- A configuration image in NOR (18 R456). -/
structure CfgImage where
  bank : Bank
  commit : Nat
  consts : Map (List Nat)
deriving DecidableEq, Repr

structure Nor where
  fwA : Option FwImage := none
  fwB : Option FwImage := none
  attemptsA : Nat := 0
  attemptsB : Nat := 0
  cfgA : Option CfgImage := none
  cfgB : Option CfgImage := none
  curve : Option (List Int) := none
  factory : List Int := []
  leaps : Option (List Nat) := none
deriving DecidableEq, Repr

/-! ## Frames that a port receives -/

/-- A PRP redundancy control trailer: source MAC, sequence number, whether it came on the pair's second port, and whether
its LAN identifier matches the port (12 R330). -/
structure Rct where
  mac : Nat
  seq : Nat
  lan : Nat
deriving DecidableEq, Repr

/-- A UDP frame that a port received (04 R83); len is the frame's length on the wire, pcp its tag's class, held what the buffer of
its class holds when it arrives (12 R318, R325). -/
structure UdpFrame where
  port : Nat
  rct : Option Rct
  len : Nat
  dst : Nat
  src : Nat
  srcUdp : Nat
  dstUdp : Nat
  vlan : Option Nat
  pcp : Nat
  held : Nat
  bytes : Bytes
  stamp : Instant
deriving DecidableEq, Repr

/-- What an SPDU's signature says: the key identity it names and whether it verifies under that key (04 R84). -/
structure SpduSig where
  kid : Nat
  ok : Bool
deriving DecidableEq, Repr

/-- An ASDU of a sampled-value frame (04 R87, R93, R94). -/
structure Asdu where
  smpCnt : Nat
  confRev : Nat
  smpSynch : Nat
  vals : List (Int × Nat)
deriving DecidableEq, Repr

/-- A sampled-value frame, on layer 2 or in a 90-5 session (04 R83). -/
structure SvFrame where
  port : Nat
  rct : Option Rct
  dst : Nat
  l2 : Bool
  dstMac : Nat
  src : Nat
  vlan : Option Nat
  pcp : Nat
  held : Nat
  dstUdp : Nat
  appid : Nat
  ident : Nat
  sig : Option SpduSig
  wellFormed : Bool
  sim : Bool
  len : Nat
  asdus : List Asdu
  stamp : Instant
deriving DecidableEq, Repr

/-- An R-GOOSE publication (04 R83, R88). -/
structure GooseFrame where
  port : Nat
  rct : Option Rct
  dst : Nat
  src : Nat
  vlan : Option Nat
  pcp : Nat
  held : Nat
  dstUdp : Nat
  appid : Nat
  ident : Nat
  sig : Option SpduSig
  wellFormed : Bool
  sim : Bool
  test : Bool
  tUnc : Bool
  len : Nat
  confRev : Nat
  stNum : Nat
  sqNum : Nat
  ttlMs : Nat
  members : List Nat
  stamp : Instant
deriving DecidableEq, Repr

/-- A C37.118 configuration (kinds 1, 2, 3: CFG-1, CFG-2, CFG-3), header (0) or command (4) frame (04 R100). -/
structure CfgFrame where
  port : Nat
  pcp : Nat
  rct : Option Rct
  dst : Nat
  src : Nat
  dstUdp : Nat
  vlan : Option Nat
  held : Nat
  kind : Nat
  len : Nat
  frameSize : Nat
  chkOk : Bool
  readable : Bool
  idcode : Nat
  blocks : List PmuBlock
  timeBase : Nat
  dataRate : Nat
  stamp : Instant
deriving DecidableEq, Repr

/-- An item that the active unit mirrors (14 R381). -/
inductive MirrorItem where
  | udp (f : UdpFrame)
  | sv (f : SvFrame)
  | goose (f : GooseFrame)
  | cfg (f : CfgFrame)
  | record (sid : Nat) (stamp : Instant) (frame : Bytes)
  | voice (f : UdpFrame)
  | rtcp (f : UdpFrame)
deriving DecidableEq, Repr

/-! ## What the block puts on its interfaces (the model's own log) -/

/-- One word of a block of an output data frame, with its width in bytes (12 R334). -/
structure OutField where
  width : Nat
  bits : Nat
deriving DecidableEq, Repr

/-- A C37.118 output data frame (12 R334, R335). -/
structure OutFrame where
  out : Nat
  idcode : Nat
  soc : Nat
  fracsec : Nat
  tq : Nat
  blocks : List (Nat × List OutField)
deriving DecidableEq, Repr

/-- An R-GOOSE message (12 R337): what the publication's definition gives it, its numbers, its members, and the key ID and TYPE of
the locker that signs it. -/
structure GooseOut where
  pub : Nat
  appid : Nat
  confRev : Nat
  goid : Nat
  gocbref : Nat
  datset : Nat
  stNum : Nat
  sqNum : Nat
  spdu : Nat
  ttl : Nat
  members : List Nat
  auth : Option (Nat × Nat)
deriving DecidableEq, Repr

/-- The headers of an IP frame that the block originates (12 R322, R324, R331): tag is its (PCP, VID), and prp its trailer's
sequence number and LAN identifier. -/
structure IpPath where
  port : Nat
  srcMac : Nat
  dstMac : Nat
  tag : Option (Nat × Nat)
  dscp : Nat
  src : Nat
  srcUdp : Nat
  dst : Nat
  dstUdp : Nat
  prp : Option (Nat × Nat)
deriving DecidableEq, Repr

/-- A receive descriptor as the MAC fills it in (12 R319); its CLASS, TCI, SID and stamp are the frame's. -/
structure RxDesc where
  len : Nat
  flags : Nat
  cls : Nat
  tci : Nat
  sid : Nat
  frac : Nat
  sec : Nat
deriving DecidableEq, Repr

/-- An output stream's running state (12 R334, 03 R71): the frames built and not yet sent, by instance with the instant each
was complete, and the instances whose PUBLISH instant passed before their frame was complete. -/
structure OutRun where
  built : List (Instant × Instant × OutFrame) := []
  owed : List Instant := []
deriving DecidableEq, Repr

/-- An RTP packet sent (09 R233); body is its payload as sent, protected and with its tag. -/
structure RtpOut where
  flow : Nat
  pt : Nat
  marker : Bool
  seq : Nat
  ts : Nat
  ssrc : Nat
  index : Nat
  body : Bytes
deriving DecidableEq, Repr

/-- What an IP frame of the block's own carries. -/
inductive IpMsg where
  | dataFrame (out : Nat) (bytes : Bytes)
  | goose (g : GooseOut)
  | datagram (payload : Bytes)
  | c37Command (idcode cmd : Nat)
  | rtp (p : RtpOut)
  | rtcp (flow : Nat) (body : Bytes)
deriving DecidableEq, Repr

inductive Emission where
  | reply (slot : Option Nat) (r : Reply)
  | vector (n : Nat)
  | trace (bytes : Bytes)
  | popped (q : Nat) (word : Nat)
  | readData (m : Master) (words : List Nat)
  | mgpResp (frame : Bytes)
  | dma (q : Nat) (entry : Nat) (hdr : Bytes) (data : Bytes)
  | rxRing (port ring entry : Nat) (descs : List RxDesc)
  | txDone (port ring entry count : Nat)
  | hostFrame (port : Nat) (data : Bytes) (prp : Option (Nat × Nat)) (stamp : Instant)
  | ip (path : IpPath) (m : IpMsg)
  | ptp (port : Nat) (kind : Nat) (seq : Nat)
  | pfc (port cls : Nat) (quanta : Nat)
  | prpSupervision (port : Nat) (mac : Nat)
  | presence (port mac vlan : Nat) (p : Presence)
  | announce (port vlan : Nat) (addr : Nat) (ip6 : Bool)
  | linkbeat (lane : Nat) (b : Linkbeat)
  | mirror (port : Nat) (stamp : Instant) (item : MirrorItem)
  | forward (opcode : Nat) (p : Packet) (effect : Instant)
  | commit (c : Commit)
  | ack (cseq health : Nat)
  | fault (term cause : Nat)
  | resyncStart (n : Nat)
  | resyncData (d : CopySet)
  | resyncEnd (digest : Nat)
  | pairing (cert q nonce sig : Bytes)
  | tod (utc : Nat) (leap60 : Bool)
  | pin (name : Nat) (level : Bool) (at_ : Instant)
  | scan (ir value : Nat)
deriving DecidableEq, Repr

/-- One of the block's own frames at a port: its class, length, egress-stamp tag and what leaves (12 R322, R328). -/
structure TxHeld where
  cls : Nat
  len : Nat
  tag : Option Nat
  e : Emission
deriving DecidableEq, Repr

/-! ## What the events bring from outside -/

/-- A two-step Pdelay_Resp (0), its Follow_Up (1) or a one-step Pdelay_Resp (2) (03 R48). -/
structure PdelayResp where
  kind : Nat
  domain : Nat
  seq : Nat
  peerNs : Nat
  corrNs : Int
deriving DecidableEq, Repr

/-- What a scheme's code does, in order (08 R195, R200): it writes a variable, or calls a function block with its two BOOL
inputs (IN; CU and R; CD and LD; CLK) and its PT or PV. The code's own language is outside the spec. -/
inductive SchOp where
  | write (id value : Nat)
  | call (fb : Nat) (a b : Bool) (p : Int)
deriving DecidableEq, Repr

/-- What a task's own computation brings from outside the spec: what a scheme's error task and logic do. -/
inductive TaskWork where
  | plain
  | scheme (err ops : List SchOp)
deriving DecidableEq, Repr

/-- What a frame is to the MAC (12 R318): a PTP message, an IEEE 802.3 MAC control frame other than PFC, a frame of receive
ring 1, a C37.118 command frame, or any other. -/
inductive EthKind where
  | ptp
  | macControl
  | ring1
  | c37Command (dst udp idcode : Nat)
  | other
deriving DecidableEq, Repr

/-- A frame that a port received, as the MAC sees it (12 R318). vlan is the tag's VID (none untagged, some 0 priority-tagged);
held is what its class buffer holds when it arrives; neigh is the sender address of an ARP or neighbour message. -/
structure EthFrame where
  port : Nat
  fcsOk : Bool
  len : Nat
  dstMac : Nat
  vlan : Option Nat
  pcp : Nat
  kind : EthKind
  dst : Nat
  rct : Option Rct
  held : Nat
  neigh : Option (Nat × Nat)
  stamp : Instant
deriving DecidableEq, Repr

structure BootStraps where
  hold : Bool
deriving DecidableEq, Repr

/-- How the boot went: the memory trained, and the identity certificate's key is the one that the unit derives (18 R453; 13 R345). -/
structure BootResult where
  trainOk : Bool
  certOk : Bool
deriving DecidableEq, Repr

end Sys2Proof
end

