-- ==== Sys2Proof/Syntax.lean ====
section
/-! DEFINITION. The commands and events the block takes: one constructor for each row of the table of operations and
events, in its order. A command packet's row takes the packet; an event's row takes what the event brings from outside. -/

namespace Sys2Proof

/-- The rows of the table of operations and events (02 R37 and the rules of each). -/
inductive Instr where
  /-- GET_INFO (R38). -/
  | getInfo (pk : Packet)
  /-- GET_STATE (R39). -/
  | getState (pk : Packet)
  /-- START (R158). -/
  | start (pk : Packet)
  /-- STOP (R158). -/
  | stop (pk : Packet)
  /-- WARM_RESET (R451). -/
  | warmReset (pk : Packet)
  /-- POWER_CTRL (R447). -/
  | powerCtrl (pk : Packet)
  /-- FW_LOAD (R35). -/
  | fwLoad (pk : Packet)
  /-- FW_COMMIT (R396). -/
  | fwCommit (pk : Packet)
  /-- CFG_SAVE (R396). -/
  | cfgSave (pk : Packet)
  /-- STREAM_DEFINE (R81). -/
  | streamDefine (pk : Packet)
  /-- STREAM_DELETE (R480). -/
  | streamDelete (pk : Packet)
  /-- CHANNEL_DEFINE (R95). -/
  | channelDefine (pk : Packet)
  /-- GROUP_DEFINE (R133). -/
  | groupDefine (pk : Packet)
  /-- TEMPLATE_DEFINE (R145). -/
  | templateDefine (pk : Packet)
  /-- STREAM_STATUS (R480). -/
  | streamStatus (pk : Packet)
  /-- SCHED_LOAD (R73). -/
  | schedLoad (pk : Packet)
  /-- SCHED_SWAP (R75). -/
  | schedSwap (pk : Packet)
  /-- SCHED_STATUS (R77). -/
  | schedStatus (pk : Packet)
  /-- DET_DEFINE (R163). -/
  | detDefine (pk : Packet)
  /-- DET_STATUS (R187). -/
  | detStatus (pk : Packet)
  /-- DET_ACK (R168). -/
  | detAck (pk : Packet)
  /-- PROG_LOAD (R214). -/
  | progLoad (pk : Packet)
  /-- PROG_START (R206). -/
  | progStart (pk : Packet)
  /-- PROG_STOP (R207). -/
  | progStop (pk : Packet)
  /-- PROG_SET_VALUES (R209). -/
  | progSetValues (pk : Packet)
  /-- PROG_FORCE (R211). -/
  | progForce (pk : Packet)
  /-- PROG_READ (R213). -/
  | progRead (pk : Packet)
  /-- VCH_OPEN (R224). -/
  | vchOpen (pk : Packet)
  /-- VCH_MODIFY (R225). -/
  | vchModify (pk : Packet)
  /-- VCH_CLOSE (R226). -/
  | vchClose (pk : Packet)
  /-- FLOW_SET (R227). -/
  | flowSet (pk : Packet)
  /-- VCH_STATUS (R254). -/
  | vchStatus (pk : Packet)
  /-- CAP_DEFINE (R259). -/
  | capDefine (pk : Packet)
  /-- CAP_ARM (R261). -/
  | capArm (pk : Packet)
  /-- CAP_TRIGGER (R271). -/
  | capTrigger (pk : Packet)
  /-- OQ_FLUSH (R305). -/
  | oqFlush (pk : Packet)
  /-- QUEUE_STATUS (R310). -/
  | queueStatus (pk : Packet)
  /-- KEY_LOAD (R358). -/
  | keyLoad (pk : Packet)
  /-- KEY_CLEAR (R361). -/
  | keyClear (pk : Packet)
  /-- KEY_GENERATE (R359). -/
  | keyGenerate (pk : Packet)
  /-- KEY_REWRAP (R360). -/
  | keyRewrap (pk : Packet)
  /-- DOMAIN_INVALIDATE (R364). -/
  | domainInvalidate (pk : Packet)
  /-- KEY_STATUS (R363). -/
  | keyStatus (pk : Packet)
  /-- ID_CERT (R345). -/
  | idCert (pk : Packet)
  /-- TIME_CONFIG (R78). -/
  | timeConfig (pk : Packet)
  /-- TIME_SET (R56). -/
  | timeSet (pk : Packet)
  /-- LEAP_SET (R57). -/
  | leapSet (pk : Packet)
  /-- TIME_STATUS (R79). -/
  | timeStatus (pk : Packet)
  /-- RTC_CURVE_LOAD (R413). -/
  | rtcCurveLoad (pk : Packet)
  /-- RTC_LEAP_TABLE (R403). -/
  | rtcLeapTable (pk : Packet)
  /-- CAS_CONFIG (R378). -/
  | casConfig (pk : Packet)
  /-- CAS_PAIR (R366). -/
  | casPair (pk : Packet)
  /-- CAS_SWITCHOVER (R393). -/
  | casSwitchover (pk : Packet)
  /-- CAS_RESYNC (R388). -/
  | casResync (pk : Packet)
  /-- CAS_STATUS (R398). -/
  | casStatus (pk : Packet)
  /-- REC_EXPORT (R433). -/
  | recExport (pk : Packet)
  /-- REC_NOTE (R432). -/
  | recNote (pk : Packet)
  /-- PRC_DECODE (R285). -/
  | prcDecode (pk : Packet)
  /-- PRC_ENCODE (R285). -/
  | prcEncode (pk : Packet)
  /-- PORT_CONFIG (R316). -/
  | portConfig (pk : Packet)
  /-- OUT_DEFINE (R332). -/
  | outDefine (pk : Packet)
  /-- WAKE_SET (R341). -/
  | wakeSet (pk : Packet)
  /-- PORT_STATUS (R342). -/
  | portStatus (pk : Packet)
  /-- CHUNK_LOAD_TIMEOUT (R35). -/
  | chunkLoadTimeout (origin : Origin) (opcode : Nat) (target : Nat)
  /-- CMDQ_DOORBELL (R27). -/
  | cmdqDoorbell (value : Nat) (unknown : List UnknownCmd)
  /-- RPLQ_HEAD_WRITE (R28). -/
  | rplqHeadWrite (value : Nat)
  /-- CMDQ_CTRL_EN_SET (R40). -/
  | cmdqCtrlEnSet (reply : Bool)
  /-- CMDQ_CTRL_EN_CLEAR (R40). -/
  | cmdqCtrlEnClear (reply : Bool)
  /-- TB_SNAP_CAPTURE (R40). -/
  | tbSnapCapture
  /-- OQ_CTRL_EN_SET (R299). -/
  | oqCtrlEnSet (q : Fin 64) (value : Word32)
  /-- OQ_CTRL_EN_CLEAR (R299). -/
  | oqCtrlEnClear (q : Fin 64) (value : Word32)
  /-- OQ_CTRL_FLUSH (R305). -/
  | oqCtrlFlush (q : Fin 64) (value : Word32)
  /-- OQ_RING_HEAD_WRITE (R302). -/
  | oqRingHeadWrite (q : Fin 64) (value : Nat)
  /-- QPOP_READ (R300). -/
  | qpopRead (q : Fin 64) (wide : Bool)
  /-- IQ_CTRL_EN_SET (R306). -/
  | iqCtrlEnSet (m : Fin 16) (value : Word32)
  /-- IQ_CTRL_FLUSH (R306). -/
  | iqCtrlFlush (m : Fin 16) (value : Word32)
  /-- IQ_RING_TAIL_DOORBELL (R307). -/
  | iqRingTailDoorbell (m : Fin 16) (value : Nat) (entries : List IqEntry)
  /-- NET_RING_TAIL_WRITE (R319). -/
  | netRingTailWrite (p : Fin 6) (ring : Fin 4) (value : Nat) (descs : List TxDesc)
  /-- NET_TSQ_POP_READ (R328). -/
  | netTsqPopRead (p : Fin 6)
  /-- NET_TSQ_OVF_CLEAR (R329). -/
  | netTsqOvfClear (p : Fin 6)
  /-- CNT_LOW_WORD_READ (R40). -/
  | cntLowWordRead (m : Master) (n : CntRead)
  /-- RTC_T_READ_FREEZE (R406). -/
  | rtcTReadFreeze (m : Master) (i : Fin 8)
  /-- RTC_T7_READ_RELEASE (R406). -/
  | rtcT7ReadRelease (m : Master)
  /-- RTC_CMD_SET (R408). -/
  | rtcCmdSet (m : Master)
  /-- RTC_CMD_TOBIN (R401). -/
  | rtcCmdTobin (m : Master)
  /-- RTC_CMD_TOCAL (R401). -/
  | rtcCmdTocal (m : Master)
  /-- REC_CMD_NEXT (R429). -/
  | recCmdNext (m : Master)
  /-- REC_CMD_PREV (R429). -/
  | recCmdPrev (m : Master)
  /-- REC_CMD_OLDEST (R429). -/
  | recCmdOldest (m : Master)
  /-- REC_CMD_NEWEST (R429). -/
  | recCmdNewest (m : Master)
  /-- REC_CMD_SEEK_SEQ (R429). -/
  | recCmdSeekSeq (m : Master)
  /-- REC_CLEAR (R431). -/
  | recClear (m : Master) (value : Word32)
  /-- REC_CLEAR_COMPLETE (R431). -/
  | recClearComplete
  /-- AON_PWR_MAIN_ON (R447). -/
  | aonPwrMainOn
  /-- AON_PWR_MAIN_OFF (R447). -/
  | aonPwrMainOff
  /-- AON_PWR_DORMANT (R458). -/
  | aonPwrDormant
  /-- AON_RESET_COLD (R451). -/
  | aonResetCold
  /-- AON_RESET_WARM (R451). -/
  | aonResetWarm
  /-- REGISTER_WRITE (R40). -/
  | registerWrite (m : Master) (addr : Nat) (value : Word32)
  /-- MGP_READ32 (R43). -/
  | mgpRead32 (addr : MgpHead) (crc : Nat)
  /-- MGP_WRITE32 (R43). -/
  | mgpWrite32 (addr : Nat) (value : Word32) (crc : Nat)
  /-- MGP_READ_BURST (R43). -/
  | mgpReadBurst (addr : Nat) (count : Nat) (crc : Nat)
  /-- MGP_CMD_PUSH (R44). -/
  | mgpCmdPush (addr : Nat) (count : Nat) (words : List Word32) (crc : Nat)
  /-- MGP_CMD_POP (R44). -/
  | mgpCmdPop (addr : Nat) (count : Nat) (crc : Nat)
  /-- SECOND_BOUNDARY (R61). -/
  | secondBoundary
  /-- SLOT_BOUNDARY (R61). -/
  | slotBoundary (memTestOk : Bool)
  /-- RUN_BEGIN (R158). -/
  | runBegin
  /-- RUN_END (R158). -/
  | runEnd
  /-- BANK_SWAP (R76). -/
  | bankSwap
  /-- PROG_STOP_EFFECT (R207). -/
  | progStopEffect (scheme : Nat)
  /-- PTP_SYNC_RECEIVED (R48). -/
  | ptpSyncReceived (p : Fin 6) (msg : PtpSync) (stamp : Instant)
  /-- PTP_ANNOUNCE_RECEIVED (R48). -/
  | ptpAnnounceReceived (p : Fin 6) (msg : Announce) (stamp : Instant)
  /-- PTP_PDELAY_REQ_RECEIVED (R48). -/
  | ptpPdelayReqReceived (p : Fin 6) (seq : Nat) (domain : Nat) (stamp : Instant)
  /-- PTP_PDELAY_RESP_RECEIVED (R48). -/
  | ptpPdelayRespReceived (p : Fin 6) (msg : PdelayResp) (stamp : Instant)
  /-- PTP_PDELAY_REQ_SEND (R48). -/
  | ptpPdelayReqSend (p : Fin 6)
  /-- ANNOUNCE_RECEIPT_TIMEOUT (R48). -/
  | announceReceiptTimeout (p : Fin 6)
  /-- PPS_IN_EDGE (R49). -/
  | ppsInEdge (stamp : Instant)
  /-- ZDA_SENTENCE (R49). -/
  | zdaSentence (ok : Bool) (utc : Nat)
  /-- REF10M_LOST (R50). -/
  | ref10mLost
  /-- REF10M_RESTORED (R50). -/
  | ref10mRestored
  /-- TB_LOCKED (R52). -/
  | tbLocked
  /-- TB_HOLDOVER_ENTRY (R52). -/
  | tbHoldoverEntry
  /-- STEP_IN_RUN_RESTART (R54). -/
  | stepInRunRestart
  /-- LEAP_SET_EFFECT (R57). -/
  | leapSetEffect
  /-- LEAP_APPLIED (R57). -/
  | leapApplied
  /-- PHASE_TARGET_FIX (R65). -/
  | phaseTargetFix (id : Nat)
  /-- PHASE_ACTION_TAKEN (R65). -/
  | phaseActionTaken (id : Nat)
  /-- DEADLINE_ISSUE (R69). -/
  | deadlineIssue (entry : Nat) (i : Nat)
  /-- DEADLINE_EVALUATION (R14). -/
  | deadlineEvaluation (gid : Nat) (t : Instant)
  /-- RELEASE_ISSUE (R119). -/
  | releaseIssue (entry : Nat) (i : Nat)
  /-- PLAYOUT_ISSUE (R220). -/
  | playoutIssue (entry : Nat) (i : Nat)
  /-- CYCLE_ISSUE (R194). -/
  | cycleIssue (entry : Nat) (i : Nat)
  /-- COPY_ISSUE (R384). -/
  | copyIssue (entry : Nat) (i : Nat)
  /-- TICK_ISSUE (R271). -/
  | tickIssue (entry : Nat) (i : Nat)
  /-- PUBLISH_ISSUE (R71). -/
  | publishIssue (entry : Nat) (i : Nat)
  /-- C37118_FRAME_RECEIVED (R84). -/
  | c37118FrameReceived (f : UdpFrame)
  /-- INJECTION_RECORD_TAKEN (R102). -/
  | injectionRecordTaken (m : Fin 16)
  /-- SV_FRAME_RECEIVED (R87). -/
  | svFrameReceived (f : SvFrame)
  /-- GOOSE_R_PUBLICATION_RECEIVED (R88). -/
  | gooseRPublicationReceived (f : GooseFrame)
  /-- GOOSE_OPERAND_INSTANT (R88). -/
  | gooseOperandInstant (sid : Nat) (t : Instant)
  /-- CFG_FRAME_RECEIVED (R100). -/
  | cfgFrameReceived (f : CfgFrame)
  /-- STREAM_MISSING_LIMIT (R103). -/
  | streamMissingLimit (sid : Nat) (t : Instant)
  /-- READY_HELD_RETRY (R155). -/
  | readyHeldRetry
  /-- HOLD_LIMIT_EXPIRY (R155). -/
  | holdLimitExpiry (serial : Nat)
  /-- TASK_DISPATCH (R150). -/
  | taskDispatch
  /-- TASK_START (R151). -/
  | taskStart (core : Fin 64)
  /-- TASK_COMPLETE (R154). -/
  | taskComplete (core : Fin 64) (work : TaskWork)
  /-- WCET_BUDGET_REACHED (R153). -/
  | wcetBudgetReached (core : Fin 64)
  /-- TASK_ABORT (R153). -/
  | taskAbort (core : Fin 64)
  /-- SCHEME_RUNTIME_FAULT (R196). -/
  | schemeRuntimeFault (core : Fin 64)
  /-- R_GOOSE_RETRANSMIT (R337). -/
  | rGooseRetransmit (pub : Nat)
  /-- VOICE_PACKET_RECEIVED (R231). -/
  | voicePacketReceived (pkt : UdpFrame)
  /-- RTCP_PACKET_RECEIVED (R235). -/
  | rtcpPacketReceived (pkt : UdpFrame)
  /-- RTCP_SEND (R235). -/
  | rtcpSend (vch : Nat) (leg : Bool)
  /-- LEG_SILENT (R241). -/
  | legSilent (vch : Nat) (leg : Bool)
  /-- REC_BLOCK_TRANSFER (R253). -/
  | recBlockTransfer (vch : Nat)
  /-- CAP_RING_MARKER (R262). -/
  | capRingMarker (sid : Nat) (u : Nat)
  /-- CAP_RECORD_CLOSE (R263). -/
  | capRecordClose (cap : Nat)
  /-- CLASS_P_SEAL (R276). -/
  | classPSeal (cap : Nat)
  /-- OQ_STALL_RESUME (R296). -/
  | oqStallResume (q : Fin 64)
  /-- DMA_ENTRY_WRITE (R302). -/
  | dmaEntryWrite
  /-- OQ_STALE_TIMER (R304). -/
  | oqStaleTimer (q : Fin 64)
  /-- OQ_FLUSH_DONE (R305). -/
  | oqFlushDone (q : Fin 64)
  /-- IQ_PULL (R308). -/
  | iqPull (m : Fin 16)
  /-- RX_FRAME_RECEIVED (R318). -/
  | rxFrameReceived (f : EthFrame)
  /-- PRP_SOURCE_FORGET (R330). -/
  | prpSourceForget (p : Fin 6) (mac : Nat)
  /-- PRP_SUPERVISION_SEND (R331). -/
  | prpSupervisionSend (p : Fin 6)
  /-- PFC_FRAME_RECEIVED (R327). -/
  | pfcFrameReceived (p : Fin 6) (classes : List (Nat×Nat)) (stamp : Instant)
  /-- PFC_PAUSE_EXPIRY (R327). -/
  | pfcPauseExpiry (p : Fin 6) (cls : Fin 8)
  /-- PFC_XOFF_REPEAT (R325). -/
  | pfcXoffRepeat (p : Fin 6) (cls : Fin 8)
  /-- PFC_XON_SEND (R325). -/
  | pfcXonSend (p : Fin 6) (cls : Fin 8)
  /-- HOST_TX_FRAME (R321). -/
  | hostTxFrame (p : Fin 6) (ring : Bool)
  /-- LINK_CHANGE (R315). -/
  | linkChange (p : Fin 6) (up : Bool) (phyFault : Bool)
  /-- WAKE_FRAME (R340). -/
  | wakeFrame (p : Fin 6) (bytes : Bytes)
  /-- WAS_IN_EDGE_ACCEPTED (R473). -/
  | wasInEdgeAccepted (pin : Fin 16) (level : Bool) (stamp : Instant)
  /-- HB_IN_EDGE (R376). -/
  | hbInEdge (stamp : Instant)
  /-- HB_TIMEOUT (R376). -/
  | hbTimeout
  /-- LISTEN_WINDOW_END (R373). -/
  | listenWindowEnd (peerPref : Bool)
  /-- LINKBEAT_SEND (R379). -/
  | linkbeatSend
  /-- LINKBEAT_RECEIVED (R374). -/
  | linkbeatReceived (b : Linkbeat) (authOk : Bool)
  /-- TWIN_LINK_TIMEOUT (R379). -/
  | twinLinkTimeout
  /-- TWIN_LOSS_DECISION (R395). -/
  | twinLossDecision
  /-- PRESENCE_FRAME_SEND (R377). -/
  | presenceFrameSend (p : Fin 6)
  /-- PRESENCE_FRAME_RECEIVED (R377). -/
  | presenceFrameReceived (p : Fin 6) (f : Presence)
  /-- PARTNER_OUTPUTS_ABSENT (R391). -/
  | partnerOutputsAbsent
  /-- MIRROR_RECEIVED (R381). -/
  | mirrorReceived (item : MirrorItem) (authOk : Bool)
  /-- TWIN_CMD_RECEIVED (R382). -/
  | twinCmdReceived (opcode : Nat) (pk : Packet) (effect : Instant) (authOk : Bool)
  /-- COMMIT_RECEIVED (R385). -/
  | commitReceived (c : Commit) (authOk : Bool)
  /-- ACK_RECEIVED (R385). -/
  | ackReceived (cseq : Nat) (health : Nat)
  /-- STANDBY_COMMIT_LOSS (R385). -/
  | standbyCommitLoss
  /-- RESYNC_START_RECEIVED (R388). -/
  | resyncStartReceived (n : Nat)
  /-- RESYNC_DATA_RECEIVED (R388). -/
  | resyncDataReceived (d : CopySet)
  /-- RESYNC_END_RECEIVED (R388). -/
  | resyncEndReceived (digest : Nat)
  /-- RESYNC_TIMEOUT (R388). -/
  | resyncTimeout
  /-- RESYNC_RETRY (R388). -/
  | resyncRetry
  /-- FAULT_DECLARE (R392). -/
  | faultDeclare (cause : Nat)
  /-- FAULT_RECEIVED (R391). -/
  | faultReceived (term : Nat) (cause : Nat)
  /-- TAKEOVER (R394). -/
  | takeover
  /-- ADDRESS_ANNOUNCE_REPEAT (R394). -/
  | addressAnnounceRepeat
  /-- SWITCHOVER_HANDOVER (R393). -/
  | switchoverHandover
  /-- PROMOTE_EFFECT (R378). -/
  | promoteEffect
  /-- PAIRING_FRAME_RECEIVED (R366). -/
  | pairingFrameReceived (certOk : Bool) (sigOk : Bool) (peerId : Nat) (nonce : Bytes) (q : Nat)
  /-- EYE_MEASURE (R389). -/
  | eyeMeasure (low : Bool)
  /-- CONTROL_FW_FAULT (R16). -/
  | controlFwFault
  /-- RTC_FREEZE_TIMEOUT (R406). -/
  | rtcFreezeTimeout (m : Master)
  /-- RTC_SET_COMMIT (R408). -/
  | rtcSetCommit
  /-- RTC_SENSOR_READING (R412). -/
  | rtcSensorReading (temp : Int)
  /-- RTC_END_OF_RANGE (R411). -/
  | rtcEndOfRange
  /-- RTC_LOCK_RELEASE (R416). -/
  | rtcLockRelease
  /-- VRTC_LOW (R417). -/
  | vrtcLow
  /-- REC_NOR_PROGRAM (R425). -/
  | recNorProgram
  /-- OP_TIME_CHECKPOINT (R424). -/
  | opTimeCheckpoint
  /-- TRACE_QLEVEL (R435). -/
  | traceQlevel
  /-- VIN_GOOD (R445). -/
  | vinGood (straps : BootStraps)
  /-- BOOT_COMPLETE (R453). -/
  | bootComplete (res : BootResult)
  /-- BOOT_WATCHDOG (R454). -/
  | bootWatchdog
  /-- EARLY_WARNING (R449). -/
  | earlyWarning (pin : Bool)
  /-- WARNING_PASSED (R450). -/
  | warningPassed
  /-- VIN_BELOW_9V (R445). -/
  | vinBelow9v
  /-- VIN_BELOW_7V (R445). -/
  | vinBelow7v
  /-- PD_POWER_CHANGE (R443). -/
  | pdPowerChange (pdB : Bool) (on : Bool)
  /-- PD_CLASSIFICATION (R441). -/
  | pdClassification (pdB : Bool) (cls : Nat)
  /-- THERM_ASSERT (R448). -/
  | thermAssert (temp : BitVec 16)
  /-- THERM_RELEASE (R448). -/
  | thermRelease (temp : BitVec 16)
  /-- THERMAL_TRIP (R448). -/
  | thermalTrip (temp : BitVec 16)
  /-- MOD_RST_N_ASSERT (R451). -/
  | modRstNAssert
  /-- MOD_RST_N_RELEASE (R451). -/
  | modRstNRelease
  /-- PERST_N (R311). -/
  | perstN
  /-- MAIN_OFF_EFFECT (R447). -/
  | mainOffEffect
  /-- WARM_RESET_EXECUTE (R375). -/
  | warmResetExecute
  /-- DORMANT_ENTRY (R458). -/
  | dormantEntry
  /-- CONTROL_FW_RECOVERY (R16). -/
  | controlFwRecovery
  /-- VBAT_OK_CHANGE (R446). -/
  | vbatOkChange (ok : Bool)
  /-- PEER_DET_CHANGE (R372). -/
  | peerDetChange (level : Bool)
  /-- TAP_INSTRUCTION (R439). -/
  | tapInstruction (ir : Nat)
deriving DecidableEq, Repr

end Sys2Proof
end

