-- ==== Sys2Proof/Decode.lean ====
section
/-! DEFINITION. The decoder over the rows of the table that give bits: no row of this table does (02 R37), so it answers
none on every word. -/

namespace Sys2Proof

/-- The command that a word of nbits bits spells by the table's bits: no row of the table has bits. -/
def decodeTableWord (_nbits _w : Nat) : Option Instr := none

end Sys2Proof
end

