-- ==== Sys2Proof/Machine/Bits.lean ====
section
/-! DEFINITION. Keyed tables, byte strings and checks over them. -/

namespace Sys2Proof.Machine

/-- The entry of a table at a key. -/
def mget {α : Type} : Map α → Nat → Option α
  | [], _ => none
  | (k, v) :: m, n => if k = n then some v else mget m n

/-- The entry at a key, or a default. -/
def mgetD {α : Type} (m : Map α) (n : Nat) (d : α) : α := (mget m n).getD d

/-- Write an entry, keeping keys strictly increasing. -/
def mput {α : Type} : Map α → Nat → α → Map α
  | [], n, a => [(n, a)]
  | (k, v) :: m, n, a =>
    if n < k then (n, a) :: (k, v) :: m
    else if n = k then (n, a) :: m
    else (k, v) :: mput m n a

/-- Remove the entry at a key. -/
def mdel {α : Type} (m : Map α) (n : Nat) : Map α := m.filter fun e => e.1 != n

def mhas {α : Type} (m : Map α) (n : Nat) : Bool := (mget m n).isSome

def mkeys {α : Type} (m : Map α) : List Nat := m.map (·.1)

def mvals {α : Type} (m : Map α) : List α := m.map (·.2)

/-- Change the entry at a key, when there is one. -/
def mmod {α : Type} (m : Map α) (n : Nat) (f : α → α) : Map α :=
  m.map fun e => if e.1 = n then (e.1, f e.2) else e

/-- Keep the entries that a test admits. -/
def mfilter {α : Type} (m : Map α) (p : Nat → α → Bool) : Map α := m.filter fun e => p e.1 e.2

/-- Change every entry. -/
def mmap {α β : Type} (m : Map α) (f : Nat → α → β) : Map β := m.map fun e => (e.1, f e.1 e.2)

/-- Keys strictly increasing. -/
def msorted {α : Type} : Map α → Bool
  | [] => true
  | [_] => true
  | (a, _) :: (b, y) :: m => decide (a < b) && msorted ((b, y) :: m)

/-! ## Bytes -/

/-- n bytes of a number, least significant first (00 R8). -/
def le : Nat → Nat → Bytes
  | 0, _ => []
  | n + 1, v => BitVec.ofNat 8 v :: le n (v / 256)

/-- n bytes, most significant first. -/
def be (n v : Nat) : Bytes := (le n v).reverse

/-- The number of a byte string, least significant byte first. -/
def ofLe : Bytes → Nat
  | [] => 0
  | b :: bs => b.toNat + 256 * ofLe bs

def ofBe (bs : Bytes) : Nat := ofLe bs.reverse

/-- n bytes from an offset; bytes beyond the end are left out. -/
def slice (bs : Bytes) (off n : Nat) : Bytes := (bs.drop off).take n

/-- The little-endian field of n bytes at an offset. -/
def fld (bs : Bytes) (off n : Nat) : Nat := ofLe (slice bs off n)

/-- The big-endian field of n bytes at an offset. -/
def fldBe (bs : Bytes) (off n : Nat) : Nat := ofBe (slice bs off n)

/-- Bits [hi:lo] of a number. -/
def bits (v hi lo : Nat) : Nat := v / 2 ^ lo % 2 ^ (hi + 1 - lo)

def bit (v n : Nat) : Bool := v / 2 ^ n % 2 = 1

/-- The signed value of an n-bit field. -/
def sgn (n v : Nat) : Int :=
  let w := v % 2 ^ n
  if w < 2 ^ (n - 1) then (w : Int) else (w : Int) - (2 ^ n : Nat)

/-- An integer as an n-bit two's complement field. -/
def unsgn (n : Nat) (v : Int) : Nat := (v % ((2 ^ n : Nat) : Int)).toNat

def b2n (b : Bool) : Nat := if b then 1 else 0

def zeros (n : Nat) : Bytes := List.replicate n 0

def isZero (bs : Bytes) : Bool := bs.all (· == 0)

def ceilDiv (a b : Nat) : Nat := (a + b - 1) / b

/-- Pad with zero bytes to a multiple of n. -/
def padTo (n : Nat) (bs : Bytes) : Bytes := bs ++ zeros (ceilDiv bs.length n * n - bs.length)

/-- A count that saturates. -/
def satAdd (top a b : Nat) : Nat := if a + b < top then a + b else top

/-! ## Checks -/

def crc32cBit (c : Nat) : Nat := if c % 2 = 1 then (c / 2) ^^^ 0x82F63B78 else c / 2

def crc32cByte (c : Nat) (b : Byte) : Nat :=
  let c := c ^^^ b.toNat
  crc32cBit (crc32cBit (crc32cBit (crc32cBit (crc32cBit (crc32cBit (crc32cBit (crc32cBit c)))))))

/-- CRC-32C (02 R32). PRESUMED: reflected, initial value and final XOR all ones, as the name's standard has it. -/
def crc32c (bs : Bytes) : Nat := (bs.foldl crc32cByte 0xFFFFFFFF) ^^^ 0xFFFFFFFF

def crc8Bit (c : Nat) : Nat := if 128 ≤ c then ((c * 2) ^^^ 0x107) % 256 else c * 2

def crc8Byte (c : Nat) (b : Byte) : Nat :=
  let c := c ^^^ b.toNat
  crc8Bit (crc8Bit (crc8Bit (crc8Bit (crc8Bit (crc8Bit (crc8Bit (crc8Bit c)))))))

/-- CRC-8 with polynomial x^8+x^2+x+1, initial value 0, no reflection, no final XOR (02 R43). -/
def crc8 (bs : Bytes) : Nat := bs.foldl crc8Byte 0

def crcCcittBit (c : Nat) : Nat := if 32768 ≤ c then ((c * 2) ^^^ 0x11021) % 65536 else c * 2

def crcCcittByte (c : Nat) (b : Byte) : Nat :=
  let c := c ^^^ (b.toNat * 256)
  crcCcittBit (crcCcittBit (crcCcittBit (crcCcittBit (crcCcittBit (crcCcittBit (crcCcittBit (crcCcittBit c)))))))

/-- CRC-CCITT, CHK of a C37.118 frame (04 R84). PRESUMED: initial value 0xFFFF, as IEEE C37.118.2 has it. -/
def crcCcitt (bs : Bytes) : Nat := bs.foldl crcCcittByte 0xFFFF

/-! ## Lists -/

/-- Replace the n-th element. -/
def lset {α : Type} (l : List α) (n : Nat) (a : α) : List α := l.set n a

/-- The sum of a function over a list. -/
def lsum {α : Type} (l : List α) (f : α → Nat) : Nat := l.foldl (fun a x => a + f x) 0

/-- The largest value of a function over a list, 0 for none. -/
def lmax {α : Type} (l : List α) (f : α → Nat) : Nat := l.foldl (fun a x => max a (f x)) 0

/-- The first element with the smallest value of a function. -/
def lminBy {α : Type} (l : List α) (f : α → Nat) : Option α :=
  l.foldl (fun o x => match o with
    | none => some x
    | some y => if f x < f y then some x else some y) none

/-- Insert by a key, after equal keys. -/
def insertBy {α : Type} (f : α → Nat) (a : α) : List α → List α
  | [] => [a]
  | x :: xs => if f a < f x then a :: x :: xs else x :: insertBy f a xs

/-- Stable insertion sort by a key. -/
def sortBy {α : Type} (f : α → Nat) (l : List α) : List α := l.foldl (fun acc x => insertBy f x acc) []

/-- Whether no value occurs twice. -/
def nodup (l : List Nat) : Bool :=
  match l with
  | [] => true
  | x :: xs => !(xs.contains x) && nodup xs

/-- The decimal digits of a number in ASCII. -/
def decDigits (fuel v : Nat) : Bytes :=
  match fuel with
  | 0 => []
  | n + 1 => if v < 10 then [BitVec.ofNat 8 (48 + v)] else decDigits n (v / 10) ++ [BitVec.ofNat 8 (48 + v % 10)]

/-- A number in decimal ASCII (16 R420). -/
def decText (v : Nat) : Bytes := decDigits 24 v

/-- A signed number in decimal ASCII. -/
def decTextInt (v : Int) : Bytes := if v < 0 then 45 :: decText v.natAbs else decText v.natAbs

end Sys2Proof.Machine
end

