-- ==== Sys2Proof/Machine/Numeric.lean ====
section
/-! DEFINITION. The exact arithmetic behind the block's numbers: fractions, float32 with rounding to nearest, ties to even
(04 R98), rounding half to even (05 R118), and sines, arctangents and roots to 2^-256, far below every rounding that uses
them. -/

namespace Sys2Proof.Machine

/-- A fraction with a positive denominator. -/
structure Frac where
  num : Int
  den : Nat
deriving DecidableEq, Repr

def fracOf (i : Int) : Frac := { num := i, den := 1 }
def fadd (a b : Frac) : Frac := { num := a.num * b.den + b.num * a.den, den := a.den * b.den }
def fsub (a b : Frac) : Frac := { num := a.num * b.den - b.num * a.den, den := a.den * b.den }
def fmul (a b : Frac) : Frac := { num := a.num * b.num, den := a.den * b.den }
def fneg (a : Frac) : Frac := { a with num := -a.num }
def fabs (a : Frac) : Frac := { a with num := a.num.natAbs }
/-- Quotient; 0 for a zero divisor. -/
def fdiv (a b : Frac) : Frac :=
  if b.num = 0 then fracOf 0
  else if b.num < 0 then { num := -(a.num * b.den), den := a.den * b.num.natAbs }
  else { num := a.num * b.den, den := a.den * b.num.natAbs }
def fle (a b : Frac) : Bool := a.num * b.den ≤ b.num * a.den
def flt (a b : Frac) : Bool := a.num * b.den < b.num * a.den
def ffloor (a : Frac) : Int := a.num / (a.den : Int)

/-- An integer quotient rounded half to even: rhe (05 R113). -/
def rheDiv (n : Int) (d : Nat) : Int :=
  let q := n / (d : Int)
  let r := n % (d : Int)
  if 2 * r < d then q else if 2 * r > d then q + 1 else if q % 2 = 0 then q else q + 1

/-- rhe of a fraction. -/
def rheFrac (a : Frac) : Int := rheDiv a.num a.den

/-! ## float32 -/

def f32NaN : Nat := 0x7FC00000
def f32IsNaN (b : Nat) : Bool := b / 2 ^ 23 % 256 = 255 && b % 2 ^ 23 ≠ 0
def f32Finite (b : Nat) : Bool := b / 2 ^ 23 % 256 ≠ 255
def f32Neg (b : Nat) : Nat := if b < 2 ^ 31 then b + 2 ^ 31 else b - 2 ^ 31
def f32IsZero (b : Nat) : Bool := b % 2 ^ 31 = 0

/-- The exact value of a finite float32 pattern. -/
def f32Val (b : Nat) : Frac :=
  let e : Nat := b / 2 ^ 23 % 256
  let m : Nat := b % 2 ^ 23
  let a : Frac := if e = 0 then { num := (m : Int), den := 2 ^ 149 }
    else if e < 150 then { num := ((2 ^ 23 + m : Nat) : Int), den := 2 ^ (150 - e) }
    else { num := (((2 ^ 23 + m) * 2 ^ (e - 150) : Nat) : Int), den := 1 }
  if 2 ^ 31 ≤ b then fneg a else a

/-- The quotient n / (d * 2^k), rounded half to even. -/
def scaledRhe (n d : Nat) (k : Int) : Nat :=
  if 0 ≤ k then (rheDiv n (d * 2 ^ k.toNat)).toNat else (rheDiv ((n * 2 ^ (-k).toNat : Nat) : Int) d).toNat

def scaledFloor (n d : Nat) (k : Int) : Nat :=
  if 0 ≤ k then n / (d * 2 ^ k.toNat) else n * 2 ^ (-k).toNat / d

/-- The exponent k for which a positive n / d is q * 2^k with q in [2^23, 2^24), not below -149. -/
def f32Exp (n d : Nat) : Int :=
  let k : Int := (Nat.log2 n : Int) - Nat.log2 d - 23
  let q := scaledFloor n d k
  max (if q < 2 ^ 23 then k - 1 else if 2 ^ 24 ≤ q then k + 1 else k) (-149)

/-- float32 nearest to a fraction, ties to even; neg gives the sign of a zero. -/
def f32Round (a : Frac) (neg : Bool := false) : Nat :=
  let sb : Nat := if a.num < 0 ∨ neg then 2 ^ 31 else 0
  let n := a.num.natAbs
  if n = 0 then sb else
    let k := f32Exp n a.den
    let q := scaledRhe n a.den k
    let (q, k) := if q = 2 ^ 24 then (2 ^ 23, k + 1) else (q, k)
    if k > 104 then sb + 0x7F800000
    else if q < 2 ^ 23 then sb + q
    else sb + (k + 150).toNat * 2 ^ 23 + (q - 2 ^ 23)

def f32OfInt (i : Int) : Nat := f32Round (fracOf i)

/-- The product of an exact value and a float32, rounded once. -/
def f32MulFrac (a : Frac) (b : Nat) : Nat :=
  if !f32Finite b then (if f32IsNaN b ∨ a.num = 0 then f32NaN else if a.num < 0 then f32Neg b else b)
  else f32Round (fmul a (f32Val b))

/-- Whether a float32 is an infinity. -/
def f32Inf (b : Nat) : Bool := !f32Finite b && !f32IsNaN b

/-- The product of two float32 values, rounded once. -/
def f32Mul (a b : Nat) : Nat :=
  if f32IsNaN a ∨ f32IsNaN b then f32NaN
  else if f32Inf a ∨ f32Inf b then
    if f32IsZero a ∨ f32IsZero b then f32NaN
    else if decide (2 ^ 31 ≤ a) = decide (2 ^ 31 ≤ b) then 0x7F800000 else 0xFF800000
  else f32Round (fmul (f32Val a) (f32Val b)) (decide (2 ^ 31 ≤ a) != decide (2 ^ 31 ≤ b))

/-- nominal + raw × SCALE, formed exactly and rounded once (04 R98). -/
def f32Affine (nominal : Nat) (raw : Frac) (scale : Nat) : Nat :=
  if !f32Finite nominal then nominal
  else if !f32Finite scale then f32MulFrac raw scale
  else f32Round (fadd (f32Val nominal) (fmul raw (f32Val scale)))

/-- Exact comparison of two float32 values; false with a NaN. -/
def f32Lt (a b : Nat) : Bool :=
  if f32IsNaN a ∨ f32IsNaN b then false
  else if f32Inf a ∨ f32Inf b then
    if a = b then false else a = 0xFF800000 || b = 0x7F800000
  else flt (f32Val a) (f32Val b)

def f32Le (a b : Nat) : Bool := !(f32IsNaN a) && !(f32IsNaN b) && !(f32Lt b a)

/-! ## Fixed point: integers in units of 2^-256 -/

/-- pi in units of 2^-512. -/
def pi512 : Nat := 42121870893450636219446821484559388105255997313489254605594685088103805782276098919793885372247726346443771296916333485327292916625599161542353774203832599

/-- One in units of 2^-256. -/
def fxOne : Int := 2 ^ 256

def fxPi : Int := (pi512 / 2 ^ 256 : Nat)

def fxOf (a : Frac) : Int := a.num * fxOne / (a.den : Int)

def fxFrac (x : Int) : Frac := { num := x, den := 2 ^ 256 }

def fxMul (a b : Int) : Int := a * b / fxOne

/-- An angle in radians, reduced to [0, 2 pi). -/
def fxReduce (a : Frac) : Int := (a.num * 2 ^ 512 / (a.den : Int)) % ((2 * pi512 : Nat) : Int) / 2 ^ 256

/-- Terms x^n / n! of the exponential series with alternating signs, from term n on. -/
def fxSeries : Nat → Int → Int → Nat → Int
  | 0, _, _, _ => 0
  | fuel + 1, x2, t, n =>
    if t = 0 then 0 else t + fxSeries fuel x2 (-(fxMul t x2) / ((n + 1) * (n + 2) : Nat)) (n + 2)

/-- Cosine and sine of a reduced angle, through the nearest multiple of pi / 2. -/
def fxCosSin (x : Int) : Int × Int :=
  let h := fxPi / 2
  let q := (x + h / 2) / h
  let r := x - q * h
  let r2 := fxMul r r
  let c := fxSeries 70 r2 fxOne 0
  let s := fxSeries 70 r2 r 1
  match (q % 4).toNat with
  | 0 => (c, s)
  | 1 => (-s, c)
  | 2 => (-c, -s)
  | _ => (s, -c)

def fxCos (x : Int) : Int := (fxCosSin (x % (2 * fxPi))).1
def fxSin (x : Int) : Int := (fxCosSin (x % (2 * fxPi))).2

/-- Newton's iteration for an integer root from above. -/
def isqrtLoop : Nat → Nat → Nat → Nat
  | 0, _, x => x
  | fuel + 1, n, x =>
    let y := (x + n / x) / 2
    if y < x then isqrtLoop fuel n y else x

/-- The integer part of a square root. -/
def isqrt (n : Nat) : Nat := if n = 0 then 0 else isqrtLoop 600 n (2 ^ (Nat.log2 n / 2 + 1))

def fxSqrt (x : Int) : Int := (isqrt (x.toNat * 2 ^ 256) : Int)

/-- Terms of the arctangent series. -/
def fxAtanSeries : Nat → Int → Int → Nat → Int
  | 0, _, _, _ => 0
  | fuel + 1, x2, t, n => if t = 0 then 0 else t / (n : Int) + fxAtanSeries fuel x2 (-(fxMul t x2)) (n + 2)

/-- tan of half the angle whose tangent is x. -/
def fxHalfTan (x : Int) : Int := x * fxOne / (fxOne + fxSqrt (fxOne + fxMul x x))

/-- Arctangent of a value in [0, 1], in units of 2^-256. -/
def fxAtan (x : Int) : Int :=
  let y := fxHalfTan (fxHalfTan (fxHalfTan (fxHalfTan x)))
  16 * fxAtanSeries 60 (fxMul y y) y 1

/-- The angle of (re, im) in (-pi, pi]; 0 for a zero phasor (04 R98). -/
def fxAtan2 (im re : Int) : Int :=
  if im = 0 then (if re < 0 then fxPi else 0)
  else
    let a : Int := im.natAbs
    let b : Int := re.natAbs
    let t := if a ≤ b then fxAtan (a * fxOne / b) else fxPi / 2 - fxAtan (b * fxOne / a)
    let t := if re < 0 then fxPi - t else t
    if im < 0 then -t else t

/-! ## Phasors (04 R98) -/

/-- re = M cos A and im = M sin A, each rounded once. -/
def polarToRect (m a : Nat) : Nat × Nat :=
  if f32IsNaN m ∨ !f32Finite a then (f32NaN, f32NaN)
  else
    let (c, s) := fxCosSin (fxReduce (f32Val a))
    (f32MulFrac (fxFrac c) m, if f32IsZero a then f32Mul m a else f32MulFrac (fxFrac s) m)

/-- A float32 for the root of an exact value: the integer root far beyond the result, with a sticky bit. -/
def f32Sqrt (a : Frac) : Nat :=
  let n := a.num.toNat
  let k := (Nat.log2 a.den + 200) / 2 * 2 + 400
  let x := n * 2 ^ k / a.den
  let r := isqrt x
  let st : Nat := if r * r = x ∧ n * 2 ^ k % a.den = 0 then 0 else 1
  f32Round { num := (2 * r + st : Nat), den := 2 ^ (k / 2 + 1) }

/-- M = √(re² + im²) and A = atan2(im, re), each rounded once. -/
def rectToPolar (re im : Nat) : Nat × Nat :=
  if f32IsNaN re ∨ f32IsNaN im then (f32NaN, f32NaN)
  else if !f32Finite re ∨ !f32Finite im then
    (0x7F800000, f32Round (fxFrac (fxAtan2
      (if f32Inf im then (if 2 ^ 31 ≤ im then -1 else 1) else 0) (if f32Inf re then (if 2 ^ 31 ≤ re then -1 else 1) else 0))))
  else
    let x := f32Val re
    let y := f32Val im
    (f32Sqrt (fadd (fmul x x) (fmul y y)),
     f32Round (fxFrac (fxAtan2 (y.num * x.den) (x.num * y.den))))

end Sys2Proof.Machine
end

