-- ==== Sys2Proof/Machine/Codec.lean ====
section
/-! DEFINITION. The predictive residue codec and the AQ32 phasor word (10 R277-R287). -/

namespace Sys2Proof.Machine

/-! ## Prediction (10 R279) -/

/-- A reconstructed value of channel c at sample n; 0 where none is (the reference rule is checked apart). -/
def recAt (h : Array (Array Int)) (c n : Nat) : Int := (h.getD c #[]).getD n 0

/-- p of a predictor (10 R279). -/
def predict (h : Array (Array Int)) (code d c n : Nat) : Int :=
  match code with
  | 1 => recAt h c (n - 1)
  | 2 => 2 * recAt h c (n - 1) - recAt h c (n - 2)
  | 3 => 3 * recAt h c (n - 1) - 3 * recAt h c (n - 2) + recAt h c (n - 3)
  | 4 => -(recAt h (c - 2) n + recAt h (c - 1) n)
  | 5 => recAt h (c - d) n
  | 6 => recAt h (c - d) n + recAt h c (n - 1) - recAt h (c - d) (n - 1)
  | _ => 0

/-- Whether a predictor's references lie in the block, for a group starting at sample n0 (10 R279). -/
def refOk (code d c n0 : Nat) : Bool :=
  match code with
  | 0 => true
  | 1 => n0 != 0
  | 2 => n0 != 0
  | 3 => n0 != 0
  | 4 => c % 3 == 2
  | 5 => decide (1 ≤ d) && decide (d ≤ c)
  | 6 => decide (1 ≤ d) && decide (d ≤ c) && n0 != 0
  | _ => false

def widthSat (w : Nat) (v : Int) : Int := max (-(2 ^ (w - 1) : Nat)) (min ((2 ^ (w - 1) : Nat) - 1) v)

def zigzag (r : Int) : Nat := if 0 ≤ r then (2 * r).toNat else (-2 * r - 1).toNat

def unzigzag (u : Nat) : Int := if u % 2 = 0 then ((u / 2 : Nat) : Int) else -(((u + 1) / 2 : Nat) : Int)

/-! ## The encoder (10 R278, R280-R283) -/

/-- A number in n bits, most significant first. -/
def bitsMsb (n v : Nat) : List Bool := (List.range n).map fun i => bit v (n - 1 - i)

/-- The residues of a group under a predictor, with the channel's history after it. -/
def groupCode (h : Array (Array Int)) (code d c e w : Nat) (xs : List Int) : List Nat × Array (Array Int) :=
  xs.foldl (fun (a : List Nat × Array (Array Int)) x =>
    let n := (a.2.getD c #[]).size
    let p := predict a.2 code d c n
    let q := rheDiv (x - p) (2 * e + 1)
    let xh := if e = 0 then x else widthSat w (p + (2 * e + 1 : Nat) * q)
    (a.1 ++ [zigzag q], a.2.setIfInBounds c ((a.2.getD c #[]).push xh))) ([], h)

/-- Bits of a group's residues with a Rice parameter; none when a quotient passes 63. -/
def riceBits (us : List Nat) (k : Nat) : Option Nat :=
  if us.any (fun u => decide (63 < u / 2 ^ k)) then none else some (lsum us fun u => u / 2 ^ k + 1 + k)

def riceWrite (us : List Nat) (k : Nat) : List Bool :=
  (us.map fun u => List.replicate (u / 2 ^ k) true ++ false :: bitsMsb k (u % 2 ^ k)).flatten

/-- The legal (CODE, D) pairs of a group, in order of CODE then D. -/
def groupChoices (c n0 : Nat) : List (Nat × Nat) :=
  ((List.range 7).map fun code =>
    (if code = 5 ∨ code = 6 then (List.range 15).map (fun d => (code, d + 1)) else [(code, 0)]).filter fun e =>
      refOk e.1 e.2 c n0).flatten

/-- One group: the combination with the fewest bits, ties to the lower CODE, D and K, and the escape when it takes
strictly fewer (10 R282). -/
def encGroup (h : Array (Array Int)) (c e w : Nat) (xs : List Int) : List Bool × Array (Array Int) :=
  let n0 := (h.getD c #[]).size
  let best := (groupChoices c n0).foldl (fun (o : Option (Nat × Nat × Nat × Nat)) cd =>
    let us := (groupCode h cd.1 cd.2 c e w xs).1
    let hdr := if cd.1 = 5 ∨ cd.1 = 6 then 12 else 8
    (List.range 31).foldl (fun (o : Option (Nat × Nat × Nat × Nat)) k =>
      match riceBits us k with
      | none => o
      | some n => match o with
        | none => some (hdr + n, cd.1, cd.2, k)
        | some b => if hdr + n < b.1 then some (hdr + n, cd.1, cd.2, k) else o) o) none
  let esc := 8 + w * xs.length
  let write := fun (n code d k : Nat) =>
    if esc < n then
      (bitsMsb 3 0 ++ bitsMsb 5 31 ++ (xs.map fun x => bitsMsb w (unsgn w x)).flatten
      , h.setIfInBounds c ((h.getD c #[]) ++ xs.toArray))
    else
      let (us, h) := groupCode h code d c e w xs
      (bitsMsb 3 code ++ bitsMsb 5 k ++ (if code = 5 ∨ code = 6 then bitsMsb 4 d else []) ++ riceWrite us k, h)
  match best with
  | some (n, code, d, k) => write n code d k
  | none => write (esc + 1) 0 0 0

/-- Split into groups of 32. -/
def groups32 (xs : List Int) : List (List Int) :=
  (List.range (ceilDiv xs.length 32)).map fun i => (xs.drop (32 * i)).take 32

def encChannel (e w : Nat) (a : List Bool × Array (Array Int)) (c : Nat) (xs : List Int) : List Bool × Array (Array Int) :=
  (groups32 xs).foldl (fun a g =>
    let (bs, h) := encGroup a.2 c e w g
    (a.1 ++ bs, h)) a

/-- Bytes from bits, most significant first, padded with zeros. -/
def packBits : Nat → List Bool → Bytes
  | 0, _ => []
  | n + 1, bs =>
    let b := (bs ++ List.replicate 8 false).take 8
    BitVec.ofNat 8 (b.foldl (fun a x => 2 * a + b2n x) 0) :: packBits n (bs.drop 8)

/-- A block from its parts (10 R277). -/
def prcBlock (raw : Bool) (nch w nsamp e : Nat) (payload : Bytes) : Bytes :=
  let e := if raw then 0 else e
  let b := le 2 0x5250 ++ le 1 1 ++ le 1 (b2n raw + b2n (0 < e) * 2) ++ le 1 nch ++ le 1 w ++ le 2 nsamp ++ le 1 e ++ zeros 3
    ++ le 4 payload.length ++ payload
  b ++ le 4 (crc32c b)

/-- Samples channel-major in bytes. -/
def rawSamples (w : Nat) (chans : List (List Int)) : Bytes :=
  (chans.map fun xs => (xs.map fun x => le (w / 8) (unsgn w x)).flatten).flatten

/-- The encoded block, or none when it gains nothing (10 R283). -/
def prcEncode (w e : Nat) (chans : List (List Int)) : Option Bytes :=
  let nch := chans.length
  let nsamp := (chans.headD []).length
  let (bs, _) := ((List.range nch).zip chans).foldl (fun a x => encChannel e w a x.1 x.2)
    (([] : List Bool), (Array.replicate nch (#[] : Array Int)))
  let payload := packBits (4 * ceilDiv bs.length 32) bs
  let b := prcBlock false nch w nsamp e payload
  if nch * nsamp * w / 8 ≤ b.length then none else some b

/-- A block as a record or segment stores it, and whether it is RAW (10 R283). -/
def prcStore (w e : Nat) (chans : List (List Int)) : Bytes × Bool :=
  match prcEncode w e chans with
  | some b => (b, false)
  | none => (prcBlock true chans.length w (chans.headD []).length 0 (padTo 4 (rawSamples w chans)), true)

/-! ## The decoder (10 R284) -/

inductive PrcErr where
  | illegalCode
  | refBeyond
  | overrun
  | badHeader
  | checkFail
deriving DecidableEq, Repr

def prcErrCode : PrcErr → Nat
  | .illegalCode => 0x0521
  | .refBeyond => 0x0522
  | .overrun => 0x0523
  | .badHeader => 0x0524
  | .checkFail => 0x0525

/-- Read n bits. -/
def readBits (n : Nat) (bs : List Bool) : Except PrcErr (Nat × List Bool) :=
  if bs.length < n then .error .overrun else .ok ((bs.take n).foldl (fun a x => 2 * a + b2n x) 0, bs.drop n)

/-- Read a quotient: one-bits up to a zero. -/
def readUnary : Nat → Nat → List Bool → Except PrcErr (Nat × List Bool)
  | 0, _, _ => .error .illegalCode
  | _ + 1, _, [] => .error .overrun
  | fuel + 1, q, b :: bs => if b then readUnary fuel (q + 1) bs else .ok (q, bs)

def inWidth (w : Nat) (v : Int) : Bool := widthSat w v = v

/-- The samples of one group. -/
def decSamples (code d c k e w : Nat) : Nat → Array (Array Int) → List Bool → Except PrcErr (Array (Array Int) × List Bool)
  | 0, h, bs => .ok (h, bs)
  | cnt + 1, h, bs =>
    let row := h.getD c #[]
    let push := fun v => h.setIfInBounds c (row.push v)
    if k = 31 then
      match readBits w bs with
      | .error x => .error x
      | .ok (v, bs) => decSamples code d c k e w cnt (push (sgn w v)) bs
    else
      match readUnary 64 0 bs with
      | .error x => .error x
      | .ok (q, bs) =>
        match readBits k bs with
        | .error x => .error x
        | .ok (lo, bs) =>
          let v := predict h code d c row.size + (2 * e + 1 : Nat) * unzigzag (q * 2 ^ k + lo)
          if e = 0 ∧ !inWidth w v then .error .illegalCode
          else decSamples code d c k e w cnt (push (widthSat w v)) bs

/-- One group: its fields in order, each checked as it is read. DEDUCED: a CODE whose references break R279 at every D is refused
when CODE is read. -/
def decGroup (c e w cnt : Nat) (h : Array (Array Int)) (bs : List Bool) : Except PrcErr (Array (Array Int) × List Bool) :=
  let n0 := (h.getD c #[]).size
  match readBits 3 bs with
  | .error x => .error x
  | .ok (code, bs) =>
    if code = 7 then .error .illegalCode
    else if !refOk code 1 c n0 then .error .refBeyond
    else match readBits 5 bs with
      | .error x => .error x
      | .ok (k, bs) =>
        if k = 31 ∧ code ≠ 0 then .error .illegalCode
        else if code < 5 then decSamples code 0 c k e w cnt h bs
        else match readBits 4 bs with
          | .error x => .error x
          | .ok (d, bs) =>
            if d = 0 then .error .illegalCode
            else if !refOk code d c n0 then .error .refBeyond
            else decSamples code d c k e w cnt h bs

/-- The groups of one channel: sizes of the groups still to read. -/
def decChannel (c e w : Nat) : List Nat → Array (Array Int) → List Bool → Except PrcErr (Array (Array Int) × List Bool)
  | [], h, bs => .ok (h, bs)
  | cnt :: rest, h, bs =>
    match decGroup c e w cnt h bs with
    | .error x => .error x
    | .ok (h, bs) => decChannel c e w rest h bs

def decChannels (e w : Nat) (sizes : List Nat) : List Nat → Array (Array Int) → List Bool →
    Except PrcErr (Array (Array Int) × List Bool)
  | [], h, bs => .ok (h, bs)
  | c :: cs, h, bs =>
    match decChannel c e w sizes h bs with
    | .error x => .error x
    | .ok (h, bs) => decChannels e w sizes cs h bs

def unpackBits (bs : Bytes) : List Bool := (bs.map fun b => bitsMsb 8 b.toNat).flatten

/-- Group sizes of a channel of n samples. -/
def groupSizes (n : Nat) : List Nat := (List.range (ceilDiv n 32)).map fun i => min 32 (n - 32 * i)

/-- Decode a block: the channels, or the first error (10 R284). -/
def prcDecode (b : Bytes) : Except PrcErr (List (List Int)) :=
  let flags := fld b 3 1
  let nch := fld b 4 1
  let w := fld b 5 1
  let nsamp := fld b 6 2
  let e := fld b 8 1
  let plen := fld b 12 4
  let raw := bit flags 0
  if b.length < 16 ∨ fld b 0 2 ≠ 0x5250 ∨ fld b 2 1 ≠ 1 ∨ 3 < flags ∨ nch < 1 ∨ 64 < nch
      ∨ !(w == 16 || w == 24 || w == 32) ∨ nsamp < 1 ∨ 4096 < nsamp ∨ fld b 9 3 ≠ 0 ∨ plen % 4 ≠ 0
      ∨ (raw ∧ e ≠ 0) ∨ bit flags 1 ≠ decide (0 < e) then .error .badHeader
  else
    let payload := slice b 16 plen
    let n := nch * nsamp * w / 8
    if b.length ≠ 20 + plen then .error .overrun
    else if raw ∧ (plen ≠ 4 * ceilDiv (nch * nsamp * w) 32 ∨ !isZero (payload.drop n)) then .error .overrun
    else if fld b (16 + plen) 4 ≠ crc32c (b.take (16 + plen)) then .error .checkFail
    else if raw then
      .ok ((List.range nch).map fun c => (List.range nsamp).map fun i =>
        sgn w (fld payload ((c * nsamp + i) * (w / 8)) (w / 8)))
    else
      match decChannels e w (groupSizes nsamp) (List.range nch) (Array.replicate nch #[]) (unpackBits payload) with
      | .error x => .error x
      | .ok (h, rest) =>
        if 32 ≤ rest.length ∨ rest.any id then .error .overrun else .ok (h.toList.map Array.toList)

/-! ## AQ32 (10 R286) -/

/-- An AQ32 word for a phasor in polar form against a full scale, and whether its magnitude saturated. -/
def aq32 (valid : Bool) (m a fs : Nat) : Nat × Bool :=
  if !valid || f32IsNaN m || f32IsNaN a then (0xFFFF, false)
  else
    let f := f32Val fs
    let top : Bool := !f32Finite m || fle (fmul { num := 131069, den := 65536 } f) (f32Val m)
    let mag := if top then 65534 else min 65534 (rheFrac (fdiv (fmul (f32Val m) (fracOf 32768)) f)).toNat
    let ang := rheDiv (fxOf (fmul (f32Val a) (fracOf 65536))) (2 * fxPi).toNat
    (mag + unsgn 16 ang * 65536, top)

end Sys2Proof.Machine
end

