-- ==== Sys2Proof/Machine/RecNames.lean ====
section
/-! DEFINITION. The names of recorder events, in ASCII (16 R420). PRESUMED: the spec gives the form of a name and two
examples, not every name. -/

namespace Sys2Proof.Machine

/-- ACTIVE -/
def nmActive : Bytes := [65, 67, 84, 73, 86, 69]
/-- ALARM RELEASED -/
def nmAlarmReleased : Bytes := [65, 76, 65, 82, 77, 32, 82, 69, 76, 69, 65, 83, 69, 68]
/-- BLOCK RESET -/
def nmBlockReset : Bytes := [66, 76, 79, 67, 75, 32, 82, 69, 83, 69, 84]
/-- BUDGET LOST -/
def nmBudgetLost : Bytes := [66, 85, 68, 71, 69, 84, 32, 76, 79, 83, 84]
/-- CAUSE -/
def nmCause : Bytes := [67, 65, 85, 83, 69]
/-- CFG MATCH -/
def nmCfgMatch : Bytes := [67, 70, 71, 32, 77, 65, 84, 67, 72]
/-- CFG MISMATCH -/
def nmCfgMismatch : Bytes := [67, 70, 71, 32, 77, 73, 83, 77, 65, 84, 67, 72]
/-- COMMIT LOSS -/
def nmCommitLoss : Bytes := [67, 79, 77, 77, 73, 84, 32, 76, 79, 83, 83]
/-- COMMITS STOPPED -/
def nmCommitsStopped : Bytes := [67, 79, 77, 77, 73, 84, 83, 32, 83, 84, 79, 80, 80, 69, 68]
/-- CONFIG AMBIGUOUS -/
def nmConfigAmbiguous : Bytes := [67, 79, 78, 70, 73, 71, 32, 65, 77, 66, 73, 71, 85, 79, 85, 83]
/-- DIVERGENCE -/
def nmDivergence : Bytes := [68, 73, 86, 69, 82, 71, 69, 78, 67, 69]
/-- DOMAIN INVALIDATED -/
def nmDomainInvalidated : Bytes := [68, 79, 77, 65, 73, 78, 32, 73, 78, 86, 65, 76, 73, 68, 65, 84, 69, 68]
/-- ENTRY -/
def nmEntry : Bytes := [69, 78, 84, 82, 89]
/-- FAULT DECLARED -/
def nmFaultDeclared : Bytes := [70, 65, 85, 76, 84, 32, 68, 69, 67, 76, 65, 82, 69, 68]
/-- FAULT HELD -/
def nmFaultHeld : Bytes := [70, 65, 85, 76, 84, 32, 72, 69, 76, 68]
/-- FIRMWARE FALLBACK -/
def nmFirmwareFallback : Bytes := [70, 73, 82, 77, 87, 65, 82, 69, 32, 70, 65, 76, 76, 66, 65, 67, 75]
/-- FIRMWARE FAULT -/
def nmFirmwareFault : Bytes := [70, 73, 82, 77, 87, 65, 82, 69, 32, 70, 65, 85, 76, 84]
/-- FORCE REMOVED -/
def nmForceRemoved : Bytes := [70, 79, 82, 67, 69, 32, 82, 69, 77, 79, 86, 69, 68]
/-- FREERUN -/
def nmFreerun : Bytes := [70, 82, 69, 69, 82, 85, 78]
/-- HB LOSS -/
def nmHbLoss : Bytes := [72, 66, 32, 76, 79, 83, 83]
/-- HOLDOVER -/
def nmHoldover : Bytes := [72, 79, 76, 68, 79, 86, 69, 82]
/-- ID -/
def nmId : Bytes := [73, 68]
/-- IDENTITY KEY -/
def nmIdentityKey : Bytes := [73, 68, 69, 78, 84, 73, 84, 89, 32, 75, 69, 89]
/-- IMAGE COPIED -/
def nmImageCopied : Bytes := [73, 77, 65, 71, 69, 32, 67, 79, 80, 73, 69, 68]
/-- INTENT COMPLETED -/
def nmIntentCompleted : Bytes := [73, 78, 84, 69, 78, 84, 32, 67, 79, 77, 80, 76, 69, 84, 69, 68]
/-- INTENT REBURN -/
def nmIntentReburn : Bytes := [73, 78, 84, 69, 78, 84, 32, 82, 69, 66, 85, 82, 78]
/-- LEAP ENTRY ADDED -/
def nmLeapEntryAdded : Bytes := [76, 69, 65, 80, 32, 69, 78, 84, 82, 89, 32, 65, 68, 68, 69, 68]
/-- LEAP TABLE FULL -/
def nmLeapTableFull : Bytes := [76, 69, 65, 80, 32, 84, 65, 66, 76, 69, 32, 70, 85, 76, 76]
/-- LISTENING -/
def nmListening : Bytes := [76, 73, 83, 84, 69, 78, 73, 78, 71]
/-- LOCKED -/
def nmLocked : Bytes := [76, 79, 67, 75, 69, 68]
/-- LOCKERS ZEROISED -/
def nmLockersZeroised : Bytes := [76, 79, 67, 75, 69, 82, 83, 32, 90, 69, 82, 79, 73, 83, 69, 68]
/-- NO BUDGET -/
def nmNoBudget : Bytes := [78, 79, 32, 66, 85, 68, 71, 69, 84]
/-- NO CONFIG IMAGE -/
def nmNoConfigImage : Bytes := [78, 79, 32, 67, 79, 78, 70, 73, 71, 32, 73, 77, 65, 71, 69]
/-- OQ OVERSIZE -/
def nmOqOversize : Bytes := [79, 81, 32, 79, 86, 69, 82, 83, 73, 90, 69]
/-- PAIR KEY LOAD -/
def nmPairKeyLoad : Bytes := [80, 65, 73, 82, 32, 75, 69, 89, 32, 76, 79, 65, 68]
/-- PD CHANGE -/
def nmPdChange : Bytes := [80, 68, 32, 67, 72, 65, 78, 71, 69]
/-- PORT -/
def nmPort : Bytes := [80, 79, 82, 84]
/-- PREF EQUAL -/
def nmPrefEqual : Bytes := [80, 82, 69, 70, 32, 69, 81, 85, 65, 76]
/-- PRODUCER -/
def nmProducer : Bytes := [80, 82, 79, 68, 85, 67, 69, 82]
/-- PROMOTE -/
def nmPromote : Bytes := [80, 82, 79, 77, 79, 84, 69]
/-- QUEUE -/
def nmQueue : Bytes := [81, 85, 69, 85, 69]
/-- RANGE END -/
def nmRangeEnd : Bytes := [82, 65, 78, 71, 69, 32, 69, 78, 68]
/-- READY DROP -/
def nmReadyDrop : Bytes := [82, 69, 65, 68, 89, 32, 68, 82, 79, 80]
/-- RECOVERY -/
def nmRecovery : Bytes := [82, 69, 67, 79, 86, 69, 82, 89]
/-- RESYNC ABANDONED -/
def nmResyncAbandoned : Bytes := [82, 69, 83, 89, 78, 67, 32, 65, 66, 65, 78, 68, 79, 78, 69, 68]
/-- RTC LOADED -/
def nmRtcLoaded : Bytes := [82, 84, 67, 32, 76, 79, 65, 68, 69, 68]
/-- SCHEME -/
def nmScheme : Bytes := [83, 67, 72, 69, 77, 69]
/-- SCHEME FAULT -/
def nmSchemeFault : Bytes := [83, 67, 72, 69, 77, 69, 32, 70, 65, 85, 76, 84]
/-- SCHEME REMOVED -/
def nmSchemeRemoved : Bytes := [83, 67, 72, 69, 77, 69, 32, 82, 69, 77, 79, 86, 69, 68]
/-- SCHEME SKIP -/
def nmSchemeSkip : Bytes := [83, 67, 72, 69, 77, 69, 32, 83, 75, 73, 80]
/-- SELF TEST FAILED -/
def nmSelfTestFailed : Bytes := [83, 69, 76, 70, 32, 84, 69, 83, 84, 32, 70, 65, 73, 76, 69, 68]
/-- SOLO -/
def nmSolo : Bytes := [83, 79, 76, 79]
/-- STANDBY -/
def nmStandby : Bytes := [83, 84, 65, 78, 68, 66, 89]
/-- STEP PENDING -/
def nmStepPending : Bytes := [83, 84, 69, 80, 32, 80, 69, 78, 68, 73, 78, 71]
/-- STREAM DROPPED -/
def nmStreamDropped : Bytes := [83, 84, 82, 69, 65, 77, 32, 68, 82, 79, 80, 80, 69, 68]
/-- STREAM REFUSED -/
def nmStreamRefused : Bytes := [83, 84, 82, 69, 65, 77, 32, 82, 69, 70, 85, 83, 69, 68]
/-- STREAM UP -/
def nmStreamUp : Bytes := [83, 84, 82, 69, 65, 77, 32, 85, 80]
/-- SWITCHOVER -/
def nmSwitchover : Bytes := [83, 87, 73, 84, 67, 72, 79, 86, 69, 82]
/-- TAKEOVER -/
def nmTakeover : Bytes := [84, 65, 75, 69, 79, 86, 69, 82]
/-- TASK ABORTED -/
def nmTaskAborted : Bytes := [84, 65, 83, 75, 32, 65, 66, 79, 82, 84, 69, 68]
/-- TASK BACKLOG -/
def nmTaskBacklog : Bytes := [84, 65, 83, 75, 32, 66, 65, 67, 75, 76, 79, 71]
/-- TAU -/
def nmTau : Bytes := [84, 65, 85]
/-- THERMAL TRIP -/
def nmThermalTrip : Bytes := [84, 72, 69, 82, 77, 65, 76, 32, 84, 82, 73, 80]
/-- TIME BASE STEP -/
def nmTimeBaseStep : Bytes := [84, 73, 77, 69, 32, 66, 65, 83, 69, 32, 83, 84, 69, 80]
/-- TWIN LOSS -/
def nmTwinLoss : Bytes := [84, 87, 73, 78, 32, 76, 79, 83, 83]
/-- VERSION DIFFERS -/
def nmVersionDiffers : Bytes := [86, 69, 82, 83, 73, 79, 78, 32, 68, 73, 70, 70, 69, 82, 83]
/-- WAKE -/
def nmWake : Bytes := [87, 65, 75, 69]
/-- WARNING PASSED -/
def nmWarningPassed : Bytes := [87, 65, 82, 78, 73, 78, 71, 32, 80, 65, 83, 83, 69, 68]
/-- YIELD -/
def nmYield : Bytes := [89, 73, 69, 76, 68]

end Sys2Proof.Machine
end

