-- ==== Sys2Proof/Config.lean ====
section
/-! DEFINITION. What the spec leaves open to the part or its environment: constants with no body, of which nothing can be
proved, and the capacities of 00 R3. -/

namespace Sys2Proof.Config

/-- A free value: the n-th value that the spec does not state, drawn with the state's counter. -/
opaque freeValue : Nat → Nat

/-- CODE of a text event of a class (16 R420: left to the control firmware); used modulo 0xEFFF, plus 1. -/
opaque recCode : Nat → Bytes → Nat

/-- The device identity: the identity certificate's serial number (02 R38). -/
opaque deviceId : Nat

/-- The default F_TH, a float32 pattern, that the control firmware derives from TAPERS, WIN_S, NCH and the band's ends
(07 R186). -/
opaque defaultFTh (tapers winS nch lo hi : Nat) : Nat

/-! The estimators of Belvedere, whose arithmetic the spec does not state. Floats are float32 patterns, a window is the list of
the channels that remain by position, and their samples are in 1/60 of the stored unit. -/

/-- The fixed polyphase filter from RATE to r samples a second: sample j of a second from a channel's newest values (07 R179). -/
opaque resample (rate r j : Nat) (values : List (Option Int)) : Int

/-- The energy of 1 s of a window's samples in the band (07 R179). -/
opaque bandEnergy (lo hi r : Nat) (samples : List (List (Option Int))) : Nat

/-- Ambient estimation over a window, and the matrix-pencil fit of a ring-down (07 R179). -/
opaque ambientModes (kblk : Bytes) (lo hi r : Nat) (window : List (Nat × List (Option Int))) : List ModeEst
opaque ringdownModes (kblk : Bytes) (lo hi r : Nat) (window : List (Nat × List (Option Int))) : List ModeEst

/-- The spectral peaks of a window with their F-statistics: each one's frequency, and by channel position the F-statistic and the
peak amplitude (07 R182). -/
opaque lineSpectra (tapers lo hi r : Nat) (window : List (Nat × List (Option Int))) : List (Nat × List (Nat × Nat × Nat))

/-- The components of a channel's window once the fundamental is removed at its FREQ: frequency, and amplitude in the measure of
the fundamental's magnitude (07 R177). -/
opaque ssoComponents (ncomp lo hi freq : Nat) (window : List Nat) : List (Nat × Nat)

/-! Bandstand's codecs, canceller, measurements and SRTP: the standards that 09 names, whose arithmetic the spec does not state.
A codec's state is named by a number, 0 after a restart; signals are linear samples at the internal rate. -/

/-- One frame decoded, or concealed by the decoder, or taken from the next frame's in-band FEC (09 R221, R241, R242). -/
opaque voiceDecode (codec rate ms st : Nat) (payload : Bytes) : Nat × List Int
opaque voiceConceal (codec rate ms st : Nat) : Nat × List Int
opaque opusFec (codec rate ms st : Nat) (next : Bytes) : Nat × List Int

/-- One frame encoded: the state, 0 for nothing to send, 1 for a SID and 2 for a frame, and the payload (09 R233, R242). -/
opaque voiceEncode (codec rate ms : Nat) (dtx : Bool) (st : Nat) (signal : List Int) : Nat × Nat × Bytes

/-- One frame in a recording codec, its rate converted (09 R251). -/
opaque recEncode (codec rate ms st : Nat) (signal : List Int) : Nat × Bytes

/-- The canceller of G.168-2015 over one frame (09 R243). -/
opaque cancelEcho (tailMs erlMin nlp rate : Nat) (c : Canceller) (sin rin : List Int) : CancelOut

/-- A signal's mean power in 0.1 dBm0. -/
opaque meanPower (signal : List Int) : Int

/-- The frame of a digit's Q.23 tone at a volume in −dBm0 that ends at a duration of its RTP clock (09 R248). -/
opaque dtmfTone (rate ms code volume duration : Nat) : List Int

/-- The measurements of a frame that follows what was heard before it: two tones by ms, modem tones, and a call-progress tone's
frequencies by 10 ms. -/
opaque dtmfPoints (rate : Nat) (past signal : List Int) : List (Option DtmfPoint)
opaque modemMeasure (rate : Nat) (past signal : List Int) : ModemMeas
opaque tonePoints (rate f1 f2 : Nat) (past signal : List Int) : List TonePoint

/-- Where 09 R247 leaves a digit's acceptance open: a frequency off by more than 1.5 % and less than 3.5 %, and the time from 23 ms
to 40 ms at which it is accepted. -/
opaque dtmfAccepts (nominal measured : Nat) : Bool
opaque dtmfOnMs : Nat

/-- SRTP and SRTCP under a profile, from the locker's master key and salt (09 R229): protection of a payload behind its header, and
the payload of a packet that authenticates. -/
opaque srtpSeal (profile : Nat) (key : Bytes) (index : Nat) (header payload : Bytes) : Bytes
opaque srtpOpen (profile : Nat) (key : Bytes) (index : Nat) (packet : Bytes) : Option Bytes
opaque srtcpSeal (profile : Nat) (key : Bytes) (index : Nat) (packet : Bytes) : Bytes
opaque srtcpOpen (profile : Nat) (key : Bytes) (packet : Bytes) : Option Bytes

/-- SHA-256 over a copy set as sent (14 R388): its byte form is not stated. -/
opaque copyDigest : List CopySet → Nat

/-- RES over a task instance's outputs, and STATE over its state home (14 R384): their byte forms are not stated. -/
opaque resDigest : TaskOut → Nat
opaque homeDigest : Option Home → Nat

/-- The device root key in the fuses, 256 bits, and the seed of the identity key (13 R344). -/
opaque rootKey : Nat
opaque idSeed : Nat

/-- The curve P-256 (13 R345, R359, R366, R368): the public point X and Y of a scalar, the x-coordinate that a scalar and a point
share, and the ECDSA signature r and s of a SHA-256 digest with the nonce of RFC 6979. -/
opaque p256Point (d : Nat) : Nat
opaque p256Shared (d point : Nat) : Nat
opaque ecdsaSign (d : Nat) (digest : Bytes) : Nat

/-- The checks of 13 R368 on a firmware image, whose header and key are not stated, and the version it names (02 R38). -/
opaque fwVerifies : Bytes → Bool
opaque fwVersion : Bytes → Nat

/-- The twin protocol version (14 R380). -/
opaque twinVersion : Nat

/-! Capacities (00 R3). -/

def maxSids : Nat := 4096
def maxCids : Nat := 65536
def maxGids : Nat := 1024
def maxCells : Nat := 262144
def maxTids : Nat := 16384
def maxReady : Nat := 8192
def localQueue : Nat := 16
def maxForces : Nat := 256
def maxFlows : Nat := 4096
def recorderRoom : Nat := 15728640
def stagingRoom : Nat := 512
/-- The frame buffer in units of 64 bytes (01, 04 R104). -/
def frameBuffer : Nat := 262144

end Sys2Proof.Config
end

