-- ==== Sys2Proof/Machine/Calendar.lean ====
section
/-! DEFINITION. The calendar arithmetic of the real-time clock (15 R402-R404, R409). -/

namespace Sys2Proof.Machine

/-- Years divisible by 4, except those divisible by 100 and not by 400 (15 R404). -/
def leapYear (y : Nat) : Bool := y % 4 = 0 && (y % 100 ≠ 0 || y % 400 = 0)

def monthDays (y m : Nat) : Nat :=
  if m = 2 then (if leapYear y then 29 else 28)
  else if m = 4 ∨ m = 6 ∨ m = 9 ∨ m = 11 then 30 else 31

/-- Days from 2000-01-01 to the first day of a year from 2000 on. -/
def yearStart (y : Nat) : Nat :=
  let n := y - 2000
  if n = 0 then 0 else n * 365 + ((n - 1) / 4 + 1) - ((n - 1) / 100 + 1) + ((n - 1) / 400 + 1)

/-- Days of a year before a month. -/
def monthStart (y : Nat) : Nat → Nat
  | 0 => 0
  | 1 => 0
  | m + 1 => monthStart y m + monthDays y m

/-- The day number since 2000-01-01 (15 R402). -/
def dayNumber (y m d : Nat) : Nat := yearStart y + monthStart y m + (d - 1)

/-- The year that holds a day number: the day's 365-day quotient is at most one year late. -/
def yearOf (day : Nat) : Nat :=
  let y := 2000 + day / 366
  let y := if yearStart (y + 1) ≤ day then y + 1 else y
  if yearStart (y + 1) ≤ day then y + 1 else y

/-- The month that holds a day of a year (from 0). -/
def monthOf (y doy : Nat) : Nat :=
  (List.range 12).foldl (fun m i => if monthStart y (i + 1) ≤ doy then i + 1 else m) 1

/-- Year, month and day of a day number. -/
def dateOf (day : Nat) : Nat × Nat × Nat :=
  let y := yearOf day
  let doy := day - yearStart y
  let m := monthOf y doy
  (y, m, doy - monthStart y m + 1)

/-- Weekday of a day number, 1 Monday to 7 Sunday (15 R402). -/
def weekday (day : Nat) : Nat := (day + 5) % 7 + 1

/-- The last day of the range, 2399-12-31 (15 R403). -/
def lastDay : Nat := 146096

def leapDay (e : Nat) : Nat := e % 262144

/-- 0 inserts a second, 1 deletes one (15 R403). -/
def leapDir (e : Nat) : Bool := bit e 28

def leapValid (e : Nat) : Bool := bit e 31

/-- The net leaps before a count, and the day whose 23:59:60 the count is, if it is one (15 R404). -/
def leapScan (c : Nat) : List Nat → Int → Int × Option Nat
  | [], l => (l, none)
  | e :: es, l =>
    if leapValid e then
      let fin : Int := ((leapDay e + 1) * 86400 : Nat) + l
      if leapDir e then
        if (c : Int) < fin - 1 then (l, none) else leapScan c es (l - 1)
      else
        if (c : Int) < fin then (l, none)
        else if (c : Int) = fin then (l, some (leapDay e))
        else leapScan c es (l + 1)
    else leapScan c es l

/-- A calendar time. -/
structure CalTime where
  day : Nat
  hour : Nat
  min : Nat
  sec : Nat
deriving DecidableEq, Repr

/-- The calendar view of a count of seconds under a leap table (15 R404). -/
def calView (leaps : List Nat) (c : Nat) : CalTime :=
  match leapScan c leaps 0 with
  | (_, some d) => { day := d, hour := 23, min := 59, sec := 60 }
  | (l, none) =>
    let u := ((c : Int) - l).toNat
    { day := u / 86400, hour := u % 86400 / 3600, min := u % 3600 / 60, sec := u % 60 }

/-- Net leaps of the entries on days before a day. -/
def leapsBefore (leaps : List Nat) (day : Nat) : Int :=
  (leaps.filter fun e => leapValid e && decide (leapDay e < day)).foldl (fun l e => if leapDir e then l - 1 else l + 1) 0

/-- The count of a calendar time: the inverse of the view (15 R404). -/
def calCount (leaps : List Nat) (t : CalTime) : Nat :=
  (((t.day * 86400 + t.hour * 3600 + t.min * 60 + t.sec : Nat) : Int) + leapsBefore leaps t.day).toNat

/-- The direction of the leap at the end of a day, if the table has one. -/
def leapOn (leaps : List Nat) (day : Nat) : Option Bool :=
  (leaps.find? fun e => leapValid e && leapDay e == day).map leapDir

/-- The count at 2399-12-31 23:59:59 under a leap table (15 R411). -/
def rangeEndCount (leaps : List Nat) : Nat := calCount leaps { day := lastDay, hour := 23, min := 59, sec := 59 }

/-- UTC seconds since 1970 of a count: the old offset holds in an inserted second (03 R58, 15 R404). -/
def countUtc (leaps : List Nat) (c : Nat) : Nat := 946684800 + ((c : Int) - (leapScan c leaps 0).1).toNat

/-- Two decimal digits in BCD. -/
def bcd2 (v : Nat) : Nat := v / 10 % 10 * 16 + v % 10

/-- Four decimal digits in BCD. -/
def bcd4 (v : Nat) : Nat := bcd2 (v / 100) * 256 + bcd2 (v % 100)

/-- Whether every hexadecimal digit of n is at most 9. -/
def bcdOk (v : Nat) : Bool := v % 16 ≤ 9 && v / 16 % 16 ≤ 9 && v / 256 % 16 ≤ 9 && v / 4096 % 16 ≤ 9

def unbcd (v : Nat) : Nat := v % 16 + 10 * (v / 16 % 16) + 100 * (v / 256 % 16) + 1000 * (v / 4096 % 16)

end Sys2Proof.Machine
end

