-- ==== Sys2Proof/Machine/State.lean ====
section
/-! DEFINITION. The state of the block, its reset, and the reasons for which a step stops. -/

namespace Sys2Proof.Machine

/-- Everything the spec gives the block, the queue of waiting commands, and the model's own log of what the block puts on
its interfaces and its counter of free values. -/
structure State where
  /-- GLB registers, trace filter and MSI-X state (02 R40, 17 R437). -/
  glb : Glb := {}
  /-- The pins (19 R468). -/
  pins : Pins := {}
  /-- Command and reply rings, the MGP mailbox (02 R27, R28, R31, R35, R44). -/
  cmd : CmdIf := {}
  /-- The time base (03 R45-R58). -/
  tb : TimeBase := {}
  /-- The reference bus (03 R63). -/
  refBus : RefBus := {}
  /-- Phase requests pending (03 R64), by number, and the next number. -/
  phases : Map PhaseReq := []
  phaseNext : Nat := 0
  /-- Table banks 0 and 1 (01 R17) and GLB_STATE.BANK. -/
  bank0 : Bank := {}
  bank1 : Bank := {}
  active : Bool := false
  /-- Streams by SID (04 R103). -/
  streams : Map StreamRun := []
  /-- Filter chains by SID (05 R119). -/
  filters : Map FilterRun := []
  /-- The matching store (06 R129-R142). -/
  mst : Match := {}
  /-- The ready list and the cores (06 R148-R155). -/
  disp : Disp := {}
  /-- Detectors by instance (07). -/
  dets : Map DetRun := []
  /-- Schemes by number (08). -/
  schs : Map SchRun := []
  /-- R-GOOSE publications by index (12 R337). -/
  pubs : Map PubRun := []
  /-- Frames of C37.118 output streams on their way, by index (12 R334). -/
  outRuns : Map OutRun := []
  /-- Open voice channels by VCH (09 R224). -/
  vchs : Map VchRun := []
  /-- Flow entries (09 R227). -/
  flows : Map FlowRun := []
  /-- Capture definitions' running state by CAP (10). -/
  caps : Map CapRun := []
  /-- Output and injection queues, absent = as reset (11), and the DMA engine's turn (11 R302). -/
  oqs : Map Oq := []
  iqs : Map Iq := []
  dmaPtr : Nat := 0
  /-- Network ports, absent = as reset (12). -/
  ports : Map Port := []
  /-- The block's own frames that wait at each port (12 R323, 03 R71). -/
  txWait : Map (List TxHeld) := []
  /-- Wake table (12 R340). -/
  wake : Map WakeEntry := []
  /-- Gatehouse (13). -/
  gh : Gatehouse := {}
  /-- Castling (14). -/
  cas : Castling := {}
  /-- The real-time clock (15). -/
  rtc : Rtc := {}
  /-- The event recorder (16). -/
  rcd : Recorder := { seq := 1 }
  /-- The 512 counters, absent = 0 (17 R438), and each port's latched high word (02 R40). -/
  cnt : Map Nat := []
  cntHost : Option Nat := none
  cntMgp : Option Nat := none
  /-- Power, boot and waiting transitions (18). -/
  pwr : Power := {}
  /-- What the serial NOR holds apart from recorder and Gatehouse (18 R454, R456; 15 R413). -/
  nor : Nor := {}
  /-- The TAP's instruction register (17 R439). -/
  tapIr : Nat := 0x1
  /-- Commands waiting, first in, first out. -/
  pending : List Instr := []
  /-- What the block has put on its interfaces, newest first (the model's own). -/
  emitted : List Emission := []
  /-- How many free values have been drawn (the model's own). -/
  free : Nat := 0
deriving DecidableEq, Repr

/-- Why a step faults. -/
inductive Fault where
  /-- Raised by the idle tick alone, when the 48-bit seconds count of the time base (03 R45) would pass its last value:
  the spec gives no further count. Safe: the model stops where no effect is given. -/
  | timeBaseExhausted
deriving DecidableEq, Repr

/-- Why a step refuses. -/
inductive Refusal where
  /-- A row without a meaning, by its mnemonic. Raised by no arm of the finished model. Safe. -/
  | notModelled (mnemonic : String)
deriving DecidableEq, Repr

/-- The block right after reset: every register at the value of 02 R40, in AON_ONLY with PSTATE 1, tables and queues
empty, nothing waiting. -/
def State.reset : State := {}

end Sys2Proof.Machine
end

