-- ==== Sys2Proof/Machine/Ops.lean ====
section
/-! DEFINITION. The named operations every meaning is built from: the passage of time, what is put on an interface,
counters, interrupts, records, replies and the table banks. -/

namespace Sys2Proof.Machine

/-! ## Free values and emissions -/

/-- Draw a free value: nothing is known of it. -/
def drawFree (s : State) : Nat × State := (Config.freeValue s.free, { s with free := s.free + 1 })

/-- Put something on an interface. -/
def emit (e : Emission) (s : State) : State := { s with emitted := e :: s.emitted }

/-! ## Counters (17 R438) -/

def counter (s : State) (n : Nat) : Nat := mgetD s.cnt n 0

/-- Add to a counter, saturating at 2^64 - 1 (17 R438). -/
def countBy (n k : Nat) (s : State) : State :=
  { s with cnt := mput s.cnt n (satAdd (2 ^ 64 - 1) (counter s n) k) }

def count (n : Nat) (s : State) : State := countBy n 1 s

/-! ## Ports (12 R342) -/

def port (s : State) (p : Nat) : Port := mgetD s.ports p {}

def setPort (p : Nat) (r : Port) (s : State) : State := { s with ports := mput s.ports p r }

/-- Count i of a port and the device-wide counter of the same name (12 R342, R343). -/
def countPort (p i : Nat) (s : State) : State :=
  let r := port s p
  count (176 + i) (setPort p { r with counts := mput r.counts i (satAdd 0xFFFFFFFF (mgetD r.counts i 0) 1) } s)

/-! ## Time (03 R45, R46) -/

/-- One second in units of 2^-32 s. -/
def secU : Nat := 2 ^ 32

/-- The time base as stamps show it (03 R45). -/
def now (s : State) : Instant := s.tb.count / 2 ^ 32

/-- A duration in ns, formed exactly and rounded down once (03 R46). -/
def nsU (ns : Nat) : Nat := ns * 2 ^ 32 / 1000000000

def usU (us : Nat) : Nat := us * 2 ^ 32 / 1000000

def msU (ms : Nat) : Nat := ms * 2 ^ 32 / 1000

/-- An instant in whole ns of TAI, rounded down. -/
def toNs (t : Instant) : Nat := t * 1000000000 / 2 ^ 32

/-- Instant j of the grid of integer rate r, j counted from the epoch (03 R61). -/
def gridAt (r j : Nat) : Instant := j / r * 2 ^ 32 + j % r * 2 ^ 32 / r

/-- Instant j of the grid of rate r plus num/den s, formed exactly and rounded down once (03 R46). -/
def gridPlus (r j num den : Nat) : Instant := (j * den + num * r) * 2 ^ 32 / (r * den)

/-- Instant j of the grid of rate r less num/den s, formed exactly and rounded down once (03 R46). -/
def gridLess (r j num den : Nat) : Instant := (j * den - num * r) * 2 ^ 32 / (r * den)

/-- The number of the first grid instant at or after t. -/
def gridCeil (r : Nat) (t : Instant) : Nat := t / 2 ^ 32 * r + ceilDiv (t % 2 ^ 32 * r) (2 ^ 32)

/-- The number of the last grid instant at or before t. -/
def gridFloor (r : Nat) (t : Instant) : Nat :=
  t / 2 ^ 32 * r + (ceilDiv ((t % 2 ^ 32 + 1) * r) (2 ^ 32) - 1)

/-- Whether t is an instant of the grid. -/
def onGrid (r : Nat) (t : Instant) : Bool := 0 < r && gridAt r (gridFloor r t) = t

/-- The first second boundary at or after t. -/
def secCeil (t : Instant) : Instant := ceilDiv t (2 ^ 32) * 2 ^ 32

/-- The correction in force, in units of 2^-24 of the crystal's rate (15 R412). -/
def rtcRate (r : Rtc) : Int := r.curveTerm + r.steer

/-- The clock counts crystal cycles with its correction, and stops at the end of its range (15 R411, R412). -/
def rtcCycles (n : Nat) (r : Rtc) : Rtc :=
  if r.rangeEnd then r else
    let acc := r.acc + (n : Int) * rtcRate r
    let total := ((r.sec * 32768 + r.sub : Nat) : Int) + n + acc.tdiv (2 ^ 24)
    let top := rangeEndCount r.leaps * 32768 + 32767
    let c := min total.toNat (max top (r.sec * 32768 + r.sub))
    { r with acc := acc.tmod (2 ^ 24), sec := c / 32768, sub := c % 32768 }

/-- The clock over a time in units of 2^-64 s (15 R400). -/
def rtcElapse (d : Nat) (r : Rtc) : Rtc :=
  let p := r.phase + d * 32768
  rtcCycles (p / 2 ^ 64) { r with phase := p % 2 ^ 64 }

/-- Operating time over a time in units of 2^-64 s (16 R424). -/
def opElapse (d : Nat) (r : Recorder) : Recorder :=
  let p := r.opPhase + d * 1024
  { r with opPhase := p % 2 ^ 64, opTime := satAdd (2 ^ 40 - 1) r.opTime (p / 2 ^ 64) }

/-- The nominal increment of a CK_TB tick in units of 2^-64 s (03 R45). -/
def incrNominal : Nat := 73786976295

/-- The time base over d units of 2^-64 s of its own time: a slew goes on at the rate of the increment in force, until
nothing is left of it and the increment is nominal again (03 R45, R54). -/
def tbElapse (d : Nat) (b : TimeBase) : TimeBase :=
  let gone := ((incrNominal : Int) - b.incr) * d / (b.incr : Int)
  if b.slew = 0 ∨ b.slew.natAbs ≤ gone.natAbs then { b with count := b.count + d, slew := 0, incr := incrNominal }
  else { b with count := b.count + d, slew := b.slew - gone }

/-- A time of d units of 2^-64 s passes. -/
def elapse (d : Nat) (s : State) : State :=
  { s with
    tb := tbElapse d s.tb
    rtc := rtcElapse d s.rtc
    rcd := if s.pwr.ps = .off then s.rcd else opElapse d s.rcd }

/-- The time base reaches an instant; it never goes back. -/
def advanceTo (t : Instant) (s : State) : State := elapse (t * 2 ^ 32 - s.tb.count) s

/-! ## MSI-X vectors, status bits and alerts (02 R40, R42, R44) -/

/-- Word i of the MSI-X table. PRESUMED: the table of PCI Express, whose entries reset with their mask bit set. -/
def vecWord (s : State) (i : Nat) : Word32 := mgetD s.glb.vecTab i (if i % 4 = 3 then 1 else 0)

/-- Vector n's mask bit. -/
def vecMasked (s : State) (n : Nat) : Bool := (vecWord s (4 * n + 3)).getLsbD 0

/-- Raise an MSI-X vector (02 R42); while its mask is set its bit in the pending-bit array is set. -/
def raiseVector (n : Nat) (s : State) : State :=
  let s := emit (.vector n) s
  if vecMasked s n then { s with glb := { s.glb with vecPend := mput s.glb.vecPend n true } } else s

/-- Set a bit of GLB_IRQ_STATUS; an enabled bit raises vector 1. -/
def setIrq (b : Nat) (s : State) : State :=
  let s := { s with glb := { s.glb with irqStatus := s.glb.irqStatus ||| BitVec.ofNat 9 (2 ^ b) } }
  if s.glb.irqEnable.getLsbD b then raiseVector 1 s else s

/-- Set a bit of AON_ALERT. -/
def setAlert (b : Nat) (s : State) : State :=
  { s with pwr := { s.pwr with aonAlert := s.pwr.aonAlert ||| BitVec.ofNat 4 (2 ^ b) } }

/-- MGP_ALERT_N is asserted while an enabled AON_ALERT bit is set (02 R44). The pin follows the two registers and is held
nowhere else. -/
def mgpAlertN (s : State) : Bool := decide (s.pwr.aonAlert &&& s.pwr.aonAlertEn ≠ 0)

/-- Set a bit of CAS_IRQ and raise vector 90 (02 R42). -/
def setCasIrq (b : Nat) (s : State) : State :=
  raiseVector 90 { s with cas := { s.cas with irq := s.cas.irq ||| BitVec.ofNat 5 (2 ^ b) } }

/-! ## Where the block is -/

/-- The main side is powered and in IDLE or RUN. -/
def mainUp (s : State) : Bool := s.pwr.ps = .idle || s.pwr.ps = .run

def inRun (s : State) : Bool := s.pwr.ps = .run

def inIdle (s : State) : Bool := s.pwr.ps = .idle

/-- AON_ONLY or DORMANT: state D of the opcode table (02 R36). -/
def mainDown (s : State) : Bool := s.pwr.ps = .aonOnly || s.pwr.ps = .dormant

/-- ACTIVE or SOLO (02 R36). -/
def actRole (s : State) : Bool := s.cas.role = .active || s.cas.role = .solo

/-! ## Table banks (01 R17) -/

def activeBank (s : State) : Bank := if s.active then s.bank1 else s.bank0

def inactiveBank (s : State) : Bank := if s.active then s.bank0 else s.bank1

/-- Write the active bank. -/
def setActive (b : Bank) (s : State) : State := if s.active then { s with bank1 := b } else { s with bank0 := b }

/-- Write the inactive bank. -/
def setInactive (b : Bank) (s : State) : State := if s.active then { s with bank0 := b } else { s with bank1 := b }

/-- The schedule in force. -/
def sched (s : State) : Option SchedImg := (activeBank s).sched

/-- Fnom of the active schedule; 50 with none. -/
def fnom (s : State) : Nat := match sched s with
  | some i => i.fnom
  | none => 50

/-! ## UTC (03 R57, R58) -/

/-- TAI − UTC in force at an instant: it changes after the inserted second, or at the deleted one (03 R57, R58). An instant
before the last change has the offset that was in force before it. -/
def utcOffsetAt (s : State) (t : Instant) : Nat :=
  let past := match s.tb.lastLeap with
    | some (e, old, _) => if t / 2 ^ 32 < e then some old else none
    | none => none
  match past, s.tb.leapEnd with
  | some old, _ => old
  | none, some e =>
    if e ≤ t / 2 ^ 32 then (if s.tb.leap = 2 then s.tb.utcOffset - 1 else s.tb.utcOffset + 1) else s.tb.utcOffset
  | none, none => s.tb.utcOffset

/-- SOC of an instant (03 R58). -/
def socOf (s : State) (t : Instant) : Nat := t / 2 ^ 32 - utcOffsetAt s t

/-! ## The event recorder (16) -/

/-- LEN of a record (16 R418). -/
def recLen (r : Record) : Nat := 44 + ceilDiv r.detail.length 4 * 4

/-- Stored size of a record (16 R427). -/
def recSize (r : Record) : Nat := ceilDiv (recLen r + 12) 16 * 16

def recLive (l : List Record) : Nat := lsum l recSize

/-- PFLAGS[1:0] and UTC_SEC (16 R421). -/
def recUtc (s : State) : Nat × Nat :=
  if mainUp s ∧ s.tb.state ≠ .freerun then (1, socOf s (now s))
  else if s.rtc.lost then (0, 0)
  else (2, countUtc s.rtc.leaps s.rtc.sec)

/-- Step 1 of 16 R427 within one severity: oldest first, until the live records leave room. -/
def evictSev (sev need : Nat) : List Record → Nat → List Record
  | [], _ => []
  | r :: rs, live =>
    if live + need ≤ Config.recorderRoom then r :: rs
    else if r.sev = sev then evictSev sev need rs (live - recSize r)
    else r :: evictSev sev need rs live

/-- Step 1 of 16 R427: lowest severity first. -/
def evictUpTo (need : Nat) : Nat → List Record → List Record
  | 0, l => evictSev 0 need l (recLive l)
  | v + 1, l =>
    let l := evictUpTo need v l
    evictSev (v + 1) need l (recLive l)

def recDiscard (seq : Nat) (s : State) : State :=
  let s := { s with rcd := { s.rcd with
    discards := satAdd (2 ^ 32 - 1) s.rcd.discards 1
    owed := true
    owedN := s.rcd.owedN + 1
    owedFirst := if s.rcd.owed then s.rcd.owedFirst else seq
    owedLast := seq } }
  raiseVector 92 s

/-- A record is assigned its SEQ and staged, or discarded (16 R422, R425, R427). -/
def recStage (r : Record) (s : State) : State :=
  let live := s.rcd.live
  let s := { s with rcd := { s.rcd with seq := (s.rcd.seq + 1) % 2 ^ 32 } }
  let need := recSize r
  let staged := (live.filter (·.staged)).length
  if Config.stagingRoom ≤ staged then recDiscard r.seq s
  else
    let kept := if recLive live + need ≤ Config.recorderRoom then live else evictUpTo need r.sev live
    if recLive kept + need ≤ Config.recorderRoom then
      let s := { s with rcd := { s.rcd with live := kept ++ [r] } }
      if 5 ≤ r.sev then raiseVector 92 s else s
    else recDiscard r.seq s

/-- Assign and stage a record whose fields are given, stamped now (16 R418, R421, R423, R424). -/
def recAdd (sev cls code origin textFlag subject arg0 arg1 : Nat) (detail : Bytes) (s : State) : State :=
  let (src, utc) := recUtc s
  recStage
    { sev := sev, cls := cls, seq := s.rcd.seq, cycles := s.rcd.cycles, opTime := s.rcd.opTime, code := code
      origin := origin, pflags := src + 4 * textFlag, subject := subject % 2 ^ 32, arg0 := arg0 % 2 ^ 32
      arg1 := arg1 % 2 ^ 32, utc := utc, detail := detail.take 980 } s

/-- A record of the device itself whose DETAIL names the event and its quantities (16 R420). -/
def noteI (sev cls : Nat) (name items : Bytes) (subject arg0 arg1 : Nat) (s : State) : State :=
  recAdd sev cls (1 + Config.recCode cls name % 0xEFFF) 3 1 subject arg0 arg1 (name ++ items) s

def note (sev cls : Nat) (name : Bytes) (subject arg0 arg1 : Nat) (s : State) : State :=
  noteI sev cls name [] subject arg0 arg1 s

/-- A NAME=value item of DETAIL (16 R420). -/
def item (name : Bytes) (v : Nat) : Bytes := (32 : Byte) :: name ++ (61 : Byte) :: decText v

/-- Write an owed summary (16 R428). DEDUCED: one that is itself discarded leaves the records it would name owed with it. -/
def recSummary (s : State) : State :=
  if s.rcd.owed then
    let (n, a, b) := (s.rcd.owedN, s.rcd.owedFirst, s.rcd.owedLast)
    let s := recAdd 7 0 1 3 0 n a b [] { s with rcd := { s.rcd with owed := false, owedN := 0, owedFirst := 0, owedLast := 0 } }
    if s.rcd.owed then { s with rcd := { s.rcd with owedN := n + s.rcd.owedN, owedFirst := a } } else s
  else s

/-! ## Replies (02 R28, R30, R33) -/

def ringLen (log2 : Nat) : Nat := 2 ^ log2

/-- The reply ring is full (02 R27, R28). -/
def rplqFull (s : State) : Bool := (s.cmd.rqTail + 1) % ringLen s.cmd.rqSize = s.cmd.rqHead

/-- Write a reply at RPLQ_TAIL and raise vector 0 (02 R28, R42). The reply that fills the ring sets RPLQ_FULL. -/
def putHostReply (r : Reply) (noIrq : Bool) (s : State) : State :=
  let slot := s.cmd.rqTail
  let s := emit (.reply (some slot) r) { s with cmd := { s.cmd with rqTail := (slot + 1) % ringLen s.cmd.rqSize } }
  let s := if rplqFull s then setIrq 7 s else s
  if noIrq then s else raiseVector 0 s

/-- The control firmware has faulted and not recovered: commands go unanswered (01 R16). -/
def fwDown (s : State) : Bool := mainUp s && s.pwr.fwFault

/-- A reply waits until its origin can take it: no reply is dropped (02 R28). -/
def holdReply (r : Reply) (noIrq : Bool) (s : State) : State :=
  { s with cmd := { s.cmd with replyWait := s.cmd.replyWait ++ [(r, noIrq)] } }

/-- Post a reply to its origin: the reply ring, the MGP's reply mailbox, or nowhere for a forwarded command (14 R382).
A reply waits while the firmware is down (01 R16), and a host reply while its ring is full or off. -/
def postReply (r : Reply) (noIrq : Bool) (s : State) : State :=
  match r.origin with
  | .host => if fwDown s || !s.cmd.rqEn || rplqFull s then holdReply r noIrq s else putHostReply r noIrq s
  | .mgp =>
    if fwDown s then holdReply r noIrq s
    else setAlert 0 (emit (.reply none r) { s with cmd := { s.cmd with replyBox := some r } })
  | .twin => s

/-- Post the second reply of a QUEUED command (02 R30). -/
def finalReply (w : Waiter) (status : Nat) (s : State) : State :=
  postReply { origin := w.origin, status, opcode := w.opcode, tag := w.tag, final := true, result := [] } w.noIrq s

def originCode : Origin → Nat
  | .host => 0
  | .mgp => 1
  | .twin => 2

/-- A status of class 0x01xx: the command is malformed (02 R25). -/
def malformed (status : Nat) : Bool := status / 256 = 1

/-- Keep the reply of the last command executed from an origin (02 R31). -/
def storeReply (l : LastCmd) (s : State) : State :=
  match l.reply.origin with
  | .host => { s with cmd := { s.cmd with lastHost := some l } }
  | .mgp => { s with cmd := { s.cmd with lastMgp := some l } }
  | .twin => s

/-- A command ends, or is registered as QUEUED: it is counted or recorded, and its reply is stored and posted (02 R25,
R30, R31). -/
def closeCommand (w : Waiter) (sev : Option Nat) (crc : Nat) (params : Bytes) (status : Nat) (dry : Bool) (result : Bytes)
    (s : State) : State :=
  let s :=
    if malformed status then (match w.origin with
      | .host => count 0 s
      | .mgp => count 1 s
      | .twin => s)
    else match sev, dry with
      | some v, false => recAdd v 2 w.opcode (originCode w.origin) 0 w.seq (w.tag + status * 65536) 0 params s
      | _, _ => s
  let r : Reply := { origin := w.origin, status, opcode := w.opcode, tag := w.tag, final := status ≠ 1 || dry, result }
  postReply r w.noIrq (storeReply { opcode := w.opcode, seq := w.seq, crc, reply := r } s)

/-- Post the replies that wait, in order; those that still cannot be posted go on waiting. -/
def drainReplies (s : State) : State :=
  s.cmd.replyWait.foldl (fun s e => postReply e.1 e.2 s) { s with cmd := { s.cmd with replyWait := [] } }

/-! ## Outcomes -/

/-- Every row ends in a next state. -/
def done (s : State) : Host.Outcome State Fault Refusal := .next s

/-! ## Issues of the schedule (03 R68) -/

/-- Issue i of an entry within a second. -/
def issueAt (e : SchedEntry) (sec i : Nat) : Instant := sec * secU + (e.a + i * e.m) * secU / e.q

/-- The second and number of an entry's first issue at or after an instant. -/
def issueNext (e : SchedEntry) (t : Instant) : Nat × Nat :=
  let i := ceilDiv (ceilDiv (t % secU * e.q) secU - e.a) e.m
  if i < e.n then (t / secU, i) else (t / secU + 1, 0)

/-- The first issue of an entry at or after an instant. -/
def issueFrom (e : SchedEntry) (t : Instant) : Instant := issueAt e (issueNext e t).1 (issueNext e t).2

/-- The issue of an entry that falls on an instant. -/
def issueHit (e : SchedEntry) (t : Instant) : Option Nat :=
  let n := issueNext e t
  if issueAt e n.1 n.2 = t then some n.2 else none

/-- One slot after an issue, formed exactly and rounded down once: the hold limit of its release (03 R46, 06 R155). -/
def issueLimit (fn : Nat) (e : SchedEntry) (sec i : Nat) : Instant :=
  ((sec * e.q + e.a + i * e.m) * fn + e.q) * secU / (e.q * fn)

end Sys2Proof.Machine
end

