-- ==== Sys2Proof/Machine/Flags.lean ====
section
/-! DEFINITION. The status words and the values computed from the state: GLB_STATE, TB_STATUS, the power budget, the
estimated error and its time-quality code, and the Castling health word. -/

namespace Sys2Proof.Machine

/-! ## Power (18) -/

/-- GLB_STATE.PSTATE (02 R40); OFF has no code, because nothing can be read in it (18 R447). -/
def pstateCode : PState → Nat
  | .off => 0
  | .aonOnly => 1
  | .boot => 2
  | .idle => 3
  | .run => 4
  | .dormant => 5

/-- GLB_STATE.ROLE (14 R370). -/
def roleCode : Role → Nat
  | .solo => 0
  | .active => 1
  | .standby => 2
  | .stalemate => 3

/-- The role that a code names. -/
def roleOfCode (n : Nat) : Option Role := [Role.solo, .active, .standby, .stalemate][n]?

/-- The budget of a delivering interface (18 R441). -/
def pdBudget (p : Pd) : Nat := if 8 ≤ p.alloc then 58000 else if 6 ≤ p.alloc then 45000 else 0

/-- The module's budget in mW (18 R441). -/
def budget (s : State) : Nat :=
  if s.pwr.pdA.delivering ∨ s.pwr.pdB.delivering then
    max (if s.pwr.pdA.delivering then pdBudget s.pwr.pdA else 0) (if s.pwr.pdB.delivering then pdBudget s.pwr.pdB else 0)
  else if s.pwr.vinOk then 58000 else 0

/-- GET_STATE.SOURCE (02 R39). -/
def powerSource (s : State) : Nat :=
  if s.pwr.pdA.delivering ∨ s.pwr.pdB.delivering then 1 else if s.pwr.vinOk then 2 else 0

def pdByte (p : Pd) : Nat := b2n p.delivering + p.alloc * 16

/-- POWER_MW of the image in the active bank (02 R39). -/
def imageMw (s : State) : Nat := match sched s with
  | some i => i.powerMw
  | none => 0

/-- GLB_STATE (02 R40). -/
def glbStateWord (s : State) : Nat :=
  pstateCode s.pwr.ps + roleCode s.cas.role * 16 + b2n (s.pwr.fwImg = some 1) * 64 + b2n s.active * 128
    + b2n s.pwr.pdA.delivering * 256 + b2n s.pwr.pdB.delivering * 512 + b2n (budget s = 45000) * 1024
    + b2n (s.tb.state = .locked) * 2048

/-- AON_STATUS (02 R44). -/
def aonStatusWord (s : State) : Nat :=
  b2n s.pwr.vinOk + b2n s.pwr.mainUp * 2 + b2n s.pwr.vbatOk * 4 + b2n s.pwr.pwrFail * 8 + b2n (s.pwr.ps = .dormant) * 16

/-! ## Time base (03) -/

/-- e0 of the source that gave the lock (03 R53). -/
def errBase (s : State) : Nat := if s.tb.lockSrc = 1 then 20 else 50

/-- REF10M is configured and in use (03 R50). -/
def ref10mInUse (s : State) : Bool := bit s.tb.cfg.options 0 && s.tb.refPresent

/-- The estimated error e in ns; none in FREERUN (03 R53). DESIGN CHOICE: the presence of REF10M_IN at the moment of reading
sets the rate for the whole of the holdover; the spec does not say how a change within it counts. -/
def estErr (s : State) : Option Nat :=
  match s.tb.state with
  | .locked => some (errBase s)
  | .holdover =>
    let t := now s - s.tb.holdFrom
    some (errBase s + (if ref10mInUse s then 1000 * t / (3600 * secU) else 5000 * t / (60 * secU)))
  | .freerun => none

/-- The time-quality indicator code of the block's own frames (03 R60). -/
def tqCode (s : State) : Nat :=
  match s.tb.state with
  | .locked => 0
  | .freerun => 15
  | .holdover =>
    match estErr s with
    | none => 15
    | some e =>
      match ((List.range 8).map (· + 4)).find? (fun c => decide (e ≤ 10 ^ (c - 1))) with
      | some c => c
      | none => 15

/-- TB_STATUS (02 R40). -/
def tbStatusWord (s : State) : Nat :=
  b2n (s.tb.state = .locked) + b2n (s.tb.state = .holdover) * 2 + b2n (s.tb.state = .freerun) * 4 + s.tb.leap * 8
    + b2n (match s.tb.ppsEdge with
      | some e => decide (now s < e + 3 * secU / 2)
      | none => false) * 32

/-- TB_CTRL (02 R40). -/
def tbCtrlWord (s : State) : Nat := s.tb.cfg.source % 4 + b2n (ref10mInUse s) * 4

/-- The slot that holds an instant (03 R61). -/
def slotOf (s : State) (t : Instant) : Nat := gridFloor (fnom s) t % fnom s

/-- TB_SLOT; both fields 0 with no active schedule (03 R61). -/
def tbSlotWord (s : State) : Nat :=
  match sched s with
  | none => 0
  | some i => slotOf s (now s) + b2n (i.fnom = 60) * 256

/-- The first slot boundary at or after an instant. -/
def slotCeil (s : State) (t : Instant) : Instant := gridAt (fnom s) (gridCeil (fnom s) t)

/-- The last slot boundary at or before an instant. -/
def slotFloor (s : State) (t : Instant) : Instant := gridAt (fnom s) (gridFloor (fnom s) t)

/-- The slot boundary n slots after one. -/
def slotAdd (s : State) (b : Instant) (n : Nat) : Instant := gridAt (fnom s) (gridFloor (fnom s) b + n)

/-- The slot boundary n slots before one. -/
def slotSub (s : State) (b : Instant) (n : Nat) : Instant := gridAt (fnom s) (gridFloor (fnom s) b - n)

/-- The 60 s before a leap at second e, with the inserted second (03 R58). -/
def leapWindow (e : Nat) (del : Bool) (t : Instant) : Bool :=
  decide (e - 60 - (if del then 0 else 1) ≤ t / 2 ^ 32) && decide (t / 2 ^ 32 < e)

/-- Leap Second Pending at an instant, of the leap that is announced or of the last one (03 R57, R58). -/
def lsp (s : State) (t : Instant) : Bool :=
  (match s.tb.leapEnd with
    | some e => s.tb.leap ≠ 0 && leapWindow e (s.tb.leap = 2) t
    | none => false)
  || (match s.tb.lastLeap with
    | some (e, _, del) => leapWindow e del t
    | none => false)

/-- Leap Second Occurred at an instant: for 24 h from the second after the leap (03 R58). -/
def lso (s : State) (t : Instant) : Bool :=
  match s.tb.lastLeap with
  | some (f, _, _) => decide (f ≤ t / 2 ^ 32) && decide (t / 2 ^ 32 < f + 86400)
  | none => false

/-- The direction of the leap that a frame's bits speak of: 1 for a deletion (03 R58). -/
def leapDir1 (s : State) (t : Instant) : Bool :=
  let last := match s.tb.lastLeap with
    | some (e, _, del) => del && (leapWindow e del t || lso s t)
    | none => false
  let next := match s.tb.leapEnd with
    | some e => s.tb.leap = 2 && leapWindow e true t
    | none => false
  last || next

/-- The time-quality byte of a frame for an instant (03 R58, R60). PRESUMED: the bit places of IEEE C37.118.2, direction
6, occurred 5, pending 4, code 3-0. -/
def tqByte (s : State) (t : Instant) : Nat :=
  b2n (leapDir1 s t) * 64 + b2n (lso s t) * 32 + b2n (lsp s t) * 16 + tqCode s

/-- The reference bus is valid at an instant: settled, its newest valid sample at most 2 cycles old (03 R66). -/
def refValid (s : State) (t : Instant) : Bool :=
  (match sched s with
    | some i => i.refbusCid ≠ 0xFFFFFFFF
    | none => false) && s.refBus.settled &&
  (match s.refBus.sample with
    | some u => decide ((t - u) * fnom s ≤ 2 * secU)
    | none => false)

/-! ## Castling (14) -/

/-- The schedule holds COPY entries. -/
def hasCopy (b : Bank) : Bool := match b.sched with
  | some i => i.entries.any (·.action == 5)
  | none => false

/-- Paired: PEER_DET is 1 and the active bank holds COPY entries (14 R372). -/
def paired (s : State) : Bool := s.pins.peerDet && hasCopy (activeBank s)

/-- The twin link runs on one lane (14 R379). -/
def oneLane (s : State) : Bool := s.cas.twinUp && (s.cas.lanes = 1 || s.cas.lanes = 2)

def portUp (s : State) (p : Nat) : Bool := (mgetD s.ports p {}).up

/-- Ports of PRES_PORTS whose link is down. -/
def presDown (s : State) : Nat :=
  ((List.range 6).filter fun p => bit s.cas.cfg.presPorts p && !portUp s p).length

/-- The health score (14 R389). -/
def healthScore (s : State) : Nat :=
  255 - (b2n s.cas.bistFail * 128 + b2n (8 ≤ s.cas.divcnt) * 128 + b2n s.pwr.fwFault * 128 + b2n s.pins.therm * 64
    + b2n s.cas.eyeWarn * 32 + b2n (oneLane s) * 32 + presDown s * 32
    + (match s.tb.state with
      | .holdover => 16
      | .freerun => 255
      | .locked => 0))

/-- CAS_HEALTH (02 R40). -/
def casHealthWord (s : State) : Nat :=
  s.cas.score + s.cas.divcnt * 256 + b2n s.cas.bistFail * 2 ^ 16 + b2n s.cas.eyeWarn * 2 ^ 17 + b2n s.cas.shadowOk * 2 ^ 18
    + s.cas.slotCount % 256 * 2 ^ 24

/-- CRC-32C of the stored CAS_CONFIG parameters matches the partner's (14 R378). -/
def casCfgMatch (s : State) : Bool := s.cas.peerCrc = some s.cas.cfg.crc

def lockerLoaded (s : State) (n : Nat) : Bool := match mget s.gh.lockers n with
  | some l => l.state = .loaded
  | none => false

/-- A locker that suits a use: LOADED, of one of the TYPEs, with the USAGE bit (13 R356, R368). -/
def lockerFor (s : State) (n usage : Nat) (types : List Nat) : Bool := match mget s.gh.lockers n with
  | some l => l.state = .loaded && types.contains l.type && bit l.usage usage
  | none => false

/-- Locker uses: signature of R-SV and R-GOOSE, alarm datagram, records and seals, SRTP by profile. -/
def spduLocker (s : State) (n : Nat) : Bool := lockerFor s n 2 [5, 6, 7]
def datagramLocker (s : State) (n : Nat) : Bool := lockerFor s n 3 [5]
def signLocker (s : State) (n : Nat) : Bool := lockerFor s n 4 [8]
def srtpLocker (s : State) (n profile : Nat) : Bool := lockerFor s n 1 [if profile ≤ 2 then 2 else profile]

/-- A data-path use of an unusable locker counts GH_USE_REFUSED (13 R356). -/
def useRefused (s : State) : State := count 211 s

/-- ELIGIBLE (14 R390). -/
def eligible (s : State) : Bool :=
  s.cas.role = .standby && decide (s.cas.cfg.minScore ≤ s.cas.score) &&
  (match s.cas.lastApplied with
    | some t => decide (slotSub s (slotFloor s (now s)) 2 ≤ t)
    | none => false) &&
  casCfgMatch s && lockerLoaded s 63

/-- The partner's last health word, at most 2 slots old, together with its role shows it ELIGIBLE (14 R392): the word
carries the score; the partner's role, its CAS_CONFIG CRC and the commits it acknowledges are heard beside it. -/
def peerEligible (s : State) : Bool :=
  s.cas.twinUp && s.cas.peerRole = some .standby && casCfgMatch s
  && decide (s.cas.cfg.minScore ≤ s.cas.peerHealth % 256) &&
  (match s.cas.peerHealthAt with
    | some t => decide (slotSub s (slotFloor s (now s)) 2 ≤ t)
    | none => false) && decide (s.cas.unacked.length ≤ 2)

/-- CAS_ROLE (02 R40). -/
def casRoleWord (s : State) : Nat :=
  roleCode s.cas.role + b2n (eligible s) * 4 + b2n s.pins.prefRole * 8 + b2n s.pins.peerDet * 16

/-- CAS_STATUS register (02 R40). -/
def casStatusWord (s : State) : Nat :=
  b2n s.cas.twinUp + b2n s.cas.hbOk * 2 + b2n s.cas.copyOk * 4 + b2n s.cas.diverge * 8

/-- The unit emits data-path outputs: SOLO or ACTIVE in RUN, or not paired (14 R370, R371). -/
def emits (s : State) : Bool := actRole s

end Sys2Proof.Machine
end

