-- ==== Sys2Proof/Machine/Trace.lean ====
section
/-! DEFINITION. The trace port and the filter before its FIFO (17 R434-R437). -/

namespace Sys2Proof.Machine

/-- Bytes in the trace FIFO at an instant: one leaves every 5 ns (17 R435). -/
def traceLevel (s : State) : Nat := s.glb.trcFifo - (toNs (now s) - toNs s.glb.trcAt) / 5

/-- Put a message into the FIFO; keep is the part of the FIFO it may not use (17 R436). -/
def tracePut (keep : Nat) (m : Bytes) (s : State) : State :=
  if !s.glb.trcEn then s else
    let lv := traceLevel s
    let lost := s.glb.trcLost
    let lostMsg : Bytes := if lost = 0 then [] else 8 :: (le 4 (now s % secU) ++ le 2 lost)
    if lv + lostMsg.length + m.length ≤ 4096 - keep then
      emit (.trace (lostMsg ++ m))
        { s with glb := { s.glb with trcFifo := lv + lostMsg.length + m.length, trcAt := now s, trcLost := 0 } }
    else { s with glb := { s.glb with trcFifo := lv, trcAt := now s, trcLost := satAdd 0xFFFF lost 1 } }

/-- A message of TYPE 2-7, when the filter selects the type (17 R437). -/
def traceMsg (ty : Nat) (payload : Bytes) (s : State) : State :=
  if s.glb.trcTypes.getLsbD (ty - 2) then tracePut 64 (BitVec.ofNat 8 ty :: (le 4 (now s % secU) ++ payload)) s else s

/-- SECOND (17 R435). -/
def traceSecond (s : State) : State := tracePut 0 (1 :: (le 4 (now s % secU) ++ le 6 (now s / secU))) s

/-- DISPATCH of a task placed in a local queue. -/
def traceDispatch (tid core step : Nat) (inst : Instant) (s : State) : State :=
  if s.glb.trcTidLo ≤ tid ∧ tid ≤ s.glb.trcTidHi then
    traceMsg 2 (le 2 tid ++ le 1 core ++ le 1 step ++ le 4 (inst % secU)) s else s

/-- MATCH: a group instance changes state. -/
def traceMatch (gid event missing : Nat) (inst : Instant) (s : State) : State :=
  if s.glb.trcGidLo ≤ gid ∧ gid ≤ s.glb.trcGidHi then
    traceMsg 3 (le 2 gid ++ le 1 event ++ le 2 missing ++ le 4 (inst % secU)) s else s

/-- DEADLINE: a DEADLINE issue is evaluated. -/
def traceDeadline (gid : Nat) (inst : Instant) (s : State) : State :=
  if s.glb.trcGidLo ≤ gid ∧ gid ≤ s.glb.trcGidHi then traceMsg 4 (le 2 gid ++ le 4 (inst % secU)) s else s

/-- COMMIT: a Castling commit is sent or applied. -/
def traceCommit (cseq nbytes : Nat) (s : State) : State :=
  traceMsg 6 (le 4 cseq ++ le 4 nbytes ++ le 1 (roleCode s.cas.role)) s

/-- OVERRUN or OVERRUN_ABORT is counted. -/
def traceOverrun (tid core kind : Nat) (inst : Instant) (s : State) : State :=
  if s.glb.trcTidLo ≤ tid ∧ tid ≤ s.glb.trcTidHi then
    traceMsg 7 (le 2 tid ++ le 1 core ++ le 1 kind ++ le 4 (inst % secU)) s else s

end Sys2Proof.Machine
end

