-- ==== Sys2Proof/Machine/Transmit.lean ====
section
/-! DEFINITION. Transmission of the block's own frames: priority, pause, the hold-back before PUBLISH instants, the transmit
buffers and egress timestamps (03 R71; 12 R322-R323, R327-R329). -/

namespace Sys2Proof.Machine

/-- Set a bit of NET_IRQ and raise the port's vector (02 R42). -/
def netIrq (p b : Nat) (s : State) : State :=
  let r := port s p
  raiseVector (82 + p) (setPort p { r with irq := r.irq ||| BitVec.ofNat 6 (2 ^ b) } s)

/-- The partner pauses a class of a port (12 R327). -/
def classPaused (s : State) (p c : Nat) : Bool :=
  match mget (port s p).paused c with
  | some t => decide (now s < t)
  | none => false

/-- The first port of a port's PRP pair. -/
def pairPort (p : Nat) : Nat := if p = 3 then 2 else if p = 5 then 4 else p

/-- An output's frames leave on a port: its own, or the other one of its pair with PRP (12 R331). -/
def outOnPort (d : OutDef) (p : Nat) : Bool := d.port == p || (bit d.flags 1 && decide (2 ≤ p) && pairPort p == pairPort d.port)

/-- The time that the longest frame PORT_CONFIG allows takes on a port, in units of 2^-32 s, rounded up (03 R71). DEDUCED:
MAX_FRAME bytes at 10 or 25 Gb/s. -/
def longestFrame (s : State) (p : Nat) : Nat :=
  ceilDiv ((port s p).cfg.maxFrame * 8 * secU) (if p < 2 then 10000000000 else 25000000000)

/-- A port holds back every other frame before a PUBLISH instant of its outputs (03 R71). -/
def heldBack (s : State) (p : Nat) : Bool :=
  inRun s && (match sched s with
    | none => false
    | some img => img.entries.any fun e => e.action == 7 && (match mget (activeBank s).outs e.target with
      | some d => outOnPort d p && decide (now s < issueFrom e (now s)) && decide (issueFrom e (now s) ≤ now s + longestFrame s p)
      | none => false))

/-- A stamp is due: it enters the port's queue, or the overflow latch takes its tag (12 R328, R329). -/
def egressStamp (p tag : Nat) (t : Instant) (s : State) : State :=
  let r := port s p
  if r.tsq.length < 64 then netIrq p 4 (setPort p { r with tsq := r.tsq ++ [{ tag := tag, stamp := t }] } s)
  else
    countPort p 13 (setPort p { r with
      ovfFirst := if r.ovf then r.ovfFirst else tag
      ovfLast := tag, lost := satAdd 0xFFFF r.lost 1, ovf := true } s)

/-- A frame leaves a port now, with its egress stamp where one is asked for; a Pdelay_Req is stamped for its own round trip
(03 R48). -/
def txLeaves (p : Nat) (w : TxHeld) (s : State) : State :=
  let s := countPort p 7 (emit w.e s)
  let s := match w.e with
    | .ptp q 1 seq => { s with tb := { s.tb with pdelaySent := mput s.tb.pdelaySent q (seq, now s) } }
    | _ => s
  match w.tag with
  | some tag => egressStamp p tag (now s) s
  | none => s

/-- The frames of a port that wait leave, highest class first and in order of readiness within a class, but for paused classes;
none while the port holds back (12 R323). -/
def txDrain (p : Nat) (s : State) : State :=
  if heldBack s p then s
  else
    let l := mgetD s.txWait p []
    let go := sortBy (fun w => 7 - w.cls) (l.filter fun w => !classPaused s p w.cls)
    go.foldl (fun s w => txLeaves p w s) { s with txWait := mput s.txWait p (l.filter fun w => classPaused s p w.cls) }

/-- One of the block's own frames is handed to a port; one at its PUBLISH instant is not held back. A frame that cannot leave
waits in its class's 64 KiB buffer, or is discarded when that is full (12 R323). -/
def txFrame (publish : Bool) (p : Nat) (w : TxHeld) (s : State) : State :=
  let s := if publish then s else txDrain p s
  if classPaused s p w.cls ∨ (!publish ∧ heldBack s p) then
    let l := mgetD s.txWait p []
    if 65536 < lsum (l.filter fun x => x.cls == w.cls) (fun x => x.len) + w.len then countPort p 9 s
    else { s with txWait := mput s.txWait p (l ++ [w]) }
  else txLeaves p w s

/-- One of the block's own frames without an egress stamp. -/
def txOwn (p c len : Nat) (e : Emission) (s : State) : State := txFrame false p { cls := c, len := len, tag := none, e := e } s

end Sys2Proof.Machine
end

