-- ==== Sys2Proof/Machine/TimeBase.lean ====
section
/-! DEFINITION. The time base: its sources, lock, correction, UTC and second boundaries (03 R45-R61), and the real-time
clock's steering at each second (15 R415). -/

namespace Sys2Proof.Machine

/-- 100 ppm of the nominal increment (03 R54). -/
def incrSpan : Nat := 7378697

/-- Nanoseconds in units of 2^-64 s. -/
def nsCount (x : Int) : Int := x * 2 ^ 64 / 1000000000

/-- A TIME record (16 R420): TB_STATUS, the offset and the estimated error. -/
def noteTime (sev : Nat) (name : Bytes) (s : State) : State :=
  note sev 3 name (tbStatusWord s) (unsgn 32 s.tb.offsetNs) ((estErr s).getD 0xFFFFFFFF) s

/-- The second boundary a step is about: the first not yet crossed (03 R61). -/
def nextSecond (s : State) : Instant :=
  let b := secCeil (now s)
  if s.tb.secDone = some (b / secU) then b + secU else b

/-- The time base is slewed by x units of 2^-64 s that it is ahead: the increment falls or rises by up to 100 ppm, at a rate
that the spec leaves to the servo, until x is taken up (03 R45, R54). -/
def slewBy (x : Int) (s : State) : State :=
  let (v, s) := drawFree s
  let rate := 1 + v % incrSpan
  { s with tb := { s.tb with
      slew := x, incr := if x = 0 then incrNominal else if 0 < x then incrNominal - rate else incrNominal + rate } }

/-- Step the time base by an offset of x ns from its source (03 R55). -/
def tbStep (x : Int) (s : State) : State :=
  let s := { s with tb := { s.tb with
    count := (s.tb.count - nsCount x).toNat, stepPending := none, stepRestart := none, slew := 0, incr := incrNominal
    goodRun := 0, secDone := none, todErr := 0 } }
  noteTime 5 nmTimeBaseStep (count 2 s)

/-- Entry to HOLDOVER (03 R52). -/
def enterHoldover (s : State) : State :=
  let s := { s with tb := { s.tb with state := .holdover, holdFrom := now s, goodRun := 0 } }
  noteTime 5 nmHoldover (raiseVector 93 (setIrq 4 s))

/-- A step that has to wait sets STEP_PENDING, and a LOCKED time base is in HOLDOVER while it waits (03 R54, R55). -/
def stepWaits (x : Int) (s : State) : State :=
  let fresh := s.tb.stepPending.isNone
  let s := { s with tb := { s.tb with stepPending := some x, goodRun := 0 } }
  let s := if s.tb.state = .locked then enterHoldover s else s
  if fresh then raiseVector 93 (noteTime 5 nmStepPending s) else s

/-- Correct an offset of x ns between the time base and its source (03 R54, R55). -/
def correct (x : Int) (s : State) : State :=
  if x.natAbs < 1000000 then
    slewBy (nsCount x) { s with tb := { s.tb with stepPending := none, stepRestart := none } }
  else if inIdle s then tbStep x s
  else if bit s.tb.cfg.options 1 then { s with tb := { s.tb with stepRestart := some x, goodRun := 0 } }
  else stepWaits x s

/-- An offset measured from the source (03 R52, R54): seconds below 100 ns run towards lock. -/
def measured (x : Int) (s : State) : State :=
  let s := { s with tb := { s.tb with
    offsetNs := x, sourceSeen := true
    goodRun := if x.natAbs < 100 then s.tb.goodRun + 1 else 0 } }
  correct x s

/-- Entry to LOCKED (03 R52). -/
def enterLocked (s : State) : State :=
  let s := { s with tb := { s.tb with state := .locked, lockSrc := s.tb.cfg.source } }
  noteTime 3 nmLocked (raiseVector 93 s)

/-! ## UTC (03 R57) -/

/-- The TAI second at which the offset changes for a leap at the end of the UTC day that holds a TAI second. -/
def leapAt (off tai : Nat) (leap : Nat) : Nat :=
  let dayEnd := ((tai - off) / 86400 + 1) * 86400
  if leap = 1 then dayEnd + off + 1 else dayEnd - 1 + off

/-- Put an offset and leap flags in force from a TAI second. -/
def utcInForce (off leap tai : Nat) (fromPtp : Bool) (s : State) : State :=
  { s with tb := { s.tb with utcOffset := off, leap := leap, utcFromPtp := fromPtp
                             leapEnd := if leap = 0 then none else some (leapAt off tai leap) } }

/-- LEAP61 and LEAP59 as TB_STATUS.LEAP shows them. -/
def leapCode (l61 l59 : Bool) : Nat := if l61 then 1 else if l59 then 2 else 0

/-- The table of sources names LEAP_SET (03 R57). -/
def leapSetRules (s : State) : Bool := s.tb.cfg.source ≠ 0 || !s.tb.utcFromPtp

/-- LEAP_SET_EFFECT: at the first second boundary after it, the stored values come into force (03 R57). -/
def execLeapSetEffect (s : State) : Host.Outcome State Fault Refusal :=
  if s.tb.storedWaiting ∧ leapSetRules s then
    let s := advanceTo (secCeil (now s)) s
    done (utcInForce s.tb.storedOffset (leapCode (bit s.tb.storedFlags 0) (bit s.tb.storedFlags 1)) (now s / secU) false
      { s with tb := { s.tb with storedWaiting := false } })
  else done s

/-- The clock's leap table takes a leap it does not hold (15 R405). -/
def rtcLeapAdd (day : Nat) (del : Bool) (s : State) : State :=
  if s.rtc.leaps.any (fun e => leapValid e && leapDay e == day) then s
  else
    let kept := s.rtc.leaps.takeWhile leapValid
    if 16 ≤ kept.length then note 5 3 nmLeapTableFull (tbStatusWord s) 0 0 s
    else
      let t := kept ++ [day + b2n del * 2 ^ 28 + 2 ^ 31] ++ s.rtc.leaps.drop (kept.length + 1)
      note 4 3 nmLeapEntryAdded (tbStatusWord s) 0 0
        { s with rtc := { s.rtc with leaps := t }, nor := { s.nor with leaps := some t } }

/-- LEAP_APPLIED: the offset steps and the flag clears (03 R57, R58). -/
def execLeapApplied (s : State) : Host.Outcome State Fault Refusal :=
  match s.tb.leapEnd with
  | none => done s
  | some e =>
    let s := advanceTo (e * secU) s
    let del := decide (s.tb.leap = 2)
    let step := fun o : Nat => if del then o - 1 else o + 1
    let off := step s.tb.utcOffset
    let day := ((e - off) / 86400 * 86400 - 1 - 946684800) / 86400
    let s := { s with tb := { s.tb with
      utcOffset := off, leap := 0, leapEnd := none, lastLeap := some (e, s.tb.utcOffset, del)
      storedOffset := if s.tb.utcFromPtp then s.tb.storedOffset else step s.tb.storedOffset
      storedFlags := if s.tb.utcFromPtp then s.tb.storedFlags else 0 } }
    done (rtcLeapAdd day del (raiseVector 93 s))

/-! ## PTP (03 R48) -/

/-- The domain in use (03 R78). -/
def ptpDomain (c : TimeConfig) : Nat :=
  if c.domain = 0xFF ∧ bit c.options 4 then (if c.profile = 0 then 0 else 254) else c.domain

/-- Whether a port takes part in PTP. -/
def ptpPort (s : State) (p : Nat) : Bool := mainUp s && s.tb.cfg.source = 0 && bit s.tb.cfg.ports p

/-- The order of the best-master-clock algorithm. PRESUMED: the comparison of IEEE 1588-2019 by priority, quality,
identity and steps. -/
def masterRank (a : Announce) : Nat :=
  ((((((a.prio1 * 256 + a.clockClass) * 256 + a.accuracy) * 65536 + a.variance) * 256 + a.prio2) * 2 ^ 64 + a.gmId) * 65536
    + a.steps) * 2 ^ 64 + a.sender

/-- Select the master among the ports heard. -/
def selectMaster (s : State) : State :=
  { s with tb := { s.tb with gmPort := match lminBy s.tb.masters (fun e => masterRank e.2) with
    | some (p, _) => p
    | none => 0xFF } }

/-- What the selected master's Announce says of UTC (03 R57). -/
def announceUtc (a : Announce) (s : State) : State :=
  if a.utcValid then
    let leap := leapCode a.leap61 a.leap59
    if s.tb.utcFromPtp ∧ s.tb.leap = leap ∧ s.tb.utcOffset = a.utcOffset then s
    else utcInForce a.utcOffset leap (now s / secU) true s
  else if s.tb.utcFromPtp then
    { s with tb := { s.tb with utcFromPtp := false, storedWaiting := true } }
  else s

/-- PTP_ANNOUNCE_RECEIVED (03 R48, R57). -/
def execPtpAnnounceReceived (p : Fin 6) (msg : Announce) (stamp : Instant) (s : State) :
    Host.Outcome State Fault Refusal :=
  if ptpPort s p ∧ msg.domain = ptpDomain s.tb.cfg then
    let s := countPort p 0 (advanceTo stamp s)
    let better := match mget s.tb.masters p with
      | none => true
      | some a => a.sender = msg.sender || masterRank msg < masterRank a
    if better then
      let s := selectMaster { s with tb := { s.tb with
        masters := mput s.tb.masters p msg, announceAt := mput s.tb.announceAt p stamp } }
      done (if s.tb.gmPort = p.val then announceUtc msg s else s)
    else done s
  else done s

/-- ANNOUNCE_RECEIPT_TIMEOUT: three intervals of 1 s without Announce (03 R48). -/
def execAnnounceReceiptTimeout (p : Fin 6) (s : State) : Host.Outcome State Fault Refusal :=
  match mget s.tb.announceAt p with
  | none => done s
  | some at_ =>
    let s := advanceTo (at_ + 3 * secU) s
    let s := selectMaster { s with tb := { s.tb with
      masters := mdel s.tb.masters p, announceAt := mdel s.tb.announceAt p
      syncStamps := mdel s.tb.syncStamps p } }
    done (match mget s.tb.masters s.tb.gmPort with
      | some a => announceUtc a s
      | none => s)

/-- The offset of the time base from the master (03 R48, R78). PRESUMED: the port's asymmetry is delay before the stamp. -/
def syncOffset (s : State) (p : Nat) (stamp : Instant) (m : PtpSync) : Int :=
  (toNs stamp : Int) - s.tb.cfg.asym.getD p 0 - ((m.originNs : Int) + m.corrNs + s.tb.pdelay.getD p 0)

/-- PTP_SYNC_RECEIVED: a Sync or Follow_Up of the selected master steers the time base (03 R48, R54). -/
def execPtpSyncReceived (p : Fin 6) (msg : PtpSync) (stamp : Instant) (s : State) : Host.Outcome State Fault Refusal :=
  let own : Bool := match mget s.tb.masters p with
    | some a => a.sender == msg.sender
    | none => false
  if ptpPort s p ∧ s.tb.gmPort = p.val ∧ own ∧ msg.domain = ptpDomain s.tb.cfg then
    let s := countPort p 0 (advanceTo stamp s)
    match msg.kind with
    | 0 => done (measured (syncOffset s p stamp msg) { s with tb := { s.tb with lastSync := stamp } })
    | 1 => done { s with tb := { s.tb with syncStamps := mput s.tb.syncStamps p (msg.seq, stamp, msg.corrNs), lastSync := stamp } }
    | _ =>
      match mget s.tb.syncStamps p with
      | some (q, t, corr) =>
        if q = msg.seq then
          done (measured (syncOffset s p t { msg with corrNs := msg.corrNs + corr }) { s with tb := { s.tb with syncStamps := mdel s.tb.syncStamps p } })
        else done s
      | none => done s
  else done s

/-- PTP_PDELAY_REQ_RECEIVED: answered as a two-step responder (03 R48). -/
def execPtpPdelayReqReceived (p : Fin 6) (seq domain : Nat) (stamp : Instant) (s : State) :
    Host.Outcome State Fault Refusal :=
  if ptpPort s p ∧ domain = ptpDomain s.tb.cfg then
    done (txOwn p 7 68 (.ptp p 3 seq) (txOwn p 7 68 (.ptp p 2 seq) (countPort p 0 (advanceTo stamp s))))
  else done s

/-- PTP_PDELAY_REQ_SEND: at each 1 s interval (03 R48). -/
def execPtpPdelayReqSend (p : Fin 6) (s : State) : Host.Outcome State Fault Refusal :=
  if ptpPort s p then
    let s := match mget s.tb.pdelaySent p with
      | some (_, t) => advanceTo (t + secU) s
      | none => s
    let q := (s.tb.pdelaySeq + 1) % 65536
    done (txOwn p 7 68 (.ptp p 1 q) { s with tb := { s.tb with pdelaySeq := q } })
  else done s

/-- PTP_PDELAY_RESP_RECEIVED: the mean link delay from the four stamps (03 R48). PRESUMED: the formula of IEEE 1588. -/
def execPtpPdelayRespReceived (p : Fin 6) (msg : PdelayResp) (stamp : Instant) (s : State) :
    Host.Outcome State Fault Refusal :=
  match mget s.tb.pdelaySent p with
  | some (q, t1) =>
    if ptpPort s p ∧ q = msg.seq ∧ msg.domain = ptpDomain s.tb.cfg then
      if msg.kind = 0 then
        done (countPort p 0 (advanceTo stamp { s with tb := { s.tb with
          pdelayGot := mput s.tb.pdelayGot p (q, msg.peerNs, stamp, msg.corrNs) } }))
      else if msg.kind = 2 then
        let d := ((toNs stamp : Int) - toNs t1 - msg.corrNs) / 2
        done (countPort p 0 (advanceTo stamp { s with tb := { s.tb with pdelay := lset s.tb.pdelay p d } }))
      else
        match mget s.tb.pdelayGot p with
        | some (g, t2, t4, corr) =>
          if g = q then
            let d := ((toNs t4 : Int) - toNs t1 - ((msg.peerNs : Int) - t2) - corr - msg.corrNs) / 2
            done (countPort p 0 (advanceTo stamp { s with tb := { s.tb with pdelay := lset s.tb.pdelay p d } }))
          else done s
        | none => done s
    else done s
  | none => done s

/-! ## PPS_IN, ZDA and REF10M (03 R49, R50) -/

/-- The offset in ns of an instant from the second nearest to it, and that second. -/
def nearSecond (t : Instant) : Int × Nat :=
  let k := (t + secU / 2) / secU
  ((toNs t : Int) - k * 1000000000, k)

/-- An edge less TIME_CONFIG.PPS_IN_DELAY (03 R49). -/
def ppsInstant (s : State) (e : Instant) : Instant := ((e : Int) - s.tb.cfg.ppsInDelay * 2 ^ 32 / 1000000000).toNat

/-- PPS_IN_EDGE (03 R49). -/
def execPpsInEdge (stamp : Instant) (s : State) : Host.Outcome State Fault Refusal :=
  if mainUp s then
    let s := advanceTo stamp s
    -- a second without a sentence breaks a run of disagreeing ones
    let run := if s.tb.zdaEdge = s.tb.ppsEdge then s.tb.ppsDisagree else 0
    let s := { s with tb := { s.tb with ppsEdge := some stamp, ppsDisagree := run } }
    done (if s.tb.cfg.source = 1 ∧ s.tb.todSet then
      measured ((nearSecond (ppsInstant s stamp)).1 + s.tb.todErr * 1000000000) s else s)
  else done s

/-- The time of day is corrected to the second that a sentence names, d seconds behind the count (03 R49, R54). -/
def todCorrect (x d : Int) (s : State) : State :=
  correct x { s with tb := { s.tb with todSet := true, ppsDisagree := 0, sourceSeen := true, offsetNs := x, todErr := d } }

/-- ZDA_SENTENCE: the sentence names the second of the last edge, once (03 R49). -/
def execZdaSentence (ok : Bool) (utc : Nat) (s : State) : Host.Outcome State Fault Refusal :=
  match s.tb.ppsEdge with
  | none => done s
  | some e =>
    if ok ∧ mainUp s ∧ s.tb.cfg.source = 1 ∧ now s < e + msU 950 ∧ s.tb.zdaEdge ≠ some e then
      let s := { s with tb := { s.tb with zdaEdge := some e } }
      let t := ppsInstant s e
      let tai := utc + utcOffsetAt s t
      let x : Int := (toNs t : Int) - (tai : Int) * 1000000000
      let d : Int := ((nearSecond t).2 : Int) - tai
      if !s.tb.todSet then done (todCorrect x d s)
      else if d = s.tb.todErr then done { s with tb := { s.tb with ppsDisagree := 0 } }
      else if s.tb.ppsDisagree + 1 < 3 then done { s with tb := { s.tb with ppsDisagree := s.tb.ppsDisagree + 1 } }
      else done (todCorrect x d s)
    else done s

/-- REF10M_LOST (03 R50). -/
def execRef10mLost (s : State) : Host.Outcome State Fault Refusal :=
  done { s with tb := { s.tb with refPresent := false } }

/-- REF10M_RESTORED: 10 s after the signal is present again (03 R50). -/
def execRef10mRestored (s : State) : Host.Outcome State Fault Refusal :=
  done { s with tb := { s.tb with refPresent := true } }

/-! ## Lock and holdover (03 R52) -/

/-- TB_LOCKED: 16 consecutive seconds with an offset below 100 ns. -/
def execTbLocked (s : State) : Host.Outcome State Fault Refusal :=
  if mainUp s ∧ 16 ≤ s.tb.goodRun ∧ s.tb.state ≠ .locked ∧ s.tb.stepPending.isNone ∧ s.tb.stepRestart.isNone then
    done (enterLocked s)
  else done s

/-- When the source counts as lost: 3 s after the last Sync, or 1.5 s after the last edge (03 R52). -/
def lossDue (s : State) : Instant :=
  if s.tb.cfg.source = 1 then s.tb.ppsEdge.getD 0 + 3 * secU / 2 else s.tb.lastSync + 3 * secU

/-- TB_HOLDOVER_ENTRY: the source is lost after lock, and PTP has no other master. -/
def execTbHoldoverEntry (s : State) : Host.Outcome State Fault Refusal :=
  if s.tb.state = .locked ∧ s.tb.cfg.source ≠ 2
      ∧ (s.tb.cfg.source = 0 → (mdel s.tb.masters s.tb.gmPort).isEmpty) then
    done (enterHoldover (advanceTo (lossDue s) s))
  else done s

/-! ## Second boundaries (03 R61, 15 R415) -/

/-- The clock's error against the time base at a second boundary, in SUB. -/
def rtcError (s : State) (b : Instant) : Int :=
  ((s.rtc.sec * 32768 + s.rtc.sub : Nat) : Int) - ((b / secU : Nat) - 946684832 : Int) * 32768

/-- The steering term for an error, clamped to ±100 ppm (15 R415). -/
def rtcSteerTerm (e : Int) : Int := max (-1677) (min 1677 (-(e * 32)))

/-- The firmware compares the clock with a LOCKED time base (15 R415). -/
def rtcSteer (b : Instant) (s : State) : State :=
  if s.tb.state ≠ .locked then { s with rtc := { s.rtc with steer := 0, loadNext := false } }
  else if s.rtc.rangeEnd then s
  else if s.rtc.loadNext then
    noteTime 3 nmRtcLoaded { s with rtc := { s.rtc with
      sec := b / secU - 946684832, sub := 0, phase := 0, lost := false, loadNext := false, steer := 0 } }
  else
    let e := rtcError s b
    if s.rtc.lost ∨ 2 * 32768 ≤ e.natAbs * 1000 then { s with rtc := { s.rtc with loadNext := true } }
    else { s with rtc := { s.rtc with steer := rtcSteerTerm e } }

/-- PPS_OUT and TOD_TX speak (03 R50). -/
def timeOutputs (s : State) : Bool := s.tb.state ≠ .freerun || bit s.tb.cfg.options 2

/-- A second of the time base is an inserted one, 23:59:60 (03 R57, R58). -/
def insertedSecond (s : State) (sec : Nat) : Bool :=
  (s.tb.leap = 1 && s.tb.leapEnd == some (sec + 1)) || (match s.tb.lastLeap with
    | some (e, _, del) => !del && e == sec + 1
    | none => false)

/-- SECOND_BOUNDARY (03 R50, R61; 15 R415; 17 R435). -/
def execSecondBoundary (s : State) : Host.Outcome State Fault Refusal :=
  if mainUp s then
    let b := nextSecond s
    let s := advanceTo b s
    let s := { s with tb := { s.tb with secDone := some (b / secU) } }
    let s := if timeOutputs s then
      emit (.tod (socOf s b - b2n (insertedSecond s (b / secU))) (insertedSecond s (b / secU))) (emit (.pin 2 false (b + usU s.tb.cfg.ppsOutWidth)) (emit (.pin 2 true b) s)) else s
    done (rtcSteer b (traceSecond s))
  else done s

/-- A write of TB_SNAP.CAPTURE latches the time base (02 R40). -/
def tbSnap (s : State) : State := { s with tb := { s.tb with snapSec := now s / secU, snapFrac := now s % secU } }

def execTbSnapCapture (s : State) : Host.Outcome State Fault Refusal := done (if mainUp s then tbSnap s else s)

/-! ## Phase requests (03 R63-R66) -/

/-- Schedule a phase request whose anchor is num/den s; 32 bits as 03 R64 encodes them. -/
def addPhaseAt (num den word : Nat) (act : PhaseAct) (s : State) : State :=
  { s with phases := mput s.phases s.phaseNext
             { num, den, anchor := num * secU / den, phi := bits word 15 0, cyc := bits word 19 16, skip := bit word 24, act := act }
           phaseNext := s.phaseNext + 1 }

/-- Schedule a phase request whose anchor is a stamp. -/
def addPhase (anchor : Instant) (word : Nat) (act : PhaseAct) (s : State) : State := addPhaseAt anchor secU word act s

/-- The nominal instant of a request: the anchor plus (n + phi/2pi)/Fnom, formed exactly and rounded once (03 R46, R66). -/
def phaseNominal (s : State) (r : PhaseReq) : Instant :=
  (r.num * (65536 * fnom s) + (r.cyc * 65536 + r.phi) * r.den) * secU / (r.den * (65536 * fnom s))

/-- The tracked angle at an instant, in units of 2^-64 turns: at the newest sample, plus frequency times time. -/
def phaseAt (b : RefBus) (u t : Instant) : Int := b.theta + (b.freq : Int) * ((t : Int) - u) * 2 ^ 16

/-- The number of the first reference cycle that starts at or after an instant (03 R64). -/
def firstCycle (b : RefBus) (u t : Instant) : Int := -(-phaseAt b u t / 2 ^ 64)

/-- The instant at which the tracked angle reaches phi within cycle n (03 R64, R65). Cycle 0, once a sample at or after the
anchor has fixed it, stays what it is; before, it is predicted. -/
def phasePredict (s : State) (r : PhaseReq) : Option Instant :=
  match s.refBus.sample with
  | none => none
  | some u =>
    if s.refBus.freq = 0 then none else
      let n0 := r.cycle0.getD (firstCycle s.refBus u r.anchor)
      let goal : Int := (n0 + r.cyc) * 2 ^ 64 + (r.phi : Int) * 2 ^ 48
      some ((u : Int) + (goal - s.refBus.theta) / ((s.refBus.freq : Int) * 2 ^ 16)).toNat

/-- A new reference sample at u: the angle counts on through every turn, and fixes cycle 0 of each request whose anchor it
has reached (03 R63, R64). theta comes within one turn. -/
def refSample (b : RefBus) (s : State) : State :=
  match b.sample with
  | none => s
  | some u =>
    let theta := match s.refBus.sample with
      | some v => b.theta + 2 ^ 64 * ((phaseAt s.refBus v u - b.theta + 2 ^ 63) / 2 ^ 64)
      | none => b.theta
    let b := { b with theta := theta }
    { s with
      refBus := b
      phases := mmap s.phases fun _ r =>
        if r.cycle0.isNone ∧ r.anchor ≤ u then { r with cycle0 := some (firstCycle b u r.anchor) } else r }

/-- The scheme sees the outcome of its request: 2 taken, 3 taken by fallback, 4 skipped (08 R197). -/
def phaseOutcome (a : PhaseAct) (v : Nat) (s : State) : State :=
  match a with
  | .pin sch pin _ => { s with schs := mmod s.schs sch fun r => { r with phaseStat := mput r.phaseStat pin v } }
  | .capture .. => s

/-- PHASE_TARGET_FIX: 250 µs before the predicted instant (03 R65, R66). -/
def execPhaseTargetFix (id : Nat) (s : State) : Host.Outcome State Fault Refusal :=
  match mget s.phases id with
  | none => done s
  | some r =>
    if r.target.isSome then done s else
      let pred := (phasePredict s r).getD (phaseNominal s r)
      let s := advanceTo (pred - usU 250) s
      if refValid s (now s) then
        done { s with phases := mput s.phases id { r with target := some pred } }
      else if r.skip then
        done (phaseOutcome r.act 4 (count 4 { s with phases := mdel s.phases id }))
      else
        done (count 3 { s with phases := mput s.phases id { r with target := some (phaseNominal s r), fallback := true } })

/-! ## The idle tick -/

/-- One CK_TB tick: the time base adds its increment (03 R45). -/
def tick (s : State) : Host.Outcome State Fault Refusal :=
  if s.tb.count + s.tb.incr < 2 ^ 112 then done (elapse s.tb.incr s) else .fault .timeBaseExhausted

end Sys2Proof.Machine
end

