-- ==== Sys2Proof/Machine/RtcBlock.lean ====
section
/-! DEFINITION. The real-time clock's registers: freeze, setting, views, compensation and lock (15). -/

namespace Sys2Proof.Machine

/-- A master's port reaches the block: the host while the main side is up, in BOOT too (02 R36), the MGP while the always-on
domain runs (02 R44). -/
def portAlive (s : State) : Master → Bool
  | .host => mainUp s || s.pwr.ps = .boot
  | .mgp => s.pwr.ps ≠ .off

def masterOrigin : Master → Nat
  | .host => 0
  | .mgp => 1

def rtcPort (r : Rtc) : Master → RtcPort
  | .host => r.host
  | .mgp => r.mgp

def setRtcPort (m : Master) (p : RtcPort) (s : State) : State :=
  match m with
  | .host => { s with rtc := { s.rtc with host := p } }
  | .mgp => { s with rtc := { s.rtc with mgp := p } }

/-- STALE, LOCKED, LOST and RANGE_END (02 R40). -/
def rtcFlags (r : Rtc) : Nat := b2n r.stale + b2n r.locked * 2 + b2n r.lost * 4 + b2n r.rangeEnd * 8

/-- RTC_STATUS (02 R40). -/
def rtcStatusWord (r : Rtc) : Nat := rtcFlags r + b2n r.impossible * 16 + b2n r.calendar * 32

/-- The view of C that MODE selects (15 R401, R402). -/
def rtcView (r : Rtc) : RtcRegs :=
  if r.calendar then
    let t := calView r.leaps r.sec
    let (y, mo, d) := dateOf t.day
    { sub := r.sub, r1 := bcd2 t.sec, r2 := bcd2 t.min, hour := bcd2 t.hour, day := bcd2 d, wday := weekday t.day
      month := bcd2 mo, year := bcd4 y }
  else
    { sub := r.sub, r1 := r.sec % 2 ^ 32, r2 := r.sec / 2 ^ 32 % 256, hour := 0, day := 0, wday := 0, month := 0, year := 0 }

/-- Copy the view and the flags into a port's shadows and freeze them (15 R406). -/
def rtcFreeze (m : Master) (s : State) : State :=
  setRtcPort m { rtcPort s.rtc m with sh := rtcView s.rtc, shFlags := rtcFlags s.rtc, frozen := some (now s) } s

/-- Release a port's freeze by a read of RTC_T7, which clears STALE (15 R406, R407). -/
def rtcRelease (m : Master) (s : State) : State :=
  let s := setRtcPort m { rtcPort s.rtc m with frozen := none } s
  { s with rtc := { s.rtc with stale := false } }

/-- A register of a set of T or W registers (02 R40). -/
def rtcReg (g : RtcRegs) (flags : Nat) : Nat → Nat
  | 0 => g.sub
  | 1 => g.r1
  | 2 => g.r2
  | 3 => g.hour
  | 4 => g.day + g.wday * 256
  | 5 => g.month
  | 6 => g.year
  | 7 => flags
  | _ => 0

/-- A port's view of a T register while frozen; the LOCKED flag shows while the interface is locked (15 R416). -/
def rtcShadow (s : State) (m : Master) (i : Nat) : Nat :=
  let p := rtcPort s.rtc m
  rtcReg p.sh (if s.rtc.locked ∧ !bit p.shFlags 1 then p.shFlags + 2 else p.shFlags) i

/-- A read of a T register: the first one freezes (15 R406). -/
def rtcReadT (m : Master) (s : State) : State :=
  if (rtcPort s.rtc m).frozen.isSome ∨ s.rtc.locked then s else rtcFreeze m s

/-- RTC_T_READ_FREEZE: the first read of RTC_T0 to RTC_T7 (15 R406). A freeze that a read of RTC_T7 starts ends with it. -/
def execRtcTReadFreeze (m : Master) (i : Fin 8) (s : State) : Host.Outcome State Fault Refusal :=
  if portAlive s m then
    let s := rtcReadT m s
    let s := emit (.readData m [rtcShadow s m i]) s
    done (if i.val = 7 ∧ !s.rtc.locked then rtcRelease m s else s)
  else done s

/-- RTC_T7_READ_RELEASE: a read of RTC_T7 of a frozen port (15 R406, R407). While the interface is locked it does not
release (15 R416). -/
def execRtcT7ReadRelease (m : Master) (s : State) : Host.Outcome State Fault Refusal :=
  if portAlive s m ∧ (rtcPort s.rtc m).frozen.isSome then
    let s := emit (.readData m [rtcShadow s m 7]) s
    done (if s.rtc.locked then s else rtcRelease m s)
  else done s

/-- RTC_FREEZE_TIMEOUT: 2 ms after the first read (15 R406). -/
def execRtcFreezeTimeout (m : Master) (s : State) : Host.Outcome State Fault Refusal :=
  match (rtcPort s.rtc m).frozen with
  | none => done s
  | some f =>
    if s.rtc.locked then done s
    else
      let s := advanceTo (f + msU 2) s
      let s := setRtcPort m { rtcPort s.rtc m with frozen := none } s
      done { s with rtc := { s.rtc with stale := true } }

/-! ## Setting (15 R408-R410) -/

/-- The count a staged time names under the leap table, or none for an impossible date (15 R409). -/
def rtcStaged (r : Rtc) (w : RtcRegs) : Option Nat :=
  if r.calendar then
    let y := unbcd w.year
    let mo := unbcd w.month
    let d := unbcd w.day
    let h := unbcd w.hour
    let mi := unbcd (w.r2 % 128)
    let se := unbcd (w.r1 % 128)
    if !(bcdOk w.year && bcdOk w.month && bcdOk w.day && bcdOk w.hour && bcdOk (w.r2 % 128) && bcdOk (w.r1 % 128)) then none
    else if y < 2000 ∨ 2399 < y ∨ mo < 1 ∨ 12 < mo ∨ 23 < h ∨ 59 < mi ∨ d < 1 ∨ monthDays y mo < d then none
    else
      let day := dayNumber y mo d
      let last := decide (h = 23 ∧ mi = 59)
      if 60 < se ∨ (se = 60 ∧ !(last && leapOn r.leaps day == some false)) then none
      else if se = 59 ∧ last ∧ leapOn r.leaps day = some true then none
      else if w.wday ≠ 0 ∧ w.wday ≠ weekday day then none
      else some (calCount r.leaps { day := day, hour := h, min := mi, sec := se })
  else
    let c := w.r1 + w.r2 * 2 ^ 32
    if rangeEndCount r.leaps < c then none else some c

def rtcStagedBytes (w : RtcRegs) : Bytes := ((List.range 7).map fun i => le 4 (rtcReg w 0 i)).flatten

/-- The record of a write to RTC_CMD (02 R25, 15 R401, R410). -/
def rtcCmdRecord (m : Master) (value status : Nat) (detail : Bytes) (s : State) : State :=
  recAdd 4 2 0xF001 (masterOrigin m) 0 0 (status * 65536) value detail s

/-- A write of RTC_CMD that is ignored changes nothing, and is recorded (02 R25). -/
def rtcIgnored (m : Master) (value status : Nat) (s : State) : State :=
  if portAlive s m then rtcCmdRecord m value status (rtcStagedBytes (rtcPort s.rtc m).w) s else s

/-- A write of RTC_CMD with SET (15 R408-R410), ignored while the interface is locked (15 R416) or an earlier SET is being
validated. -/
def rtcSet (m : Master) (value : Nat) (s : State) : State :=
  if s.rtc.locked then rtcIgnored m value 0x0302 s
  else if s.rtc.setWait.isSome then rtcIgnored m value 0x0202 s
  else if portAlive s m then
    let w := (rtcPort s.rtc m).w
    match rtcStaged s.rtc w with
    | none => rtcCmdRecord m value 0x0501 (rtcStagedBytes w) { s with rtc := { s.rtc with impossible := true } }
    | some c =>
      rtcCmdRecord m value 0 (rtcStagedBytes w ++ le 8 c) { s with rtc := { s.rtc with setWait := some (m, c, w.sub) } }
  else s

def execRtcCmdSet (m : Master) (s : State) : Host.Outcome State Fault Refusal := done (rtcSet m 1 s)

/-- RTC_SET_COMMIT: within 122 µs the staged time is loaded (15 R408, R410). -/
def execRtcSetCommit (s : State) : Host.Outcome State Fault Refusal :=
  match s.rtc.setWait with
  | none => done s
  | some (_, c, sub) =>
    done { s with rtc := { s.rtc with
      sec := c, sub := sub, phase := 0, setWait := none, impossible := false, lost := false, rangeEnd := false } }

/-- A change of MODE (15 R401), ignored while the interface is locked (15 R416). -/
def rtcMode (m : Master) (cal : Bool) (value : Nat) (s : State) : State :=
  if s.rtc.locked then rtcIgnored m value 0x0302 s
  else if portAlive s m then
    rtcCmdRecord m value 0 (rtcStagedBytes (rtcPort s.rtc m).w) { s with rtc := { s.rtc with calendar := cal } }
  else s

/-- RTC_CMD_TOBIN (15 R401). -/
def execRtcCmdTobin (m : Master) (s : State) : Host.Outcome State Fault Refusal := done (rtcMode m false 2 s)

/-- RTC_CMD_TOCAL (15 R401). -/
def execRtcCmdTocal (m : Master) (s : State) : Host.Outcome State Fault Refusal := done (rtcMode m true 4 s)

/-! ## Compensation, end of range, lock (15 R411-R417) -/

/-- The curve at a temperature in units of 1/16 °C: linear between points 4 °C apart from −40 °C, held at the ends
(15 R412). DESIGN CHOICE: the interpolated value is the nearest one, ties to even. -/
def curveAt (curve : List Int) (temp : Int) : Int :=
  let x := (max 0 (min 2048 (temp + 640))).toNat
  let i := x / 64
  let a := curve.getD i 0
  let b := curve.getD (i + 1) a
  a + rheDiv ((b - a) * (x % 64 : Nat)) 64

/-- RTC_SENSOR_READING (15 R412, R413). -/
def execRtcSensorReading (temp : Int) (s : State) : Host.Outcome State Fault Refusal :=
  let c := s.rtc.newCurve.getD s.rtc.curve
  done { s with rtc := { s.rtc with curve := c, newCurve := none, curveTerm := curveAt c temp } }

/-- RTC_END_OF_RANGE (15 R411). -/
def execRtcEndOfRange (s : State) : Host.Outcome State Fault Refusal :=
  if !s.rtc.rangeEnd ∧ rangeEndCount s.rtc.leaps * 32768 + 32767 ≤ s.rtc.sec * 32768 + s.rtc.sub then
    done (noteTime 5 nmRangeEnd (raiseVector 93 { s with rtc := { s.rtc with rangeEnd := true } }))
  else done s

/-- The interface locks: shadows freeze at the locking instant, and an uncommitted SET is dropped (15 R416). -/
def rtcLock (s : State) : State :=
  let f := fun m s => if (rtcPort (State.rtc s) m).frozen.isSome then s else rtcFreeze m s
  let s := f .mgp (f .host s)
  { s with rtc := { s.rtc with locked := true, setWait := none, unlockAt := none } }

/-- RTC_LOCK_RELEASE: 5 ms after main power and the always-on domain are good again (15 R416). -/
def execRtcLockRelease (s : State) : Host.Outcome State Fault Refusal :=
  match s.rtc.unlockAt with
  | none => done s
  | some t =>
    let s := advanceTo t s
    done { s with rtc := { s.rtc with
      locked := false, unlockAt := none
      host := { s.rtc.host with frozen := none }, mgp := { s.rtc.mgp with frozen := none } } }

/-- VRTC_LOW: the LOST latch is set (15 R417; 02 R42). -/
def execVrtcLow (s : State) : Host.Outcome State Fault Refusal :=
  done (raiseVector 93 { s with rtc := { s.rtc with lost := true } })

end Sys2Proof.Machine
end

