-- ==== Sys2Proof/Machine/RecorderBlock.lean ====
section
/-! DEFINITION. The event recorder's cursors, clears, programming and checkpoints (16 R424-R431). -/

namespace Sys2Proof.Machine

/-- TIME of a record: power-cycle count and operating time (16 R418). -/
def recTime (r : Record) : Nat := r.cycles * 2 ^ 40 + r.opTime

/-- A record as stored (16 R418). -/
def recBytes (r : Record) : Bytes :=
  let b := le 2 (recLen r) ++ le 1 r.sev ++ le 1 r.cls ++ le 4 r.seq ++ le 8 (recTime r) ++ le 2 r.code ++ le 1 r.origin
    ++ le 1 r.pflags ++ le 4 r.subject ++ le 4 r.arg0 ++ le 4 r.arg1 ++ le 8 r.utc ++ padTo 4 r.detail
  b ++ le 4 (crc32c b)

/-- How many assignments ago a SEQ was made (16 R422). -/
def recAge (s : State) (q : Nat) : Nat := (s.rcd.seq + 2 ^ 32 - 1 - q % 2 ^ 32) % 2 ^ 32

def recCursor (s : State) : Master → RecCursor
  | .host => s.rcd.host
  | .mgp => s.rcd.mgp

def setRecCursor (m : Master) (c : RecCursor) (s : State) : State :=
  match m with
  | .host => { s with rcd := { s.rcd with host := c } }
  | .mgp => { s with rcd := { s.rcd with mgp := c } }

/-- The end of a move: the record it reaches is copied, or EDGE is set (16 R429, R430). -/
def recMove (m : Master) (r : Option Record) (s : State) : State :=
  let c := recCursor s m
  match r with
  | some r => setRecCursor m { c with copy := some r, edge := false, page := 0 } s
  | none => setRecCursor m { c with edge := true, page := 0 } s

def recNext (s : State) (m : Master) : Option Record :=
  match (recCursor s m).copy with
  | none => s.rcd.live.head?
  | some c => s.rcd.live.find? fun r => decide (recAge s r.seq < recAge s c.seq)

def recPrev (s : State) (m : Master) : Option Record :=
  match (recCursor s m).copy with
  | none => s.rcd.live.getLast?
  | some c => s.rcd.live.reverse.find? fun r => decide (recAge s c.seq < recAge s r.seq)

def recSeek (s : State) (q : Nat) : Option Record :=
  if recAge s q < 2 ^ 31 then s.rcd.live.find? fun r => r.seq == q else none

def execRecCmdNext (m : Master) (s : State) : Host.Outcome State Fault Refusal :=
  done (if portAlive s m then recMove m (recNext s m) s else s)

def execRecCmdPrev (m : Master) (s : State) : Host.Outcome State Fault Refusal :=
  done (if portAlive s m then recMove m (recPrev s m) s else s)

def execRecCmdOldest (m : Master) (s : State) : Host.Outcome State Fault Refusal :=
  done (if portAlive s m then recMove m s.rcd.live.head? s else s)

def execRecCmdNewest (m : Master) (s : State) : Host.Outcome State Fault Refusal :=
  done (if portAlive s m then recMove m s.rcd.live.getLast? s else s)

def execRecCmdSeekSeq (m : Master) (s : State) : Host.Outcome State Fault Refusal :=
  done (if portAlive s m then recMove m (recSeek s (recCursor s m).seek) s else s)

/-! ## Clearing (16 R431) -/

def originMaster : Master → Origin
  | .host => .host
  | .mgp => .mgp

/-- A clear starts: its own record takes the next SEQ q and holds the number of records it removes; an owed summary
follows. -/
def clearStart (value : Nat) (o : Origin) (s : State) : State :=
  let sev := value % 8
  let q := s.rcd.seq
  let n := (s.rcd.live.filter fun r => decide (r.sev ≤ sev)).length
  let s := recAdd 7 2 0xF002 (originCode o) 0 0 0 value (le 4 n) s
  recSummary { s with rcd := { s.rcd with clearing := match s.rcd.clearing with
    | [] => [(sev, q, o)]
    | _ :: rest => (sev, q, o) :: rest } }

/-- A write of REC_CLEAR (16 R431). -/
def recClear (m : Master) (v : Nat) (s : State) : State :=
  if v / 65536 ≠ 0xC1EA then s
  else if s.rcd.clearing.isEmpty then clearStart v (originMaster m) s
  else { s with rcd := { s.rcd with clearing := s.rcd.clearing ++ [(v, 0, originMaster m)] } }

def execRecClear (m : Master) (value : Word32) (s : State) : Host.Outcome State Fault Refusal :=
  done (if portAlive s m then recClear m value.toNat s else s)

/-- REC_CLEAR_COMPLETE: every live record with severity up to SEV and SEQ before q is gone, and the next clear starts. -/
def execRecClearComplete (s : State) : Host.Outcome State Fault Refusal :=
  match s.rcd.clearing with
  | [] => done s
  | (sev, q, _) :: rest =>
    let keep := fun r : Record => decide (sev < r.sev) || decide (recAge s r.seq ≤ recAge s q)
    let s := { s with rcd := { s.rcd with live := s.rcd.live.filter keep, clearing := rest } }
    match rest with
    | [] => done s
    | (v, _, o) :: _ => done (clearStart v o s)

/-! ## Programming and checkpoints (16 R424-R426, R428) -/

/-- The oldest staged record is programmed. -/
def programOne : List Record → List Record
  | [] => []
  | r :: rs => if r.staged then { r with staged := false } :: rs else r :: programOne rs

/-- REC_NOR_PROGRAM (16 R425). -/
def execRecNorProgram (s : State) : Host.Outcome State Fault Refusal :=
  done { s with rcd := { s.rcd with live := programOne s.rcd.live } }

/-- Every staged record is programmed. -/
def programAll (s : State) : State :=
  { s with rcd := { s.rcd with live := s.rcd.live.map fun r => { r with staged := false } } }

/-- The operating time goes to NOR. -/
def checkpoint (s : State) : State := { s with rcd := { s.rcd with checkpoint := s.rcd.opTime } }

/-- OP_TIME_CHECKPOINT: every 60 s of operating time (16 R424), with any owed summary (16 R428). -/
def execOpTimeCheckpoint (s : State) : Host.Outcome State Fault Refusal :=
  if s.pwr.ps = .off then done s
  else
    let need := s.rcd.checkpoint + 61440 - s.rcd.opTime
    let s := elapse (if need = 0 then 0 else ceilDiv (need * 2 ^ 64 - s.rcd.opPhase) 1024) s
    done (recSummary (checkpoint s))

/-- Records not programmed when power is lost count as discarded (16 R426). -/
def loseStaged (s : State) : State :=
  let lost := s.rcd.live.filter (·.staged)
  let s := { s with rcd := { s.rcd with live := s.rcd.live.filter (!·.staged) } }
  match lost with
  | [] => s
  | r :: _ =>
    let lastSeq := (lost.getLast?.getD r).seq
    { s with rcd := { s.rcd with
      discards := satAdd (2 ^ 32 - 1) s.rcd.discards lost.length
      owed := true
      owedN := s.rcd.owedN + lost.length
      owedFirst := if s.rcd.owed then s.rcd.owedFirst else r.seq
      owedLast := lastSeq } }

end Sys2Proof.Machine
end

