-- ==== Sys2Proof/Machine/Queues.lean ====
section
/-! DEFINITION. Output and injection queues and their host rings (11). -/

namespace Sys2Proof.Machine

def oq (s : State) (n : Nat) : Oq := mgetD s.oqs n {}

def setOq (n : Nat) (q : Oq) (s : State) : State := { s with oqs := mput s.oqs n q }

def iq (s : State) (n : Nat) : Iq := mgetD s.iqs n {}

def setIq (n : Nat) (q : Iq) (s : State) : State := { s with iqs := mput s.iqs n q }

/-- Words of a packet of L bytes (11 R293). -/
def pktWords (len : Nat) : Nat := ceilDiv len 7

/-- Capacity in words of a queue whose map entry has a kind and an index (11 R294). -/
def mapCapacity (b : Bank) (kind n : Nat) : Nat :=
  match b.sched with
  | some i =>
    match i.omap.find? (fun e => e.kind == kind && e.index == n) with
    | some e => 2048 + 8192 * e.length
    | none => 2048
  | none => 2048

def oqCapacity (s : State) (n : Nat) : Nat := (oq s n).oldCap.getD (mapCapacity (activeBank s) 1 n)

def iqCapacity (s : State) (m : Nat) : Nat := (iq s m).oldCap.getD (mapCapacity (activeBank s) 2 m)

/-- Words taken from the oldest packet: popped, or moved to the ring in whole entries. -/
def begunWords (q : Oq) : Nat := if q.dma then pktWords q.begun else q.begun

/-- OQ_LEVEL.WORDS (11 R293). -/
def oqLevel (q : Oq) : Nat := lsum q.pkts (fun p => pktWords p.data.length) - begunWords q

/-- Words in progress of the producers that the queue holds: of 80 at most, since a further one waits at its SOP (11 R295). DESIGN
CHOICE: a held packet counts with all of its words. -/
def heldWords (hs : List OqHeld) : Nat := lsum (hs.take 80) (·.words)

/-- OQ_STATUS.STALLED: a producer is held by back-pressure. -/
def oqStalled (q : Oq) : Bool := q.held.any (!·.resumed)

/-- OQ_STATUS.FULL: a further word would exceed the capacity, words in progress counted (11 R295, R296). -/
def oqFull (s : State) (n : Nat) : Bool := oqCapacity s n ≤ oqLevel (oq s n) + heldWords (oq s n).held

/-- Unread-pending (11 R304). -/
def unread (q : Oq) : Bool := !q.pkts.isEmpty || (q.dma && q.ringHead != q.ringTail)

/-- The stale-tail timer starts when the queue becomes unread-pending and stops when it is not. -/
def staleKeep (t : Instant) (q : Oq) : Oq :=
  { q with staleFrom := if unread q then some (q.staleFrom.getD t) else none }

/-- The stale-tail timer restarts at a read (11 R304). -/
def staleRestart (t : Instant) (q : Oq) : Oq :=
  { q with staleFrom := if unread q then some t else none, staleFired := false }

/-- Raise a queue's vector and count it (11 R303, R310). -/
def oqVector (n : Nat) (s : State) : State :=
  raiseVector (2 + n) (setOq n { oq s n with notices := satAdd 0xFFFFFFFF (oq s n).notices 1 } s)

/-- A packet's EOP word is written (11 R293, R303). -/
def oqCommit (n : Nat) (p : QPkt) (s : State) : State :=
  let q := oq s n
  let q := { q with pkts := q.pkts ++ [p], packets := satAdd 0xFFFFFFFF q.packets 1 }
  let q := staleKeep (now s) { q with peak := max q.peak (oqLevel q) }
  let s := setOq n q s
  if q.notice ∧ !q.dma then oqVector n s else s

def oqDrop (n cnt k : Nat) (s : State) : State :=
  countBy cnt k (setOq n { oq s n with drops := satAdd 0xFFFFFFFF (oq s n).drops k } s)

/-- A packet longer than the free capacity of a queue that holds no committed packet (11 R298). -/
def oqOversize (n producer : Nat) (s : State) : State :=
  let s := oqDrop n 162 1 s
  let sec := now s / secU
  if (oq s n).oversizeSec = some sec then s
  else noteI 5 5 nmOqOversize (item nmQueue n ++ item nmProducer producer) producer 0 0
    (setOq n { oq s n with oversizeSec := some sec } s)

/-- Whether a queue takes a packet now: it is disabled, has room, or holds no committed packet (11 R296, R298, R299). The words
in progress of producers held earlier count; a producer that is itself held goes by its place among them. -/
def oqTakes (s : State) (n : Nat) (key : Option Nat) (len : Nat) : Bool :=
  let q := oq s n
  let before := q.held.takeWhile fun h => some h.key != key
  !q.en || decide (oqLevel q + heldWords before + pktWords len ≤ oqCapacity s n) || (q.pkts.isEmpty && before.isEmpty)

/-- A held producer commits, or its packet is discarded. -/
def oqForget (key : Nat) (s : State) : State :=
  { s with oqs := mmap s.oqs fun _ q => { q with held := q.held.filter (·.key != key) } }

/-- Held producers whose packets fit, in their order, resume (11 R296). -/
def resumeHeld (cap : Nat) : Nat → List OqHeld → List OqHeld
  | _, [] => []
  | used, h :: hs => if used + h.words ≤ cap then { h with resumed := true } :: resumeHeld cap (used + h.words) hs else h :: hs

/-- The numbers of producers that a queue can hold: a task by its serial, a CAP, and a recording transfer by its VCH. -/
def keyTask (serial : Nat) : Nat := 3 * serial
def keyCap (cap : Nat) : Nat := 3 * cap + 1
def keyVch (v : Nat) : Nat := 3 * v + 2

/-- A packet that the queue takes: discarded by a disabled queue, committed, or discarded as oversize. -/
def oqPut (n producer : Nat) (p : QPkt) (s : State) : State :=
  let q := oq s n
  if !q.en then oqDrop n 163 1 s
  else if oqLevel q + pktWords p.data.length ≤ oqCapacity s n then oqCommit n p s
  else oqOversize n producer s

/-- A data-path producer's packet: an ACTIVE or SOLO unit writes it, a shadow unit does not (11 R312). -/
def oqWrite (n producer : Nat) (p : QPkt) (s : State) : State := if emits s then oqPut n producer p s else s

/-- A producer that never waits (11 R296). -/
def oqNoWait (n producer : Nat) (p : QPkt) (s : State) : State :=
  if !emits s then s else if oqTakes s n none p.data.length then oqPut n producer p s else oqDrop n 161 1 s

/-- A producer stalls on a full queue: STALLED, and OQ_STALL once per stall (11 R296). -/
def oqStall (n key len : Nat) (s : State) : State :=
  let q := oq s n
  if q.held.any (·.key == key) then s
  else count 160 (setOq n { q with held := q.held ++ [{ key := key, words := pktWords len, resumed := false }]
                                   stalls := satAdd 0xFFFFFFFF q.stalls 1 } s)

/-! ## The pop port (11 R292, R300) -/

/-- Word k of a packet (11 R292). -/
def queueWord (p : QPkt) (k : Nat) : Nat :=
  let n := pktWords p.data.length
  let eop := k + 1 = n
  let nb := if eop then (p.data.length - 7 * k) % 7 else 0
  2 ^ 63 + b2n (k = 0) * 2 ^ 62 + b2n eop * 2 ^ 61 + nb * 2 ^ 58 + b2n p.mark * 2 ^ 57 + ofLe (slice p.data (7 * k) 7)

/-- An old middle is given up when its words have been consumed (11 R294). -/
def oqDrained (q : Oq) : Oq := if q.pkts.isEmpty then { q with oldCap := none } else q

/-- Discard every committed packet of which the consumer has taken no word. -/
def oqDiscard (n : Nat) (s : State) : State :=
  let q := oq s n
  let keep := if 0 < q.begun then q.pkts.take 1 else []
  let k := q.pkts.length - keep.length
  let s := setOq n (oqDrained (staleKeep (now s) { q with pkts := keep })) s
  if k = 0 then s else oqDrop n 164 k s

/-- A pending EN clear takes effect at the packet boundary: what was committed until then is discarded as by a flush (11 R299).
DESIGN CHOICE: setting EN before then does not take it back. -/
def oqBoundary (n : Nat) (s : State) : State :=
  if (oq s n).disabling ∧ (oq s n).begun = 0 then
    let s := oqDiscard n s
    setOq n { oq s n with en := false, disabling := false } s
  else s

/-- QPOP_READ (02 R41, 11 R300). -/
def execQpopRead (q : Fin 64) (wide : Bool) (s : State) : Host.Outcome State Fault Refusal :=
  if !mainUp s then done s
  else if !wide then done (emit (.popped q 0) s)
  else
    let o := oq s q
    match o.pkts with
    | p :: rest =>
      if o.en ∧ !o.dma then
        let w := queueWord p o.begun
        let last := o.begun + 1 = pktWords p.data.length
        let o := if last then { o with pkts := rest, begun := 0 } else { o with begun := o.begun + 1 }
        done (emit (.popped q w) (oqBoundary q (setOq q (oqDrained (staleRestart (now s) o)) s)))
      else done (emit (.popped q 0) s)
    | [] => done (emit (.popped q 0) s)

/-! ## DMA into host rings (11 R301, R302) -/

/-- A queue the DMA engine can serve: committed data and a free entry. -/
def dmaReady (q : Oq) : Bool :=
  q.en && q.dma && !q.pkts.isEmpty && (q.ringTail + 1) % ringLen q.ringSize != q.ringHead

/-- The queue whose turn it is: the first that can be served from the pointer on, in round robin. -/
def dmaNext (s : State) : Option Nat :=
  let cand := (List.range 64).filter fun n => dmaReady (oq s n)
  match cand.find? (fun n => decide (s.dmaPtr ≤ n)) with
  | some n => some n
  | none => cand.head?

/-- The header of a ring entry (11 R301). -/
def entryHeader (n pseq off len plen : Nat) (mark : Bool) : Bytes :=
  le 2 len ++ le 1 (b2n (off = 0) + b2n (off + len = plen) * 2 + b2n mark * 4) ++ le 1 n ++ le 4 pseq ++ le 4 off ++ le 4 plen

/-- DMA_ENTRY_WRITE (11 R301-R303). -/
def execDmaEntryWrite (s : State) : Host.Outcome State Fault Refusal :=
  match dmaNext s with
  | none => done s
  | some n =>
    let q := oq s n
    match q.pkts with
    | [] => done s
    | p :: rest =>
      let off := q.begun
      let data := slice p.data off 4080
      let last := off + data.length = p.data.length
      let entry := q.ringTail
      let hdr := entryHeader n q.pseq off data.length p.data.length p.mark
      let q := { q with ringTail := (entry + 1) % ringLen q.ringSize }
      let q := if last then { q with pkts := rest, begun := 0, pseq := (q.pseq + 1) % 2 ^ 32 }
               else { q with begun := off + data.length }
      let notice := last ∧ q.notice
      let s := emit (.dma n entry hdr data) (oqBoundary n (setOq n (oqDrained (staleKeep (now s) q)) s))
      let s := { s with dmaPtr := (n + 1) % 64 }
      done (if notice then oqVector n s else s)

/-- A ring index that lies in the ring and does not pass another (11 R302, R307). -/
def ringMoveOk (size from_ to_ limit : Nat) : Bool :=
  let n := ringLen size
  decide (to_ < n) && decide ((to_ + n - from_ % n) % n ≤ (limit + n - from_ % n) % n)

/-- A write of OQ_RING_HEAD (11 R302, R304). -/
def oqHeadWrite (n value : Nat) (s : State) : State :=
  let o := oq s n
  if ringMoveOk o.ringSize o.ringHead value o.ringTail then
    let moved := value ≠ o.ringHead
    let o := { o with ringHead := value }
    setOq n (if moved then staleRestart (now s) o else o) s
  else s

def execOqRingHeadWrite (q : Fin 64) (value : Nat) (s : State) : Host.Outcome State Fault Refusal :=
  done (if mainUp s then oqHeadWrite q value s else s)

/-! ## Flush and enable (11 R299, R305) -/

/-- A flush executes at once (11 R305). -/
def oqFlush (n : Nat) (s : State) : State :=
  let s := oqDiscard n s
  setOq n { oq s n with flushing := true } s

def finalReplies (ws : List Waiter) (status : Nat) (s : State) : State :=
  ws.foldl (fun s w => finalReply w status s) s

/-- FLUSHING clears when no packet is begun, and the final replies are posted (11 R305). -/
def oqFlushEnd (n : Nat) (s : State) : State :=
  let q := oq s n
  if q.flushing ∧ q.begun = 0 then
    finalReplies q.flushWait 0 (setOq n { q with flushing := false, flushWait := [] } s)
  else s

/-- OQ_FLUSH_DONE (11 R305). -/
def execOqFlushDone (q : Fin 64) (s : State) : Host.Outcome State Fault Refusal := done (oqFlushEnd q s)

/-- A write of OQ_CTRL (11 R299, R305). -/
def writeOqCtrl (n : Nat) (v : Nat) (s : State) : State :=
  let q := oq s n
  let q1 := { q with notice := bit v 2, dma := if q.en then q.dma else bit v 3 }
  let s := setOq n q1 s
  let s :=
    if bit v 0 ∧ !q.en then
      if q1.dma ∧ (q1.ringSize < 4 ∨ 16 < q1.ringSize) then s
      else setOq n { q1 with en := true, disabling := false, ringTail := 0, ringHead := 0, pseq := 0, packets := 0
                             notices := 0, stalls := 0, drops := 0 } s
    else if !bit v 0 ∧ q.en then oqBoundary n (setOq n { oq s n with disabling := true } s)
    else s
  if bit v 1 then oqFlushEnd n (oqFlush n s) else s

/-- OQ_CTRL_EN_SET: a write of OQ_CTRL that sets EN (11 R299). -/
def execOqCtrlEnSet (q : Fin 64) (value : Word32) (s : State) : Host.Outcome State Fault Refusal :=
  done (if mainUp s ∧ value.getLsbD 0 then writeOqCtrl q value.toNat s else s)

/-- OQ_CTRL_EN_CLEAR: a write of OQ_CTRL that clears EN (11 R299). -/
def execOqCtrlEnClear (q : Fin 64) (value : Word32) (s : State) : Host.Outcome State Fault Refusal :=
  done (if mainUp s ∧ !value.getLsbD 0 then writeOqCtrl q value.toNat s else s)

/-- OQ_CTRL_FLUSH: a write of OQ_CTRL with FLUSH set (11 R305). -/
def execOqCtrlFlush (q : Fin 64) (value : Word32) (s : State) : Host.Outcome State Fault Refusal :=
  done (if mainUp s ∧ value.getLsbD 1 then writeOqCtrl q value.toNat s else s)

/-- OQ_STALE_TIMER (11 R304). -/
def execOqStaleTimer (q : Fin 64) (s : State) : Host.Outcome State Fault Refusal :=
  let o := oq s q
  match o.staleFrom with
  | some t =>
    if o.qtmo ≠ 0 ∧ !o.staleFired ∧ mainUp s then
      let s := advanceTo (t + usU o.qtmo) s
      done (count 165 (oqVector q (setOq q { o with stale := true, staleFired := true } s)))
    else done s
  | none => done s

/-! ## Injection queues (11 R306-R308) -/

def iqLevel (q : Iq) : Nat := lsum q.pkts (fun p => pktWords p.length)

/-- Words on the device side, the packet that is being gathered included. -/
def iqUsed (q : Iq) : Nat := iqLevel q + pktWords ((q.part.getD (0, [])).2.length)

/-- An old middle is given up when its words have been consumed (11 R294). -/
def iqDrained (q : Iq) : Iq := if q.pkts.isEmpty then { q with oldCap := none } else q

/-- A write of IQ_CTRL (11 R306). -/
def writeIqCtrl (m : Nat) (v : Nat) (s : State) : State :=
  let q := iq s m
  let q1 := { q with notice := bit v 2, dma := if q.en then q.dma else bit v 3 }
  let q2 :=
    if bit v 0 ∧ !q.en then
      { q1 with en := true, ringTail := 0, ringHead := 0, entries := [], part := none, dropping := false, packets := 0
                notices := 0, drops := 0 }
    else { q1 with en := bit v 0 }
  setIq m (if bit v 1 then { q2 with pkts := [] } else q2) s

/-- IQ_CTRL_EN_SET (11 R306). -/
def execIqCtrlEnSet (m : Fin 16) (value : Word32) (s : State) : Host.Outcome State Fault Refusal :=
  done (if mainUp s ∧ value.getLsbD 0 then writeIqCtrl m value.toNat s else s)

/-- IQ_CTRL_FLUSH (11 R306). -/
def execIqCtrlFlush (m : Fin 16) (value : Word32) (s : State) : Host.Outcome State Fault Refusal :=
  done (if mainUp s ∧ value.getLsbD 1 then writeIqCtrl m value.toNat s else s)

def iqDrop (m cnt : Nat) (s : State) : State :=
  count cnt (setIq m { iq s m with drops := satAdd 0xFFFFFFFF (iq s m).drops 1 } s)

/-- An entry that the host never wrote. -/
def blankEntry : IqEntry := { len := 0, flags := 0, queue := 0, pseq := 0, offset := 0, plen := 0, data := [] }

/-- A write of IQ_RING_TAIL: the entries that the host wrote come with the write (11 R307). -/
def iqDoorbell (m value : Nat) (entries : List IqEntry) (s : State) : State :=
  let q := iq s m
  let n := ringLen q.ringSize
  if value < n ∧ (q.ringTail + n - q.ringHead) % n ≤ (value + n - q.ringHead) % n then
    let k := (value + n - q.ringTail % n) % n
    let new := (List.range k).map fun i => entries.getD i blankEntry
    setIq m { q with ringTail := value, entries := q.entries ++ new } s
  else iqDrop m 167 s

def execIqRingTailDoorbell (m : Fin 16) (value : Nat) (entries : List IqEntry) (s : State) :
    Host.Outcome State Fault Refusal :=
  done (if mainUp s then iqDoorbell m value entries s else s)

/-- One entry of a ring is taken (11 R307). -/
def iqTake (m : Nat) (e : IqEntry) (s : State) : State :=
  let q := iq s m
  let first := bit e.flags 0
  let last := bit e.flags 1
  -- an entry with FIRST before LAST drops the packet in progress
  let s := if first ∧ q.part.isSome then iqDrop m 166 s else s
  let q := iq s m
  let q := if first then { q with part := none, dropping := false } else q
  if q.dropping then setIq m { q with dropping := !last } s
  else
    let (plen, got) := q.part.getD (e.plen, [])
    let ok := (first || q.part.isSome) && e.queue == m && decide (1 ≤ e.len) && decide (e.len ≤ 4080)
      && e.offset == got.length && e.plen == plen && (!last || got.length + e.len == plen)
      && (last || decide (got.length + e.len < plen))
    if !ok then
      let s := iqDrop m 166 (setIq m { q with part := none } s)
      setIq m { iq s m with dropping := !last } s
    else
      let got := got ++ (e.data ++ zeros (e.len - e.data.length)).take e.len
      if last then
        let q := { q with part := none, pkts := q.pkts ++ [got], packets := satAdd 0xFFFFFFFF q.packets 1 }
        setIq m { q with peak := max q.peak (iqLevel q) } s
      else setIq m { q with part := some (plen, got) } s

/-- Entries are taken while the device side has room (11 R308). -/
def iqPullLoop : Nat → Nat → State → State
  | 0, _, s => s
  | fuel + 1, m, s =>
    let q := iq s m
    match q.entries with
    | [] => s
    | e :: rest =>
      if iqUsed q + pktWords e.len ≤ iqCapacity s m then
        iqPullLoop fuel m
          (iqTake m e (setIq m { q with entries := rest, ringHead := (q.ringHead + 1) % ringLen q.ringSize } s))
      else s

/-- IQ_PULL (11 R306, R308): the vector is raised at an advance, at most once per QTMO. DESIGN CHOICE: an advance within that time
joins the notice before it and raises none later. -/
def execIqPull (m : Fin 16) (s : State) : Host.Outcome State Fault Refusal :=
  let q := iq s m
  if mainUp s ∧ q.en ∧ q.dma ∧ !q.entries.isEmpty then
    let s' := iqPullLoop q.entries.length m s
    let q' := iq s' m
    let quiet := match q'.lastNotice with
      | some t => q'.qtmo ≠ 0 && decide (now s < t + usU q'.qtmo)
      | none => false
    if q'.ringHead ≠ q.ringHead ∧ q'.notice ∧ !quiet then
      done (raiseVector (66 + m.val) (setIq m { q' with notices := satAdd 0xFFFFFFFF q'.notices 1, lastNotice := some (now s) } s'))
    else done s'
  else done s

/-! ## Status words and resets (02 R40, 11 R310, R311) -/

def oqStatusWord (s : State) (n : Nat) : Nat :=
  let q := oq s n
  b2n (oqLevel q = 0) + b2n (oqFull s n) * 2 + b2n q.flushing * 4 + b2n (oqStalled q) * 8 + b2n q.stale * 16

/-- The device side is at capacity: it cannot take the next entry (11 R306, R308). -/
def iqFull (s : State) (m : Nat) : Bool :=
  let q := iq s m
  match q.entries with
  | e :: _ => decide (iqCapacity s m < iqUsed q + pktWords e.len)
  | [] => decide (iqCapacity s m ≤ iqUsed q)

def iqPulling (s : State) (m : Nat) : Bool :=
  let q := iq s m
  q.en && q.dma && !iqFull s m && q.ringHead != q.ringTail

def iqStatusWord (s : State) (m : Nat) : Nat := b2n (iqFull s m) + b2n (iqPulling s m) * 2

/-- A record of QUEUE_STATUS (11 R310). -/
def queueRecord (s : State) (i : Nat) : Bytes :=
  if i < 64 then
    let q := oq s i
    le 1 i ++ le 1 (b2n q.en + b2n q.dma * 2 + b2n (oqLevel q = 0) * 4 + b2n (oqFull s i) * 8 + b2n q.flushing * 16
        + b2n (oqStalled q) * 32 + b2n q.stale * 64) ++ zeros 2 ++ le 4 (oqLevel q) ++ le 4 (oqCapacity s i) ++ le 4 q.peak
      ++ le 4 q.packets ++ le 4 q.notices ++ le 4 q.stalls ++ le 4 q.drops
  else
    let m := i - 64
    let q := iq s m
    le 1 i ++ le 1 (b2n q.en + b2n q.dma * 2 + b2n (iqLevel q = 0) * 4 + b2n (iqFull s m) * 8 + b2n (iqPulling s m) * 128)
      ++ zeros 2 ++ le 4 (iqLevel q) ++ le 4 (iqCapacity s m) ++ le 4 q.peak ++ le 4 q.packets ++ le 4 q.notices ++ le 4 0
      ++ le 4 q.drops

/-- Every enable clears and every queue's contents are discarded (11 R311). -/
def resetQueues (s : State) : State :=
  { s with
    oqs := mmap s.oqs fun _ q => { q with en := false, disabling := false, pkts := [], begun := 0, flushing := false
                                          held := [], flushWait := [], staleFrom := none, oldCap := none }
    iqs := mmap s.iqs fun _ q => { q with en := false, entries := [], part := none, pkts := [], dropping := false
                                          oldCap := none } }

/-- TRACE_QLEVEL: every 1 ms, for the selected queue (17 R435). -/
def queueWords (s : State) (q : Nat) : Nat := if q < 64 then oqLevel (oq s q) else iqLevel (iq s (q - 64))

def execTraceQlevel (s : State) : Host.Outcome State Fault Refusal :=
  if mainUp s ∧ s.glb.trcQ < 80 then done (traceMsg 5 (le 1 s.glb.trcQ ++ le 4 (queueWords s s.glb.trcQ)) s) else done s

/-- PEAK counts from the last START (11 R310). -/
def clearPeaks (s : State) : State :=
  { s with oqs := mmap s.oqs fun _ q => { q with peak := oqLevel q }, iqs := mmap s.iqs fun _ q => { q with peak := iqLevel q } }

end Sys2Proof.Machine
end

