-- ==== Sys2Proof/Machine/Channels.lean ====
section
/-! DEFINITION. Channel values and quality words: from the field as received to the float32 that a consumer reads, and the
substitutes (04 R93-R99; 05 R122). -/

namespace Sys2Proof.Machine

/-! ## The quality word (04 R94) -/

def qValid : Nat := 0
def qTimeUnc : Nat := 1
def qTest : Nat := 2
def qQuestionable : Nat := 3
def qSubst : Nat := 4
def qNotSettled : Nat := 5
def qAlt : Nat := 6
def qCfgChange : Nat := 7
def qTrigger : Nat := 8

def qbit (q : Qual) (n : Nat) : Bool := q.getLsbD n

/-- A quality word from its bits, VALID first. -/
def mkQual (bs : List Bool) : Qual := BitVec.ofNat 16 (ofLe [BitVec.ofNat 8 ((bs.take 8).foldr (fun b a => b2n b + 2 * a) 0),
  BitVec.ofNat 8 ((bs.drop 8).foldr (fun b a => b2n b + 2 * a) 0)])

/-- The OR of TIME_UNC, TEST and QUESTIONABLE over channels, with VALID as given (06 R129). -/
def streamQual (qs : List Qual) (valid : Bool) : Qual :=
  mkQual [valid, qs.any (qbit · 1), qs.any (qbit · 2), qs.any (qbit · 3)]

/-! ## Layout of a C37.118 data frame (04 R84, R96) -/

def phLen (b : PmuBlock) : Nat := if bit b.fmt 1 then 8 else 4
def frLen (b : PmuBlock) : Nat := if bit b.fmt 3 then 4 else 2
def anLen (b : PmuBlock) : Nat := if bit b.fmt 2 then 4 else 2

def blockLen (b : PmuBlock) : Nat := 2 + b.phnmr * phLen b + 2 * frLen b + b.annmr * anLen b + 2 * b.dgnmr

/-- The length that a descriptor's layout gives (04 R84). -/
def frameLen (d : StreamDef) : Nat := 14 + lsum d.blocks blockLen + 2

/-- Offset of a block. -/
def blockOff (d : StreamDef) (i : Nat) : Nat := 14 + lsum (d.blocks.take i) blockLen

/-- Offset and length of a channel's field in its block. -/
def fieldAt (b : PmuBlock) (kind index : Nat) : Nat × Nat :=
  let ph := 2
  let fr := ph + b.phnmr * phLen b
  let df := fr + frLen b
  let an := df + frLen b
  let dg := an + b.annmr * anLen b
  match kind with
  | 0 => (ph + index * phLen b, phLen b)
  | 1 => (fr, frLen b)
  | 2 => (df, frLen b)
  | 3 => (an + index * anLen b, anLen b)
  | _ => (dg + 2 * index, 2)

def chanBlock (d : StreamDef) (c : ChannelDef) : PmuBlock :=
  d.blocks.getD c.block { fmt := 0, phnmr := 0, annmr := 0, dgnmr := 0 }

/-- The bytes of a channel's field. -/
def chanBytes (d : StreamDef) (c : ChannelDef) (frame : Bytes) : Bytes :=
  let (o, n) := fieldAt (chanBlock d c) c.kind c.index
  slice frame (blockOff d c.block + o) n

def blockStat (d : StreamDef) (frame : Bytes) (i : Nat) : Nat := fldBe frame (blockOff d i) 2

/-! ## Values (04 R98) -/

/-- A C37.118 field in engineering units, by format (04 R96, R98). -/
def fieldVal (c : ChannelDef) (f : Bytes) : ChanVal :=
  match c.format with
  | 1 => .phasor (f32MulFrac (fracOf (sgn 16 (fldBe f 0 2))) c.scale) (f32MulFrac (fracOf (sgn 16 (fldBe f 2 2))) c.scale) false
  | 2 => .phasor (f32MulFrac (fracOf (fldBe f 0 2)) c.scale) (f32Round { num := sgn 16 (fldBe f 2 2), den := 10000 }) true
  | 3 => .phasor (f32Mul (fldBe f 0 4) c.scale) (f32Mul (fldBe f 4 4) c.scale) false
  | 4 => .phasor (f32Mul (fldBe f 0 4) c.scale) (fldBe f 4 4) true
  | 5 => .scalar (f32Affine c.nominal (fracOf (sgn 16 (fldBe f 0 2))) c.scale)
  | 6 => .scalar (if f32Finite (fldBe f 0 4) then f32Affine c.nominal (f32Val (fldBe f 0 4)) c.scale
                  else f32Mul (fldBe f 0 4) c.scale)
  | 8 => .scalar (f32Affine c.nominal (fracOf (sgn 32 (fldBe f 0 4))) c.scale)
  | 9 => .raw (fldBe f 3 1 % 2)
  | 10 => .raw (fldBe f 3 1 % 4)
  | _ => .raw (fldBe f 0 2)

/-- The field says that its value is missing (04 R94). -/
def fieldMissing (c : ChannelDef) (f : Bytes) : Bool :=
  match c.format with
  | 1 => fldBe f 0 2 = 0x8000 || fldBe f 2 2 = 0x8000
  | 2 => fldBe f 2 2 = 0x8000
  | 3 => f32IsNaN (fldBe f 0 4) || f32IsNaN (fldBe f 4 4)
  | 4 => f32IsNaN (fldBe f 0 4) || f32IsNaN (fldBe f 4 4)
  | 5 => fldBe f 0 2 = 0x8000
  | 6 => f32IsNaN (fldBe f 0 4)
  | _ => false

/-- The time-quality mode: 0 STRICT, 1 MARK, 2 IGNORE; ACCEPT_TEST; TQ_MAX (04 R81). -/
def tqMode (d : StreamDef) : Nat := d.tq % 4
def tqAcceptTest (d : StreamDef) : Bool := bit d.tq 2
def tqMax (d : StreamDef) : Nat := d.tq / 16

/-- The quality of a C37.118 channel (04 R93, R94). -/
def frameQual (d : StreamDef) (c : ChannelDef) (frame : Bytes) : Qual :=
  let st := blockStat d frame c.block
  let err := bits st 15 14
  let test := decide (err = 2)
  let unc := bit st 13 || decide (tqMax d < fldBe frame 10 1 % 16)
  let bad := decide (err = 1 ∨ err = 3) || (test && !tqAcceptTest d) || fieldMissing c (chanBytes d c frame)
  let m := tqMode d
  mkQual [!bad && !(unc && m == 0), unc && m != 2, test, false, false, false, false, bit st 10, bit st 11]

/-- Whether R93 STRICT is what makes a channel's value unusable. -/
def frameTqBad (d : StreamDef) (c : ChannelDef) (frame : Bytes) : Bool :=
  tqMode d = 0 && (bit (blockStat d frame c.block) 13 || decide (tqMax d < fldBe frame 10 1 % 16))

/-! ## Computed phasors (05 R122) -/

/-- The record of an FCI in a filter block (05 R110): SH, OPTS and STEP_TH at an index. -/
def fciCount (blk : Bytes) : Nat := fld blk 5 1
def fciId (blk : Bytes) (i : Nat) : Nat := fld blk (8 + 16 * i) 2
def fciSh (blk : Bytes) (i : Nat) : Nat := fld blk (8 + 16 * i + 2) 1
def fciOpts (blk : Bytes) (i : Nat) : Nat := fld blk (8 + 16 * i + 3) 1
def fciStepTh (blk : Bytes) (i : Nat) : Nat :=
  let v := fld blk (8 + 16 * i + 4) 4
  if v = 0 ∧ bit (fciOpts blk i) 1 then 524288 else v

/-- A product of a 24-bit value, 2^SH and SCALE in float32 (05 R122). -/
def fciScale (v : Int) (sh : Nat) (scale : Nat) : Nat := f32MulFrac (fracOf (v * 2 ^ sh)) scale

/-- An FCI's outputs as a channel's value (05 R122). -/
def fciVal (c : ChannelDef) (sh : Nat) (o : FciOut) (wave : Bool) : ChanVal :=
  .sv (fciScale o.re sh c.scale) (fciScale o.im sh c.scale) (f32Round { num := o.freq, den := 65536 })
    (if wave then some (o.wqual, o.wave.map fun v => fciScale v sh c.scale) else none)

/-! ## Substitutes (04 R99) -/

def nanVal (c : ChannelDef) : ChanVal :=
  match c.kind with
  | 0 => .phasor f32NaN f32NaN false
  | 4 => .raw 0
  | 5 => .sv f32NaN f32NaN f32NaN none
  | _ => if c.kind = 6 ∧ (c.format = 9 ∨ c.format = 10) then .raw 0 else .scalar f32NaN

def fixedVal (fn : Nat) (c : ChannelDef) : ChanVal :=
  match c.kind with
  | 0 => .phasor c.substRe c.substIm false
  | 4 => .raw (c.substRe % 65536)
  | 5 => .sv c.substRe c.substIm (f32OfInt fn) none
  | _ =>
    if c.kind = 6 ∧ c.format = 9 then .raw (c.substRe % 2)
    else if c.kind = 6 ∧ c.format = 10 then .raw (c.substRe % 4)
    else .scalar c.substRe

/-- The waveform block of a substituted channel is read as NaN (04 R99). -/
def noWave : ChanVal → ChanVal
  | .sv a b f _ => .sv a b f none
  | v => v

/-- The substitute of a channel from its policy and held value: quality and value (04 R99, 06 R141). -/
def substitute (fn : Nat) (c : ChannelDef) (held : Option ChanVal) : Qual × ChanVal :=
  match c.subst, held with
  | 0, some v => (mkQual [true, false, false, false, true], noWave v)
  | 1, _ => (mkQual [true, false, false, false, true], fixedVal fn c)
  | _, _ => (mkQual [false, false, false, false, true], nanVal c)

def chanAlign (c : ChannelDef) : Bool := bit c.flags 0

/-- The channels of a stream, in order of CID. -/
def chansOf (b : Bank) (sid : Nat) : List (Nat × ChannelDef) := b.channels.filter fun e => e.2.sid == sid

/-- The FILTER template of a stream. -/
def filterTmpl (b : Bank) (sid : Nat) : Option (Nat × Template) :=
  b.templates.find? fun e => e.2.type == 5 && fld e.2.blk 0 2 == sid

/-- A channel's value and quality in an operand (04 R94, R98; 05 R121). -/
def operandVal (b : Bank) (sid : Nat) (c : ChannelDef) (data : OperandData) : Option (Qual × ChanVal) :=
  match mget b.streams sid with
  | none => none
  | some d =>
    match data with
    | .frame bytes => some (frameQual d c bytes, fieldVal c (chanBytes d c bytes))
    | .dataset members q bad =>
      some (if bad then q &&& ~~~1#16 else q, fieldVal c (be 4 (members.getD c.index 0)))
    | .filter outs =>
      match outs.find? (fun o => o.fci == c.fci), filterTmpl b sid with
      | some o, some (_, t) =>
        match (List.range (fciCount t.blk)).find? (fun i => fciId t.blk i == c.fci) with
        | some i => some (o.qual, fciVal c (fciSh t.blk i) o (bit (fciOpts t.blk i) 0 && qbit o.wqual 0))
        | none => none
      | _, _ => none
    | _ => none

/-- The quality words of a stream's aligned channels in an operand. -/
def alignQuals (b : Bank) (sid : Nat) (data : OperandData) : List Qual :=
  (chansOf b sid).filterMap fun e => if chanAlign e.2 then (operandVal b sid e.2 data).map (·.1) else none

/-- The quality words of all of a stream's channels in an operand. -/
def chanQuals (b : Bank) (sid : Nat) (data : OperandData) : List Qual :=
  (chansOf b sid).filterMap fun e => (operandVal b sid e.2 data).map (·.1)

/-- A cell's QUAL word: the OR over the stream's channels, and VALID (06 R129). -/
def cellQual (b : Bank) (sid : Nat) (data : OperandData) (valid : Bool) : Qual := streamQual (chanQuals b sid data) valid

/-- An instance is bad when every aligned channel has VALID = 0 (04 R94). DESIGN CHOICE: an instance of a stream without aligned
channels is never bad, since none of its channels says so. -/
def instanceBad (qs : List Qual) : Bool := !qs.isEmpty && qs.all fun q => !qbit q 0

/-! ## Reading a presented value (04 R98) -/

/-- Rectangular form. -/
def rectOf : ChanVal → Option (Nat × Nat)
  | .phasor a b polar => some (if polar then polarToRect a b else (a, b))
  | .sv re im _ _ => some (re, im)
  | _ => none

/-- Polar form. -/
def polarOf : ChanVal → Option (Nat × Nat)
  | .phasor a b polar => some (if polar then (a, b) else rectToPolar a b)
  | .sv re im _ _ => some (rectToPolar re im)
  | _ => none

def scalarOf : ChanVal → Option Nat
  | .scalar v => some v
  | .sv _ _ f _ => some f
  | _ => none

def viewOf (v : List ChanView) (cid : Nat) : Option ChanView := v.find? fun c => c.cid == cid

end Sys2Proof.Machine
end

