-- ==== Sys2Proof/Machine/Store.lean ====
section
/-! DEFINITION. The matching store and the dispatcher: cells, group instances, firing, release, the ready list and the
cores (06). -/

namespace Sys2Proof.Machine

/-! ## Groups and their instants -/

/-- The KEY of a producer's cells: TID with PRODUCER set (06 R129). -/
def prodKey (tid : Nat) : Nat := tid + 0x4000

def group (s : State) (gid : Nat) : Option GroupDef := mget (activeBank s).groups gid

/-- The members of a group, by KEY. -/
def groupKeys (g : GroupDef) : List Nat := g.sids ++ g.prods.map prodKey

/-- The deadline of an instance: t + W formed exactly and rounded once (03 R62, 06 R134). -/
def deadlineOf (g : GroupDef) (t : Instant) : Instant :=
  (gridFloor g.rate t * 1000000 + g.wUs * g.rate) * secU / (g.rate * 1000000)

/-- The reporting instant whose deadline an instant is. -/
def instanceAt (g : GroupDef) (dl : Instant) : Option Instant :=
  let guess := gridFloor g.rate (dl - usU g.wUs)
  ([guess - 1, guess, guess + 1].map (gridAt g.rate)).find? fun t => deadlineOf g t == dl

/-- The groups of the active bank that contain a member, in order of GID. -/
def groupsOf (s : State) (key : Nat) : List (Nat × GroupDef) :=
  (activeBank s).groups.filter fun e => (groupKeys e.2).contains key

def findInst (s : State) (gid : Nat) (t : Instant) : Option GroupInst :=
  s.mst.insts.find? fun i => i.gid == gid && i.t == t

/-- Replace or add a group instance, in order of creation. -/
def setInst (i : GroupInst) (s : State) : State :=
  let l := s.mst.insts
  let l := if l.any (fun x => x.gid == i.gid && x.t == i.t) then l.map fun x => if x.gid = i.gid ∧ x.t = i.t then i else x
    else l ++ [i]
  { s with mst := { s.mst with insts := l } }

def dropInst (gid : Nat) (t : Instant) (s : State) : State :=
  { s with mst := { s.mst with insts := s.mst.insts.filter fun x => !(x.gid == gid && x.t == t) } }

/-- An instance has fired or has been retired: it is fired now, or not after the last one fired (06 R137). -/
def hasFired (s : State) (gid : Nat) (t : Instant) : Bool :=
  match mget s.mst.lastFired gid with
  | some l => decide (t ≤ l)
  | none => false

/-- The instance precedes the group's first one (06 R158). -/
def beforeFirst (s : State) (gid : Nat) (t : Instant) : Bool :=
  match mget s.mst.firstInst gid with
  | some f => decide (t < f)
  | none => true

/-- The group's previous instance has fired (06 R137). -/
def predFired (s : State) (gid : Nat) (g : GroupDef) (t : Instant) : Bool :=
  match mget s.mst.lastFired gid with
  | some l => decide (gridFloor g.rate t ≤ gridFloor g.rate l + 1)
  | none => match mget s.mst.firstInst gid with
    | some f => decide (t ≤ f)
    | none => false

/-- An operand with an arrival stamp counts towards an instance in RUN: neither fired nor at its deadline (04 R84, R89; 06 R139).
A STOP has retired every instance (06 R140, R158). -/
def instOpen (s : State) (gid : Nat) (g : GroupDef) (t stamp : Instant) : Bool :=
  inRun s && !hasFired s gid t && !beforeFirst s gid t && decide (stamp < deadlineOf g t)

/-- One slot after an instance's deadline, formed exactly and rounded down once (03 R46, 06 R155). -/
def groupLimit (fn : Nat) (g : GroupDef) (t : Instant) : Instant :=
  ((gridFloor g.rate t * 1000000 + g.wUs * g.rate) * fn + g.rate * 1000000) * secU / (g.rate * 1000000 * fn)

/-! ## Cells and the frame buffer (04 R104, 06 R129-R131) -/

def findCell (s : State) (key : Nat) (t : Instant) : Option Cell :=
  s.mst.cells.find? fun c => c.key == key && c.inst == t

/-- The first free contiguous space of n units (04 R104): DESIGN CHOICE, lowest address first. -/
def fbFit (n : Nat) : List FbRegion → Nat → Option Nat
  | [], p => if p + n ≤ Config.frameBuffer then some p else none
  | r :: rs, p => if p + n ≤ r.fptr then some p else fbFit n rs (r.fptr + r.len)

def fbAlloc (key : Nat) (t : Instant) (nbytes : Nat) (s : State) : Option (Nat × State) :=
  let n := ceilDiv nbytes 64
  match fbFit n s.mst.fb 0 with
  | some p =>
    let fb := insertBy (·.fptr) { fptr := p, len := n, key := key, inst := t } s.mst.fb
    some (p, { s with mst := { s.mst with fb := fb } })
  | none => none

/-- Space is held while its cell is, or while an instance whose tasks read the operand has not retired (06 R131). -/
def fbSweep (s : State) : State :=
  let fb := s.mst.fb.filter fun r =>
    s.mst.cells.any (fun c => c.key == r.key && c.inst == r.inst)
      || s.mst.insts.any (fun i => i.ops.any fun c => c.key == r.key && c.inst == r.inst)
  { s with mst := { s.mst with fb := fb } }

/-- A cell no group waits for returns to the pool. -/
def cellSweep (s : State) : State :=
  let cells := s.mst.cells.filter fun c => c.staging || !c.waiting.isEmpty
  fbSweep { s with mst := { s.mst with cells := cells } }

/-- A group no longer waits for its members' cells of an instance. -/
def unreference (gid : Nat) (t : Instant) (s : State) : State :=
  cellSweep { s with mst := { s.mst with
    cells := s.mst.cells.map fun c => if c.inst = t then { c with waiting := c.waiting.filter (· != gid) } else c } }

/-- MS_CELLS_PEAK is a level (06 R159). -/
def cellsPeak (s : State) : State :=
  if counter s 53 < s.mst.cells.length then { s with cnt := mput s.cnt 53 s.mst.cells.length } else s

/-- Take a cell with its space, or refuse (04 R84 check 8). -/
def takeCell (key : Nat) (t : Instant) (nbytes : Nat) (mk : Nat → Cell) (s : State) : Option State :=
  if Config.maxCells ≤ s.mst.cells.length then none
  else match fbAlloc key t nbytes s with
    | none => none
    | some (p, s) => some (cellsPeak { s with mst := { s.mst with cells := s.mst.cells ++ [mk p] } })

/-! ## Stream state (04 R103) -/

def stream (s : State) (sid : Nat) : StreamRun := mgetD s.streams sid {}

def setStream (sid : Nat) (r : StreamRun) (s : State) : State := { s with streams := mput s.streams sid r }

/-- Count in a stream's own count and in the device's counter 16 + i (04 R480, 17 R438). -/
def countStream (sid i : Nat) (s : State) : State :=
  let r := stream s sid
  count (16 + i) (setStream sid { r with counts := mput r.counts i (satAdd 0xFFFFFFFF (mgetD r.counts i 0) 1) } s)

def streamStateCode : StreamState → Nat
  | .idle => 1
  | .up => 2
  | .dropped => 3
  | .cfgMismatch => 4

/-- An INGEST record (16 R420). -/
def noteIngest (sev sid : Nat) (name : Bytes) (s : State) : State :=
  note sev 4 name sid (streamStateCode (stream s sid).state) (stream s sid).missRun s

/-- One mark of a stream's history. -/
def histStep (h : StHist) (m : StMark) : StHist :=
  match m with
  | .good => { h with heard := true, run := 0 }
  | .bad => { h with heard := true, run := h.run + 1 }
  | .missing => if h.heard then { h with run := h.run + 1 } else h
  | .idle => {}
  | .mismatch => { h with mismatch := true }
  | .agreed => { h with mismatch := false }

/-- Marks up to this instant can be folded: no open instance reaches 4 s back, and every running scheme has executed a cycle
since. -/
def histHorizon (s : State) : Instant :=
  s.schs.foldl (fun a e => if e.2.running then min a (e.2.lastT.getD 0) else a) (now s - 4 * secU)

/-- A mark at an instant; marks that nothing can reach are folded into the base. -/
def histAdd (sid : Nat) (t : Instant) (m : StMark) (s : State) : State :=
  let r := stream s sid
  let h := insertBy (·.1) (t, m) r.hist
  let old := h.takeWhile fun e => decide (e.1 < histHorizon s)
  setStream sid { r with histBase := old.foldl (fun b e => histStep b e.2) r.histBase, hist := h.drop old.length } s

/-- The stream becomes DROPPED (04 R103). -/
def streamDrop (sid : Nat) (s : State) : State :=
  let r := stream s sid
  noteIngest 5 sid nmStreamDropped
    (count 26 (setStream sid { r with state := .dropped, dropout := satAdd 255 r.dropout 1 } s))

/-- The instance of a stream at an instant is missing, or accepted and bad (04 R103). -/
def streamMiss (sid : Nat) (t : Instant) (m : StMark) (s : State) : State :=
  match mget (activeBank s).streams sid with
  | none => s
  | some d =>
    let r := stream s sid
    match r.state with
    | .idle => s
    | .cfgMismatch => histAdd sid t m (setStream sid { r with missRun := satAdd 0xFFFFFFFF r.missRun 1 } s)
    | .dropped => histAdd sid t m (setStream sid { r with missRun := satAdd 0xFFFFFFFF r.missRun 1 } s)
    | .up =>
      let s := histAdd sid t m (setStream sid { r with missRun := satAdd 0xFFFFFFFF r.missRun 1 } s)
      if d.dropout ≤ r.missRun + 1 then streamDrop sid s else s

/-- A good instance ends a run, and a DROPPED stream returns to UP (04 R103). -/
def streamGood (sid : Nat) (t : Instant) (s : State) : State :=
  let s := histAdd sid t .good s
  let r := stream s sid
  match r.state with
  | .dropped => noteIngest 3 sid nmStreamUp (setStream sid { r with state := .up, missRun := 0 } s)
  | _ => setStream sid { r with missRun := 0 } s

/-- An instance is accepted: the first takes the stream from IDLE to UP (04 R103). DESIGN CHOICE: an instance that was judged
missing at the earliest deadline and is accepted for a slower group ends the run when it is good, and a DROPPED stream returns to
UP; when it is bad it counts no second time. -/
def streamAccept (sid : Nat) (t : Instant) (bad : Bool) (s : State) : State :=
  let r := stream s sid
  let s := setStream sid { r with
    state := if r.state = .idle then .up else r.state, heard := true, lastInst := some t
    firstAcc := some (r.firstAcc.getD t) } s
  if bad then (if r.missed.contains t then s else streamMiss sid t .bad s) else streamGood sid t s

/-- The first refusal of a second writes a record (04 R104). -/
def streamRefused (sid : Nat) (s : State) : State :=
  let s := countStream sid 8 s
  let sec := now s / secU
  if s.pwr.firstRefusal = [(0, sec)] then s
  else noteIngest 5 sid nmStreamRefused { s with pwr := { s.pwr with firstRefusal := [(0, sec)] } }

/-! ## Releasing tasks (06 R148, R155) -/

def tmplRun (s : State) (tid : Nat) : TmplRun := mgetD s.disp.tmpls tid {}

def setTmplRun (tid : Nat) (r : TmplRun) (s : State) : State :=
  { s with disp := { s.disp with tmpls := mput s.disp.tmpls tid r } }

/-- A DATAPATH record (16 R420). -/
def noteData (sev : Nat) (name : Bytes) (subject : Nat) (t : Instant) (s : State) : State :=
  note sev 5 name subject (t % secU) (t / secU % 2 ^ 32) s

/-- A fired instance stays until its last task has ended and no CYCLE issue can release a cycle for it (06 R140, 08 R194). -/
def instSettle (i : GroupInst) (s : State) : State :=
  if i.tasks = 0 ∧ i.cycles.isEmpty then fbSweep (dropInst i.gid i.t s) else setInst i s

/-- The task of a group instance has ended: the instance retires with its last one (06 R140). -/
def instTaskEnd (gid : Nat) (t : Instant) (s : State) : State :=
  match findInst s gid t with
  | some i => instSettle { i with tasks := i.tasks - 1 } s
  | none => s

/-- Held releases are retried oldest first while entries are free (06 R155). -/
def retryHeld (s : State) : State :=
  let room := Config.maxReady - s.disp.ready.length
  { s with disp := { s.disp with ready := s.disp.ready ++ s.disp.held.take room, held := s.disp.held.drop room } }

/-- A skipped cycle of a scheme counts, and the first of a second is recorded; cause 1 is an overrun, 2 a dropped release
(08 R201). -/
def skipCycle (sch : Nat) (t : Instant) (cause : Nat) (s : State) : State :=
  let s := count 97 s
  let sec := now s / secU
  if s.disp.skipSec = some sec then s
  else
    let s := { s with disp := { s.disp with skipSec := some sec } }
    noteI 5 5 nmSchemeSkip (item nmScheme sch ++ item nmTau (toNs t) ++ item nmCause cause) sch (t % secU)
      (t / secU % 2 ^ 32) s

/-- Whether a task instance is a scheme's. -/
def schemeTask (sch : Nat) (k : TaskInst) : Bool := k.tmpl.type == 2 && k.tmpl.object == sch

/-- The scheme's released cycles that no core has started. -/
def waitingCycles (s : State) (sch : Nat) : List TaskInst :=
  s.disp.ready.filter (schemeTask sch) ++ s.disp.held.filter (schemeTask sch)
    ++ (s.disp.cores.map fun e => e.2.queue.filter (schemeTask sch)).flatten

/-- A released instance leaves every list without running. -/
def removeTask (k : TaskInst) (s : State) : State :=
  let other := fun (x : TaskInst) => x.serial != k.serial
  let r := tmplRun s k.tid
  let s := setTmplRun k.tid { r with pending := r.pending - 1 } s
  { s with disp := { s.disp with
    ready := s.disp.ready.filter other
    held := s.disp.held.filter other
    cores := mmap s.disp.cores fun _ c => { c with queue := c.queue.filter other } } }

/-- The scheme's next cycle in order of t is skipped: a release that waits is discarded, or a later one does not run
(08 R201). -/
def schemeSkipNext (sch : Nat) (s : State) : State :=
  match lminBy (waitingCycles s sch) (fun k => k.t) with
  | some k => retryHeld (instTaskEnd k.gid k.t (removeTask k (skipCycle sch k.t 1 s)))
  | none => { s with schs := mmod s.schs sch fun r => { r with skipNext := true } }

/-- A release that does not run: a scheme's cycle is skipped at once (08 R201), and what follows for the other types is
settled by their own chapters from the list (06 R156). -/
def releaseDropped (k : TaskInst) (s : State) : State :=
  let s := if k.tmpl.type = 2 then skipCycle k.tmpl.object k.t 2 s else s
  let s := { s with disp := { s.disp with dropped := s.disp.dropped ++ [k] } }
  if k.gid < 0x400 then instTaskEnd k.gid k.t s else s

/-- A scheme's release at instant t is to be skipped (08 R201). -/
def skipsNow (s : State) (tm : Template) : Bool :=
  tm.type == 2 && (match mget s.schs tm.object with
    | some r => r.skipNext
    | none => false)

/-- Release one instance of a template; limit is its hold limit (06 R148, R155). -/
def releaseTask (tid : Nat) (tm : Template) (t : Instant) (gid : Nat) (limit : Instant) (s : State) : State :=
  let r := tmplRun s tid
  let k : TaskInst := { tid := tid, tmpl := tm, t := t, gid := gid, released := now s, holdUntil := limit
                        serial := s.disp.serial }
  let s := { s with disp := { s.disp with serial := s.disp.serial + 1 } }
  if skipsNow s tm then
    let s := skipCycle tm.object t 1 { s with schs := mmod s.schs tm.object fun r => { r with skipNext := false } }
    if gid < 0x400 then instTaskEnd gid t s else s
  else if 4 ≤ r.pending then
    let s := count 57 s
    let sec := now s / secU
    let s := if r.backlogSec = some sec then s
      else noteData 5 nmTaskBacklog tid t (setTmplRun tid { r with backlogSec := some sec } s)
    releaseDropped k s
  else
    let s := setTmplRun tid { r with pending := r.pending + 1 } s
    if Config.maxReady ≤ s.disp.ready.length then
      count 55 { s with disp := { s.disp with held := s.disp.held ++ [k] } }
    else { s with disp := { s.disp with ready := s.disp.ready ++ [k] } }

/-! ## Firing (06 R137-R142) -/

/-- Held value of a (group, channel) pair (06 R142). -/
def heldVal (s : State) (gid cid : Nat) : Option ChanVal :=
  match mget s.mst.hold gid with
  | some m => mget m cid
  | none => none

def setHeld (gid cid : Nat) (v : ChanVal) (s : State) : State :=
  { s with mst := { s.mst with hold := mput s.mst.hold gid (mput (mgetD s.mst.hold gid []) cid v) } }

/-- The channels with ALIGN set of a group's streams, in order of CID. -/
def groupChans (b : Bank) (g : GroupDef) : List (Nat × ChannelDef) :=
  b.channels.filter fun e => chanAlign e.2 && g.sids.contains e.2.sid

/-- What a group presents for one channel, and whether it is substituted (06 R141). -/
def presentChan (s : State) (gid : Nat) (ops : List Cell) (cid : Nat) (c : ChannelDef) : ChanView × Bool :=
  let v := match ops.find? (fun o => o.key == c.sid) with
    | some o => operandVal (activeBank s) c.sid c o.data
    | none => none
  match v with
  | some (q, v) =>
    if qbit q 0 then ({ cid := cid, qual := q, val := v }, false)
    else
      let (q, v) := substitute (fnom s) c (heldVal s gid cid)
      ({ cid := cid, qual := q, val := v }, true)
  | none =>
    let (q, v) := substitute (fnom s) c (heldVal s gid cid)
    ({ cid := cid, qual := q, val := v }, true)

/-- The presented view updates the hold table: VALID = 1 and SUBST = 0 (06 R142). -/
def holdUpdate (gid : Nat) (view : List ChanView) (s : State) : State :=
  view.foldl (fun s v => if qbit v.qual 0 && !qbit v.qual 4 then setHeld gid v.cid v.val s else s) s

/-- The templates that a firing of a group releases, in order of TID (06 R138, R146): a SCHEME only for a slot whose
cycle is open (08 R194). -/
def firedTemplates (s : State) (gid : Nat) (t : Instant) : List (Nat × Template) :=
  (activeBank s).templates.filter fun e =>
    e.2.gid == gid && (e.2.type == 1 || e.2.type == 3 || e.2.type == 4 ||
      (e.2.type == 2 && (match mget s.schs e.2.object with
        | some r => r.running && r.opened.contains t
        | none => false)))

/-- The scheme's open cycle is taken by its release (08 R194). -/
def takeOpened (k : Template) (t : Instant) (s : State) : State :=
  if k.type = 2 then
    { s with schs := mmod s.schs k.object fun r => { r with opened := r.opened.filter (fun x => decide (t < x)) } }
  else s

/-- A scheme's CYCLE issue falls on an instant and has not taken place (08 R194). -/
def cycleToCome (s : State) (sch : Nat) (t : Instant) : Bool :=
  (match mget s.schs sch with
    | some r => (match r.cycleAt with
      | some c => decide (c < t)
      | none => true)
    | none => true) &&
  (match sched s with
    | some img => img.entries.any fun e => e.action == 4 && e.target == sch && (issueHit e t).isSome
    | none => false)

/-- The schemes of a group whose CYCLE issue for an instance is still to come. -/
def cyclesToCome (s : State) (gid : Nat) (t : Instant) : List Nat :=
  if t < now s then [] else
  (activeBank s).templates.filterMap fun e =>
    if e.2.gid == gid && e.2.type == 2 && cycleToCome s e.2.object t then some e.2.object else none

/-- An instance fires: kind 2 EARLY, 3 at the deadline, 4 FIXED (17 R435). -/
def fireInst (gid : Nat) (g : GroupDef) (t : Instant) (kind : Nat) (s : State) : State :=
  let i := (findInst s gid t).getD { gid := gid, t := t, state := .open_ }
  let ops := s.mst.cells.filter fun c => c.inst == t && i.present.contains c.key && !c.staging
  let parts := (groupChans (activeBank s) g).map fun e => presentChan s gid ops e.1 e.2
  let view := parts.map (·.1)
  let subst := (parts.filter (·.2)).length
  let tms := firedTemplates s gid t
  let missing := (groupKeys g).length - i.present.length
  let s := countBy 52 subst (count (46 + kind) s)
  let s := traceMatch gid kind missing t (holdUpdate gid view s)
  let s := { s with mst := { s.mst with lastFired := mput s.mst.lastFired gid t } }
  let i := { i with state := .fired, kind := kind, view := view, ops := ops, tasks := tms.length
                    cycles := cyclesToCome s gid t }
  let s := instSettle i s
  let s := tms.foldl (fun s e => releaseTask e.1 e.2 t gid (groupLimit (fnom s) g t) (takeOpened e.2 t s)) s
  unreference gid t s

/-- A successor that waits as COMPLETE fires after its predecessor (06 R137, R138). -/
def fireWaiting : Nat → Nat → GroupDef → Instant → State → State
  | 0, _, _, _, s => s
  | fuel + 1, gid, g, t, s =>
    let nx := gridAt g.rate (gridFloor g.rate t + 1)
    match findInst s gid nx with
    | some i =>
      if i.state = .complete ∧ g.policy = 0 ∧ !hasFired s gid nx then
        fireWaiting fuel gid g nx (fireInst gid g nx 2 s)
      else s
    | none => s

/-- Fire an instance and the successors that waited for it. -/
def fire (gid : Nat) (g : GroupDef) (t : Instant) (kind : Nat) (s : State) : State :=
  fireWaiting s.mst.insts.length gid g t (fireInst gid g t kind s)

/-- An operand of a member arrives at one open group instance (06 R136, R137). -/
def joinInst (gid : Nat) (g : GroupDef) (key : Nat) (t : Instant) (s : State) : State :=
  let i := (findInst s gid t).getD { gid := gid, t := t, state := .open_ }
  let i := { i with present := if i.present.contains key then i.present else i.present ++ [key] }
  if (groupKeys g).all i.present.contains then
    let s := traceMatch gid 1 0 t (setInst { i with state := .complete } s)
    if g.policy = 0 then
      if predFired s gid g t then fire gid g t 2 s else count 51 s
    else s
  else setInst i s

/-- The groups for which an operand counts, in order of GID. -/
def openGroups (s : State) (key : Nat) (t stamp : Instant) : List (Nat × GroupDef) :=
  (groupsOf s key).filter fun e => onGrid e.2.rate t && instOpen s e.1 e.2 t stamp

/-- An operand stands in a cell: each open instance takes it (06 R130, R136, R138). -/
def operandWritten (key : Nat) (t stamp : Instant) (s : State) : State :=
  cellSweep ((openGroups s key t stamp).foldl (fun s e => joinInst e.1 e.2 key t s) s)

/-- A C37.118 or GOOSE_R stream in no group keeps its cell until its missing limit, the instant plus 2 / RATE; a FILTER operand
is written after that limit, and a producer has none (06 R131). -/
def keepsCell (s : State) (key : Nat) (t : Instant) : Bool :=
  match mget (activeBank s).streams key with
  | some d => d.type != 3 && d.type != 4 && decide (now s < gridAt d.rate (gridFloor d.rate t + 2))
  | none => false

/-- Which groups a new cell waits for, and whether one had already fired (06 R129, R131). The mark 1024 stands for the missing
limit of a stream in no group. -/
def cellWaits (s : State) (key : Nat) (t stamp : Instant) : List Nat × Bool :=
  let all := groupsOf s key
  let opn := openGroups s key t stamp
  (if all.isEmpty ∧ keepsCell s key t then [1024] else opn.map (·.1), decide (opn.length < all.length))

/-- The missing limit of a stream in no group has passed: its cell of the instance goes back (06 R131). -/
def limitPassed (sid : Nat) (t : Instant) (s : State) : State :=
  cellSweep { s with mst := { s.mst with cells := s.mst.cells.map fun c =>
    if c.key = sid ∧ c.inst = t then { c with waiting := c.waiting.filter (· != 1024) } else c } }

/-! ## Deadlines (06 R137, R139, R140) -/

/-- The group with the earliest deadline among those that contain a stream: the lowest W, then the lowest GID (04 R103). -/
def judgingGroup (s : State) (sid : Nat) : Option Nat := (lminBy (groupsOf s sid) (fun e => e.2.wUs)).map (·.1)

/-- A stream's instance is judged missing (04 R103). -/
def noteMissed (sid : Nat) (t : Instant) (s : State) : State :=
  let r := stream s sid
  streamMiss sid t .missing (setStream sid { r with missed := r.missed ++ [t] } s)

/-- The streams whose instance is judged missing at a group's deadline (04 R103). SV streams are judged by sample set. -/
def judgeMissing (gid : Nat) (g : GroupDef) (t : Instant) (s : State) : State :=
  let present := match findInst s gid t with
    | some i => i.present
    | none => []
  g.sids.foldl (fun s sid =>
    let sv := match mget (activeBank s).streams sid with
      | some d => d.type == 3 || d.type == 4
      | none => true
    let since := match (stream s sid).firstAcc with
      | some f => decide (f ≤ t)
      | none => false
    if !sv && since && judgingGroup s sid == some gid && !present.contains sid then noteMissed sid t s else s) s

/-- The evaluation of a deadline 2.0 µs after it (01 R14, 06 R137, R139). -/
def evaluateDeadline (gid : Nat) (t : Instant) (s : State) : State :=
  match group s gid with
  | none => s
  | some g =>
    let s := traceDeadline gid t s
    if hasFired s gid t ∨ beforeFirst s gid t then s
    else
      let s := judgeMissing gid g t s
      fire gid g t (if g.policy = 1 then 4 else 3) s

/-- The evaluation of a group instance, 2.0 µs after its deadline (06 R137). -/
def dueEval (gid : Nat) (g : GroupDef) (t : Instant) : DueEval :=
  { gid := gid, t := t, at_ := gridPlus g.rate (gridFloor g.rate t) (g.wUs + 2) 1000000 }

/-- A DEADLINE issue at an instant: the group's instance whose deadline this is will be evaluated 2.0 µs later (01 R14, 03 R69).
The evaluation's instant is formed exactly. -/
def deadlineIssue (gid : Nat) (at_ : Instant) (s : State) : State :=
  match (group s gid).bind fun g => (instanceAt g at_).map (dueEval gid g) with
  | none => s
  | some e => { s with mst := { s.mst with evalDue := s.mst.evalDue ++ [e] } }

/-- The evaluations to come up to and including one, and those after it; none where it is not to come. -/
def dueThrough (gid : Nat) (t : Instant) : List DueEval → Option (List DueEval × List DueEval)
  | [] => none
  | e :: es =>
    if e.gid = gid ∧ e.t = t then some ([e], es)
    else (dueThrough gid t es).map fun p => (e :: p.1, p.2)

/-- The evaluations to come are taken up to and including one, in order of increasing deadline and then of GID (06 R138), each at
its instant. -/
def rowDeadlineEvaluation (gid : Nat) (t : Instant) (s : State) : Host.Outcome State Fault Refusal :=
  match dueThrough gid t s.mst.evalDue with
  | none => done s
  | some (es, later) =>
    if inRun s then
      done (es.foldl (fun s e => evaluateDeadline e.gid e.t (advanceTo e.at_ s))
        { s with mst := { s.mst with evalDue := later } })
    else done s

/-! ## Dispatch (06 R149-R151) -/

def core (s : State) (c : Nat) : CoreRun := mgetD s.disp.cores c {}

def setCore (c : Nat) (r : CoreRun) (s : State) : State := { s with disp := { s.disp with cores := mput s.disp.cores c r } }

/-- Load of a core: its local-queue entries, the running task included (06 R150). -/
def coreLoad (r : CoreRun) : Nat := r.queue.length + b2n r.running.isSome

/-- The least-loaded core with a free entry among some cores; ties to the lower number. -/
def leastLoaded (s : State) (cs : List Nat) : Option Nat :=
  lminBy (cs.filter fun c => coreLoad (core s c) < Config.localQueue) (fun c => coreLoad (core s c))

/-- Cores of the pavilions of a set. -/
def pavCores (pavset : Nat) : List Nat := (List.range 64).filter fun c => bit pavset (c / 8)

/-- The core that the affinity rule chooses, and the step that chose it (06 R150). -/
def chooseCore (s : State) (k : TaskInst) : Option (Nat × Nat) :=
  let set := k.tmpl.pavset
  let last := match (tmplRun s k.tid).lastCore with
    | some c => if bit set (c / 8) then some c else none
    | none => none
  match last with
  | some c =>
    if coreLoad (core s c) < (if k.tmpl.affDepth = 0 then 4 else k.tmpl.affDepth) then some (c, 1)
    else match leastLoaded s ((List.range 8).map (c / 8 * 8 + ·)) with
      | some c => some (c, 2)
      | none => (leastLoaded s (pavCores set)).map (·, 3)
  | none => (leastLoaded s (pavCores set)).map (·, 3)

/-- Whether a template has an instance on a core. -/
def onCore (s : State) (tid : Nat) : Bool :=
  s.disp.cores.any fun e => e.2.queue.any (·.tid == tid) || (match e.2.running with
    | some k => k.tid == tid
    | none => false)

/-- Eligible: no earlier instance of the template has not completed (06 R148). -/
def taskEligible (s : State) (k : TaskInst) : Bool :=
  !onCore s k.tid && !s.disp.ready.any (fun x => x.tid == k.tid && decide (x.serial < k.serial))
    && !s.disp.held.any (fun x => x.tid == k.tid && decide (x.serial < k.serial))

/-- The ready entry to place, with its core and step: highest priority, then release order (06 R149). -/
def nextDispatch (s : State) : Option (TaskInst × Nat × Nat) :=
  let l := sortBy (fun k => k.tmpl.prio) (sortBy (fun k => k.serial) s.disp.ready)
  l.findSome? fun k => if taskEligible s k then (chooseCore s k).map fun p => (k, p.1, p.2) else none

/-- READY_HELD_RETRY (06 R155). -/
def execReadyHeldRetry (s : State) : Host.Outcome State Fault Refusal := done (retryHeld s)

/-- TASK_DISPATCH (06 R149-R152). -/
def execTaskDispatch (s : State) : Host.Outcome State Fault Refusal :=
  match nextDispatch s with
  | none => done s
  | some (k, c, step) =>
    let s := { s with disp := { s.disp with ready := s.disp.ready.filter fun x => x.serial != k.serial } }
    let r := core s c
    let s := setCore c { r with queue := r.queue ++ [k] } s
    let s := setTmplRun k.tid { tmplRun s k.tid with lastCore := some c } s
    let s := count (57 + step) s
    let s := if k.released + usU 12 < now s then count 61 s else s
    done (retryHeld (traceDispatch k.tid c step k.t s))

/-- TASK_START: the highest-priority local entry, in release order within a level (06 R151). -/
def execTaskStart (c : Fin 64) (s : State) : Host.Outcome State Fault Refusal :=
  let r := core s c
  match r.running, lminBy (sortBy (fun k => k.serial) r.queue) (fun k => k.tmpl.prio) with
  | none, some k =>
    done (setCore c { r with queue := r.queue.filter (fun x => x.serial != k.serial), running := some k, start := now s
                             overrun := false } s)
  | _, _ => done s

/-- A task leaves its core: completed or aborted (06 R148, R154). -/
def taskEnd (c : Nat) (k : TaskInst) (s : State) : State :=
  let s := oqForget (keyTask k.serial) (setCore c { core s c with running := none, overrun := false } s)
  let r := tmplRun s k.tid
  let s := setTmplRun k.tid { r with pending := r.pending - 1 } s
  if k.gid < 0x400 then instTaskEnd k.gid k.t s else s

/-- WCET_BUDGET_REACHED (06 R153, 08 R201). -/
def execWcetBudgetReached (c : Fin 64) (s : State) : Host.Outcome State Fault Refusal :=
  let r := core s c
  match r.running with
  | none => done s
  | some k =>
    if r.overrun then done s
    else
      let s := advanceTo (r.start + nsU k.tmpl.wcet) s
      let s := setCore c { r with overrun := true } s
      let s := if k.tmpl.type = 2 then schemeSkipNext k.tmpl.object s else s
      done (traceOverrun k.tid c 1 k.t (setIrq 8 (count 62 s)))

/-- A producer's operand is written, or refused for want of a cell (06 R130, R156, R157). -/
def writeProduced (tid : Nat) (t : Instant) (data : Bytes) (valid : Bool) (s : State) : State :=
  let key := prodKey tid
  let stamp := now s
  let (waits, late) := cellWaits s key t stamp
  match takeCell key t (max data.length 64)
      (fun p => { key := key, inst := t, fptr := p, fbLen := ceilDiv (max data.length 64) 64, staging := false
                  latePartial := late, qual := mkQual [valid], stamp := stamp, data := .record data, waiting := waits }) s with
  | none => count 54 s
  | some s => operandWritten key t stamp s

/-- A producer's operand for its own instance, when its template has PRODUCER set (06 R145, R157). -/
def writeOperandOf (k : TaskInst) (data : Bytes) (valid : Bool) (s : State) : State :=
  if bit k.tmpl.tflags 0 then writeProduced k.tid k.t data valid s else s

end Sys2Proof.Machine
end

