-- ==== Sys2Proof/Machine/Filter.lean ====
section
/-! DEFINITION. The waveform filter chain: fixed-point phasors and waveforms, restarts, settling, source switching and the
FILTER task (05). -/

namespace Sys2Proof.Machine

/-! ## Parameters (05 R109, R110, R112) -/

/-- What a stream's rate, Fnom and filter block fix; spans in input samples. -/
structure FcPar where
  rate : Nat
  fn : Nat
  dd : Nat
  nc : Nat
  cc : Nat
  rOut : Nat
  wOn : Bool
  dw : Nat
  taps : Nat
  lp : Nat
  lw : Nat
  lam : Nat
  wsamp : Nat
deriving DecidableEq, Repr

def presetC (p : Nat) : Nat := if p = 1 then 2 else if p = 3 then 12 else 4

def presetW (w : Nat) : Nat := if w = 1 then 4800 else if w = 2 then 2400 else 1200

def presetS (w : Nat) : Nat := if w = 1 then 48 else if w = 2 then 96 else 192

def fcPar (fn rate : Nat) (blk : Bytes) : FcPar :=
  let cc := presetC (fld blk 2 1)
  let wp := fld blk 3 1
  let ro := fld blk 4 1
  let rOut := if ro = 0 then fn else ro
  let nc := rate / fn
  let lp := cc / 2 * nc
  let taps := if wp = 0 then 0 else presetS wp
  let lw := taps / 2
  { rate := rate, fn := fn, dd := rate / (16 * fn), nc := nc, cc := cc, rOut := rOut, wOn := wp ≠ 0
    dw := if wp = 0 then 1 else rate / presetW wp, taps := taps, lp := lp, lw := lw, lam := max lp lw
    wsamp := if wp = 0 then 0 else presetW wp / rOut }

/-- The input sample at reporting instant j (05 R109: every reporting instant is an input sample instant). -/
def sampleOf (p : FcPar) (j : Nat) : Nat := j / p.rOut * p.rate + j % p.rOut * p.rate / p.rOut

/-- The FILTER instance to which the sample set at an instant belongs: the earliest reporting instant t with
t + Λ at or after it (05 R119). -/
def instanceOf (p : FcPar) (n : Nat) : Nat := ceilDiv ((n - p.lam) * p.rOut) p.rate

/-- The sample instants that belong to instance j. -/
def instSamples (p : FcPar) (j : Nat) : List Nat :=
  let a := sampleOf p (j - 1) + p.lam
  (List.range (sampleOf p j + p.lam - a)).map (· + a + 1)

/-- The sample instants that instance j of a chain consumes: those that belong to it, and for the first instance after a START
every one from the start on (05 R119, R124, R125). -/
def chainSamples (p : FcPar) (run : FilterRun) (j : Nat) : List Nat :=
  if j = run.start then (List.range (sampleOf p j + p.lam + 1 - run.opened)).map (· + run.opened) else instSamples p j

/-! ## Coefficients (05 R113-R117) -/

/-- H_aa at Fnom, in units of 2^-256 (05 R113). -/
def haa (p : FcPar) : Int :=
  let x := fxPi * p.fn / p.rate
  let n := fxSin (x * (p.dd + 1))
  let d := fxSin x * (p.dd + 1)
  let q := n * fxOne / d
  fxMul q q

/-- w_m = cos²(πm/(16C)). -/
def hann (cc : Nat) (m : Int) : Int :=
  let c := fxCos (fxPi * m / (16 * cc : Nat))
  fxMul c c

/-- The indices −h to h. -/
def span (h : Nat) : List Int := (List.range (2 * h + 1)).map fun i => (i : Int) - h

/-- c_m, the real and imaginary coefficients of a window of C cycles (05 R113, R115). -/
def lpCoefs (p : FcPar) (cc : Nat) : List (Int × Int) :=
  let ms := span (8 * cc - 1)
  let sum := ms.foldl (fun a m => a + hann cc m) 0
  let den := (fxMul sum (haa p)).toNat
  let r2 := fxSqrt (2 * fxOne)
  ms.map fun m =>
    let w := fxMul (hann cc m) r2 * 2 ^ 22
    let a := 2 * fxPi * m / 16
    (rheDiv (fxMul w (fxCos a)) den, rheDiv (-(fxMul w (fxSin a))) den)

/-- The taps D + 1 − |i| (05 R113). -/
def aaTaps (p : FcPar) : List Int := (span p.dd).map fun i => (p.dd + 1 : Int) - i.natAbs

/-- The exact gain of steps 1 and 2 at Fnom + i/256 Hz, as a magnitude in units of 2^-256 and a common factor (05 R114). -/
def gainAt (p : FcPar) (i : Int) : Int :=
  let f : Int := 256 * (p.fn : Int) + i
  let ang := fun (m : Int) (d : Nat) => 2 * fxPi * (f * m) / ((256 * d : Nat) : Int)
  let aa := ((span p.dd).zip (aaTaps p)).foldl (fun a e => a + e.2 * fxCos (ang e.1 p.rate)) 0
  let lp := ((span (8 * p.cc - 1)).zip (lpCoefs p p.cc)).foldl (fun (a : Int × Int) e =>
    let c := fxCos (ang e.1 (16 * p.fn))
    let s := fxSin (ang e.1 (16 * p.fn))
    (a.1 + e.2.1 * c - e.2.2 * s, a.2 + e.2.1 * s + e.2.2 * c)) (0, 0)
  fxMul aa (fxSqrt (fxMul lp.1 lp.1 + fxMul lp.2 lp.2))

/-- G_i = rhe(2^21 / Wr(i/256 Hz)) (05 R114). -/
def gTable (p : FcPar) (i : Int) : Int := rheDiv (2 ^ 21 * (gainAt p 0).natAbs) (gainAt p i).natAbs

/-- G at a deviation in units of 2^-16 Hz: linear between entries, on its low 8 bits (05 R114). -/
def gAt (p : FcPar) (df : Int) : Int :=
  let i := df / 256
  let fr := df % 256
  if fr = 0 then gTable p i else
  let a := gTable p i
  rheDiv (a * 256 + (gTable p (i + 1) - a) * fr) 256

/-- h_i of the waveform FIR (05 R117). -/
def wfCoefs (p : FcPar) : List Int :=
  let g := fun i : Int =>
    let z := fxPi * 4 * i / ((5 * p.dw : Nat) : Int)
    let sinc := if i = 0 then fxOne else fxSin z * fxOne / z
    let c := fxCos (fxPi * i / ((p.taps + 2 : Nat) : Int))
    fxMul sinc (fxMul c c)
  let gs := (span (p.taps / 2)).map g
  let sum := (gs.foldl (· + ·) 0).toNat
  gs.map fun x => rheDiv (x * 2 ^ 22) sum

/-! ## Arithmetic (05 R118) -/

/-- Saturation to 24 bits, and whether it acted. -/
def sat24 (v : Int) : Int × Bool :=
  if v < -8388608 then (-8388608, true) else if 8388607 < v then (8388607, true) else (v, false)

/-- A working sample: stage 1's value, whether it is usable, its quality, and whether stage 1 saturated. -/
structure Samp where
  x : Int
  ok : Bool
  qual : Qual
  sat : Bool
deriving DecidableEq, Repr

def noSamp : Samp := { x := 0, ok := false, qual := 0, sat := false }

/-- The quality of one SV value (04 R93, R94). PRESUMED: the bit places of the quality word of IEC 61850: validity [1:0]
with 01 invalid and 11 questionable, overflow 2, failure 6, test 11. -/
def svQual (d : StreamDef) (e : SampleSet) (q : Nat) : Qual :=
  let test := bit q 11
  let bad := decide (q % 4 = 1) || bit q 2 || bit q 6 || (test && !tqAcceptTest d)
  let m := tqMode d
  mkQual [!bad && !(e.timeUnc && m == 0), e.timeUnc && m != 2, test, q % 4 == 3, false, false, e.alt]

def samp (d : StreamDef) (sh idx : Nat) (e : SampleSet) : Samp :=
  let (raw, q) := e.vals.getD idx (0, 1)
  let (x, s) := sat24 (rheDiv raw (2 ^ sh))
  let ql := svQual d e q
  if qbit ql 0 then { x := x, ok := true, qual := ql, sat := s } else { x := 0, ok := false, qual := ql, sat := false }

/-- The descriptor of the source that delivered a sample set. -/
def setDef (b : Bank) (d : StreamDef) (e : SampleSet) : StreamDef :=
  if e.alt then (mget b.streams d.altSid).getD d else d

/-- Working samples of n instants from an instant on. -/
def sampSpan (b : Bank) (d : StreamDef) (sh idx : Nat) (line : List SampleSet) (from_ n : Nat) : List Samp :=
  (List.range n).map fun i => match line.find? (fun e => e.n == from_ + i) with
    | some e => samp (setDef b d e) sh idx e
    | none => noSamp

def dot (a b : List Int) : Int := (a.zip b).foldl (fun s e => s + e.1 * e.2) 0

/-- y at every D-th input sample of a span: step 1 of 05 R113. -/
def decimate (p : FcPar) (xs : List Int) (count : Nat) : List Int :=
  let taps := aaTaps p
  (List.range count).map fun k => rheDiv (dot taps (xs.drop (k * p.dd))) ((p.dd + 1) * (p.dd + 1))

/-- A sum of complex coefficients and decimated values over 2^22: step 2 of 05 R113. -/
def lowPass (cs : List (Int × Int)) (ys : List Int) : (Int × Bool) × (Int × Bool) :=
  (sat24 (rheDiv (dot (cs.map (·.1)) ys) (2 ^ 22)), sat24 (rheDiv (dot (cs.map (·.2)) ys) (2 ^ 22)))

/-- ρ of a decimated index (05 R113). -/
def rho (k : Nat) : Int × Int :=
  let a := 2 * fxPi * ((k % 16 : Nat) : Int) / 16
  (rheDiv (fxCos a * 2 ^ 22) (2 ^ 256), rheDiv (-(fxSin a) * 2 ^ 22) (2 ^ 256))

def rotate (k : Nat) (re im : Int) : (Int × Bool) × (Int × Bool) :=
  let (c, s) := rho k
  (sat24 (rheDiv (re * c - im * s) (2 ^ 22)), sat24 (rheDiv (re * s + im * c) (2 ^ 22)))

/-- wrap(arg a − arg b) in units of 2^-256 radians, in (−π, π]. -/
def argDiff (a b : Int × Int) : Int :=
  let d := fxAtan2 a.2 a.1 - fxAtan2 b.2 b.1
  if fxPi < d then d - 2 * fxPi else if d ≤ -fxPi then d + 2 * fxPi else d

/-- f̂ in units of 2^-16 Hz from two sub-window phasors (05 R115). -/
def freqEst (p : FcPar) (qp qm : Int × Int) : Int :=
  rheDiv ((p.fn : Int) * 65536 * (2 * fxPi) + argDiff qp qm * p.fn * 65536) (2 * fxPi).toNat

/-- The phasor path's values for one reporting instant. -/
structure PhOut where
  re : Int
  im : Int
  freq : Int
  sat : Bool
  inRange : Bool
deriving DecidableEq, Repr

/-- The phasor of reporting instant j from the working samples of its span (05 R113-R115). -/
def phasor (p : FcPar) (j : Nat) (xs : List Int) : PhOut :=
  let ys := decimate p xs (16 * p.cc - 1)
  let ((pr, s1), (pi, s2)) := lowPass (lpCoefs p p.cc) ys
  let c1 := lpCoefs p 1
  let mid := 8 * p.cc - 1
  let ((ar, s3), (ai, s4)) := lowPass c1 (ys.drop (mid + 8 - 7))
  let ((br, s5), (bi, s6)) := lowPass c1 (ys.drop (mid - 8 - 7))
  let k := j % p.rOut * (16 * p.fn / p.rOut)
  let ((xr, s7), (xi, s8)) := rotate k pr pi
  let (f, s9) := sat24 (freqEst p (ar, ai) (br, bi))
  let df := f - 65536 * p.fn
  let inR : Bool := decide (-327680 ≤ df) && decide (df < 327680)
  let s := s1 || s2 || s3 || s4 || s5 || s6 || s7 || s8 || s9
  if inR then
    let g := gAt p df
    let (zr, t1) := sat24 (rheDiv (xr * g) (2 ^ 21))
    let (zi, t2) := sat24 (rheDiv (xi * g) (2 ^ 21))
    { re := zr, im := zi, freq := f, sat := s || t1 || t2, inRange := true }
  else { re := xr, im := xi, freq := f, sat := s, inRange := false }

/-! ## Outputs (05 R121, R123, R125) -/

/-- VALID, and the OR of TIME_UNC, TEST, QUESTIONABLE and ALT_SOURCE over a span (05 R123). -/
def outQual (xs : List Samp) (valid quest unsettled : Bool) : Qual :=
  mkQual [valid, xs.any (qbit ·.qual 1), xs.any (qbit ·.qual 2), quest || xs.any (qbit ·.qual 3), false, unsettled
         , xs.any (qbit ·.qual 6)]

def countIf (c : Bool) (n : Nat) (s : State) : State := if c then count n s else s

/-- The outputs of one FCI for a reporting instant, and the state with its counts. An instance without any accepted sample set
(empty) has no valid output (05 R120). -/
def fciOutput (b : Bank) (d : StreamDef) (p : FcPar) (blk : Bytes) (run : FilterRun) (empty : Bool) (j i : Nat)
    (s : State) : FciOut × State :=
  let fci := fciId blk i
  let sh := fciSh blk i
  let idx := match b.channels.find? (fun e => e.2.sid == fld blk 0 2 && e.2.fci == fci && e.2.kind == 5) with
    | some e => e.2.index
    | none => 0
  let fr := mgetD run.fcis fci {}
  let nt := sampleOf p j
  let xs := sampSpan b d sh idx run.line (nt - p.lp) (2 * p.lp + 1)
  -- the decimated samples of the phasor reach from D − 1 taps inside the span's ends
  let ph := phasor p j (xs.map (·.x))
  let gap := empty || xs.any (!·.ok)
  let sat := ph.sat || xs.any (·.sat)
  let uns := fr.phRestarts.any fun r => decide (nt < r + p.lp) && decide (r ≤ nt + p.lp)
  let df := ph.freq - 65536 * p.fn
  let quest := p.cc == 12 && ph.inRange && !(decide (-131072 ≤ df) && decide (df < 131072))
  let valid := !gap && !sat && !uns && ph.inRange
  let s := countIf gap 36 (countIf sat 37 (countIf uns 35 (countIf (!ph.inRange) 38 s)))
  let q := outQual xs valid quest uns
  if !bit (fciOpts blk i) 0 then
    ({ fci := fci, re := ph.re, im := ph.im, freq := unsgn 32 ph.freq, qual := q, wave := [], wqual := 0 }, s)
  else
    let first := nt - p.wsamp * p.dw
    let ws := sampSpan b d sh idx run.line (first - p.lw) ((p.wsamp - 1) * p.dw + 2 * p.lw + 1)
    let hs := wfCoefs p
    let xw := ws.map (·.x)
    let vs := (List.range p.wsamp).map fun k => sat24 (rheDiv (dot hs (xw.drop (k * p.dw))) (2 ^ 22))
    let wgap := empty || ws.any (!·.ok)
    let wsat := ws.any (·.sat) || vs.any (·.2)
    let wuns := (List.range p.wsamp).any fun k =>
      let u := first + k * p.dw
      fr.wfRestarts.any fun r => decide (u < r + p.lw) && decide (r ≤ u + p.lw)
    let s := countIf wgap 36 (countIf wsat 37 (countIf wuns 35 s))
    ({ fci := fci, re := ph.re, im := ph.im, freq := unsgn 32 ph.freq, qual := q, wave := vs.map (·.1)
       wqual := outQual ws (!wgap && !wsat && !wuns) false wuns }, s)

/-! ## Restarts and the step detector (05 R124) -/

def filter (s : State) (sid : Nat) : FilterRun := mgetD s.filters sid {}

def setFilter (sid : Nat) (r : FilterRun) (s : State) : State := { s with filters := mput s.filters sid r }

/-- Every FCI of a stream restarts on both paths. -/
def restartAll (blk : Bytes) (r : Nat) (run : FilterRun) : FilterRun :=
  { run with fcis := (List.range (fciCount blk)).foldl (fun m i =>
      let f := mgetD m (fciId blk i) {}
      mput m (fciId blk i) { f with phRestarts := f.phRestarts ++ [r], wfRestarts := f.wfRestarts ++ [r] }) run.fcis }

/-- One FCI's step detector over the samples from one it has not checked up to an instant. -/
def stepScan (b : Bank) (d : StreamDef) (p : FcPar) (blk : Bytes) (i idx upto : Nat) (run : FilterRun) (fr : FciRun) :
    FciRun × Nat :=
  let sh := fciSh blk i
  let th := fciStepTh blk i
  let one : Nat → Samp := fun n => match run.line.find? (fun e => e.n == n) with
    | some e => samp (setDef b d e) sh idx e
    | none => noSamp
  let (fr, k) := (List.range (upto - fr.checked)).foldl (fun (a : FciRun × Nat) o =>
    let n := fr.checked + o + 1
    let x := one n
    let y := one (n - p.nc)
    if decide (a.1.disarmed ≤ n) && x.ok && y.ok && decide (th < (x.x - y.x).natAbs) then
      ({ a.1 with phRestarts := a.1.phRestarts ++ [n]
                  wfRestarts := if bit (fciOpts blk i) 2 then a.1.wfRestarts ++ [n] else a.1.wfRestarts
                  disarmed := n + p.nc }, a.2 + 1)
    else a) (fr, 0)
  ({ fr with checked := max fr.checked upto }, k)

/-- Step detection for every FCI with STEP_EN, as the FILTER task of instance j runs. -/
def stepDetect (b : Bank) (d : StreamDef) (p : FcPar) (blk : Bytes) (j sid : Nat) (s : State) : State :=
  let upto := sampleOf p j + p.lam
  (List.range (fciCount blk)).foldl (fun s i =>
    if !bit (fciOpts blk i) 1 then s else
      let run := filter s sid
      let fci := fciId blk i
      let idx := match b.channels.find? (fun e => e.2.sid == sid && e.2.fci == fci && e.2.kind == 5) with
        | some e => e.2.index
        | none => 0
      let (fr, k) := stepScan b d p blk i idx upto run (mgetD run.fcis fci {})
      countBy 34 k (setFilter sid { run with fcis := mput run.fcis fci fr } s)) s

/-! ## Consumption: source switching and the stream's instances (04 R92, R103; 05 R119) -/

def hasN (l : List SampleSet) (n : Nat) : Bool := l.any fun e => e.n == n

/-- The quality words of an SV stream's aligned channels in one sample set (04 R94). -/
def setBad (b : Bank) (sid : Nat) (d : StreamDef) (e : SampleSet) : Bool :=
  instanceBad ((chansOf b sid).filterMap fun c =>
    if chanAlign c.2 then some (svQual (setDef b d e) e (e.vals.getD c.2.index (0, 1)).2) else none)

/-- The source for instant n, after a switch that n brings (04 R92). -/
def switchAt (d : StreamDef) (run : FilterRun) (n : Nat) : Bool :=
  if run.useAlt then run.primRun < d.rate
  else d.altSid ≠ 0xFFFF && decide (d.dropout ≤ run.primMiss) && hasN run.altq n

/-- One sample instant is consumed: the switch is judged, the delay line takes the source's set, and the stream's instance
is counted. -/
def consumeSample (b : Bank) (sid : Nat) (d : StreamDef) (blk : Bytes) (s : State) (n : Nat) : State :=
  let run := filter s sid
  let use := switchAt d run n
  let (run, s) :=
    if use != run.useAlt then
      let r := stream s sid
      (restartAll blk n { run with useAlt := use }
      , countBy 33 (fciCount blk) (count 27 (setStream sid { r with srcSwitch := satAdd 255 r.srcSwitch 1 } s)))
    else (run, s)
  let gotP := hasN run.prim n
  let setA := run.altq.find? (·.n == n)
  let set := if use then setA else run.prim.find? (·.n == n)
  -- while the alternate is the source, the instance is missing only when neither source has delivered it
  let heard := match set with
    | some e => some e
    | none => if use then run.prim.find? (·.n == n) else none
  let t := gridAt d.rate n
  let run := { run with
    line := match set with
      | some e => run.line ++ [e]
      | none => run.line
    prim := run.prim.filter (·.n != n)
    altq := run.altq.filter (·.n != n)
    primMiss := if gotP then 0 else run.primMiss + 1
    primRun := if gotP then run.primRun + 1 else 0 }
  let s := setFilter sid run s
  let counted := match run.first with
    | some f => decide (f ≤ n)
    | none => false
  let s := if !counted then s else match heard with
    | none => streamMiss sid t .missing s
    | some e => if setBad b sid d e then streamMiss sid t .bad s else streamGood sid t s
  let altCounted := match run.altFirst with
    | some f => d.altSid ≠ 0xFFFF && decide (f ≤ n)
    | none => false
  if !altCounted then s else match setA with
    | none => streamMiss d.altSid t .missing s
    | some e => if setBad b sid d e then streamMiss d.altSid t .bad s else streamGood d.altSid t s

/-- Samples that no later output or step test can reach leave the delay line. -/
def pruneLine (p : FcPar) (run : FilterRun) : FilterRun :=
  let low := sampleOf p (run.next - 5) - (p.lam + p.nc + p.wsamp * p.dw)
  { run with
    line := run.line.filter fun e => decide (low ≤ e.n)
    fcis := mmap run.fcis fun _ f => { f with
      phRestarts := f.phRestarts.filter (fun r => decide (low ≤ r))
      wfRestarts := f.wfRestarts.filter (fun r => decide (low ≤ r)) } }

/-- Bytes of the FILTER operand (05 R121). -/
def filterBytes (p : FcPar) (blk : Bytes) : Nat :=
  16 + 16 * fciCount blk + 4 * p.wsamp * ((List.range (fciCount blk)).filter fun i => bit (fciOpts blk i) 0).length

/-- The staging cell of a FILTER instance, taken when there is none (06 R130). -/
def stagingCell (sid : Nat) (t : Instant) (nbytes : Nat) (s : State) : Option State :=
  if (findCell s sid t).isSome then some s
  else takeCell sid t nbytes (fun f => { key := sid, inst := t, fptr := f, fbLen := ceilDiv nbytes 64, staging := true
                                         latePartial := false, qual := 0, stamp := now s, data := .staging
                                         waiting := [] }) s

/-- The FILTER instance j is released: its samples are consumed and its task enters the ready list (05 R119, R120).
limit is its hold limit (06 R155). -/
def filterRelease (tid : Nat) (tm : Template) (sid : Nat) (d : StreamDef) (limit : Instant) (s : State) : State :=
  let b := activeBank s
  let p := fcPar (fnom s) d.rate tm.blk
  let run := filter s sid
  let j := run.next
  let t := gridAt p.rOut j
  let s := (chainSamples p run j).foldl (consumeSample b sid d tm.blk) s
  let s := setFilter sid (pruneLine p { filter s sid with next := j + 1 }) s
  match stagingCell sid t (filterBytes p tm.blk) s with
  | none => streamRefused sid s
  | some s => releaseTask tid tm t 0xFFFF limit s

/-- The closing instant of instance j (05 R112). -/
def closingAt (p : FcPar) (j : Nat) : Instant := gridAt p.rate (sampleOf p j + p.lam)

/-- The RELEASE issue of instance j: its entry, second and number (05 R119). -/
def filterIssue (s : State) (tid : Nat) (p : FcPar) (j : Nat) : Option (SchedEntry × Nat × Nat) :=
  match sched s with
  | none => none
  | some i =>
    let es := i.entries.filter fun e => e.action == 2 && e.target == tid
    lminBy (es.map fun e => (e, issueNext e (closingAt p j))) (fun x => issueAt x.1 x.2.1 x.2.2)

/-- The FILTER deadline of instance j (05 R119). -/
def filterDeadline (s : State) (tid : Nat) (p : FcPar) (j : Nat) : Instant :=
  match filterIssue s tid p j with
  | some x => issueAt x.1 x.2.1 x.2.2
  | none => closingAt p j

/-- The hold limit of instance j's release: one slot after its RELEASE issue (06 R155). -/
def filterLimit (s : State) (tid : Nat) (p : FcPar) (j : Nat) : Instant :=
  match filterIssue s tid p j with
  | some x => issueLimit (fnom s) x.1 x.2.1 x.2.2
  | none => closingAt p j

/-- Every sample set of instance j has been accepted from the source in use (04 R92, 05 R119). -/
def filterComplete (p : FcPar) (run : FilterRun) (j : Nat) : Bool :=
  (chainSamples p run j).all (hasN (if run.useAlt then run.altq else run.prim))

/-- Instances whose sample sets are all accepted release early, in order of t (05 R119). -/
def filterReady : Nat → Nat → Template → Nat → StreamDef → State → State
  | 0, _, _, _, _, s => s
  | fuel + 1, tid, tm, sid, d, s =>
    let p := fcPar (fnom s) d.rate tm.blk
    let run := filter s sid
    if filterComplete p run run.next then
      filterReady fuel tid tm sid d (filterRelease tid tm sid d (filterLimit s tid p run.next) s)
    else s

/-- Every instance that can be released early is: each consumes at least one waiting sample set. -/
def filterDrain (tid : Nat) (tm : Template) (sid : Nat) (d : StreamDef) (s : State) : State :=
  filterReady ((filter s sid).prim.length + (filter s sid).altq.length + 1) tid tm sid d s

/-- Release every instance up to j at its deadline. -/
def filterUpTo : Nat → Nat → Template → Nat → StreamDef → Nat → Instant → State → State
  | 0, _, _, _, _, _, _, s => s
  | fuel + 1, tid, tm, sid, d, j, limit, s =>
    if (filter s sid).next ≤ j then filterUpTo fuel tid tm sid d j limit (filterRelease tid tm sid d limit s) else s

/-- A RELEASE issue at an instant: its FILTER instance is released unless it has been (05 R119). -/
def releaseIssue (tid : Nat) (at_ limit : Instant) (s : State) : State :=
  match mget (activeBank s).templates tid with
  | none => s
  | some tm =>
    let sid := fld tm.blk 0 2
    match mget (activeBank s).streams sid with
    | none => s
    | some d =>
      let p := fcPar (fnom s) d.rate tm.blk
      -- the last reporting instant whose closing instant is at or before the issue
      let n := gridFloor p.rate at_
      let j := (n - p.lam) * p.rOut / p.rate
      let s := filterUpTo (j + 1 - (filter s sid).next) tid tm sid d j limit s
      filterDrain tid tm sid d s

/-! ## The FILTER task (05 R120, R121) -/

/-- The FILTER task's outputs for its instance, in template order (05 R113-R125). -/
def filterEval (k : TaskInst) (s : State) : List FciOut × State :=
  let b := activeBank s
  let sid := fld k.tmpl.blk 0 2
  match mget b.streams sid with
  | none => ([], s)
  | some d =>
    let p := fcPar (fnom s) d.rate k.tmpl.blk
    let j := gridFloor p.rOut k.t
    let s := stepDetect b d p k.tmpl.blk j sid s
    let run := filter s sid
    let empty := !((chainSamples p run j).any fun n => run.line.any (·.n == n))
    (List.range (fciCount k.tmpl.blk)).foldl (fun (a : List FciOut × State) i =>
      let (o, s) := fciOutput b d p k.tmpl.blk (filter a.2 sid) empty j i a.2
      (a.1 ++ [o], s)) ([], s)

/-- f and s[31:0] of an instant, 4 bytes each. -/
def stampBytes (t : Instant) : Bytes := le 4 (t % secU) ++ le 4 (t / secU)

/-- One FCI's record of the operand (05 R121). -/
def fciRecord (o : FciOut) : Bytes :=
  le 4 (unsgn 32 o.re) ++ le 4 (unsgn 32 o.im) ++ le 4 o.freq ++ le 2 o.qual.toNat ++ le 2 o.wqual.toNat

/-- The FILTER operand as it lies in the frame buffer (05 R121). -/
def filterOperand (fn rate : Nat) (blk : Bytes) (t : Instant) (outs : List FciOut) : Bytes :=
  le 2 (fld blk 0 2) ++ le 1 outs.length ++ zeros 1 ++ le 2 (fcPar fn rate blk).wsamp ++ zeros 2 ++ stampBytes t
    ++ (outs.map fciRecord).flatten ++ (outs.map fun o => (o.wave.map fun v => le 4 (unsgn 32 v)).flatten).flatten

/-- The operand is written into its instance's cell (05 R120; 06 R130). -/
def filterPut (k : TaskInst) (outs : List FciOut) (s : State) : State :=
  let b := activeBank s
  let sid := fld k.tmpl.blk 0 2
  let stamp := now s
  let (waits, late) := cellWaits s sid k.t stamp
  let data := OperandData.filter outs
  if (findCell s sid k.t).isNone then s else
  let s := { s with mst := { s.mst with cells := s.mst.cells.map fun c =>
    if c.key = sid ∧ c.inst = k.t then
      { c with staging := false, latePartial := late, qual := cellQual b sid data (!instanceBad (alignQuals b sid data))
               stamp := stamp, data := data, waiting := waits }
    else c } }
  operandWritten sid k.t stamp s

/-- The FILTER task writes its operand (05 R120, R121; 06 R130). -/
def filterWrite (k : TaskInst) (s : State) : State := filterPut k (filterEval k s).1 (filterEval k s).2

/-- The operand's bytes, for the slot's digest (14 R384). -/
def filterDigest (k : TaskInst) (s : State) : Bytes :=
  match mget (activeBank s).streams (fld k.tmpl.blk 0 2) with
  | none => []
  | some d => filterOperand (fnom s) d.rate k.tmpl.blk k.t (filterEval k s).1

/-- A FILTER instance whose task was dropped or aborted: its sample sets are missing for every output whose span contains
them, and its cell goes back (06 R156). -/
def filterDropped (k : TaskInst) (s : State) : State :=
  let sid := fld k.tmpl.blk 0 2
  match mget (activeBank s).streams sid with
  | none => s
  | some d =>
    let p := fcPar (fnom s) d.rate k.tmpl.blk
    let run := filter s sid
    let gone := chainSamples p run (gridFloor p.rOut k.t)
    let s := setFilter sid { run with line := run.line.filter fun e => !gone.contains e.n } s
    cellSweep { s with mst := { s.mst with cells := s.mst.cells.filter fun c =>
      !(c.key == sid && c.inst == k.t && c.staging) } }

/-! ## The reference bus (05 R116, 03 R63) -/

/-- The working samples of the one-cycle sub-window centred on a decimated instant (numbered from the epoch). -/
def subSpan (b : Bank) (d : StreamDef) (p : FcPar) (sh idx : Nat) (line : List SampleSet) (k : Nat) : List Samp :=
  sampSpan b d sh idx line ((k - 8) * p.dd) (16 * p.dd + 1)

/-- The sub-window phasor of such a span, and whether anything of it saturated (05 R115, R118). -/
def subPhasor (p : FcPar) (xs : List Samp) : (Int × Int) × Bool :=
  let ((r, s1), (i, s2)) := lowPass (lpCoefs p 1) (decimate p (xs.map (·.x)) 15)
  ((r, i), xs.any (·.sat) || s1 || s2)

/-- The newest decimated instant at or before k, of n, with a property. -/
def newestCentre (has : Nat → Bool) : Nat → Nat → Option Nat
  | _, 0 => none
  | k, n + 1 => if has k then some k else newestCentre has (k - 1) n

/-- Turns in units of 2^-64 from an angle in units of 2^-256 radians. -/
def turns64 (a : Int) : Int := a * 2 ^ 64 / (2 * fxPi)

/-- θ and f̂ at accepted sample n of the reference bus's stream, and whether a value saturated (05 R116, R118): from the newest
centres, up to a second back, whose spans have been received. DEDUCED: a span has been received when all of its samples are
there with VALID = 1 (05 R123), and f̂ is of the newest pair of such spans 16 apart. -/
def refBusOf (sid n : Nat) (s : State) : Option (RefBus × Bool) :=
  let b := activeBank s
  match sched s with
  | none => none
  | some img =>
    match mget b.channels img.refbusCid, mget b.streams sid, filterTmpl b sid with
    | some c, some d, some (_, tm) =>
      if c.sid ≠ sid ∨ img.refbusCid = 0xFFFFFFFF then none else
        match (List.range (fciCount tm.blk)).find? (fun i => fciId tm.blk i == c.fci) with
        | none => none
        | some i =>
          let p := fcPar (fnom s) d.rate tm.blk
          let run := filter s sid
          let line := run.line ++ (if run.useAlt then run.altq else run.prim)
          let span := subSpan b d p (fciSh tm.blk i) c.index line
          let has := fun k => (span k).all (·.ok)
          let k0 := n / p.dd - 8
          let perSec := 16 * p.fn
          match newestCentre has k0 perSec, newestCentre (fun k => has k && has (k - 16)) k0 perSec with
          | some k, some m =>
            let (x, t0) := subPhasor p (span k)
            let (q1, t1) := subPhasor p (span m)
            let (q0, t2) := subPhasor p (span (m - 16))
            let ((xr, t3), (xi, t4)) := rotate (k % perSec) x.1 x.2
            let f := freqEst p q1 q0
            let th : Int := ((p.fn * (n % p.rate) * 2 ^ 64 / p.rate : Nat) : Int) + turns64 (fxAtan2 xi xr)
              + (f - 65536 * p.fn) * ((n - k * p.dd : Nat) : Int) * 2 ^ 48 / (p.rate : Int)
            let fr := mgetD run.fcis c.fci {}
            let uns := fr.phRestarts.any fun r =>
              decide (k * p.dd < r + 8 * p.dd) && decide (r ≤ k * p.dd + 8 * p.dd)
            some ({ sample := some (gridAt p.rate n), theta := th % 2 ^ 64, freq := f.toNat, settled := !uns }
            , t0 || t1 || t2 || t3 || t4 || (sat24 f).2)
          | _, _ => none
    | _, _, _ => none

/-- An accepted sample set of the reference bus's stream refines θ and f̂, in order of its instants. A saturated value makes no
sample, and counts (05 R118). -/
def refBusUpdate (sid n : Nat) (s : State) : State :=
  match refBusOf sid n s with
  | none => s
  | some (b, sat) =>
    if sat then count 37 s
    else if s.refBus.sample.isSome ∧ b.sample.getD 0 ≤ s.refBus.sample.getD 0 then s
    else refSample b s

end Sys2Proof.Machine
end

