-- ==== Sys2Proof/Machine/Sha.lean ====
section
/-! DEFINITION. SHA-256, which the hash chains, the seals and the key derivations name (10 R275, 13). PRESUMED: the
constants, rounds and padding of FIPS 180-4. -/

namespace Sys2Proof.Machine

/-- The first 64 primes. -/
def shaPrimes : List Nat :=
  [2, 3, 5, 7, 11, 13, 17, 19, 23, 29, 31, 37, 41, 43, 47, 53, 59, 61, 67, 71, 73, 79, 83, 89, 97, 101, 103, 107, 109, 113, 127, 131]
    ++ [137, 139, 149, 151, 157, 163, 167, 173, 179, 181, 191, 193, 197, 199, 211, 223, 227, 229, 233, 239, 241, 251, 257, 263, 269,
      271, 277, 281, 283, 293, 307, 311]

/-- The greatest r with r ^ k ≤ n, found bit by bit from bit i - 1 down. -/
def rootFrom (k n : Nat) : Nat → Nat → Nat
  | 0, r => r
  | i + 1, r => rootFrom k n i (if (r + 2 ^ i) ^ k ≤ n then r + 2 ^ i else r)

/-- The first 32 bits of the fraction of the k-th root of p. -/
def rootBits (k p : Nat) : Nat := rootFrom k (p * 2 ^ (32 * k)) 37 0 % 2 ^ 32

/-- The round constants: cube roots of the primes. -/
def shaK : List Nat := shaPrimes.map (rootBits 3)

/-- The first hash value: square roots of the first eight primes. -/
def shaInit : List Nat := (shaPrimes.take 8).map (rootBits 2)

def rotr (n x : Nat) : Nat := x / 2 ^ n + x % 2 ^ n * 2 ^ (32 - n)

def shaSig0 (x : Nat) : Nat := rotr 7 x ^^^ rotr 18 x ^^^ x / 2 ^ 3

def shaSig1 (x : Nat) : Nat := rotr 17 x ^^^ rotr 19 x ^^^ x / 2 ^ 10

/-- The message schedule, extended word by word. -/
def shaSchedule : Nat → List Nat → List Nat
  | 0, w => w
  | n + 1, w =>
    let i := w.length
    let g := fun k => w.getD (i - k) 0
    shaSchedule n (w ++ [(shaSig1 (g 2) + g 7 + shaSig0 (g 15) + g 16) % 2 ^ 32])

/-- One round. -/
def shaRound (h : List Nat) (kw : Nat) : List Nat :=
  match h with
  | [a, b, c, d, e, f, g, hh] =>
    let s1 := rotr 6 e ^^^ rotr 11 e ^^^ rotr 25 e
    let ch := (e &&& f) ^^^ ((2 ^ 32 - 1 - e) &&& g)
    let t1 := hh + s1 + ch + kw
    let s0 := rotr 2 a ^^^ rotr 13 a ^^^ rotr 22 a
    let mj := (a &&& b) ^^^ (a &&& c) ^^^ (b &&& c)
    [(t1 + s0 + mj) % 2 ^ 32, a, b, c, (d + t1) % 2 ^ 32, e, f, g]
  | _ => h

def shaBlock (h : List Nat) (blk : Bytes) : List Nat :=
  let w := shaSchedule 48 ((List.range 16).map fun i => fldBe blk (4 * i) 4)
  let r := (shaK.zip w).foldl (fun a e => shaRound a (e.1 + e.2)) h
  (h.zip r).map fun e => (e.1 + e.2) % 2 ^ 32

def shaBlocks : Nat → List Nat → Bytes → List Nat
  | 0, h, _ => h
  | n + 1, h, bs => shaBlocks n (shaBlock h (bs.take 64)) (bs.drop 64)

/-- SHA-256 of a byte string. -/
def sha256 (m : Bytes) : Bytes :=
  let pad := (119 - m.length % 64) % 64
  let bs := m ++ (0x80 : Byte) :: zeros pad ++ be 8 (8 * m.length)
  ((shaBlocks (bs.length / 64) shaInit bs).map (be 4)).flatten

/-- HMAC-SHA-256. PRESUMED: RFC 2104. -/
def hmac (key m : Bytes) : Bytes :=
  let k := if 64 < key.length then sha256 key else key
  let k := k ++ zeros (64 - k.length)
  sha256 (k.map (· ^^^ 0x5C) ++ sha256 (k.map (· ^^^ 0x36) ++ m))

/-- KDF(K, label, context) with an output of n bytes (13 R346). -/
def kdf (key label context : Bytes) (n : Nat) : Bytes :=
  (((List.range (ceilDiv n 32)).map fun i =>
    hmac key (be 4 (i + 1) ++ label ++ (0 : Byte) :: context ++ be 4 (8 * n))).flatten).take n

end Sys2Proof.Machine
end

