-- ==== Sys2Proof/Machine/Capture.lean ====
section
/-! DEFINITION. Capture and archive: rings, records, segments, marks, late-lane packets, seals and triggers (10 R259-R276,
R288-R290). -/

namespace Sys2Proof.Machine

/-! ## Packets on their way to the queue (10 R265, R289, R290) -/

def capRun (s : State) (cap : Nat) : Option CapRun := mget s.caps cap

def setCap (cap : Nat) (r : CapRun) (s : State) : State := { s with caps := mput s.caps cap r }

/-- A unit that holds its packets keeps as many words as its queue holds; the oldest goes first. -/
def shadowTrim (room : Nat) : List HeldPacket → Nat → List HeldPacket × Nat
  | [], k => ([], k)
  | p :: ps, k =>
    if lsum (p :: ps) (fun x => pktWords x.bytes.length) ≤ room then (p :: ps, k) else shadowTrim room ps (k + 1)

/-- The sequence number a packet carries: REC_SEQ or PKT_SEQ. -/
def pktSeqOf (b : Bytes) : Nat := fld b 4 4

/-- A packet stands in the queue: its number is the last completed, and a closed record that waited is complete. -/
def capDone (cap : Nat) (b : Bytes) (s : State) : State :=
  match capRun s cap with
  | none => s
  | some r => setCap cap { r with
      confirmed := pktSeqOf b
      recs := if fld b 0 1 = 0x57 then r.recs.filter (fun x => !(x.deferred && x.recSeq == pktSeqOf b)) else r.recs } s

/-- Packets that wait for their queue enter it while it takes them (11 R296). -/
def capDrain : Nat → Nat → State → State
  | 0, _, s => s
  | fuel + 1, cap, s =>
    match capRun s cap with
    | none => s
    | some r =>
      match r.waiting with
      | [] => s
      | (m, b) :: rest =>
        if oqTakes s r.def_.oq (some (keyCap cap)) b.length then
          let s := oqPut r.def_.oq 10 { data := b, mark := m } (oqForget (keyCap cap) (setCap cap { r with waiting := rest } s))
          capDrain fuel cap (capDone cap b s)
        else oqStall r.def_.oq (keyCap cap) b.length s

/-- Write a packet of a CAP: to its queue, or to shadow space in STANDBY and STALEMATE (10 R289). h is the hash chain before it. -/
def capEmit (cap : Nat) (mark : Bool) (b h : Bytes) (s : State) : State :=
  match capRun s cap with
  | none => s
  | some r =>
    if emits s then
      let n := r.waiting.length + 1
      capDrain n cap (setCap cap { r with waiting := r.waiting ++ [(mark, b)] } s)
    else
      let (sh, k) := shadowTrim (oqCapacity s r.def_.oq) (r.shadow ++ [{ mark := mark, bytes := b, chain := h }]) 0
      countBy 152 k (setCap cap { r with
        shadow := sh
        recs := r.recs.filter fun x => !(fld b 0 1 = 0x57 && x.deferred && x.recSeq == pktSeqOf b) } s)

/-- The next PKT_SEQ of a class P CAP, taken. -/
def nextPkt (cap : Nat) (s : State) : Nat × State :=
  match capRun s cap with
  | none => (0, s)
  | some r => ((r.pktSeq + 1) % 2 ^ 32, setCap cap { r with pktSeq := (r.pktSeq + 1) % 2 ^ 32 } s)

/-- A class P packet other than a seal extends the hash chain (10 R275). -/
def capChained (cap : Nat) (mark : Bool) (b : Bytes) (s : State) : State :=
  match capRun s cap with
  | none => s
  | some r => capEmit cap mark b r.chain (setCap cap { r with chain := sha256 (r.chain ++ b) } s)

def withCrc (b : Bytes) : Bytes := b ++ le 4 (crc32c b)

/-! ## Signatures (13 R345, R368) -/

/-- The prime order of P-256. PRESUMED: SEC 2. -/
def p256Order : Nat := 0xFFFFFFFF00000000FFFFFFFFFFFFFFFFBCE6FAADA7179E84F3B9CAC2FC632551

/-- "GH-IDENTITY". -/
def lblIdentity : Bytes := [71, 72, 45, 73, 68, 69, 78, 84, 73, 84, 89]

/-- The identity key: the first output for c = 0, 1, 2 and so on that is a scalar; each one fails with a chance of 2^-32 (13 R345).
DESIGN CHOICE: the model looks at the first 64. -/
def identityKey : Nat :=
  let out := fun c => ofBe (kdf (be 32 (Config.idSeed % 2 ^ 256)) lblIdentity (be 4 c) 32)
  (((List.range 64).map out).find? fun d => decide (1 ≤ d) && decide (d < p256Order)).getD 1

/-- An ECDSA P-256 signature over the SHA-256 digest of a message: r and s, big-endian. -/
def signature (d : Nat) (m : Bytes) : Bytes := be 64 (Config.ecdsaSign d (sha256 m) % 2 ^ 512)

/-- The scalar that a SIGN field names: the identity key's for 0xFE, else a locker's (10 R275). -/
def signScalar (s : State) (sign : Nat) : Nat :=
  if sign = 0xFE then identityKey else ofBe (((mget s.gh.lockers sign).map (·.key)).getD [])

/-- Whether a SIGN field names a key that can sign (10 R276). -/
def signReady (s : State) (sign : Nat) : Bool := if sign = 0xFE then s.gh.idOk else signLocker s sign

/-! ## Seals (10 R275, R276) -/

/-- A seal packet, signed with a scalar, or with SIG zero. -/
def sealBytes (kind index seq first last : Nat) (t : Instant) (hash : Bytes) (sign : Option Nat) : Bytes :=
  let x := le 1 0x5A ++ le 1 kind ++ le 2 index ++ le 4 seq ++ le 4 first ++ le 4 last ++ stampBytes t ++ (hash ++ zeros 32).take 32
  withCrc (x ++ (match sign with
    | some d => signature d x
    | none => zeros 64) ++ zeros 4)

/-- Write a seal of a class P CAP; without SIGN there is none. -/
def sealCap (cap : Nat) (s : State) : State :=
  match capRun s cap with
  | none => s
  | some r =>
    if r.def_.cls ≠ 2 ∨ r.def_.sign = 0xFF then s
    else
      let ok := signReady s r.def_.sign
      let s := if ok then s else useRefused (count 151 s)
      let last := r.pktSeq
      let (q, s) := nextPkt cap s
      let b := sealBytes 0 (cap % 256) q r.sealFirst last (now s) r.chain (if ok then some (signScalar s r.def_.sign) else none)
      let s := capEmit cap true b r.chain s
      match capRun s cap with
      | none => s
      | some r => setCap cap { r with sealFirst := (q + 1) % 2 ^ 32 } s

def sealPeriod (d : CapDef) : Nat := if d.sealS = 0 then 10 else d.sealS

/-- CLASS_P_SEAL: at the second boundary at which the period ends (10 R275). -/
def execClassPSeal (cap : Nat) (s : State) : Host.Outcome State Fault Refusal :=
  match capRun s cap with
  | none => done s
  | some r =>
    if r.def_.cls = 2 ∧ r.armed ∧ inRun s then
      let s := advanceTo ((r.sealFrom + sealPeriod r.def_) * secU) s
      done (sealCap cap (setCap cap { r with sealFrom := r.sealFrom + sealPeriod r.def_ } s))
    else done s

/-! ## Class W rings (10 R262) -/

def ringPut (slots : Nat) (x : RingSlot) (l : List RingSlot) : List RingSlot :=
  l.filter (fun y => y.n % slots != x.n % slots) ++ [x]

def ringAt (r : CapRun) (sid n : Nat) : Option RingSlot := (mgetD r.rings sid []).find? fun x => x.n == n

/-- Write a slot of every armed ring of a stream. -/
def ringSlotWrite (sid : Nat) (f : CapRun → CapStr → Option RingSlot) (s : State) : State :=
  { s with caps := mmap s.caps fun _ r =>
      if !r.armed || r.def_.cls != 1 then r else
        match r.strs.find? (fun x => x.sid == sid) with
        | none => r
        | some x => match f r x with
          | none => r
          | some sl => { r with rings := mput r.rings sid (ringPut x.slots sl (mgetD r.rings sid [])) } }

/-- CAP_RING_MARKER: 2 ms before a sample instant its slot is marked missing (10 R262). -/
def execCapRingMarker (sid u : Nat) (s : State) : Host.Outcome State Fault Refusal :=
  match mget (activeBank s).streams sid with
  | none => done s
  | some d =>
    if mainUp s then
      let s := advanceTo (gridLess d.rate u 2 1000) s
      done (ringSlotWrite sid (fun _ _ => some { n := u, marked := true, vals := [] }) s)
    else done s

/-- A sample set that passed checks 1 to 3 reaches its rings: the first copy before u + 20 ms (10 R262). -/
def ringTake (sid : Nat) (rate n : Nat) (vals : List (Int × Nat)) (stamp : Instant) (s : State) : State :=
  let inRing := s.caps.any fun e => e.2.armed && e.2.def_.cls == 1 && e.2.strs.any (fun x => x.sid == sid)
  if !inRing then s
  else if gridPlus rate n 20 1000 ≤ stamp then count 147 s
  else ringSlotWrite sid (fun r _ => match ringAt r sid n with
    | some x => if x.marked then some { n := n, marked := false, vals := vals } else none
    | none => some { n := n, marked := false, vals := vals }) s

/-! ## Class W records (10 R262-R266) -/

/-- A slot of the record's span that does not stand in the ring at acceptance although its turn has come (10 R264). -/
def slotShort (r : CapRun) (x : CapStr) (acc : Instant) (n : Nat) : Bool :=
  (ringAt r x.sid n).isNone && decide (gridLess x.rate n 2 1000 ≤ acc)

/-- Open a record for an accepted trigger whose instant, after any phase request, is t. -/
def openRecord (cap : Nat) (tr : Trigger) (t : Instant) (s : State) : State :=
  match capRun s cap with
  | none => s
  | some r =>
    let starts := r.strs.map fun x => (x.sid, gridCeil x.rate t)
    let short := r.strs.any fun x =>
      let u0 := gridCeil x.rate t
      (List.range (r.def_.pre + r.def_.post)).any fun i => slotShort r x (now s) (u0 - r.def_.pre + i)
    let tr := { tr with flags := tr.flags + b2n short }
    let q := (r.recSeq + 1) % 2 ^ 32
    setCap cap { r with
      recSeq := q, recs := r.recs ++ [{ trig := tr, at_ := t, acc := now s, recSeq := q, starts := starts }] } s

/-- One stream's sample sets of a record: each value position's values and qualities, and whether a slot was overwritten
after the close. A missing slot takes the previous value, or 0, and quality 0xFFFFFFFF (10 R263). -/
def recordSlots (r : CapRun) (x : CapStr) (rc : CapRec) : List (List (Int × Nat)) × Bool :=
  let u0 := mgetD rc.starts x.sid 0
  let ns := (List.range (r.def_.pre + r.def_.post)).map fun i => u0 - r.def_.pre + i
  let (rows, _, ovr) := ns.foldl (fun (a : List (List (Int × Nat)) × List Int × Bool) n =>
    let ring := mgetD r.rings x.sid []
    let later := ring.any (fun y => y.n % x.slots == n % x.slots && decide (n < y.n))
      && decide (rc.acc < gridLess x.rate (n + x.slots) 2 1000)
    match ringAt r x.sid n with
    | some sl =>
      if sl.marked then (a.1 ++ [a.2.1.map fun v => (v, 0xFFFFFFFF)], a.2.1, a.2.2)
      else
        let vs := (List.range x.nch).map fun i => sl.vals.getD i (0, 0)
        (a.1 ++ [vs], vs.map (·.1), a.2.2)
    | none => (a.1 ++ [a.2.1.map fun v => (v, 0xFFFFFFFF)], a.2.1, a.2.2 || later))
    ([], List.replicate x.nch 0, false)
  (rows, ovr)

/-- Columns of rows: channel-major samples. -/
def columns (nch : Nat) (rows : List (List (Int × Nat))) (f : Int × Nat → Int) : List (List Int) :=
  (List.range nch).map fun c => rows.map fun r => f (r.getD c (0, 0))

/-- A stream section, and how many of its blocks are RAW (10 R266). -/
def streamSection (x : CapStr) (e : Nat) (rows : List (List (Int × Nat))) : Bytes × Nat :=
  let runs := (List.range (ceilDiv rows.length 4096)).map fun i => (rows.drop (4096 * i)).take 4096
  let (body, raw) := runs.foldl (fun (a : Bytes × Nat) g =>
    let (v, r1) := prcStore 32 e (columns x.nch g (·.1))
    let (q, r2) := prcStore 32 0 (columns x.nch g fun p => sgn 32 p.2)
    (a.1 ++ v ++ q, a.2 + b2n r1 + b2n r2)) ([], 0)
  (le 2 x.sid ++ le 1 x.nch ++ zeros 1 ++ le 2 runs.length ++ zeros 2 ++ body, raw)

/-- The record packet, from its parts, signed with a scalar or not. -/
def recordBytes (cap : Nat) (r : CapRun) (rc : CapRec) (flags : Nat) (secs : Bytes) (sign : Option Nat) : Bytes :=
  let x := r.strs.headD { sid := 0, rate := 0, nch := 0, slots := 1 }
  let u0 := gridAt x.rate (mgetD rc.starts x.sid 0)
  let b := le 1 0x57 ++ le 1 1 ++ le 2 (cap % 256) ++ le 4 rc.recSeq ++ stampBytes rc.at_ ++ stampBytes u0
    ++ le 4 r.def_.pre ++ le 4 r.def_.post ++ le 1 rc.trig.src ++ le 1 r.def_.e ++ le 2 flags ++ le 2 rc.trig.srcId
    ++ le 1 r.strs.length ++ zeros 1 ++ (rc.trig.mark ++ zeros 16).take 16 ++ le 2 x.rate ++ zeros 2
    ++ le 4 (64 + secs.length + (if sign.isSome then 64 else 0) + 4) ++ secs
  withCrc (match sign with
    | some d => b ++ signature d b
    | none => b)

/-- Close the oldest open record: read out, compressed, signed and written (10 R263, R264, R275). -/
def closeRecord (cap : Nat) (s : State) : State :=
  match capRun s cap with
  | none => s
  | some r =>
    match r.recs.find? (fun x => !x.deferred) with
    | none => s
    | some rc =>
      let parts := r.strs.map fun x => (x, recordSlots r x rc)
      let ovr := parts.any (·.2.2)
      let secs := parts.map fun e => streamSection e.1 r.def_.e e.2.1
      let raw := lsum secs (·.2)
      let s := countBy 149 raw (if ovr then count 148 s else s)
      let want : Bool := r.def_.sign ≠ 0xFF
      let ok := want && signReady s r.def_.sign
      let s := if want && !ok then useRefused (count 151 s) else s
      let flags := rc.trig.flags + b2n ovr * 2 + b2n ok * 32
      let b := recordBytes cap r rc flags (secs.map (·.1)).flatten (if ok then some (signScalar s r.def_.sign) else none)
      capEmit cap false b r.chain (setCap cap { r with recs := r.recs.map fun x =>
        if x.recSeq = rc.recSeq then { x with deferred := true } else x } s)

/-- Every stream's last sample set of a record has been written. -/
def recordFull (r : CapRun) (rc : CapRec) : Bool :=
  r.strs.all fun x => match ringAt r x.sid (mgetD rc.starts x.sid 0 + r.def_.post - 1) with
    | some sl => !sl.marked
    | none => false

/-- 20 ms after the instant of a record's last sample set. -/
def recordLimit (r : CapRun) (rc : CapRec) : Instant :=
  lmax r.strs fun x => gridPlus x.rate (mgetD rc.starts x.sid 0 + r.def_.post - 1) 20 1000

/-- CAP_RECORD_CLOSE (10 R263). -/
def execCapRecordClose (cap : Nat) (s : State) : Host.Outcome State Fault Refusal :=
  match capRun s cap with
  | none => done s
  | some r =>
    match r.recs.find? (fun x => !x.deferred) with
    | none => done s
    | some rc =>
      if mainUp s then
        done (closeRecord cap (if recordFull r rc then s else advanceTo (recordLimit r rc) s))
      else done s

/-! ## Class P: segments, marks, the late lane (10 R267-R270, R274) -/

/-- The width class of a channel: 0 A, 1 B, 2 C, 3 D (10 R268). -/
def widthClass (c : ChannelDef) : Nat :=
  if c.kind = 5 then 1
  else if c.format = 1 ∨ c.format = 2 ∨ c.format = 5 then 0
  else if c.format = 8 then 2 else 3

def classWidth : Nat → Nat
  | 0 => 16
  | 1 => 24
  | _ => 32

/-- How many PRC channels a channel takes. -/
def compCount (c : ChannelDef) : Nat := if c.kind = 5 then 3 else if c.kind = 0 then 2 else 1

/-- A channel's raw components in an operand. -/
def rawComps (d : StreamDef) (c : ChannelDef) (data : OperandData) : List Int :=
  match data with
  | .frame bytes =>
    let f := chanBytes d c bytes
    match c.format with
    | 1 => [sgn 16 (fldBe f 0 2), sgn 16 (fldBe f 2 2)]
    | 2 => [sgn 16 (fldBe f 0 2), sgn 16 (fldBe f 2 2)]
    | 3 => [sgn 32 (fldBe f 0 4), sgn 32 (fldBe f 4 4)]
    | 4 => [sgn 32 (fldBe f 0 4), sgn 32 (fldBe f 4 4)]
    | 5 => [sgn 16 (fldBe f 0 2)]
    | 6 => [sgn 32 (fldBe f 0 4)]
    | _ => [(fldBe f 0 2 : Nat)]
  | .dataset members _ _ =>
    let m := members.getD c.index 0
    match c.format with
    | 9 => [((m % 2 : Nat) : Int)]
    | 10 => [((m % 4 : Nat) : Int)]
    | _ => [sgn 32 m]
  | .filter outs => match outs.find? (fun o => o.fci == c.fci) with
    | some o => [o.re, o.im, sgn 24 o.freq]
    | none => [0, 0, 0]
  | _ => List.replicate (compCount c) 0

/-- What one stream gives a kept instance. -/
def keptStream (b : Bank) (ops : List Cell) (sid : Nat) : Option KeptStream :=
  match ops.find? (fun o => o.key == sid), mget b.streams sid with
  | some o, some d =>
    some { qual := o.qual, chans := (chansOf b sid).map fun e => (e.1, rawComps d e.2 o.data) }
  | _, _ => none

/-- One PRC channel of a segment: absent instances repeat the previous value, or 0 (10 R268). -/
def keptSeries (kept : List KeptInst) (sid cid comp : Nat) : List Int :=
  ((kept.foldl (fun (a : List Int × Int) k =>
    let v := match mgetD k.streams sid none with
      | some st => ((mgetD st.chans cid []).getD comp 0)
      | none => a.2
    (a.1 ++ [v], v)) ([], 0)).1)

/-- The PRC blocks of a segment: count, bytes and how many are RAW. DESIGN CHOICE: a class of more than 64 channels is one block all
the same, since 10 R268 gives a class one block at most. -/
def segBlocks (b : Bank) (e : Nat) (kept : List KeptInst) (sid : Nat) : Nat × Bytes × Nat :=
  (List.range 4).foldl (fun (a : Nat × Bytes × Nat) cl =>
    let chans := (chansOf b sid).filter fun c => widthClass c.2 == cl
    if chans.isEmpty then a else
      let series := (chans.map fun c => (List.range (compCount c.2)).map fun i => keptSeries kept sid c.1 i).flatten
      let (blk, raw) := prcStore (classWidth cl) (if cl = 3 then 0 else e) series
      (a.1 + 1, a.2.1 ++ blk, a.2.2 + b2n raw)) (0, [], 0)

/-- The group rate of a class P CAP's ARCHIVE template. -/
def archRate (b : Bank) (cap : Nat) : Nat :=
  match b.templates.find? (fun e => e.2.type == 4 && e.2.object == cap) with
  | some e => (mgetD b.groups e.2.gid { rate := 1, wUs := 0, policy := 0, sids := [], prods := [] }).rate
  | none => 1

/-- One segment (10 R269): its bytes without the CRC's chain. -/
def segBytes (b : Bank) (cap : Nat) (r : CapRun) (seq sid : Nat) (partial_ : Bool) : Bytes × Nat :=
  let kept := r.kept
  let (n, blks, raw) := segBlocks b r.def_.e kept sid
  let first := match kept.head? with
    | some k => k.t
    | none => 0
  let pres := kept.map fun k => (mgetD k.streams sid none).isSome
  let quals := (kept.map fun k => match mgetD k.streams sid none with
    | some st => le 2 st.qual.toNat
    | none => le 2 0).flatten
  let presBytes := (List.range (ceilDiv kept.length 8)).map fun i =>
    BitVec.ofNat 8 (((pres.drop (8 * i)).take 8).foldr (fun x a => b2n x + 2 * a) 0)
  (withCrc (le 1 0x50 ++ le 1 1 ++ le 2 (cap % 256) ++ le 4 seq ++ le 2 sid ++ le 2 kept.length ++ le 2 r.def_.decim ++ le 1 n
    ++ le 1 (b2n partial_) ++ stampBytes first ++ le 2 (archRate b cap) ++ le 2 (chansOf b sid).length ++ padTo 4 presBytes
    ++ padTo 4 quals ++ blks), raw)

/-- Close the open segment set: one segment per named stream, in order of SID (10 R267). -/
def closeSegments (cap : Nat) (partial_ : Bool) (s : State) : State :=
  match capRun s cap with
  | none => s
  | some r =>
    if r.kept.isEmpty then s
    else
      let s := r.def_.sids.foldl (fun s sid =>
        let (q, s) := nextPkt cap s
        let (b, raw) := segBytes (activeBank s) cap r q sid partial_
        capChained cap false b (countBy 149 raw s)) s
      match capRun s cap with
      | none => s
      | some r => setCap cap { r with kept := [] } s

/-- The ARCHIVE task's work for an instance (10 R267). -/
def archiveWork (cap : Nat) (k : TaskInst) (s : State) : State :=
  match capRun s cap, group s k.gid, findInst s k.gid k.t with
  | some r, some g, some i =>
    if r.armed ∧ r.def_.cls = 2 ∧ gridFloor g.rate k.t % g.rate % r.def_.decim = 0 then
      let b := activeBank s
      let ki : KeptInst := { t := k.t, streams := r.def_.sids.map fun sid => (sid, keptStream b i.ops sid) }
      let n := if r.def_.blockN = 0 then g.rate / r.def_.decim else r.def_.blockN
      let s := setCap cap { r with kept := r.kept ++ [ki] } s
      if n ≤ r.kept.length + 1 then closeSegments cap false s else s
    else s
  | _, _, _ => s

/-- A late frame goes to the late lane of every armed class P archive of its stream (10 R270). -/
def lateLane (sid : Nat) (stamp inst : Instant) (frame : Bytes) (s : State) : State :=
  s.caps.foldl (fun s e =>
    let r := e.2
    if r.def_.cls = 2 ∧ r.armed ∧ r.def_.sids.contains sid ∧ e.1 < 256 then
      let (q, s) := nextPkt e.1 s
      let b := withCrc (le 1 0x4C ++ le 1 1 ++ le 2 e.1 ++ le 4 q ++ le 2 sid ++ le 2 frame.length ++ stampBytes stamp
        ++ stampBytes inst ++ zeros 4 ++ padTo 4 frame)
      let s := match capRun s e.1 with
        | none => s
        | some r => setCap e.1 { r with chain := sha256 (r.chain ++ b) } s
      count 150 (oqNoWait (if r.def_.lateOq = 0xFF then r.def_.oq else r.def_.lateOq) 11 { data := b, mark := false } s)
    else s) s

/-- A mark for a trigger that a class P CAP accepts (10 R274). -/
def writeMark (cap : Nat) (tr : Trigger) (s : State) : State :=
  let (q, s) := nextPkt cap s
  let b := withCrc (le 1 0x54 ++ le 1 1 ++ le 2 cap ++ le 4 q ++ stampBytes tr.t ++ le 1 tr.src ++ le 1 (b2n (bit tr.flags 3))
    ++ le 2 tr.srcId ++ (tr.mark ++ zeros 16).take 16 ++ stampBytes (now s))
  capChained cap true b s

/-! ## Triggers (10 R265, R271-R274) -/

/-- Whether R272 lets a trigger at an instant through. -/
def trigOpen (r : CapRun) (t : Instant) : Bool :=
  r.armed && (match r.lastAt with
    | none => true
    | some l =>
      decide (l ≤ t) && (if bit r.def_.hold 31 then r.ignoreLeft == 0
        else decide (l + msU (r.def_.hold % 2 ^ 31) ≤ t)))

/-- Records of a CAP from acceptance to the queue, those that wait for their phase included (10 R265). -/
def openRecords (s : State) (cap : Nat) (r : CapRun) : Nat :=
  r.recs.length + (s.phases.filter fun e => match e.2.act with
    | .capture c _ _ _ _ acc => c == cap && acc
    | _ => false).length

/-- The hold-off that an accepted trigger starts (10 R272). -/
def holdOff (tr : Trigger) (r : CapRun) : CapRun :=
  { r with lastAt := some tr.t, ignoreLeft := if bit r.def_.hold 31 then r.def_.hold % 2 ^ 31 else 0 }

/-- An accepted trigger's effect (10 R262, R273, R274). -/
def acceptTrigger (cap : Nat) (tr : Trigger) (phased : Bool) (s : State) : State :=
  match capRun s cap with
  | none => s
  | some r =>
    let s := setCap cap (holdOff tr r) s
    let s := if s.cas.role = .active then { s with cas := { s.cas with trigs := s.cas.trigs ++ [(cap, tr)] } } else s
    let s := count 144 s
    if r.def_.cls = 2 then writeMark cap tr s
    else if bit r.def_.opts 1 ∧ !phased then addPhase tr.t r.def_.phase (.capture cap tr.src tr.srcId tr.t tr.mark true) s
    else openRecord cap tr tr.t s

/-- A trigger reaches a CAP; phased when its instant is already a phase request's (10 R272). The second value: accepted. -/
def triggerCap (cap : Nat) (tr : Trigger) (phased : Bool) (s : State) : State × Bool :=
  match capRun s cap with
  | none => (s, false)
  | some r =>
    if !emits s then (s, false)
    else if !trigOpen r tr.t then
      let inCount := r.armed && bit r.def_.hold 31 && (match r.lastAt with
        | some l => decide (l ≤ tr.t)
        | none => false)
      (count 145 (setCap cap { r with ignoreLeft := if inCount then r.ignoreLeft - 1 else r.ignoreLeft } s), false)
    else if r.def_.cls = 1 ∧ 2 ≤ openRecords s cap r then (count 146 s, false)
    else (acceptTrigger cap tr phased s, true)

/-- A trigger reaches every CAP that a test names, in order of CAP. -/
def triggerAll (sel : CapDef → Bool) (tr : Trigger) (s : State) : State :=
  s.caps.foldl (fun s e => if e.1 < 256 && sel e.2.def_ then (triggerCap e.1 tr false s).1 else s) s

/-- The standby applies a trigger that the active unit accepted (10 R289). DEDUCED: it starts the hold-off here too. -/
def crossTrigger (cap : Nat) (tr : Trigger) (s : State) : State :=
  match capRun s cap with
  | none => s
  | some r =>
    let tr := { tr with flags := 8 }
    let s := setCap cap (holdOff tr r) s
    if r.def_.cls = 2 then writeMark cap tr s
    else if bit r.def_.opts 1 then addPhase tr.t r.def_.phase (.capture cap tr.src tr.srcId tr.t tr.mark true) s
    else openRecord cap tr tr.t s

/-- A phase request's capture start is taken at its instant (03 R64; 10 R271, R273). -/
def captureTaken (cap src srcId : Nat) (trig at_ : Instant) (mark : Bytes) (accepted fallback : Bool) (s : State) : State :=
  let tr : Trigger := { src := src, srcId := srcId, t := if accepted then trig else at_, mark := mark
                        flags := b2n fallback * 16 + b2n (!emits s) * 8 }
  if accepted then openRecord cap tr at_ s else (triggerCap cap tr true s).1

/-! ## Arming, swap and takeover (10 R261, R288, R290) -/

/-- Streams of a class W CAP in a bank: slots as R262 gives them. -/
def capStreams (b : Bank) (d : CapDef) : List CapStr :=
  if d.cls ≠ 1 then [] else d.sids.filterMap fun sid =>
    match mget b.streams sid with
    | none => none
    | some st =>
      let len := match b.sched with
        | some i => match i.omap.find? (fun e => e.kind == 3 && e.index == sid) with
          | some e => e.length
          | none => 0
        | none => 0
      some { sid := sid, rate := st.rate, nch := st.nch, slots := max 1 (len * 65536 / (8 * max 1 st.nch)) }

/-- A changed or new CAP (10 R288). -/
def newCap (b : Bank) (d : CapDef) (sec : Nat) : CapRun :=
  { def_ := d, strs := capStreams b d, armed := bit d.opts 0, chain := zeros 32, sealFirst := 1, sealFrom := sec }

/-- CAP_ARM (10 R261): disarming closes the segment set and seals (10 R267, R275). -/
def armCap (cap : Nat) (on : Bool) (s : State) : State :=
  match capRun s cap with
  | none => s
  | some r =>
    if r.armed = on then s
    else if on then setCap cap { r with armed := true, sealFrom := now s / secU } s
    else
      let s := if r.def_.cls = 2 then sealCap cap (closeSegments cap true s) else s
      match capRun s cap with
      | none => s
      | some r => setCap cap { r with armed := false } s

/-- A packet with some of its bytes replaced, and its CRC formed anew. -/
def patched (off : Nat) (v b : Bytes) : Bytes := withCrc ((b.take off ++ v ++ b.drop (off + v.length)).take (b.length - 4))

/-- A held packet as the new active unit delivers it behind the chain h: TAKEOVER set and TWIN clear (10 R290). DEDUCED: its signature
and, in a seal, HASH are formed anew, so that they hold for the bytes that leave. -/
def takeoverPacket (d : Nat) (h b : Bytes) : Bytes :=
  let ty := fld b 0 1
  if ty = 0x57 then
    let b := patched 34 (le 1 (fld b 34 1 / 16 * 16 + fld b 34 1 % 4 + 4)) b
    if bit (fld b 34 2) 5 then patched (b.length - 68) (signature d (b.take (b.length - 68))) b else b
  else if ty = 0x50 then patched 15 (le 1 (fld b 15 1 % 2 + 2)) b
  else if ty = 0x54 then patched 17 (le 1 2) b
  else if isZero (slice b 56 64) then patched 24 h b
  else patched 24 (h ++ signature d (b.take 24 ++ h)) b

/-- The packets that extend the hash chain: every one but a record and a seal (10 R275). -/
def isChained (b : Bytes) : Bool := fld b 0 1 != 0x57 && fld b 0 1 != 0x5A

/-- One held packet is delivered. -/
def deliverOne (cap : Nat) (s : State) (p : HeldPacket) : State :=
  match capRun s cap with
  | none => s
  | some r =>
    let b := takeoverPacket (signScalar s r.def_.sign) r.chain p.bytes
    if isChained b then capChained cap p.mark b s else capEmit cap p.mark b r.chain s

/-- The new active unit writes the packets it holds, from the first not confirmed (10 R290). -/
def deliverShadow (s : State) : State :=
  s.caps.foldl (fun s e =>
    match capRun s e.1 with
    | none => s
    | some r =>
      let held := r.shadow.filter fun p => decide (r.confirmed < pktSeqOf p.bytes)
      let from_ := match held.head? with
        | some p => p.chain
        | none => r.chain
      held.foldl (deliverOne e.1) (setCap e.1 { r with shadow := [], chain := from_ } s)) s

/-- The active unit's completed packets leave the standby's shadow (10 R289). -/
def confirmShadow (cap seq : Nat) (s : State) : State :=
  match capRun s cap with
  | none => s
  | some r => setCap cap { r with confirmed := seq, shadow := r.shadow.filter fun p => decide (seq < pktSeqOf p.bytes) } s

end Sys2Proof.Machine
end

