-- ==== Sys2Proof/Machine/Net.lean ====
section
/-! DEFINITION. The ports' MACs: receive rings, duplicate discard, flow control, neighbours and own IP frames (12), and what
of the received is mirrored (14 R381). -/

namespace Sys2Proof.Machine

/-! ## Receive rings (12 R319, R320) -/

def netRing (s : State) (p r : Nat) : NetRing := mgetD (port s p).rings r {}

def setRing (p r : Nat) (g : NetRing) (s : State) : State :=
  let q := port s p
  setPort p { q with rings := mput q.rings r g } s

/-- Posted entries between HEAD and TAIL. -/
def ringFree (g : NetRing) : Nat := (g.tail + ringLen g.size - g.head % ringLen g.size) % ringLen g.size

/-! ## Priority flow control (12 R325, R326) -/

/-- Classes that a port is pausing: by buffer in bits 7-0 of the field, by ring 0 in 15-8, by ring 1 in 23-16. -/
def pausingByte (r : Port) : Nat := (r.pausing % 256) ||| (r.pausing / 256 % 256) ||| (r.pausing / 65536 % 256)

/-- Send a PFC frame that pauses a class. -/
def pfcXoff (p c : Nat) (s : State) : State := countPort p 11 (emit (.pfc p c 0xFFFF) s)

/-- Pause a class for a cause: 0 buffer, 1 and 2 rings 0 and 1. -/
def pauseFor (p c cause : Nat) (s : State) : State :=
  let r := port s p
  if !bit r.cfg.pfcTx c ∨ bit r.pausing (8 * cause + c) then s
  else pfcXoff p c (setPort p { r with pausing := r.pausing + 2 ^ (8 * cause + c) } s)

/-- Release a class for a cause; pause time 0 is sent when no cause is left. -/
def releaseFor (p c cause : Nat) (s : State) : State :=
  let r := port s p
  if !bit r.pausing (8 * cause + c) then s
  else
    let r := { r with pausing := r.pausing - 2 ^ (8 * cause + c) }
    let s := setPort p r s
    if bit (pausingByte r) c then s else emit (.pfc p c 0) s

/-- Ring pause of receive ring r by its free buffers (12 R326). -/
def ringPause (p r : Nat) (s : State) : State :=
  let q := port s p
  if q.cfg.ringXoff = 0 then s
  else
    let free := ringFree (netRing s p r)
    let cls := (List.range 8).filter fun c => bit (if r = 0 then q.cfg.rx0Pause else q.cfg.rx1Pause) c
    if free < q.cfg.ringXoff then cls.foldl (fun s c => pauseFor p c (r + 1) s) s
    else if 2 * q.cfg.ringXoff ≤ free then cls.foldl (fun s c => releaseFor p c (r + 1) s) s
    else s

/-- A pair's duplicate discard is on: trailers are removed (12 R330). -/
def prpOn (s : State) (p : Nat) : Bool := bit (port s (pairPort p)).cfg.flags 0 && decide (2 ≤ p)

/-- What a frame's descriptors say of it: its length, its tag as (PCP, VID), whether it has a PRP trailer, CLASS, SID and
stamp. -/
structure RxInfo where
  len : Nat
  tag : Option (Nat × Nat)
  rct : Bool
  cls : Nat
  sid : Nat
  stamp : Instant
deriving DecidableEq, Repr

/-- FLAGS of a frame's descriptors but for FIRST and LAST (12 R319): TAGGED, RCT, LAN_B. -/
def rxFlags (s : State) (p : Nat) (x : RxInfo) : Nat :=
  b2n x.tag.isSome * 4 + b2n (x.rct && prpOn s p) * 8 + b2n (p == 3 || p == 5) * 16

/-- Bytes of the data in the buffers. DEDUCED: the frame from destination address to FCS, as MAX_FRAME counts it, less a tag of 4
bytes and a trailer of 6 that were removed. -/
def rxBytes (s : State) (p : Nat) (x : RxInfo) : Nat :=
  x.len - (if x.tag.isSome then 4 else 0) - (if x.rct && prpOn s p then 6 else 0)

/-- The descriptors of a frame: one to each buffer of 2,048 bytes (12 R319). -/
def rxDescs (s : State) (p : Nat) (x : RxInfo) : List RxDesc :=
  let l := rxBytes s p x
  let n := ceilDiv l 2048
  (List.range n).map fun i =>
    { len := min 2048 (l - 2048 * i), flags := b2n (i == 0) + b2n (i + 1 == n) * 2 + rxFlags s p x, cls := x.cls
      tci := (match x.tag with
        | some (c, v) => c * 8192 + v
        | none => 0)
      sid := x.sid, frac := x.stamp % secU, sec := x.stamp / secU % 2 ^ 48 }

/-- A frame goes to a receive ring, or finds too few posted buffers (12 R319, R320). -/
def rxDeliver (p r : Nat) (x : RxInfo) (s : State) : State :=
  let g := netRing s p r
  let ds := rxDescs s p x
  if !g.en ∨ ringFree g < ds.length then netIrq p 5 (countPort p 6 s)
  else
    let s := setRing p r { g with head := (g.head + ds.length) % ringLen g.size } s
    ringPause p r (netIrq p r (emit (.rxRing p r g.head ds) s))

/-! ## Duplicate discard (12 R330) -/

/-- Sources of a pair not forgotten 400 ms after their last frame. -/
def prpLive (t : Instant) (m : Map PrpSrc) : Map PrpSrc := mfilter m fun _ x => decide (t < x.last + msU 400)

/-- The LAN identifier of a pair's port: A on the first, B on the second (12 R331). -/
def lanOf (p : Nat) : Nat := if p = 3 ∨ p = 5 then 0xB else 0xA

/-- A frame with a trailer passes (true) or is discarded as a duplicate. DEDUCED: a third copy within the 400 ms is none of the first
and is discarded as the second is. -/
def prpTake (p : Nat) (x : Rct) (t : Instant) (s : State) : Bool × State :=
  let q := pairPort p
  let r := port s q
  if !prpOn s p then (true, s)
  else if x.lan ≠ lanOf p then (true, countPort p 15 s)
  else
    let tab := prpLive t r.prp
    match mget tab x.mac with
    | some src =>
      let seqs := src.seqs.filter fun e => decide (t < e.2 + msU 400)
      if seqs.any (fun e => e.1 == x.seq) then
        (false, countPort p 14 (setPort q { r with prp := mput tab x.mac { last := t, seqs := seqs } } s))
      else
        (true, setPort q { r with prp := mput tab x.mac { last := t, seqs := seqs ++ [(x.seq, t)] } } s)
    | none =>
      if 4096 ≤ tab.length then (true, countPort p 16 (setPort q { r with prp := tab } s))
      else (true, setPort q { r with prp := mput tab x.mac { last := t, seqs := [(x.seq, t)] } } s)

/-- Step 3 of the MAC for a frame other than PTP: VLAN membership (12 R318). vlan is a tag's VID: none untagged, 0
priority-tagged. -/
def vlanMember (c : PortCfg) (vlan : Option Nat) : Bool :=
  match vlan with
  | some v => if v = 0 then bit c.flags 2 else c.vlans.contains v
  | none => bit c.flags 2

/-- The class of a received frame: a tag's PCP, else the class of its kind (12 R318). -/
def rxClass (vlan : Option Nat) (pcp kind : Nat) : Nat := if vlan.isSome then pcp % 8 else kind

/-- Steps 1, 3 and 4 of a frame that a stream or a flow recognises: the count of the step that drops it (12 R318). held is what
its class buffer holds. -/
def macDrop (c : PortCfg) (len : Nat) (vlan : Option Nat) (held : Nat) : Option Nat :=
  if len < 64 ∨ c.maxFrame < len then some 2 else if !vlanMember c vlan then some 4 else if 65536 < held + len then some 5 else none

/-- A class buffer's occupancy reaches XOFF (12 R325). -/
def bufferXoff (p cls occupancy : Nat) (s : State) : State :=
  if (port s p).cfg.xoff.getD cls 64 * 1024 ≤ occupancy then pauseFor p cls 0 s else s

/-- A recognised frame passes the MAC: time reaches its stamp, a frame outside the port's lengths or VLANs or without room in its
class buffer is dropped, a duplicate is discarded, and an accepted frame counts. Its FCS and its destination address are right, or
the frame is not recognised (12 R318). -/
def macTake (p len : Nat) (vlan : Option Nat) (cls held : Nat) (rct : Option Rct) (t : Instant) (s : State) : Bool × State :=
  let s := advanceTo t s
  match macDrop (port s p).cfg len vlan held with
  | some i => (false, countPort p i s)
  | none =>
    let s := bufferXoff p cls (held + len) s
    let (ok, s) := match rct with
      | some x => prpTake p x t s
      | none => (true, s)
    (ok, if ok then countPort p 0 s else s)

/-! ## Service addresses and mirroring (14 R381) -/

def isSvc (s : State) (addr : Nat) : Bool := addr ≠ 0 && s.cas.cfg.svc.any (fun a => a.addr == addr)

/-- The unit holds its service addresses: in RUN alone (14 R372, R381). -/
def holdsSvc (s : State) : Bool := inRun s && s.cas.role = .active

/-- MIRROR_MBPS of the COPY template in force (14 R383). -/
def mirrorMbps (s : State) : Nat :=
  match (activeBank s).templates.find? (fun e => e.2.type == 7) with
  | some e => fld e.2.blk 4 4
  | none => 0

/-- An input is mirrored while the active unit has a partner on the link. DESIGN CHOICE: the certified load is held per
slot. -/
def mirrorOut (p len : Nat) (stamp : Instant) (item : MirrorItem) (s : State) : State :=
  if s.cas.role ≠ .active ∨ !s.cas.twinUp then s
  else
    let b := slotFloor s (now s)
    let used := if s.cas.mirrorSlot = b then s.cas.mirrorBits else 0
    if used + 8 * len ≤ mirrorMbps s * 1000000 / fnom s then
      count 227 (emit (.mirror p stamp item)
        { s with cas := { s.cas with mirrorSlot := b, mirrorBits := used + 8 * len } })
    else count 228 s

/-- A recognised input frame to an address: mirrored by the ACTIVE unit; dropped by a unit in STANDBY or STALEMATE when the address is a
service address. -/
def svcInput (p addr len : Nat) (stamp : Instant) (item : MirrorItem) (s : State) : Bool × State :=
  if !isSvc s addr then (true, s)
  else if holdsSvc s then (true, mirrorOut p len stamp item s)
  else if s.cas.role = .standby ∨ s.cas.role = .stalemate then (false, count 229 s)
  else (true, s)

/-! ## Neighbours (12 R324) -/

/-- An IPv4-mapped address, ::ffff:a.b.c.d. -/
def isV4 (a : Nat) : Bool := a / 2 ^ 32 = 0xFFFF

/-- The length of an address's prefix in the 128-bit form. -/
def prefix128 (addr len : Nat) : Nat := if isV4 addr then 96 + len else len

/-- An address lies on the subnet of another. -/
def onSubnet (a net len : Nat) : Bool :=
  let k := prefix128 net len
  k ≤ 128 && a / 2 ^ (128 - k) = net / 2 ^ (128 - k)

def onLocalSubnet (s : State) (p a : Nat) : Bool := (port s p).cfg.addrs.any fun e => onSubnet a e.1 e.2.2

def isMulticast (a : Nat) : Bool := if isV4 a then a / 2 ^ 28 % 16 = 0xE else a / 2 ^ 120 = 0xFF

/-- The table learns a sender on a local subnet; a full table replaces the entry longest without use. -/
def neighLearn (p addr mac : Nat) (s : State) : State :=
  let r := port s p
  if !onLocalSubnet s p addr then s
  else if mhas r.neigh addr then setPort p { r with neigh := mput r.neigh addr mac } s
  else if r.neigh.length < 1024 then
    setPort p { r with neigh := mput r.neigh addr mac, neighUse := r.neighUse ++ [addr] } s
  else
    let old := r.neighUse.headD 0
    count 194 (setPort p { r with neigh := mput (mdel r.neigh old) addr mac, neighUse := r.neighUse.drop 1 ++ [addr] } s)

/-- The gateway of the first ADDRS subnet: its address whose low bit in the subnet is 1. -/
def gateway (s : State) (p : Nat) : Option Nat :=
  match (port s p).cfg.addrs.head? with
  | none => none
  | some e =>
    let k := 128 - prefix128 e.1 e.2.2
    some (e.1 / 2 ^ k * 2 ^ k + 1)

/-- The MAC address of a multicast group (12 R324). PRESUMED, from RFC 1112 and RFC 2464: 01-00-5E with the group's low 23 bits, and
33-33 with its low 32. -/
def groupMac (dst : Nat) : Nat := if isV4 dst then 0x01005E000000 + dst % 2 ^ 23 else 0x333300000000 + dst % 2 ^ 32

/-- The MAC address that reaches an IP destination from a port, if there is one; a table entry's use is marked. -/
def addressed (p dst : Nat) (s : State) : Option Nat × State :=
  if isMulticast dst then (some (groupMac dst), s)
  else
    match if onLocalSubnet s p dst then some dst else gateway s p with
    | none => (none, s)
    | some hop =>
      let r := port s p
      match mget r.neigh hop with
      | some m => (some m, setPort p { r with neighUse := r.neighUse.filter (· != hop) ++ [hop] } s)
      | none => (none, s)

/-! ## Transmission of IP frames (12 R324, R331) -/

/-- The address that one of the block's own IP frames carries as its source: a service address of the port on an ACTIVE unit,
ahead of PORT_CONFIG's (07 R172; 14 R381). DEDUCED: the first one of the destination's family. -/
def srcAddr (s : State) (p dst : Nat) : Nat :=
  let svc := if holdsSvc s then (s.cas.cfg.svc.filter fun a => a.port == p).map (·.addr) else []
  ((svc ++ (port s p).cfg.addrs.map (·.1)).find? fun a => isV4 a == isV4 dst).getD 0

/-- An IP frame of the block's own before it has its port: class, VLAN (0xFFFF for untagged), DSCP, UDP ports, destination, what it
carries and how many bytes that has. src is the address it is sent from, when the sender gives one. -/
structure IpSend where
  cls : Nat
  vlan : Nat
  dscp : Nat
  src : Option Nat
  srcUdp : Nat
  dst : Nat
  dstUdp : Nat
  len : Nat
  m : IpMsg
deriving DecidableEq, Repr

/-- The frame's bytes from destination address to payload: Ethernet, tag, IP and UDP headers, and a PRP trailer. -/
def ipLen (x : IpSend) (prp : Bool) : Nat :=
  14 + (if x.vlan = 0xFFFF then 0 else 4) + (if isV4 x.dst then 20 else 40) + 8 + x.len + (if prp then 6 else 0)

/-- The headers of such a frame on a port: a tagged frame carries its class as PCP (12 R322). -/
def ipPath (s : State) (p mac : Nat) (x : IpSend) (prp : Option (Nat × Nat)) : IpPath :=
  { port := p, srcMac := (port s p).cfg.mac, dstMac := mac, tag := if x.vlan = 0xFFFF then none else some (x.cls, x.vlan)
    dscp := x.dscp, src := x.src.getD (srcAddr s p x.dst), srcUdp := x.srcUdp, dst := x.dst, dstUdp := x.dstUdp, prp := prp }

/-- One of the block's own IP frames: without a neighbour it is discarded. stamp is its egress timestamp's tag. -/
def txIpFrame (publish : Bool) (p : Nat) (x : IpSend) (stamp : Option Nat) (prp : Option (Nat × Nat)) (s : State) : State :=
  let (hop, s) := addressed p x.dst s
  match hop with
  | some mac => txFrame publish p { cls := x.cls, len := ipLen x prp.isSome, tag := stamp, e := .ip (ipPath s p mac x prp) x.m } s
  | none => countPort p 10 s

def txIp (p : Nat) (x : IpSend) (s : State) : State := txIpFrame false p x none none s

/-- The pair's sequence number advances by one per frame (12 R331). -/
def prpAdvance (q : Nat) (s : State) : State := setPort q { port s q with prpSeq := ((port s q).prpSeq + 1) % 65536 } s

/-- A trailer on a port of the pair q: the sequence number and the LAN identifier (12 R331). -/
def prpTrailer (s : State) (q p : Nat) : Nat × Nat := ((port s q).prpSeq, lanOf p)

/-- An own IP frame on one port, or on both of its pair, whose sequence number then advances. -/
def txOut (publish prp : Bool) (p : Nat) (x : IpSend) (stamp : Option Nat) (s : State) : State :=
  if prp then
    let q := pairPort p
    let s := prpAdvance q s
    let a := prpTrailer s q q
    let b := prpTrailer s q (q + 1)
    txIpFrame publish (q + 1) x stamp (some b) (txIpFrame publish q x stamp (some a) s)
  else txIpFrame publish p x stamp none s

end Sys2Proof.Machine
end

