-- ==== Sys2Proof/Machine/Detect.lean ====
section
/-! DEFINITION. Belvedere: availability, levels, the alarm record and its paths, the six kernels and BLIND (07). -/

namespace Sys2Proof.Machine

/-! ## State and parameters -/

def detRun (s : State) (i : Nat) : DetRun := mgetD s.dets i {}

def setDet (i : Nat) (r : DetRun) (s : State) : State := { s with dets := mput s.dets i r }

def f32Of (a : Frac) : Nat := f32Round a

/-- A float32 field, or a default when it is 0. -/
def f32Or (v : Nat) (d : Frac) : Frac := if v = 0 then d else f32Val v

def fmin (a b : Frac) : Frac := if fle a b then a else b

/-- The smallest non-zero of two thresholds. -/
def lowTh (a b : Nat) : Frac := if a = 0 then f32Val b else f32Val a

def half (a : Frac) : Frac := { num := a.num, den := 2 * a.den }

/-- Instances in n slots at a group rate (07 R160). -/
def slotsOf (rate fn n : Nat) : Nat := n * rate / fn

def orN (v d : Nat) : Nat := if v = 0 then d else v

/-- BLIND_N (07 R163). -/
def blindN (d : DetDef) (rate : Nat) : Nat := if d.blindN = 0 then min 255 rate else d.blindN

def pinLevel (d : DetDef) : Nat := orN d.pinLevel 2

/-! ## What a detector sees (07 R164) -/

/-- A channel's value when the kernel may use it. -/
def available (d : DetDef) (view : List ChanView) (cid : Nat) : Option ChanView :=
  match viewOf view cid with
  | some v => if qbit v.qual 0 && (bit d.opts 0 || !qbit v.qual 4) then some v else none
  | none => none

/-- FLAGS[3:0] of a record from the inputs used. -/
def inputFlags (vs : List ChanView) : Nat :=
  b2n (vs.any (qbit ·.qual 4)) + b2n (vs.any (qbit ·.qual 1)) * 2 + b2n (vs.any (qbit ·.qual 2)) * 4
    + b2n (vs.any (qbit ·.qual 3)) * 8

/-- FLAGS[3:0] of several evaluations' inputs together. -/
def orFlags (fs : List Nat) : Nat := fs.foldl (· ||| ·) 0

def angleOf (v : ChanView) : Option Nat := (polarOf v.val).map (·.2)

def freqOf (v : ChanView) : Option Nat := scalarOf v.val

/-! ## The alarm record (07 R169) -/

/-- What a kernel decides to issue: EVENT, LEVEL, the level before, CRIT, its values and its input flags. -/
structure DetRec where
  event : Nat
  level : Nat
  prev : Nat
  crit : Nat
  flags : Nat
  v1 : Nat
  v2 : Nat
  thresh : Nat
  cidA : Option Nat
  cidB : Option Nat
  run : Nat
  aux : Nat
deriving DecidableEq, Repr

/-- A record's 64 bytes. -/
def alarmBytes (det kernel gid seq : Nat) (latched part ring : Bool) (t issued : Instant) (r : DetRec) : Bytes :=
  withCrc (le 1 0x41 ++ le 1 kernel ++ le 1 r.event ++ le 1 r.level ++ le 2 det ++ le 2 gid ++ le 2 r.crit
    ++ le 2 (r.flags + b2n latched * 16 + b2n part * 32 + b2n ring * 64 + r.prev * 256 + b2n r.cidA.isNone * 1024
      + b2n r.cidB.isNone * 2048)
    ++ le 4 seq ++ stampBytes t ++ stampBytes issued ++ le 4 r.v1 ++ le 4 r.v2 ++ le 4 r.thresh ++ le 2 (r.cidA.getD 0)
    ++ le 2 (r.cidB.getD 0) ++ le 4 r.run ++ le 4 r.aux ++ zeros 4)

/-- ALARM_N is asserted while a latch is set, by a unit that emits outputs (07 R168, R190). -/
def alarmPin (s : State) : State :=
  let on := emits s && s.dets.any fun e => e.2.latch != 0
  if s.pins.alarm = on then s else emit (.pin 1 (!on) (now s)) { s with pins := { s.pins with alarm := on } }

/-- PARTIAL: less than WIN_S seconds of history (07 R179). -/
def winS (d : DetDef) : Nat := if d.kernel = 1 then orN (fld d.kblk 4 2) 600 else orN (fld d.kblk 2 2) 120

def detPartial (d : DetDef) (r : DetRun) (t : Instant) : Bool :=
  d.kernel == 1 && (match r.since with
    | some f => decide (t < f + winS d * secU)
    | none => true)

/-- The datagram of a record (07 R172). -/
def detDatagram (d : DetDef) (b : Bytes) (s : State) : State :=
  let key := if d.dgLocker = 0xFF then some [] else if datagramLocker s d.dgLocker then
      (mget s.gh.lockers d.dgLocker).map (·.key) else none
  match key with
  | none => useRefused (count 85 s)
  | some k =>
    if !portUp s d.dgPort then count 85 s
    else
      let pl := if d.dgLocker = 0xFF then b else b ++ (hmac k b).take 16
      -- DESIGN CHOICE: the spec gives no source UDP port; it is DG_UDP
      txIp d.dgPort { cls := 5, vlan := d.dgVlan, dscp := d.dgDscp, src := none, srcUdp := d.dgUdp, dst := d.dgAddr, dstUdp := d.dgUdp
                      len := pl.length, m := .datagram pl } (count 84 s)

/-- The recorder takes at most 4 records of an instance a second (07 R171). -/
def detRecorder (det : Nat) (r : DetRec) (t : Instant) (b : Bytes) (s : State) : State :=
  let run := detRun s det
  let sec := now s / secU
  let n := if run.recSec = sec then run.recN else 0
  if 4 ≤ n then count 86 s
  else
    let sev := if r.event = 3 ∨ r.event = 5 then 3 else if r.level = 1 then 3 else if r.level = 2 then 5 else 6
    recAdd sev 6 (1 + Config.recCode 6 (le 1 r.event) % 0xEFFF) 3 0 det (t % secU) (t / secU % 2 ^ 32) b
      (setDet det { run with recSec := sec, recN := n + 1 } s)

/-- A RAISE or an upward CHANGE. -/
def upward (r : DetRec) : Bool := r.event == 1 || (r.event == 2 && decide (r.prev < r.level))

/-- Issue one record of an instance: SEQ, latch, and every path but the queue, whose packet comes back (07 R168, R171). -/
def issueRecord (det : Nat) (d : DetDef) (gid : Nat) (t : Instant) (r : DetRec) (s : State) : Bytes × State :=
  let run := detRun s det
  let lv := if !bit d.opts 2 ∧ (upward r ∨ r.event = 4) ∧ pinLevel d ≤ r.level then max run.latch r.level else run.latch
  let run := { run with seq := (run.seq + 1) % 2 ^ 32, latch := lv }
  let b := alarmBytes det d.kernel gid run.seq (lv ≠ 0) (detPartial d run t) run.ringdown t (now s) r
  let s := alarmPin (setDet det run s)
  if !emits s then (b, s)
  else
    let s := count 82 s
    let s := if r.event = 4 then count 83 s else s
    let s := if bit d.opts 1 then detDatagram d b s else s
    let s := detRecorder det r t b (raiseVector 91 s)
    if upward r then
      (b, triggerAll (fun c => c.dets.any fun e => e.1 == det && decide (e.2 ≤ r.level))
        { src := 1, srcId := det, t := t, mark := b.take 16, flags := 0 } s)
    else (b, s)

/-! ## Levels (07 R167) -/

/-- Count runs of a criterion at an evaluable instance: which levels are set at or above their threshold, and which are
kept. value is VALUE2's candidate at a run's start. -/
def critRuns (c : Crit) (at2 at3 kept : Bool) (value : Nat) : Crit :=
  { c with
    run2 := if at2 then c.run2 + 1 else 0, st2 := if at2 ∧ c.run2 ≠ 0 then c.st2 else value
    run3 := if at3 then c.run3 + 1 else 0, st3 := if at3 ∧ c.run3 ≠ 0 then c.st3 else value
    clr := if kept then 0 else c.clr + 1, stc := if !kept ∧ c.clr ≠ 0 then c.stc else value }

/-- The threshold rule: the new criterion, and RUN with the value at the deciding run's start. -/
def thresholdRule (c : Crit) (v th2 th3 hyst : Frac) (nSet nClr value : Nat) : Crit × Nat × Nat :=
  let on2 := th2.num ≠ 0
  let on3 := th3.num ≠ 0
  let k2 := on2 && fle (fsub th2 hyst) v
  let k3 := on3 && fle (fsub th3 hyst) v
  let kept := if c.level = 3 then k3 else if c.level = 2 then k2 else true
  let c := critRuns c (on2 && fle th2 v) (on3 && fle th3 v) kept value
  let set3 := on3 && decide (nSet ≤ c.run3)
  let set2 := on2 && decide (nSet ≤ c.run2)
  if set3 && decide (c.level < 3) then ({ c with level := 3, clr := 0 }, c.run3, c.st3)
  else if set2 && decide (c.level < 2) then ({ c with level := 2, clr := 0 }, c.run2, c.st2)
  else if 0 < c.level ∧ nClr ≤ c.clr then
    let lv := if c.level = 3 ∧ k2 then 2 else 0
    ({ c with level := lv, clr := 0 }, c.clr, c.stc)
  else (c, 0, 0)

/-- EVENT of a change of level. -/
def eventOf (prev lv : Nat) : Nat := if prev = 0 then 1 else if lv = 0 then 3 else 2

/-- An unevaluable instance ends the runs of a criterion and keeps its level. -/
def critBreak (c : Crit) : Crit := { c with run2 := 0, run3 := 0, clr := 0, clrA := 0 }

/-- What one evaluation gives: whether it could form its criterion, the new running state, the records of changes in order
of CRIT, each criterion's values for a STATUS record, and a report for the queue. flags are FLAGS[3:0] of all its inputs. -/
structure DetEval where
  ok : Bool
  flags : Nat := 0
  run : DetRun
  recs : List DetRec
  status : List DetRec
  report : List Bytes
deriving DecidableEq, Repr

/-- An unevaluable instance; every pair of areas restarts after it (07 R176). -/
def noEval (r : DetRun) : DetEval :=
  { ok := false, run := { r with crits := mmap r.crits fun _ c => critBreak c, pairs := [] }, recs := [], status := [], report := [] }

/-- A criterion's record for an instance: issued when its level changed, and its STATUS form. -/
def critRec (prev : Nat) (c : Crit) (i flags v1 v2 statV2 thr : Nat) (a b : Option Nat) (run aux : Nat) :
    List DetRec × DetRec :=
  let r : DetRec := { event := eventOf prev c.level, level := c.level, prev := prev, crit := i, flags := flags, v1 := v1
                      v2 := v2, thresh := thr, cidA := a, cidB := b, run := run, aux := aux }
  (if c.level = prev then [] else [r], { r with event := 0, v2 := statV2, run := 0 })

/-- The threshold that a record shows: of LEVEL, or of the previous level for CLEAR. -/
def threshOf (prev lv th2 th3 : Nat) : Nat := if (if lv = 0 then prev else lv) = 3 then th3 else th2

/-! ## D-ANG (07 R174) -/

/-- An angle in radians as degrees, a fraction with denominator 2^256. -/
def degrees (a : Nat) : Int := fxOf (f32Val a) * 180 * fxOne / fxPi

/-- Wrap degrees in units of 2^-256 into (−180, 180]. -/
def wrapDeg (x : Int) : Int :=
  let m := x % (360 * fxOne)
  if 180 * fxOne < m then m - 360 * fxOne else m

/-- Δθ at the start of the run in progress, as a STATUS record shows it. DEDUCED: the setting run of the lowest level in use at level
0, the clearing run above, and without a run the present value. -/
def runStart (th2 : Nat) (c : Crit) (val : Nat) : Nat :=
  if c.level ≠ 0 then (if c.clr = 0 then val else c.stc)
  else if th2 = 0 then (if c.run3 = 0 then val else c.st3)
  else if c.run2 = 0 then val else c.st2

def evalAng (d : DetDef) (rate fn : Nat) (view : List ChanView) (r : DetRun) : DetEval :=
  let k := d.kblk
  let ca := fld k 0 2
  let cb := fld k 2 2
  match available d view ca, available d view cb with
  | some va, some vb =>
    match angleOf va, angleOf vb with
    | some a, some b =>
      let dth := wrapDeg (degrees a - degrees b)
      let t2 := fld k 4 4
      let t3 := fld k 8 4
      let hy := f32Or (fld k 12 4) (fmin (fracOf 2) (half (lowTh t2 t3)))
      let val := f32Of (fxFrac dth)
      let c := mgetD r.crits 0 {}
      let (c', run, st) := thresholdRule c (fxFrac dth.natAbs) (f32Val t2) (f32Val t3) hy
        (slotsOf rate fn (orN (fld k 16 1) 3)) (slotsOf rate fn (orN (fld k 17 1) 10)) val
      let fs := inputFlags [va, vb]
      let (rs, stat) := critRec c.level c' 0 fs val st (runStart t2 c' val) (threshOf c.level c'.level t2 t3) (some ca) (some cb)
        run 0
      { ok := true, flags := fs, run := { r with crits := [(0, { c' with value1 := val })] }, recs := rs, status := [stat]
        report := [] }
    | _, _ => noEval r
  | _, _ => noEval r

/-! ## D-ROC (07 R175) -/

def cidAt (k : Bytes) (off i : Nat) : Nat := fld k (off + 2 * i) 2

/-- Values of the channels at an earlier instant, by its number. -/
def histAt (r : DetRun) (t : Instant) (i : Nat) : Option Nat :=
  match r.hist.find? (fun e => e.1 == t) with
  | some e => e.2.getD i none
  | none => none

/-- Keep the newest n entries of a history. -/
def histPut (r : DetRun) (t : Instant) (vs : List (Option Nat)) (n : Nat) : List (Instant × List (Option Nat)) :=
  let l := r.hist.filter (fun e => decide (e.1 < t)) ++ [(t, vs)]
  l.drop (l.length - n)

/-- The input flags of the channels at an instant join their history of n instances: inputs of an evaluation stay its inputs
when a later one uses them (07 R164). -/
def flagsPut (r : DetRun) (t : Instant) (views : List (Option ChanView)) (n : Nat) : List (Instant × List Nat) :=
  let l := r.histFlags.filter (fun e => decide (e.1 < t)) ++ [(t, views.map fun v => inputFlags v.toList)]
  l.drop (l.length - n)

/-- The input flags of a channel at an earlier instant. -/
def flagsAt (r : DetRun) (t : Instant) (i : Nat) : Nat :=
  match r.histFlags.find? (fun e => e.1 == t) with
  | some e => e.2.getD i 0
  | none => 0

def evalRoc (d : DetDef) (rate fn : Nat) (t : Instant) (view : List ChanView) (r : DetRun) : DetEval :=
  let k := d.kblk
  let nch := fld k 0 1
  let m := orN (fld k 1 1) 1
  let kk := orN (fld k 2 1) 5
  let dir := fld k 3 1
  let t2 := fld k 4 4
  let t3 := fld k 8 4
  let hy := f32Or (fld k 12 4) (fmin { num := 5, den := 100 } (half (lowTh t2 t3)))
  let views := (List.range nch).map fun i => available d view (cidAt k 20 i)
  let now_ : List (Option Nat) := views.map fun v => match v with
    | some v => match freqOf v with
      | some f => if f32Finite f then some f else none
      | none => none
    | none => none
  let back := gridAt rate (gridFloor rate t - slotsOf rate fn kk)
  let rocs := (List.range nch).filterMap fun i =>
    match now_.getD i none, histAt r back i with
    | some f1, some f0 =>
      let x := fmul (fsub (f32Val f1) (f32Val f0)) { num := fn, den := kk }
      let v := if dir = 0 then fabs x else if dir = 1 then fneg x else x
      some (i, x, v)
    | _, _ => none
  let r := { r with hist := histPut r t now_ (slotsOf rate fn kk + 1), histFlags := flagsPut r t views (slotsOf rate fn kk + 1) }
  if rocs.length < m then noEval r
  else
    let ord := rocs.foldl (fun (l : List (Nat × Frac × Frac)) e =>
      l.takeWhile (fun x => fle e.2.2 x.2.2) ++ e :: l.dropWhile (fun x => fle e.2.2 x.2.2)) []
    match ord[m - 1]?, ord.head? with
    | some (_, x, v), some (top, _, _) =>
      let mean := fdiv (rocs.foldl (fun a e => fadd a e.2.1) (fracOf 0)) (fracOf rocs.length)
      let bound := fsub (lowTh t2 t3) hy
      let aux := (rocs.filter fun e => fle bound e.2.2).length
      let c := mgetD r.crits 0 {}
      let (c', run, _) := thresholdRule c v (f32Val t2) (f32Val t3) hy (slotsOf rate fn (orN (fld k 16 1) 2))
        (slotsOf rate fn (orN (fld k 17 1) 10)) 0
      let flags := orFlags (rocs.map fun e => flagsAt r t e.1 ||| flagsAt r back e.1)
      let (rs, stat) := critRec c.level c' 0 flags (f32Of x) (f32Of mean) (f32Of mean)
        (threshOf c.level c'.level t2 t3) (some (cidAt k 20 top)) none run aux
      let vals := (List.range nch).map fun i => match rocs.find? (fun e => e.1 == i) with
        | some e => f32Of e.2.1
        | none => 0
      { ok := true, flags := flags, run := { r with crits := [(0, c')], vals := vals }, recs := rs, status := [stat], report := [] }
    | _, _ => noEval r

/-! ## D-ISL (07 R176) -/

/-- Insert a fraction in ascending order. -/
def insFrac (a : Frac) : List Frac → List Frac
  | [] => [a]
  | x :: xs => if fle a x then a :: x :: xs else x :: insFrac a xs

/-- The median, or the mean of the two middle values. -/
def median (l : List Frac) : Option Frac :=
  let l := l.foldl (fun acc x => insFrac x acc) []
  let n := l.length
  if n = 0 then none
  else if n % 2 = 1 then l[n / 2]?
  else match l[n / 2 - 1]?, l[n / 2]? with
    | some a, some b => some (half (fadd a b))
    | _, _ => none

/-- What one area shows: its frequency, its phase reference's CID and angle, and the views used. -/
structure AreaView where
  freq : Option Frac
  ref : Option (Nat × Int)
  used : List ChanView
deriving DecidableEq, Repr

/-- Degrees in units of 2^-64. -/
def deg64 (a : Nat) : Int := degrees a / 2 ^ 192

def wrap64 (x : Int) : Int :=
  let m := x % (360 * 2 ^ 64)
  if 180 * 2 ^ 64 < m then m - 360 * 2 ^ 64 else m

def areaView (d : DetDef) (view : List ChanView) (a : Nat) : AreaView :=
  let k := d.kblk
  let off := 12 + 36 * a
  let refs := (List.range (fld k off 1)).map fun i => (fld k (off + 4 + 4 * i) 2, fld k (off + 6 + 4 * i) 2)
  let fs := refs.filterMap fun e => available d view e.2
  let ph := refs.findSome? fun e => match available d view e.1 with
    | some v => (angleOf v).map fun x => (e.1, x, v)
    | none => none
  { freq := median (fs.filterMap fun v => (freqOf v).bind fun f => if f32Finite f then some (f32Val f) else none)
    ref := ph.map fun p => (p.1, deg64 p.2.1)
    used := fs ++ (match ph with
      | some p => [p.2.2]
      | none => []) }

/-- One pair's evaluation: the pair's new state and criterion, its records and STATUS. -/
def islPair (d : DetDef) (rate fn : Nat) (t : Instant) (av : List AreaView) (a b : Nat) (r : DetRun) :
    DetRun × List DetRec × Option DetRec :=
  let k := d.kblk
  let id_ := a * 8 + b
  let c := mgetD r.crits id_ {}
  let blank : AreaView := { freq := none, ref := none, used := [] }
  let va := av.getD a blank
  let vb := av.getD b blank
  match va.freq, va.ref, vb.freq, vb.ref with
  | some fa, some (ra, pa), some fb, some (rb, pb) =>
    let nSet := slotsOf rate fn (orN (fld k 1 1) 5)
    let nClr := slotsOf rate fn (orN (fld k 2 1) 25)
    let dfAlert := bit (fld k 3 1) 0
    let dfTh := f32Or (fld k 4 4) { num := 1, den := 10 }
    let dth := f32Or (fld k 8 4) (fracOf 60)
    let phi := wrap64 (pa - pb)
    let old := mget r.pairs id_
    let prev := gridAt rate (gridFloor rate t - 1)
    let cont : Option IslPair := match old with
      | some p => if p.refA = ra ∧ p.refB = rb ∧ p.past.getLast?.map (·.1) = some prev then some p else none
      | none => none
    let p : IslPair := match cont with
      | some p => { p with dth := p.dth + wrap64 (phi - p.phi), phi := phi }
      | none => { dth := phi, phi := phi, refA := ra, refB := rb, past := [] }
    let past := p.past ++ [(t, p.dth)]
    let p := { p with past := past.drop (past.length - (nSet + 1)) }
    let df := fsub fa fb
    let beyond := flt dfTh (fabs df)
    let low := fle (fabs df) (half dfTh)
    let mag : Frac := { num := p.dth.natAbs, den := 2 ^ 64 }
    let wide := flt dth mag
    let back := gridAt rate (gridFloor rate t - nSet)
    let grown : Bool := match p.past.find? (fun e => e.1 == back) with
      | some e => decide (e.2.natAbs < p.dth.natAbs)
      | none => false
    let c1 := { c with run2 := if beyond then c.run2 + 1 else 0
                       clr := if low then c.clr + 1 else 0
                       run3 := if fle mag dth then c.run3 + 1 else 0 }
    let fcond := decide (nSet ≤ c1.run2)
    let dec : Nat × Nat :=
      if decide (c.level < 3) && fcond && wide && grown then (3, c1.run2)
      else if decide (c.level < 2) && dfAlert && fcond then (2, c1.run2)
      else if 0 < c.level ∧ nClr ≤ c1.clr then (0, c1.clr)
      else if decide (c.level = 3) && dfAlert && decide (nClr ≤ c1.run3) && fcond then (2, c1.run3)
      else (c.level, 0)
    let (lv, run) := dec
    let c2 := { c1 with level := lv }
    let (rs, st) := critRec c.level c2 id_ (inputFlags (va.used ++ vb.used)) (f32Of df)
      (f32Of { num := p.dth, den := 2 ^ 64 }) (f32Of { num := p.dth, den := 2 ^ 64 })
      (threshOf c.level lv (f32Of dfTh) (f32Of dth)) (some ra) (some rb) run (a + b * 256)
    ({ r with crits := mput r.crits id_ c2, pairs := mput r.pairs id_ p }, rs, some st)
  | _, _, _, _ => ({ r with crits := mput r.crits id_ (critBreak c), pairs := mdel r.pairs id_ }, [], none)

/-- The pairs a < b, in order of CRIT. -/
def areaPairs (n : Nat) : List (Nat × Nat) :=
  ((List.range n).map fun a => ((List.range n).filter (fun b => decide (a < b))).map fun b => (a, b)).flatten

def evalIsl (d : DetDef) (rate fn : Nat) (t : Instant) (view : List ChanView) (r : DetRun) : DetEval :=
  let n := fld d.kblk 0 1
  let av := (List.range n).map (areaView d view)
  let areas := av.map fun a => (match a.freq with
    | some f => f32Of f
    | none => 0, match a.ref with
    | some x => x.1
    | none => 0, b2n (a.freq.isNone || a.ref.isNone) + b2n a.freq.isNone * 2 + b2n a.ref.isNone * 4)
  let (r, rs, sts) := (areaPairs n).foldl (fun (x : DetRun × List DetRec × List DetRec) e =>
    let (r, rs, st) := islPair d rate fn t av e.1 e.2 x.1
    (r, x.2.1 ++ rs, x.2.2 ++ st.toList)) (r, [], [])
  let r := { r with areas := areas }
  if sts.isEmpty then noEval r
  else { ok := true, flags := orFlags (sts.map (·.flags)), run := r, recs := rs, status := sts, report := [] }

/-! ## D-SSO (07 R177) -/

/-- A float32 pattern, or the nearest one to a default when it is 0. -/
def patOr (v : Nat) (d : Frac) : Nat := if v = 0 then f32Of d else v

/-- The largest float32 below a positive value. -/
def f32Below (x : Frac) : Nat := if flt (f32Val (f32Of x)) x then f32Of x else f32Of x - 1

/-- F_LO and F_HI as resolved (07 R177, R178, R182). -/
def bandLo (d : DetDef) : Nat :=
  match d.kernel with
  | 1 => patOr (fld d.kblk 8 4) { num := 5, den := 100 }
  | 2 => patOr (fld d.kblk 4 4) { num := 5, den := 100 }
  | _ => patOr (fld d.kblk 4 4) (fracOf 2)

def bandHi (d : DetDef) (rate fn : Nat) : Nat :=
  match d.kernel with
  | 1 => patOr (fld d.kblk 12 4) (fracOf 4)
  | 2 => if fld d.kblk 8 4 ≠ 0 then fld d.kblk 8 4
         else if fle (fracOf 15) (f32Val (f32Below { num := 4 * rate, den := 10 })) then f32Of (fracOf 15)
         else f32Below { num := 4 * rate, den := 10 }
  | _ => patOr (fld d.kblk 8 4) (fracOf (2 * fn - 1 : Nat))

/-- A frequency lies in [F_LO, F_HI). -/
def inBand (lo hi f : Nat) : Bool := f32Finite f && fle (f32Val lo) (f32Val f) && flt (f32Val f) (f32Val hi)

/-- The waveform block of a channel, with its flags, when its VALID is 1. -/
def waveBlock (view : List ChanView) (cid : Nat) : Option (Nat × List Nat) :=
  match viewOf view cid with
  | some v => match v.val with
    | .sv _ _ _ (some (q, w)) => if qbit q 0 then some (inputFlags [{ v with qual := q }], w) else none
    | _ => none
  | none => none

/-- Keep a channel set's newest n blocks. -/
def wavesPut (r : DetRun) (t : Instant) (ws : List (Option (Nat × List Nat))) (n : Nat) :
    List (Instant × List (Option (Nat × List Nat))) :=
  let l := r.waves.filter (fun e => decide (e.1 < t)) ++ [(t, ws)]
  l.drop (l.length - n)

/-- A channel's block of an instant. -/
def waveAt (r : DetRun) (t : Instant) (i : Nat) : Option (Nat × List Nat) :=
  match r.waves.find? (fun e => e.1 == t) with
  | some e => e.2.getD i none
  | none => none

/-- A channel's window of n blocks that ends with an instant's: its flags and samples, when every block is valid. -/
def ssoWindow (r : DetRun) (rate n : Nat) (t : Instant) (i : Nat) : Option (Nat × List Nat) :=
  let j := gridFloor rate t
  let bs := (List.range n).map fun b => waveAt r (gridAt rate (j + 1 + b - n)) i
  if n = 0 ∨ bs.any (·.isNone) then none
  else some (orFlags (bs.map fun b => (b.getD (0, [])).1), (bs.map fun b => (b.getD (0, [])).2).flatten)

/-- The components of a channel's window that the kernel reports: in the band, at least 1 Hz from Fnom, NCOMP of them at most, each
as its frequency and its percentage of the fundamental; the largest comes first. DESIGN CHOICE: a fundamental of magnitude 0 leaves
nothing to compare with, and the channel is unevaluable. -/
def ssoComps (d : DetDef) (rate fn : Nat) (v : ChanView) (w : List Nat) : Option (List (Nat × Nat)) :=
  match polarOf v.val, freqOf v with
  | some (m, _), some f =>
    if f32IsZero m ∨ !f32Finite m then none
    else
      let n := orN (fld d.kblk 0 1) 2
      let lo := bandLo d
      let hi := bandHi d rate fn
      let far := fun (x : Nat) => flt (fracOf 1) (fabs (fsub (f32Val x) (fracOf fn)))
      let cs := (Config.ssoComponents n lo hi f w).filter fun c => inBand lo hi c.1 && far c.1 && f32Finite c.2 && decide (c.2 < 2 ^ 31)
      let ord := cs.foldl (fun (acc : List (Nat × Nat)) e => acc.takeWhile (fun x => fle (f32Val e.2) (f32Val x.2)) ++ e
        :: acc.dropWhile (fun x => fle (f32Val e.2) (f32Val x.2))) []
      some ((ord.take n).map fun c => (c.1, f32Of (fdiv (fmul (f32Val c.2) (fracOf 100)) (f32Val m))))
  | _, _ => none

/-- One channel's criterion at an instance. -/
def ssoChan (d : DetDef) (rate fn : Nat) (t : Instant) (view : List ChanView) (i : Nat) (r : DetRun) :
    DetRun × List DetRec × Option DetRec :=
  let k := d.kblk
  let c := mgetD r.crits i {}
  let v := available d view (cidAt k 24 i)
  let w := ssoWindow r rate (slotsOf rate fn 2) t i
  match v, w, (match v, w with
    | some v, some w => ssoComps d rate fn v w.2
    | _, _ => none) with
  | some v, some w, some cs =>
    let a2 := f32Or (fld k 12 4) (fracOf 1)
    let t3 := fld k 16 4
    let hy := f32Or (fld k 20 4) (fmin { num := 2, den := 10 } (half a2))
    let (f, amp) := cs.headD (0, 0)
    let (c', run, _) := thresholdRule c (f32Val amp) a2 (f32Val t3) hy 1 (slotsOf rate fn (orN (fld k 1 1) 25)) 0
    let c' := { c' with value1 := amp, value2 := f }
    let (rr, st) := critRec c.level c' i (inputFlags [v] ||| w.1) amp f f (threshOf c.level c'.level (f32Of a2) t3)
      (some (cidAt k 24 i)) none run cs.length
    ({ r with crits := mput r.crits i c' }, rr, some st)
  | _, _, _ => ({ r with crits := mput r.crits i (critBreak c) }, [], none)

def evalSso (d : DetDef) (rate fn : Nat) (t : Instant) (view : List ChanView) (r : DetRun) : DetEval :=
  let n := fld d.kblk 2 2
  let r := { r with waves := wavesPut r t ((List.range n).map fun i => waveBlock view (cidAt d.kblk 24 i)) (slotsOf rate fn 2) }
  let (r, rs, sts) := (List.range n).foldl (fun (x : DetRun × List DetRec × List DetRec) i =>
    let (r, rs, st) := ssoChan d rate fn t view i x.1
    (r, x.2.1 ++ rs, x.2.2 ++ st.toList)) (r, [], [])
  if sts.isEmpty then noEval r
  else { ok := true, flags := orFlags (sts.map (·.flags)), run := r, recs := rs, status := sts, report := [] }

/-! ## D-OSC and D-FOSC: the stored history (07 R179, R182) -/

/-- What a kernel of D-OSC or D-FOSC watches: its channels, REF_CID, whether it watches angles, and its samples per second. -/
structure Watch where
  cids : List Nat
  ref : Nat
  angle : Bool
  r : Nat
deriving DecidableEq, Repr

def watchOf (d : DetDef) (rate : Nat) : Watch :=
  let k := d.kblk
  if d.kernel = 1 then
    { cids := (List.range (fld k 6 2)).map (cidAt k 36), ref := fld k 32 2, angle := fld k 2 1 == 0, r := min 10 rate }
  else { cids := (List.range (fld k 26 2)).map (cidAt k 32), ref := fld k 28 2, angle := fld k 0 1 == 0, r := min 40 rate }

/-- A channel's deviation from Fnom in units of 2^-64 Hz, or its angle against REF_CID in units of 2^-64 degrees. -/
def watchValue (d : DetDef) (w : Watch) (fn : Nat) (view : List ChanView) (cid : Nat) : Option Int :=
  if w.angle then
    match (available d view cid).bind angleOf, (available d view w.ref).bind angleOf with
    | some a, some b => some (wrap64 (deg64 a - deg64 b))
    | _, _ => none
  else match (available d view cid).bind freqOf with
    | some f => if f32Finite f then some (ffloor (fmul (fsub (f32Val f) (fracOf fn)) (fracOf (2 ^ 64)))) else none
    | none => none

/-- An angle unwrapped along time: the last one seen, and the value carried on from it. -/
def unwrapStep (old : Option (Int × Int)) (v : Int) : Int × Int :=
  match old with
  | some (p, u) => (v, u + wrap64 (v - p))
  | none => (v, v)

/-- The newest value in stored units, 0.01° or 0.1 mHz, rounded to the nearest; none where 16 bits do not hold it. -/
def storedValue (w : Watch) (x mean : Int) : Option Int :=
  let v := rheDiv ((x - mean) * (if w.angle then 100 else 10000)) (2 ^ 64)
  if -32768 ≤ v ∧ v ≤ 32767 then some v else none

/-- The sample that an instance completes, by number: the grid of r samples a second passes one of its instants (07 R179). -/
def sampleAt (w : Watch) (rate : Nat) (t : Instant) : Option Nat :=
  let j := gridFloor rate t
  if j * w.r / rate = (j - 1) * w.r / rate then none else some (j * w.r / rate)

/-- The values of an instance join the last second of inputs, and a sample that it completes joins the history; with the samples
that saturate. DESIGN CHOICE: a sample is unavailable when the newest value is. -/
def collectSamples (d : DetDef) (rate fn : Nat) (t : Instant) (view : List ChanView) (r : DetRun) : DetRun × Nat :=
  let w := watchOf d rate
  let vs := w.cids.map (watchValue d w fn view)
  let un := (List.range vs.length).map fun i => match vs.getD i none with
    | some v => some (unwrapStep (r.unwrap.getD i none) v)
    | none => r.unwrap.getD i none
  let xs : List (Option Int) := (List.range vs.length).map fun i => match vs.getD i none with
    | some v => some (if w.angle then ((un.getD i none).getD (0, v)).2 else v)
    | none => none
  let ins := r.inputs.filter (fun e => decide (e.1 < t) && decide (t < e.1 + secU)) ++ [(t, xs)]
  let r := { r with inputs := ins, unwrap := un }
  match sampleAt w rate t with
  | none => (r, 0)
  | some m =>
    let one := fun (i : Nat) => if (xs.getD i none).isNone then (none, false) else
      let v := storedValue w (Config.resample rate w.r (m % w.r) (ins.map fun e => e.2.getD i none))
        (if w.angle then r.means.getD i 0 else 0)
      (v, v.isNone)
    let all := (List.range vs.length).map one
    ({ r with samples := r.samples.filter (fun e => decide (m < e.m + winS d * w.r) && decide (e.m < m))
                         ++ [{ m := m, vals := all.map (·.1), means := r.means }] },
     (all.filter (·.2)).length)

/-- The value at a place between two, g values lying between them. -/
def between (a b : Int) (g i : Nat) : Int := a + (b - a) * (i + 1 : Nat) / (g + 1 : Nat)

/-- Gaps of at most 5 values are filled by linear interpolation; last is the value before a gap of g so far. -/
def gapFill : Option Int → Nat → List (Option Int) → List (Option Int)
  | _, g, [] => List.replicate g none
  | last, g, none :: xs => gapFill last (g + 1) xs
  | last, g, some v :: xs =>
    (match last with
      | some a => if g ≤ 5 then (List.range g).map fun i => some (between a v g i) else List.replicate g none
      | none => List.replicate g none) ++ some v :: gapFill (some v) 0 xs

/-- A channel's samples of numbers first to first + n − 1, in 1/60 of the stored unit, with short gaps filled. -/
def chanWindow (r : DetRun) (first n i : Nat) : List (Option Int) :=
  gapFill none 0 ((List.range n).map fun x => match r.samples.find? (fun e => e.m == first + x) with
    | some e => (e.vals.getD i none).map (· * 60)
    | none => none)

/-- The channels of a window of n samples with at most 5 % left unavailable, by position. DEDUCED: what is left once the short gaps
are filled counts. -/
def usedWindow (r : DetRun) (nch first n : Nat) : List (Nat × List (Option Int)) :=
  ((List.range nch).map fun i => (i, chanWindow r first n i)).filter fun e =>
    decide (20 * (e.2.filter (·.isNone)).length ≤ n)

/-- The window at an output instant: the last WIN_S seconds, or what there is since the instance started. -/
def windowOf (d : DetDef) (w : Watch) (rate : Nat) (t : Instant) (r : DetRun) : Nat × Nat :=
  let top := t / secU * w.r
  let start := ceilDiv (gridFloor rate (r.since.getD t) * w.r) rate
  let n := min (winS d * w.r) (top + 1 - start)
  (top + 1 - n, n)

/-- The mean of each channel over a window, in units of 2^-64 degrees, for the samples stored until the next output. -/
def windowMeans (w : Watch) (first n : Nat) (r : DetRun) : List Int :=
  (List.range w.cids.length).map fun i =>
    let vs := r.samples.filterMap fun e => if first ≤ e.m ∧ e.m < first + n then
      (e.vals.getD i none).map fun v => v * 2 ^ 64 / 100 + e.means.getD i 0 else none
    if vs.isEmpty then r.means.getD i 0 else vs.foldl (· + ·) 0 / (vs.length : Int)

/-- An estimate as it is used: its band, its channels by CID, strongest first. -/
def takeEst (d : DetDef) (rate fn : Nat) (w : Watch) (used : List Nat) (e : ModeEst) : Option ModeEst :=
  let sh := e.shape.filter fun x => used.contains x.1
  let ord := (sortBy (fun x => 65535 - min 65535 x.2.1) sh).map fun x => (w.cids.getD x.1 0, min 65535 x.2.1, x.2.2)
  if inBand (bandLo d) (bandHi d rate fn) e.freq then ord.head?.map fun x => { e with cid := x.1, shape := ord } else none

/-- A ring-down starts: the band energy of the last second reaches RD_FACTOR times the median of the window's 1-s energies. -/
def ringStarts (d : DetDef) (rate fn : Nat) (w : Watch) (n : Nat) (win : List (Nat × List (Option Int))) : Bool :=
  let en := fun (k : Nat) => fracOf (Config.bandEnergy (bandLo d) (bandHi d rate fn) w.r
    (win.map fun e => (e.2.drop (n - (k + 1) * w.r)).take w.r))
  match median ((List.range (n / w.r)).map en) with
  | some m => fle (fmul (f32Or (fld d.kblk 28 4) (fracOf 10)) m) (en 0)
  | none => false

/-- The ring-down phase of an output instant: 0 none, 1 within [t_e, t_e + 20 s), 2 the estimate after it; with the t_e that
stands (07 R179). DEDUCED: t_e is an output instant. -/
def ringPhase (method : Nat) (starts : Bool) (t : Instant) (at_ : Option Instant) : Nat × Option Instant :=
  match at_ with
  | some e => if t < e + 20 * secU then (1, some e) else (2, none)
  | none => if method ≠ 1 ∧ starts then (1, some t) else (0, none)

/-! ## D-OSC and D-FOSC: tracking and levels (07 R179-R183) -/

/-- An estimate's frequency lies near a tracked one: within 10 % of it (D-OSC) or within a width in Hz (D-FOSC). -/
def nearFreq (rel : Bool) (width : Frac) (tracked est : Nat) : Option Frac :=
  let dlt := fabs (fsub (f32Val tracked) (f32Val est))
  let lim := if rel then fmul (f32Val tracked) { num := 1, den := 10 } else width
  if fle dlt lim then some dlt else none

/-- The tracked index nearest in frequency to an estimate, among those not yet matched. -/
def nearest (rel : Bool) (width : Frac) (crits : Map Crit) (done_ : List Nat) (f : Nat) : Option Nat :=
  (crits.foldl (fun (o : Option (Nat × Frac)) e =>
    if !e.2.tracked || done_.contains e.1 then o else
      match nearFreq rel width e.2.value2 f with
      | none => o
      | some x => match o with
        | some b => if flt x b.2 then some (e.1, x) else o
        | none => some (e.1, x)) none).map (·.1)

/-- Estimates in order of decreasing energy. -/
def byEnergy (l : List ModeEst) : List ModeEst :=
  l.foldl (fun acc e => acc.takeWhile (fun x => fle (f32Val e.energy) (f32Val x.energy)) ++ e
    :: acc.dropWhile (fun x => fle (f32Val e.energy) (f32Val x.energy))) []

/-- Match estimates to indices: tracked ones first, then the lowest free index of n. -/
def matchModes (rel : Bool) (width : Frac) (n : Nat) (crits : Map Crit) (ests : List ModeEst) : List (Nat × ModeEst) :=
  let es := byEnergy ests
  let (got, left) := es.foldl (fun (x : List (Nat × ModeEst) × List ModeEst) e =>
    match nearest rel width crits (x.1.map (·.1)) e.freq with
    | some i => (x.1 ++ [(i, e)], x.2)
    | none => (x.1, x.2 ++ [e])) ([], [])
  left.foldl (fun got e =>
    match (List.range n).find? (fun i => !(mgetD crits i {}).tracked && !(got.map (·.1)).contains i) with
    | some i => got ++ [(i, e)]
    | none => got) got

/-- One mode index at an output instant (07 R180). damping says whether damping conditions are evaluated; part that the output is
PARTIAL. An ALARM falls when every condition that holds it has failed at HOLD_S consecutive output instants. -/
def oscCrit (k : Bytes) (damping part : Bool) (c : Crit) (est : Option ModeEst) : Crit × Nat :=
  let hold := orN (fld k 3 1) 60
  let z2 := f32Or (fld k 16 4) { num := 5, den := 100 }
  let z3 := f32Or (fld k 20 4) { num := 3, den := 100 }
  let ampTh := fld k 24 4
  match est with
  | none =>
    if !c.tracked then (c, 0)
    else if hold ≤ c.unmatched + 1 then ({ level := 0 }, 0)
    else ({ critBreak c with unmatched := c.unmatched + 1 }, 0)
  | some e =>
    let c := if c.tracked then c else { tracked := true }
    let z := f32Val e.value
    let amp := f32Val e.amp
    let ampOn := decide (ampTh ≠ 0) && fle (f32Val ampTh) amp
    let ampGone := flt amp (fmul (f32Val ampTh) { num := 8, den := 10 })
    let up := fun th => fadd th { num := 1, den := 100 }
    let step := fun (on : Bool) (n : Nat) => if damping then (if on then n + 1 else 0) else n
    let c := { c with
      unmatched := 0, value1 := e.value, value2 := e.freq, aux := e.energy, cid := e.cid
      run2 := step (flt z z2) c.run2, run3 := step (flt z z3) c.run3
      clr := step (fle (up (if c.level = 3 then z3 else z2)) z) c.clr
      clrA := if ampGone then c.clrA + 1 else 0 }
    let damp3 := damping && decide (hold ≤ c.run3)
    let c := if c.level = 3 then { c with byAmp := c.byAmp || ampOn, byDamp := c.byDamp || damp3 } else c
    let off := if c.level = 3 then (!c.byDamp || decide (hold ≤ c.clr)) && (!c.byAmp || decide (hold ≤ c.clrA)) else decide (hold ≤ c.clr)
    if c.level < 3 ∧ (ampOn ∨ damp3) then
      ({ c with level := 3, clr := 0, clrA := 0, byAmp := ampOn, byDamp := damp3 }, if damp3 then c.run3 else 1)
    else if c.level < 2 ∧ damping ∧ hold ≤ c.run2 then ({ c with level := 2, clr := 0 }, c.run2)
    else if 0 < c.level ∧ off then
      ({ c with level := if c.level = 3 ∧ !part ∧ !fle (up z2) z then 2 else 0, clr := 0, clrA := 0, byAmp := false, byDamp := false },
       if c.level ≠ 3 ∨ !c.byAmp then c.clr else if !c.byDamp then c.clrA else min c.clr c.clrA)
    else (c, 0)

/-- One line index at an output instant (07 R183). -/
def foscCrit (k : Bytes) (c : Crit) (est : Option ModeEst) : Crit × Nat :=
  let nSet := orN (fld k 24 1) 3
  let nClr := orN (fld k 25 1) 10
  let ampAl := fld k 20 4
  match est with
  | none =>
    if !c.tracked then (c, 0)
    else if nClr ≤ c.clr + 1 then ({ level := 0 }, c.clr + 1)
    else ({ c with run2 := 0, clr := c.clr + 1 }, 0)
  | some e =>
    let c := if c.tracked then c else { tracked := true }
    let c := { c with run2 := c.run2 + 1, clr := 0, value1 := e.amp, value2 := e.freq, aux := e.value, cid := e.cid }
    let on := decide (c.level ≠ 0) || decide (nSet ≤ c.run2)
    let lv := if !on then c.level else if ampAl ≠ 0 ∧ fle (f32Val ampAl) (f32Val e.amp) then 3 else 2
    ({ c with level := lv }, c.run2)

/-- A mode report (07 R181). -/
def modeReport (det : Nat) (t : Instant) (part ring : Bool) (used : Nat) (ms : List (Nat × ModeEst)) : Bytes :=
  let one := fun (e : Nat × ModeEst) =>
    let sh := (e.2.shape.take 64).map fun x => le 2 x.1 ++ le 2 x.2.1 ++ le 2 (unsgn 16 x.2.2) ++ zeros 2
    le 1 e.1 ++ le 1 sh.length ++ zeros 2 ++ le 4 e.2.freq ++ le 4 e.2.value ++ le 4 e.2.energy ++ sh.flatten
      ++ zeros (512 - 8 * sh.length)
  withCrc (le 1 0x4D ++ le 1 ms.length ++ le 2 det ++ stampBytes t ++ le 1 (b2n part + b2n ring * 2) ++ le 1 (used - 1)
    ++ zeros 2 ++ (ms.map one).flatten)

/-- D-OSC and D-FOSC keep, second by second, the input flags of the samples they store (07 R164, R179). -/
def collectFlags (d : DetDef) (t : Instant) (view : List ChanView) (r : DetRun) : DetRun :=
  let k := d.kblk
  let (nch, off, ref, angle) := if d.kernel = 1 then (fld k 6 2, 36, fld k 32 2, fld k 2 1 == 0)
    else (fld k 26 2, 32, fld k 28 2, fld k 0 1 == 0)
  let cids := (List.range nch).map (cidAt k off) ++ if angle then [ref] else []
  let f := inputFlags (cids.filterMap (available d view))
  let old := match r.secFlags.find? (fun e => e.1 == t / secU) with
    | some e => e.2
    | none => 0
  { r with secFlags := r.secFlags.filter (fun e => decide (t / secU < e.1 + winS d + 1) && e.1 != t / secU)
                       ++ [(t / secU, old ||| f)] }

/-- The input flags of an output's window, the last WIN_S seconds. -/
def windowFlags (d : DetDef) (t : Instant) (r : DetRun) : Nat :=
  orFlags ((r.secFlags.filter fun e => decide (e.1 < t / secU + 1) && decide (t / secU ≤ e.1 + winS d)).map (·.2))

/-- What an output instant of D-OSC estimates: the channels used, the ring-down phase, the estimates, and the running state with the
ring-down and the last ambient estimates (07 R179). -/
def oscEstimate (d : DetDef) (rate fn : Nat) (t : Instant) (r : DetRun) : Nat × Nat × List ModeEst × DetRun :=
  let w := watchOf d rate
  let (first, n) := windowOf d w rate t r
  let win := usedWindow r w.cids.length first n
  let old := decide (60 * secU ≤ t - r.since.getD t)
  let (phase, at_) := ringPhase (fld d.kblk 1 1) (old && ringStarts d rate fn w n win) t r.ringAt
  let tidy := fun (win : List (Nat × List (Option Int))) (l : List ModeEst) =>
    l.filterMap (takeEst d rate fn w (win.map (·.1)))
  let ests :=
    if !old then []
    else if phase = 1 then r.est
    else if phase = 2 then
      let fit := usedWindow r w.cids.length (r.ringAt.getD 0 / secU * w.r) (20 * w.r)
      tidy fit (Config.ringdownModes d.kblk (bandLo d) (bandHi d rate fn) w.r fit)
    else if fld d.kblk 1 1 = 2 then []
    else tidy win (Config.ambientModes d.kblk (bandLo d) (bandHi d rate fn) w.r win)
  (win.length, phase, ests, { r with ringAt := at_, ringdown := phase != 0, means := windowMeans w first n r
                                     est := if phase = 0 then ests else r.est })

/-- D-OSC at an output instant (07 R179-R181). -/
def evalOsc (det : Nat) (d : DetDef) (rate fn : Nat) (t : Instant) (r : DetRun) : DetEval :=
  let k := d.kblk
  let (used, phase, ests, next) := oscEstimate d rate fn t r
  if used < 2 then noEval { r with means := next.means }
  else
    let part := detPartial d next t
    let got := matchModes true (fracOf 0) (orN (fld k 0 1) 4) next.crits ests
    let z2 := f32Of (f32Or (fld k 16 4) { num := 5, den := 100 })
    let z3 := f32Of (f32Or (fld k 20 4) { num := 3, den := 100 })
    let cb := if fld k 2 1 = 0 then some (fld k 32 2) else none
    let fs := windowFlags d t next
    let (r, rs, sts) := (List.range 8).foldl (fun (x : DetRun × List DetRec × List DetRec) i =>
      let c := mgetD x.1.crits i {}
      let e := (got.find? (fun g => g.1 == i)).map (·.2)
      let (c', run) := oscCrit k (!part && phase != 1) part c e
      let src := if e.isSome then c' else c
      let (rr, st) := critRec c.level c' i fs src.value1 src.value2 src.value2 (threshOf c.level c'.level z2 z3) (some src.cid) cb
        run src.aux
      ({ x.1 with crits := mput x.1.crits i c' }, x.2.1 ++ rr, if c'.tracked then x.2.2 ++ [st] else x.2.2)) (next, [], [])
    { ok := true, flags := fs, run := r, recs := rs, status := sts
      report := if d.oq = 0xFF then [] else [modeReport det t part (phase != 0) used (sortBy (·.1) got)] }

/-- F_TH as applied (07 R182, R186). -/
def fThOf (d : DetDef) (rate fn : Nat) : Nat :=
  if fld d.kblk 12 4 = 0 then
    Config.defaultFTh (orN (fld d.kblk 1 1) 5) (winS d) (fld d.kblk 26 2) (bandLo d) (bandHi d rate fn)
  else fld d.kblk 12 4

/-- The larger of two float32 patterns. -/
def f32Max (a b : Nat) : Nat := if f32Lt a b then b else a

/-- A line detected at a frequency of the band: the F-statistic of some channel reaches F_TH, and the peak amplitude AMP_MIN
(07 R182). Its strongest channel is the one of largest amplitude. -/
def foscLine (d : DetDef) (rate fn fTh : Nat) (w : Watch) (used : List Nat) (l : Nat × List (Nat × Nat × Nat)) : Option ModeEst :=
  let cs := l.2.filter fun c => used.contains c.1
  let f := cs.foldl (fun m c => f32Max m c.2.1) 0
  let top := cs.foldl (fun (m : Option (Nat × Nat × Nat)) c => match m with
    | some x => if f32Lt x.2.2 c.2.2 then some c else m
    | none => some c) none
  match top with
  | some c =>
    if inBand (bandLo d) (bandHi d rate fn) l.1 ∧ fle (f32Val fTh) (f32Val f) ∧ fle (f32Val (fld d.kblk 16 4)) (f32Val c.2.2) then
      some { freq := l.1, value := f, energy := c.2.2, amp := c.2.2, cid := w.cids.getD c.1 0, shape := [] }
    else none
  | none => none

/-- D-FOSC at an output instant (07 R182, R183). -/
def evalFosc (d : DetDef) (rate fn : Nat) (t : Instant) (r : DetRun) : DetEval :=
  let k := d.kblk
  let w := watchOf d rate
  let (first, n) := windowOf d w rate t r
  let win := usedWindow r w.cids.length first n
  let r := { r with means := windowMeans w first n r }
  if win.isEmpty then noEval r
  else
    let det := (Config.lineSpectra (orN (fld k 1 1) 5) (bandLo d) (bandHi d rate fn) w.r win).filterMap
      (foscLine d rate fn r.fTh w (win.map (·.1)))
    let got := matchModes false { num := 2, den := winS d } 8 r.crits det
    let cb := if fld k 0 1 = 0 then some (fld k 28 2) else none
    let fs := windowFlags d t r
    let (r, rs, sts) := (List.range 8).foldl (fun (x : DetRun × List DetRec × List DetRec) i =>
      let c := mgetD x.1.crits i {}
      let e := (got.find? (fun g => g.1 == i)).map (·.2)
      let (c', run) := foscCrit k c e
      let src := if e.isSome then c' else c
      let (rr, st) := critRec c.level c' i fs src.value1 src.value2 src.value2 (threshOf c.level c'.level r.fTh (fld k 20 4))
        (some src.cid) cb run src.aux
      ({ x.1 with crits := mput x.1.crits i c' }, x.2.1 ++ rr, if c'.tracked then x.2.2 ++ [st] else x.2.2)) (r, [], [])
    { ok := true, flags := fs, run := r, recs := rs, status := sts, report := [] }

/-! ## One evaluation (07 R160, R165, R171, R173) -/

/-- What an instance brings into an instance's history before it is evaluated, and the samples that saturate. -/
def detCollect (d : DetDef) (rate fn : Nat) (t : Instant) (view : List ChanView) (r : DetRun) : DetRun × Nat :=
  let r := { r with since := some (r.since.getD t) }
  if d.kernel = 1 ∨ d.kernel = 2 then collectSamples d rate fn t view (collectFlags d t view r) else (r, 0)

/-- The kernel of an instance; none at an instant at which D-OSC and D-FOSC only collect. -/
def evalKernel (det : Nat) (d : DetDef) (rate fn : Nat) (t : Instant) (view : List ChanView) (r : DetRun) : Option DetEval :=
  match d.kernel with
  | 1 => if t % secU = 0 then some (evalOsc det d rate fn t r) else none
  | 2 => if t % secU = 0 then some (evalFosc d rate fn t r) else none
  | 3 => some (evalSso d rate fn t view r)
  | 4 => some (evalIsl d rate fn t view r)
  | 5 => some (evalAng d rate fn view r)
  | _ => some (evalRoc d rate fn t view r)

/-- SIGHTED and BLIND belong to the instance: BLIND raises NOTICE from 0, and SIGHTED ends it (07 R168, R170). -/
def wholeRec (event level aux : Nat) : DetRec :=
  { event := event, level := level, prev := 0, crit := 0xFFFF, flags := 0, v1 := 0, v2 := 0, thresh := 0, cidA := none
    cidB := none, run := 0, aux := aux }

/-- The records of an evaluation, in order, with the instance's run of unevaluable instances counted (07 R165, R171). -/
def evalRecords (d : DetDef) (rate : Nat) (t : Instant) (e : DetEval) : DetRun × List DetRec :=
  let r := { e.run with lastT := some t }
  if e.ok then
    let sight := if r.blind then [{ wholeRec 5 0 r.unevalRun with prev := 1, flags := e.flags }] else []
    ({ r with blind := false, unevalRun := 0, evals := satAdd 0xFFFFFFFF r.evals 1 }, sight ++ e.recs)
  else
    let n := r.unevalRun + 1
    let r := { r with unevalRun := n, skips := satAdd 0xFFFFFFFF r.skips 1, lastT := e.run.lastT }
    if n = blindN d rate ∧ !r.blind then ({ r with blind := true }, e.recs ++ [wholeRec 4 1 n]) else (r, e.recs)

/-- Issue records in order; their packets come back. -/
def issueAll (det : Nat) (d : DetDef) (gid : Nat) (t : Instant) (rs : List DetRec) (s : State) : List (DetRec × Bytes) × State :=
  rs.foldl (fun (x : List (DetRec × Bytes) × State) r =>
    let (b, s) := issueRecord det d gid t r x.2
    (x.1 ++ [(r, b)], s)) ([], s)

/-- The highest active level and its criterion. -/
def topCrit (r : DetRun) : Nat × Nat :=
  r.crits.foldl (fun (x : Nat × Nat) e => if x.1 < e.2.level then (e.2.level, e.1) else x) (0, 0)

/-- The producer operand of an instance (07 R173). DEDUCED: with no active level a STATUS record shows the first criterion that was
evaluated. -/
def detOperand (det : Nat) (d : DetDef) (gid : Nat) (t : Instant) (ok : Bool) (issued : List (DetRec × Bytes))
    (status : List DetRec) (s : State) : Bytes :=
  match issued.foldl (fun (o : Option (DetRec × Bytes)) x => match o with
      | some y => if y.1.level < x.1.level ∨ (y.1.level = x.1.level ∧ x.1.crit < y.1.crit) then some x else o
      | none => some x) none with
  | some x => x.2
  | none =>
    let run := detRun s det
    let (lv, top) := topCrit run
    let ci := if lv ≠ 0 then top else (status.head?.map (·.crit)).getD 0
    let st := (status.find? fun r => r.crit == ci).getD { wholeRec 0 lv 0 with crit := ci }
    let st := if ok then { st with level := lv, prev := lv } else { wholeRec 0 lv 0 with crit := ci, prev := lv }
    alarmBytes det d.kernel gid run.seq (run.latch ≠ 0) (detPartial d run t) run.ringdown t (now s) st

/-- A DET task's work for an instance: the state, the packets for its queue in order, and its operand. -/
def detWork (k : TaskInst) (s : State) : State × List QPkt × Bytes × Bool :=
  let det := k.tmpl.object
  match mget (activeBank s).dets det, findInst s k.gid k.t, group s k.gid with
  | some d, some i, some g =>
    let (r, sat) := detCollect d g.rate (fnom s) k.t i.view (detRun s det)
    let s := countBy 87 sat (setDet det r s)
    match evalKernel det d g.rate (fnom s) k.t i.view r with
    | none => (s, [], detOperand det d k.gid k.t false [] [] s, true)
    | some e =>
      let (r, rs) := evalRecords d g.rate k.t e
      let s := count (if e.ok then 80 else 81) (setDet det r s)
      let (issued, s) := issueAll det d k.gid k.t rs s
      let pkts := if d.oq = 0xFF then [] else (e.report ++ issued.map (·.2)).map fun b => ({ data := b, mark := false } : QPkt)
      (s, pkts, detOperand det d k.gid k.t e.ok issued e.status s, true)
  | _, _, _ => (s, [], [], false)

/-- A release of a detector that is dropped or aborted is an unevaluable instance; Belvedere issues a BLIND record itself,
and its packet does not wait (07 R165). -/
def detDropped (k : TaskInst) (s : State) : State :=
  let det := k.tmpl.object
  match mget (activeBank s).dets det, group s k.gid with
  | some d, some g =>
    let (r, rs) := evalRecords d g.rate k.t (noEval (detRun s det))
    let s := count 81 (setDet det r s)
    let (issued, s) := issueAll det d k.gid k.t rs s
    if d.oq = 0xFF then s else issued.foldl (fun s x => oqNoWait d.oq 1 { data := x.2, mark := false } s) s
  | _, _ => s

/-! ## DET_ACK, start and stop (07 R168, R189) -/

/-- DET_ACK clears a latch, or every latch with 0xFFFF. -/
def detAckLatch (det : Nat) (s : State) : State :=
  alarmPin { s with dets := mmap s.dets fun i r => if i = det ∨ det = 0xFFFF then { r with latch := 0 } else r }

/-- The template of a detector, with its group's rate. -/
def detTmpl (b : Bank) (det : Nat) : Option (Template × Nat) :=
  match b.templates.find? fun e => e.2.type == 1 && e.2.object == det with
  | some (_, t) => some (t, (mgetD b.groups t.gid { rate := 0, wUs := 0, policy := 0, sids := [], prods := [] }).rate)
  | none => none

/-- Every instance of a bank starts anew (07 R189). -/
def freshDet (d : DetDef) (rate fn : Nat) : DetRun := { fTh := if d.kernel = 2 then fThOf d rate fn else 0 }

/-- An instance of a bank defined anew. -/
def newDet (b : Bank) (det : Nat) (d : DetDef) : DetRun :=
  freshDet d ((detTmpl b det).map (·.2) |>.getD 0) ((b.sched.map (·.fnom)).getD 50)

/-- A detector goes on across a swap: its parameters, its template and its group's rate are the same (07 R189). -/
def detSame (old new : Bank) (det : Nat) : Bool :=
  mget old.dets det == mget new.dets det && detTmpl old det == detTmpl new det

/-- STOP clears every latch; a release of ALARM_N is recorded at severity 3. -/
def detStop (s : State) : State :=
  let was := s.pins.alarm
  let s := detAckLatch 0xFFFF s
  if was then note 3 5 nmAlarmReleased 0 0 0 s else s

end Sys2Proof.Machine
end

