-- ==== Sys2Proof/Machine/Outputs.lean ====
section
/-! DEFINITION. Output streams and publications: data frames, their STAT words, R-GOOSE states, PUBLISH issues and
retransmission (12 R328, R331-R337; 03 R71). -/

namespace Sys2Proof.Machine

/-! ## Values of a declared type (08 R192, R197) -/

/-- A value before its conversion: a float32 pattern or an integer. -/
inductive SrcVal where
  | flt (bits : Nat)
  | int (v : Int)
deriving DecidableEq, Repr

/-- A type's least and greatest value, for the types that hold integers; TIME counts ns (08 R192). -/
def typeRange (ty : Nat) : Option (Int × Int) :=
  match ty with
  | 1 => some (0, 1)
  | 2 => some (-32768, 32767)
  | 3 => some (-2147483648, 2147483647)
  | 4 => some (0, 65535)
  | 5 => some (0, 4294967295)
  | 8 => some (-(2 ^ 63), 2 ^ 63 - 1)
  | 9 => some (0, 65535)
  | 10 => some (0, 4294967295)
  | _ => none

/-- The float64 pattern of a float32 value: the exact value, its exponent rebased. -/
def f64OfF32 (b : Nat) : Nat :=
  let sign := b / 2 ^ 31 * 2 ^ 63
  let e := b / 2 ^ 23 % 256
  let m := b % 2 ^ 23
  if e = 255 then sign + 2047 * 2 ^ 52 + m * 2 ^ 29
  else if e ≠ 0 then sign + (e + 896) * 2 ^ 52 + m * 2 ^ 29
  else if m = 0 then sign
  else
    let k := Nat.log2 m
    sign + (k + 874) * 2 ^ 52 + (m - 2 ^ k) * 2 ^ (52 - k)

/-- The float64 pattern of an integer below 2^53 in magnitude. -/
def f64OfInt (v : Int) : Nat :=
  let n := v.natAbs
  if n = 0 then 0 else
    let k := Nat.log2 n
    b2n (decide (v < 0)) * 2 ^ 63 + (k + 1023) * 2 ^ 52 + (n - 2 ^ k) * 2 ^ (52 - k)

/-- Conversion to a type: rounded half to even and saturated; a NaN gives FALSE or 0 (08 R197). The result is a VALUE field
of 8 bytes (08 R192). -/
def convVal (ty : Nat) (v : SrcVal) : Nat :=
  match typeRange ty with
  | some (lo, hi) =>
    let i : Int := match v with
      | .int i => i
      | .flt b => if f32IsNaN b then 0 else if f32Finite b then rheFrac (f32Val b) else if b < 2 ^ 31 then hi else lo
    unsgn 64 (max lo (min hi i))
  | none =>
    if ty = 6 then (match v with
      | .flt b => b
      | .int i => f32OfInt i)
    else match v with
      | .flt b => f64OfF32 b
      | .int i => f64OfInt i

/-! ## Blocks of a data frame (12 R332, R334) -/

/-- One field of an output block: its channel (none for a field sent as 0), FIELD and SCALE. -/
structure OutItem where
  cid : Option Nat
  field : Nat
  scale : Nat
deriving DecidableEq, Repr

/-- FIELD of a channel by its kind. -/
def fieldOfKind (k : Nat) : Nat := if k = 5 then 0 else k

/-- The items of a block, in field order. -/
def blockItems (b : Bank) (k : OutBlock) : List OutItem :=
  if !k.entries.isEmpty then
    let xs := k.entries.map fun e =>
      ({ cid := if bit e.eflags 0 then none else some e.cid, field := e.field, scale := e.scale } : OutItem)
    -- a block without a DFREQ entry keeps the field of C37.118's layout, sent as 0
    if xs.any (·.field == 2) then xs
    else xs.filter (decide <| ·.field < 2) ++ [{ cid := none, field := 2, scale := 0 }] ++ xs.filter (decide <| 2 < ·.field)
  else
    let cs := (chansOf b k.sid).filter fun e => chanAlign e.2 && e.2.block == k.inblk
    let of := fun f => (cs.filter fun e => fieldOfKind e.2.kind == f).map fun e =>
      ({ cid := some e.1, field := f, scale := e.2.scale } : OutItem)
    match cs.find? (fun e => e.2.kind == 5) with
    | some e => of 0 ++ [{ cid := some e.1, field := 1, scale := e.2.scale }, { cid := none, field := 2, scale := e.2.scale }]
    | none =>
      let dfreq := if (of 2).isEmpty then [({ cid := none, field := 2, scale := 0 } : OutItem)] else of 2
      of 0 ++ of 1 ++ dfreq ++ of 3 ++ of 4

/-- The format of a field in an output block (04 R96, from FORMAT[3:0]). -/
def itemFmt (fmt field : Nat) : Nat :=
  match field with
  | 0 => if bit fmt 1 then (if bit fmt 0 then 4 else 3) else (if bit fmt 0 then 2 else 1)
  | 3 => if bit fmt 2 then 6 else 5
  | 4 => 7
  | _ => if bit fmt 3 then 6 else 5

/-- The field is converted in format, or in an int16 format in scale (12 R335). -/
def itemConverted (c : ChannelDef) (f scale : Nat) : Bool :=
  if c.kind = 5 then !(f == 3 || f == 4 || f == 6)
  else f != c.format || ((f == 1 || f == 2 || f == 5) && scale != c.scale)

/-- A float32 quotient, rounded half to even and saturated to [-32767, 32767]. -/
def int16Of (v scale : Nat) (off : Frac) : Nat :=
  if f32IsNaN v then 0x8000
  else if !f32Finite v then unsgn 16 (if decide (v < 2 ^ 31) = decide (scale < 2 ^ 31) then 32767 else -32767)
  else unsgn 16 (max (-32767) (min 32767 (rheFrac (fdiv (fsub (f32Val v) off) (f32Val scale)))))

/-- The magnitude field of an int16 polar phasor. -/
def magOf (m scale : Nat) : Nat :=
  if f32IsNaN m then 0x8000
  else if !f32Finite m then 32767
  else (max 0 (min 32767 (rheFrac (fdiv (f32Val m) (f32Val scale))))).toNat

/-- FS of an AQ32 word (12 R334): SCALE, or 0.9 × NOMINAL in a block with NCID 0. -/
def aqScale (explicit : Bool) (c : ChannelDef) (scale : Nat) : Nat :=
  if explicit then scale else f32MulFrac { num := 9, den := 10 } c.nominal

/-- The raw words of a field that is forwarded bit for bit (04 R98). -/
def rawWords (f : Nat) (x : Bytes) : List Nat :=
  match f with
  | 1 => [fldBe x 0 2, fldBe x 2 2]
  | 2 => [fldBe x 0 2, fldBe x 2 2]
  | 3 => [fldBe x 0 4, fldBe x 4 4]
  | 4 => [fldBe x 0 4, fldBe x 4 4]
  | 6 => [fldBe x 0 4]
  | _ => [fldBe x 0 2]

/-- A field without a valid value (12 R334). -/
def missingWords (f : Nat) : List Nat :=
  match f with
  | 1 => [0x8000, 0x8000]
  | 2 => [0x8000, 0x8000]
  | 3 => [f32NaN, f32NaN]
  | 4 => [f32NaN, f32NaN]
  | 5 => [0x8000]
  | 6 => [f32NaN]
  | _ => [0]

/-- A field's words from the presented value, and whether an AQ32 magnitude saturated. fn is Fnom. -/
def itemWords (b : Bank) (fn : Nat) (i : GroupInst) (aq explicit : Bool) (fmt : Nat) (x : OutItem) : List Nat × Bool :=
  let f := itemFmt fmt x.field
  match x.cid with
  | none => ((if f = 6 then [0] else [0]), false)
  | some cid =>
    match mget b.channels cid, viewOf i.view cid with
    | some c, some v =>
      let valid := qbit v.qual 0
      if aq ∧ x.field = 0 then
        let (m, a) := (polarOf v.val).getD (f32NaN, f32NaN)
        let (w, sat) := aq32 (valid && !f32IsNaN m) m a (aqScale explicit c x.scale)
        ([w], sat)
      else if !valid then (missingWords f, false)
      else
        let raw : Option Bytes :=
          if qbit v.qual 4 || c.kind == 5 || f != c.format || x.scale != c.scale then none
          else match i.ops.find? (fun o => o.key == c.sid), mget b.streams c.sid with
            | some o, some d => match o.data with
              | .frame bytes => some (chanBytes d c bytes)
              | _ => none
            | _, _ => none
        match raw with
        | some r => (rawWords f r, false)
        | none =>
          let off := if x.field = 1 then fracOf fn else if x.field = 3 then f32Val c.nominal else fracOf 0
          match f with
          | 1 => let (re, im) := (rectOf v.val).getD (f32NaN, f32NaN)
                 ([int16Of re x.scale (fracOf 0), int16Of im x.scale (fracOf 0)], false)
          | 2 => let (m, a) := (polarOf v.val).getD (f32NaN, f32NaN)
                 ([magOf m x.scale, if f32Finite a then unsgn 16 (max (-32767) (min 32767 (rheFrac
                    (fmul (f32Val a) (fracOf 10000))))) else 0x8000], false)
          | 3 => let (re, im) := (rectOf v.val).getD (f32NaN, f32NaN)
                 ([re, im], false)
          | 4 => let (m, a) := (polarOf v.val).getD (f32NaN, f32NaN)
                 ([m, a], false)
          | 5 => ([int16Of ((scalarOf v.val).getD f32NaN) x.scale off], false)
          | 6 => ([(scalarOf v.val).getD f32NaN], false)
          | _ => (match v.val with
            | .raw w => ([w % 65536], false)
            | _ => ([0], false))
    | _, _ => (missingWords f, false)

/-- STAT[8:6] and STAT[5:4] (12 R335). -/
def statTime (s : State) : Nat :=
  match s.tb.state with
  | .locked => 64
  | .freerun => 7 * 64 + 3 * 16
  | .holdover =>
    let e := (estErr s).getD 0
    let q := match ((List.range 5).map (· + 2)).find? (fun c => decide (e ≤ 1000 * 10 ^ (c - 2))) with
      | some c => c
      | none => 7
    let h := (now s - s.tb.holdFrom) / secU
    q * 64 + (if h < 10 then 0 else if h < 100 then 1 else if h < 1000 then 2 else 3) * 16

/-- A block's STAT word (12 R335). -/
def statWord (s : State) (b : Bank) (i : GroupInst) (aq : Bool) (k : OutBlock) (items : List OutItem) : Nat :=
  let vs := items.filterMap fun x => x.cid.bind (viewOf i.view)
  let absent := !(i.ops.any fun o => o.key == k.sid)
  let conv := items.any fun x => match x.cid with
    | some cid => match mget b.channels cid with
      | some c => itemConverted c (itemFmt k.format x.field) x.scale
      | none => false
    | none => false
  (if absent || vs.any (qbit ·.qual 2) then 2 else if vs.any (!qbit ·.qual 0) then 3 else 0) * 2 ^ 14
    + b2n (vs.any (qbit ·.qual 1)) * 2 ^ 13 + b2n (vs.any (qbit ·.qual 8)) * 2 ^ 11
    + b2n (conv || aq || vs.any (qbit ·.qual 4)) * 2 ^ 9 + statTime s

/-- Bytes of each word of a field (04 R96; 10 R286). -/
def wordWidth (aq : Bool) (fmt field : Nat) : Nat :=
  let f := itemFmt fmt field
  if (aq ∧ field = 0) ∨ f = 3 ∨ f = 4 ∨ f = 6 then 4 else 2

/-- The data frame of an instance, and its saturated AQ32 words (12 R334). -/
def buildFrame (s : State) (out rate : Nat) (d : OutDef) (i : GroupInst) : OutFrame × Nat :=
  let b := activeBank s
  let aq := bit d.flags 0
  let parts := d.blocks.map fun k =>
    let items := blockItems b k
    let ws := items.map fun x =>
      let (ws, sat) := itemWords b (fnom s) i aq (!k.entries.isEmpty) k.format x
      (ws.map fun w => ({ width := wordWidth aq k.format x.field, bits := w } : OutField), sat)
    (statWord s b i aq k items, ws)
  ({ out := out, idcode := d.idcode, soc := socOf s i.t, fracsec := gridFloor rate i.t % rate * d.tbConf / rate
     tq := tqByte s i.t, blocks := parts.map fun p => (p.1, (p.2.map (·.1)).flatten) },
   lsum parts (fun p => (p.2.filter (·.2)).length))

/-- The frame on the wire: SYNC 0xAA02, FRAMESIZE, IDCODE, SOC, time quality and FRACSEC, the blocks with their STAT, CHK (12 R334).
PRESUMED: the order and the check word of IEEE C37.118.2. -/
def frameBytes (f : OutFrame) : Bytes :=
  let body := (f.blocks.map fun b => be 2 b.1 ++ (b.2.map fun x => be x.width x.bits).flatten).flatten
  let x := be 2 0xAA02 ++ be 2 (16 + body.length) ++ be 2 f.idcode ++ be 4 f.soc ++ be 1 f.tq ++ be 3 f.fracsec ++ body
  x ++ be 2 (crcCcitt x)

/-! ## Sending (03 R71; 12 R328, R331, R334) -/

def outRun (s : State) (n : Nat) : OutRun := mgetD s.outRuns n {}

def setOutRun (n : Nat) (r : OutRun) (s : State) : State := { s with outRuns := mput s.outRuns n r }

/-- The output has PUBLISH issues in the active schedule; out is its number with the kind in bit 8. -/
def hasIssues (s : State) (out : Nat) : Bool := match sched s with
  | some i => i.entries.any fun e => e.action == 7 && e.target == out
  | none => false

/-- An output's frame leaves: on its port or on its pair, with its egress stamps; at its PUBLISH instant ahead of what the
port holds back. -/
def outSend (publish : Bool) (out : Nat) (d : OutDef) (cls len : Nat) (m : IpMsg) (s : State) : State :=
  txOut publish (bit d.flags 1) d.port
    { cls := cls, vlan := d.vlan, dscp := d.dscp, src := none, srcUdp := d.srcUdp, dst := d.dstAddr, dstUdp := d.dstUdp, len := len
      m := m } (if bit d.flags 2 then some (0x8000 + out) else none) s

/-- What an output's ports held back before a PUBLISH instant leaves after it (03 R71). -/
def outDrain (d : OutDef) (s : State) : State :=
  if bit d.flags 1 then txDrain (pairPort d.port + 1) (txDrain (pairPort d.port) s) else txDrain d.port s

/-- A data frame leaves. -/
def sendData (publish : Bool) (d : OutDef) (f : OutFrame) (s : State) : State :=
  if emits s then outSend publish f.out d 5 (frameBytes f).length (.dataFrame f.out (frameBytes f)) s else s

/-- Whether an instance of a template is released and has not ended. -/
def taskPending (s : State) (tid : Nat) (t : Instant) : Bool :=
  let is := fun (k : TaskInst) => k.tid == tid && k.t == t
  s.disp.ready.any is || s.disp.held.any is || s.disp.cores.any fun e => e.2.queue.any is || (match e.2.running with
    | some k => is k
    | none => false)

/-- The OUTSTREAM template of an output. -/
def outTmpl (b : Bank) (out : Nat) : Option (Nat × Template) := b.templates.find? fun e => e.2.type == 3 && e.2.object == out

/-- The instance of a group whose deadline is the latest at or before an instant (12 R334). -/
def lastDue (g : GroupDef) (at_ : Instant) : Option Instant :=
  let j := gridFloor g.rate (at_ - usU g.wUs)
  ([j + 1, j, j - 1].map (gridAt g.rate)).find? fun t => decide (deadlineOf g t ≤ at_)

/-! ## R-GOOSE publications (12 R337) -/

def pub (s : State) (n : Nat) : PubRun := mgetD s.pubs n {}

def setPub (n : Nat) (r : PubRun) (s : State) : State := { s with pubs := mput s.pubs n r }

def rtMin (d : OutDef) : Nat := if d.rtMin = 0 then 4 else d.rtMin
def rtMax (d : OutDef) : Nat := if d.rtMax = 0 then 1000 else d.rtMax

/-- A message of a publication with its running state (12 R337): the locker's key ID and TYPE, which names the signature. -/
def gooseOut (s : State) (n : Nat) (d : OutDef) (r : PubRun) (ttl : Nat) : GooseOut :=
  { pub := n, appid := d.idcode, confRev := d.tbConf, goid := d.goid, gocbref := d.gocbref, datset := d.datset
    stNum := r.stNum, sqNum := r.sqNum, spdu := r.spdu, ttl := ttl, members := r.data
    auth := if d.locker = 0xFF then none else (mget s.gh.lockers d.locker).map fun l => (l.keyId, l.type) }

/-- One message of a publication: the SPDU number advances, and a locker without a key counts. The PDU's length in bytes is
left to its encoding: a free value. -/
def sendGoose (publish : Bool) (n : Nat) (d : OutDef) (ttl : Nat) (s : State) : State :=
  if !emits s then s
  else if d.locker ≠ 0xFF ∧ !spduLocker s d.locker then useRefused (count 196 s)
  else
    let r := pub s n
    let r := { r with spdu := (r.spdu + 1) % 2 ^ 32 }
    let (v, s) := drawFree (setPub n r s)
    outSend publish (0x100 + n) d 6 (v % 1459) (.goose (gooseOut s n d r ttl)) s

/-- A new state is published: stNum advanced, sqNum 0, the retransmissions from RT_MIN on. -/
def publishState (publish : Bool) (n : Nat) (d : OutDef) (members : List Nat) (s : State) : State :=
  let r := pub s n
  let s := setPub n { r with stNum := (r.stNum + 1) % 2 ^ 32, sqNum := 0, data := members, newState := none
                             interval := rtMin d, nextAt := some (now s + msU (rtMin d)) } s
  sendGoose publish n d (2 * rtMin d) s

/-- R_GOOSE_RETRANSMIT: the interval has passed (12 R337). -/
def execRGooseRetransmit (n : Nat) (s : State) : Host.Outcome State Fault Refusal :=
  let r := pub s n
  match r.nextAt, mget (activeBank s).outs (0x100 + n) with
  | some t, some d =>
    if inRun s then
      let s := advanceTo t s
      let iv := min (2 * r.interval) (rtMax d)
      let s := setPub n { r with sqNum := (r.sqNum + 1) % 2 ^ 32, interval := iv, nextAt := some (t + msU iv) } s
      done (sendGoose false n d (2 * iv) s)
    else done s
  | _, _ => done s

/-- A member's value from the presented view. The value of a phasor as one member is not stated: a free value. -/
def memberValue (i : GroupInst) (m : OutMember) (s : State) : Nat × State :=
  match viewOf i.view m.cid with
  | some v => (match v.val with
    | .scalar f => (convVal m.type (.flt (if qbit v.qual 0 then f else f32NaN)), s)
    | .raw w => (convVal m.type (.int (w : Nat)), s)
    | _ => let (x, s) := drawFree s
           (x % 2 ^ 64, s))
  | none => (0, s)

/-! ## The OUTSTREAM task (12 R334, R337) -/

/-- A frame is complete: it leaves at once, late after its PUBLISH instant, or waits for it. -/
def frameDone (k : TaskInst) (d : OutDef) (f : OutFrame) (s : State) : State :=
  let r := outRun s f.out
  if !hasIssues s f.out then sendData false d f s
  else if r.owed.contains k.t then
    let s := setOutRun f.out { r with owed := r.owed.filter (· != k.t) } s
    sendData true d f (if emits s then countPort d.port 17 s else s)
  else setOutRun f.out { r with built := r.built ++ [(k.t, now s, f)] } s

/-- The OUTSTREAM task's work for an instance. -/
def outWork (k : TaskInst) (s : State) : State :=
  let out := k.tmpl.object
  match mget (activeBank s).outs out, group s k.gid, findInst s k.gid k.t with
  | some d, some g, some i =>
    if out < 0x100 then
      let (f, sat) := buildFrame s out g.rate d i
      frameDone k d f (countBy 154 sat s)
    else
      let n := out - 0x100
      let (ms, s) := d.members.foldl (fun (a : List Nat × State) m =>
        let (v, s) := memberValue i m a.2
        (a.1 ++ [v], s)) ([], s)
      let r := pub s n
      let last := match r.newState with
        | some (_, _, l) => l
        | none => r.data
      let late := r.owed.contains k.t
      let s := setPub n { r with owed := r.owed.filter (· != k.t) } s
      if ms = last then s
      else if !hasIssues s out then publishState false n d ms s
      else if late then publishState true n d ms (if emits s then countPort d.port 17 s else s)
      else setPub n { pub s n with newState := some (k.t, now s, ms) } s
  | _, _, _ => s

/-- An OUTSTREAM release that is dropped or aborted: no frame is built for its instance (12 R334). -/
def outDropped (k : TaskInst) (s : State) : State :=
  let out := k.tmpl.object
  if out < 0x100 then
    let r := outRun s out
    if !hasIssues s out ∨ r.owed.contains k.t then
      count 195 (setOutRun out { r with owed := r.owed.filter (· != k.t) } s)
    else s
  else setPub (out - 0x100) { pub s (out - 0x100) with owed := (pub s (out - 0x100)).owed.filter (· != k.t) } s

/-- Such an issue of a C37.118 output stream, for the instance at t. -/
def publishStream (out tid gid : Nat) (d : OutDef) (t at_ : Instant) (s : State) : State :=
  let r := outRun s out
  match r.built.find? (fun e => e.1 == t) with
  | some (_, when_, f) =>
    let s := setOutRun out { r with built := r.built.filter fun e => decide (t < e.1) } s
    sendData true d f (if at_ < when_ + usU 1 ∧ emits s then countPort d.port 17 s else s)
  | none =>
    let r := { r with built := r.built.filter fun e => decide (t < e.1) }
    if taskPending s tid t ∨ !hasFired s gid t then setOutRun out { r with owed := r.owed ++ [t] } s
    else count 195 (setOutRun out r s)

/-- Such an issue of publication n, for the instance at t. -/
def publishGoose (n tid gid : Nat) (d : OutDef) (t at_ : Instant) (s : State) : State :=
  let r := pub s n
  match r.newState with
  | some (_, when_, ms) =>
    publishState true n d ms (if at_ < when_ + usU 1 ∧ emits s then countPort d.port 17 s else s)
  | none => if taskPending s tid t ∨ !hasFired s gid t then setPub n { r with owed := r.owed ++ [t] } s else s

/-- The issue's instance, where one is due (12 R334, R337). -/
def publishDue (out tid gid : Nat) (d : OutDef) (due : Option Instant) (at_ : Instant) (s : State) : State :=
  match due with
  | none => s
  | some t =>
    if beforeFirst s gid t then s
    else if out < 0x100 then publishStream out tid gid d t at_ s
    else publishGoose (out - 0x100) tid gid d t at_ s

/-- A PUBLISH issue at an instant (03 R71; 12 R334, R337). -/
def publishAt (out : Nat) (at_ : Instant) (s : State) : State :=
  match mget (activeBank s).outs out, outTmpl (activeBank s) out with
  | some d, some (tid, tm) =>
    match group s tm.gid with
    | none => s
    | some g => outDrain d (publishDue out tid tm.gid d (lastDue g at_) at_ s)
  | _, _ => s

end Sys2Proof.Machine
end

