-- ==== Sys2Proof/Machine/Scheme.lean ====
section
/-! DEFINITION. Wide-area schemes: cycles, inputs, stations, function blocks, outputs, starting and stopping, program exchange
(08). -/

namespace Sys2Proof.Machine

/-! ## State -/

def schRun (s : State) (i : Nat) : SchRun := mgetD s.schs i {}

def setSch (i : Nat) (r : SchRun) (s : State) : State := { s with schs := mput s.schs i r }

def schImg (b : Bank) (i : Nat) : Option SchemeImg := mget b.schemes i

/-- The constants in effect: the image's until one is set on line (08 R210). -/
def constsOf (img : SchemeImg) (r : SchRun) : List Nat := if r.consts.isEmpty then img.consts.map (·.init) else r.consts

/-- Bytes of a value by its type (08 R192). -/
def typeSize (ty : Nat) : Nat :=
  match ty with
  | 1 => 1
  | 2 => 2
  | 4 => 2
  | 9 => 2
  | 7 => 8
  | 8 => 8
  | _ => 4

/-- The VALUE field of a number of n bytes read as a type: sign- or zero-extended (08 R192). -/
def readTyped (ty : Nat) (bs : Bytes) : Nat :=
  let n := typeSize ty
  let v := ofLe (bs.take n)
  if ty = 2 ∨ ty = 3 then unsgn 64 (sgn (8 * n) v) else if ty = 1 then v % 2 else v

/-! ## Function blocks (08 R200) -/

/-- Whole ns between two cycles, numbered s × Fnom + k, formed exactly and rounded down once. -/
def elapsedNs (fn a b : Nat) : Nat := (b - a) * 1000000000 / fn

/-- One call of a block in the cycle numbered n. -/
def fbCall (fn n : Nat) (x : FbState) (a b : Bool) (p : Int) : FbState :=
  match x.kind with
  | 1 =>
    if a then
      let st := if x.inMem then x.start else n
      let e := min p.toNat (elapsedNs fn st n)
      { x with inMem := true, start := st, et := e, q := decide (p ≤ e) }
    else { x with inMem := false, et := 0, q := false }
  | 2 =>
    if a then { x with inMem := true, m := some true, q := true, et := 0 }
    else if x.m.isNone then x
    else
      let st := if x.inMem then n else x.start
      let e := min p.toNat (elapsedNs fn st n)
      { x with inMem := false, start := st, et := e, q := decide ((e : Int) < p) }
  | 3 =>
    let rise := a && !x.inMem && !x.q
    let st := if rise then n else x.start
    let e := elapsedNs fn st n
    if (x.q || rise) && decide ((e : Int) < p) then { x with inMem := a, start := st, et := e, q := true }
    else if x.q || rise then { x with inMem := a, start := st, et := if a then p.toNat else 0, q := false }
    else { x with inMem := a, et := if a then x.et else 0 }
  | 4 =>
    let cv : Int := if b then 0 else if a && x.m == some false then min 32767 (x.cv + 1) else x.cv
    { x with m := some a, cv := cv, q := decide (p ≤ cv) }
  | 5 =>
    let cv : Int := if b then p else if a && x.m == some false then max (-32768) (x.cv - 1) else x.cv
    { x with m := some a, cv := cv, q := decide (cv ≤ 0) }
  | 6 => { x with m := some a, q := a && x.m == some false }
  | _ => { x with m := some a, q := !a && x.m == some true }

/-- Code runs: writes of internal and output variables that are not forced, and calls of blocks (08 R195, R212). -/
def runOps (fn n : Nat) (img : SchemeImg) (ops : List SchOp) (r : SchRun) : SchRun :=
  ops.foldl (fun r o => match o with
    | .write id v => match img.vars[id]? with
      | some d => if d.cls = 1 ∨ mhas r.forces id then r else { r with vars := lset r.vars id (v % 2 ^ 64) }
      | none => r
    | .call i a b p => match r.fbs[i]? with
      | some x => { r with fbs := lset r.fbs i (fbCall fn n x a b p) }
      | none => r) r

/-- Reset blocks of an image. -/
def freshFbs (img : SchemeImg) : List FbState := img.fbs.map fun e => { kind := e.1, ident := e.2 }

/-! ## Step 1: pending commands (08 R209-R212) -/

/-- Forced variables hold their forced values. -/
def applyForces (r : SchRun) : SchRun :=
  r.forces.foldl (fun r e => { r with vars := lset r.vars e.1 e.2 }) r

/-- Apply one pending command; with its waiter, the status of its final reply. -/
def applyPend (img : SchemeImg) (r : SchRun) (c : PendCmd) : SchRun × Waiter × Nat :=
  match c with
  | .set w _ cells =>
    if cells.any (fun x => x.space == 0 && mhas r.forces x.id) then (r, w, 0x0205)
    else
      (cells.foldl (fun r x =>
        if x.space = 0 then { r with vars := lset r.vars x.id x.value }
        else { r with consts := lset (constsOf img r) x.id x.value }) r, w, 0)
  | .force w _ id v => ({ r with forces := mput r.forces id v }, w, 0)
  | .unforce w _ id => ({ r with forces := mdel r.forces id }, w, 0)
  | .unforceAll w _ => ({ r with forces := [] }, w, 0)

/-- The first cycle that a command waits for (08 R217). -/
def pendEffect : PendCmd → Instant
  | .set _ e _ => e
  | .force _ e _ _ => e
  | .unforce _ e _ => e
  | .unforceAll _ e => e

def pendWaiter : PendCmd → Waiter
  | .set w _ _ => w
  | .force w _ _ _ => w
  | .unforce w _ _ => w
  | .unforceAll w _ => w

/-! ## Step 2: stations (08 R198, R199) -/

/-- What a stream's instances up to an instant leave, in order of instance whatever the order of arrival. -/
def histUpTo (r : StreamRun) (t : Instant) : StHist :=
  ((r.hist.filter fun e => decide (e.1 ≤ t)).map (·.2)).foldl histStep r.histBase

/-- A station is UP on such a history: its stream is UP, or in CFG_MISMATCH, and the run is below DROPOUT (08 R198; 04 R103). -/
def stationUp (s : State) (sid : Nat) (h : StHist) : Bool :=
  (h.heard || h.mismatch) && decide (h.run < (match mget (activeBank s).streams sid with
    | some d => d.dropout
    | none => 0))

/-- A station's state at instance t (08 R198). -/
def stationAt (s : State) (sid : Nat) (t : Instant) : Bool := sid == 0xFFFF || stationUp s sid (histUpTo (stream s sid) t)

/-- A station's states after each of its stream's marks after one instance, up to another (08 R199). -/
def stationTrail (s : State) (sid : Nat) (a t : Instant) : List Bool :=
  if sid = 0xFFFF then [] else
  let r := stream s sid
  ((r.hist.filter fun e => decide (a < e.1) && decide (e.1 ≤ t)).foldl (fun (x : StHist × List Bool) m =>
    let h := histStep x.1 m.2
    (h, x.2 ++ [stationUp s sid h])) (histUpTo r a, [])).2

/-- Some step of a trail goes from one state to the other. -/
def stepsTo (up : Bool) : List Bool → Bool
  | a :: b :: rest => (a != up && b == up) || stepsTo up (b :: rest)
  | _ => false

/-- What has changed at one station since the last executed cycle: dropped, recovered. In the first cycle a station that is
DROPPED counts as having dropped (08 R198, R199). -/
def stationChange (fresh : Bool) (old : Option Bool) (trail : List Bool) (cur : Bool) : Bool × Bool :=
  match old with
  | none => (!cur, false)
  | some o => if fresh then (!cur, false) else (stepsTo false (o :: trail ++ [cur]), stepsTo true (o :: trail ++ [cur]))

/-- UP bitmap of the stations. -/
def upBits (sts : List Bool) : Nat := sts.foldr (fun e a => b2n e + 2 * a) 0

/-! ## Step 3: inputs (08 R197) -/

/-- The level of a WAS_IN pin in force at an instant (19 R473). -/
def wasInAt (s : State) (pin : Nat) (t : Instant) : Bool :=
  let h := mgetD s.pins.wasIn pin []
  match (h.filter fun e => decide (e.at_ ≤ t)).getLast? with
  | some e => e.level
  | none => match h.head? with
    | some e => !e.level
    | none => mgetD s.pins.wasInBase pin false

/-- The producer operand of a TID at the instance. -/
def operandOf (i : GroupInst) (tid : Nat) : Option Bytes :=
  match i.ops.find? (fun o => o.key == prodKey tid) with
  | some o => match o.data with
    | .record b => some b
    | _ => none
  | none => none

/-- A channel's value as an input reads it: a part of a phasor, a scalar or raw bits. -/
def chanInput (v : ChanVal) (sel : Nat) : SrcVal :=
  match v with
  | .raw w => .int w
  | .scalar f => .flt f
  | _ =>
    match sel with
    | 0 => .flt ((polarOf v).map (·.1) |>.getD f32NaN)
    | 1 => .flt ((polarOf v).map (·.2) |>.getD f32NaN)
    | 2 => .flt ((rectOf v).map (·.1) |>.getD f32NaN)
    | _ => .flt ((rectOf v).map (·.2) |>.getD f32NaN)

/-- A field of a detector record (07 R169). -/
def recordField (b : Bytes) (sel : Nat) : SrcVal :=
  match sel with
  | 0 => .int (fld b 3 1)
  | 1 => .int (fld b 2 1)
  | 2 => .flt (fld b 32 4)
  | 3 => .flt (fld b 36 4)
  | 4 => .int (b2n (bit (fld b 10 2) 4))
  | _ => .int (fld b 10 2)

/-- The phase-request status of a WAS_OUT pin, from the scheme that drives it (08 R197). -/
def pinPhase (s : State) (pin : Nat) : Nat :=
  match s.schs.find? (fun e => mhas e.2.phaseStat pin) with
  | some e => mgetD e.2.phaseStat pin 0
  | none => 0

/-- The value of an input binding at the cycle's instance. -/
def inputValue (s : State) (i : GroupInst) (sts : List Bool) (ty : Nat) (x : InBind) : Nat :=
  match x.src with
  | 1 => match viewOf i.view x.ref with
    | some v => convVal ty (chanInput v.val x.sel)
    | none => 0
  | 2 => match viewOf i.view x.ref with
    | some v => convVal ty (.int v.qual.toNat)
    | none => 0
  | 3 => match operandOf i x.ref with
    | some b => convVal ty (recordField b x.sel)
    | none => x.empty
  | 4 => convVal ty (.int (b2n (wasInAt s x.ref i.t)))
  | 5 => convVal ty (.int (b2n (sts.getD x.ref false)))
  | 6 => convVal ty (.int ((pinPhase s x.ref : Nat) : Int))
  | _ => match operandOf i x.ref with
    | some b => readTyped ty (b.drop (24 + x.ofs))
    | none => x.empty

/-- Some input of the cycle was substituted: a channel, or an empty producer operand, which is presented with SUBST = 1
(06 R143; 08 R204). -/
def inputSubst (i : GroupInst) (img : SchemeImg) : Bool :=
  img.inputs.any fun x =>
    if x.src = 1 ∨ x.src = 2 then (match viewOf i.view x.ref with
      | some v => qbit v.qual 4
      | none => false)
    else (x.src == 3 || x.src == 7) && (operandOf i x.ref).isNone

/-- Step 3: every input variable takes its binding's value, or its forced one. -/
def readInputs (s : State) (i : GroupInst) (img : SchemeImg) (sts : List Bool) (r : SchRun) : SchRun :=
  applyForces (img.inputs.foldl (fun q x =>
    match img.vars[x.var]? with
    | some d => { q with vars := lset q.vars x.var (inputValue s i sts d.type x) }
    | none => q) r)

/-! ## Step 5: outputs (08 R202-R205) -/

/-- WAS_OUT pin n on the interface log. -/
def wasOutName (n : Nat) : Nat := 16 + n

def setBit16 (v : BitVec 16) (n : Nat) (b : Bool) : BitVec 16 :=
  if b then v ||| BitVec.ofNat 16 (2 ^ n) else v &&& ~~~(BitVec.ofNat 16 (2 ^ n))

/-- A WAS_OUT pin takes a level, on a unit that emits outputs. -/
def wasOutDrive (n : Nat) (b : Bool) (s : State) : State :=
  if !emits s ∨ s.pins.wasOut.getLsbD n = b then s
  else emit (.pin (wasOutName n) b (now s)) { s with pins := { s.pins with wasOut := setBit16 s.pins.wasOut n b } }

/-- Cancel the pending changes of a pin by a scheme, or of all its pins (none) (08 R203, R207). -/
def cancelPin (sch : Nat) (pin : Option Nat) (s : State) : State :=
  let hit := fun (e : PhaseReq) => match e.act with
    | .pin c p _ => c == sch && (match pin with
      | some n => p == n
      | none => true)
    | .capture .. => false
  let k := (s.phases.filter fun e => hit e.2).length
  countBy 5 k { s with phases := s.phases.filter fun e => !hit e.2 }

/-- A KIND 2 output (08 R203). -/
def pinOutput (sch : Nat) (img : SchemeImg) (vars : List Nat) (o : OutBind) (s : State) : State :=
  let lv := decide (vars.getD o.var 0 % 2 = 1)
  if s.pins.wasOutReq.getLsbD o.index = lv then s
  else
    let s := cancelPin sch (some o.index) { s with pins := { s.pins with wasOutReq := setBit16 s.pins.wasOutReq o.index lv } }
    let word := match img.outputs.find? (fun x => x.kind == 3 && x.index == o.index) with
      | some x => vars.getD x.var 0 % 2 ^ 32
      | none => 0
    if word = 0 then
      wasOutDrive o.index lv { s with schs := mmod s.schs sch fun r => { r with phaseStat := mdel r.phaseStat o.index } }
    else
      addPhase (now s) word (.pin sch o.index lv)
        { s with schs := mmod s.schs sch fun r => { r with phaseStat := mput r.phaseStat o.index 1 } }

/-- A rising edge of an output's variable between two executed cycles (08 R204). -/
def outRises (r : SchRun) (i : Nat) (v : Bool) : Bool := v && mget r.lastOut i == some false

/-- A KIND 4 output: a C37.118 command frame to a stream's last source (08 R204). -/
def commandOutput (o : OutBind) (s : State) : State :=
  if !emits s then s
  else match (stream s o.index).lastSrc, mget (activeBank s).streams o.index with
    | some (addr, udp, p), some d =>
      -- DESIGN CHOICE: what the spec does not give is the stream's: its VLAN, its UDP port as the source; DSCP is 0
      count 103 (txIp p { cls := 5, vlan := d.vlan, dscp := 0, src := none, srcUdp := d.udpPort, dst := addr, dstUdp := udp, len := 18
                          m := .c37Command d.idcode o.arg } s)
    | _, _ => count 104 s

/-- A KIND 5 notice (08 R204). -/
def noticeBytes (sch : Nat) (o : OutBind) (t : Instant) (up : Nat) (subst : Bool) : Bytes :=
  withCrc (le 1 0x4E ++ le 1 sch ++ le 2 o.arg ++ stampBytes t ++ le 8 up ++ le 4 (b2n subst) ++ zeros 4)

/-- The dataset of a station from its KIND 1 bindings, in order of INDEX (08 R202). -/
def stationData (img : SchemeImg) (j : Nat) (val : OutBind → Nat) : List Nat :=
  (sortBy (·.index) (img.outputs.filter fun o => o.kind == 1 && o.station == j)).map val

/-- Publish the stations whose dataset changed (08 R202). -/
def stationOutputs (img : SchemeImg) (vars : List Nat) (s : State) : State :=
  if !emits s then s
  else (List.range img.stations.length).foldl (fun s j =>
    let n := (img.stations.getD j (0xFFFF, 0xFFFF)).2
    if n = 0xFFFF then s
    else
      let ms := stationData img j fun o => vars.getD o.var 0
      match mget (activeBank s).outs (0x100 + n) with
      | some d => if (pub s n).data = ms then s else count 102 (publishState false n d ms s)
      | none => s) s

/-- The export area: each variable in the size of its type, aligned to that size (08 R205). -/
def exportArea (img : SchemeImg) (vars : List Nat) : Bytes :=
  let b := img.exports.foldl (fun b id =>
    let ty := match img.vars[id]? with
      | some d => d.type
      | none => 3
    padTo (typeSize ty) b ++ le (typeSize ty) (vars.getD id 0)) ([] : Bytes)
  (b ++ zeros img.exportLen).take img.exportLen

/-- The producer operand (08 R205). -/
def schemeOperand (sch : Nat) (img : SchemeImg) (vars : List Nat) (t : Instant) (errRan : Bool) (sts : List Bool) : Bytes :=
  le 1 0x53 ++ le 1 sch ++ le 2 (b2n errRan + b2n (sts.any fun e => !e) * 2) ++ stampBytes t ++ le 8 (upBits sts) ++ zeros 4
    ++ exportArea img vars

/-! ## Program exchange (08 R215, R216) -/

/-- The forces of a replaced program are removed, each with a record. -/
def dropForces (sch : Nat) (ids : List Nat) (s : State) : State :=
  ids.foldl (fun s id => noteI 4 5 nmForceRemoved (item nmScheme sch ++ item nmId id) sch 0 0 s) s

/-- State carried to a new program by instance identity (08 R216). -/
def schemeExchange (sch : Nat) (old img : SchemeImg) (s : State) : State :=
  let r := schRun s sch
  let oldVar := fun (d : VarDecl) => (List.range old.vars.length).find? fun i => match old.vars[i]? with
    | some o => o.ident == d.ident && o.type == d.type
    | none => false
  let vars := img.vars.map fun d => match oldVar d with
    | some i => r.vars.getD i d.init
    | none => d.init
  let pairs := (List.range img.vars.length).filterMap fun j => match img.vars[j]? with
    | some d => (oldVar d).map fun i => (i, j)
    | none => none
  let forces := pairs.foldl (fun m e => match mget r.forces e.1 with
    | some v => mput m e.2 v
    | none => m) ([] : Map Nat)
  let gone := (mkeys r.forces).filter fun i => !(pairs.any fun e => e.1 == i)
  let fbs := img.fbs.map fun e => match r.fbs.find? (fun x => x.ident == e.2 && x.kind == e.1) with
    | some x => x
    | none => { kind := e.1, ident := e.2 }
  let turned := (img.fbs.filter fun e => r.fbs.any fun x => x.ident == e.2 && x.kind != e.1).length
  let stUp := (List.range img.stations.length).filterMap fun j =>
    match (List.range old.stations.length).find? (fun i =>
        (old.stations.getD i (0, 0)).1 == (img.stations.getD j (0, 0)).1) with
    | some i => (mget r.stUp i).map fun v => (j, v)
    | none => none
  let s := setSch sch { r with vars := vars, forces := forces, fbs := fbs, stUp := stUp, consts := img.consts.map (·.init)
                               lastOut := [], changing := none } s
  let s := (List.replicate turned ()).foldl (fun s _ => noteI 4 5 nmBlockReset (item nmScheme sch) sch 0 0 s) s
  dropForces sch gone s

/-- A scheme's released cycles that have not ended. -/
def cyclesInFlight (s : State) (sch : Nat) : List TaskInst :=
  waitingCycles s sch ++ (s.disp.cores.map fun e => e.2.running.toList.filter (schemeTask sch)).flatten

/-- A program exchange whose boundary has passed takes place when no cycle opened before the boundary is left. -/
def exchangeDue (sch : Nat) (s : State) : State :=
  match (schRun s sch).changing with
  | none => s
  | some (b, old, new) =>
    if (schRun s sch).opened.any (fun t => decide (t < b)) ∨ (cyclesInFlight s sch).any (fun k => decide (k.t < b)) then s
    else schemeExchange sch old new s

/-- The image under which the cycle of an instance runs: the old one for a cycle opened before an exchange's boundary. -/
def cycleImg (s : State) (sch : Nat) (t : Instant) : Option SchemeImg :=
  match (schRun s sch).changing with
  | some (b, old, _) => if t < b then some old else schImg (activeBank s) sch
  | none => schImg (activeBank s) sch

/-! ## A cycle (08 R195) -/

/-- A SCHEME task's work for an instance: the state, the packets for the queues, its operand, and what is posted when the
state is committed. A cycle of a scheme that has stopped does nothing. -/
def schemeWork (k : TaskInst) (err ops : List SchOp) (s : State) : State × List (Nat × QPkt) × Option Bytes × Bool :=
  let sch := k.tmpl.object
  match cycleImg s sch k.t, findInst s k.gid k.t with
  | some img, some i =>
    let r := schRun s sch
    if !r.running then (s, [], none, false)
    else
      let n := gridFloor (fnom s) k.t
      -- step 1
      let (r, finals) := (r.pend.filter fun c => decide (pendEffect c ≤ k.t)).foldl
        (fun (a : SchRun × List (Waiter × Nat)) c =>
          let (q, w, st) := applyPend img a.1 c
          (q, a.2 ++ [(w, st)])) ({ r with pend := r.pend.filter fun c => decide (k.t < pendEffect c) }, [])
      let r := applyForces r
      -- step 2
      let sts := img.stations.map fun e => stationAt s e.1 k.t
      let ch := (List.range sts.length).map fun j => stationChange r.fresh (mget r.stUp j)
        (stationTrail s (img.stations.getD j (0xFFFF, 0xFFFF)).1 (r.lastT.getD 0) k.t) (sts.getD j true)
      let drops := (ch.filter (·.1)).length
      let ups := (ch.filter (·.2)).length
      let s := countBy 101 ups (countBy 100 drops s)
      let errRan := decide (img.errEntry ≠ 0xFFFFFFFF) && (decide (0 < drops) || (bit img.flags 1 && decide (0 < ups)))
      let r := { r with stUp := (List.range sts.length).map fun j => (j, sts.getD j true), lastT := some k.t }
      let r := if errRan then runOps (fnom s) n img err r else r
      let s := if errRan then count 99 s else s
      -- steps 3 and 4
      let r := readInputs s i img sts r
      let r := applyForces (runOps (fnom s) n img ops r)
      -- step 5
      let acts := (List.range img.outputs.length).filterMap fun j => match img.outputs[j]? with
        | some o => if o.kind = 4 ∨ o.kind = 5 then some (j, o, decide (r.vars.getD o.var 0 % 2 = 1)) else none
        | none => none
      let fired := acts.filter fun a => outRises r a.1 a.2.2
      let w := r.startWait
      let r := { r with lastOut := acts.map fun a => (a.1, a.2.2), fresh := false, startWait := none }
      let s := stationOutputs img r.vars (setSch sch r s)
      let s := (img.outputs.filter (·.kind == 2)).foldl (fun s o => pinOutput sch img r.vars o s) s
      let s := (fired.filter fun a => a.2.1.kind == 4).foldl (fun s a => commandOutput a.2.1 s) s
      let pkts := (fired.filter fun a => a.2.1.kind == 5).map fun a =>
        (a.2.1.index, ({ data := noticeBytes sch a.2.1 k.t (upBits sts) (inputSubst i img), mark := false } : QPkt))
      -- step 6
      let s := count 96 (finals.foldl (fun s f => finalReply f.1 f.2 s) s)
      let s := match w with
        | some w => finalReply w 0 s
        | none => s
      (s, pkts, some (schemeOperand sch img r.vars k.t errRan sts), true)
  | _, _ => (s, [], none, false)

/-! ## Starting and stopping (08 R206, R207) -/

/-- The active image of a scheme that starts stands in both banks (08 R206). -/
def copyImage (sch : Nat) (s : State) : State :=
  match schImg (activeBank s) sch with
  | none => s
  | some img =>
    let b := inactiveBank s
    if schImg b sch = some img then s
    else noteI 2 5 nmImageCopied (item nmScheme sch) sch 0 0 (setInactive { b with schemes := mput b.schemes sch img } s)

/-- A scheme starts cold; its first cycle is the first one opened at or after an instant. -/
def schemeStartAt (sch : Nat) (w : Option Waiter) (first : Instant) (s : State) : State :=
  match schImg (activeBank s) sch with
  | none => s
  | some img =>
    let r := schRun s sch
    setSch sch { r with
      running := true, fresh := true, vars := img.vars.map (·.init), consts := constsOf img r, fbs := freshFbs img
      stUp := [], lastT := none, skipNext := false, lastOut := [], startWait := w, notBefore := first
      stopWait := none, stopLast := none, opened := [], phaseStat := [] } s

/-- AUTOSTART starts a scheme as PROG_START does: the image is copied, and the first cycle is opened at least 1 ms away. -/
def schemeStart (sch : Nat) (s : State) : State := schemeStartAt sch none (now s + msU 1) (copyImage sch s)

/-- A scheme stops: pending sets end, pin changes are cancelled, pins and publications take their SAFE values, and the reply
follows. DESIGN CHOICE: a PROG_START whose first cycle has not run ends with WRONG_STATE as the sets do. -/
def schemeStop (sch : Nat) (s : State) : State :=
  let r := schRun s sch
  if !r.running then s
  else
    let w := r.stopWait.getD []
    let sets := r.pend.filterMap fun c => match c with
      | .set w _ _ => some w
      | _ => none
    let s := setSch sch { r with
      running := false, opened := [], stopWait := none, stopLast := none, startWait := none, skipNext := false, phaseStat := []
      pend := r.pend.filter fun c => match c with
        | .set _ _ _ => false
        | _ => true } s
    let s := cancelPin sch none s
    let s := match schImg (activeBank s) sch with
      | none => s
      | some img =>
        let s := (img.outputs.filter (·.kind == 2)).foldl (fun s o =>
          let lv := decide (o.safe % 2 = 1)
          wasOutDrive o.index lv { s with pins := { s.pins with wasOutReq := setBit16 s.pins.wasOutReq o.index lv } }) s
        (List.range img.stations.length).foldl (fun s j =>
          let n := (img.stations.getD j (0xFFFF, 0xFFFF)).2
          match mget (activeBank s).outs (0x100 + n) with
          | some d =>
            if n = 0xFFFF ∨ !emits s then s
            else
              let s := publishState false n d (stationData img j (·.safe)) s
              setPub n { pub s n with nextAt := none } s
          | none => s) s
    finalReplies w 0 (finalReplies (sets ++ r.startWait.toList) 0x0201 s)

/-- Whether a cycle of a scheme is released, dispatched or running. -/
def schemeBusy (s : State) (sch : Nat) : Bool := !(cyclesInFlight s sch).isEmpty

/-- A PROG_STOP waits, and the cycles that were released when it executed have ended. -/
def stopDue (s : State) (sch : Nat) : Bool :=
  (schRun s sch).stopWait.isSome && (match (schRun s sch).stopLast with
    | some n => !((cyclesInFlight s sch).map (·.t) ++ (schRun s sch).opened).any fun t => decide (t ≤ n)
    | none => true)

/-- The next CYCLE issue of a scheme at or after now. -/
def nextCycle (s : State) (sch : Nat) : Instant :=
  match sched s with
  | none => now s
  | some img =>
    match img.entries.find? (fun e => e.action == 4 && e.target == sch) with
    | some e => issueFrom e (now s)
    | none => now s

/-- PROG_STOP_EFFECT: at the end of the cycle that was released, or at the next CYCLE issue (08 R207). -/
def execProgStopEffect (sch : Nat) (s : State) : Host.Outcome State Fault Refusal :=
  let r := schRun s sch
  if r.running ∧ stopDue s sch then
    done (schemeStop sch (if r.stopLast.isSome then s else advanceTo (nextCycle s sch) s))
  else done s

/-- The cycle of an instance is opened: released at once when the group has fired the instance (08 R194). -/
def cycleOpen (sch tid : Nat) (tm : Template) (t : Instant) (s : State) : State :=
  let r := schRun s sch
  let s := setSch sch { r with opened := r.opened ++ [t] } s
  match findInst s tm.gid t, group s tm.gid with
  | some i, some g =>
    if i.state = .fired then
      releaseTask tid tm t tm.gid (groupLimit (fnom s) g t) (takeOpened tm t (setInst { i with tasks := i.tasks + 1 } s))
    else s
  | _, _ => s

/-- A scheme's CYCLE issue for an instance has taken place: a fired instance no longer waits for it. -/
def cyclePassed (sch gid : Nat) (t : Instant) (s : State) : State :=
  match findInst s gid t with
  | some i => if i.state = .fired then instSettle { i with cycles := i.cycles.filter (· != sch) } s else s
  | none => s

/-- A CYCLE issue opens the scheme's cycle for the instance at its slot boundary, or stops the scheme (08 R194, R206, R207). -/
def cycleIssue (sch : Nat) (t : Instant) (s : State) : State :=
  let s := setSch sch { schRun s sch with cycleAt := some t } s
  match (activeBank s).templates.find? (fun e => e.2.type == 2 && e.2.object == sch) with
  | none => s
  | some (tid, tm) =>
    let r := schRun s sch
    cyclePassed sch tm.gid t
      (if !r.running ∨ t < r.notBefore then s else if stopDue s sch then schemeStop sch s else cycleOpen sch tid tm t s)

/-! ## Schemes at a swap (08 R206, R208, R212) -/

/-- Another program stands in for the one that a stopped scheme's state belongs to: its forces, pending ones included, are removed
with a record each, and constants and values go with it. DESIGN CHOICE: pending commands end with WRONG_STATE, as those of a scheme
that stops do. -/
def schemeReplaced (sch : Nat) (s : State) : State :=
  let r := schRun s sch
  let waiting := r.pend.filterMap fun c => match c with
    | .force _ _ id _ => some id
    | _ => none
  let s := setSch sch { r with forces := [], consts := [], vars := [], pend := [] } s
  finalReplies (r.pend.map pendWaiter) 0x0201 (dropForces sch (mkeys r.forces ++ waiting).dedup s)

/-- A scheme at a bank swap (08 R208): old is the bank that was active. While the active bank has no image of the scheme, its
state stays with the image that it belongs to. -/
def schemeSwap (sch : Nat) (old : Bank) (s : State) : State :=
  let r := schRun s sch
  let mine := match schImg old sch with
    | some i => some i
    | none => r.owner
  match schImg (activeBank s) sch with
  | none => setSch sch { r with owner := mine } s
  | some img =>
    let s := setSch sch { r with owner := none } s
    let s := if mine.isSome ∧ mine ≠ some img then schemeReplaced sch s else s
    if schImg old sch ≠ some img ∧ bit img.flags 0 ∧ inRun s then schemeStart sch s else s

end Sys2Proof.Machine
end

