-- ==== Sys2Proof/Machine/Signal.lean ====
section
/-! DEFINITION. What Bandstand does with a signal: concealment, tone detection and the tone disabler, over the measurements of
Config (09 R240-R249). -/

namespace Sys2Proof.Machine

/-! ## Signals -/

/-- Samples of n ms at a rate. -/
def msLen (rate n : Nat) : Nat := rate / 1000 * n

/-- A signal of exactly n ms. -/
def fitSig (rate n : Nat) (x : List Int) : List Int := (x ++ List.replicate (msLen rate n) 0).take (msLen rate n)

def silence (rate n : Nat) : List Int := List.replicate (msLen rate n) 0

/-- The newest 100 ms of what was heard. -/
def heardPast (rate : Nat) (past x : List Int) : List Int :=
  let l := past ++ x
  l.drop (l.length - msLen rate 100)

/-- A signal with some of its ms replaced by silence. -/
def muteMs (rate : Nat) (mask : List Bool) (x : List Int) : List Int :=
  ((List.range mask.length).map fun i =>
    let part := (x.drop (msLen rate i)).take (msLen rate 1)
    if mask.getD i false then part.map fun _ => 0 else part).flatten

/-! ## Concealment (09 R241) -/

/-- The gain, in 1/50, of the ms-th ms of a codec's continued loss. DEDUCED: G.711's attenuation by 20 % per 10 ms falls
evenly. -/
def lossGain (codec ms : Nat) : Int :=
  if codec ≤ 2 then (if ms < 10 then 50 else if ms < 60 then 60 - (ms : Int) else 0)
  else if codec = 3 then (if ms < 60 then 50 else 0)
  else if codec = 4 then 50
  else if ms < 100 then 50 else 0

/-- A concealed frame after lost ms of loss. -/
def attenuate (codec rate lost ms : Nat) (x : List Int) : List Int :=
  ((List.range ms).map fun i => ((x.drop (msLen rate i)).take (msLen rate 1)).map fun v => v * lossGain codec (lost + i) / 50).flatten

/-! ## DTMF (09 R247) -/

def dtmfLow : List Nat := [6970, 7700, 8520, 9410]

def dtmfHigh : List Nat := [12090, 13360, 14770, 16330]

/-- The RFC 4733 event codes of Q.23's pairs, by row: 1 2 3 A, 4 5 6 B, 7 8 9 C, * 0 # D. -/
def dtmfCodes : List (List Nat) := [[1, 2, 3, 12], [4, 5, 6, 13], [7, 8, 9, 14], [10, 0, 11, 15]]

/-- A measured frequency counts as a nominal one: within ±1.5 %, never from ±3.5 % on. -/
def dtmfNear (nominal measured : Nat) : Bool :=
  let d := ((measured : Int) - nominal).natAbs * 1000
  decide (d ≤ 15 * nominal) || (decide (d < 35 * nominal) && Config.dtmfAccepts nominal measured)

/-- The digit of 1 ms, with its level in −dBm0. -/
def dtmfDigit (x : Option DtmfPoint) : Option (Nat × Nat) :=
  match x with
  | none => none
  | some p =>
    let inLevel := fun (v : Int) => decide (-360 ≤ v) && decide (v ≤ -30)
    if !inLevel p.lowPow ∨ !inLevel p.highPow ∨ 40 < p.highPow - p.lowPow ∨ p.highPow - p.lowPow < -80 then none
    else match (List.range 4).find? (fun i => dtmfNear (dtmfLow.getD i 0) p.low),
        (List.range 4).find? (fun i => dtmfNear (dtmfHigh.getD i 0) p.high) with
      | some i, some j => some ((dtmfCodes.getD i []).getD j 0, ((-(max p.lowPow p.highPow)) / 10).toNat)
      | _, _ => none

/-- The time after which a lasting digit is accepted. -/
def dtmfOn : Nat := max 23 (min 40 Config.dtmfOnMs)

/-- What 1 ms brings: a digit accepted, with its level, or ended, with its duration. -/
inductive DtmfEv where
  | start (code level : Nat)
  | stop (code level ms : Nat)
deriving DecidableEq, Repr

/-- 1 ms of a digit detector. A pause of 40 ms separates digits: none is accepted before. -/
def dtmfStep (d : DtmfRun) (x : Option (Nat × Nat)) : DtmfRun × Option DtmfEv :=
  if d.active then
    if x.map (·.1) = d.cand then ({ d with on := d.on + 1 }, none)
    else ({ d with active := false, ready := false, off := b2n x.isNone, cand := none, on := 0, tail := 39 },
      some (.stop (d.cand.getD 0) d.level d.on))
  else
    let d := { d with tail := d.tail - 1 }
    match x with
    | none => ({ d with cand := none, on := 0, off := d.off + 1, ready := d.ready || decide (40 ≤ d.off + 1) }, none)
    | some (code, level) =>
      if !d.ready then ({ d with off := 0 }, none)
      else
        let on := if d.cand = some code then d.on + 1 else 1
        let d := { d with cand := some code, on := on, off := 0, level := level }
        if dtmfOn ≤ on then ({ d with active := true }, some (.start code level)) else (d, none)

/-- A frame of a digit detector: its events, each with its ms, and the ms from a digit's detection until 40 ms after its end. -/
def dtmfFrame (rate : Nat) (past x : List Int) (ms : Nat) (d : DtmfRun) : DtmfRun × List (Nat × DtmfEv) × List Bool :=
  let pts := Config.dtmfPoints rate past x
  (List.range ms).foldl (fun (a : DtmfRun × List (Nat × DtmfEv) × List Bool) i =>
    let (d, e) := dtmfStep a.1 (dtmfDigit (pts.getD i none))
    (d, a.2.1 ++ (e.map fun v => (i, v)).toList, a.2.2 ++ [d.active || decide (0 < d.tail)])) (d, [], [])

/-! ## Fax and modem tones (09 R245, R246) -/

/-- 2,100 Hz ± 15 Hz fills the frame. -/
def is2100 (m : ModemMeas) : Bool := match m.freq with
  | some f => decide (20850 ≤ f) && decide (f ≤ 21150)
  | none => false

/-- A 15 Hz modulation of a depth of 20 % ± 5 %. -/
def isAm (m : ModemMeas) : Bool := m.amHz / 10 == 15 && decide (150 ≤ m.amDepth) && decide (m.amDepth ≤ 250)

/-- A phase reversal of 180° ± 25°. -/
def isReversal (r : Nat × Nat) : Bool := decide (155 ≤ r.2) && decide (r.2 ≤ 205)

/-- The reversals of a frame: the last one, and whether one follows another by 450 ms ± 25 ms. DEDUCED: the second of two such
reversals is the one that disables. -/
def reversals (clock : Nat) (last : Option Nat) (rs : List (Nat × Nat)) : Option Nat × Bool :=
  (rs.filter isReversal).foldl (fun a r =>
    let t := clock + r.1
    (some t, a.2 || (match a.1 with
      | some l => decide (425 ≤ t - l) && decide (t - l ≤ 475)
      | none => false))) (last, false)

/-- A frame of a fax and modem detector: the detector, the codes of the events it finds, and whether a reversal that may disable the
canceller stands in it. -/
def modemFrame (rate : Nat) (past x : List Int) (ms : Nat) (d : ModemRun) : ModemRun × List Nat × Bool :=
  let m := Config.modemMeasure rate past x
  let on := if is2100 m then d.on + ms else 0
  let am := if is2100 m ∧ isAm m then d.am + ms else 0
  let told := d.told && decide (0 < on)
  let ans := decide (400 ≤ on) && !told
  let (last, dis) := if is2100 m then reversals d.clock d.lastRev m.reversals else (none, false)
  let flags := if m.preamble then d.flags + m.flags else m.flags
  let v21 := decide (3 ≤ flags) && !(d.v21 && m.preamble)
  ({ on := on, am := am, told := told || ans, lastRev := last, clock := d.clock + ms, flags := flags
     v21 := (d.v21 && m.preamble) || decide (3 ≤ flags) },
   (if v21 then [10] else []) ++ (if ans then [if 400 ≤ am then 12 else 11] else []), dis)

/-! ## Call-progress tones (09 R249) -/

/-- The durations of a definition's cadence, ON and OFF in turn, up to the ON of 0. -/
def cadence (d : Bytes) : List (Nat × Nat) :=
  ((List.range 4).map fun i => (fld d (8 + 4 * i) 2, fld d (10 + 4 * i) 2)).takeWhile fun e => e.1 != 0

/-- A continuous tone: an OFF of 0 in the last pair. -/
def toneContinuous (d : Bytes) : Bool := match (cadence d).getLast? with
  | some e => e.2 == 0
  | none => false

/-- The tone stands in 10 ms: each frequency within FTOL and at LEVEL_MIN at least, and their difference within TWIST. -/
def tonePresent (d : Bytes) (p : TonePoint) : Bool :=
  let min_ : Int := -10 * (fld d 4 1 : Int)
  let one := decide (min_ ≤ p.pow1) && decide (p.dev1 ≤ fld d 6 1)
  if fld d 2 2 = 0 then one
  else one && decide (min_ ≤ p.pow2) && decide (p.dev2 ≤ fld d 6 1) && decide ((p.pow1 - p.pow2).natAbs ≤ 10 * fld d 5 1)

/-- A segment's length fits its nominal one: within ±10 % or ±30 ms, whichever is larger. -/
def segmentFits (nominal len : Nat) : Bool := decide (10 * ((len : Int) - nominal).natAbs ≤ max 30 nominal)

/-- The segments of a cadence, ON first. -/
def segments (d : Bytes) : List Nat := ((cadence d).map fun e => [e.1, e.2]).flatten

/-- The tone changes between on and off: the segment that ends is judged, and the next one begins. -/
def toneEdge (d : Bytes) (t : ToneRun) (on : Bool) : ToneRun :=
  let segs := segments d
  let fits : Bool := match t.seg with
    | some i => segmentFits (segs.getD i 0) t.len
    | none => false
  let t1 := { t with on := on, len := 1 }
  match t.seg with
  | some i =>
    if !fits then { t1 with seg := if on then some 0 else none, reps := 0 }
    else if i + 1 = segs.length then { t1 with seg := some 0, reps := t.reps + 1 }
    else { t1 with seg := some (i + 1) }
  | none => { t1 with seg := if on then some 0 else none, reps := 0 }

/-- 10 ms of a tone's cadence: the new state, and whether the tone is detected. -/
def toneStep (d : Bytes) (t : ToneRun) (on : Bool) : ToneRun × Bool :=
  if t.detected then
    let absent := if on then 0 else t.absent + 1
    (if 100 ≤ absent then {} else { t with absent := absent }, false)
  else
    let t := if on = t.on then { t with len := t.len + 1 } else toneEdge d t on
    let hit := if toneContinuous d then t.on && decide (fld d 8 2 ≤ t.len) else decide (fld d 7 1 ≤ t.reps)
    (if hit then { t with detected := true, absent := 0 } else t, hit)

/-- A frame of a tone's detector. -/
def toneFrame (rate : Nat) (d : Bytes) (past x : List Int) (ms : Nat) (t : ToneRun) : ToneRun × Bool :=
  let pts := Config.tonePoints rate (fld d 0 2) (fld d 2 2) past x
  (List.range (ms / 10)).foldl (fun (a : ToneRun × Bool) i =>
    let on : Bool := match pts[i]? with
      | some p => tonePresent d p
      | none => false
    let (t, h) := toneStep d a.1 on
    (t, a.2 || h)) (t, false)

end Sys2Proof.Machine
end

