-- ==== Sys2Proof/Machine/Voice.lean ====
section
/-! DEFINITION. Bandstand: calls, flows, events, recording, the mapping and reception (09). -/

namespace Sys2Proof.Machine

/-! ## Channels, codecs, issues (09 R219-R225) -/

def vch (s : State) (v : Nat) : Option VchRun := mget s.vchs v

def setVch (v : Nat) (r : VchRun) (s : State) : State := { s with vchs := mput s.vchs v r }

/-- The leg of a channel: false F, true C. -/
def legOf (r : VchRun) (c : Bool) : Leg := if c then r.legC else r.legF

def setLeg (r : VchRun) (c : Bool) (l : Leg) : VchRun := if c then { r with legC := l } else { r with legF := l }

def codecOf (p : VchParams) (c : Bool) : Nat := if c then p.codecC else p.codecF

/-- Units of a codec. -/
def codecUnits (k : Nat) : Nat := if k ≤ 2 then 2 else if k = 3 then 3 else if k = 4 then 4 else if k = 5 then 5 else 6

/-- The cost of a channel (09 R221). -/
def vchCost (p : VchParams) : Nat := max (codecUnits p.codecF) (codecUnits p.codecC)

/-- The internal rate, in Hz (09 R221). -/
def voiceRate (p : VchParams) : Nat := if [p.codecF, p.codecC].any (fun k => k == 3 || k == 6) then 16000 else 8000

/-- The units of the RTP clock in 1 ms. -/
def clkMs (codec : Nat) : Nat := if 5 ≤ codec then 48 else 8

/-- S of a leg. -/
def legS (p : VchParams) (c : Bool) : Nat := clkMs (codecOf p c) * p.frameMs

/-- REC_BLOCK_MS in force (09 R224). -/
def recBlockMs (p : VchParams) : Nat := if p.recBlockSel = 0 then 1000 / p.frameMs * p.frameMs else p.recBlockSel

/-- The PLAYOUT entry of a VCH in a bank. -/
def playoutEntry (b : Bank) (v : Nat) : Option SchedEntry := match b.sched with
  | some i => i.entries.find? fun e => e.action == 3 && e.target == v
  | none => none

/-- The number of the first issue of an entry at or after an instant, counted from the epoch. -/
def issueNo (e : SchedEntry) (t : Instant) : Nat :=
  let i := ceilDiv (ceilDiv (t % secU * e.q) secU - e.a) e.m
  t / secU * e.n + min i e.n

/-- The instant of an issue by number. -/
def issueInst (e : SchedEntry) (p : Nat) : Instant := issueAt e (p / e.n) (p % e.n)

def voiceTmpl (b : Bank) (v : Nat) : Option (Nat × Template) := b.templates.find? fun e => e.2.type == 6 && e.2.object == v

/-- Open from VCH_OPEN's execution to VCH_CLOSE's. -/
def vchOpenNow (s : State) (v : Nat) : Bool := match vch s v with
  | some r => r.closeAt.isNone
  | none => false

/-- The flow of a channel's leg and direction. -/
def legFlow (s : State) (v : Nat) (c tx : Bool) : Option (Nat × FlowRun) :=
  s.flows.find? fun e => e.2.def_.vch == v && bit e.2.def_.role 1 == c && bit e.2.def_.role 0 == tx

def setFlow (n : Nat) (f : FlowRun) (s : State) : State := { s with flows := mput s.flows n f }

/-- A flow's key stands in its locker, or it needs none. -/
def flowKey (s : State) (f : FlowRun) : Bool := f.def_.profile == 0 || srtpLocker s f.def_.locker f.def_.profile

/-! ## Events and the recording stream (09 R250-R253; 10 R275, R276) -/

/-- An event record with its TYPE (09 R250). -/
def eventBytes (s : State) (ty code v : Nat) (r : VchRun) (leg : Nat) (data : Bytes) (t : Instant) : Bytes :=
  let rec_ := r.par.recSel % 4 ≠ 0
  withCrc (le 1 ty ++ le 1 code ++ le 2 v ++ le 4 r.par.label ++ le 4 (if rec_ then r.recd.blockSeq else 0) ++ le 4 (t % secU)
    ++ le 8 (socOf s t) ++ le 2 (utcOffsetAt s t) ++ le 1 (b2n (lsp s t) + b2n (s.tb.state ≠ .locked) * 2) ++ le 1 leg
    ++ (data ++ zeros 16).take 16)

/-- Bytes of the channel's recording buffer in use, and its size. -/
def recUsed (r : RecRun) : Nat := lsum r.buffer fun p => p.2.length

def recRoom (b : Bank) (v : Nat) : Nat := match b.sched with
  | some i => match i.omap.find? (fun e => e.kind == 4 && e.index == v) with
    | some e => e.length * 65536
    | none => 0
  | none => 0

/-- A packet enters the recording buffer and the chain. -/
def recPush (mark : Bool) (b : Bytes) (r : RecRun) : RecRun :=
  { r with buffer := r.buffer ++ [(mark, b)], chain := sha256 (r.chain ++ b) }

/-- A mark of the recording stream (09 R252). -/
def recMark (v code leg : Nat) (data : Bytes) (t : Instant) (s : State) : State :=
  match vch s v with
  | none => s
  | some r =>
    if r.par.recSel % 4 = 0 ∨ !emits s then s
    else setVch v { r with recd := recPush true (eventBytes s 0x4B code v r leg data t) r.recd } s

/-- A seal of the recording, under the identity key. -/
def recSeal (v : Nat) (s : State) : State :=
  match vch s v with
  | none => s
  | some r =>
    let s := if s.gh.idOk then s else useRefused (count 151 s)
    let b := sealBytes 1 v 0 r.recd.firstSeal (r.recd.blockSeq - 1) (now s) r.recd.chain
      (if s.gh.idOk then some identityKey else none)
    setVch v { r with recd := { r.recd with buffer := r.recd.buffer ++ [(true, b)], sinceSeal := 0
                                            firstSeal := r.recd.blockSeq } } s

/-- An event of the channel: to EVT_OQ and as a mark (09 R250, R252). -/
def voiceEvent (v code leg : Nat) (data : Bytes) (t : Instant) (s : State) : State :=
  match vch s v with
  | none => s
  | some r =>
    let s := if r.par.evtOq = 0xFF ∨ code = 4 ∨ code = 5 then s
      else oqNoWait r.par.evtOq 6 { data := eventBytes s 0x56 code v r leg data t, mark := false } s
    recMark v code leg data t s

/-- Queue an event for the next issue's step 9. -/
def pendEvent (v code leg : Nat) (data : Bytes) (s : State) : State :=
  { s with vchs := mmod s.vchs v fun r => { r with events := r.events ++ [(code, leg, data)] } }

/-- Bits as bytes, bit 0 first. -/
def bitBytes (n v : Nat) : Bytes := le n v

/-- Close the open recording block: to the buffer, or discarded when it does not fit (09 R251, R253). -/
def closeBlock (v : Nat) (s : State) : State :=
  match vch s v with
  | none => s
  | some r =>
    let q := r.recd
    if q.issues = 0 then s
    else
      let len := 8 * q.issues * r.par.frameMs
      let b := withCrc (le 1 0x52 ++ le 1 (r.par.recSel % 4) ++ le 2 v ++ le 4 r.par.label ++ le 4 q.blockSeq ++ stampBytes q.firstAt
        ++ le 2 q.issues ++ le 1 r.par.frameMs ++ le 1 (b2n q.ecDis) ++ le 4 len ++ zeros 4 ++ bitBytes 32 q.conc0
        ++ bitBytes 32 q.conc1 ++ (q.dir0 ++ zeros len).take len ++ (q.dir1 ++ zeros len).take len)
      let q1 := { q with issues := 0, conc0 := 0, conc1 := 0, ecDis := false, dir0 := [], dir1 := [] }
      if recRoom (activeBank s) v < recUsed q + b.length then
        let gap := match q.gap with
          | some (f, n, t) => some (f, n + 1, t)
          | none => some (q.blockSeq, 1, q.firstAt)
        count 133 (setVch v { r with recd := { q1 with gap := gap, blockSeq := q.blockSeq + 1 } } s)
      else
        let s := setVch v { r with recd := { q1 with gap := none } } s
        let s := match q.gap with
          | some (f, n, t) => recMark v 4 0xFF (le 4 f ++ le 4 n ++ stampBytes t) q.firstAt s
          | none => s
        match vch s v with
        | none => s
        | some r =>
          let q := recPush false b r.recd
          let q := { q with blockSeq := q.blockSeq + 1, sinceSeal := q.sinceSeal + 1 }
          let s := setVch v { r with recd := q } s
          if 10 ≤ q.sinceSeal then recSeal v s else s

/-- One issue is recorded in the REC codec, on a unit that writes recordings (09 R251, R257): Sout and Rout. -/
def recordIssue (v : Nat) (t : Instant) (c0 c1 : Bool) (sout rout : List Int) (s : State) : State :=
  match vch s v with
  | none => s
  | some r =>
    if r.par.recSel % 4 = 0 ∨ !emits s then s
    else
      let q := r.recd
      let n := 8 * r.par.frameMs
      let (k0, d0) := Config.recEncode (r.par.recSel % 4) (voiceRate r.par) r.par.frameMs r.rec0 sout
      let (k1, d1) := Config.recEncode (r.par.recSel % 4) (voiceRate r.par) r.par.frameMs r.rec1 rout
      let q := { q with
        firstAt := if q.issues = 0 then t else q.firstAt
        conc0 := q.conc0 + b2n c0 * 2 ^ q.issues, conc1 := q.conc1 + b2n c1 * 2 ^ q.issues
        ecDis := q.ecDis || r.ecDisabled
        dir0 := q.dir0 ++ (d0 ++ zeros n).take n, dir1 := q.dir1 ++ (d1 ++ zeros n).take n, issues := q.issues + 1 }
      let s := setVch v { r with recd := q, rec0 := k0, rec1 := k1 } s
      if recBlockMs r.par ≤ q.issues * r.par.frameMs then closeBlock v s else s

/-- REC_BLOCK_TRANSFER: the oldest packet of the recording buffer goes to REC_OQ, or waits for it (09 R253; 11 R296). -/
def execRecBlockTransfer (v : Nat) (s : State) : Host.Outcome State Fault Refusal :=
  match vch s v with
  | none => done s
  | some r =>
    match r.recd.buffer with
    | [] => done s
    | (m, b) :: rest =>
      if !mainUp s ∨ !emits s then done s
      else if oqTakes s r.recd.oq (some (keyVch v)) b.length then
        let gone := rest.isEmpty && r.ended
        let s := setVch v { r with recd := { r.recd with buffer := rest } } s
        let s := oqPut r.recd.oq 12 { data := b, mark := m } (oqForget (keyVch v) s)
        done (if gone then { s with vchs := mdel s.vchs v } else s)
      else done (oqStall r.recd.oq (keyVch v) b.length s)

/-! ## The mapping (09 R236-R240) -/

/-- D: the largest margin of the packets accepted in the last 4 s, in instants. -/
def legDepth (l : Leg) (t : Instant) : Int :=
  l.margins.foldl (fun a e => if e.2.2 ∧ t < e.1 + 4 * secU then max a e.2.1 else a) 0

/-- M_min over the same span, late packets counted. -/
def legMin (l : Leg) (t : Instant) : Option Int :=
  l.margins.foldl (fun (a : Option Int) e => if t < e.1 + 4 * secU then some (match a with
    | some m => min m e.2.1
    | none => e.2.1) else a) none

/-- Packets leave the 4 s span. -/
def trimMargins (t : Instant) (l : Leg) : Leg := { l with margins := l.margins.filter fun e => decide (t < e.1 + 4 * secU) }

/-- The mapping moves by k frames of f ms, later for a positive k. -/
def moveLeg (k : Int) (f : Nat) (t : Instant) (l : Leg) : Leg :=
  { l with delta := l.delta + k, lastMove := some t, margins := l.margins.map fun e => (e.1, e.2.1 + k * (msU f : Nat), e.2.2) }

/-- No move in the last 1 s. -/
def quiet (l : Leg) (t : Instant) : Bool := match l.lastMove with
  | some m => decide (m + secU ≤ t)
  | none => true

/-- The frame number that an issue plays on a leg. -/
def frameAt (l : Leg) (p : Nat) : Option Int := match l.anchor with
  | some (_, pa) => some ((p : Int) - pa - l.delta)
  | none => none

/-- Frames are held by their number raised by 2^32, so that a key is a natural number. -/
def frameKey (n : Int) : Nat := (n + 2 ^ 32).toNat

/-! ## Receiving (09 R229-R239) -/

def legNo (c : Bool) : Nat := if c then 1 else 0

/-- Where an RTP packet's payload begins, behind CSRCs and a skipped header extension; none where it is no RTP version 2 packet. -/
def rtpBody (b : Bytes) : Option Nat :=
  let h := 12 + 4 * (fldBe b 0 1 % 16)
  let h := if bit (fldBe b 0 1) 4 then h + 4 + 4 * fldBe b (h + 2) 2 else h
  if fldBe b 0 1 / 64 = 2 ∧ h ≤ b.length then some h else none

/-- The payload without its padding; none where the padding's length does not fit. -/
def unpad (b0 : Nat) (x : Bytes) : Option Bytes :=
  if bit b0 5 then
    let n := fld x (x.length - 1) 1
    if 1 ≤ n ∧ n ≤ x.length then some (x.take (x.length - n)) else none
  else some x

/-- Bytes of a profile's authentication tag on RTP. -/
def srtpTag (profile : Nat) : Nat := if profile = 0 then 0 else if profile = 1 then 10 else if profile = 2 then 4 else 16

/-- The key of a flow's locker. -/
def flowKeyBytes (s : State) (f : FlowRun) : Bytes := match mget s.gh.lockers f.def_.locker with
  | some l => l.key
  | none => []

/-- The estimated index of a received sequence number (09 R229: the index rule of RFC 3711). -/
def rtpIndex (roc0 : Nat) (high : Option Nat) (seq : Nat) : Nat :=
  match high with
  | none => roc0 * 65536 + seq
  | some h =>
    let roc := h / 65536
    let l := h % 65536
    if l < 32768 then (if l + 32768 < seq then (roc + (2 ^ 32 - 1)) % 2 ^ 32 else roc) * 65536 + seq
    else (if seq + 32768 < l then (roc + 1) % 2 ^ 32 else roc) * 65536 + seq

/-- Within or ahead of the replay window of 128 packets, and not received before. -/
def replayOk (high : Option Nat) (window : List Nat) (i : Nat) : Bool :=
  match high with
  | none => true
  | some h => decide (h < i + 128) && !window.contains i

/-- The index enters the replay window. -/
def replayTake (high : Option Nat) (window : List Nat) (i : Nat) : Option Nat × List Nat :=
  let h := max i (high.getD i)
  (some h, (i :: window).filter fun x => decide (h < x + 128))

/-- The receive flow that a packet matches (09 R231). -/
def flowOf (s : State) (port : Nat) (vlan : Option Nat) (dst src srcUdp : Nat) (udpOk : FlowDef → Bool) (srcUp : Nat) :
    Option (Nat × FlowRun) :=
  s.flows.find? fun e =>
    let d := e.2.def_
    !bit d.role 0 && bit d.role 2 && d.port == port && (if d.vlan = 0xFFFF then vlan.isNone else vlan == some d.vlan)
      && d.localAddr == dst && d.remoteAddr == src && udpOk d && (d.remoteUdp == 0 || d.remoteUdp + srcUp == srcUdp
        || d.remoteUdp == srcUdp)

/-- The first lost packet of a flow issues KEY_LOST (09 R230). -/
def keyLostEvent (n : Nat) (s : State) : State :=
  match mget s.flows n with
  | none => s
  | some f =>
    if f.keyLost then s
    else pendEvent f.def_.vch 20 (legNo (bit f.def_.role 1)) (le 4 n) (setFlow n { f with keyLost := true } s)

/-- A flow's key is there again: a later loss issues KEY_LOST anew. DEDUCED: 13 R357 lets a flow go on with a replaced key. -/
def keyFound (n : Nat) (s : State) : State := { s with flows := mmod s.flows n fun f => { f with keyLost := false } }

/-- A payload of a G.729 frame length that ends in an Annex B SID, behind whole 10 ms frames (RFC 3551). -/
def isSid (codec ms : Nat) (x : Bytes) : Bool :=
  codec == 4 && x.length % 10 == 2 && decide (x.length < ms)

/-- Check 6: exactly one frame length of the codec. PRESUMED: the layouts of RFC 3551 and of RFC 6716's TOC, one mono frame, and
RFC 4733's 4 bytes for an event. -/
def payloadFits (codec ms : Nat) (event : Bool) (x : Bytes) : Bool :=
  if event then x.length == 4
  else if codec ≤ 3 then x.length == 8 * ms
  else if codec = 4 then x.length == ms || isSid codec ms x
  else
    let toc := fld x 0 1
    !x.isEmpty && toc % 8 == 0 && (if ms = 10 then toc / 8 == 0 || toc / 8 == 8 else toc / 8 == 1 || toc / 8 == 9)

/-- The packets that failed check 7, 9 or 10 in a row end with this one (09 R237). -/
def breakRun (v : Nat) (c : Bool) (s : State) : State :=
  { s with vchs := mmod s.vchs v fun r => setLeg r c { legOf r c with failRun := 0 } }

/-- A packet that fails a check other than 7, 9 and 10. -/
def dropPkt (v : Nat) (c : Bool) (cnt : Nat) (s : State) : State := count cnt (breakRun v c s)

/-- A packet held under the number of its frame. -/
def holdPkt (pk : RtpIn) (event : Bool) : HeldPkt := { ts := pk.ts, payload := pk.payload, event := event, stamp := pk.stamp }

/-- Anchor a leg with a packet (09 R236); cause is given when it is anchored again (09 R237). -/
def anchorLeg (v : Nat) (c : Bool) (e : SchedEntry) (pk : RtpIn) (event : Bool) (cause : Option Nat) (s : State) : State :=
  match vch s v with
  | none => s
  | some r =>
    let pa := issueNo e (pk.stamp + msU r.par.jbInit)
    let l := legOf r c
    let l := { l with
      anchor := some (pk.ts, pa), delta := 0, lastMove := none, failRun := 0, reanchor := none, silent := false
      held := [(frameKey 0, holdPkt pk event)]
      margins := [(pk.stamp, (issueInst e pa : Int) - pk.stamp, true)]
      lastRx := some pk.stamp, lastSeq := some pk.seq, lastTs := pk.ts, rxPkts := satAdd 0xFFFFFFFF l.rxPkts 1 }
    let s := count 112 (setVch v (setLeg r c l) s)
    match cause with
    | some k => count 129 (pendEvent v 18 (legNo c) (le 1 k) s)
    | none => s

/-- A packet that fails check 7, 9 or 10 (09 R237). -/
def checkFail (v : Nat) (c : Bool) (cnt : Nat) (s : State) : State :=
  match vch s v with
  | none => s
  | some r =>
    let l := legOf r c
    let n := l.failRun + 1
    count cnt (setVch v
      (setLeg r c { l with failRun := n, reanchor := if 8 ≤ n then some (l.reanchor.getD 0) else l.reanchor }) s)

/-- A late packet in adaptive mode moves the mapping (09 R240). -/
def lateGrow (v : Nat) (c : Bool) (inst : Instant) (stamp : Instant) (s : State) : State :=
  match vch s v with
  | none => s
  | some r =>
    let l := legOf r c
    let l := { l with late := satAdd 0xFFFFFFFF l.late 1
                      margins := (trimMargins stamp l).margins ++ [(stamp, (inst : Int) - stamp, false)] }
    let f := msU r.par.frameMs
    let k := (stamp - inst + msU 2) / f + 1
    let d := (legDepth l stamp).toNat
    let k := min k ((msU r.par.jbMax - d) / f)
    if r.par.jbMode = 1 ∨ r.ecDisabled ∨ k = 0 ∨ msU r.par.jbMax < d then setVch v (setLeg r c l) s
    else count 127 (setVch v (setLeg r c (moveLeg k r.par.frameMs stamp l)) s)

/-- Checks 7 to 10 of a packet on an anchored leg (09 R231, R236). DEDUCED: an event packet is the frame in which the duration
that it reports ends. -/
def mappedPkt (v : Nat) (c : Bool) (e : SchedEntry) (pk : RtpIn) (event : Bool) (s : State) : State :=
  match vch s v with
  | none => s
  | some r =>
    let l := legOf r c
    match l.anchor with
    | none => s
    | some (tsa, pa) =>
      let sS : Int := legS r.par c
      let dur : Nat := if event then fldBe pk.payload 2 2 - 1 else 0
      let x := sgn 32 (unsgn 32 ((pk.ts : Int) + dur - tsa))
      if !event ∧ x % sS ≠ 0 then checkFail v c 119 s
      else
        let n := x / sS
        let p := ((pa : Int) + n + l.delta).toNat
        let inst := issueInst e p
        if mhas l.held (frameKey n) then dropPkt v c 120 s
        else if inst ≤ pk.stamp then lateGrow v c inst pk.stamp (checkFail v c 121 s)
        else if inst > pk.stamp + msU (r.par.jbMax + 60) then checkFail v c 122 s
        else
          let l := trimMargins pk.stamp l
          let l := { l with
            held := mput l.held (frameKey n) (holdPkt pk event)
            failRun := 0, lastRx := some pk.stamp, lastSeq := some pk.seq, lastTs := pk.ts
            rxPkts := satAdd 0xFFFFFFFF l.rxPkts 1 }
          let l := { l with margins := l.margins ++ [(pk.stamp, (inst : Int) - pk.stamp, true)] }
          count 112 (setVch v (setLeg r c l) s)

/-- What a packet that passed checks 1 to 6 says for the leg's reports. PRESUMED: RFC 3550's highest sequence number and jitter. -/
def rtcpTake (clk : Nat) (pk : RtpIn) (x : RtcpRx) : RtcpRx :=
  let at_ : Int := pk.stamp * (1000 * clk) / secU
  let transit := at_ - pk.ts
  let dev := match x.transit with
    | some t => (sgn 32 (unsgn 32 (transit - t))).natAbs
    | none => 0
  if !x.started then { base := pk.seq, maxExt := pk.seq, received := 1, started := true, transit := some transit
                       lsr := x.lsr, lsrAt := x.lsrAt }
  else { x with
    maxExt := x.maxExt + (sgn 16 (unsgn 16 ((pk.seq : Int) - x.maxExt))).toNat, received := x.received + 1
    transit := some transit, jitter := x.jitter + dev - (x.jitter + 8) / 16 }

/-- A packet that passed checks 1 to 6 (09 R236, R237). -/
def checkedPkt (v : Nat) (c : Bool) (pk : RtpIn) (event : Bool) (s : State) : State :=
  match vch s v, playoutEntry (activeBank s) v with
  | some r, some e =>
    let l := legOf r c
    let s := setVch v (setLeg r c { l with rtcp := rtcpTake (clkMs (codecOf r.par c)) pk l.rtcp }) s
    let jump : Bool := match l.lastSeq with
      | some q => decide (100 < (sgn 16 (unsgn 16 ((pk.seq : Int) - q))).natAbs)
          || decide (1000 * clkMs (codecOf r.par c) < (sgn 32 (unsgn 32 ((pk.ts : Int) - l.lastTs))).natAbs)
      | none => false
    if l.silent then
      anchorLeg v c e pk event (some 4) (pendEvent v 17 (legNo c) [] s)
    else match l.anchor, l.reanchor with
      | none, k => anchorLeg v c e pk event k s
      | some _, some k => anchorLeg v c e pk event (some k) s
      | some _, none => if jump then anchorLeg v c e pk event (some 1) s else mappedPkt v c e pk event s
  | _, _ => s

/-- A flow's own SSRC: the one it expects, or has learned, or learns now (09 R232). -/
def ownSsrc (f : FlowRun) (l : Leg) (ssrc : Nat) : Bool :=
  if f.def_.ssrc ≠ 0 then f.def_.ssrc == ssrc else l.ssrc.isNone || l.ssrc == some ssrc

/-- The SRTP context of a packet's SSRC: the highest index and the replay window. DEDUCED: another SSRC has a context of its own,
which the flow takes over with the SSRC (09 R232). -/
def rxContext (f : FlowRun) (l : Leg) (ssrc : Nat) : Option Nat × List Nat :=
  if ownSsrc f l ssrc then (f.high, f.window)
  else match l.cand with
    | some c => if c.ssrc = ssrc then (c.high, c.window) else (none, [])
    | none => (none, [])

/-- A packet of an SSRC that the leg has not learned: it fails until 8 in a row have passed checks 1 to 4. ctx is the SSRC's
context with this packet (09 R232). -/
def foreignSsrc (v : Nat) (c : Bool) (n : Nat) (f : FlowRun) (l : Leg) (ssrc : Nat) (ctx : Option Nat × List Nat) (s : State) :
    Bool × State :=
  let k := match l.cand with
    | some x => if x.ssrc = ssrc then x.n + 1 else 1
    | none => 1
  let put := fun (g : Leg → Leg) (s : State) => { s with vchs := mmod s.vchs v fun r => setLeg r c (g (legOf r c)) }
  if k < 8 then (false, put (fun l => { l with cand := some { ssrc := ssrc, n := k, high := ctx.1, window := ctx.2 } }) s)
  else
    let s := put (fun l => { l with ssrc := some ssrc, cand := none, held := [], reanchor := some 3
                                    rtcp := { lsr := l.rtcp.lsr, lsrAt := none } }) s
    (true, pendEvent v 6 (legNo c) (le 4 (l.ssrc.getD 0) ++ le 4 ssrc)
      (setFlow n { f with high := ctx.1, window := ctx.2 } s))

/-- Check 5 (09 R232): the SSRC passes, fails, or replaces the learned one. -/
def ssrcCheck (v : Nat) (c : Bool) (n : Nat) (ssrc : Nat) (ctx : Option Nat × List Nat) (s : State) : Bool × State :=
  match vch s v, mget s.flows n with
  | some r, some f =>
    let l := legOf r c
    if f.def_.ssrc ≠ 0 then (f.def_.ssrc == ssrc, s)
    else if ownSsrc f l ssrc then (true, setVch v (setLeg r c { l with ssrc := some ssrc, cand := none }) s)
    else foreignSsrc v c n f l ssrc ctx s
  | _, _ => (false, s)

/-- Checks 4 to 10 of a packet whose payload is at hand (09 R231). -/
def openedPkt (v : Nat) (c : Bool) (n : Nat) (r : VchRun) (pk : RtpIn) (ctx : Option Nat × List Nat) (s : State) : State :=
  let audio := if c then r.par.ptC else r.par.ptF
  let evt := if c then r.par.evtPtC else r.par.evtPtF
  let event := decide (evt ≠ 0) && pk.pt == evt
  if pk.pt ≠ audio ∧ !event then dropPkt v c 116 s
  else
    let (ok, s) := ssrcCheck v c n pk.ssrc ctx s
    if !ok then dropPkt v c 117 s
    else if !payloadFits (codecOf r.par c) r.par.frameMs event pk.payload then dropPkt v c 118 s
    else checkedPkt v c pk event s

/-- The index of an authentic packet enters its context: the flow's, or the one that the candidate SSRC keeps. -/
def takeIndex (n : Nat) (own : Bool) (f : FlowRun) (ctx : Option Nat × List Nat) (s : State) : State :=
  if own ∧ f.def_.profile ≠ 0 then setFlow n { f with high := ctx.1, window := ctx.2 } s else s

/-- A voice packet of a receive flow, from the unit's own port or mirrored (09 R229-R231). DEDUCED: the padding of an encrypted
packet is judged once it is decrypted. -/
def flowPkt (pk : UdpFrame) (n : Nat) (f : FlowRun) (r : VchRun) (s : State) : State :=
  let v := f.def_.vch
  let c := bit f.def_.role 1
  let prof := f.def_.profile
  let b := pk.bytes
  match rtpBody b with
  | none => dropPkt v c 113 s
  | some h =>
    let plain := unpad (fldBe b 0 1) (b.drop h)
    if b.length < h + srtpTag prof ∨ (prof = 0 ∧ plain.isNone) then dropPkt v c 113 s
    else if !flowKey s f then keyLostEvent n (useRefused (dropPkt v c 114 s))
    else
      let s := keyFound n s
      let f := { f with keyLost := false }
      let ssrc := fldBe b 8 4
      let (high, window) := rxContext f (legOf r c) ssrc
      let i := rtpIndex f.def_.roc0 high (fldBe b 2 2)
      match if prof = 0 then some (b.drop h) else Config.srtpOpen prof (flowKeyBytes s f) i b with
      | none => dropPkt v c 114 s
      | some body =>
        match unpad (fldBe b 0 1) body with
        | none => dropPkt v c 113 s
        | some x =>
          if prof ≠ 0 ∧ !replayOk high window i then dropPkt v c 115 s
          else
            let ctx := if prof = 0 then (none, []) else replayTake high window i
            openedPkt v c n r { pt := fldBe b 1 1 % 128, seq := fldBe b 2 2, ts := fldBe b 4 4, ssrc := ssrc, payload := x
                                stamp := pk.stamp } ctx (takeIndex n (ownSsrc f (legOf r c) ssrc) f ctx s)

/-- An RTCP payload type, which RTCP_MUX tells from RTP (09 R231). -/
def isRtcp (b : Bytes) : Bool := decide (200 ≤ fldBe b 1 1) && decide (fldBe b 1 1 ≤ 204)

/-- The UDP port of a flow's voice packets. -/
def voicePort (pk : UdpFrame) (d : FlowDef) : Bool := d.localUdp == pk.dstUdp && !(bit d.role 3 && isRtcp pk.bytes)

/-- The receive flow of a voice packet. -/
def voiceFlow (s : State) (pk : UdpFrame) : Option (Nat × FlowRun) :=
  flowOf s pk.port pk.vlan pk.dst pk.src pk.srcUdp (voicePort pk) 0

/-- A voice packet, from the unit's own port or mirrored (09 R231). -/
def voicePkt (pk : UdpFrame) (s : State) : State :=
  match voiceFlow s pk with
  | none => s
  | some (n, f) => match vch s f.def_.vch with
    | none => s
    | some r => flowPkt pk n f r s

/-- VOICE_PACKET_RECEIVED (09 R231). -/
def execVoicePacketReceived (pk : UdpFrame) (s : State) : Host.Outcome State Fault Refusal :=
  if inRun s ∧ (voiceFlow s pk).isSome then
    let (ok, s) := macTake pk.port pk.len pk.vlan (rxClass pk.vlan pk.pcp 4) pk.held pk.rct pk.stamp s
    if !ok then done s
    else
      let (ok, s) := svcInput pk.port pk.dst pk.len pk.stamp (.voice pk) s
      done (if ok then voicePkt pk s else s)
  else done s

/-- LEG_SILENT: no packet accepted for 2 s since the channel opened (09 R241). -/
def execLegSilent (v : Nat) (leg : Bool) (s : State) : Host.Outcome State Fault Refusal :=
  match vch s v with
  | none => done s
  | some r =>
    let l := legOf r leg
    if inRun s ∧ !l.silent ∧ vchOpenNow s v ∧ r.openAt.isNone then
      let s := advanceTo (max r.opened (l.lastRx.getD 0) + 2 * secU) s
      done (pendEvent v 16 (legNo leg) [] (setVch v (setLeg r leg { l with silent := true, held := [] }) s))
    else done s

end Sys2Proof.Machine
end

