-- ==== Sys2Proof/Machine/Rtcp.lean ====
section
/-! DEFINITION. The legs' RTCP: what a report says, and what the far end's report brings (09 R235). PRESUMED: the packets of
RFC 3550, and the places of RFC 3711 and RFC 7714 for an SRTCP index. -/

namespace Sys2Proof.Machine

/-! ## Sending -/

/-- A hexadecimal group of an IPv6 address, without leading zeros. -/
def hexText (v : Nat) : Bytes :=
  let ds := [v / 4096 % 16, v / 256 % 16, v / 16 % 16, v % 16]
  let ds := ds.dropWhile (· == 0)
  (if ds.isEmpty then [0] else ds).map fun d => BitVec.ofNat 8 (if d < 10 then 48 + d else 87 + d)

/-- An address in text form. DESIGN CHOICE: an IPv6 address as its eight groups. -/
def addrText (a : Nat) : Bytes :=
  if isV4 a then List.intercalate (le 1 46) ([24, 16, 8, 0].map fun k => decText (a / 2 ^ k % 256))
  else List.intercalate (le 1 58) ((List.range 8).map fun k => hexText (a / 2 ^ (16 * (7 - k)) % 65536))

/-- The CNAME of a leg's flow: "vch", the VCH, "@" and LOCAL_ADDR. -/
def cname (v : Nat) (d : FlowDef) : Bytes := [0x76, 0x63, 0x68] ++ decText v ++ [0x40] ++ addrText d.localAddr

/-- The SDES packet of a flow. -/
def sdes (v : Nat) (d : FlowDef) : Bytes :=
  let item := le 1 1 ++ le 1 (cname v d).length ++ cname v d ++ [0]
  let item := padTo 4 item
  [0x81, 202] ++ be 2 (1 + item.length / 4) ++ be 4 d.ssrc ++ item

/-- Units of 1/65,536 s. -/
def shortTime (d : Nat) : Nat := d / 65536

/-- The packets that a leg expects of its source. -/
def rtcpExpected (x : RtcpRx) : Nat := if x.started then x.maxExt + 1 - x.base else 0

/-- The RR block on a source. -/
def rrBlock (ssrc : Nat) (x : RtcpRx) (t : Instant) : Bytes :=
  let expected := rtcpExpected x
  let lost : Int := (expected : Int) - x.received
  let dExp := expected - x.expPrior
  let dLost : Int := (dExp : Int) - ((x.received - x.recPrior : Nat) : Int)
  let fraction := if dExp = 0 ∨ dLost ≤ 0 then 0 else min 255 (dLost.toNat * 256 / dExp)
  let dlsr := match x.lsrAt with
    | some a => shortTime (t - a)
    | none => 0
  be 4 ssrc ++ be 1 fraction ++ be 3 (unsgn 24 (max (-8388608) (min 8388607 lost))) ++ be 4 (x.maxExt % 2 ^ 32)
    ++ be 4 (x.jitter / 16) ++ be 4 (if x.lsrAt.isSome then x.lsr else 0) ++ be 4 dlsr

/-- What the next report counts from. -/
def rtcpMark (x : RtcpRx) : RtcpRx := { x with expPrior := rtcpExpected x, recPrior := x.received }

/-- A time of the NTP format: seconds of UTC from 1900, and the fraction. -/
def ntpTime (s : State) (t : Instant) : Nat := (socOf s t + 2208988800) % 2 ^ 32 * 2 ^ 32 + t % secU

/-- The RTP timestamp of an instant, from that of the flow's next issue. -/
def rtpNow (e : Option SchedEntry) (issue clk : Nat) (f : FlowRun) (t : Instant) : Nat :=
  match e with
  | some e => unsgn 32 ((f.ts : Int) + ((t : Int) - issueInst e (issue + 1)) * (1000 * clk) / secU)
  | none => f.ts

/-- The SSRC that a leg's receive flow has: given, or learned. -/
def rxSsrc (f : FlowRun) (l : Leg) : Option Nat := if f.def_.ssrc ≠ 0 then some f.def_.ssrc else l.ssrc

/-- The compound packet of a leg at an instant: an SR, with a block on what its receive flow's source sends, and the CNAME. -/
def rtcpCompound (s : State) (v : Nat) (c : Bool) (r : VchRun) (f : FlowRun) (t : Instant) : Bytes :=
  let block := match legFlow s v c false with
    | some (_, g) => match rxSsrc g (legOf r c) with
      | some x => rrBlock x (legOf r c).rtcp t
      | none => []
    | none => []
  let n := block.length / 24
  [BitVec.ofNat 8 (0x80 + n), 200] ++ be 2 (6 + 6 * n) ++ be 4 f.def_.ssrc ++ be 8 (ntpTime s t)
    ++ be 4 (rtpNow (playoutEntry (activeBank s) v) r.issue (clkMs (codecOf r.par c)) f t)
    ++ be 4 (f.packets % 2 ^ 32) ++ be 4 (f.octets % 2 ^ 32) ++ block ++ sdes v f.def_

/-- Bytes of a profile's authentication tag on RTCP: 80 bits under profiles 1 and 2. -/
def srtcpTag (profile : Nat) : Nat := if profile ≤ 2 then 10 else 16

/-- A packet as it is sent: SRTCP adds the index word and the tag. -/
def rtcpSealed (s : State) (f : FlowRun) (x : Bytes) : Bytes :=
  if f.def_.profile = 0 then x
  else
    let n := x.length + 4 + srtcpTag f.def_.profile
    (Config.srtcpSeal f.def_.profile (flowKeyBytes s f) f.rtcpIndex x ++ zeros n).take n

/-- A frame of a transmit flow, to a UDP port beside the flow's (09 R233, R235). -/
def flowSend (d : FlowDef) (up len : Nat) (m : IpMsg) : IpSend :=
  { cls := 4, vlan := d.vlan, dscp := d.dscp, src := some d.localAddr, srcUdp := d.localUdp + up, dst := d.remoteAddr
    dstUdp := d.remoteUdp + up, len := len, m := m }

/-- A leg's report leaves on its transmit flow. -/
def rtcpReport (v : Nat) (c : Bool) (r : VchRun) (n : Nat) (f : FlowRun) (s : State) : State :=
  let d := f.def_
  let up := if bit d.role 3 then 0 else 1
  let body := rtcpSealed s f (rtcpCompound s v c r f (now s))
  let s := setVch v (setLeg r c { legOf r c with rtcp := rtcpMark (legOf r c).rtcp }) s
  let s := if d.profile = 0 then s else setFlow n { f with rtcpIndex := (f.rtcpIndex + 1) % 2 ^ 31, keyLost := false } s
  txIp d.port (flowSend d up body.length (.rtcp n body)) s

/-- RTCP_SEND: at the end of the leg's reporting interval, 5 s times a random factor (09 R235). With the flow's key lost nothing
leaves (09 R230). -/
def execRtcpSend (v : Nat) (leg : Bool) (s : State) : Host.Outcome State Fault Refusal :=
  match vch s v, legFlow s v leg true with
  | some r, some (n, f) =>
    if inRun s ∧ emits s ∧ vchOpenNow s v then
      let s := advanceTo ((legOf r leg).rtcpAt.getD (now s)) s
      let (x, s) := drawFree s
      let r := setLeg r leg { legOf r leg with rtcpAt := some (now s + 5 * secU / 2 + x % (5 * secU)) }
      let s := setVch v r s
      if flowKey s f then done (rtcpReport v leg r n f s)
      else done (keyLostEvent n (useRefused (count 124 s)))
    else done s
  | _, _ => done s

/-! ## Receiving -/

/-- The packets of a compound packet, by type, each without those behind it. -/
def rtcpParts (fuel : Nat) (b : Bytes) : List (Nat × Bytes) :=
  match fuel with
  | 0 => []
  | k + 1 =>
    let n := 4 * (fldBe b 2 2 + 1)
    if b.length < 8 ∨ b.length < n ∨ fldBe b 0 1 / 64 ≠ 2 then [] else (fldBe b 1 1, b.take n) :: rtcpParts k (b.drop n)

/-- The report blocks of an SR or an RR. -/
def rtcpBlocks (p : Nat × Bytes) : List Bytes :=
  let at_ := if p.1 = 200 then 28 else 8
  if p.1 = 200 ∨ p.1 = 201 then
    ((List.range (fldBe p.2 0 1 % 32)).map fun i => slice p.2 (at_ + 24 * i) 24).filter fun x => x.length == 24
  else []

/-- Whole µs of a time in units of 1/65,536 s. -/
def shortUs (v : Nat) : Nat := v * 1000000 / 65536

/-- What a block on the leg's own source says of the far end. -/
def farReport (clk lsrNow : Nat) (x : Bytes) (l : Leg) : Leg :=
  let lsr := fldBe x 16 4
  { l with
    farLost := fldBe x 4 1, farJitter := min 65535 (fldBe x 12 4 * 100 / clk)
    rtt := if lsr = 0 then l.rtt else shortUs (unsgn 32 ((lsrNow : Int) - lsr - fldBe x 20 4)) }

/-- A leg after a compound packet that arrived at an instant; mine is its transmit flow's SSRC. -/
def rtcpLeg (clk : Nat) (mine theirs : Option Nat) (mid : Nat) (t : Instant) (l : Leg) (p : Nat × Bytes) : Leg :=
  let l := if p.1 = 200 ∧ theirs = some (fldBe p.2 4 4)
    then { l with rtcp := { l.rtcp with lsr := fldBe p.2 10 4, lsrAt := some t } } else l
  (rtcpBlocks p).foldl (fun l x => if mine = some (fldBe x 0 4) then farReport clk mid x l else l) l

/-- RTCP's UDP port of a flow, with RTCP_MUX by payload type (09 R227, R231). -/
def rtcpPort (pk : UdpFrame) (d : FlowDef) : Bool :=
  if bit d.role 3 then d.localUdp == pk.dstUdp && isRtcp pk.bytes else d.localUdp + 1 == pk.dstUdp

/-- The receive flow of an RTCP packet. -/
def rtcpFlow (s : State) (pk : UdpFrame) : Option (Nat × FlowRun) :=
  flowOf s pk.port pk.vlan pk.dst pk.src pk.srcUdp (rtcpPort pk) 1

/-- What an authentic compound packet brings: the leg's figures, and a BYE event. -/
def rtcpTaken (v : Nat) (c : Bool) (f : FlowRun) (r : VchRun) (t : Instant) (b : Bytes) (s : State) : State :=
  let parts := rtcpParts b.length b
  let mine := (legFlow s v c true).map (·.2.def_.ssrc)
  let l := parts.foldl (rtcpLeg (clkMs (codecOf r.par c)) mine (rxSsrc f (legOf r c)) (ntpTime s t / 65536 % 2 ^ 32) t) (legOf r c)
  let s := setVch v (setLeg r c l) s
  match parts.find? fun p => p.1 == 203 with
  | some p => pendEvent v 19 (legNo c) (le 4 (fldBe p.2 4 4)) s
  | none => s

/-- The SRTCP index of a packet: its word stands before the tag, and behind it under the AEAD profiles. -/
def srtcpIndex (profile : Nat) (b : Bytes) : Nat :=
  fldBe b (b.length - (if profile ≤ 2 then 14 else 4)) 4 % 2 ^ 31

/-- An RTCP packet of a receive flow, authenticated like RTP. -/
def flowRtcp (pk : UdpFrame) (n : Nat) (f : FlowRun) (r : VchRun) (s : State) : State :=
  let v := f.def_.vch
  let c := bit f.def_.role 1
  let prof := f.def_.profile
  if prof = 0 then rtcpTaken v c f r pk.stamp pk.bytes s
  else if !flowKey s f then keyLostEvent n (useRefused (count 114 s))
  else
    let s := keyFound n s
    let f := { f with keyLost := false }
    match Config.srtcpOpen prof (flowKeyBytes s f) pk.bytes with
    | none => count 114 s
    | some x =>
      let i := srtcpIndex prof pk.bytes
      if !replayOk f.rtcpHigh f.rtcpWindow i then count 115 s
      else
        let ctx := replayTake f.rtcpHigh f.rtcpWindow i
        rtcpTaken v c f r pk.stamp x (setFlow n { f with rtcpHigh := ctx.1, rtcpWindow := ctx.2 } s)

/-- An RTCP packet, from the unit's own port or mirrored. -/
def rtcpPkt (pk : UdpFrame) (s : State) : State :=
  match rtcpFlow s pk with
  | none => s
  | some (n, f) => match vch s f.def_.vch with
    | none => s
    | some r => flowRtcp pk n f r s

/-- RTCP_PACKET_RECEIVED (09 R235). -/
def execRtcpPacketReceived (pk : UdpFrame) (s : State) : Host.Outcome State Fault Refusal :=
  if inRun s ∧ (rtcpFlow s pk).isSome then
    let (ok, s) := macTake pk.port pk.len pk.vlan (rxClass pk.vlan pk.pcp 4) pk.held pk.rct pk.stamp s
    if !ok then done s
    else
      let (ok, s) := svcInput pk.port pk.dst pk.len pk.stamp (.rtcp pk) s
      done (if ok then rtcpPkt pk s else s)
  else done s

end Sys2Proof.Machine
end

