-- ==== Sys2Proof/Machine/Playout.lean ====
section
/-! DEFINITION. Bandstand's PLAYOUT issues: frames, decoding, echo cancellation, tones, relay and transmission, and how channels
open, change and close (09 R225, R226, R233-R249, R256-R258). -/

namespace Sys2Proof.Machine

/-! ## A leg's frame of an issue (09 R239-R241) -/

/-- What a leg has for an issue: nothing that is due, a frame of its codec, a frame that an event stands for, or a missing one. -/
inductive LegFrame where
  | idle
  | audio (payload : Bytes)
  | event (h : HeldPkt)
  | missing
deriving DecidableEq, Repr

/-- The frame in which an event starts. -/
def startFrame (l : Leg) (sS : Nat) (h : HeldPkt) : Int := match l.anchor with
  | some (tsa, _) => sgn 32 (unsgn 32 ((h.ts : Int) - tsa)) / (sS : Int)
  | none => 0

/-- Event codes other than 0-15 are ignored (09 R248). -/
def eventTaken (h : HeldPkt) : Bool := h.event && decide (fld h.payload 0 1 ≤ 15)

/-- Frame n of a leg: the packet held for it, or an event whose duration covers it (09 R248). -/
def frameOf (l : Leg) (sS : Nat) (n : Int) : LegFrame :=
  match mget l.held (frameKey n) with
  | some h => if !h.event then .audio h.payload else if eventTaken h then .event h else .missing
  | none => match l.held.find? fun e => decide (frameKey n < e.1) && eventTaken e.2 && decide (startFrame l sS e.2 ≤ n) with
    | some e => .event e.2
    | none => .missing

/-- The payload held for frame n, for a decoder that looks ahead. -/
def nextAudio (l : Leg) (n : Int) : Option Bytes := match mget l.held (frameKey n) with
  | some h => if h.event then none else some h.payload
  | none => none

/-- A frame is decoded, or concealed when it is missing (09 R241): the leg's decoder, and the signal. -/
def legDecode (p : VchParams) (c : Bool) (next : Option Bytes) (l : Leg) (f : LegFrame) : Leg × List Int :=
  let codec := codecOf p c
  let rate := voiceRate p
  let ms := p.frameMs
  match f with
  | .idle => (l, silence rate ms)
  | .event _ => ({ l with lost := 0, sid := false }, silence rate ms)
  | .audio x =>
    let y := Config.voiceDecode codec rate ms l.dec x
    ({ l with dec := y.1, lost := 0, sid := isSid codec ms x }, fitSig rate ms y.2)
  | .missing =>
    match (if bit p.opts 0 ∧ 5 ≤ codec then next else none) with
    | some x =>
      let y := Config.opusFec codec rate ms l.dec x
      ({ l with dec := y.1, lost := 0 }, fitSig rate ms y.2)
    | none =>
      let y := Config.voiceConceal codec rate ms l.dec
      let sig := fitSig rate ms y.2
      ({ l with dec := y.1, lost := if l.sid then 0 else l.lost + ms }, if l.sid then sig else attenuate codec rate l.lost ms sig)

/-- A frame is silent: an Annex B SID, a DTX gap after one, or a frame of low decoded power (09 R240). -/
def frameSilent (p : VchParams) (c : Bool) (l : Leg) (f : LegFrame) (sig : List Int) : Bool :=
  match f with
  | .audio x => isSid (codecOf p c) p.frameMs x || decide (Config.meanPower sig < -500)
  | .missing => l.sid
  | _ => false

/-- What a leg brings to an issue: the leg after it, the frame, its signal, and the counters that it raises. -/
structure LegIssue where
  leg : Leg
  frame : LegFrame
  sig : List Int
  counts : List Nat
deriving DecidableEq, Repr

/-- The frames up to n leave the receive buffer. -/
def dropTo (n : Int) (l : Leg) : Leg := { l with held := l.held.filter fun e => decide (frameKey n < e.1) }

/-- One concealed frame of a leg (09 R241, R254). -/
def bumpConceal (f : LegFrame) (l : Leg) : Leg :=
  if f = .missing then { l with conceal := satAdd 0xFFFFFFFF l.conceal 1 } else l

/-- Frame n of a leg is decoded at an issue, after a shrink of the mapping has discarded it (09 R240). -/
def legFrame (p : VchParams) (c dis : Bool) (t : Instant) (n : Int) (l : Leg) : LegIssue :=
  let f := msU p.frameMs
  let sS := legS p c
  let d := (legDepth l t).toNat
  let can := p.jbMode == 0 && !dis && quiet l t
  let due : LegFrame := if n < 0 then .idle else frameOf l sS n
  let (l1, sig) := legDecode p c (nextAudio l (n + 1)) l due
  let roomy : Bool := match legMin l t with
    | some m => decide (((f + msU 2 : Nat) : Int) ≤ m)
    | none => false
  if can ∧ roomy ∧ msU p.jbMin + f ≤ d ∧ frameSilent p c l due sig ∧ mhas l.held (frameKey (n + 1)) then
    let frame := frameOf l sS (n + 1)
    let (l2, sig) := legDecode p c (nextAudio l (n + 2)) (moveLeg (-1) p.frameMs t l1) frame
    { leg := bumpConceal frame (dropTo (n + 1) l2), frame := frame, sig := sig
      counts := [128] ++ (if frame = .missing then [126] else []) }
  else
    let l2 := bumpConceal due (dropTo n l1)
    let grow := can && !l.margins.isEmpty && decide (d < msU p.jbMin)
    { leg := if grow then moveLeg 1 p.frameMs t l2 else l2, frame := due, sig := sig
      counts := (if due = .missing then [126] else []) ++ (if grow then [127] else []) }

/-- A leg at issue p. rx says that it has a receive flow; a leg without one, or SILENT, gives silence (09 R219, R241). -/
def legIssue (r : VchRun) (c : Bool) (p : Nat) (t : Instant) (rx : Bool) : LegIssue :=
  let l := trimMargins t (legOf r c)
  let idle : LegIssue := { leg := l, frame := .idle, sig := silence (voiceRate r.par) r.par.frameMs, counts := [] }
  if !rx ∨ l.silent then idle
  else match frameAt l p with
    | none => idle
    | some n => legFrame r.par c r.ecDisabled t n l

/-! ## Events on the way through (09 R248) -/

/-- The relay field towards a leg (09 R224). -/
def relayTo (p : VchParams) (c : Bool) : Bool := (if c then p.relay / 4 % 4 else p.relay % 4) = 1

/-- Step 3: towards a leg that does not relay, a Q.23 tone at the event's volume stands for the audio of the event's frames. -/
def applyEvent (p : VchParams) (c : Bool) (x : LegIssue) : List Int :=
  match x.frame with
  | .event h =>
    if relayTo p (!c) then x.sig
    else fitSig (voiceRate p) p.frameMs
      (Config.dtmfTone (voiceRate p) p.frameMs (fld h.payload 0 1) (fld h.payload 1 1 % 64) (fldBe h.payload 2 2))
  | _ => x.sig

/-- An event received on a leg, as it goes on towards the other: code, volume, the event's timestamp and, where the packet that ends
it covers this frame, its duration in ms times the clock. -/
structure EvtIn where
  code : Nat
  vol : Nat
  ts : Nat
  stop : Option Nat
deriving DecidableEq, Repr

/-- A received event is forwarded to a leg that relays. clkIn and clkOut are the legs' clocks. -/
def eventIn (clkIn clkOut : Nat) (f : LegFrame) : Option EvtIn :=
  match f with
  | .event h => some { code := fld h.payload 0 1, vol := fld h.payload 1 1 % 64, ts := h.ts
                       stop := if bit (fld h.payload 1 1) 7 then some (fldBe h.payload 2 2 * clkOut / clkIn) else none }
  | _ => none

/-- The event that a leg sends, after a received one at an issue whose RTP timestamp is ts. -/
def evtForward (ts : Nat) (x : Option EvtIn) (e : Option EvtOut) : Option EvtOut :=
  match x with
  | some i =>
    let cur : EvtOut := match e with
      | some o => if o.src = some i.ts ∧ o.done_.isNone then o else { code := i.code, vol := i.vol, src := some i.ts, start := ts }
      | none => { code := i.code, vol := i.vol, src := some i.ts, start := ts }
    some { cur with done_ := i.stop }
  | none => e.map fun o => if o.src.isSome ∧ o.done_.isNone then { o with done_ := some (unsgn 32 ((ts : Int) - o.start)) } else o

/-- The event that a leg sends, after a digit detected in the frame. The event starts with the tone, before the digit is
accepted. -/
def evtDigit (ts clk : Nat) (e : Option EvtOut) (x : Nat × DtmfEv) : Option EvtOut :=
  match x.2 with
  | .start code level => some { code := code, vol := min 63 level, src := none
                                start := unsgn 32 ((ts : Int) + clk * ((x.1 : Int) + 1 - dtmfOn)) }
  | .stop _ _ ms => e.map fun o => if o.src.isNone ∧ o.done_.isNone then { o with done_ := some (clk * ms) } else o

/-- An event packet: its timestamp, its payload and whether it is the event's first. -/
structure EvtPkt where
  ts : Nat
  payload : Bytes
  first : Bool
deriving DecidableEq, Repr

/-- The event packet of an issue that ends at RTP timestamp end_, and what is left to send: the end goes out three times. PRESUMED:
RFC 4733 splits an event whose duration exceeds its field into segments of 65,535. -/
def evtSend (end_ : Nat) (e : Option EvtOut) : Option EvtPkt × Option EvtOut :=
  match e with
  | none => (none, none)
  | some o =>
    let dur := o.done_.getD (unsgn 32 ((end_ : Int) - o.start))
    let k := (dur - 1) / 65535
    let p : EvtPkt := { ts := (o.start + 65535 * k) % 2 ^ 32, first := !o.sent
                        payload := be 1 o.code ++ be 1 (o.vol + b2n o.done_.isSome * 128) ++ be 2 (dur - 65535 * k) }
    (some p, if o.done_.isSome ∧ 2 ≤ o.ends then none
             else some { o with sent := true, ends := o.ends + b2n o.done_.isSome })

/-! ## Detection (09 R245-R249) -/

/-- What is found on one leg's input in an issue: its detectors, the events, the digits, the ms that a relay replaces, and whether a
reversal stands there that may disable the canceller. -/
structure LegTones where
  dtmf : DtmfRun
  modem : ModemRun
  events : List (Nat × Nat × Bytes)
  digits : List (Nat × DtmfEv)
  mask : List Bool
  reversal : Bool
deriving DecidableEq, Repr

/-- DATA of a digit's event. DESIGN CHOICE: one byte each for code and level, two for the duration. -/
def digitEvent (leg : Nat) (x : Nat × DtmfEv) : Nat × Nat × Bytes :=
  match x.2 with
  | .start code level => (7, leg, le 1 code ++ le 1 level)
  | .stop code level ms => (8, leg, le 1 code ++ le 1 level ++ le 2 (min 65535 ms))

/-- Step 5 on one leg's input (09 R242): Sout for leg F, Rin for leg C. -/
def legTones (p : VchParams) (c : Bool) (l : Leg) (x : List Int) : LegTones :=
  let rate := voiceRate p
  let (d, ds, mask) := if bit p.toneOpts (legNo c) then dtmfFrame rate l.past x p.frameMs l.dtmf else ({}, [], [])
  let (m, codes, rev) := if bit p.toneOpts 2 then modemFrame rate l.past x p.frameMs l.modem else ({}, [], false)
  { dtmf := d, modem := m, digits := ds, mask := mask, reversal := rev
    events := ds.map (digitEvent (legNo c)) ++ codes.map fun k => (k, legNo c, []) }

/-- Call-progress tones on Sout: the detectors that TONE_MASK selects, and the events. -/
def toneEvents (p : VchParams) (blk : Bytes) (past x : List Int) (tones : Map ToneRun) : Map ToneRun × List (Nat × Nat × Bytes) :=
  ((List.range (fld blk 1 1)).filter (bit p.toneMask)).foldl (fun a i =>
    let y := toneFrame (voiceRate p) (slice blk (4 + 24 * i) 24) past x p.frameMs (mgetD a.1 i {})
    (mput a.1 i y.1, a.2 ++ if y.2 then [(9, 0, le 1 i)] else [])) (tones, [])

/-- The tone disabler (09 R245): whether the canceller is disabled after the issue. low is how long Sin and Rin have stayed below
−36 dBm0. DEDUCED: clearing DISABLER enables it again. -/
def disablerNext (p : VchParams) (was hit : Bool) (low : Nat) : Bool :=
  if was then decide (low < 250) && bit p.ecOpts 4
  else hit && decide (p.ecTail ≠ 0) && bit p.ecOpts 4 && bit p.toneOpts 2

/-- How long both inputs have been below −36 dBm0, in ms. -/
def lowNext (p : VchParams) (low : Nat) (sin rin : List Int) : Nat :=
  if Config.meanPower sin < -360 ∧ Config.meanPower rin < -360 then low + p.frameMs else 0

/-- Step 4 (09 R243): the canceller with its taps, Sout, and its figures. -/
def cancelStep (r : VchRun) (sin rin : List Int) : VchRun × List Int :=
  if r.par.ecTail = 0 then ({ r with ecConverged := false, erle := 0 }, sin)
  else if r.ecDisabled then (r, sin)
  else
    let y := Config.cancelEcho r.par.ecTail (r.par.ecOpts / 4 % 4) (r.par.ecOpts % 4) (voiceRate r.par) r.ec sin rin
    ({ r with ec := y.next, ecConverged := y.converged, erle := y.erle }, fitSig (voiceRate r.par) r.par.frameMs y.sout)

/-! ## Transmission (09 R229, R230, R233, R258) -/

/-- Payload bytes of one frame of a codec. -/
def payloadLen (codec ms : Nat) : Nat :=
  if codec ≤ 3 then 8 * ms else if codec = 4 then ms else if codec = 5 then 12 * ms / 8 else 20 * ms / 8

/-- One frame encoded for a leg: the leg's encoder, and the payload; none in a DTX pause. -/
def legEncode (p : VchParams) (c : Bool) (l : Leg) (x : List Int) : Leg × Option Bytes :=
  let codec := codecOf p c
  let dtx := bit p.opts 1 && codec == 4
  let (st, kind, y) := Config.voiceEncode codec (voiceRate p) p.frameMs dtx l.enc x
  let n := payloadLen codec p.frameMs
  ({ l with enc := st }, if dtx ∧ kind = 0 then none else if dtx ∧ kind = 1 then some y else some ((y ++ zeros n).take n))

/-- A transmit flow at issue p: after a takeover it goes on from the copy, whose last issue is r.issue (09 R258). -/
def txAt (sS p issue : Nat) (f : FlowRun) : FlowRun :=
  if f.resume then
    let k := p - issue
    let q := f.roc * 65536 + f.seq + k - 1
    { f with seq := q % 65536, roc := q / 65536, ts := (f.ts + (k - 1) * sS) % 2 ^ 32 }
  else f

/-- The flow's index moves on. -/
def txNext (f : FlowRun) : FlowRun := { f with seq := (f.seq + 1) % 65536, roc := f.roc + (f.seq + 1) / 65536 }

/-- A flow that sends nothing at an issue: its timestamp advances. -/
def txIdle (sS : Nat) (f : FlowRun) : FlowRun :=
  let f := if f.resume then txNext f else f
  { f with ts := (f.ts + sS) % 2 ^ 32 }

/-- What a flow sends at an issue: a payload, or an event in place of audio. -/
def rtpOut (s : State) (p : VchParams) (c : Bool) (n : Nat) (f : FlowRun) (x : Bytes) (e : Option EvtPkt) : RtpOut :=
  let d := f.def_
  let pt := match e with
    | some _ => if c then p.evtPtC else p.evtPtF
    | none => if c then p.ptC else p.ptF
  let marker := f.marker || (match e with
    | some y => y.first
    | none => false)
  let ts := match e with
    | some y => y.ts
    | none => f.ts
  let x := match e with
    | some y => y.payload
    | none => x
  let hdr := be 1 0x80 ++ be 1 (pt + b2n marker * 128) ++ be 2 f.seq ++ be 4 ts ++ be 4 d.ssrc
  let len := x.length + srtpTag d.profile
  let index := f.roc * 65536 + f.seq
  { flow := n, pt := pt, marker := marker, seq := f.seq, ts := ts, ssrc := d.ssrc, index := index
    body := if d.profile = 0 then x
            else (Config.srtpSeal d.profile (flowKeyBytes s f) index hdr x ++ zeros len).take len }

/-- A transmit flow at an issue: its timestamp advances, and it sends at most one packet. -/
def txIssue (v : Nat) (c : Bool) (p : Nat) (x : Option Bytes) (e : Option EvtPkt) (s : State) : State :=
  match vch s v, legFlow s v c true with
  | some r, some (n, f) =>
    if !emits s then s
    else
      let sS := legS r.par c
      let f := txAt sS p r.issue f
      if x.isNone ∧ e.isNone then setFlow n { txIdle sS f with marker := true } s
      else if !flowKey s f then keyLostEvent n (useRefused (count 124 (setFlow n (txIdle sS f) s)))
      else if f.def_.profile ≠ 0 ∧ 2 ^ 48 ≤ f.roc * 65536 + f.seq then keyLostEvent n (count 125 (setFlow n (txIdle sS f) s))
      else
        let o := rtpOut s r.par c n f (x.getD []) e
        let sent : FlowRun := { txNext f with
          ts := (f.ts + sS) % 2 ^ 32, marker := false, resume := false, keyLost := false, packets := f.packets + 1
          octets := f.octets + o.body.length - srtpTag f.def_.profile }
        txIp f.def_.port (flowSend f.def_ 0 (12 + o.body.length) (.rtp o)) (count 123 (setFlow n sent s))
  | _, _ => s

/-- The RTP timestamp of an issue on a leg's transmit flow. -/
def txStamp (s : State) (v : Nat) (r : VchRun) (c : Bool) (p : Nat) : Nat := match legFlow s v c true with
  | some (_, f) => (txAt (legS r.par c) p r.issue f).ts
  | none => 0

/-! ## One issue (09 R242) -/

/-- Count and issue one event of an issue. -/
def issueEvent (v : Nat) (t : Instant) (e : Nat × Nat × Bytes) (s : State) : State :=
  let s := if e.1 = 7 then count 131 s else if e.1 = 9 then count 132 s else if e.1 = 14 then count 130 s else s
  voiceEvent v e.1 e.2.1 e.2.2 t s

/-- Steps 6 and 7 towards one leg: the outgoing audio with what the relay replaces, the event packet, and the encoded frame. -/
structure LegSend where
  leg : Leg
  audio : List Int
  evt : Option EvtPkt
  payload : Option Bytes
deriving DecidableEq, Repr

/-- ts is the issue's RTP timestamp on the leg; from_ is what the other leg brought, and found what was detected on its input. -/
def legSend (p : VchParams) (c : Bool) (ts : Nat) (from_ : LegFrame) (found : LegTones) (l : Leg) (x : List Int) : LegSend :=
  let clk := clkMs (codecOf p c)
  let relay := relayTo p c
  let audio := if relay then muteMs (voiceRate p) (found.mask ++ List.replicate (p.frameMs - found.mask.length) false) x else x
  let evt := if relay then found.digits.foldl (evtDigit ts clk) (evtForward ts (eventIn (clkMs (codecOf p (!c))) clk from_) l.evt)
    else none
  let (pkt, left) := evtSend ((ts + legS p c) % 2 ^ 32) evt
  let (l, payload) := legEncode p c l audio
  { leg := { l with evt := left }, audio := audio, evt := pkt, payload := payload }

/-- The tone disabler, and the events of what it does. -/
def disablerStep (r : VchRun) (sin rin : List Int) (revC : Bool) : VchRun × List (Nat × Nat × Bytes) :=
  let p := r.par
  let (m, _, revF) := if bit p.toneOpts 2 then modemFrame (voiceRate p) r.sinPast sin p.frameMs r.sinModem else ({}, [], false)
  let low := lowNext p r.low sin rin
  let dis := disablerNext p r.ecDisabled (revF || revC) low
  ({ r with sinModem := m, sinPast := heardPast (voiceRate p) r.sinPast sin, low := low, ecDisabled := dis },
   if dis = r.ecDisabled then [] else if dis then [(13, b2n (!revF), []), (14, 0xFF, [])] else [(15, 0xFF, [])])

/-- What a leg heard and found joins its state. -/
def legHeard (p : VchParams) (l : Leg) (x : List Int) (f : LegTones) : Leg :=
  { l with past := heardPast (voiceRate p) l.past x, dtmf := f.dtmf, modem := f.modem }

/-- Steps 1 to 6 and the encoding of step 7: the channel afterwards, what each leg sends, the events and the counters. -/
structure VoiceFrame where
  run : VchRun
  toF : LegSend
  toC : LegSend
  concF : Bool
  concC : Bool
  events : List (Nat × Nat × Bytes)
  counts : List Nat
deriving DecidableEq, Repr

/-- tsF and tsC are the issue's RTP timestamps on the legs. -/
def voiceFrame (r : VchRun) (blk : Bytes) (p tsF tsC : Nat) (t : Instant) (rxF rxC : Bool) : VoiceFrame :=
  let f := legIssue r false p t rxF
  let c := legIssue r true p t rxC
  let sin := applyEvent r.par false f
  let rin := applyEvent r.par true c
  let (r1, sout) := cancelStep r sin rin
  let foundF := legTones r.par false f.leg sout
  let foundC := legTones r.par true c.leg rin
  let (tones, toneEv) := toneEvents r.par blk f.leg.past sout r.tones
  let (r2, ecEv) := disablerStep r1 sin rin foundC.reversal
  let toC := legSend r.par true tsC f.frame foundF (legHeard r.par c.leg rin foundC) sout
  let toF := legSend r.par false tsF c.frame foundC (legHeard r.par f.leg sout foundF) rin
  { run := { r2 with legF := toF.leg, legC := toC.leg, tones := tones, events := [] }
    toF := toF, toC := toC, concF := decide (f.frame = .missing), concC := decide (c.frame = .missing)
    events := r.events ++ foundF.events ++ foundC.events ++ toneEv ++ ecEv, counts := f.counts ++ c.counts }

/-- The channel's last issue, on the unit that sends (09 R258). -/
def noteIssue (v p : Nat) (s : State) : State :=
  if emits s then { s with vchs := mmod s.vchs v fun r => { r with issue := p } } else s

/-- The VOICE task of an issue (09 R242). -/
def voiceTask (k : TaskInst) (s : State) : State :=
  let v := k.tmpl.object
  match vch s v, playoutEntry (activeBank s) v with
  | some r, some e =>
    let p := issueNo e k.t
    let x := voiceFrame r k.tmpl.blk p (txStamp s v r false p) (txStamp s v r true p) k.t (legFlow s v false false).isSome
      (legFlow s v true false).isSome
    let s := x.counts.foldl (fun s n => count n s) (setVch v x.run s)
    let s := txIssue v true p x.toC.payload x.toC.evt s
    let s := txIssue v false p x.toF.payload x.toF.evt s
    let s := noteIssue v p s
    let s := x.events.foldl (fun s y => issueEvent v k.t y s) s
    recordIssue v k.t x.concF x.concC x.toC.audio x.toF.audio s
  | _, _ => s

/-- A leg's frames up to an issue are discarded. -/
def legDiscard (p : Nat) (l : Leg) : Leg := match frameAt l p with
  | some n => dropTo n l
  | none => l

/-- A leg's transmit flow at an issue that sends nothing. -/
def txSkip (v : Nat) (c : Bool) (p : Nat) (s : State) : State :=
  match vch s v, legFlow s v c true with
  | some r, some (n, f) =>
    if emits s then setFlow n (txIdle (legS r.par c) (txAt (legS r.par c) p r.issue f)) s else s
  | _, _ => s

/-- An issue whose task has no effect: no packet leaves, and silence is recorded. -/
def voiceSilent (k : TaskInst) (r : VchRun) (e : SchedEntry) (s : State) : State :=
  let v := k.tmpl.object
  let p := issueNo e k.t
  let quiet := silence (voiceRate r.par) r.par.frameMs
  recordIssue v k.t true true quiet quiet (noteIssue v p (txSkip v false p (txSkip v true p s)))

/-- A VOICE release that is dropped: the issue's frames are discarded, no packet leaves, and silence is recorded (09 R242). -/
def voiceDropped (k : TaskInst) (s : State) : State :=
  match vch s k.tmpl.object, playoutEntry (activeBank s) k.tmpl.object with
  | some r, some e =>
    let p := issueNo e k.t
    voiceSilent k r e (setVch k.tmpl.object { r with legF := legDiscard p r.legF, legC := legDiscard p r.legC } s)
  | _, _ => s

/-- A VOICE task that is aborted: the buffers, mappings, codecs and detectors stay as they were (06 R153). DEDUCED: the timestamps
still advance (09 R233), and the recording holds silence for the issue, as for a dropped release. -/
def voiceAborted (k : TaskInst) (s : State) : State :=
  match vch s k.tmpl.object, playoutEntry (activeBank s) k.tmpl.object with
  | some r, some e => voiceSilent k r e s
  | _, _ => s

/-! ## Opening, changing and closing (09 R225, R226) -/

/-- DATA of OPEN and MODIFY. -/
def openData (p : VchParams) : Bytes := le 1 p.codecF ++ le 1 p.codecC ++ le 1 p.frameMs ++ le 1 (vchCost p)

/-- A leg whose codec or payload type changed restarts (09 R225). DEDUCED: so does one whose frame length changes, since its frames
no longer fit. -/
def legModify (old new : VchParams) (c : Bool) (l : Leg) : Leg :=
  let pt := fun (p : VchParams) => if c then p.ptC else p.ptF
  if codecOf old c = codecOf new c ∧ pt old = pt new ∧ old.frameMs = new.frameMs then l
  else { l with held := [], reanchor := if l.anchor.isSome then some 2 else none, dec := 0, enc := 0, lost := 0, sid := false }

/-- A leg whose detectors restart. -/
def detectorsRestart (l : Leg) : Leg := { l with dtmf := {}, modem := {}, past := [] }

/-- A channel with the parameters of VCH_MODIFY (09 R225). DEDUCED: its detectors also restart with the internal rate. -/
def modified (p : VchParams) (r : VchRun) : VchRun :=
  let old := r.par
  let ec := decide (old.ecTail ≠ p.ecTail) || decide (old.ecOpts / 4 % 4 ≠ p.ecOpts / 4 % 4)
  let tone := decide (old.toneMask ≠ p.toneMask) || decide (old.toneOpts ≠ p.toneOpts) || decide (voiceRate old ≠ voiceRate p)
  let det := fun l => if tone then detectorsRestart l else l
  let rec_ := decide (old.recSel % 4 = p.recSel % 4)
  { r with
    par := p, next := none, legF := det (legModify old p false r.legF), legC := det (legModify old p true r.legC)
    ec := if ec then {} else r.ec, ecConverged := r.ecConverged && !ec, erle := if ec then 0 else r.erle
    sinPast := if tone then [] else r.sinPast, sinModem := if tone then {} else r.sinModem, tones := if tone then [] else r.tones
    rec0 := if rec_ then r.rec0 else 0, rec1 := if rec_ then r.rec1 else 0
    recd := { r.recd with oq := if p.recSel % 4 = 0 then r.recd.oq else p.recOq } }

/-- A change of VCH_MODIFY takes effect at an issue (09 R225): the current block closes when the recording changes, and MODIFY is
marked on whichever side of the change records. DEDUCED: the block also closes when FRAME_MS changes, which its header names once. -/
def applyModify (v : Nat) (p : VchParams) (t : Instant) (s : State) : State :=
  match vch s v with
  | none => s
  | some r =>
    let s := if r.par.recSel % 4 ≠ p.recSel % 4 ∨ r.par.frameMs ≠ p.frameMs then closeBlock v s else s
    let s := if p.recSel % 4 = 0 then recMark v 2 0xFF (openData p) t s else s
    voiceEvent v 2 0xFF (openData p) t { s with vchs := mmod s.vchs v (modified p) }

/-- The channel ends: its open block, the CLOSE mark, the seal and its flows (09 R226; 10 R275). The recording buffer's
packets still go to REC_OQ. -/
def vchEnd (v : Nat) (reason : Nat) (t : Instant) (s : State) : State :=
  match vch s v with
  | none => s
  | some r =>
    if r.ended then s
    else
      let s := closeBlock v s
      let s := voiceEvent v 3 0xFF (le 1 reason) t s
      let s := if r.par.recSel % 4 ≠ 0 ∧ emits s then recSeal v s else s
      let s := { s with flows := s.flows.filter fun e => e.2.def_.vch != v }
      match vch s v with
      | none => s
      | some r =>
        if r.recd.buffer.isEmpty then { s with vchs := mdel s.vchs v }
        else setVch v { r with ended := true, closeAt := some t } s

/-- A channel opens at an issue. -/
def vchStarts (v : Nat) (r : VchRun) (t : Instant) (s : State) : State :=
  voiceEvent v 1 0xFF (openData r.par) t (setVch v { r with openAt := none, opened := t } s)

/-- An instant at or before t has come. -/
def comeBy (a : Option Instant) (t : Instant) : Bool := match a with
  | some x => decide (x ≤ t)
  | none => false

/-- What a channel does before its task at an issue: it closes, opens or changes (09 R225, R226). True: the issue is handled. -/
def issueEdge (v : Nat) (r : VchRun) (t : Instant) (s : State) : Bool × State :=
  if r.ended then (false, s)
  else if comeBy r.closeAt t then (false, vchEnd v 0 t s)
  else if r.openAt.isSome ∧ !comeBy r.openAt t then (false, s)
  else
    let s := if r.openAt.isSome then vchStarts v r t s else s
    (true, match r.next with
      | some (p, a) => if a ≤ t then applyModify v p t s else s
      | none => s)

/-- A PLAYOUT issue of a channel releases its VOICE template (09 R220); limit is its hold limit. -/
def playoutIssue (v : Nat) (t limit : Instant) (s : State) : State :=
  match vch s v with
  | none => s
  | some r =>
    let (go, s) := issueEdge v r t s
    if !go then s
    else match voiceTmpl (activeBank s) v with
      | some (tid, tm) => releaseTask tid tm t 0xFFFF limit s
      | none => s

/-- STOP closes every open channel at its second boundary (09 R226). -/
def voiceStop (s : State) : State := s.vchs.foldl (fun s e => vchEnd e.1 1 (now s) s) s

/-- A bank swap: the tone detectors restart where the tone table changes (09 R256). -/
def voiceSwap (old new : Bank) (s : State) : State :=
  let table := fun (b : Bank) (v : Nat) => (voiceTmpl b v).map fun e => e.2.blk.drop 4
  { s with vchs := mmap s.vchs fun v r => if table old v = table new v then r else { r with tones := [] } }

/-- A recording as the copy carries it: its next BLOCK_SEQ and no audio (09 R257). -/
def copiedRec (q : RecRun) : RecRun :=
  { q with issues := 0, firstAt := 0, conc0 := 0, conc1 := 0, ecDis := false, dir0 := [], dir1 := [], buffer := [], gap := none }

/-- The recording of a new active unit: a new block, one above the copy's next (09 R258). -/
def resumedRec (q : RecRun) : RecRun := { copiedRec q with blockSeq := q.blockSeq + 1, firstSeal := q.blockSeq + 1 }

/-- A takeover: each transmit flow continues from the copy, and the recording resumes in a new block (09 R258). -/
def voiceTakeover (s : State) : State :=
  let s := { s with flows := mmap s.flows fun _ f => { f with resume := bit f.def_.role 0 }
                    vchs := mmap s.vchs fun _ r => { r with recd := resumedRec r.recd } }
  s.vchs.foldl (fun s e =>
    let first := match playoutEntry (activeBank s) e.1 with
      | some x => issueFrom x (now s)
      | none => now s
    if e.2.openAt.isSome ∨ e.2.ended then s else recMark e.1 5 0xFF (le 4 e.2.recd.blockSeq ++ stampBytes first) first s) s

end Sys2Proof.Machine
end

