-- ==== Sys2Proof/Machine/Castling.lean ====
section
/-! DEFINITION. Castling: roles, heartbeat, presence, twin link, commits, shadow comparison, resynchronisation, takeover and
switchover (14). -/

namespace Sys2Proof.Machine

/-! ## Roles (14 R370-R375) -/

/-- A CASTLING record (16 R420). -/
def noteCas (sev : Nat) (name : Bytes) (s : State) : State :=
  note sev 11 name (roleCode s.cas.role) s.cas.term s.cas.cseq s

/-- HB_OUT's half-period in µs, 0 while it is held low (14 R376). -/
def hbHalf (s : State) : Nat :=
  if !s.pins.hbOut then 0 else match s.cas.role with
    | .active => 100
    | .standby => 250
    | .stalemate => 250
    | .solo => 0

/-- A role change sets ROLE_CHG and raises vector 90 (14 R375). DESIGN CHOICE: the heartbeat that a self-declared fault stopped returns
with ACTIVE or STANDBY. -/
def roleTo (r : Role) (sev : Nat) (name : Bytes) (s : State) : State :=
  if s.cas.role = r then s
  else noteCas sev name (setCasIrq 0 { s with
    cas := { s.cas with role := r }
    pins := { s.pins with hbOut := s.pins.hbOut || decide (r = .active) || decide (r = .standby) } })

/-- Castling acts on a paired unit in RUN (14 R372). -/
def casActs (s : State) : Bool := inRun s && paired s

/-- The pins that a unit which does not emit holds: WAS_OUT at 0 and ALARM_N high (14 R371). -/
def pinsOff (s : State) : State :=
  let s := (List.range 16).foldl (fun s n =>
    if s.pins.wasOut.getLsbD n then
      emit (.pin (wasOutName n) false (now s)) { s with pins := { s.pins with wasOut := setBit16 s.pins.wasOut n false } }
    else s) s
  alarmPin s

/-- The pins at their requested levels, and ALARM_N for the latches held. -/
def pinsOn (s : State) : State :=
  alarmPin ((List.range 16).foldl (fun s n => wasOutDrive n (s.pins.wasOutReq.getLsbD n) s) s)

/-- Staged exchange images are discarded (08 R215). -/
def dropExchange (s : State) : State := { s with schs := mmap s.schs fun _ r => { r with exchange := none } }

/-- The unit leaves ACTIVE or STANDBY for STALEMATE. An ACTIVE unit leaves for it as its partner takes over, or may: its staged
images are discarded (08 R215). -/
def toStalemate (sev : Nat) (name : Bytes) (s : State) : State :=
  let s := if s.cas.role = .active then dropExchange s else s
  let s := roleTo .stalemate sev name s
  pinsOff { s with cas := { s.cas with decideFrom := none, takeoverAt := none, switchAt := none, yieldAt := none, copyOk := false } }

/-- The unit becomes ACTIVE: its TERM is one more than the larger of its own and the last it heard (14 R374). -/
def toActive (sev : Nat) (name : Bytes) (s : State) : State :=
  let s := { s with cas := { s.cas with
    term := (max s.cas.term s.cas.peerTerm + 1) % 2 ^ 32
    decideFrom := none, takeoverAt := none, promoteAt := none, yieldAt := none, switchAt := none, resync := false, resyncDone := false
    resyncReq := false, waits := [], homeWaits := [], ownDigests := [], trigs := [], base := [], sent := [], unacked := []
    stopped := false, shadowRun := 0 } }
  roleTo .active sev name s

/-- RUN begins at a second boundary: a paired unit listens as STALEMATE (14 R373). -/
def casRunBegin (b : Instant) (s : State) : State :=
  if paired s then
    let s := { s with pins := { s.pins with hbOut := true }
                      cas := { s.cas with
                        listening := some b, activeHeardAt := none, peerListening := false, commitPeak := 0
                        waits := [], homeWaits := [], ownDigests := [], trigs := [], sent := [], unacked := [], base := [] } }
    pinsOff (roleTo .stalemate 5 nmListening s)
  else roleTo .solo 4 nmSolo s

/-- RUN ends: the role is kept, HB_OUT is held low (14 R372). DESIGN CHOICE: what was heard of the partner's link and heartbeat ends
without a loss, since no Castling action follows. -/
def casRunEnd (s : State) : State :=
  { s with pins := { s.pins with hbOut := false }
           cas := { s.cas with twinUp := false, lanes := 0, laneAt := [], lossAt := none, hbOk := false, hbEdges := []
                               peerListening := false, listening := none, decideFrom := none, takeoverAt := none, promoteAt := none
                               switchAt := none, yieldAt := none, resync := false, copyOk := false } }

/-- A boundary a time after an instant. -/
def slotAfter (s : State) (t : Instant) : Instant := slotCeil s t

/-! ## Heartbeat (14 R376) -/

/-- The last four half-periods together: four times their mean. -/
def hbMean (es : List Instant) : Option Nat :=
  match es.getLast?, es.head? with
  | some a, some b => if es.length = 5 then some (a - b) else none
  | _, _ => none

/-- The partner's role from its heartbeat; a slow one does not tell STANDBY from STALEMATE, and one known to be STALEMATE stays so. -/
def hbRole (es : List Instant) (was : Option Role) : Option Role :=
  match hbMean es with
  | some m => if m ≤ 4 * usU 150 then some .active
    else if 4 * usU 200 ≤ m ∧ was ≠ some .stalemate then some .standby else was
  | none => was

/-- HB_IN_EDGE. While the twin link is up the partner's own messages give its role. -/
def execHbInEdge (stamp : Instant) (s : State) : Host.Outcome State Fault Refusal :=
  if casActs s then
    let s := advanceTo stamp s
    let es := s.cas.hbEdges ++ [stamp]
    let es := es.drop (es.length - 5)
    let act : Bool := match hbMean es with
      | some m => decide (m ≤ 4 * usU 150)
      | none => false
    done { s with cas := { s.cas with
      hbEdges := es, hbOk := true, activeHeardAt := if act then some stamp else s.cas.activeHeardAt
      peerRole := if s.cas.twinUp then s.cas.peerRole else hbRole es s.cas.peerRole } }
  else done s

/-- HB_TIMEOUT: no edge within HB_TIMEOUT. -/
def execHbTimeout (s : State) : Host.Outcome State Fault Refusal :=
  match s.cas.hbOk, s.cas.hbEdges.getLast? with
  | true, some t =>
    if casActs s then
      let s := advanceTo (t + usU s.cas.cfg.hbTimeout) s
      let s := { s with cas := { s.cas with hbOk := false, hbEdges := [] } }
      done (noteCas 5 nmHbLoss (count 235 (setCasIrq 2 s)))
    else done s
  | _, _ => done s

/-! ## Presence (14 R377) -/

/-- Bytes 0 to 31 of the payload. -/
def presenceBytes (f : Presence) : Bytes :=
  le 2 f.magic ++ le 1 f.role ++ le 1 f.score ++ le 4 f.term ++ be 16 f.id ++ le 4 f.frac ++ le 4 f.sec

/-- The label "CS-PRESENCE". -/
def lblPresence : Bytes := [67, 83, 45, 80, 82, 69, 83, 69, 78, 67, 69]

/-- The key in locker 63. -/
def pairKey (s : State) : Option Bytes := match mget s.gh.lockers 63 with
  | some l => if l.state = .loaded then some l.key else none
  | none => none

/-- TAG of a presence frame under the pair key. -/
def presenceTag (k : Bytes) (f : Presence) : Bytes := (hmac (kdf k lblPresence [] 32) (presenceBytes f)).take 16

/-- PRESENCE_FRAME_SEND: 1 ms after the slot boundary, on a port of PRES_PORTS whose link is up. -/
def execPresenceFrameSend (p : Fin 6) (s : State) : Host.Outcome State Fault Refusal :=
  if casActs s ∧ bit s.cas.cfg.presPorts p ∧ portUp s p then
    match pairKey s with
    | none => done (useRefused s)
    | some k =>
      let b := slotFloor s (now s)
      let s := advanceTo (gridPlus (fnom s) (gridFloor (fnom s) b) 1 1000) s
      let f : Presence := { magic := 0x5343, role := roleCode s.cas.role, score := s.cas.score, term := s.cas.term
                            id := Config.deviceId % 2 ^ 128, frac := b % secU, sec := b / secU % 2 ^ 32, tag := [] }
      done (txOwn p 6 66 (.presence p s.cas.cfg.presMac s.cas.cfg.presVlan { f with tag := presenceTag k f }) s)
  else done s

/-- An ACTIVE unit that hears its partner ACTIVE yields to a higher TERM, or with equal TERMs to the lower identity
(14 R374). -/
def yieldCheck (term id : Nat) (s : State) : State :=
  if s.cas.role = .active ∧ (s.cas.term < term ∨ (s.cas.term = term ∧ id < Config.deviceId)) then
    { s with cas := { s.cas with yieldAt := some (slotAfter s (now s + 1)) } }
  else s

/-- PRESENCE_FRAME_RECEIVED. DESIGN CHOICE: a partner identity not yet known is taken from the first verified frame. -/
def execPresenceFrameReceived (p : Fin 6) (f : Presence) (s : State) : Host.Outcome State Fault Refusal :=
  if !casActs s then done s
  else
    let s := countPort p 0 s
    let ok : Bool := match pairKey s with
      | some k => f.magic == 0x5343 && presenceTag k f == f.tag
      | none => false
    if !ok ∨ (f.id ≠ Config.deviceId ∧ s.cas.peerId ≠ 0 ∧ f.id ≠ s.cas.peerId) then done (count 236 s)
    else if f.id = Config.deviceId then done s
    else
      let act := f.role = 1
      let s := { s with cas := { s.cas with
        peerId := f.id, peerTerm := f.term, peerRole := roleOfCode f.role
        presHeard := if act then some (now s) else s.cas.presHeard
        activeHeardAt := if act then some (now s) else s.cas.activeHeardAt } }
      done (if act then yieldCheck f.term f.id s else s)

/-! ## The twin link (14 R379, R380) -/

/-- A protected twin frame: without the pair key, or with a tag that fails, it counts TW_AUTH_FAIL (12 R338; 13 R367). -/
def twinTake (authOk : Bool) (s : State) : Bool × State :=
  if !casActs s then (false, s)
  else if !authOk ∨ !lockerLoaded s 63 then (false, count 197 s)
  else (true, { s with cas := { s.cas with lastTwin := now s, twinUp := true } })

/-- LINKBEAT_SEND: every 100 µs on each lane. DESIGN CHOICE: both lanes have block lock. -/
def execLinkbeatSend (s : State) : Host.Outcome State Fault Refusal :=
  if casActs s ∧ lockerLoaded s 63 then
    let b := fun (lane : Nat) => ({ role := s.cas.role, term := s.cas.term, health := casHealthWord s
                                    version := Config.twinVersion, cfgCrc := s.cas.cfg.crc, peerId := Config.deviceId
                                    listening := s.cas.listening.isSome, lane := lane, request := s.cas.resyncReq
                                    discard := !s.cas.resyncWait.isEmpty } : Linkbeat)
    done (emit (.linkbeat 1 (b 1)) (emit (.linkbeat 0 (b 0)) s))
  else done s

/-! ### What a commit and a copy set carry (14 R384) -/

/-- The state home of a template. -/
def homeOf (s : State) (tm : Template) : Option Home :=
  match tm.type with
  | 1 => some (.det tm.object (detRun s tm.object))
  | 2 => some (.scheme tm.object (schRun s tm.object))
  | 5 => some (.filter (fld tm.blk 0 2) (filter s (fld tm.blk 0 2)))
  | 6 => (vch s tm.object).map fun r =>
      .voice tm.object { r with recd := copiedRec r.recd } (mfilter s.flows fun _ f => f.def_.vch == tm.object)
  | _ => none

/-- The regions whole: instance table, hold table and state homes. -/
def regionLines (s : State) : List RegionLine :=
  s.mst.insts.map (fun i => .inst i.gid i.t i.state i.kind)
    ++ (s.mst.hold.map fun e => e.2.map fun v => RegionLine.hold e.1 v.1 (some v.2)).flatten
    ++ (activeBank s).templates.filterMap fun e => (homeOf s e.2).map (.home e.1)

/-- A line that a region no longer has. -/
def lineGone (cur : List RegionLine) (l : RegionLine) : Option RegionLine :=
  match l with
  | .inst g t _ _ =>
    if cur.any (fun x => match x with
      | .inst g' t' _ _ => g == g' && t == t'
      | _ => false) then none else some (.inst g t .retired 0)
  | .hold g c _ =>
    if cur.any (fun x => match x with
      | .hold g' c' _ => g == g' && c == c'
      | _ => false) then none else some (.hold g c none)
  | .home .. => none

/-- The lines changed since a snapshot. -/
def changedLines (base cur : List RegionLine) : List RegionLine :=
  cur.filter (fun l => !base.contains l) ++ base.filterMap (lineGone cur)

def engineState (s : State) : EngineState :=
  { triggers := s.cas.trigs
    confirmed := s.caps.map fun e => (e.1, e.2.confirmed)
    recConfirmed := s.vchs.map fun e => (e.1, e.2.recd.blockSeq)
    phases := s.phases
    wasOutReq := s.pins.wasOutReq
    pubs := s.pubs.map fun e => (e.1, (e.2.stNum, e.2.sqNum)) }

/-- The active unit sends to a partner in STANDBY or STALEMATE over the link (14 R394). -/
def hasPartner (s : State) : Bool :=
  s.cas.twinUp && (s.cas.peerRole == some .standby || s.cas.peerRole == some .stalemate)

/-- Commits stop: three in a row unacknowledged, or one that would be too large (14 R385). -/
def commitsStop (s : State) : State :=
  noteCas 5 nmCommitsStopped { s with cas := { s.cas with stopped := true, copyOk := false } }

/-- The regions and the engine state as they stood at a COPY issue. -/
def copyAt (s : State) (b : Instant) : List RegionLine × EngineState :=
  match s.cas.copySnap with
  | some (t, ls, e) => if t = b then (ls, e) else (regionLines s, engineState s)
  | none => (regionLines s, engineState s)

/-- The COPY task's work: the commit of the slot that ended at its instant (14 R384). The byte length of a commit depends on
its encoding: a free value. -/
def commitBuild (b : Instant) (s : State) : State :=
  let mine := s.cas.role = .active ∨ s.cas.takenAt = some b
  if !mine then s
  else if !hasPartner s then
    { s with cas := { s.cas with copyOk := false, trigs := [], ownDigests := [] } }
  else if s.cas.stopped then s
  else if 3 ≤ s.cas.unacked.length then commitsStop s
  else
    let (v, s) := drawFree s
    let folded := !s.cas.unacked.isEmpty
    let n := v % 2 ^ 32
    if folded ∧ 25165824 < n then commitsStop s
    else
      let (cur, eng) := copyAt s b
      let digs := (s.cas.ownDigests.filter fun e => decide (e.1 ≤ b)).map (·.2)
      let q := s.cas.nextCseq
      let c : Commit := { cseq := q, term := s.cas.term, slot := b, bytes := n, crcOk := true
                          lines := changedLines s.cas.base cur, engine := eng, digests := digs }
      let s := { s with cas := { s.cas with
        cseq := q, nextCseq := (q + 1) % 2 ^ 32, unacked := s.cas.unacked ++ [q], commitPeak := max s.cas.commitPeak n
        sent := mput s.cas.sent q { lines := cur, trigs := s.cas.trigs, digests := digs } } }
      traceCommit q n (count 224 (emit (.commit c) s))

/-- A commit that is not acknowledged by the next COPY issue is folded (14 R385). -/
def commitFold (s : State) : State :=
  if s.cas.role = .active ∧ !s.cas.stopped ∧ s.cas.unacked.getLast? = some s.cas.cseq ∧ !s.cas.unacked.isEmpty then
    count 226 { s with cas := { s.cas with copyOk := false } }
  else s

/-- A COPY release that did not run: its slot is folded into the next commit (14 R385). -/
def copyDropped (s : State) : State := if s.cas.role = .active ∧ hasPartner s then count 226 s else s

/-- Issues of COPY entries (03 R70; 14 R384): the commit holds what was changed before its boundary. -/
def copyRelease (t limit : Instant) (s : State) : State :=
  let s := commitFold s
  let s := { s with cas := { s.cas with copySnap := some (t, regionLines s, engineState s) } }
  match (activeBank s).templates.find? (fun e => e.2.type == 7) with
  | some (tid, tm) => releaseTask tid tm t 0xFFFF limit s
  | none => s

/-! ### Acknowledgement -/

/-- ACK_RECEIVED (14 R385, R389). -/
def execAckReceived (cseq health : Nat) (s : State) : Host.Outcome State Fault Refusal :=
  let (ok, s) := twinTake true s
  if !ok ∨ s.cas.role ≠ .active then done s
  else
    let s := { s with cas := { s.cas with peerHealth := health % 2 ^ 32, peerHealthAt := some (now s) } }
    match mget s.cas.sent cseq with
    | none => done s
    | some x =>
      done { s with cas := { s.cas with
        unacked := s.cas.unacked.filter fun q => decide (cseq < q)
        sent := mfilter s.cas.sent fun q _ => decide (cseq < q)
        base := x.lines
        trigs := s.cas.trigs.filter fun e => !x.trigs.contains e
        ownDigests := s.cas.ownDigests.filter fun e => !x.digests.contains e.2
        copyOk := true, stopped := false, resync := false } }

/-! ### Resynchronisation at the active unit (14 R388) -/

def copySet (s : State) : CopySet :=
  { active := s.active, bank0 := s.bank0, bank1 := s.bank1, lines := regionLines s
    exchange := s.schs.filterMap fun e => e.2.exchange.map fun i => (e.1, i) }

/-- The ACTIVE unit starts a full resynchronisation. DESIGN CHOICE: the copy set leaves as one message. -/
def resyncStart (s : State) : State :=
  if s.cas.role ≠ .active ∨ !hasPartner s then s
  else
    let n := (s.cas.sakN + 1) % 2 ^ 32
    let d := copySet s
    let s := { s with cas := { s.cas with
      sakN := n, nextCseq := 0, unacked := [], sent := [], base := [], stopped := false, resync := true, resyncFrom := now s
      resyncRetry := none } }
    count 232 (emit (.resyncEnd (Config.copyDigest [d])) (emit (.resyncData d) (emit (.resyncStart n) s)))

/-- CAS_RESYNC's final reply, when the standby is STANDBY after a commit that matched entirely (14 R388). -/
def resyncReply (s : State) : State :=
  finalReplies s.cas.resyncWait 0 { s with cas := { s.cas with resyncWait := [] } }

/-- A unit that is ACTIVE beside a partner heard over the twin link starts a resynchronisation with AUTO_RESYNC set (14 R388).
DEDUCED: the link that came up while both listened counts as coming up with the partner in STALEMATE. -/
def startedActive (s : State) : State := if bit s.cas.cfg.opts 0 then resyncStart s else s

/-- LISTEN_WINDOW_END: at the first slot boundary 100 ms after RUN began; peerPref is the partner's PREF_ROLE as heard
(14 R373). -/
def execListenWindowEnd (peerPref : Bool) (s : State) : Host.Outcome State Fault Refusal :=
  match s.cas.listening with
  | none => done s
  | some b =>
    if !casActs s then done s
    else
      let s := advanceTo (slotAfter s (b + msU 100)) s
      let s := { s with cas := { s.cas with listening := none } }
      let own := s.pins.prefRole
      let activeHeard : Bool := match s.cas.activeHeardAt with
        | some t => decide (b ≤ t)
        | none => false
      if activeHeard then done s
      else if s.cas.twinUp ∧ s.cas.peerListening then
        done (if (if own = peerPref then decide (Config.deviceId < s.cas.peerId) else own) then startedActive (pinsOn (toActive 6 nmActive s))
          else s)
      else if s.cas.hbOk then
        done (if own = peerPref then noteCas 6 nmPrefEqual s else if own then pinsOn (toActive 6 nmActive s) else s)
      else done (pinsOn (toActive 6 nmActive s))

/-- What a verified linkbeat says of the partner (14 R379). -/
def linkHeard (b : Linkbeat) (s : State) : State :=
  let at_ := mput s.cas.laneAt b.lane (now s)
  let live := fun (n : Nat) => match mget at_ n with
    | some t => decide (now s < t + msU 1)
    | none => false
  { s with cas := { s.cas with
      laneAt := at_, lanes := b2n (live 0) + 2 * b2n (live 1)
      peerRole := some b.role, peerTerm := b.term, peerHealth := b.health % 2 ^ 32, peerHealthAt := some (now s)
      peerId := b.peerId, peerVersion := b.version, peerCrc := some b.cfgCrc, peerListening := b.listening
      activeHeardAt := if b.role = .active then some (now s) else s.cas.activeHeardAt } }

/-- What the ACTIVE unit does on its partner's linkbeat: it answers a resynchronisation that ended, and starts one that is asked for or
due (14 R387, R388). It discards staged images when its partner asks by CAS_RESYNC; DESIGN CHOICE: and when its partner is listening,
which is how it learns of the partner's reset (08 R215). -/
def partnerAsks (was : Bool) (b : Linkbeat) (s : State) : State :=
  let s := if b.role = .standby ∧ bit b.health 18 ∧ !s.cas.resync then resyncReply s else s
  let auto := !was && bit s.cas.cfg.opts 0 && b.role == .stalemate
  let s := if b.listening then dropExchange s else s
  if !s.cas.resync ∧ s.cas.resyncRetry.isNone ∧ (b.request ∨ auto) then resyncStart (if b.discard then dropExchange s else s) else s

/-- LINKBEAT_RECEIVED (14 R373, R374, R379, R380, R387, R388, R389). -/
def execLinkbeatReceived (b : Linkbeat) (authOk : Bool) (s : State) : Host.Outcome State Fault Refusal :=
  let was := s.cas.twinUp
  let (ok, s) := twinTake authOk s
  if !ok then done s
  else
    let s := linkHeard b s
    let s := if b.role = .active then yieldCheck b.term b.peerId s else s
    if b.version ≠ Config.twinVersion then
      if s.cas.role = .active ∨ s.cas.versionNoted then done s
      else
        let s : State := toStalemate 5 nmVersionDiffers s
        done (noteCas 6 nmVersionDiffers { s with cas := { s.cas with versionNoted := true } })
    else
      let s : State := { s with cas := { s.cas with versionNoted := false } }
      done (if s.cas.role = .active then partnerAsks was b s else s)

/-- TWIN_LINK_TIMEOUT: no twin message for 1 ms (14 R379). -/
def execTwinLinkTimeout (s : State) : Host.Outcome State Fault Refusal :=
  if casActs s ∧ s.cas.twinUp then
    let s := advanceTo (s.cas.lastTwin + msU 1) s
    let s := { s with cas := { s.cas with
      twinUp := false, lanes := 0, laneAt := [], lossAt := some (now s), lossElig := s.cas.eligSlot, peerListening := false
      copyOk := false, unacked := [], sent := [] } }
    done (count 234 (setCasIrq 1 s))
  else done s

/-- TWIN_LOSS_DECISION: HB_TIMEOUT after the loss (14 R395). -/
def execTwinLossDecision (s : State) : Host.Outcome State Fault Refusal :=
  match s.cas.lossAt with
  | none => done s
  | some t =>
    if !casActs s ∨ s.cas.twinUp then done { s with cas := { s.cas with lossAt := none } }
    else
      let s := advanceTo (t + usU s.cas.cfg.hbTimeout) s
      let s := { s with cas := { s.cas with lossAt := none } }
      match s.cas.role with
      | .active => done (noteCas 5 nmTwinLoss s)
      | .standby =>
        let hb : Bool := match s.cas.hbEdges.getLast? with
          | some e => s.cas.hbOk && decide (now s < e + usU s.cas.cfg.hbTimeout)
          | none => false
        done (if hb then toStalemate 5 nmTwinLoss s
          else { s with cas := { s.cas with decideFrom := some (slotAfter s (now s)), absentSlots := 0 } })
      | _ => done s

/-- PARTNER_OUTPUTS_ABSENT: heartbeat, link and outputs absent for three slots: an ELIGIBLE unit takes over at the first
boundary at least 200 µs later (14 R391, R395). -/
def execPartnerOutputsAbsent (s : State) : Host.Outcome State Fault Refusal :=
  if casActs s ∧ s.cas.role = .standby ∧ s.cas.decideFrom.isSome ∧ !s.cas.hbOk ∧ !s.cas.twinUp ∧ 3 ≤ s.cas.absentSlots then
    let s := { s with cas := { s.cas with decideFrom := none } }
    done (if s.cas.lossElig then { s with cas := { s.cas with takeoverAt := some (slotAfter s (now s + usU 200)) } } else s)
  else done s

/-! ## Shadow comparison (14 R386, R387) -/

/-- A divergence: counted, shown, the slot's first one stored, recorded at most once a second, and a full resynchronisation
requested. -/
def diverge (kind tid : Nat) (inst : Instant) (cseq : Nat) (slot : Instant) (s : State) : State :=
  let first := s.cas.divSlot ≠ some slot
  let s := { s with cas := { s.cas with
    diverge := true, resyncReq := true, divSlot := some slot
    divRec := if first then some { slot := slot, kind := kind, tid := tid, inst := inst, cseq := cseq } else s.cas.divRec } }
  let s := count 231 (setCasIrq 3 s)
  let sec := now s / secU
  if s.cas.divSec = some sec then s else noteCas 5 nmDivergence { s with cas := { s.cas with divSec := some sec } }

/-- RES or STATE differs between a commit's entry and the standby's own. -/
def compareDigest (slot : Instant) (cseq : Nat) (a b : DigestEntry) (s : State) : Bool × State :=
  if a.res ≠ b.res then (true, diverge 1 a.tid a.inst cseq slot s)
  else if a.state ≠ b.state then (true, diverge 2 a.tid a.inst cseq slot s)
  else (false, s)

def sameTask (a b : DigestEntry) : Bool := a.tid == b.tid && a.inst == b.inst

/-- Every entry of a commit has been compared: DIVCNT, SHADOW_OK, and the end of a STALEMATE (14 R375, R387, R388). -/
def commitDone (bad : Bool) (s : State) : State :=
  if bad then { s with cas := { s.cas with divcnt := satAdd 255 s.cas.divcnt 1, shadowOk := false, shadowRun := 0 } }
  else
    let s := { s with cas := { s.cas with divcnt := 0, shadowOk := true, shadowRun := s.cas.shadowRun + 1 } }
    if !s.cas.resyncDone then s
    else
      let s := { s with cas := { s.cas with resyncDone := false } }
      resyncReply (roleTo .standby 3 nmStandby s)

/-- Commits whose entries have all been compared are done, in order. -/
def settleWaits : List CommitWait → State → State
  | [], s => { s with cas := { s.cas with waits := [] } }
  | w :: ws, s =>
    if w.left.isEmpty then settleWaits ws (commitDone w.bad s) else { s with cas := { s.cas with waits := w :: ws } }

/-! ## Applying lines (14 R385) -/

def twinPend : PendCmd → PendCmd
  | .set w e c => .set { w with origin := .twin } e c
  | .force w e i v => .force { w with origin := .twin } e i v
  | .unforce w e i => .unforce { w with origin := .twin } e i
  | .unforceAll w e => .unforceAll { w with origin := .twin } e

/-- A state home of the active unit: no reply of its commands is due here. -/
def applyHome (h : Home) (s : State) : State :=
  match h with
  | .det i r => setDet i r s
  | .scheme i r =>
    setSch i { r with pend := r.pend.map twinPend, startWait := r.startWait.map fun w => { w with origin := .twin }
                      stopWait := r.stopWait.map fun w => w.map fun w => { w with origin := .twin } } s
  | .voice v r fs => { setVch v r s with
      flows := fs.foldl (fun m e => mput m e.1 e.2) (mfilter s.flows fun _ f => f.def_.vch != v) }
  | .filter sid r => setFilter sid r s

/-- The standby's own entry of the instance table. -/
def ownInst (s : State) (gid : Nat) (t : Instant) : InstState × Nat :=
  match findInst s gid t with
  | some i => (i.state, i.kind)
  | none => (if hasFired s gid t then .retired else .open_, 0)

/-- An instance-table or hold-table line; report says that a difference is a divergence. -/
def applyLine (report : Bool) (cseq : Nat) (slot : Instant) (l : RegionLine) (s : State) : Bool × State :=
  match l with
  | .inst gid t st kind =>
    let bad := report && ownInst s gid t != (st, kind)
    let s := if bad then diverge 6 gid t cseq slot s else s
    let s := if st = .retired then dropInst gid t s
      else match findInst s gid t with
        | some i => setInst { i with state := st, kind := kind } s
        | none => if report then s else setInst { gid := gid, t := t, state := st, kind := kind } s
    let s := if (st = .fired ∨ st = .retired) ∧ !hasFired s gid t then
        { s with mst := { s.mst with lastFired := mput s.mst.lastFired gid t } }
      else s
    (bad, s)
  | .hold gid cid (some v) => (false, setHeld gid cid v s)
  | .hold gid cid none =>
    (false, { s with mst := { s.mst with hold := mput s.mst.hold gid (mdel (mgetD s.mst.hold gid []) cid) } })
  | .home _ h => if report then (false, s) else (false, applyHome h s)

/-- Whether a trigger of a commit has been applied before. -/
def triggerOld (s : State) (cap : Nat) (tr : Trigger) : Bool :=
  match capRun s cap with
  | none => true
  | some r => match r.lastAt with
    | some l => decide (tr.t ≤ l)
    | none => false

/-- The engine state of a commit. -/
def applyEngine (e : EngineState) (s : State) : State :=
  let s := e.triggers.foldl (fun (s : State) (x : Nat × Trigger) =>
    if triggerOld s x.1 x.2 then s else crossTrigger x.1 x.2 s) s
  let s := e.confirmed.foldl (fun s x => confirmShadow x.1 x.2 s) s
  let pins := mfilter e.phases fun _ r => match r.act with
    | .pin .. => true
    | .capture .. => false
  let own := mfilter s.phases fun _ r => match r.act with
    | .pin .. => false
    | .capture .. => true
  let s := { s with
    phases := pins.foldl (fun m x => mput m x.1 x.2) own
    phaseNext := max s.phaseNext (lmax (mkeys e.phases) (· + 1))
    pins := { s.pins with wasOutReq := e.wasOutReq } }
  e.pubs.foldl (fun s x => setPub x.1 { pub s x.1 with stNum := x.2.1, sqNum := x.2.2 } s) s

/-- A home's lines apply once every reported instance of its template has completed here. -/
def placeHome (tid : Nat) (h : Home) (digests : List DigestEntry) (s : State) : State :=
  let own := s.cas.ownDigests.map (·.2)
  let need := digests.filter fun d => d.tid == tid && !own.any (sameTask d)
  if need.isEmpty then applyHome h s
  else { s with cas := { s.cas with homeWaits := s.cas.homeWaits ++ [(h, tid, need)] } }

/-- The digest entries of a commit are compared with the results the standby has; the rest waits. -/
def compareAll (cseq : Nat) (slot : Instant) (ds : List DigestEntry) (s : State) : List DigestEntry × Bool × State :=
  ds.foldl (fun (a : List DigestEntry × Bool × State) d =>
    let (left, bad, s) := a
    match s.cas.ownDigests.find? (fun e => sameTask d e.2) with
    | some e =>
      let (x, s) := compareDigest slot cseq d e.2 s
      (left, bad || x, { s with cas := { s.cas with ownDigests := s.cas.ownDigests.filter fun y => !sameTask d y.2 } })
    | none => (left ++ [d], bad, s)) ([], false, s)

/-- The lines of a commit, home lines last. -/
def applyCommit (c : Commit) (s : State) : State :=
  let (bad, s) := c.lines.foldl (fun (a : Bool × State) l =>
    let (x, s) := applyLine true c.cseq c.slot l a.2
    (a.1 || x, s)) (false, s)
  let s := applyEngine c.engine s
  let s := c.lines.foldl (fun s l => match l with
    | .home tid h => placeHome tid h c.digests s
    | _ => s) s
  let (left, bad2, s) := compareAll c.cseq c.slot c.digests s
  let w : CommitWait := { cseq := c.cseq, slot := c.slot, at_ := now s, left := left, bad := bad || bad2 }
  settleWaits (s.cas.waits ++ [w]) s

/-- COMMIT_RECEIVED (14 R385-R387, R393): applied by a STANDBY, by a STALEMATE that has been resynchronised, and once by the
new active unit of a switchover, whose pins then follow (07 R190). -/
def execCommitReceived (c : Commit) (authOk : Bool) (s : State) : Host.Outcome State Fault Refusal :=
  let (ok, s) := twinTake authOk s
  if !ok ∨ !c.crcOk then done s
  else
    let takes := s.cas.role = .standby ∨ (s.cas.role = .stalemate ∧ s.cas.resyncDone)
      ∨ (s.cas.role = .active ∧ s.cas.takenAt = some c.slot)
    if !takes then done s
    else
      let s := { s with cas := { s.cas with
        cseq := if s.cas.role = .active then s.cas.cseq else c.cseq, lastApplied := some (slotFloor s (now s)), copyOk := true
        commitPeak := max s.cas.commitPeak c.bytes } }
      let s := applyCommit c s
      let s := if s.cas.role = .active then pinsOn s else s
      done (emit (.ack c.cseq (casHealthWord s)) (traceCommit c.cseq c.bytes (count 225 s)))

/-- A task of a unit that computes in shadow has completed: its digest meets the commits that wait for it, and homes that
waited for it apply (14 R385, R386). -/
def shadowDone (d : DigestEntry) (s : State) : State :=
  let hit := s.cas.waits.any fun w => w.left.any (sameTask d)
  let (ws, s) := s.cas.waits.foldl (fun (a : List CommitWait × State) w =>
    match w.left.find? (sameTask d) with
    | some e =>
      let (x, s) := compareDigest w.slot w.cseq e d a.2
      (a.1 ++ [{ w with left := w.left.filter (fun y => !sameTask d y), bad := w.bad || x }], s)
    | none => (a.1 ++ [w], a.2)) ([], s)
  let s := settleWaits ws s
  let s := if hit then s else { s with cas := { s.cas with ownDigests := s.cas.ownDigests ++ [(now s, d)] } }
  let hs := s.cas.homeWaits.map fun x => (x.1, x.2.1, x.2.2.filter fun y => !sameTask d y)
  let s := (hs.filter fun x => x.2.2.isEmpty).foldl (fun s x => applyHome x.1 s) s
  { s with cas := { s.cas with homeWaits := hs.filter fun x => !x.2.2.isEmpty } }

/-- A completed instance's digest (14 R384): reported by the active unit, compared by the other. -/
def digestTask (k : TaskInst) (out : TaskOut) (s : State) : State :=
  if k.tmpl.type = 7 ∨ !paired s then s
  else
    let d : DigestEntry := { tid := k.tid, inst := k.t, res := BitVec.ofNat 64 (Config.resDigest out)
                             state := BitVec.ofNat 64 (Config.homeDigest (homeOf s k.tmpl)) }
    match s.cas.role with
    | .active => { s with cas := { s.cas with ownDigests := s.cas.ownDigests ++ [(now s, d)] } }
    | .solo => s
    | _ => shadowDone d s

/-- A commit's digests left when they are late are divergences. -/
def lateWait (late : Bool) (w : CommitWait) (s : State) : CommitWait × State :=
  if late then
    ({ w with left := [], bad := w.bad || !w.left.isEmpty },
      w.left.foldl (fun (s : State) d => diverge 3 d.tid d.inst w.cseq w.slot s) s)
  else (w, s)

/-- A digest is late at a slot boundary. -/
def lateDigest (b : Instant) (s : State) (t : Instant) : Bool := decide (slotAdd s (slotCeil s t) 2 ≤ b)

/-- The late digests of both sides, for a test of lateness. -/
def overdueBy (old : Instant → Bool) (b : Instant) (s : State) : State :=
  let (ws, s) := s.cas.waits.foldl (fun (a : List CommitWait × State) w =>
    let (w, s) := lateWait (old w.at_) w a.2
    (a.1 ++ [w], s)) ([], s)
  let s := settleWaits ws s
  let extra := s.cas.ownDigests.filter fun e => old e.1
  let s := { s with cas := { s.cas with ownDigests := s.cas.ownDigests.filter fun e => !old e.1 } }
  if s.cas.role = .standby then extra.foldl (fun s e => diverge 4 e.2.tid e.2.inst s.cas.cseq b s) s else s

/-- MISSING and EXTRA at a slot boundary (14 R386). -/
def overdue (b : Instant) (s : State) : State := overdueBy (lateDigest b s) b s

/-- STANDBY_COMMIT_LOSS: no commit applied for three slots with the link up (14 R385). -/
def execStandbyCommitLoss (s : State) : Host.Outcome State Fault Refusal :=
  let stale : Bool := match s.cas.lastApplied with
    | some t => decide (slotAdd s t 3 ≤ now s)
    | none => true
  if casActs s ∧ s.cas.role = .standby ∧ s.cas.twinUp ∧ stale then done (toStalemate 5 nmCommitLoss s) else done s

/-! ## Resynchronisation at the other unit (14 R388, R397) -/

/-- RESYNC_START_RECEIVED (14 R380, R388). -/
def execResyncStartReceived (n : Nat) (s : State) : Host.Outcome State Fault Refusal :=
  let (ok, s) := twinTake true s
  if !ok ∨ s.cas.role = .active ∨ s.cas.role = .solo ∨ s.cas.peerVersion ≠ Config.twinVersion then done s
  else
    done { s with cas := { s.cas with
      sakN := n, cseq := 0, resync := true, resyncFrom := now s, resyncBuf := [], resyncReq := false, resyncDone := false
      waits := [], homeWaits := [] } }

/-- RESYNC_DATA_RECEIVED. -/
def execResyncDataReceived (d : CopySet) (s : State) : Host.Outcome State Fault Refusal :=
  let (ok, s) := twinTake true s
  done (if ok ∧ s.cas.resync ∧ s.cas.role ≠ .active then { s with cas := { s.cas with resyncBuf := s.cas.resyncBuf ++ [d] } } else s)

/-- A part of the copy set: both banks, the regions and the staged images. -/
def applyCopy (d : CopySet) (s : State) : State :=
  let s := { s with active := d.active, bank0 := d.bank0, bank1 := d.bank1 }
  let s := d.lines.foldl (fun s l => (applyLine false 0 0 l s).2) s
  d.exchange.foldl (fun s e => setSch e.1 { schRun s e.1 with exchange := some e.2 } s) s

/-- RESYNC_END_RECEIVED: the digest matches and the copy set is the unit's own. -/
def execResyncEndReceived (digest : Nat) (s : State) : Host.Outcome State Fault Refusal :=
  let (ok, s) := twinTake true s
  if !ok ∨ !s.cas.resync ∨ s.cas.role = .active ∨ Config.copyDigest s.cas.resyncBuf ≠ digest then done s
  else
    let s := s.cas.resyncBuf.foldl (fun s d => applyCopy d s) (dropExchange s)
    done (count 232 { s with cas := { s.cas with
      resync := false, resyncDone := true, resyncBuf := [], ownDigests := [], resyncRetry := none } })

/-- RESYNC_TIMEOUT: 2 s without an end. -/
def execResyncTimeout (s : State) : Host.Outcome State Fault Refusal :=
  if casActs s ∧ s.cas.resync then
    let s := advanceTo (s.cas.resyncFrom + 2 * secU) s
    let s := { s with cas := { s.cas with resync := false, resyncBuf := [], resyncRetry := some (now s + 10 * secU) } }
    done (noteCas 5 nmResyncAbandoned s)
  else done s

/-- RESYNC_RETRY: 10 s later it starts again. -/
def execResyncRetry (s : State) : Host.Outcome State Fault Refusal :=
  match s.cas.resyncRetry with
  | none => done s
  | some t =>
    let s := advanceTo t { s with cas := { s.cas with resyncRetry := none } }
    if !casActs s then done s
    else if s.cas.role = .active then done (resyncStart s)
    else done { s with cas := { s.cas with resyncReq := true } }

/-! ## Takeover (14 R391, R394; 08 R217; 07 R190; 09 R258; 10 R290) -/

/-- Announce each service address on its port. -/
def announceAll (s : State) : State :=
  s.cas.cfg.svc.foldl (fun s a => emit (.announce a.port a.vlan a.addr (!isV4 a.addr)) s) s

/-- Each station's current dataset is published anew at the first cycle (08 R217). -/
def republish (s : State) : State :=
  (activeBank s).schemes.foldl (fun s e => e.2.stations.foldl (fun s st =>
    if st.2 = 0xFFFF then s else setPub st.2 { pub s st.2 with data := [] } s) s) s

/-- What becoming ACTIVE brings on the outputs. -/
def emitFromNow (s : State) : State :=
  let s := pinsOn (republish (deliverShadow (voiceTakeover s)))
  let s := announceAll s
  { s with cas := { s.cas with announceAt := [now s + msU 100, now s + secU] } }

/-- TAKEOVER: at the chosen slot boundary. -/
def execTakeover (s : State) : Host.Outcome State Fault Refusal :=
  match s.cas.takeoverAt with
  | none => done s
  | some b =>
    if casActs s ∧ s.cas.role = .standby then
      let s := count 233 (setCasIrq 4 (dropExchange (advanceTo b s)))
      done (emitFromNow (toActive 6 nmTakeover s))
    else done { s with cas := { s.cas with takeoverAt := none } }

/-- PROMOTE_EFFECT (14 R378). -/
def execPromoteEffect (s : State) : Host.Outcome State Fault Refusal :=
  match s.cas.promoteAt with
  | none => done s
  | some b =>
    if casActs s ∧ (s.cas.role = .standby ∨ s.cas.role = .stalemate) then
      done (emitFromNow (toActive 6 nmPromote (dropExchange (advanceTo b s))))
    else done { s with cas := { s.cas with promoteAt := none } }

/-- ADDRESS_ANNOUNCE_REPEAT: 100 ms and 1 s after (14 R394). -/
def execAddressAnnounceRepeat (s : State) : Host.Outcome State Fault Refusal :=
  match s.cas.announceAt with
  | [] => done s
  | t :: ts =>
    let s := advanceTo t { s with cas := { s.cas with announceAt := ts } }
    done (if holdsSvc s then announceAll s else s)

/-- FAULT_RECEIVED: an ELIGIBLE standby takes over at the first slot boundary at least 200 µs later (14 R391). -/
def execFaultReceived (term cause : Nat) (s : State) : Host.Outcome State Fault Refusal :=
  let (ok, s) := twinTake true s
  if !ok then done s
  else
    let _ := cause
    let s := { s with cas := { s.cas with peerTerm := term, peerRole := some .stalemate } }
    done (if eligible s then { s with cas := { s.cas with takeoverAt := some (slotAfter s (now s + usU 200)) } } else s)

/-- Whether a cause of R392 stands, and the instant at which it has. -/
def faultDue (s : State) (cause : Nat) : Option Instant :=
  match cause with
  | 1 => if s.pwr.pwrFail then some (now s) else none
  | 2 => some (now s)
  | 3 => if s.pwr.fwFault then some (s.pwr.fwFaultAt + msU 500) else none
  | 4 => s.pwr.thermAt.map (· + secU)
  | 5 => if bit s.cas.cfg.opts 2 ∧ s.cas.score < s.cas.cfg.minScore ∧ s.cas.cfg.minScore ≤ s.cas.peerHealth % 256 then some (now s)
         else none
  | 6 => if budget s = 0 ∧ mainUp s then some (now s) else none
  | _ => none

/-- An ACTIVE unit declares a fault (14 R392). -/
def declareFault (cause : Nat) (s : State) : State :=
  if !casActs s ∨ s.cas.role ≠ .active then s
  else if cause ≠ 1 ∧ !peerEligible s then noteCas 6 nmFaultHeld s
  else
    let s := { s with pins := { s.pins with hbOut := false } }
    let s := if s.cas.twinUp then emit (.fault s.cas.term cause) s else s
    toStalemate 6 nmFaultDeclared s

/-- FAULT_DECLARE: 1 early warning, 2 uncorrectable error, 3 control firmware, 4 temperature, 5 degraded, 6 no power budget. -/
def execFaultDeclare (cause : Nat) (s : State) : Host.Outcome State Fault Refusal :=
  match faultDue s cause with
  | none => done s
  | some t => done (declareFault cause (advanceTo t s))

/-! ## Planned switchover (14 R393; 08 R215, R216) -/

/-- Both banks take a staged image at a boundary, and the scheme goes on with it from the first cycle opened from then on. -/
def exchangeOne (b : Instant) (sch : Nat) (s : State) : State :=
  let r := schRun s sch
  match r.exchange with
  | none => s
  | some img =>
    let put := fun (k : Bank) => { k with schemes := mput k.schemes sch img }
    exchangeDue sch (setSch sch
      { r with exchange := none, changing := (schImg (activeBank s) sch).map fun old => (b, old, img) }
      { s with bank0 := put s.bank0, bank1 := put s.bank1 })

def exchangeAll (b : Instant) (s : State) : State := (mkeys s.schs).foldl (fun s n => exchangeOne b n s) s

/-- The boundary at which a switchover commanded now takes place. -/
def switchBoundary (s : State) : Instant :=
  if s.schs.any (fun e => e.2.exchange.isSome) then secCeil (now s + msU 20) else slotAfter s (now s + msU 20)

/-- SWITCHOVER_HANDOVER at the active unit, or at the standby that takes over: both judge SHADOW_OK of the last two slots, over a link
that is up. -/
def execSwitchoverHandover (s : State) : Host.Outcome State Fault Refusal :=
  if !casActs s then done s
  else
    match s.cas.role, s.cas.switchAt with
    | .active, some (b, w) =>
      let s := advanceTo b s
      let s := { s with cas := { s.cas with switchAt := none } }
      let reply := fun (st : Nat) (s : State) => match w with
        | some w => finalReply w st s
        | none => s
      if s.cas.shadowRun < 2 ∨ !hasPartner s then done (reply 0x0302 s)
      else
        let s := exchangeAll b s
        let s := { s with cas := { s.cas with takenAt := some b, lastApplied := none, waits := [], shadowRun := 0 } }
        done (reply 0 (pinsOff (roleTo .standby 4 nmSwitchover s)))
    | .standby, some (b, _) =>
      if s.cas.twinUp ∧ 2 ≤ s.cas.shadowRun ∧ s.cas.peerRole = some .active then
        let s := { s with cas := { s.cas with switchAt := none } }
        let s := exchangeAll b (advanceTo b s)
        let s := count 233 (setCasIrq 4 s)
        let s := emitFromNow (toActive 4 nmSwitchover s)
        done { s with cas := { s.cas with takenAt := some b, peerRole := some .standby } }
      else done { s with cas := { s.cas with switchAt := none } }
    | _, _ => done s

/-! ## Slot boundaries and eyes (03 R61; 14 R374, R389, R390, R395) -/

/-- The slot boundary a step is about: the first not yet crossed. -/
def nextSlot (s : State) : Instant :=
  let b := slotCeil s (now s)
  if s.tb.slotDone = some b then slotAdd s b 1 else b

/-- What ends with a slot while the outputs of the partner are watched: presHeard counts for the slot it falls in. DEDUCED: a link that
is up again ends the watch, and a heartbeat that is present again makes the unit STALEMATE as it does at HB_TIMEOUT. -/
def watchSlot (b : Instant) (s : State) : State :=
  match s.cas.decideFrom with
  | none => s
  | some f =>
    if s.cas.twinUp then { s with cas := { s.cas with decideFrom := none } }
    else if b ≤ f then s
    else
      let heard : Bool := match s.cas.presHeard with
        | some t => decide (slotSub s b 1 ≤ t)
        | none => false
      if heard || s.cas.hbOk then toStalemate 5 nmTwinLoss s
      else { s with cas := { s.cas with absentSlots := s.cas.absentSlots + 1 } }

/-- What a slot boundary brings up to date: the slot count, the self-test's finding, overdue comparisons, the health score,
ELIGIBLE, and the partner's run of good shadow slots (14 R386, R389, R390, R393). -/
def slotHealth (b : Instant) (memTestOk : Bool) (s : State) : State :=
  let shadow := s.cas.role = .standby ∨ s.cas.role = .stalemate
  let s := { s with cas := { s.cas with
    slotCount := s.cas.slotCount + 1, bistFail := s.cas.bistFail || (decide shadow && !memTestOk) } }
  let s := if shadow then overdue b s else s
  let s := { s with cas := { s.cas with score := healthScore s } }
  let s := { s with cas := { s.cas with eligSlot := eligible s } }
  if s.cas.role = .active then
    { s with cas := { s.cas with shadowRun := if bit s.cas.peerHealth 18 ∧ s.cas.twinUp ∧ s.cas.peerRole = some .standby then s.cas.shadowRun + 1 else 0 } }
  else s

/-- SLOT_BOUNDARY: memTestOk is what the memory test of an unused slice finds. -/
def execSlotBoundary (memTestOk : Bool) (s : State) : Host.Outcome State Fault Refusal :=
  if !inRun s then done s
  else
    let b := nextSlot s
    let s := advanceTo b s
    let s := slotHealth b memTestOk { s with tb := { s.tb with slotDone := some b } }
    if !paired s then done s
    else
      let s := match s.cas.yieldAt with
        | some y => if y ≤ b then toStalemate 6 nmYield s else s
        | none => s
      done (watchSlot b s)

/-- EYE_MEASURE (14 R389). -/
def execEyeMeasure (low : Bool) (s : State) : Host.Outcome State Fault Refusal :=
  done (if mainUp s then { s with cas := { s.cas with eyeWarn := low } } else s)

end Sys2Proof.Machine
end

