-- ==== Sys2Proof/Machine/Aes.lean ====
section
/-! DEFINITION. AES-256-GCM, under which key blobs are wrapped (13 R349). PRESUMED: FIPS 197 and SP 800-38D. -/

namespace Sys2Proof.Machine

/-- Multiply by x in GF(2^8). -/
def gfX (a : Nat) : Nat := if 128 ≤ a then ((a * 2) ^^^ 0x11B) % 256 else a * 2

def gfMulLoop : Nat → Nat → Nat → Nat → Nat
  | 0, _, _, acc => acc
  | n + 1, a, b, acc => gfMulLoop n (gfX a) (b / 2) (if b % 2 = 1 then acc ^^^ a else acc)

def gfMul (a b : Nat) : Nat := gfMulLoop 8 a b 0

def gfSq : Nat → Nat → Nat
  | 0, a => a
  | n + 1, a => gfSq n (gfMul a a)

/-- The inverse in GF(2^8), a^254; 0 for 0. -/
def gfInv (a : Nat) : Nat := (List.range 7).foldl (fun acc i => gfMul acc (gfSq (i + 1) a)) 1

def rotl8 (n x : Nat) : Nat := (x * 2 ^ n) % 256 + x / 2 ^ (8 - n)

/-- The substitution of one byte. -/
def sbox (a : Nat) : Nat :=
  let i := gfInv a
  i ^^^ rotl8 1 i ^^^ rotl8 2 i ^^^ rotl8 3 i ^^^ rotl8 4 i ^^^ 0x63

def xorBytes (a b : List Nat) : List Nat := (a.zip b).map fun e => e.1 ^^^ e.2

/-- The key schedule's words of 4 bytes, extended word by word. -/
def keyWords : Nat → List (List Nat) → List (List Nat)
  | 0, w => w
  | n + 1, w =>
    let i := w.length
    let t := w.getD (i - 1) []
    let t := if i % 8 = 0 then
        xorBytes ((t.drop 1 ++ t.take 1).map sbox) [gfSq 0 ((List.range (i / 8 - 1)).foldl (fun a _ => gfX a) 1), 0, 0, 0]
      else if i % 8 = 4 then t.map sbox else t
    keyWords n (w ++ [xorBytes (w.getD (i - 8) []) t])

/-- The fifteen round keys of a 32-byte key. -/
def roundKeys (key : Bytes) : List (List Nat) :=
  let w := keyWords 52 ((List.range 8).map fun i => (slice key (4 * i) 4).map (·.toNat))
  (List.range 15).map fun r => ((w.drop (4 * r)).take 4).flatten

/-- Byte i of the rows shifted. -/
def shiftRows (st : List Nat) : List Nat := (List.range 16).map fun i => st.getD ((i + 4 * (i % 4)) % 16) 0

def mixColumn (c : List Nat) : List Nat :=
  let g := fun i => c.getD (i % 4) 0
  (List.range 4).map fun i => gfX (g i) ^^^ gfX (g (i + 1)) ^^^ g (i + 1) ^^^ g (i + 2) ^^^ g (i + 3)

def mixColumns (st : List Nat) : List Nat := ((List.range 4).map fun i => mixColumn ((st.drop (4 * i)).take 4)).flatten

/-- One block encrypted under the round keys. -/
def aesBlock (ks : List (List Nat)) (blk : List Nat) : List Nat :=
  let st := xorBytes blk (ks.getD 0 [])
  let st := (List.range 13).foldl (fun st r => xorBytes (mixColumns (shiftRows (st.map sbox))) (ks.getD (r + 1) [])) st
  xorBytes (shiftRows (st.map sbox)) (ks.getD 14 [])

/-! ## GCM -/

/-- Multiply in GF(2^128) with bit 127 of a number as the coefficient of x^0. -/
def ghMulLoop : Nat → Nat → Nat → Nat → Nat
  | 0, _, _, z => z
  | n + 1, x, v, z =>
    ghMulLoop n x (if v % 2 = 1 then (v / 2) ^^^ (0xE1 * 2 ^ 120) else v / 2) (if bit x n then z ^^^ v else z)

def ghMul (x y : Nat) : Nat := ghMulLoop 128 x y 0

def ghash (h : Nat) (bs : Bytes) : Nat :=
  (List.range (ceilDiv bs.length 16)).foldl (fun y i => ghMul (y ^^^ ofBe (slice bs (16 * i) 16)) h) 0

/-- Counter mode from counter block j. -/
def gcmCtr (ks : List (List Nat)) (iv : Bytes) (data : Bytes) : Bytes :=
  ((List.range (ceilDiv data.length 16)).map fun i =>
    let k := aesBlock ks ((iv ++ be 4 (i + 2)).map (·.toNat))
    ((slice data (16 * i) 16).zip k).map fun e => e.1 ^^^ BitVec.ofNat 8 e.2).flatten

/-- The 16-byte tag over additional data and ciphertext. -/
def gcmTag (ks : List (List Nat)) (iv ad ct : Bytes) : Bytes :=
  let h := ofBe ((aesBlock ks (List.replicate 16 0)).map (BitVec.ofNat 8))
  let s := ghash h (padTo 16 ad ++ padTo 16 ct ++ be 8 (8 * ad.length) ++ be 8 (8 * ct.length))
  let j := ofBe ((aesBlock ks ((iv ++ be 4 1).map (·.toNat))).map (BitVec.ofNat 8))
  be 16 (s ^^^ j)

/-- Ciphertext and tag. -/
def gcmSeal (key iv ad pt : Bytes) : Bytes × Bytes :=
  let ks := roundKeys key
  let ct := gcmCtr ks iv pt
  (ct, gcmTag ks iv ad ct)

/-- The plaintext, when the tag verifies. -/
def gcmOpen (key iv ad ct tag : Bytes) : Option Bytes :=
  let ks := roundKeys key
  if gcmTag ks iv ad ct = tag then some (gcmCtr ks iv ct) else none

end Sys2Proof.Machine
end

