-- ==== Sys2Proof/Machine/Keys.lean ====
section
/-! DEFINITION. Gatehouse: generations, blobs, lockers, invalidation and pairing (13). -/

namespace Sys2Proof.Machine

/-! ## Generations (13 R347, R364, R365) -/

/-- Burned bits of a domain. -/
def burned (s : State) (d : Nat) : Nat := mgetD s.gh.gen d 0

/-- The pending invalidation intents: in the retained register or the journal. -/
def intents (s : State) : List (Nat × Nat) := s.gh.aonIntent.toList ++ s.gh.journal.filter fun e => s.gh.aonIntent ≠ some e

/-- The generation of a domain: its burned bits and a pending intent. -/
def generation (s : State) (d : Nat) : Nat :=
  burned s d + b2n ((intents s).any fun e => e.1 == d && e.2 == burned s d)

/-- "GH-DOMAIN". -/
def lblDomain : Bytes := [71, 72, 45, 68, 79, 77, 65, 73, 78]

/-- The domain key. -/
def domainKey (d g : Nat) : Bytes := kdf (be 32 (Config.rootKey % 2 ^ 256)) lblDomain (be 1 d ++ be 1 g) 32

/-! ## Blobs (13 R349-R351) -/

/-- KLEN of a type; 0 for no type. -/
def keyLen : Nat → Nat
  | 1 => 32
  | 2 => 30
  | 3 => 28
  | 4 => 44
  | 5 => 32
  | 6 => 16
  | 7 => 32
  | 8 => 32
  | 9 => 32
  | _ => 0

/-- The USAGE bits a type permits. -/
def keyUsage : Nat → Nat
  | 1 => 1
  | 2 => 2
  | 3 => 2
  | 4 => 2
  | 5 => 12
  | 6 => 4
  | 7 => 4
  | 8 => 16
  | 9 => 33
  | _ => 0

def usageOk (ty u : Nat) : Bool := u ≠ 0 && (u ||| keyUsage ty) == keyUsage ty

/-- A parent of a key: a locker, or a domain as 0x80 + d. -/
def parentOk (p : Nat) : Bool := p < 64 || (128 ≤ p && p < 143)

def isDomain (p : Nat) : Bool := 128 ≤ p

def locker (s : State) (n : Nat) : Locker := mgetD s.gh.lockers n {}

def setLocker (n : Nat) (l : Locker) (s : State) : State := { s with gh := { s.gh with lockers := mput s.gh.lockers n l } }

/-- A locker that can be a parent: WRAP usage and DEPTH at most 2. DEDUCED: an EMPTY or ORPHANED one is answered by checks 3 and 4,
since a LOADED locker alone holds a USAGE (13 R352, R356). -/
def parentFit (s : State) (p : Nat) : Bool :=
  isDomain p || (let l := locker s p
                 l.state ≠ .loaded || (bit l.usage 0 && l.depth ≤ 2))

/-- The effective root, KID, DEPTH and key of a parent. -/
structure Parent where
  root : Nat
  gen : Nat
  kid : Nat
  depth : Nat
  key : Bytes
deriving DecidableEq, Repr

/-- ROOT of a key under a parent: a domain, or 16 beneath locker 63. -/
def parentOf (s : State) (p : Nat) : Parent :=
  if isDomain p then
    let d := p - 128
    { root := d, gen := generation s d, kid := 0, depth := 0, key := domainKey d (generation s d) }
  else
    let l := locker s p
    { root := if l.rootDom = 15 then 16 else l.rootDom, gen := if l.rootDom = 15 then 0 else l.rootGen, kid := l.kid
      depth := l.depth + 1, key := l.key }

/-- Checks 2 to 4 on a parent; for a domain, gen is the blob's GEN (13 R358). -/
def parentStatus (s : State) (p : Nat) (gen : Option Nat) : Nat :=
  if isDomain p then
    let g := generation s (p - 128)
    if 64 ≤ g then 0x0403
    else match gen with
      | some n => if n < g then 0x0401 else 0
      | none => 0
  else match (locker s p).state with
    | .empty => 0x0404
    | .orphaned => 0x0401
    | .loaded => 0

/-- Check 1 on a blob under a parent (13 R349, R351, R358). -/
def blobFields (s : State) (p : Nat) (b : Bytes) : Bool :=
  let fmt := fld b 2 1
  let ty := fld b 3 1
  let clear := fmt = 2
  fld b 0 2 == 0x4B47 && (fmt == 1 || fmt == 2) && (1 ≤ ty && ty ≤ 8) && usageOk ty (fld b 4 2)
    && fld b 28 2 == keyLen ty && b.length == 60 + keyLen ty && (fld b 6 1 < 15 || fld b 6 1 == 16)
    && (if fld b 6 1 = 16 then fld b 7 1 == 0 else fld b 7 1 < 64) && fld b 31 1 == 0 && fld b 30 1 ≤ 3
    && decide ((fld b 30 1 = 0) = (isDomain p : Prop)) && parentFit s p
    && (!clear || (2 ≤ ty && ty ≤ 7 && fld b 30 1 == 0 && isZero (slice b 8 8) && isZero (slice b 32 12)
        && isZero (slice b (44 + keyLen ty) 16)))

/-- Checks 5 and 6: the blob names its parent, and opens under it. The key material, or none. -/
def blobOpen (s : State) (p : Nat) (b : Bytes) : Option Bytes :=
  let q := parentOf s p
  let k := fld b 28 2
  if fld b 6 1 ≠ q.root ∨ fld b 7 1 ≠ q.gen ∨ fld b 16 8 ≠ q.kid ∨ fld b 30 1 ≠ q.depth then none
  else if fld b 2 1 = 2 then some (slice b 44 k)
  else gcmOpen q.key (slice b 32 12) (b.take 32) (slice b 44 k) (slice b (44 + k) 16)

/-- Unwrap a blob with checks 2 to 6; a failure of checks 5 and 6 and a success count (13 R358). -/
def unwrap (p : Nat) (b : Bytes) (s : State) : (Nat × Bytes) × State :=
  let st := parentStatus s p (some (fld b 7 1))
  if st ≠ 0 then ((st, []), s)
  else match blobOpen s p b with
    | some k => ((0, k), count 208 s)
    | none => ((0x0402, []), count 209 s)

/-- A WRAPPED blob of a key under a parent. -/
def wrapBlob (q : Parent) (ty usage kid keyId : Nat) (key iv : Bytes) : Bytes :=
  let head := le 2 0x4B47 ++ le 1 1 ++ le 1 ty ++ le 2 usage ++ le 1 q.root ++ le 1 q.gen ++ le 8 kid ++ le 8 q.kid ++ le 4 keyId
    ++ le 2 key.length ++ le 1 q.depth ++ zeros 1
  let (ct, tag) := gcmSeal q.key iv head key
  head ++ iv ++ ct ++ tag

/-- Random bytes of Gatehouse (13 R346): nothing is known of them. -/
def randomBytes (n : Nat) (s : State) : Bytes × State :=
  let (v, s) := drawFree s
  (be n (v % 2 ^ (8 * n)), s)

/-! ## Zeroising (13 R355) -/

/-- The lockers that descend from a locker, itself included: parents to a depth of three. -/
def descends (s : State) (k n : Nat) : Bool :=
  let up := fun (m : Nat) => let l := locker s m
    if l.state == .empty then 0xFF else l.parent
  n == k || up n == k || up (up n) == k || up (up (up n)) == k

def bitmapOf (l : List Nat) : Nat := l.foldl (fun a n => a + 2 ^ n) 0

/-- A GATEHOUSE record (16 R420). -/
def noteGate (sev : Nat) (name : Bytes) (subject gen : Nat) (bm : Nat) (s : State) : State :=
  recAdd sev 10 (1 + Config.recCode 10 name % 0xEFFF) 3 1 subject gen (bm % 2 ^ 32) (le 4 (bm / 2 ^ 32) ++ name) s

/-- Empty a locker and every locker that descends from it. -/
def zeroise (k : Nat) (s : State) : State :=
  let hit := ((List.range 64).filter fun n => descends s k n && (locker s n).state != .empty)
  if hit.isEmpty then s
  else
    let s := countBy 210 hit.length { s with gh := { s.gh with lockers := mfilter s.gh.lockers fun n _ => !hit.contains n } }
    noteGate 4 nmLockersZeroised k 0 (bitmapOf hit) s

/-- Every locker loses its key: resets, DORMANT and loss of main power (13 R354). -/
def emptyLockers (s : State) : State := { s with gh := { s.gh with lockers := [], pairWait := none } }

/-! ## Key commands (13 R358-R363) -/

/-- An answer: the state, the status and the result. -/
abbrev Answer := State × Nat × Bytes

/-- KEY_LOAD. -/
def keyLoadLen (p : Bytes) (n : Nat) : Bool := n = 1 + ceilDiv (fld p 2 2) 4

def keyLoadField (s : State) (p : Bytes) : Bool :=
  fld p 0 1 < 63 && parentOk (fld p 1 1) && isZero (p.drop (4 + fld p 2 2)) && blobFields s (fld p 1 1) (slice p 4 (fld p 2 2))

def keyLoadRun (s : State) (p : Bytes) : Answer :=
  let n := fld p 0 1
  let par := fld p 1 1
  let b := slice p 4 (fld p 2 2)
  let ((st, key), s) := unwrap par b s
  if st ≠ 0 then (s, st, [])
  else
    let q := parentOf s par
    let l : Locker := { state := .loaded, key := key, type := fld b 3 1, usage := fld b 4 2, kid := fld b 8 8, keyId := fld b 24 4
                        depth := fld b 30 1, parent := par, rootDom := if isDomain par then q.root else (locker s par).rootDom
                        rootGen := if isDomain par then q.gen else (locker s par).rootGen }
    let s := setLocker n l (zeroise n s)
    (s, 0, le 8 l.kid)

/-- KEY_GENERATE. -/
def keyGenField (s : State) (p : Bytes) : Bool :=
  parentOk (fld p 0 1) && (1 ≤ fld p 1 1 && fld p 1 1 ≤ 8) && usageOk (fld p 1 1) (fld p 2 2) && parentFit s (fld p 0 1)

/-- LEN, reserved and the blob, padded. -/
def blobResult (b : Bytes) : Bytes := le 2 b.length ++ zeros 2 ++ padTo 4 b

def keyGenRun (s : State) (p : Bytes) : Answer :=
  let par := fld p 0 1
  let ty := fld p 1 1
  let st := parentStatus s par none
  if st ≠ 0 then (s, st, [])
  else
    let (v, s) := drawFree s
    let key := if ty = 8 then be 32 (1 + v % (p256Order - 1)) else be (keyLen ty) (v % 2 ^ (8 * keyLen ty))
    let (kid, s) := drawFree s
    let (iv, s) := randomBytes 12 s
    let b := wrapBlob (parentOf s par) ty (fld p 2 2) (kid % 2 ^ 64) (fld p 4 4) key iv
    (s, 0, blobResult b ++ if ty = 8 then be 64 (Config.p256Point (ofBe key) % 2 ^ 512) else [])

/-- KEY_REWRAP. -/
def keyRewrapLen (p : Bytes) (n : Nat) : Bool := n = 1 + ceilDiv (fld p 2 2) 4

def keyRewrapField (s : State) (p : Bytes) : Bool :=
  parentOk (fld p 0 1) && parentOk (fld p 1 1) && isZero (p.drop (4 + fld p 2 2))
    && blobFields s (fld p 0 1) (slice p 4 (fld p 2 2)) && parentFit s (fld p 1 1)

def keyRewrapRun (s : State) (p : Bytes) : Answer :=
  let b := slice p 4 (fld p 2 2)
  let ((st, key), s') := unwrap (fld p 0 1) b s
  if st ≠ 0 then (s', st, [])
  else
    let st := parentStatus s' (fld p 1 1) none
    if st ≠ 0 then (s', st, [])
    else
      let (v, s') := if fld b 2 1 = 2 then drawFree s' else (fld b 8 8, s')
      let (iv, s') := randomBytes 12 s'
      (s', 0, blobResult (wrapBlob (parentOf s' (fld p 1 1)) (fld b 3 1) (fld b 4 2) (v % 2 ^ 64) (fld b 24 4) key iv))

/-- KEY_CLEAR. -/
def keyClearField (p : Bytes) : Bool := fld p 0 1 < 63 && isZero (slice p 1 3)

def keyClearRun (s : State) (p : Bytes) : Answer := (zeroise (fld p 0 1) s, 0, [])

/-! ## Invalidation (13 R362, R364, R365) -/

/-- One margin read of a bit just burned: its outcome is the fuse's own, a free value. -/
def marginRead (s : State) : Bool × State :=
  let (v, s) := drawFree s
  (v % 2 = 1, s)

/-- Both margin reads. -/
def marginReads (s : State) : Bool × State :=
  let (a, s) := marginRead s
  let (b, s) := marginRead s
  (a && b, s)

/-- Burn and verify, at most n burns in all. -/
def burnVerify : Nat → State → Bool × State
  | 0, s => (false, s)
  | n + 1, s =>
    let (ok, s) := marginReads (count 212 s)
    if ok then (true, s) else burnVerify n s

/-- Step 6: the intent is cleared, the journal entry closed, and the bit counts as burned. -/
def intentDone (e : Nat × Nat) (s : State) : State :=
  { s with gh := { s.gh with
    aonIntent := if s.gh.aonIntent = some e then none else s.gh.aonIntent
    journal := s.gh.journal.filter (· != e)
    gen := mput s.gh.gen e.1 (max (burned s e.1) (e.2 + 1)) } }

/-- Steps 4 to 6 for one intent: whether it is complete, and whether a burn was needed. A bit that already passes both
margin reads is not burned again (13 R365). -/
def driveIntent (fresh : Bool) (e : Nat × Nat) (s : State) : (Bool × Bool) × State :=
  let (pre, s) := if fresh then (false, s) else marginReads s
  if pre then ((true, false), intentDone e s)
  else
    let (ok, s) := burnVerify 3 s
    if ok then ((true, true), intentDone e s) else ((false, true), s)

/-- Every pending intent is retried; the flags say whether all are complete and whether one was burned again. -/
def driveIntents (s : State) : (Bool × Bool) × State :=
  (intents s).foldl (fun (a : (Bool × Bool) × State) e =>
    let ((ok, b), s) := driveIntent false e a.2
    ((a.1.1 && ok, a.1.2 || b), s)) ((true, false), s)

/-- The LOADED lockers whose effective root has a domain. -/
def rootedIn (d : Nat) (s : State) : List Nat :=
  (List.range 64).filter fun n => (locker s n).state == .loaded && (locker s n).rootDom == d

/-- Such lockers become ORPHANED (13 R355). -/
def orphan (d : Nat) (s : State) : State :=
  let hit := rootedIn d s
  countBy 210 hit.length { s with gh := { s.gh with
    lockers := mmap s.gh.lockers fun n l => if hit.contains n then { l with state := .orphaned, key := [] } else l } }

/-- DOMAIN_INVALIDATE. -/
def invalidateField (p : Bytes) : Bool := fld p 0 1 < 15 && fld p 1 1 < 64 && fld p 2 2 == 0x5A17

/-- Step 7 of 13 R364: the command's record and its reply, then the zeroisation's record. -/
def invalidateEnd (d : Nat) (hit : List Nat) (w : Waiter) (p : Bytes) (st : Nat) (res : Bytes) (s : State) : State :=
  noteGate 7 nmDomainInvalidated d (generation s d) (bitmapOf hit) (closeCommand w (some 7) w.crc p st false res s)

def invalidateRun (s : State) (w : Waiter) (p : Bytes) : Answer :=
  let d := fld p 0 1
  let ex := fld p 1 1
  let had := !(intents s).isEmpty
  let ((_, re), s) := driveIntents s
  let g := generation s d
  let flags := fun (s : State) (already : Bool) => b2n already + b2n (had && re) * 2 + b2n (!(intents s).isEmpty) * 4
  let result := fun (s : State) (already : Bool) => le 1 d ++ le 1 (generation s d) ++ le 1 (flags s already) ++ zeros 1
  if g < ex then (s, 0x0103, [])
  else if ex < g then (s, 0, result s true)
  else
    let e := (d, g)
    let hit := rootedIn d s
    let s := orphan d { s with gh := { s.gh with aonIntent := some e, journal := s.gh.journal ++ [e] } }
    let ((ok, _), s) := driveIntent true e s
    (invalidateEnd d hit w p (if ok then 0 else 0x0601) (result s false) s, 2, result s false)

/-- At the fuse-sense step of boot each intent is driven to completion and recorded (13 R365). -/
def bootIntents (s : State) : State :=
  (intents s).foldl (fun s e =>
    let ((ok, re), s) := driveIntent false e s
    if ok then noteGate 7 (if re then nmIntentReburn else nmIntentCompleted) e.1 (generation s e.1) 0 s else s) s

/-! ## Status and certificate (13 R345, R363) -/

def lockerRecord (s : State) (n : Nat) : Bytes :=
  let l := locker s n
  match l.state with
  | .empty => zeros 7 ++ le 1 0xFF ++ zeros 8
  | _ => le 1 (if l.state = .loaded then 1 else 2) ++ le 1 l.type ++ le 2 l.usage ++ le 1 l.rootDom ++ le 1 l.rootGen ++ le 1 l.depth
      ++ le 1 l.parent ++ le 8 l.kid

/-- KEY_STATUS. -/
def keyStatusBytes (s : State) : Bytes :=
  let e := (intents s).head?
  ((List.range 16).map fun d => le 1 (burned s d)).flatten
    ++ le 1 (match e with
      | some (d, _) => d + 16
      | none => 0)
    ++ le 1 (match e with
      | some (_, g) => g
      | none => 0)
    ++ zeros 2 ++ ((List.range 64).map (lockerRecord s)).flatten

/-- ID_CERT. -/
def idCertBytes (s : State) : Bytes := le 4 s.gh.idCert.length ++ padTo 4 s.gh.idCert

/-! ## The pair key (13 R366, R367) -/

/-- The pair-key blob loads into locker 63 from NOR (13 R354). -/
def loadPairKey (s : State) : State :=
  let fail := fun s => noteGate 6 nmPairKeyLoad 63 0 0 s
  match s.gh.pairBlob with
  | none => fail s
  | some b =>
    let g := generation s 15
    match (if fld b 7 1 = g then gcmOpen (domainKey 15 g) (slice b 32 12) (b.take 32) (slice b 44 32) (slice b 76 16) else none) with
    | none => fail s
    | some k =>
      setLocker 63 { state := .loaded, key := k, type := 9, usage := 33, kid := fld b 8 8, depth := 0, parent := 0x8F
                     rootDom := 15, rootGen := g } s

/-- CAS_PAIR: the unit sends its certificate, its ephemeral key and its nonce, and waits for its partner's (13 R366). A unit that is
not paired holds its twin lanes down (14 R372). -/
def casPairRun (s : State) (w : Waiter) : Answer :=
  if !paired s ∨ !s.gh.idOk then (s, 0x0302, [])
  else
    let (v, s) := drawFree s
    let e := 1 + v % (p256Order - 1)
    let q := be 64 (Config.p256Point e % 2 ^ 512)
    let (n, s) := randomBytes 16 s
    (emit (.pairing s.gh.idCert q n (signature identityKey (q ++ n ++ s.gh.idCert)))
      { s with gh := { s.gh with pairWait := some (w, e, n) } }, 2, [])

/-- "GH-TWIN". -/
def lblTwin : Bytes := [71, 72, 45, 84, 87, 73, 78]

/-- SAK_n and SALT_n of the twin link under the pair key in locker 63 (13 R367). -/
def twinKeys (s : State) : Bytes × Bytes :=
  let k := kdf (locker s 63).key lblTwin (be 4 s.cas.sakN) 44
  (k.take 32, k.drop 32)

/-- "GH-PAIR". -/
def lblPair : Bytes := [71, 72, 45, 80, 65, 73, 82]

/-- PAIRING_FRAME_RECEIVED: the certificate and signature verified or not, the partner's identity, its nonce, and Q, its ephemeral
point (13 R366). -/
def execPairingFrameReceived (certOk sigOk : Bool) (peerId : Nat) (nonce : Bytes) (q : Nat) (s : State) :
    Host.Outcome State Fault Refusal :=
  match s.gh.pairWait with
  | none => done s
  | some (w, e, own) =>
    let s := { s with gh := { s.gh with pairWait := none } }
    let reply := fun (st : Nat) (res : Bytes) (s : State) => closeCommand w (some 4) w.crc [] st false res s
    if !certOk ∨ !sigOk then done (reply 0x0302 [] s)
    else
      let me := Config.deviceId
      let ctx := if me < peerId then be 16 me ++ be 16 peerId ++ own ++ nonce else be 16 peerId ++ be 16 me ++ nonce ++ own
      let k := kdf (be 32 (Config.p256Shared e q % 2 ^ 256)) lblPair ctx 40
      let kid := ofLe (k.drop 32)
      let (iv, s) := randomBytes 12 s
      let g := generation s 15
      let par : Parent := { root := 15, gen := g, kid := 0, depth := 0, key := domainKey 15 g }
      let b := wrapBlob par 9 33 kid 0 (k.take 32) iv
      let s := zeroise 63 s
      let s := setLocker 63 { state := .loaded, key := k.take 32, type := 9, usage := 33, kid := kid, depth := 0, parent := 0x8F
                              rootDom := 15, rootGen := g } s
      let s := { s with gh := { s.gh with pairBlob := some b, peerPair := peerId }
                        cas := { s.cas with sakN := 0, peerId := peerId } }
      done (reply 0 (padTo 4 b ++ be 16 peerId ++ le 8 kid) s)

end Sys2Proof.Machine
end

