-- ==== Sys2Proof/Machine/Ingest.lean ====
section
/-! DEFINITION. Ingest: recognition of frames, their checks in order, measurement instants, operands and stream state
(04). -/

namespace Sys2Proof.Machine

/-! ## Counting and stream state -/

/-- TQ_BAD of a stream and of the device (04 R93). -/
def countTqBad (sid : Nat) (s : State) : State :=
  let r := stream s sid
  count 28 (setStream sid { r with tqBad := satAdd 0xFFFF r.tqBad 1 } s)

/-- Entry to CFG_MISMATCH (04 R100, R101). -/
def enterMismatch (sid : Nat) (vector : Bool) (s : State) : State :=
  let r := stream s sid
  if r.state = .cfgMismatch then s
  else
    let s := setStream sid { r with state := .cfgMismatch, wasDropped := decide (r.state = .dropped) } s
    let s := histAdd sid (now s) .mismatch s
    let s := noteIngest 5 sid nmCfgMismatch s
    if vector then raiseVector 1 s else s

/-- Leaving CFG_MISMATCH for the state that the stream's history gives (04 R103). -/
def leaveMismatch (sid : Nat) (d : StreamDef) (record : Bool) (s : State) : State :=
  let r := stream s sid
  if r.state ≠ .cfgMismatch then s
  else
    let s := histAdd sid (now s) .agreed s
    let r := stream s sid
    let s :=
      if !r.heard ∨ inIdle s then setStream sid { r with state := .idle } s
      else if d.dropout ≤ r.missRun then
        if r.wasDropped then setStream sid { r with state := .dropped } s else streamDrop sid s
      else setStream sid { r with state := .up } s
    if record then noteIngest 5 sid nmCfgMatch s else s

/-- The port of the PRP pair on which a frame of a stream was seen (04 R480). DESIGN CHOICE: a copy that the MAC's PRP discard
removes before ingest (04 R91) is not seen by the stream. -/
def prpSeen (sid : Nat) (d : StreamDef) (p : Nat) (t : Instant) (s : State) : State :=
  let r := stream s sid
  let first := if d.opts % 4 = 1 then 2 else if d.opts % 4 = 2 then 4 else 99
  if p = first then setStream sid { r with prpA := some t } s
  else if p = first + 1 then setStream sid { r with prpB := some t } s
  else s

/-! ## Recognition (04 R83) -/

def vlanOk (want : Nat) (got : Option Nat) : Bool := want = 0xFFFF || got = some want

def srcOk (want got : Nat) : Bool := want = 0 || want = got

/-- The stream of the active bank whose keys a test matches. -/
def matchStream (s : State) (f : StreamDef → Bool) : Option (Nat × StreamDef) :=
  (activeBank s).streams.find? fun e => f e.2

def keysUdp (port : Nat) (vlan : Option Nat) (udp src idcode : Nat) (d : StreamDef) : Bool :=
  d.type == 1 && bit d.ports port && vlanOk d.vlan vlan && d.udpPort == udp && srcOk d.srcAddr src && d.idcode == idcode

def streamOfUdp (s : State) (f : UdpFrame) : Option (Nat × StreamDef) :=
  if fld f.bytes 0 1 = 0xAA then matchStream s (keysUdp f.port f.vlan f.dstUdp f.src (fldBe f.bytes 4 2)) else none

def streamOfCfg (s : State) (f : CfgFrame) : Option (Nat × StreamDef) :=
  matchStream s (keysUdp f.port f.vlan f.dstUdp f.src f.idcode)

def streamOfSv (s : State) (f : SvFrame) : Option (Nat × StreamDef) :=
  if !f.l2 ∧ f.dstUdp ≠ 102 then none else
  matchStream s fun d => d.type == (if f.l2 then 3 else 4) && bit d.ports f.port && vlanOk d.vlan f.vlan
    && (!f.l2 || d.dstMac == f.dstMac) && srcOk d.srcAddr f.src && d.idcode == f.appid && d.ident == f.ident

def streamOfGoose (s : State) (f : GooseFrame) : Option (Nat × StreamDef) :=
  if f.dstUdp ≠ 102 then none else
  matchStream s fun d => d.type == 5 && bit d.ports f.port && vlanOk d.vlan f.vlan && srcOk d.srcAddr f.src
    && d.idcode == f.appid && d.ident == f.ident

/-- Check 1: the SPDU's signature verifies under the current or the next locker of its key identity (04 R84). -/
def authOk (s : State) (locker : Nat) (sig : Option SpduSig) : Bool :=
  if locker = 0xFFFF then true
  else match sig with
    | none => false
    | some g =>
      let holds := fun n => n != 0xFF && (match mget s.gh.lockers n with
        | some l => spduLocker s n && l.keyId == g.kid
        | none => false)
      g.ok && (holds (locker % 256) || holds (locker / 256))

/-- A frame fails check 1: none of the lockers that the stream names is usable, which counts (13 R356), or the SPDU does not
verify. -/
def authFail (sid locker : Nat) (s : State) : State :=
  let use := (locker % 256 ≠ 0xFF && spduLocker s (locker % 256)) || (locker / 256 ≠ 0xFF && spduLocker s (locker / 256))
  countStream sid 7 (if use then s else useRefused s)

/-! ## Measurement instants (04 R85, R86) -/

/-- The TAI second of an incoming SOC (03 R58). -/
def taiOfSoc (s : State) (soc : Nat) (pending : Bool) : Nat :=
  let off := s.tb.utcOffset
  let two := match s.tb.leapEnd with
    | some e => some (e, off, if s.tb.leap = 2 then off - 1 else off + 1)
    | none => match s.tb.lastLeap with
      | some (e, old, _) => some (e, old, off)
      | none => none
  match two with
  | none => soc + off
  | some (e, old, new) =>
    let a := soc + old
    let b := soc + new
    if a < e ∧ (b < e ∨ pending) then a else if e ≤ b then b else a

/-- The instant whose tolerance window holds the time s + frac / tb, rounded down once to u (04 R86): floor compares with
edges that are rounded down once. -/
def snap (rate tol : Nat) (sec frac tb : Nat) : Option Nat :=
  let u := sec * secU + frac * secU / tb
  let den := 64 * rate
  let edge := fun (j : Nat) (up : Bool) =>
    -- (64 j ± tol) / (64 rate) s, formed exactly and rounded down once
    let n : Int := 64 * (j : Int) + (if up then (tol : Int) else -(tol : Int))
    n * secU / (den : Int)
  let j := gridFloor rate u
  [j, j + 1].find? fun j => decide (edge j false ≤ u) && decide ((u : Int) < edge j true)

def tolOf (d : StreamDef) : Nat := if d.tol = 0 then 16 else d.tol

/-! ## C37.118 data frames (04 R84) -/

/-- Check 2 of a C37.118 frame, with R85's range of FRACSEC. -/
def c37FrameOk (d : StreamDef) (b : Bytes) : Bool :=
  fld b 0 1 == 0xAA && (fld b 1 1 == 1 || fld b 1 1 == 2) && fldBe b 2 2 == b.length && decide (b.length ≤ 9216)
    && b.length == frameLen d && fldBe b (b.length - 2) 2 == crcCcitt (b.take (b.length - 2))
    && decide (fldBe b 11 3 < d.tbConf)

/-- The instance j of a data frame, numbered from the epoch. -/
def c37Instant (s : State) (d : StreamDef) (b : Bytes) : Option Nat :=
  snap d.rate (tolOf d) (taiOfSoc s (fldBe b 6 4) (bit (fldBe b 10 1) 4)) (fldBe b 11 3) d.tbConf

/-- The instance is later than the arrival stamp plus half of 1/RATE (check 5). -/
def isFuture (rate : Nat) (t stamp : Instant) : Bool := decide (stamp + secU / (2 * rate) < t)

/-- Whether a frame's instance is bad only because of R93 STRICT. -/
def c37TqBad (b : Bank) (sid : Nat) (d : StreamDef) (frame : Bytes) : Bool :=
  let qs := fun d => (chansOf b sid).filterMap fun e => if chanAlign e.2 then some (frameQual d e.2 frame) else none
  instanceBad (qs d) && !instanceBad (qs { d with tq := d.tq + (if tqMode d = 0 then 1 else 0) })

/-- Checks 6 to 8 in RUN, and the operand (04 R84; 06 R130). -/
def c37Accept (sid : Nat) (d : StreamDef) (frame : Bytes) (j : Nat) (stamp : Instant) (s : State) : State :=
  let b := activeBank s
  let t := gridAt d.rate j
  let r := stream s sid
  let (waits, partial_) := cellWaits s sid t stamp
  if r.written.contains j then countStream sid 1 s
  else if waits.isEmpty ∧ !(groupsOf s sid).isEmpty then
    let s := countStream sid 2 s
    if bit d.opts 2 then lateLane sid stamp t frame s else s
  else
    let data := OperandData.frame frame
    let bad := instanceBad (alignQuals b sid data)
    match takeCell sid t frame.length (fun p => { key := sid, inst := t, fptr := p, fbLen := ceilDiv frame.length 64
                                                  staging := false, latePartial := partial_, qual := cellQual b sid data (!bad)
                                                  stamp := stamp, data := data, waiting := waits }) s with
    | none => streamRefused sid s
    | some s =>
      let s := countStream sid 0 s
      let s := if partial_ then countStream sid 3 s else s
      let s := setStream sid { stream s sid with written := (stream s sid).written ++ [j] } s
      let s := if c37TqBad b sid d frame then countTqBad sid s else s
      operandWritten sid t stamp (streamAccept sid t bad s)

/-- The checks of a recognised C37.118 data frame, in order (04 R84, R105). -/
def c37Ingest (sid : Nat) (d : StreamDef) (frame : Bytes) (stamp : Instant) (s : State) : State :=
  if !c37FrameOk d frame then countStream sid 6 s
  else if (stream s sid).state = .cfgMismatch then countStream sid 9 s
  else match c37Instant s d frame with
    | none => countStream sid 4 s
    | some j =>
      if isFuture d.rate (gridAt d.rate j) stamp then countStream sid 5 s
      else if inRun s then c37Accept sid d frame j stamp s
      else countStream sid 0 s

/-- The type of a C37.118 frame from its SYNC word. -/
def c37Type (b : Bytes) : Nat := bits (fld b 1 1) 6 4

/-- A data frame, from the unit's own port or mirrored. -/
def c37Frame (f : UdpFrame) (s : State) : State :=
  match streamOfUdp s f with
  | none => s
  | some (sid, d) =>
    let acc := (stream s sid).counts
    let s := c37Ingest sid d f.bytes f.stamp (prpSeen sid d f.port f.stamp s)
    -- the source of the stream's last accepted frame (08 R204)
    if mgetD (stream s sid).counts 0 0 ≠ mgetD acc 0 0 then
      setStream sid { stream s sid with lastSrc := some (f.src, f.srcUdp, f.port) } s
    else s

/-- C37118_FRAME_RECEIVED (04 R83, R84). -/
def rowC37118FrameReceived (f : UdpFrame) (s : State) : Host.Outcome State Fault Refusal :=
  if mainUp s ∧ (streamOfUdp s f).isSome ∧ !(1 ≤ c37Type f.bytes ∧ c37Type f.bytes ≤ 5) then
    let (ok, s) := macTake f.port f.len f.vlan (rxClass f.vlan f.pcp 5) f.held f.rct f.stamp s
    if !ok then done s
    else
      let (ok, s) := svcInput f.port f.dst f.len f.stamp (.udp f) s
      done (if ok then c37Frame f s else s)
  else done s

/-! ## Injection records (04 R102) -/

/-- A record that passed R102 goes through R84. -/
def recordIngest (sid : Nat) (stamp : Instant) (frame : Bytes) (s : State) : State :=
  match mget (activeBank s).streams sid with
  | some d => if d.type = 2 then c37Ingest sid d frame stamp s else s
  | none => s

/-- INJECTION_RECORD_TAKEN: the oldest packet of an injection queue (04 R102; 11 R312). DESIGN CHOICE: a LEN outside 16 to 9,216
that agrees with its packet counts IQ_BAD_SID as one that disagrees does. -/
def rowInjectionRecordTaken (m : Fin 16) (s : State) : Host.Outcome State Fault Refusal :=
  let q := iq s m
  match q.pkts with
  | [] => done s
  | p :: rest =>
    if !mainUp s then done s
    else
      let s := setIq m (iqDrained { q with pkts := rest }) s
      if !emits s then done (count 168 s)
      else
        let sid := fld p 0 2
        let len := fld p 2 2
        let stamp := (fld p 8 6) * secU + fld p 4 4
        let known : Bool := match mget (activeBank s).streams sid with
          | some d => d.type == 2
          | none => false
        if !known ∨ len < 16 ∨ 9216 < len ∨ p.length ≠ 16 + len then done (count 29 s)
        else if now s < stamp then done (count 30 s)
        else done (recordIngest sid stamp (p.drop 16) (mirrorOut 0xFF (16 + len) stamp (.record sid stamp (p.drop 16)) s))

/-! ## Sampled values (04 R84, R87) -/

/-- The sample instant of an ASDU, numbered from the epoch (04 R87). -/
def svInstant (rate smpCnt : Nat) (stamp : Instant) : Nat :=
  (stamp + msU 1 - smpCnt * secU / rate) / secU * rate + smpCnt

/-- The primary that feeds a filter chain from a stream: the stream itself, or the one that names it as alternate. -/
def primaryOf (b : Bank) (sid : Nat) (d : StreamDef) : Option (Nat × StreamDef × Bool) :=
  if !bit d.opts 3 then some (sid, d, false)
  else (b.streams.find? fun e => e.2.altSid == sid && !bit e.2.opts 3).map fun e => (e.1, e.2, true)

/-- An accepted sample set enters the chain's input (05 R119). -/
def svFeed (psid : Nat) (pd : StreamDef) (tid : Nat) (tm : Template) (alt : Bool) (n : Nat) (e : SampleSet) (s : State) :
    State :=
  let run := filter s psid
  let run := if alt then { run with altq := run.altq ++ [e], altFirst := some (run.altFirst.getD n) }
    else { run with prim := run.prim ++ [e], first := some (run.first.getD n) }
  let s := setFilter psid run s
  let s := if alt = run.useAlt then refBusUpdate psid n s else s
  filterDrain tid tm psid pd s

/-- The stream hears its sample set; a chain judges it at consumption (04 R103). -/
def svHeard (sid : Nat) (n : Nat) (t : Instant) (s : State) : State :=
  let r := stream s sid
  setStream sid { r with
    state := if r.state = .idle then .up else r.state, heard := true, lastInst := some t
    firstAcc := some (r.firstAcc.getD t), written := r.written ++ [n] } s

/-- The sample set of an ASDU that STRICT makes bad (04 R93). -/
def asduTqBad (b : Bank) (sid : Nat) (d : StreamDef) (e : SampleSet) : Bool :=
  let qs := fun d => (chansOf b sid).filterMap fun c =>
    if chanAlign c.2 then some (svQual d e (e.vals.getD c.2.index (0, 1)).2) else none
  instanceBad (qs d) && !instanceBad (qs { d with tq := d.tq + (if tqMode d = 0 then 1 else 0) })

/-- Checks 6 to 8 of a sample set in RUN (04 R84, R89, R104); TQ_BAD counts only what they accept (04 R93, R104). DEDUCED: a sample
set of an alternate belongs to the groups of the primary whose chain consumes it (04 R89, R92). -/
def svAccept (sid : Nat) (d : StreamDef) (n : Nat) (a : Asdu) (stamp : Instant) (s : State) : State :=
  let b := activeBank s
  let t := gridAt d.rate n
  let ok := fun s => svHeard sid n t (countStream sid 0 s)
  if (stream s sid).written.contains n then countStream sid 1 s
  else match primaryOf b sid d with
    | none => ok s
    | some (psid, pd, alt) =>
      let e : SampleSet := { n := n, alt := alt, timeUnc := a.smpSynch ≠ 2, vals := a.vals }
      let ok := fun s => if asduTqBad b psid d e then countTqBad sid (ok s) else ok s
      match filterTmpl b psid with
      | none =>
        let qs := (chansOf b sid).filterMap fun c =>
          if chanAlign c.2 then some (svQual d e (e.vals.getD c.2.index (0, 1)).2) else none
        streamAccept sid t (instanceBad qs) (ok s)
      | some (tid, tm) =>
        let p := fcPar (fnom s) pd.rate tm.blk
        let j := max (instanceOf p n) (filter s psid).start
        if n < (filter s psid).opened then ok s
        else if j < (filter s psid).next ∨ filterDeadline s tid p j ≤ stamp then
          -- consumed without it: LATE only where the chain's stream belongs to a group
          if (groupsOf s psid).isEmpty then ok s else countStream sid 2 s
        else match stagingCell psid (gridAt p.rOut j) (filterBytes p tm.blk) s with
          | none => streamRefused sid s
          | some s => svFeed psid pd tid tm alt n e (ok s)

/-- One ASDU after checks 1 to 3: the capture tap, then checks 4 to 8 (04 R84). -/
def svAsdu (sid : Nat) (d : StreamDef) (stamp : Instant) (s : State) (a : Asdu) : State :=
  if d.rate ≤ a.smpCnt then countStream sid 4 s
  else
    let n := svInstant d.rate a.smpCnt stamp
    let s := ringTake sid d.rate n a.vals stamp s
    if inRun s then svAccept sid d n a stamp s else countStream sid 0 s

/-- A sampled-value frame, from the unit's own port or mirrored. -/
def svFrame (f : SvFrame) (s : State) : State :=
  match streamOfSv s f with
  | none => s
  | some (sid, d) =>
    let s := prpSeen sid d f.port f.stamp s
    if !f.l2 ∧ !authOk s d.locker f.sig then authFail sid d.locker s
    else if !f.wellFormed ∨ f.asdus.isEmpty ∨ 8 < f.asdus.length ∨ f.sim ∨ 9216 < f.len
        ∨ f.asdus.any (fun a => a.vals.length != d.nch) then countStream sid 6 s
    else if f.asdus.any (fun a => a.confRev != d.tbConf) then countStream sid 9 (enterMismatch sid false s)
    else f.asdus.foldl (svAsdu sid d f.stamp) (leaveMismatch sid d true s)

/-- SV_FRAME_RECEIVED (04 R83, R84, R87). -/
def rowSvFrameReceived (f : SvFrame) (s : State) : Host.Outcome State Fault Refusal :=
  if mainUp s ∧ (streamOfSv s f).isSome then
    let (ok, s) := macTake f.port f.len f.vlan (rxClass f.vlan f.pcp 6) f.held f.rct f.stamp s
    if !ok then done s
    else
      let (ok, s) := svcInput f.port (if f.l2 then 0 else f.dst) f.len f.stamp (.sv f) s
      done (if ok then svFrame f s else s)
  else done s

/-! ## R-GOOSE (04 R88) -/

/-- The publication is newer than the held one, counting around the wrap (04 R88). DESIGN CHOICE: a number is the greater when
it lies less than half of the range ahead. -/
def gooseNewer (st sq : Nat) (h : GooseHeld) : Bool :=
  let ahead := fun (a b : Nat) => let x := (a + 2 ^ 32 - b % 2 ^ 32) % 2 ^ 32
    decide (0 < x) && decide (x < 2 ^ 31)
  ahead st h.stNum || (st == h.stNum && ahead sq h.sqNum)

/-- The quality of a publication's members (04 R93, R94). -/
def gooseQual (d : StreamDef) (f : GooseFrame) : Qual :=
  let m := tqMode d
  mkQual [!(f.test && !tqAcceptTest d) && !(f.tUnc && m == 0), f.tUnc && m != 2, f.test]

/-- A publication, from the unit's own port or mirrored. -/
def goosePub (f : GooseFrame) (s : State) : State :=
  match streamOfGoose s f with
  | none => s
  | some (sid, d) =>
    let s := prpSeen sid d f.port f.stamp s
    if !authOk s d.locker f.sig then authFail sid d.locker s
    else if !f.wellFormed ∨ f.sim ∨ 9216 < f.len ∨ f.members.length ≠ d.nch then countStream sid 6 s
    else if f.confRev ≠ d.tbConf then countStream sid 9 (enterMismatch sid false s)
    else
      let s := leaveMismatch sid d true s
      if !inRun s then countStream sid 0 s
      else
        let r := stream s sid
        let newer : Bool := match r.held with
          | none => true
          | some h => gooseNewer f.stNum f.sqNum h
        if !newer then countStream sid 1 s
        else
          let s := countStream sid 0 s
          let r := stream s sid
          setStream sid { r with
            older := r.held
            held := some { stNum := f.stNum, sqNum := f.sqNum, until_ := f.stamp + msU f.ttlMs, members := f.members
                           qual := gooseQual d f, stamp := f.stamp } } s

/-- GOOSE_R_PUBLICATION_RECEIVED (04 R83, R84, R88). -/
def execGooseRPublicationReceived (f : GooseFrame) (s : State) : Host.Outcome State Fault Refusal :=
  if mainUp s ∧ (streamOfGoose s f).isSome then
    let (ok, s) := macTake f.port f.len f.vlan (rxClass f.vlan f.pcp 6) f.held f.rct f.stamp s
    if !ok then done s
    else
      let (ok, s) := svcInput f.port f.dst f.len f.stamp (.goose f) s
      done (if ok then goosePub f s else s)
  else done s

/-- The publication whose arrival stamp lies before an instant. -/
def heldBefore (r : StreamRun) (t : Instant) : Option GooseHeld :=
  match r.held with
  | some h => if h.stamp < t then some h else match r.older with
    | some o => if o.stamp < t then some o else none
    | none => none
  | none => none

/-- The operand of a GOOSE_R stream at an instant of its grid (04 R88). DESIGN CHOICE: its size in the frame buffer (04 R104) is 4
bytes a member and 64 at least. -/
def gooseOperand (sid : Nat) (d : StreamDef) (t : Instant) (s : State) : State :=
  let b := activeBank s
  let r := stream s sid
  let j := gridFloor d.rate t
  let h := heldBefore r t
  let bad : Bool := match h with
    | some h => decide (h.until_ ≤ t)
    | none => true
  let members := match h with
    | some h => h.members
    | none => List.replicate d.nch 0
  let qual := match h with
    | some h => h.qual
    | none => 0
  let data := OperandData.dataset members qual bad
  let qs := alignQuals b sid data
  let ibad := instanceBad qs || bad
  let (waits, partial_) := cellWaits s sid t t
  let nb := max 64 (4 * d.nch)
  match takeCell sid t nb (fun p => { key := sid, inst := t, fptr := p, fbLen := ceilDiv nb 64, staging := false
                                      latePartial := partial_, qual := cellQual b sid data (!ibad), stamp := t, data := data
                                      waiting := waits }) s with
  | none => streamRefused sid s
  | some s =>
    let s := setStream sid { stream s sid with written := (stream s sid).written ++ [j] } s
    let s := if !bad ∧ instanceBad qs ∧ qbit qual 1 ∧ tqMode d = 0 ∧ !(qbit qual 2 && !tqAcceptTest d) then countTqBad sid s
      else s
    let s := if h.isNone ∧ (stream s sid).state = .idle then s else streamAccept sid t ibad s
    operandWritten sid t t s

/-- GOOSE_OPERAND_INSTANT (04 R88). -/
def rowGooseOperandInstant (sid : Nat) (t : Instant) (s : State) : Host.Outcome State Fault Refusal :=
  match mget (activeBank s).streams sid with
  | none => done s
  | some d =>
    if inRun s ∧ d.type = 5 ∧ onGrid d.rate t ∧ !(stream s sid).written.contains (gridFloor d.rate t) then
      done (gooseOperand sid d t (advanceTo t s))
    else done s

/-! ## Configuration, header and command frames (04 R100) -/

/-- A CFG-2 or CFG-3 frame agrees with the descriptor. -/
def cfgAgrees (d : StreamDef) (f : CfgFrame) : Bool :=
  f.idcode == d.idcode && decide (f.blocks = d.blocks) && f.timeBase == d.tbConf && f.dataRate == d.rate

/-- To receive ring 1 of its port with its SID (04 R100; 12 R318). -/
def cfgToRing (f : CfgFrame) (sid : Nat) (s : State) : State :=
  rxDeliver f.port 1 { len := f.len, tag := f.vlan.map fun v => (f.pcp % 8, v), rct := f.rct.isSome
                       cls := if f.vlan.isSome then f.pcp % 8 else 5, sid := sid, stamp := f.stamp } s

/-- A configuration, header or command frame of a stream, from the unit's own port or mirrored. -/
def cfgFrame (own : Bool) (f : CfgFrame) (s : State) : State :=
  match streamOfCfg s f with
  | none => s
  | some (sid, d) =>
    let s := prpSeen sid d f.port f.stamp s
    let ring := fun s => if own then cfgToRing f sid s else s
    let cfg := f.kind = 2 ∨ f.kind = 3
    if f.frameSize ≠ f.len ∨ !f.chkOk then countStream sid 6 s
    else if cfg ∧ !f.readable then ring (countStream sid 6 s)
    else if !cfg then ring s
    else ring (if cfgAgrees d f then leaveMismatch sid d false s else enterMismatch sid true s)

/-- CFG_FRAME_RECEIVED (04 R100). -/
def execCfgFrameReceived (f : CfgFrame) (s : State) : Host.Outcome State Fault Refusal :=
  if mainUp s ∧ (streamOfCfg s f).isSome then
    let (ok, s) := macTake f.port f.len f.vlan (rxClass f.vlan f.pcp 5) f.held f.rct f.stamp s
    if !ok then done s
    else
      let (ok, s) := svcInput f.port f.dst f.len f.stamp (.cfg f) s
      done (if ok then cfgFrame true f s else s)
  else done s

/-! ## The missing limit of a stream in no group (04 R103, 06 R131) -/

/-- STREAM_MISSING_LIMIT: the instant plus 2 / RATE, once per instance in order. -/
def execStreamMissingLimit (sid : Nat) (t : Instant) (s : State) : Host.Outcome State Fault Refusal :=
  match mget (activeBank s).streams sid with
  | none => done s
  | some d =>
    let j := gridFloor d.rate t
    let r := stream s sid
    let fresh : Bool := match r.judged with
      | some k => decide (k < j)
      | none => true
    let chained := (d.type == 3 || d.type == 4) && (match primaryOf (activeBank s) sid d with
      | some (psid, _, _) => (filterTmpl (activeBank s) psid).isSome
      | none => false)
    if inRun s ∧ onGrid d.rate t ∧ (groupsOf s sid).isEmpty ∧ fresh then
      let s := advanceTo (gridAt d.rate (j + 2)) s
      let since : Bool := match r.firstAcc with
        | some f => decide (f ≤ t)
        | none => false
      let s := setStream sid { r with judged := some j } s
      let s := if since ∧ !chained ∧ !r.written.contains j then noteMissed sid t s else s
      done (limitPassed sid t s)
    else done s

end Sys2Proof.Machine
end

