-- ==== Sys2Proof/Machine/Tasks.lean ====
section
/-! DEFINITION. Completion, abort and loss of tasks, the schedule's issues, and what follows a dropped release
(03 R69-R71, 06 R153-R157). -/

namespace Sys2Proof.Machine

/-! ## Dropped and aborted releases (06 R153, R156) -/

/-- The state as an instance released before a swap sees it: its own bank active, and its own filter chain (06 R158). -/
def viewOld (k : TaskInst) (s : State) : State :=
  match k.old with
  | none => s
  | some o =>
    let s := setActive o.bank s
    match o.chain with
    | some r => setFilter (fld k.tmpl.blk 0 2) r s
    | none => s

/-- The state after such an instance's work: the new bank is active and the new chain goes on. -/
def unviewOld (k : TaskInst) (was s : State) : State :=
  match k.old with
  | none => s
  | some o =>
    let s := setActive (activeBank was) s
    if o.chain.isSome then { s with filters := was.filters } else s

/-- Work done under the definitions of an instance's release. -/
def underOld (k : TaskInst) (f : State → State) (s : State) : State := unviewOld k s (f (viewOld k s))

/-- Every instance that waits, is dispatched or runs. -/
def tasksInFlight (s : State) : List TaskInst :=
  s.disp.ready ++ s.disp.held ++ (s.disp.cores.map fun e => e.2.queue ++ e.2.running.toList).flatten

/-- A detector whose definition a swap changed starts anew when the last instance under the old definition ends
(06 R158, 07 R189). -/
def detRenew (k : TaskInst) (s : State) : State :=
  match k.old with
  | none => s
  | some o =>
    let det := k.tmpl.object
    let b := activeBank s
    if k.tmpl.type ≠ 1 ∨ (tasksInFlight s).any (fun x => x.old.isSome && x.tmpl.type == 1 && x.tmpl.object == det)
        ∨ detSame o.bank b det then s
    else alarmPin { s with dets := match mget b.dets det with
      | some d => mput s.dets det (newDet b det d)
      | none => mdel s.dets det }

/-- What a release that does not run leaves, by type. A scheme's skipped cycle has been counted, and an archive's work is
not done. -/
def lostWork (k : TaskInst) (s : State) : State :=
  match k.tmpl.type with
  | 1 => detRenew k (underOld k (detDropped k) s)
  | 3 => underOld k (outDropped k) s
  | 5 => underOld k (filterDropped k) s
  | 6 => voiceDropped k s
  | 7 => copyDropped s
  | _ => s

/-- Settle the releases that were dropped in a step, and the program exchanges that waited for the cycles of such releases or of
tasks that have ended (08 R215). -/
def settle (s : State) : State :=
  let s := s.disp.dropped.foldl (fun s k => lostWork k s) { s with disp := { s.disp with dropped := [] } }
  (mkeys s.schs).foldl (fun s n => exchangeDue n s) s

/-- A row's outcome with its dropped releases settled. -/
def settled (o : Host.Outcome State Fault Refusal) : Host.Outcome State Fault Refusal :=
  match o with
  | .next s => .next (settle s)
  | .fault f => .fault f
  | .refused r => .refused r

/-- DEADLINE_EVALUATION (06 R137-R139). -/
def execDeadlineEvaluation (gid : Nat) (t : Instant) (s : State) : Host.Outcome State Fault Refusal :=
  settled (rowDeadlineEvaluation gid t s)

/-- C37118_FRAME_RECEIVED (04 R83, R84). -/
def execC37118FrameReceived (f : UdpFrame) (s : State) : Host.Outcome State Fault Refusal :=
  settled (rowC37118FrameReceived f s)

/-- INJECTION_RECORD_TAKEN (04 R102). -/
def execInjectionRecordTaken (m : Fin 16) (s : State) : Host.Outcome State Fault Refusal :=
  settled (rowInjectionRecordTaken m s)

/-- SV_FRAME_RECEIVED (04 R87). -/
def execSvFrameReceived (f : SvFrame) (s : State) : Host.Outcome State Fault Refusal := settled (rowSvFrameReceived f s)

/-- GOOSE_OPERAND_INSTANT (04 R88). -/
def execGooseOperandInstant (sid : Nat) (t : Instant) (s : State) : Host.Outcome State Fault Refusal :=
  settled (rowGooseOperandInstant sid t s)

/-! ## The sequencer (01 R12; 03 R69, R70) -/

/-- An issue: its entry's index, the entry, and the issue's number in its second. -/
structure Issue where
  idx : Nat
  e : SchedEntry
  i : Nat
deriving DecidableEq, Repr

/-- The place of an action in the order of coincident issues (01 R12). -/
def actionPlace (action : Nat) : Nat :=
  match action with
  | 1 => 0
  | 2 => 1
  | 4 => 2
  | 3 => 3
  | 7 => 4
  | 6 => 5
  | _ => 6

/-- An issue's rank among those of its instant: by action, within DEADLINE by GID, and otherwise by entry index (01 R12). -/
def issueRank (x : Issue) : Nat := actionPlace x.e.action * 2 ^ 20 + (if x.e.action = 1 then x.e.target else x.idx)

/-- Issue i of entry e of the active schedule, with the instant at which it next falls. -/
def issueOf (s : State) (action entry i : Nat) : Option (SchedEntry × Instant) :=
  match sched s with
  | none => none
  | some img =>
    match img.entries[entry]? with
    | none => none
    | some e =>
      if e.action ≠ action ∨ e.n ≤ i then none
      else
        let t := issueAt e (now s / secU) i
        some (e, if t < now s then issueAt e (now s / secU + 1) i else t)

/-- The issues of the active schedule that fall on an instant, in order. -/
def issuesAt (s : State) (t : Instant) : List Issue :=
  match sched s with
  | none => []
  | some img => sortBy issueRank (((List.range img.entries.length).zip img.entries).filterMap fun x =>
      (issueHit x.2 t).map fun i => { idx := x.1, e := x.2, i := i })

/-- A TICK issue: the CAP's tick, or with PHASE a phase-anchored capture start, anchored at the exact instant of the issue
(03 R46, R64; 10 R271). -/
def tickIssue (x : Issue) (t : Instant) (s : State) : State :=
  match capRun s x.e.target with
  | none => s
  | some r =>
    if !bit r.def_.trig 1 then s
    else if bit x.e.flags 0 then
      addPhaseAt (t / secU * x.e.q + x.e.a + x.i * x.e.m) x.e.q x.e.arg (.capture x.e.target 5 0 t [] false) s
    else (triggerCap x.e.target { src := 5, srcId := 0, t := t, mark := [], flags := 0 } false s).1

/-- What an issue does at its instant (03 R69). -/
def issueAct (x : Issue) (t : Instant) (s : State) : State :=
  let limit := issueLimit (fnom s) x.e (t / secU) x.i
  match x.e.action with
  | 1 => deadlineIssue x.e.target t s
  | 2 => releaseIssue x.e.target t limit s
  | 3 => playoutIssue x.e.target t limit s
  | 4 => cycleIssue x.e.target (slotFloor s t) s
  | 5 => copyRelease t limit s
  | 6 => tickIssue x t s
  | _ => publishAt x.e.target t s

/-- An issue at t has not taken place. -/
def notIssued (s : State) (t : Instant) (x : Issue) : Bool :=
  match s.tb.seqPos with
  | some (u, r) => u != t || decide (r < issueRank x)
  | none => true

/-- One issue takes place. -/
def takeIssue (t : Instant) (s : State) (x : Issue) : State :=
  { settle (issueAct x t s) with tb := { (settle (issueAct x t s)).tb with seqPos := some (t, issueRank x) } }

/-- Issue i of an entry is issued at its instant, in RUN, after every issue of that instant which comes before it in the order of
01 R12 and has not taken place. One that has taken place already does nothing. -/
def sequence (action entry i : Nat) (s : State) : Host.Outcome State Fault Refusal :=
  match issueOf s action entry i with
  | none => done s
  | some (e, t) =>
    if inRun s then
      let s := advanceTo t s
      let due := (issuesAt s t).filter fun x =>
        decide (issueRank x ≤ issueRank { idx := entry, e := e, i := i }) && notIssued s t x
      done (due.foldl (takeIssue t) s)
    else done s

/-- DEADLINE_ISSUE: the instance whose deadline this is will be evaluated 2.0 µs later (01 R14; 06 R137). -/
def execDeadlineIssue (entry i : Nat) (s : State) : Host.Outcome State Fault Refusal := sequence 1 entry i s

/-- RELEASE_ISSUE (05 R119). -/
def execReleaseIssue (entry i : Nat) (s : State) : Host.Outcome State Fault Refusal := sequence 2 entry i s

/-- PLAYOUT_ISSUE (09 R239). -/
def execPlayoutIssue (entry i : Nat) (s : State) : Host.Outcome State Fault Refusal := sequence 3 entry i s

/-- CYCLE_ISSUE: the cycle of the slot that contains the instant (08 R194). -/
def execCycleIssue (entry i : Nat) (s : State) : Host.Outcome State Fault Refusal := sequence 4 entry i s

/-- COPY_ISSUE (14 R384). -/
def execCopyIssue (entry i : Nat) (s : State) : Host.Outcome State Fault Refusal := sequence 5 entry i s

/-- TICK_ISSUE (03 R64; 10 R271). -/
def execTickIssue (entry i : Nat) (s : State) : Host.Outcome State Fault Refusal := sequence 6 entry i s

/-- PUBLISH_ISSUE (03 R71; 12 R334, R337). -/
def execPublishIssue (entry i : Nat) (s : State) : Host.Outcome State Fault Refusal := sequence 7 entry i s

/-! ## Phase requests and WAS_IN (03 R65; 08 R203; 10 R271; 19 R473) -/

/-- PHASE_ACTION_TAKEN: at the fixed instant (03 R64, R65). -/
def execPhaseActionTaken (id : Nat) (s : State) : Host.Outcome State Fault Refusal :=
  match mget s.phases id with
  | none => done s
  | some r =>
    match r.target with
    | none => done s
    | some t =>
      let s := advanceTo t { s with phases := mdel s.phases id }
      match r.act with
      | .pin sch pin level => done (wasOutDrive pin level (phaseOutcome (.pin sch pin level) (if r.fallback then 3 else 2) s))
      | .capture cap src srcId trig mark acc => done (captureTaken cap src srcId trig t mark acc r.fallback s)

/-- WAS_IN_EDGE_ACCEPTED: available 2 µs after its stamp (19 R473). -/
def execWasInEdgeAccepted (pin : Fin 16) (level : Bool) (stamp : Instant) (s : State) : Host.Outcome State Fault Refusal :=
  if mainUp s then
    let s := advanceTo (stamp + usU 2) s
    let h := mgetD s.pins.wasIn pin [] ++ [{ at_ := stamp, level := level }]
    let s := { s with pins := { s.pins with wasIn := mput s.pins.wasIn pin (h.drop (h.length - 64)) } }
    done (triggerAll (fun d => bit (if level then d.wasRise else d.wasFall) pin)
      { src := 4, srcId := pin, t := stamp, mark := [], flags := 0 } s)
  else done s

/-! ## Completion (06 R154, R157; 11 R296) -/

/-- Put a task's packets into its queues; none when one of them does not take a packet. -/
def putAll (key : Nat) : List (Nat × Nat × QPkt) → State → Option State
  | [], s => some s
  | (q, prod, p) :: rest, s =>
    if !emits s then some s
    else if oqTakes s q (some key) p.data.length then putAll key rest (oqPut q prod p s) else none

/-- The queue at which a task stalls, with its packet's length: the first that does not take its packet. -/
def stallAt (key : Nat) : List (Nat × Nat × QPkt) → State → Option (Nat × Nat)
  | [], _ => none
  | (q, prod, p) :: rest, s =>
    if oqTakes s q (some key) p.data.length then stallAt key rest (oqPut q prod p s) else some (q, p.data.length)

/-- A task's own work: the state after it, its packets, its operand and that operand's validity. -/
def taskWork (k : TaskInst) (work : TaskWork) (s : State) : State × List (Nat × Nat × QPkt) × Option Bytes × Bool :=
  match k.tmpl.type with
  | 1 =>
    let (s', ps, b, ok) := detWork k s
    let q := (mgetD (activeBank s).dets k.tmpl.object
      { kernel := 0, opts := 0, pinLevel := 0, oq := 0xFF, blindN := 0, dgPort := 0, dgAddr := 0, dgUdp := 0, dgVlan := 0
        dgDscp := 0, dgLocker := 0, kblk := [] }).oq
    (s', ps.map fun p => (q, 1, p), some b, ok)
  | 2 =>
    let (err, ops) := match work with
      | .scheme e o => (e, o)
      | _ => ([], [])
    let (s', ps, b, ok) := schemeWork k err ops s
    let s' := ps.foldl (fun s p => triggerAll (fun d => d.schs.contains (k.tmpl.object, fld p.2.data 2 2))
      { src := 2, srcId := k.tmpl.object, t := k.t, mark := p.2.data.take 16, flags := 0 } s) s'
    (s', ps.map fun p => (p.1, 2, p.2), b, ok)
  | 3 => (outWork k s, [], none, false)
  | 4 => (if k.old.isSome ∧ (capRun s k.tmpl.object).map (·.def_) ≠ mget (activeBank s).caps k.tmpl.object then s
      else archiveWork k.tmpl.object k s, [], none, false)
  | 5 => (filterWrite k s, [], some (filterDigest k s), false)
  | 6 => (voiceTask k s, [], none, false)
  | 7 => (commitBuild k.t s, [], none, false)
  | _ => (s, [], none, false)

/-- An instance's outputs (14 R384). -/
def taskOut (k : TaskInst) (packets : List (Nat × Nat × QPkt)) (operand : Bytes) (s : State) : TaskOut :=
  let d := mget (activeBank s).outs k.tmpl.object
  { operand := operand
    packets := packets.map fun p => (p.1, p.2.2.data)
    frame := match k.tmpl.type, d, group s k.gid, findInst s k.gid k.t with
      | 3, some d, some g, some i => frameBytes (buildFrame s k.tmpl.object g.rate d i).1
      | _, _, _, _ => []
    flows := if k.tmpl.type = 6 then mfilter s.flows fun _ f => f.def_.vch == k.tmpl.object else []
    pins := s.pins.wasOutReq }

/-- TASK_COMPLETE: the state is committed, the operand and the outputs are written. A task whose packet a full queue does
not take stays on its core, and nothing of its instance is done yet (11 R296). -/
def execTaskComplete (c : Fin 64) (work : TaskWork) (s : State) : Host.Outcome State Fault Refusal :=
  match (core s c).running with
  | none => done s
  | some k =>
    let (w, ps, operand, ok) := taskWork k work (viewOld k s)
    let s' := unviewOld k s w
    match putAll (keyTask k.serial) ps s' with
    | none => done (match stallAt (keyTask k.serial) ps s' with
      | some (q, len) => oqStall q (keyTask k.serial) len s
      | none => s)
    | some s' =>
      let out := taskOut k ps (operand.getD []) w
      let s' := match operand with
        | some b => if k.tmpl.type = 1 ∨ k.tmpl.type = 2 then writeOperandOf k b ok s' else s'
        | none => s'
      done (settle (detRenew k (taskEnd c k (digestTask k out s'))))

/-- TASK_ABORT: 8 × WCET_NS is reached (06 R153). -/
def execTaskAbort (c : Fin 64) (s : State) : Host.Outcome State Fault Refusal :=
  let r := core s c
  match r.running with
  | none => done s
  | some k =>
    let s := advanceTo (r.start + nsU (8 * k.tmpl.wcet)) s
    let s := count 63 s
    let t := tmplRun s k.tid
    let sec := now s / secU
    let s := if t.abortSec = some sec then s
      else noteData 6 nmTaskAborted k.tid k.t (setTmplRun k.tid { t with abortSec := some sec } s)
    let s := traceOverrun k.tid c 2 k.t s
    done (settle (if k.tmpl.type = 6 then voiceAborted k (taskEnd c k s) else lostWork k (taskEnd c k s)))

/-- SCHEME_RUNTIME_FAULT: the cycle is aborted with the effects of R153, and its commands stay pending (08 R195). -/
def execSchemeRuntimeFault (c : Fin 64) (s : State) : Host.Outcome State Fault Refusal :=
  match (core s c).running with
  | none => done s
  | some k =>
    if k.tmpl.type ≠ 2 then done s
    else
      let sch := k.tmpl.object
      let r := schRun s sch
      let sec := now s / secU
      let s := count 98 s
      let s := if r.faultSec = some sec then s
        else noteData 6 nmSchemeFault k.tid k.t (setSch sch { r with faultSec := some sec } s)
      done (settle (taskEnd c k s))

/-- HOLD_LIMIT_EXPIRY: at the hold limit (06 R155). -/
def execHoldLimitExpiry (serial : Nat) (s : State) : Host.Outcome State Fault Refusal :=
  match s.disp.held.find? (fun k => k.serial == serial) with
  | none => done s
  | some k =>
    let s := advanceTo k.holdUntil s
    let s := count 56 (removeTask k s)
    let sec := now s / secU
    let s := if s.disp.dropSec = some sec then s
      else noteData 5 nmReadyDrop k.tid k.t { s with disp := { s.disp with dropSec := some sec } }
    done (settle (releaseDropped k s))

/-- OQ_STALL_RESUME: the queue takes words again, and the producers that waited go on (11 R296). -/
def execOqStallResume (q : Fin 64) (s : State) : Host.Outcome State Fault Refusal :=
  let o := oq s q
  let hs := resumeHeld (oqCapacity s q) (oqLevel o) o.held
  if hs ≠ o.held then
    let s := setOq q { o with held := hs } s
    done (s.caps.foldl (fun s e => if e.2.def_.oq = q.val then capDrain e.2.waiting.length e.1 s else s) s)
  else done s

end Sys2Proof.Machine
end

