-- ==== Sys2Proof/Machine/RunCtl.lean ====
section
/-! DEFINITION. RUN's beginning and end, and the bank swap (03 R54, R55, R75-R77; 04 R103; 05 R126; 06 R158; 07 R189; 08 R208;
10 R288; 11 R294). -/

namespace Sys2Proof.Machine

/-! ## Filters and streams -/

/-- A filter chain that starts at an instant: every FCI restarts, and the first instance is the first reporting instant at
or after it. -/
def freshFilter (fn : Nat) (d : StreamDef) (blk : Bytes) (t : Instant) : FilterRun :=
  let r := gridCeil d.rate t
  let j := gridCeil (fcPar fn d.rate blk).rOut t
  let run := restartAll blk r { next := j, opened := r, start := j }
  { run with fcis := mmap run.fcis fun _ f => { f with checked := r } }

/-- The stream of a FILTER template in a bank. -/
def filterOf (b : Bank) (tm : Template) : Option (Nat × StreamDef) :=
  if tm.type ≠ 5 then none else (mget b.streams (fld tm.blk 0 2)).map fun d => (fld tm.blk 0 2, d)

/-- Every filter chain of the active bank starts at an instant (05 R124, 06 R158). -/
def startFilters (t : Instant) (s : State) : State :=
  let b := activeBank s
  b.templates.foldl (fun (s : State) (e : Nat × Template) =>
    match filterOf b e.2 with
    | some (sid, d) => countBy 32 (fciCount e.2.blk) (setFilter sid (freshFilter (fnom s) d e.2.blk t) s)
    | none => s) { s with filters := [] }

/-- The channel entry of an FCI in a bank. -/
def fciChannel (b : Bank) (sid fci : Nat) : Option (Nat × ChannelDef) :=
  b.channels.find? fun e => e.2.sid == sid && e.2.fci == fci && e.2.kind == 5

/-- The filter chains at a swap: identical FCIs go on, and every other restarts (05 R126). -/
def swapFilters (old : Bank) (t : Instant) (s : State) : State :=
  let b := activeBank s
  let was := s.filters
  b.templates.foldl (fun (s : State) (e : Nat × Template) =>
    match filterOf b e.2 with
    | none => s
    | some (sid, d) =>
      let same : Bool := match filterTmpl old sid, mget old.streams sid with
        | some (_, o), some od => o.blk == e.2.blk && od.rate == d.rate
        | _, _ => false
      match mget was sid with
      | some run =>
        if !same then countBy 32 (fciCount e.2.blk) (setFilter sid (freshFilter (fnom s) d e.2.blk t) s)
        else
          let r := gridCeil d.rate t
          let anew := (List.range (fciCount e.2.blk)).filter fun i =>
            fciChannel old sid (fciId e.2.blk i) != fciChannel b sid (fciId e.2.blk i)
          let fcis := anew.foldl (fun (m : Map FciRun) i =>
            let f := mgetD m (fciId e.2.blk i) {}
            mput m (fciId e.2.blk i) { f with phRestarts := f.phRestarts ++ [r], wfRestarts := f.wfRestarts ++ [r] }) run.fcis
          countBy 32 anew.length (setFilter sid { run with fcis := fcis } s)
      | none => countBy 32 (fciCount e.2.blk) (setFilter sid (freshFilter (fnom s) d e.2.blk t) s)) { s with filters := [] }

/-- A stream in IDLE keeps its counts, the ports on which it was seen and the source of its last accepted frame (04 R103, R480;
08 R204). -/
def idleStream (r : StreamRun) : StreamRun :=
  { counts := r.counts, dropout := r.dropout, srcSwitch := r.srcSwitch, tqBad := r.tqBad, prpA := r.prpA, prpB := r.prpB
    lastSrc := r.lastSrc }

/-- The streams of the active bank at START. -/
def startStreams (s : State) : State :=
  { s with streams := (activeBank s).streams.map fun e => (e.1, idleStream (stream s e.1)) }

/-- A stream defined anew enters IDLE with its counts cleared: a station sees that entry (04 R103, 08 R199). -/
def freshStream (b : Instant) (r : StreamRun) : StreamRun :=
  { prpA := r.prpA, prpB := r.prpB, hist := r.hist ++ [(b, .idle)], histBase := r.histBase }

/-- The streams at a swap. DESIGN CHOICE: a stream is defined anew when its descriptor or its channels differ from the old bank's;
one that is the same goes on with its state and counts. -/
def swapStreams (old : Bank) (b : Instant) (s : State) : State :=
  { s with streams := (activeBank s).streams.map fun e =>
      (e.1, if mget old.streams e.1 = some e.2 ∧ chansOf old e.1 = chansOf (activeBank s) e.1 then stream s e.1
        else freshStream b (stream s e.1)) }

/-! ## Groups (03 R76, 06 R158) -/

def firstAt (g : GroupDef) (t : Instant) : Instant := gridAt g.rate (gridCeil g.rate t)

/-- Retire an open instance without firing, counting and tracing it: a member is missing by the membership of the bank it was
open under (06 R140, 17 R435). -/
def retireInst (cnt : Nat) (k : Bank) (i : GroupInst) (s : State) : State :=
  let members := match mget k.groups i.gid with
    | some g => (groupKeys g).length
    | none => 0
  unreference i.gid i.t (dropInst i.gid i.t (traceMatch i.gid 5 (members - i.present.length) i.t (count cnt s)))

def openInsts (s : State) : List GroupInst :=
  s.mst.insts.filter fun i => decide (i.state = .open_ ∨ i.state = .complete)

/-- An open instance goes on under the new membership (03 R76). One that was complete and still is stays COMPLETE. -/
def carryMembers (g : GroupDef) (i : GroupInst) (s : State) : State :=
  let keys := groupKeys g
  let present := i.present.filter keys.contains
  let s := setInst { i with state := if keys.all present.contains then i.state else .open_, present := present } s
  let leave := fun (c : Cell) =>
    if c.inst = i.t ∧ !keys.contains c.key then { c with waiting := c.waiting.filter (· != i.gid) } else c
  let s := { s with mst := { s.mst with cells := s.mst.cells.map leave } }
  -- an operand that stands for the instance counts for a member that the new definition adds
  let add := (s.mst.cells.filter fun c => c.inst == i.t && keys.contains c.key && !c.staging && !present.contains c.key)
  add.foldl (fun (s : State) (c : Cell) =>
    let wait := fun (x : Cell) => if x.key = c.key ∧ x.inst = c.inst then { x with waiting := x.waiting ++ [i.gid] } else x
    let s := { s with mst := { s.mst with cells := s.mst.cells.map wait } }
    setInst { (findInst s i.gid i.t).getD i with
      present := ((findInst s i.gid i.t).getD i).present ++ [c.key] } s) s

/-- A carried instance that is complete: a new completion is judged as any other, and one that waited may now fire. Where its
deadline lies before the boundary, its evaluation follows (03 R76; 06 R137). -/
def carryComplete (b : Instant) (gid : Nat) (g : GroupDef) (t : Instant) (s : State) : State :=
  match findInst s gid t with
  | none => s
  | some j =>
    if !(groupKeys g).all j.present.contains ∨ hasFired s gid t then s
    else
      let anew := decide (j.state = .open_)
      let s := if anew then traceMatch gid 1 0 t (setInst { j with state := .complete } s) else s
      if g.policy ≠ 0 ∨ deadlineOf g t < b then s
      else if predFired s gid g t then fire gid g t 2 s
      else if anew then count 51 s else s

/-- The instances of a group that have not fired and whose reporting instants lie up to the boundary, and the later ones that
an operand has opened, in order. -/
def dueInsts (gid : Nat) (g : GroupDef) (b : Instant) (s : State) : List (Nat × Instant) :=
  let j0 := match mget s.mst.lastFired gid, mget s.mst.firstInst gid with
    | some l, _ => gridFloor g.rate l + 1
    | none, some f => gridFloor g.rate f
    | none, none => gridFloor g.rate b + 1
  let upTo := (List.range (gridFloor g.rate b + 1 - j0)).map fun i => (gid, gridAt g.rate (j0 + i))
  let later := (openInsts s).filter fun i => i.gid == gid && decide (b < i.t)
  upTo ++ (sortBy (fun (i : GroupInst) => i.t) later).map fun i => (gid, i.t)

/-- What a fired instance that waits for CYCLE issues keeps under the new schedule (08 R194). -/
def keepCycles (s : State) : State :=
  (s.mst.insts.filter fun i => decide (i.state = .fired) && !i.cycles.isEmpty).foldl (fun s i =>
    instSettle { i with cycles := (cyclesToCome s i.gid i.t).filter i.cycles.contains } s) s

/-- The groups at a swap (03 R76, 06 R158): hold entries of an identical group are kept. Memberships change first; instances
whose new deadlines lie before the boundary will be evaluated 2.0 µs after it, in order of deadline and GID; then completions are
taken in order of GID (06 R138). -/
def swapGroups (old : Bank) (b : Instant) (s : State) : State :=
  let k := activeBank s
  let keeps := fun (gid : Nat) => match mget old.groups gid, mget k.groups gid with
    | some o, some n => o.rate == n.rate
    | _, _ => false
  let s := (openInsts s).foldl (fun (s : State) (i : GroupInst) => if keeps i.gid then s else retireInst 64 old i s) s
  let s := { s with mst := { s.mst with
    firstInst := k.groups.map fun e => (e.1, if keeps e.1 then mgetD s.mst.firstInst e.1 (firstAt e.2 b) else firstAt e.2 b)
    lastFired := mfilter s.mst.lastFired fun g _ => keeps g
    hold := mfilter s.mst.hold fun g _ => decide (mget old.groups g = mget k.groups g) } }
  let due := (k.groups.map fun e =>
    if mhas old.groups e.1 && keeps e.1 then (dueInsts e.1 e.2 b s).map fun x => (e.1, e.2, x.2) else []).flatten
  let s := due.foldl (fun (s : State) (x : Nat × GroupDef × Instant) => match findInst s x.1 x.2.2 with
    | some j => if j.state = .fired then s else carryMembers x.2.1 j s
    | none => s) s
  let late := sortBy (fun (x : Nat × GroupDef × Instant) => deadlineOf x.2.1 x.2.2)
    (due.filter fun x => decide (deadlineOf x.2.1 x.2.2 < b))
  let s := { s with mst := { s.mst with evalDue := late.map fun x => { gid := x.1, t := x.2.2, at_ := b + usU 2 } } }
  keepCycles (due.foldl (fun (s : State) (x : Nat × GroupDef × Instant) => carryComplete b x.1 x.2.1 x.2.2 s) s)

/-- Cells that nothing will release any more at a swap: those of a stream in no group that the new bank does not define so, and
staging cells of chains that have ended and whose FILTER task is not in flight. -/
def swapCells (was : Map FilterRun) (s : State) : State :=
  let goesOn := fun (c : Cell) => match mget was c.key, mget s.filters c.key with
    | some o, some n => o.opened == n.opened
    | _, _ => false
  let flies := fun (c : Cell) => (tasksInFlight s).any fun k => k.tmpl.type == 5 && fld k.tmpl.blk 0 2 == c.key && k.t == c.inst
  let lone := fun (c : Cell) => mhas (activeBank s).streams c.key && (groupsOf s c.key).isEmpty
  cellSweep { s with mst := { s.mst with
    cells := (s.mst.cells.filter fun c => !c.staging || goesOn c || flies c).map fun c =>
      if lone c then c else { c with waiting := c.waiting.filter (· != 1024) } } }

/-! ## Captures at a swap (10 R288) -/

/-- The number under which a replaced CAP's accepted records complete: the first free above its own. -/
def oldCapNo : Nat → Nat → Map CapRun → Nat
  | 0, n, _ => n
  | fuel + 1, n, m => if mhas m n then oldCapNo fuel (n + 256) m else n

/-- A CAP whose definition the swap changes or removes: class P closes and seals, class W records complete. -/
def replaceCap (cap : Nat) (d : Option CapDef) (sec : Nat) (s : State) : State :=
  let s := match capRun s cap with
    | none => s
    | some r =>
      let s := if r.def_.cls = 2 ∧ r.armed then sealCap cap (closeSegments cap true s) else s
      match capRun s cap with
      | none => s
      | some r =>
        if r.recs.isEmpty ∧ r.waiting.isEmpty then { s with caps := mdel s.caps cap }
        else { s with caps := mput (mdel s.caps cap) (oldCapNo s.caps.length (cap + 256) s.caps) r }
  match d with
  | none => s
  | some d => setCap cap (newCap (activeBank s) d sec) s

def swapCaps (old : Bank) (b : Instant) (s : State) : State :=
  let k := activeBank s
  let ids := mkeys old.caps ++ (mkeys k.caps).filter fun c => !mhas old.caps c
  ids.foldl (fun (s : State) (c : Nat) =>
    let same := mget old.caps c == mget k.caps c && (match mget k.caps c with
      | some d => capStreams old d == capStreams k d
      | none => true)
    if same then s else replaceCap c (mget k.caps c) (b / secU) s) s

/-! ## Queues at a swap (11 R294) -/

/-- A queue whose map entry changes keeps its old middle until its words have been consumed. -/
def swapQueues (old : Bank) (s : State) : State :=
  { s with oqs := mmap s.oqs fun n q =>
      let was := q.oldCap.getD (mapCapacity old 1 n)
      if mapCapacity (activeBank s) 1 n = was ∨ q.pkts.isEmpty then { q with oldCap := none } else { q with oldCap := some was }
           iqs := mmap s.iqs fun m q =>
      let was := q.oldCap.getD (mapCapacity old 2 m)
      if mapCapacity (activeBank s) 2 m = was ∨ q.pkts.isEmpty then { q with oldCap := none } else { q with oldCap := some was } }

/-! ## Detectors and schemes at a swap (07 R189, 08 R208) -/

/-- The detectors at a swap: one defined anew keeps its state while an instance under the old definition has not ended. -/
def swapDets (old : Bank) (s : State) : State :=
  let k := activeBank s
  let busy := fun (det : Nat) => (tasksInFlight s).any fun x => x.tmpl.type == 1 && x.tmpl.object == det
  let gone := (mkeys s.dets).filter fun n => busy n && !mhas k.dets n
  alarmPin { s with dets := gone.foldl (fun (m : Map DetRun) n => mput m n (detRun s n)) (k.dets.map fun e =>
    (e.1, if detSame old k e.1 || (busy e.1 && mhas s.dets e.1) then detRun s e.1 else newDet k e.1 e.2)) }

/-- The instances in flight at a swap complete under the definitions of their release (06 R158). -/
def swapTasks (old : Bank) (was : Map FilterRun) (s : State) : State :=
  let chain := fun (k : TaskInst) => if k.tmpl.type ≠ 5 then none else
    let sid := fld k.tmpl.blk 0 2
    match mget was sid, mget s.filters sid with
    | some r, some q => if r.opened = q.opened then none else some r
    | r, _ => r
  let keep := fun (k : TaskInst) => if k.old.isSome then k else { k with old := some { bank := old, chain := chain k } }
  { s with disp := { s.disp with
      ready := s.disp.ready.map keep
      held := s.disp.held.map keep
      cores := mmap s.disp.cores fun _ c => { c with queue := c.queue.map keep, running := c.running.map keep } } }

def schemeTmpl (b : Bank) (sch : Nat) : Bool := b.templates.any fun e => e.2.type == 2 && e.2.object == sch

/-- Running schemes that the new bank no longer holds stop under the old one. -/
def stopLostSchemes (new : Bank) (s : State) : State :=
  (mkeys s.schs).foldl (fun (s : State) (n : Nat) =>
    if (schRun s n).running ∧ !(schemeTmpl new n ∧ schImg new n = schImg (activeBank s) n) then
      noteI 6 5 nmSchemeRemoved (item nmScheme n) n 0 0 (schemeStop n s)
    else s) s

/-! ## The swap (03 R75-R77) -/

/-- A template whose definition changes forgets its last core (06 R158). -/
def swapTmpls (old : Bank) (s : State) : State :=
  let keep := fun (n : Nat) (r : TmplRun) =>
    if mget old.templates n = mget (activeBank s).templates n then r else { r with lastCore := none }
  { s with disp := { s.disp with tmpls := mmap s.disp.tmpls keep } }

/-- What pairing the new bank brings (14 R372): without COPY entries the unit is SOLO. -/
def swapPairing (s : State) : State :=
  if inRun s ∧ !paired s ∧ s.cas.role ≠ .solo then pinsOn (roleTo .solo 4 nmSolo s) else s

/-- The phase-anchored actions of the old image are cancelled (03 R76). -/
def cancelTicks (s : State) : State :=
  let tick := fun (r : PhaseReq) => match r.act with
    | .capture _ src _ _ _ _ => src == 5
    | .pin .. => false
  let n := (s.phases.filter fun e => tick e.2).length
  countBy 5 n { s with phases := mfilter s.phases fun _ r => !tick r }

/-- The channel of a bank that is its reference bus, as its stream delivers it. -/
def refBusChannel (b : Bank) : Option (ChannelDef × Option StreamDef) :=
  match b.sched with
  | some img => (mget b.channels img.refbusCid).map fun c => (c, mget b.streams c.sid)
  | none => none

/-- Another reference bus starts without an angle, and requests without their cycle 0 (03 R63). -/
def swapRefBus (old : Bank) (s : State) : State :=
  if refBusChannel old = refBusChannel (activeBank s)
      ∧ old.sched.map (·.refbusCid) = (activeBank s).sched.map (·.refbusCid) then s
  else { s with refBus := {}, phases := mmap s.phases fun _ r => { r with cycle0 := none } }

/-- The banks exchange at a boundary. -/
def bankSwap (b : Instant) (s : State) : State :=
  match s.pwr.swapWait with
  | none => s
  | some (_, w) =>
    let s := { s with pwr := { s.pwr with swapWait := none } }
    let old := activeBank s
    let run := inRun s
    let s := if run then stopLostSchemes (inactiveBank s) s else s
    let s := swapRefBus old (cancelTicks { s with active := !s.active })
    let s := swapCaps old b (swapQueues old (voiceSwap old (activeBank s) s))
    let s := swapStreams old b s
    let was := s.filters
    let s := swapTasks old was (swapTmpls old (if run then swapFilters old b s else s))
    let s := if run then swapPairing (swapCells was (swapDets old (swapGroups old b s))) else s
    let s := (mkeys old.schemes ++ mkeys (activeBank s).schemes).dedup.foldl (fun (s : State) n => schemeSwap n old s) s
    finalReply w 0 (setIrq 5 s)

/-! ## RUN begins and ends (03 R77, 06 R158) -/

/-- RUN begins on the active bank at a boundary. -/
def beginRun (b : Instant) (s : State) : State :=
  let k := activeBank s
  let s := startFilters b (startStreams { s with
    pwr := { s.pwr with ps := .run, startWait := none }
    refBus := {}
    outRuns := []
    mst := { s.mst with firstInst := k.groups.map fun e => (e.1, firstAt e.2 b)
                        lastFired := []
                        hold := []
                        evalDue := [] }
    tb := { s.tb with seqPos := none }
    dets := k.dets.map fun e => (e.1, newDet k e.1 e.2)
    cnt := mput s.cnt 53 0
    caps := mmap s.caps fun _ r => { r with sealFrom := b / secU } })
  let s := casRunBegin b (clearPeaks s)
  k.schemes.foldl (fun (s : State) (e : Nat × SchemeImg) => if bit e.2.flags 0 then schemeStart e.1 s else s) s

def replyTo (w : Option Waiter) (status : Nat) (s : State) : State := match w with
  | some w => finalReply w status s
  | none => s

/-- A swap pending for a boundary. -/
def swapAt (b : Instant) (s : State) : Bool := match s.pwr.swapWait with
  | some (t, _) => decide (t ≤ b)
  | none => false

/-- RUN_BEGIN: at the second boundary after START (02 R30; 03 R77; 06 R158; 08 R206; 14 R373). -/
def execRunBegin (s : State) : Host.Outcome State Fault Refusal :=
  match s.pwr.startWait with
  | none => done s
  | some w =>
    if inIdle s then
      let b := secCeil (now s)
      let s := advanceTo b s
      let s := if swapAt b s then bankSwap b s else s
      done (finalReplies w 0 (beginRun b s))
    else done s

/-- READY and READY_HELD entries, and local-queue entries apart, are discarded without consequences (06 R158). -/
def discardReady (s : State) : State :=
  let gone := s.disp.ready ++ s.disp.held
  let s := gone.foldl (fun (s : State) (k : TaskInst) =>
    let s := removeTask k s
    let s := if k.tmpl.type = 5 then
        let keep := fun (c : Cell) => !(c.key == fld k.tmpl.blk 0 2 && c.inst == k.t && c.staging)
        { s with mst := { s.mst with cells := s.mst.cells.filter keep } }
      else s
    if k.gid < 0x400 then instTaskEnd k.gid k.t s else s) s
  cellSweep s

/-- Cells that a STOP leaves: those of operands that a FILTER task on a core will still write. -/
def stopCells (s : State) : State :=
  let flies := fun (c : Cell) => (tasksInFlight s).any fun k => k.tmpl.type == 5 && fld k.tmpl.blk 0 2 == c.key && k.t == c.inst
  cellSweep { s with mst := { s.mst with
    cells := (s.mst.cells.filter fun c => !c.staging || flies c).map fun c => { c with waiting := [] }
    insts := s.mst.insts.filter fun i => decide (0 < i.tasks)
    evalDue := [] } }

/-- What works on the data path stops: schemes, calls, detectors, instances, ready tasks and rolling captures. -/
def stopData (s : State) : State :=
  let s := match s.tb.stepPending with
    | some x => tbStep x s
    | none => s
  let s := (mkeys s.schs).foldl (fun (s : State) n => schemeStop n s) s
  let s := detStop (voiceStop s)
  let s := (openInsts s).foldl (fun (s : State) (i : GroupInst) => retireInst 65 (activeBank s) i s) s
  let s := stopCells (discardReady s)
  s.caps.foldl (fun (s : State) (e : Nat × CapRun) =>
    if e.2.def_.cls = 2 ∧ e.2.armed then sealCap e.1 (closeSegments e.1 true s) else s) s

/-- The data path stops at a boundary. -/
def endRun (s : State) : State :=
  let s := stopData s
  let sw := s.cas.switchAt
  let rw := s.cas.resyncWait
  let s := casRunEnd { s with pwr := { s.pwr with ps := .idle, stopWait := none }, outRuns := [] }
  let s := finalReplies rw 0x0302 { s with cas := { s.cas with resyncWait := [] } }
  match sw with
  | some (_, w) => replyTo w 0x0302 s
  | none => s

/-- RUN_END: at the second boundary after STOP, after which a pending swap follows (03 R55, R77; 06 R158). -/
def execRunEnd (s : State) : Host.Outcome State Fault Refusal :=
  match s.pwr.stopWait with
  | none => done s
  | some w =>
    if inRun s then
      let b := secCeil (now s)
      let s := finalReplies w 0 (endRun (advanceTo b s))
      done (settle (if swapAt b s then bankSwap b s else s))
    else done s

/-- BANK_SWAP: at the second boundary of a SCHED_SWAP; a STOP at the same boundary takes effect first (03 R75-R77). -/
def execBankSwap (s : State) : Host.Outcome State Fault Refusal :=
  match s.pwr.swapWait with
  | none => done s
  | some (b, _) =>
    if mainUp s then
      let stop := decide (secCeil (now s) = b) && inRun s
      let s := advanceTo b s
      let s := match s.pwr.stopWait with
        | some w => if stop then finalReplies w 0 (endRun s) else s
        | none => s
      done (settle (bankSwap b s))
    else done s

/-- STEP_IN_RUN_RESTART: the data path stops at the next second boundary, the time base steps, and RUN resumes at the first
second boundary of the new time (03 R54). -/
def execStepInRunRestart (s : State) : Host.Outcome State Fault Refusal :=
  match s.tb.stepRestart with
  | none => done s
  | some x =>
    let s := { s with tb := { s.tb with stepRestart := none, stepPending := none } }
    if x.natAbs < 1000000 then done (correct x s)
    else if inRun s then
      let b := secCeil (now s)
      let s := endRun (advanceTo b s)
      let s := tbStep x s
      let b := secCeil (now s)
      done (settle (beginRun b (advanceTo b s)))
    else done (tbStep x s)

end Sys2Proof.Machine
end

