-- ==== Sys2Proof/Machine/NetEvents.lean ====
section
/-! DEFINITION. The ports' events: received and transmitted frames, flow control, PRP, links, egress timestamps and mirrored
inputs (12; 14 R381). -/

namespace Sys2Proof.Machine

/-! ## Receiving (12 R318) -/

/-- The class of a frame: its PCP when tagged, else the class of its kind. -/
def frameClass (f : EthFrame) : Nat :=
  rxClass f.vlan f.pcp (match f.kind with
    | .ptp => 7
    | .c37Command _ _ _ => 5
    | _ => 0)

/-- Step 3: VLAN membership; an untagged or priority-tagged PTP frame follows the PTP tagging mode. -/
def vlanTaken (c : PortCfg) (f : EthFrame) : Bool :=
  if f.kind = .ptp then
    match f.vlan with
    | some v => if v = 0 then bits c.flags 4 3 = 1 else c.vlans.contains v || v == c.ptpVlan
    | none => bits c.flags 4 3 = 0
  else vlanMember c f.vlan

/-- An address of a port, or a service address that the unit holds. -/
def portAddr (s : State) (p dst : Nat) : Bool :=
  (port s p).cfg.addrs.any (fun e => e.1 == dst) || (holdsSvc s && s.cas.cfg.svc.any (fun a => a.addr == dst))

/-- The output stream to which a command frame is addressed (12 R336). DEDUCED: on a PRP pair an address of either port serves. -/
def commandOutputOf (s : State) (p dst udp idcode : Nat) : Nat :=
  match (activeBank s).outs.find? fun e =>
      e.1 < 0x100 && (e.2.port == p || (decide (2 ≤ p) && decide (2 ≤ e.2.port) && pairPort p == pairPort e.2.port))
        && (portAddr s p dst || portAddr s e.2.port dst) && e.2.idcode == idcode && e.2.srcUdp == udp with
  | some e => 0x8000 + e.1
  | none => 0xFFFF

/-- What a frame's descriptors say of it. -/
def ethInfo (f : EthFrame) (sid : Nat) : RxInfo :=
  { len := f.len, tag := f.vlan.map fun v => (f.pcp % 8, v), rct := f.rct.isSome, cls := frameClass f, sid := sid, stamp := f.stamp }

/-- A frame after duplicate discard: to the time base or to a receive ring. -/
def rxRoute (f : EthFrame) (s : State) : State :=
  let p := f.port
  let ok := countPort p 0
  if isSvc s f.dst ∧ !holdsSvc s then
    (if s.cas.role = .standby ∨ s.cas.role = .stalemate then count 229 (ok s) else ok s)
  else
    let s := match f.neigh with
      | some (a, m) => neighLearn p a m s
      | none => s
    match f.kind with
    | .ptp =>
      if bit s.tb.cfg.ports p then ok s else ok (rxDeliver p 0 (ethInfo f 0xFFFF) s)
    | .c37Command dst udp idc => ok (rxDeliver p 1 (ethInfo f (commandOutputOf s p dst udp idc)) s)
    | .ring1 => ok (rxDeliver p 1 (ethInfo f 0xFFFF) s)
    | _ => ok (rxDeliver p 0 (ethInfo f 0xFFFF) s)

/-- RX_FRAME_RECEIVED: a frame that no stream and no flow claims (12 R318-R320, R324-R326, R330). -/
def execRxFrameReceived (f : EthFrame) (s : State) : Host.Outcome State Fault Refusal :=
  let p := f.port
  let c := (port s p).cfg
  if !mainUp s ∨ !(port s p).up ∨ 6 ≤ p then done s
  else
    let s := advanceTo f.stamp s
    if !f.fcsOk then done (countPort p 1 s)
    else if f.len < 64 ∨ c.maxFrame < f.len then done (countPort p 2 s)
    else if f.dstMac ≠ c.mac ∧ !bit f.dstMac 40 then done (countPort p 3 s)
    else if !vlanTaken c f then done (countPort p 4 s)
    else
      let cls := frameClass f
      if 65536 < f.held + f.len then done (countPort p 5 s)
      else
        let s := bufferXoff p cls (f.held + f.len) s
        if f.kind = .macControl then done s
        else
          let (pass, s) := match f.rct with
            | some x => prpTake p x f.stamp s
            | none => (true, s)
          done (if pass then rxRoute f s else s)

/-! ## PRP (12 R330, R331) -/

/-- PRP_SOURCE_FORGET: 400 ms after a source's last frame. -/
def execPrpSourceForget (p : Fin 6) (mac : Nat) (s : State) : Host.Outcome State Fault Refusal :=
  let q := pairPort p
  match mget (port s q).prp mac with
  | none => done s
  | some x =>
    let s := advanceTo (x.last + msU 400) s
    done (setPort q { port s q with prp := mdel (port s q).prp mac } s)

/-- PRP_SUPERVISION_SEND: every 2 s on both ports of a pair, each with its own MAC. -/
def execPrpSupervisionSend (p : Fin 6) (s : State) : Host.Outcome State Fault Refusal :=
  if mainUp s ∧ (p.val = 2 ∨ p.val = 4) ∧ bit (port s p).cfg.flags 1 then
    let one := fun (q : Nat) (s : State) => txOwn q 6 64 (.prpSupervision q (port s q).cfg.mac) s
    done (one (p + 1) (one p s))
  else done s

/-! ## Priority flow control (12 R325-R327) -/

/-- A pause of a number of quanta, 512 bit times each, on a port. -/
def quantaU (p q : Nat) : Nat := q * 512 * secU / (if p < 2 then 10000000000 else 25000000000)

/-- PFC_FRAME_RECEIVED: each class that the port obeys is paused for its quanta; classes are (class, quanta). -/
def execPfcFrameReceived (p : Fin 6) (classes : List (Nat × Nat)) (stamp : Instant) (s : State) :
    Host.Outcome State Fault Refusal :=
  if !mainUp s then done s
  else
    let s := countPort p 0 (advanceTo stamp s)
    let r := port s p
    let mine := classes.filter fun e => decide (e.1 < 8) && bit r.cfg.pfcRx e.1
    let paused := mine.foldl (fun (m : Map Instant) (e : Nat × Nat) =>
      if e.2 = 0 then mdel m e.1 else mput m e.1 (stamp + quantaU p e.2)) r.paused
    let s := setPort p { r with paused := paused } s
    done (txDrain p (if mine.any (fun e => e.2 != 0) then countPort p 12 s else s))

/-- PFC_PAUSE_EXPIRY: a paused class sends again, and its transmit buffer empties. -/
def execPfcPauseExpiry (p : Fin 6) (c : Fin 8) (s : State) : Host.Outcome State Fault Refusal :=
  match mget (port s p).paused c with
  | none => done s
  | some t =>
    let s := advanceTo t s
    let r := port s p
    done (txDrain p (setPort p { r with paused := mdel r.paused c } s))

/-- PFC_XOFF_REPEAT: every 1 ms while the class is paused. -/
def execPfcXoffRepeat (p : Fin 6) (c : Fin 8) (s : State) : Host.Outcome State Fault Refusal :=
  done (if mainUp s ∧ bit (pausingByte (port s p)) c then pfcXoff p c s else s)

/-- PFC_XON_SEND: the class buffer falls below XON. -/
def execPfcXonSend (p : Fin 6) (c : Fin 8) (s : State) : Host.Outcome State Fault Refusal :=
  done (if mainUp s then releaseFor p c 0 s else s)

/-! ## Transmit rings and egress timestamps (12 R321, R328, R329, R331) -/

/-- A ring's next chain: its descriptors up to LAST, when they are posted. -/
def ringChain : List TxDesc → Option (List TxDesc)
  | [] => none
  | d :: ds => if bit d.flags 1 then some [d] else (ringChain ds).map (d :: ·)

/-- A chain that can be sent: FIRST on its first descriptor alone, one CLASS below 7, no longer than MAX_FRAME. -/
def chainOk (maxFrame : Nat) : List TxDesc → Bool
  | [] => false
  | d :: ds => bit d.flags 0 && ds.all (fun x => !bit x.flags 0) && decide (d.cls < 7)
      && decide (lsum (d :: ds) (fun x => x.len) + 4 ≤ maxFrame)

/-- The class of a ring's next frame, when it can be sent now. -/
def ringReady (s : State) (p r : Nat) : Option Nat :=
  let g := netRing s p r
  if !g.en then none
  else match ringChain g.descs with
    | some (d :: ds) => if chainOk (port s p).cfg.maxFrame (d :: ds) ∧ classPaused s p d.cls then none else some d.cls
    | _ => none

/-- The ring whose turn it is: the higher class first, ring 2 before ring 3. -/
def txTurn (s : State) (p : Nat) : Option Nat :=
  match ringReady s p 2, ringReady s p 3 with
  | some a, some b => some (if a < b then 3 else 2)
  | some _, none => some 2
  | none, some _ => some 3
  | none, none => none

/-- A host frame leaves on a port, with its egress timestamp where it asks for one. -/
def hostOut (p : Nat) (d : TxDesc) (data : Bytes) (prp : Option (Nat × Nat)) (s : State) : State :=
  let s := countPort p 7 (emit (.hostFrame p data prp (now s)) s)
  if bit d.flags 2 then egressStamp p (d.tag % 2 ^ 15) (now s) s else s

/-- HOST_TX_FRAME: ring false is ring 2, true ring 3. No frame starts while the port holds back (03 R71). -/
def execHostTxFrame (p : Fin 6) (ring : Bool) (s : State) : Host.Outcome State Fault Refusal :=
  let r := if ring then 3 else 2
  if !mainUp s ∨ !(port s p).up ∨ heldBack s p ∨ txTurn s p ≠ some r then done s
  else
    let g := netRing s p r
    match ringChain g.descs with
    | some (d :: ds) =>
      let n := ds.length + 1
      let s := emit (.txDone p r g.head n)
        (setRing p r { g with descs := g.descs.drop n, head := (g.head + n) % ringLen g.size } s)
      if !chainOk (port s p).cfg.maxFrame (d :: ds) then done (netIrq p r (countPort p 8 s))
      else
        let data := ((d :: ds).map fun x => (x.data ++ zeros (x.len - x.data.length)).take x.len).flatten
        let s := if bit d.flags 3 ∧ (p.val = 2 ∨ p.val = 4) then
            let s := prpAdvance p s
            hostOut (p + 1) d data (some (prpTrailer s p (p + 1))) (hostOut p d data (some (prpTrailer s p p)) s)
          else hostOut p d data none s
        done (netIrq p r s)
    | _ => done s

/-- A descriptor that the host never wrote. -/
def blankDesc : TxDesc := { addr := 0, len := 0, flags := 0, cls := 0, tag := 0, data := [] }

/-- A write of NET_RING_TAIL: posted receive buffers, or frames with the descriptors that the host wrote. -/
def writeNetTail (p r value : Nat) (descs : List TxDesc) (s : State) : State :=
  let g := netRing s p r
  let n := ringLen g.size
  if value < n then
    let k := (value + n - g.tail % n) % n
    let new := (List.range k).map fun i => descs.getD i blankDesc
    let s := setRing p r { g with tail := value, descs := if r < 2 then [] else g.descs ++ new } s
    if r < 2 then ringPause p r s else s
  else s

/-- NET_RING_TAIL_WRITE (12 R319, R321, R326). -/
def execNetRingTailWrite (p : Fin 6) (ring : Fin 4) (value : Nat) (descs : List TxDesc) (s : State) :
    Host.Outcome State Fault Refusal :=
  done (if mainUp s then writeNetTail p ring value descs s else s)

/-- A read of NET_TSQ_POP pops the oldest stamp (02 R40; 12 R328). -/
def popTsq (p : Nat) (s : State) : Nat × State :=
  let r := port s p
  match r.tsq with
  | [] => (0, setPort p { r with popTag := 0, popValid := false } s)
  | e :: es =>
    (e.tag + 2 ^ 31, setPort p { r with
      tsq := es, popTag := e.tag, popValid := true, popSec := e.stamp / secU % 2 ^ 32, popFrac := e.stamp % secU } s)

/-- NET_TSQ_POP_READ. -/
def execNetTsqPopRead (p : Fin 6) (s : State) : Host.Outcome State Fault Refusal :=
  if mainUp s then
    let (v, s) := popTsq p s
    done (emit (.readData .host [v]) s)
  else done s

/-- Writing 1 to NET_TSQ_LOST.OVF clears the latch. -/
def clearTsqOvf (p : Nat) (s : State) : State :=
  setPort p { port s p with ovf := false, lost := 0, ovfFirst := 0, ovfLast := 0 } s

/-- NET_TSQ_OVF_CLEAR (12 R329). -/
def execNetTsqOvfClear (p : Fin 6) (s : State) : Host.Outcome State Fault Refusal :=
  done (if mainUp s then clearTsqOvf p s else s)

/-! ## Links (12 R315) -/

/-- LINK_CHANGE. -/
def execLinkChange (p : Fin 6) (up phyFault : Bool) (s : State) : Host.Outcome State Fault Refusal :=
  let r := port s p
  done (setPort p { r with
    up := up, phyFault := phyFault && decide (p.val < 2)
    linkDowns := if r.up ∧ !up then satAdd 0xFFFFFFFF r.linkDowns 1 else r.linkDowns } s)

/-! ## Mirrored inputs (14 R381) -/

/-- MIRROR_RECEIVED: a standby checks what the active unit received, by its original stamp. -/
def execMirrorReceived (item : MirrorItem) (authOk : Bool) (s : State) : Host.Outcome State Fault Refusal :=
  if !casActs s then done s
  else
    let (ok, s) := twinTake authOk s
    if !ok ∨ (s.cas.role ≠ .standby ∧ s.cas.role ≠ .stalemate) then done s
    else done (settle (match item with
      | .udp f => c37Frame f s
      | .sv f => svFrame f s
      | .goose f => goosePub f s
      | .cfg f => cfgFrame false f s
      | .record sid stamp frame => recordIngest sid stamp frame s
      | .voice f => voicePkt f s
      | .rtcp f => rtcpPkt f s))

end Sys2Proof.Machine
end

