-- ==== Sys2Proof/Machine/Power.lean ====
section
/-! DEFINITION. Power entry, power states, resets, boot, the power-fail warning and DORMANT (18; 01 R16; 11 R311; 13 R354;
16 R423-R426). -/

namespace Sys2Proof.Machine

/-! ## Records and signals -/

/-- A POWER record (16 R420): the power state after the event, the cause, the image selected. -/
def notePower (sev : Nat) (name : Bytes) (cause : Nat) (s : State) : State :=
  note sev 1 name (pstateCode s.pwr.ps) cause (s.pwr.fwImg.getD 0) s

/-- MOD_READY: high in IDLE and RUN only, and low during an early warning (18 R447, R450). -/
def readyPin (s : State) : State :=
  let on := mainUp s && !s.pwr.pwrFail
  if s.pins.modReady = on then s else emit (.pin 3 on (now s)) { s with pins := { s.pins with modReady := on } }

/-- AON_STATUS.MAIN_UP changes with AON_ALERT.MAIN_CHANGE (02 R44). -/
def mainRail (on : Bool) (s : State) : State :=
  if s.pwr.mainUp = on then s else setAlert 3 { s with pwr := { s.pwr with mainUp := on } }

/-! ## Resets (18 R452) -/

/-- The clock's pending delays keep their remaining time when the time base starts again from 0. -/
def rtcRebase (t : Instant) (r : Rtc) : Rtc :=
  { r with host := { r.host with frozen := r.host.frozen.map (· - t) }, mgp := { r.mgp with frozen := r.mgp.frozen.map (· - t) }
           unlockAt := r.unlockAt.map (· - t) }

/-- A reset of the main side: warm keeps the counters, the scratch register, the role and the wake table; a wake from DORMANT
keeps the wake table and the links of N0 and N1. -/
def resetMain (warm wake : Bool) (s : State) : State :=
  let s := alarmPin (pinsOff { s with dets := [] })
  let keep := warm || wake
  emptyLockers { s with
    glb := { scratch := if warm then s.glb.scratch else 0, temp := s.glb.temp }
    cmd := { mailbox := s.cmd.mailbox, mailSubmitted := s.cmd.mailSubmitted, replyBox := s.cmd.replyBox
             replyWait := s.cmd.replyWait.filter fun e => decide (e.1.origin = .mgp) }
    rcd := { s.rcd with host := {}, mgp := { s.rcd.mgp with page := 0, seek := 0 } }
    rtc := rtcRebase (now s) s.rtc
    tb := {}
    refBus := {}
    phases := []
    phaseNext := 0
    bank0 := {}
    bank1 := {}
    active := false
    streams := []
    filters := []
    mst := {}
    disp := {}
    dets := []
    schs := []
    pubs := []
    outRuns := []
    vchs := []
    flows := []
    caps := []
    oqs := []
    iqs := []
    dmaPtr := 0
    txWait := []
    ports := mmap s.ports fun p r => { up := r.up && (warm || (wake && decide (p < 2))), phyFault := r.phyFault
                                       linkDowns := if warm then r.linkDowns else 0
                                       counts := if warm then r.counts else [] }
    wake := if keep then s.wake else []
    cas := { role := if warm then s.cas.role else .solo, term := if warm then s.cas.term else 0 }
    cnt := if warm then s.cnt else []
    pins := { s.pins with
      wasIn := [], wasInBase := [], wasOut := 0, wasOutReq := 0, hbOut := false
      phyRst := if keep then s.pins.phyRst else true }
    pwr := { s.pwr with
      fwFault := false, recovery := false, fwImg := none, mainOffWait := none, dormantWait := none, warmAt := false
      startWait := none, stopWait := none, swapWait := none, firstRefusal := [], configAmbiguous := false } }

/-- The main side is cut off (18 R447): the module is in AON_ONLY or DORMANT. Lockers empty (13 R354). -/
def mainCut (to_ : PState) (s : State) : State :=
  let s := alarmPin (pinsOff { s with dets := [] })
  let s := emptyLockers { s with
    pins := { s.pins with hbOut := false, wasOutReq := 0 }
    pwr := { s.pwr with ps := to_, mainOffWait := none, dormantWait := none, warmAt := false, startWait := none, stopWait := none
                        swapWait := none } }
  readyPin (mainRail false s)

/-! ## Boot (18 R453-R457) -/

def fwSlot (s : State) (b : Bool) : Option FwImage := if b then s.nor.fwB else s.nor.fwA

def fwAttempts (s : State) (b : Bool) : Nat := if b then s.nor.attemptsB else s.nor.attemptsA

def setAttempts (b : Bool) (n : Nat) (s : State) : State :=
  if b then { s with nor := { s.nor with attemptsB := n } } else { s with nor := { s.nor with attemptsA := n } }

/-- A firmware image that may start: it passes its checks and its boot-attempt count has not reached 3. -/
def fwQualifies (s : State) (b : Bool) : Bool := match fwSlot s b with
  | some i => i.valid && decide (fwAttempts s b < 3)
  | none => false

def fwCommitOf (s : State) (b : Bool) : Nat := match fwSlot s b with
  | some i => i.commit
  | none => 0

/-- The image that commit counters prefer among those held: B only with the higher counter (14 R396). -/
def fwPrefers (s : State) : Bool :=
  match s.nor.fwA, s.nor.fwB with
  | some a, some b => decide (a.commit < b.commit)
  | none, some _ => true
  | _, none => false

/-- Image selection: the image, and whether it is a fallback to the other one. -/
def fwSelect (s : State) : Option Bool × Bool :=
  let p := fwPrefers s
  if fwQualifies s p then (some p, false)
  else if fwQualifies s (!p) then (some (!p), (fwSlot s p).isSome)
  else (none, false)

/-- The image is selected and its attempt counted (18 R454). -/
def startImage (s : State) : State :=
  match fwSelect s with
  | (some b, fell) =>
    let amb : Bool := match s.nor.fwA, s.nor.fwB with
      | some x, some y => fwQualifies s false && fwQualifies s true && x.commit == y.commit && x.image != y.image
      | _, _ => false
    let s := setAttempts b (fwAttempts s b + 1) s
    { s with pwr := { s.pwr with fwImg := some (b2n b), fellBack := fell, configAmbiguous := amb } }
  | (none, _) => { s with pwr := { s.pwr with fwImg := none, fellBack := false } }

/-- One more power cycle (16 R423). -/
def powerCycle (s : State) : State := { s with rcd := { s.rcd with cycles := satAdd (2 ^ 24 - 1) s.rcd.cycles 1 } }

/-- BOOT starts: kind 0 power-on, 1 cold, 2 wake from DORMANT, 3 warm. Fuses are sensed and pending intents completed at a
power-on and at a cold boot (13 R365). -/
def startBoot (kind : Nat) (s : State) : State :=
  let s := resetMain (kind = 3) (kind = 2) s
  let s := if kind = 1 ∨ kind = 2 then powerCycle s else s
  let s := { s with pwr := { s.pwr with ps := .boot, bootKind := kind, keptFuses := false, tripped := false } }
  let s := readyPin (mainRail true s)
  startImage (if kind ≤ 1 then bootIntents s else s)

/-- The main side starts when there is a budget; without one the module stays in AON_ONLY (18 R442). -/
def tryBoot (kind : Nat) (s : State) : State :=
  if budget s = 0 then notePower 5 nmNoBudget 0 s else startBoot kind s

/-- The configuration image: which, and whether the choice was ambiguous (14 R396, 18 R456). -/
def cfgSelect (s : State) : Option CfgImage × Bool :=
  match s.nor.cfgA, s.nor.cfgB with
  | some a, some b => if a.commit < b.commit then (some b, false) else (some a, a.commit == b.commit && a != b)
  | some a, none => (some a, false)
  | none, some b => (some b, false)
  | none, none => (none, false)

/-- The configuration image goes into the active bank. -/
def loadConfig (s : State) : State :=
  match cfgSelect s with
  | (some i, amb) =>
    let s := { s with bank0 := i.bank, active := false
                      schs := i.consts.map fun e => (e.1, ({ consts := e.2 } : SchRun))
                      caps := i.bank.caps.map fun e => (e.1, newCap i.bank e.2 0)
                      pwr := { s.pwr with configAmbiguous := s.pwr.configAmbiguous || amb } }
    s
  | (none, _) => notePower 5 nmNoConfigImage 0 s

/-- The time base starts from the real-time clock, in FREERUN (03 R51, R52). -/
def startTimeBase (s : State) : State :=
  let c : Instant := if s.rtc.lost then 0 else (s.rtc.sec + 946684832) * secU + s.rtc.sub * 2 ^ 17
  let s := noteTime 5 nmFreerun { s with tb := { s.tb with count := c * 2 ^ 32, state := .freerun } }
  if s.rtc.lost then raiseVector 93 s else s

/-- A restarted RTC domain takes its curve and its leap table from NOR; otherwise what was loaded while the main side was
down is copied there (15 R413). -/
def restoreRtc (s : State) : State :=
  if s.rtc.restarted then
    { s with rtc := { s.rtc with
      curve := s.nor.curve.getD s.nor.factory, leaps := s.nor.leaps.getD s.rtc.leaps, restarted := false } }
  else
    let c := s.rtc.newCurve.getD s.rtc.curve
    { s with nor := { s.nor with
      curve := if c = s.nor.curve.getD s.nor.factory then s.nor.curve else some c
      leaps := if s.rtc.leaps = s.nor.leaps.getD [] then s.nor.leaps else some s.rtc.leaps } }

/-- The outcome of memory training, which a warm reset and a wake keep from the boot before (18 R453). -/
def bootTrained (ok : Bool) (s : State) : State :=
  if !ok then notePower 6 nmSelfTestFailed 0 { s with pwr := { s.pwr with bistFail := true }, cas := { s.cas with bistFail := true } }
  else if s.pwr.bootKind ≤ 1 then { s with pwr := { s.pwr with bistFail := false } }
  else { s with cas := { s.cas with bistFail := s.pwr.bistFail } }

/-- The identity certificate's key is compared with the unit's own (13 R345). -/
def bootCert (ok : Bool) (s : State) : State :=
  let s := { s with gh := { s.gh with idOk := ok } }
  if ok then s else noteGate 7 nmIdentityKey 0 0 0 s

/-- What the choice of firmware and configuration notes, once the recorder takes records (18 R454, R456). -/
def bootNotes (n : Nat) (s : State) : State :=
  let s := if s.pwr.fellBack then notePower 6 nmFirmwareFallback n s else s
  let s := if s.pwr.configAmbiguous then notePower 5 nmConfigAmbiguous n s else s
  { s with rcd := { s.rcd with suspended := false } }

/-- BOOT_COMPLETE: IDLE is entered, in recovery when no image qualified (18 R453-R457). DESIGN CHOICE: recovery loads the time
base too (03 R51). -/
def execBootComplete (res : BootResult) (s : State) : Host.Outcome State Fault Refusal :=
  if s.pwr.ps ≠ .boot then done s
  else match s.pwr.fwImg with
    | none =>
      done (drainReplies (readyPin (notePower 6 nmRecovery 0
        (startTimeBase { s with pwr := { s.pwr with ps := .idle, recovery := true } }))))
    | some n =>
      let s := setAttempts (n = 1) 0 s
      let s := startTimeBase (restoreRtc (loadPairKey (loadConfig s)))
      let s := { s with pins := { s.pins with phyRst := false }
                        pwr := { s.pwr with ps := .idle } }
      done (drainReplies (readyPin (bootTrained res.trainOk (bootCert res.certOk (bootNotes n s)))))

/-- BOOT_WATCHDOG: an image that has not reached IDLE within 2.5 s brings a cold reset (18 R454). -/
def execBootWatchdog (s : State) : Host.Outcome State Fault Refusal :=
  done (if s.pwr.ps = .boot ∧ s.pwr.fwImg.isSome then startBoot 1 s else s)

/-! ## Supplies (18 R441-R446) -/

/-- Retained registers are lost without VBAT (18 R446; 15 R417). -/
def loseRetained (s : State) : State :=
  { s with
    gh := { s.gh with aonIntent := none }
    rcd := { s.rcd with discards := 0, owed := false, owedN := 0, owedFirst := 0, owedLast := 0 }
    nor := { s.nor with attemptsA := 0, attemptsB := 0 }
    rtc := {} }

/-- VIN_GOOD: the always-on domain starts, and the main side after it unless BOOT_SEL0 holds it (18 R445, R453; 16 R423,
R424). -/
def execVinGood (straps : BootStraps) (s : State) : Host.Outcome State Fault Refusal :=
  if s.pwr.vinOk then done s
  else
    let s := resetMain false false s
    let s := powerCycle { s with
      rcd := { s.rcd with opTime := s.rcd.checkpoint, opPhase := 0, suspended := false, clearing := [], mgp := {} }
      pwr := { s.pwr with
        ps := .aonOnly, vinOk := true, mainUp := false, pwrFail := false, aonAlert := 0, aonAlertEn := 1
        strapHold := straps.hold, tripped := false, keptFuses := false, bistFail := false }
      pins := { s.pins with bootSel0 := straps.hold, pwrFail := false }
      rtc := if s.rtc.locked then { s.rtc with unlockAt := some (now s + msU 5) } else s.rtc }
    let s := recSummary (readyPin s)
    done (if straps.hold then s else tryBoot 0 s)

/-- VIN_BELOW_9V: the main side is cut off at once. -/
def execVinBelow9v (s : State) : Host.Outcome State Fault Refusal :=
  match s.pwr.ps with
  | .off => done s
  | .dormant => done (mainCut .aonOnly { s with pwr := { s.pwr with vinOk := false, keptFuses := false } })
  | _ => done (mainCut .aonOnly { s with pwr := { s.pwr with vinOk := false } })

/-- VIN_BELOW_7V: the always-on domain stops; records not programmed are lost (16 R426). -/
def execVinBelow7v (s : State) : Host.Outcome State Fault Refusal :=
  if s.pwr.ps = .off then done s
  else
    let s := mainCut .off { s with pwr := { s.pwr with vinOk := false, keptFuses := false } }
    let s := loseStaged { s with pwr := { s.pwr with aonAlert := 0 } }
    done (if s.pwr.vbatOk then s else loseRetained s)

/-- VBAT_OK_CHANGE: VBAT at or above 2.0 V; without it and without VIN the retained registers are lost. -/
def execVbatOkChange (ok : Bool) (s : State) : Host.Outcome State Fault Refusal :=
  let s := { s with pwr := { s.pwr with vbatOk := ok } }
  done (if !ok ∧ s.pwr.ps = .off then loseRetained s else s)

def setPd (b : Bool) (p : Pd) (s : State) : State :=
  if b then { s with pwr := { s.pwr with pdB := p } } else { s with pwr := { s.pwr with pdA := p } }

def pdOf (s : State) (b : Bool) : Pd := if b then s.pwr.pdB else s.pwr.pdA

/-- The image that runs needs more than the budget (18 R443). -/
def overBudget (s : State) : Bool := mainUp s && decide (budget s < imageMw s)

/-- The budget is 0 with the main side up: it goes down as for MAIN_OFF, and an ACTIVE unit declares a fault (18 R444). -/
def budgetLost (s : State) : State :=
  let s := setIrq 3 (notePower 6 nmBudgetLost 0 s)
  let s := declareFault 6 s
  { s with pwr := { s.pwr with mainOffWait := some (s.pwr.mainOffWait.getD none) } }

/-- PD_POWER_CHANGE: an interface gains or loses power (18 R443). -/
def execPdPowerChange (pdB on : Bool) (s : State) : Host.Outcome State Fault Refusal :=
  if (pdOf s pdB).delivering = on then done s
  else
    let was := budget s
    let s := setIrq 3 (setPd pdB { pdOf s pdB with delivering := on } s)
    let s := notePower (if overBudget s then 6 else 4) nmPdChange (b2n pdB) s
    done (if s.pwr.mainUp ∧ was ≠ 0 ∧ budget s = 0 then budgetLost s else s)

/-- PD_CLASSIFICATION: the class that the PSE grants (18 R441, R444). -/
def execPdClassification (pdB : Bool) (cls : Nat) (s : State) : Host.Outcome State Fault Refusal :=
  let was := budget s
  let s := setPd pdB { pdOf s pdB with alloc := min cls 8 } s
  done (if s.pwr.mainUp ∧ was ≠ 0 ∧ budget s = 0 then budgetLost s else s)

/-! ## Temperature (18 R448) -/

/-- THERM_ASSERT: at or above 110 °C; temperatures are in units of 1/16 °C. -/
def execThermAssert (temp : BitVec 16) (s : State) : Host.Outcome State Fault Refusal :=
  let s := { s with glb := { s.glb with temp := temp } }
  if 1760 ≤ temp.toInt ∧ !s.pins.therm ∧ s.pwr.mainUp then
    done (setAlert 1 (setIrq 1 { s with pins := { s.pins with therm := true }
                                        pwr := { s.pwr with thermAt := some (now s) } }))
  else done s

/-- THERM_RELEASE: below 105 °C. -/
def execThermRelease (temp : BitVec 16) (s : State) : Host.Outcome State Fault Refusal :=
  let s := { s with glb := { s.glb with temp := temp } }
  if temp.toInt < 1680 then
    done { s with pins := { s.pins with therm := false }, pwr := { s.pwr with thermAt := none } }
  else done s

/-- THERMAL_TRIP: at 125 °C the main side is cut off, until a MAIN_ON or a start of the always-on domain. -/
def execThermalTrip (temp : BitVec 16) (s : State) : Host.Outcome State Fault Refusal :=
  let s := { s with glb := { s.glb with temp := temp } }
  if 2000 ≤ temp.toInt ∧ s.pwr.mainUp then
    let s := mainCut .aonOnly { s with pwr := { s.pwr with tripped := true } }
    done (notePower 6 nmThermalTrip 0 s)
  else done s

/-! ## The power-fail warning (18 R449, R450; 15 R416; 16 R426) -/

/-- The oldest n staged records are programmed. -/
def programN : Nat → List Record → List Record
  | 0, l => l
  | n + 1, l => programN n (programOne l)

/-- EARLY_WARNING: PWR_FAIL_N (pin), or VIN below 10.5 V. At least 32 staged records are programmed in any case; whether more
are is left to REC_NOR_PROGRAM. -/
def execEarlyWarning (pin : Bool) (s : State) : Host.Outcome State Fault Refusal :=
  if s.pwr.ps = .off ∨ s.pwr.pwrFail then done s
  else
    let s := rtcLock { s with pwr := { s.pwr with pwrFail := true }, pins := { s.pins with pwrFail := pin } }
    let s := readyPin (setAlert 2 (setIrq 2 s))
    let s := declareFault 1 s
    let s := checkpoint { s with rcd := { s.rcd with suspended := true } }
    done { s with rcd := { s.rcd with live := programN 32 s.rcd.live } }

/-- WARNING_PASSED: PWR_FAIL_N deasserts with VIN above 10.5 V. -/
def execWarningPassed (s : State) : Host.Outcome State Fault Refusal :=
  if s.pwr.pwrFail ∧ s.pwr.vinOk then
    let s := { s with pwr := { s.pwr with pwrFail := false }, pins := { s.pins with pwrFail := false }
                      rtc := { s.rtc with unlockAt := some (now s + msU 5) } }
    done (notePower 4 nmWarningPassed 0 (readyPin s))
  else done s

/-! ## MOD_RST_N, AON_RESET and PERST_N (18 R451) -/

/-- MOD_RST_N_ASSERT: the main side and the PHYs are held in reset. -/
def execModRstNAssert (s : State) : Host.Outcome State Fault Refusal :=
  if s.pwr.ps = .off ∨ s.pins.modRst then done s
  else
    let s := if s.pwr.ps = .aonOnly then s else mainCut .aonOnly s
    done { s with pins := { s.pins with modRst := true, phyRst := true } }

/-- MOD_RST_N_RELEASE: a cold BOOT starts, except after a thermal trip (18 R448). -/
def execModRstNRelease (s : State) : Host.Outcome State Fault Refusal :=
  if !s.pins.modRst then done s
  else
    let s := { s with pins := { s.pins with modRst := false } }
    done (if s.pwr.ps = .aonOnly ∧ !s.pwr.tripped then tryBoot 1 s else s)

/-- A record of a write to AON_PWR or AON_RESET (02 R25, 16 R420). -/
def aonRecord (code value status : Nat) (s : State) : State := recAdd 4 2 code 1 0 0 (status * 65536) value [] s

/-- AON_RESET_COLD: as a pulse of MOD_RST_N. -/
def aonCold (value : Nat) (s : State) : State :=
  if s.pwr.ps = .off then s
  else
    let s := aonRecord 0xF004 value 0 s
    if s.pwr.tripped ∨ s.pins.modRst then s
    else tryBoot 1 (if s.pwr.ps = .aonOnly then s else mainCut .aonOnly s)

def execAonResetCold (s : State) : Host.Outcome State Fault Refusal := done (aonCold 1 s)

/-- PERST_N: the PCIe controller and the host side (18 R452; 02 R31; 11 R311). -/
def execPerstN (s : State) : Host.Outcome State Fault Refusal :=
  let s := resetQueues { s with
    cmd := { s.cmd with cqEn := false, rqEn := false, unknown := []
                        replyWait := s.cmd.replyWait.filter fun e => decide (e.1.origin ≠ .host) }
    rcd := { s.rcd with host := { s.rcd.host with copy := none } }
    glb := { s.glb with vecTab := [], vecPend := [] }
    ports := mmap s.ports fun _ r => { r with rings := mmap r.rings fun _ g => { g with en := false, descs := [] } } }
  done s

/-! ## Handover before a reset (14 R375) -/

/-- The packet of the CAS_SWITCHOVER that a handover forwards. -/
def handoverPacket : Packet :=
  { origin := .twin, flags := 0, hdrver := 1, tag := 0, seq := 0, plen := 0, crc := 0, params := [] }

/-- An ACTIVE unit with an ELIGIBLE partner hands over at the first slot boundary at least 2 ms later, which its partner
learns as of a CAS_SWITCHOVER. -/
def handoverFirst (s : State) : State :=
  if casActs s ∧ s.cas.role = .active ∧ peerEligible s ∧ s.cas.switchAt.isNone then
    let b := slotCeil s (now s + msU 2)
    emit (.forward 0x0A03 handoverPacket b) { s with cas := { s.cas with switchAt := some (b, none) } }
  else s

/-- A warm reset is requested. -/
def warmRequest (s : State) : State := handoverFirst { s with pwr := { s.pwr with warmAt := true } }

/-- AON_RESET_WARM: ignored while the main side is down (02 R44). -/
def aonWarm (value : Nat) (s : State) : State :=
  if s.pwr.ps = .off then s
  else
    let s := aonRecord 0xF004 value 0 s
    if s.pwr.ps = .boot then startBoot 3 s else if mainUp s then warmRequest s else s

def execAonResetWarm (s : State) : Host.Outcome State Fault Refusal := done (aonWarm 2 s)

/-- WARM_RESET_EXECUTE: after any handover. -/
def execWarmResetExecute (s : State) : Host.Outcome State Fault Refusal :=
  done (if s.pwr.warmAt ∧ mainUp s ∧ s.cas.switchAt.isNone then startBoot 3 s else s)

/-! ## MAIN_ON, MAIN_OFF and DORMANT (18 R442, R447, R458, R459) -/

/-- MAIN_ON: refused without a budget; it does nothing while the main side is up. -/
def mainOn (s : State) : Nat × State :=
  if budget s = 0 then (0x0302, s)
  else if s.pwr.ps = .dormant then (0, startBoot 2 s)
  else if s.pwr.ps = .aonOnly ∧ !s.pins.modRst then (0, startBoot 1 s)
  else (0, s)

/-- MAIN_OFF: it does nothing in AON_ONLY. -/
def mainOff (s : State) : State :=
  if mainUp s then { s with pwr := { s.pwr with mainOffWait := some none } } else s

/-- Why DORMANT is refused. -/
def dormantRefused (s : State) : Bool :=
  s.pwr.ps = .aonOnly || !(portUp s 0 || portUp s 1) || !(intents s).isEmpty

/-- DORMANT is requested; its OK reply follows the stop. -/
def dormantRequest (w : Option Waiter) (s : State) : State :=
  handoverFirst { s with pwr := { s.pwr with dormantWait := some w } }

/-- AON_PWR.REQ, over the management port (02 R44). -/
def aonPwr (value req : Nat) (s : State) : State :=
  if s.pwr.ps = .off then s
  else if s.pwr.ps = .boot then aonRecord 0xF003 value 0x0202 s
  else match req with
    | 1 =>
      let (st, s') := mainOn (aonRecord 0xF003 value (if budget s = 0 then 0x0302 else 0) s)
      if st = 0 then s' else aonRecord 0xF003 value st s
    | 2 => mainOff (aonRecord 0xF003 value 0 s)
    | 3 =>
      if dormantRefused s ∨ !mainUp s then aonRecord 0xF003 value (if dormantRefused s then 0x0302 else 0) s
      else dormantRequest none (aonRecord 0xF003 value 0 s)
    | _ => aonRecord 0xF003 value 0 s

def execAonPwrMainOn (s : State) : Host.Outcome State Fault Refusal := done (aonPwr 1 1 s)
def execAonPwrMainOff (s : State) : Host.Outcome State Fault Refusal := done (aonPwr 2 2 s)
def execAonPwrDormant (s : State) : Host.Outcome State Fault Refusal := done (aonPwr 3 3 s)

/-- From RUN the data path stops at the next second boundary, and a STOP that waits is answered. -/
def stopFirst (s : State) : State :=
  if inRun s then
    let b := secCeil (now s)
    let w := s.pwr.stopWait
    let s := endRun (advanceTo b s)
    match w with
    | some w => finalReplies w 0 s
    | none => s
  else s

/-- MAIN_OFF_EFFECT. -/
def execMainOffEffect (s : State) : Host.Outcome State Fault Refusal :=
  if s.pwr.mainOffWait.isSome ∧ (mainUp s ∨ s.pwr.ps = .boot) then done (mainCut .aonOnly (stopFirst s)) else done s

/-- DORMANT_ENTRY: stop, reply, zeroise, program, cut off. -/
def execDormantEntry (s : State) : Host.Outcome State Fault Refusal :=
  match s.pwr.dormantWait with
  | none => done s
  | some w =>
    if mainUp s ∧ s.cas.switchAt.isNone then
      let s := stopFirst s
      let s := match w with
        | some w => closeCommand w (some 4) (crc32c (le 4 3)) (le 4 3) 0 false [] s
        | none => s
      let s := programAll (checkpoint s)
      done (mainCut .dormant { s with pwr := { s.pwr with keptFuses := true } })
    else done s

/-- The magic frame of 12 R340: six bytes 0xFF and sixteen times the port's MAC. -/
def magicFrame (mac : Nat) (b : Bytes) : Bool :=
  let want := List.replicate 6 (0xFF : Byte) ++ (List.replicate 16 (be 6 mac)).flatten
  decide (fldBe b 0 6 = mac) && (List.range b.length).any fun i => slice b i 102 == want

/-- An entry of the wake table matches. -/
def wakeMatch (p : Nat) (e : WakeEntry) (b : Bytes) : Bool :=
  let set := (List.range 128).filter fun j => bit ((e.mask.getD (j / 8) 0).toNat) (j % 8)
  bit e.ports p && !set.isEmpty && set.all fun j => decide (j < b.length) && b.getD j 0 == e.pattern.getD j 0

/-- WAKE_FRAME: a frame with a valid FCS on N0 or N1 in DORMANT (12 R339, R340; 18 R459). -/
def execWakeFrame (p : Fin 6) (bytes : Bytes) (s : State) : Host.Outcome State Fault Refusal :=
  if s.pwr.ps = .dormant ∧ p.val < 2 ∧ portUp s p then
    let hit := if magicFrame (port s p).cfg.mac bytes then some 8
      else ((s.wake.find? fun e => wakeMatch p e.2 bytes).map (·.1))
    match hit with
    | some e =>
      if budget s = 0 then done s
      else done (noteI 3 1 nmWake (item nmPort p ++ item nmEntry e) (pstateCode .boot) e 0 (startBoot 2 s))
    | none => done s
  else done s

/-! ## The control firmware, PEER_DET, the TAP (01 R16; 03 R52; 14 R372; 17 R439) -/

/-- CONTROL_FW_FAULT: a locked time base enters HOLDOVER, and commands go unanswered. -/
def execControlFwFault (s : State) : Host.Outcome State Fault Refusal :=
  if mainUp s ∧ !s.pwr.fwFault then
    let s := setIrq 0 { s with pwr := { s.pwr with fwFault := true, fwFaultAt := now s } }
    let s := if s.tb.state = .locked then enterHoldover s else s
    done (notePower 6 nmFirmwareFault 0 s)
  else done s

/-- PEER_DET_CHANGE: a unit that is no longer paired is SOLO, its twin lanes and HB_OUT held down. -/
def execPeerDetChange (level : Bool) (s : State) : Host.Outcome State Fault Refusal :=
  let s := { s with pins := { s.pins with peerDet := level } }
  if paired s then done s
  else
    let s := { s with pins := { s.pins with hbOut := false }
                      cas := { s.cas with twinUp := false, lanes := 0, hbOk := false, listening := none } }
    done (swapPairing s)

/-- The IDCODE (19 R475). -/
def tapIdcode : Nat := 0x188488B3

/-- TAP_INSTRUCTION, by name: 0 BYPASS, 1 IDCODE, 2 SAMPLE/PRELOAD, 3 EXTEST. The last two act only while MOD_RST_N is
asserted, and any other is BYPASS. What a boundary scan shifts out is the board's, a free value. -/
def execTapInstruction (ir : Nat) (s : State) : Host.Outcome State Fault Refusal :=
  if ir = 1 then done (emit (.scan 1 tapIdcode) { s with tapIr := 1 })
  else if (ir = 2 ∨ ir = 3) ∧ s.pins.modRst then
    let (v, s) := drawFree s
    done (emit (.scan ir v) { s with tapIr := ir })
  else done (emit (.scan 0 0) { s with tapIr := 0 })

end Sys2Proof.Machine
end

