-- ==== Sys2Proof/Machine/Command.lean ====
section
/-! DEFINITION. How a command is taken, judged, answered and forwarded, and chunked loads (02 R23-R37; 14 R382; 18 R449,
R455). -/

namespace Sys2Proof.Machine

/-! ## Chunked loads (02 R35) -/

def chunkLen (p : Bytes) : Nat := fld p 12 2

/-- PARAM_LEN of a chunk. -/
def chunkWords (p : Bytes) (n : Nat) : Bool := decide (4 ≤ n) && n == 4 + ceilDiv (chunkLen p) 4

/-- The header's own fields. -/
def chunkHeader (p : Bytes) : Bool :=
  decide (4 ≤ chunkLen p) && decide (chunkLen p ≤ 4064) && chunkLen p % 4 == 0 && fld p 14 1 / 4 == 0 && fld p 15 1 == 0

/-- A load of one origin, opcode and target. -/
def isLoad (o : Origin) (opcode target : Nat) (c : ChunkLoad) : Bool :=
  decide (c.origin = o) && c.opcode == opcode && c.target == target

def dropChunk (o : Origin) (opcode target : Nat) (s : State) : State :=
  { s with cmd := { s.cmd with chunks := s.cmd.chunks.filter fun c => !isLoad o opcode target c } }

/-- Loads that have received a chunk within 10 s. -/
def liveLoads (s : State) : List ChunkLoad := s.cmd.chunks.filter fun c => decide (now s < c.last + 10 * secU)

/-- The load that a chunk goes on. -/
def loadOf (o : Origin) (opcode : Nat) (p : Bytes) (s : State) : Option ChunkLoad :=
  if bit (fld p 14 1) 0 then none else (liveLoads s).find? (isLoad o opcode (fld p 0 4))

/-- What a load holds before a chunk. -/
def loadData (l : Option ChunkLoad) : Bytes := match l with
  | some c => c.data
  | none => []

/-- TOTAL_LEN padded to a word, at which the last chunk ends. -/
def padLen (n : Nat) : Nat := ceilDiv n 4 * 4

/-- A chunk in sequence: it goes on where its load ends, and the last one ends it. -/
def chunkFits (o : Origin) (opcode : Nat) (p : Bytes) (s : State) : Bool :=
  let l := loadOf o opcode p s
  let total := fld p 4 4
  let e := (loadData l).length + chunkLen p
  fld p 8 4 == (loadData l).length && decide (e ≤ padLen total) && (!bit (fld p 14 1) 1 || e == padLen total)
    && (match l with
      | some c => c.totalLen == total
      | none => bit (fld p 14 1) 0)

/-- The image up to and with this chunk. -/
def chunkImage (o : Origin) (opcode : Nat) (p : Bytes) (s : State) : Bytes :=
  (loadData (loadOf o opcode p s) ++ slice p 16 (chunkLen p)).take (fld p 4 4)

/-- What a chunk brings: a refusal, a load that goes on, or the whole image. -/
inductive ChunkRes where
  | bad (status : Nat) (s : State)
  | more (s : State)
  | whole (data : Bytes) (s : State)

/-- One chunk of a load is taken. The other origin's load of the same target bars it (02 R24). -/
def chunkTake (o : Origin) (opcode : Nat) (p : Bytes) (s : State) : ChunkRes :=
  let target := fld p 0 4
  if (liveLoads s).any (fun c => decide (c.origin ≠ o) && c.opcode == opcode && c.target == target) then .bad 0x0202 s
  else
    let data := chunkImage o opcode p s
    let s := dropChunk o opcode target s
    if bit (fld p 14 1) 1 then .whole data s
    else .more { s with cmd := { s.cmd with chunks := s.cmd.chunks ++
      [{ origin := o, opcode := opcode, target := target, totalLen := fld p 4 4, data := data, last := now s }] } }

/-- A command's row of 02 R37 and what it does: the power states it lists (D, I, U), its Act mark and severity, whether it
needs a fuse burn or a NOR erase (18 R449), whether recovery accepts it (18 R455), its length in words, its fields' ranges,
its effect point as the active unit chooses it (14 R382) and its run, which makes the later checks. A run's status 1 is
QUEUED, and 2 says that the only reply comes later. A chunked command checks each chunk's place and, with the last, its
image (02 R35). -/
structure Cmd where
  opcode : Nat
  stD : Bool := false
  stI : Bool := true
  stU : Bool := true
  act : Bool := false
  sev : Option Nat := none
  flash : Bool := false
  recov : Bool := false
  len : Bytes → Nat → Bool := fun _ n => n = 0
  field : State → Bytes → Bool := fun _ _ => true
  chunked : Bool := false
  image : State → Nat → Bytes → Bool := fun _ _ _ => true
  effect : State → Bytes → Instant := fun s _ => now s
  run : State → Waiter → Bytes → Instant → Answer

/-- The PARAM_LEN words of parameters. -/
def pkBytes (pk : Packet) : Bytes := (pk.params ++ zeros (4 * pk.plen - pk.params.length)).take (4 * pk.plen)

/-- The command that the mailbox holds (02 R32, R44). -/
def mailPacket (s : State) : Nat × Packet :=
  let w := fun i => ofLe ((List.range 4).map fun j => mgetD s.cmd.mailbox (4 * i + j) 0)
  let n := bits (w 1) 31 16
  (bits (w 0) 15 0,
   { origin := .mgp, flags := bits (w 0) 23 16, hdrver := bits (w 0) 31 24, tag := bits (w 1) 15 0, plen := n, seq := w 2, crc := w 3
     params := ((List.range (min n 1020)).map fun i => le 4 (w (4 + i))).flatten })

/-- The opcodes of 02 R37. -/
def opcodes : List Nat :=
  [0x0101, 0x0102, 0x0103, 0x0104, 0x0105, 0x0106, 0x0107, 0x0108, 0x0109, 0x0201, 0x0202, 0x0203, 0x0204, 0x0205, 0x0206, 0x0301,
   0x0302, 0x0303, 0x0401, 0x0402, 0x0403, 0x0501, 0x0502, 0x0503, 0x0504, 0x0505, 0x0506, 0x0601, 0x0602, 0x0603, 0x0604, 0x0605,
   0x0701, 0x0702, 0x0703, 0x0704, 0x0705, 0x0801, 0x0802, 0x0803, 0x0804, 0x0805, 0x0806, 0x0807, 0x0901, 0x0902, 0x0903, 0x0904,
   0x0905, 0x0906, 0x0A01, 0x0A02, 0x0A03, 0x0A04, 0x0A05, 0x0B01, 0x0B02, 0x0C01, 0x0C02, 0x0D01, 0x0D02, 0x0D03, 0x0D04]

/-- The host's ring holds a command: in BOOT it is refused, and in IDLE and RUN it is judged (02 R36). -/
def hostPosted (s : State) : Bool :=
  (mainUp s || s.pwr.ps = .boot) && s.cmd.cqEn && s.cmd.cqHead != s.cmd.cqTail

/-- A command of the host that can be taken: the firmware runs, and the reply ring is on with room (02 R27, R28; 01 R16). -/
def hostReady (s : State) : Bool :=
  hostPosted s && !fwDown s && s.cmd.rqEn && !rplqFull s && s.cmd.replyWait.isEmpty

/-- A submitted command of the mailbox that can be taken (02 R44). -/
def mailReady (s : State) : Bool := s.pwr.ps != .off && !fwDown s && s.cmd.mailSubmitted

/-- Commands are taken alternately from the two origins: an origin's turn is over while the other's command waits
(02 R24). -/
def turnOf (o : Origin) (s : State) : Bool :=
  decide (s.cmd.lastOrigin ≠ some o) || !(if o = .host then mailReady s else hostReady s)

/-- The host's next slot is copied and CMDQ_HEAD passes it (02 R27). -/
def takeHost (s : State) : State :=
  { s with cmd := { s.cmd with
      cqHead := (s.cmd.cqHead + 1) % ringLen s.cmd.cqSize, unknown := mdel s.cmd.unknown s.cmd.cqHead, lastOrigin := some .host } }

/-- The mailbox's command is taken. -/
def takeMail (s : State) : State := { s with cmd := { s.cmd with mailSubmitted := false, lastOrigin := some .mgp } }

/-- The firmware takes a command of the table: the next of the host's ring, or the mailbox's (02 R24, R27, R28, R44). -/
def taken (opcode : Nat) (pk : Packet) (s : State) : Option State :=
  match pk.origin with
  | .host => if hostReady s && turnOf .host s && (mget s.cmd.unknown s.cmd.cqHead).isNone then some (takeHost s) else none
  | .mgp => if mailReady s && turnOf .mgp s && decide (mailPacket s = (opcode, pk)) then some (takeMail s) else none
  | .twin => none

/-- A host command that waits for room in the reply ring sets RPLQ_FULL (02 R28). -/
def notTaken (pk : Packet) (s : State) : State :=
  if pk.origin = .host ∧ hostPosted s ∧ s.cmd.rqEn ∧ rplqFull s then setIrq 7 s else s

/-- A chunk that is out of sequence, or the last of an image that fails its check. -/
def chunkBad (c : Cmd) (o : Origin) (p : Bytes) (s : State) : Bool :=
  c.chunked && (!chunkFits o c.opcode p s
    || (bit (fld p 14 1) 1 && !c.image s (fld p 0 4) (chunkImage o c.opcode p s)))

/-- The statuses of class 0x01xx, lowest first (02 R34). -/
def class01 (c : Cmd) (pk : Packet) (s : State) : Option Nat :=
  let p := (pkBytes pk)
  if 1020 < pk.plen ∨ !c.len p pk.plen then some 0x0102
  else if pk.flags / 4 ≠ 0 ∨ !c.field s p ∨ chunkBad c pk.origin p s then some 0x0103
  else if pk.hdrver ≠ 1 then some 0x0104
  else if pk.crc ≠ (if pk.plen = 0 then 0 else crc32c p) then some 0x0105
  else none

/-- The power state and the role (02 R36), recovery (18 R455) and the power-fail warning (18 R449). DEDUCED: the role
refuses in RUN, where roles apply (14 R372). -/
def class02 (c : Cmd) (o : Origin) (s : State) : Option Nat :=
  if s.pwr.ps = .boot then some 0x0202
  else if mainDown s ∧ !c.stD then some 0x0206
  else if (inIdle s ∧ !c.stI) ∨ (inRun s ∧ !c.stU) ∨ (mainUp s ∧ s.pwr.recovery ∧ !c.recov) then some 0x0201
  else if c.flash ∧ mainUp s ∧ s.pwr.pwrFail then some 0x0202
  else if c.act ∧ o ≠ .twin ∧ inRun s ∧ !actRole s then some 0x0204
  else none

/-- A CAS_PAIR whose partner has not answered ends before the next command starts (02 R24, 13 R366). -/
def endPairing (s : State) : State :=
  match s.gh.pairWait with
  | some (w, _, _) => closeCommand w (some 4) w.crc [] 0x0302 false [] { s with gh := { s.gh with pairWait := none } }
  | none => s

/-- The stored reply of a command sent again (02 R31). -/
def repeated (opcode : Nat) (pk : Packet) (s : State) : Option Reply :=
  match (match pk.origin with
    | .host => s.cmd.lastHost
    | .mgp => s.cmd.lastMgp
    | .twin => none) with
  | some l => if l.opcode = opcode ∧ l.seq = pk.seq ∧ l.crc = pk.crc then some l.reply else none
  | none => none

def waiterOf (opcode : Nat) (pk : Packet) : Waiter :=
  { origin := pk.origin, opcode := opcode, tag := pk.tag, seq := pk.seq, crc := pk.crc, noIrq := bit pk.flags 0 }

/-- The ACTIVE unit forwards an accepted Act command with its effect point (14 R382). -/
def forwardCmd (c : Cmd) (pk : Packet) (effect : Instant) (s : State) : State :=
  if c.act ∧ pk.origin ≠ .twin ∧ s.cas.role = .active ∧ casActs s ∧ s.cas.twinUp then emit (.forward c.opcode pk effect) s
  else s

/-- A command taken from its origin is executed or refused (02 R25, R30-R36). -/
def runCommand (c : Cmd) (pk : Packet) (effect : Instant) (s : State) : State × Nat :=
  let p := (pkBytes pk)
  let w := waiterOf c.opcode pk
  let dry := bit pk.flags 1
  match class01 c pk s with
  | some st =>
    let s := if c.chunked ∧ st = 0x0103 ∧ !dry ∧ chunkHeader p ∧ chunkBad c pk.origin p s then
      dropChunk pk.origin c.opcode (fld p 0 4) s else s
    (closeCommand w c.sev pk.crc p st dry [] s, st)
  | none =>
    match class02 c pk.origin s with
    | some st => (closeCommand w c.sev pk.crc p st dry [] s, st)
    | none =>
      let (s', st, res) := c.run s w p effect
      if dry then (closeCommand w c.sev pk.crc p (if st = 2 then 0 else st) true res s, st)
      else if st = 2 then (s', st)
      else if st < 2 then (closeCommand w c.sev pk.crc p st false res (forwardCmd c pk effect s'), st)
      else (closeCommand w c.sev pk.crc p st false res s', st)

/-- A taken command whose OPCODE the table does not hold is refused, or answered again (02 R31, R34). -/
def badOpcode (opcode : Nat) (pk : Packet) (s : State) : State :=
  let s := endPairing s
  match repeated opcode pk s with
  | some r => postReply r (bit pk.flags 0) s
  | none => closeCommand (waiterOf opcode pk) none pk.crc (pkBytes pk) 0x0101 (bit pk.flags 1) [] s

/-- A command at the front of the host's ring, or in the mailbox, whose OPCODE the table does not hold and whose turn it
is. -/
def unknownNext (s : State) : Option (UnknownCmd × State) :=
  match (if hostReady s && turnOf .host s then mget s.cmd.unknown s.cmd.cqHead else none) with
  | some u => some (u, takeHost s)
  | none =>
    let (op, pk) := mailPacket s
    if mailReady s && turnOf .mgp s && !opcodes.contains op then some ({ slot := 0, opcode := op, pk := pk }, takeMail s) else none

/-- Up to n commands whose OPCODE the table does not hold are refused in their turn: the table has no row for them. -/
def serveUnknown : Nat → State → State
  | 0, s => s
  | n + 1, s =>
    match unknownNext s with
    | some (u, s) => serveUnknown n (badOpcode u.opcode u.pk s)
    | none => s

/-- The commands without a row whose turn has come. -/
def serve (s : State) : State := serveUnknown (s.cmd.unknown.length + 1) s

/-- The row of a command: its origin's next command is taken, or nothing is. -/
def command (c : Cmd) (pk : Packet) (s : State) : Host.Outcome State Fault Refusal :=
  match taken c.opcode pk s with
  | none => done (notTaken pk s)
  | some s =>
    let s := endPairing s
    match repeated c.opcode pk s with
    | some r => done (serve (postReply r (bit pk.flags 0) s))
    | none => done (serve (runCommand c pk (c.effect s (pkBytes pk)) s).1)

/-- CHUNK_LOAD_TIMEOUT: 10 s after the last chunk (02 R35). -/
def execChunkLoadTimeout (o : Origin) (opcode target : Nat) (s : State) : Host.Outcome State Fault Refusal :=
  match s.cmd.chunks.find? (isLoad o opcode target) with
  | none => done s
  | some c => done (dropChunk o opcode target (advanceTo (c.last + 10 * secU) s))

end Sys2Proof.Machine
end

