-- ==== Sys2Proof/Machine/CmdSystem.lean ====
section
/-! DEFINITION. The commands of the system group, of time and the clock, and of the recorder (02 R37-R39; 03 R75-R79; 15
R403, R413; 16 R432, R433). -/

namespace Sys2Proof.Machine

/-- A fixed PARAM_LEN. -/
def words (n : Nat) : Bytes → Nat → Bool := fun _ k => k == n

/-! ## System (0x01xx) -/

/-- The capacities of GET_INFO.CAPS (02 R38). -/
def infoCaps : List Nat :=
  [4096, 65536, 1024, 262144, 16384, 8192, 16, 256, 64, 1024, 256, 1024, 4915200, 8192, 16000000, 1024, 2048, 4096, 64, 16, 256,
   64, 256, 64, 16, 16384, 16777216, 512]

/-- FW_x_VER and FW_x_COMMIT. -/
def fwInfo (i : Option FwImage) : Bytes := match i with
  | some f => le 4 (if f.valid then Config.fwVersion f.image else 0) ++ le 4 f.commit
  | none => zeros 8

/-- CFG_x_ID and CFG_x_COMMIT. -/
def cfgInfo (i : Option CfgImage) : Bytes := match i with
  | some c => le 8 (match c.bank.sched with
      | some x => x.imageId
      | none => 0) ++ le 4 c.commit ++ zeros 4
  | none => zeros 16

/-- GET_INFO (02 R38). -/
def infoBytes (s : State) : Bytes :=
  le 2 0x8848 ++ le 1 0x0A ++ le 1 0x10 ++ be 16 Config.deviceId ++ fwInfo s.nor.fwA ++ fwInfo s.nor.fwB
    ++ le 1 (if mainDown s then 0xFF else s.pwr.fwImg.getD 0xFF)
    ++ le 1 (b2n (mainDown s) + b2n s.pwr.recovery * 2 + b2n s.pwr.configAmbiguous * 4) ++ zeros 2
    ++ cfgInfo s.nor.cfgA ++ cfgInfo s.nor.cfgB
    ++ (if mainDown s then zeros 112 else (infoCaps.map (le 4)).flatten)

def getInfoCmd : Cmd :=
  { opcode := 0x0101, stD := true, recov := true, run := fun s _ _ _ => (s, 0, infoBytes s) }

def execGetInfo (pk : Packet) (s : State) : Host.Outcome State Fault Refusal := command getInfoCmd pk s

/-- GET_STATE (02 R39). -/
def stateBytes (s : State) : Bytes :=
  let up := !mainDown s
  let flags := b2n s.pwr.recovery + b2n (overBudget s) * 2 + b2n (s.tb.state = .locked) * 4 + b2n s.pwr.fwFault * 8
    + b2n s.pwr.bistFail * 16 + b2n (eligible s) * 32
  le 1 (pstateCode s.pwr.ps) ++ le 1 (roleCode s.cas.role) ++ le 1 (if up then flags else 0) ++ le 1 (powerSource s)
    ++ le 4 (if up then casHealthWord s else 0) ++ le 4 (budget s) ++ le 4 (if up then imageMw s else 0)
    ++ le 1 (pdByte s.pwr.pdA) ++ le 1 (pdByte s.pwr.pdB) ++ le 2 (if up then s.glb.temp.toNat else 0) ++ zeros 8

def getStateCmd : Cmd :=
  { opcode := 0x0102, stD := true, recov := true, run := fun s _ _ _ => (s, 0, stateBytes s) }

def execGetState (pk : Packet) (s : State) : Host.Outcome State Fault Refusal := command getStateCmd pk s

/-- The schedule of the bank active at the next second boundary (03 R77). -/
def startSched (s : State) : Option SchedImg :=
  if swapAt (secCeil (now s)) s then (inactiveBank s).sched else sched s

/-- START (18 R447, R456, R457). A second START joins the first. -/
def startCmd : Cmd :=
  { opcode := 0x0103, stU := false, sev := some 2
    run := fun s w _ _ =>
      if (startSched s).isNone then (s, 0x0201, [])
      else if s.pwr.bistFail then (s, 0x0601, [])
      else ({ s with pwr := { s.pwr with startWait := some (s.pwr.startWait.getD [] ++ [w]) } }, 1, []) }

def execStart (pk : Packet) (s : State) : Host.Outcome State Fault Refusal := command startCmd pk s

/-- STOP. -/
def stopCmd : Cmd :=
  { opcode := 0x0104, stI := false, sev := some 2
    run := fun s w _ _ => ({ s with pwr := { s.pwr with stopWait := some (s.pwr.stopWait.getD [] ++ [w]) } }, 1, []) }

def execStop (pk : Packet) (s : State) : Host.Outcome State Fault Refusal := command stopCmd pk s

/-- WARM_RESET: answered before the reset (18 R451; 14 R375). -/
def warmResetCmd : Cmd :=
  { opcode := 0x0105, sev := some 4, recov := true, run := fun s _ _ _ => (warmRequest s, 0, []) }

def execWarmReset (pk : Packet) (s : State) : Host.Outcome State Fault Refusal := command warmResetCmd pk s

/-- POWER_CTRL: 1 MAIN_ON, in D only, 2 MAIN_OFF, 3 DORMANT (02 R37; 18 R447, R458). -/
def powerCtrlCmd : Cmd :=
  { opcode := 0x0106, stD := true, sev := some 4, recov := true, len := words 1
    field := fun _ p => decide (1 ≤ fld p 0 4) && decide (fld p 0 4 ≤ 3)
    run := fun s w p _ => match fld p 0 4 with
      | 1 =>
        if mainUp s then (s, 0x0201, [])
        else
          let (st, s') := mainOn s
          (s', st, [])
      | 2 => (mainOff s, 0, [])
      | _ => if dormantRefused s then (s, 0x0302, [])
             else if mainUp s then (dormantRequest (some w) s, 2, []) else (s, 0, []) }

def execPowerCtrl (pk : Packet) (s : State) : Host.Outcome State Fault Refusal := command powerCtrlCmd pk s

def setFw (b : Bool) (i : FwImage) (s : State) : State :=
  if b then { s with nor := { s.nor with fwB := some i } } else { s with nor := { s.nor with fwA := some i } }

/-- FW_LOAD (02 R35; 13 R368; 18 R454, R455). The commit counter of a loaded image is not stated. -/
def fwLoadCmd : Cmd :=
  { opcode := 0x0107, sev := some 4, recov := true, flash := true, len := chunkWords, chunked := true
    field := fun s p => chunkHeader p && decide (fld p 0 4 ≤ 1) && !decide (s.pwr.fwImg = some (fld p 0 4))
    run := fun s w p _ => match chunkTake w.origin 0x0107 p s with
      | .bad st s => (s, st, [])
      | .more s => (s, 0, [])
      | .whole d s =>
        if Config.fwVerifies d then
          let (v, s) := drawFree s
          let b := fld p 0 4 == 1
          (setAttempts b 0 (setFw b { ver := Config.fwVersion d, commit := v % 2 ^ 32, valid := true, image := d } s), 0, [])
        else (s, 0x0402, []) }

def execFwLoad (pk : Packet) (s : State) : Host.Outcome State Fault Refusal := command fwLoadCmd pk s

/-- FW_COMMIT: the image's commit counter becomes one above the other's (14 R396; 18 R454). -/
def fwCommitCmd : Cmd :=
  { opcode := 0x0108, sev := some 4, recov := true, flash := true, len := words 1, field := fun _ p => decide (fld p 0 4 ≤ 1)
    run := fun s _ p _ =>
      let b := fld p 0 4 == 1
      match fwSlot s b with
      | none => (s, 0x0201, [])
      | some i => (setAttempts b 0 (setFw b { i with commit := (fwCommitOf s (!b) + 1) % 2 ^ 32 } s), 0, []) }

def execFwCommit (pk : Packet) (s : State) : Host.Outcome State Fault Refusal := command fwCommitCmd pk s

/-- The active bank with its schemes' constants as in effect (08 R210). -/
def cfgImage (commit : Nat) (s : State) : CfgImage :=
  { bank := activeBank s, commit := commit % 2 ^ 32
    consts := mmap (activeBank s).schemes fun n i => constsOf i (schRun s n) }

/-- CFG_SAVE: over the image not in use, its commit counter one higher (14 R396). -/
def cfgSave (s : State) : State :=
  match s.nor.cfgA, s.nor.cfgB with
  | some a, some b =>
    if a.commit < b.commit then { s with nor := { s.nor with cfgA := some (cfgImage (b.commit + 1) s) } }
    else { s with nor := { s.nor with cfgB := some (cfgImage (a.commit + 1) s) } }
  | some a, none => { s with nor := { s.nor with cfgB := some (cfgImage (a.commit + 1) s) } }
  | none, some b => { s with nor := { s.nor with cfgA := some (cfgImage (b.commit + 1) s) } }
  | none, none => { s with nor := { s.nor with cfgA := some (cfgImage 1 s) } }

def cfgSaveCmd : Cmd :=
  { opcode := 0x0109, sev := some 2, flash := true, run := fun s _ _ _ => (cfgSave s, 0, []) }

def execCfgSave (pk : Packet) (s : State) : Host.Outcome State Fault Refusal := command cfgSaveCmd pk s

/-! ## Time (0x09xx) -/

/-- The parameters of TIME_CONFIG (03 R78). -/
def timeConfigOf (p : Bytes) : TimeConfig :=
  { source := fld p 0 4, profile := fld p 4 1, domain := fld p 5 1, ports := fld p 6 1, options := fld p 7 1
    ppsInDelay := sgn 32 (fld p 8 4), ppsOutWidth := fld p 12 4
    asym := (List.range 6).map fun i => sgn 32 (fld p (16 + 4 * i) 4) }

def timeConfigField (p : Bytes) : Bool :=
  let c := timeConfigOf p
  decide (c.source ≤ 2) && decide (c.profile ≤ 1) && decide (c.ports < 64) && decide (c.options < 32)
    && decide (c.ppsInDelay.natAbs ≤ 100000) && decide (1 ≤ c.ppsOutWidth) && decide (c.ppsOutWidth ≤ 500000)
    && c.asym.all (fun a => decide (a.natAbs ≤ 10000))

/-- Source selection restarts (03 R52, R57, R78): a LOCKED time base that is to take its time from TIME_SET only has lost
its source. -/
def timeConfig (c : TimeConfig) (s : State) : State :=
  let moved := c.source ≠ s.tb.cfg.source
  let s := { s with tb := { s.tb with
    cfg := c, sourceSeen := false, goodRun := 0, ppsDisagree := 0, todSet := false, ppsEdge := none, zdaEdge := none
    todErr := 0, stepRestart := none, masters := []
    gmPort := 0xFF, syncStamps := [], announceAt := [], pdelaySent := [], pdelayGot := [], lastSync := now s
    utcFromPtp := s.tb.utcFromPtp && decide (c.source = 0)
    storedWaiting := s.tb.storedWaiting || (moved && (decide (c.source ≠ 0) || !s.tb.utcFromPtp)) } }
  if c.source = 2 ∧ s.tb.state = .locked then enterHoldover s else s

def timeConfigCmd : Cmd :=
  { opcode := 0x0901, sev := some 4, len := words 10, field := fun _ p => timeConfigField p
    run := fun s _ p _ => (timeConfig (timeConfigOf p) s, 0, []) }

def execTimeConfig (pk : Packet) (s : State) : Host.Outcome State Fault Refusal := command timeConfigCmd pk s

/-- TIME_SET (03 R56, R79). -/
def timeSet (sec frac : Nat) (s : State) : State × Nat :=
  let x : Int := (s.tb.count : Int) - ((sec * secU + frac : Nat) : Int) * 2 ^ 32
  if s.tb.state = .locked then (s, 0x0201)
  else if inIdle s then
    ({ s with tb := { s.tb with
        count := (sec * secU + frac) * 2 ^ 32, slew := 0, incr := incrNominal, goodRun := 0, secDone := none, todErr := 0 } }, 0)
  else if x.natAbs * 1000 < 2 ^ 64 then (slewBy x s, 0)
  else (s, 0x0201)

def timeSetCmd : Cmd :=
  { opcode := 0x0902, sev := some 4, len := words 3, field := fun _ p => decide (fld p 0 8 < 2 ^ 48)
    run := fun s _ p _ =>
      let (s, st) := timeSet (fld p 0 8) (fld p 8 4) s
      (s, st, []) }

def execTimeSet (pk : Packet) (s : State) : Host.Outcome State Fault Refusal := command timeSetCmd pk s

/-- LEAP_SET (03 R57, R79): stored, and in force from the next second boundary where it rules. -/
def leapSetCmd : Cmd :=
  { opcode := 0x0903, sev := some 4, len := words 1
    field := fun _ p => decide (fld p 0 2 ≤ 1000) && decide (fld p 2 1 ≤ 2) && fld p 3 1 == 0
    run := fun s _ p _ =>
      ({ s with tb := { s.tb with storedOffset := fld p 0 2, storedFlags := fld p 2 1, storedWaiting := true } }, 0, []) }

def execLeapSet (pk : Packet) (s : State) : Host.Outcome State Fault Refusal := command leapSetCmd pk s

/-- TIME_STATUS (03 R79). -/
def timeStatusBytes (s : State) : Bytes :=
  let st := match s.tb.state with
    | .freerun => 1
    | .locked => 2
    | .holdover => 3
  let gm := mget s.tb.masters s.tb.gmPort
  let flags := b2n s.tb.stepPending.isSome + b2n (bit s.tb.cfg.options 0 && !s.tb.refPresent) * 2 + b2n s.tb.utcFromPtp * 4
    + b2n (s.tb.leap = 1) * 8 + b2n (s.tb.leap = 2) * 16 + b2n (refValid s (now s)) * 32
  le 1 st ++ le 1 flags ++ le 2 (utcOffsetAt s (now s)) ++ le 4 (min ((estErr s).getD 0xFFFFFFFF) 0xFFFFFFFF)
    ++ le 4 (unsgn 32 s.tb.offsetNs) ++ le 4 (if s.tb.state = .holdover then (now s - s.tb.holdFrom) / secU else 0)
    ++ be 8 (match gm with
      | some a => a.gmId
      | none => 0) ++ le 1 s.tb.gmPort ++ zeros 3
    ++ le 4 (match (if s.tb.cfg.profile = 1 then gm else none) with
      | some a => a.tti.getD 0xFFFFFFFF
      | none => 0xFFFFFFFF)
    ++ (s.tb.pdelay.map fun d => le 4 (unsgn 32 d)).flatten ++ le 4 s.refBus.freq

def timeStatusCmd : Cmd := { opcode := 0x0904, run := fun s _ _ _ => (s, 0, timeStatusBytes s) }

def execTimeStatus (pk : Packet) (s : State) : Host.Outcome State Fault Refusal := command timeStatusCmd pk s

/-- RTC_CURVE_LOAD (15 R413). -/
def rtcCurveLoadCmd : Cmd :=
  { opcode := 0x0905, stD := true, sev := some 4, flash := true, len := words 17, field := fun _ p => fld p 66 2 == 0
    run := fun s _ p _ =>
      let pts := (List.range 33).map fun i => sgn 16 (fld p (2 * i) 2)
      ({ s with rtc := { s.rtc with newCurve := some pts }
                nor := if mainUp s then { s.nor with curve := some pts } else s.nor }, 0, []) }

def execRtcCurveLoad (pk : Packet) (s : State) : Host.Outcome State Fault Refusal := command rtcCurveLoadCmd pk s

/-- A day number that ends a month (15 R403). -/
def monthEnd (d : Nat) : Bool := (dateOf (d + 1)).2.2 == 1

/-- The checks of RTC_LEAP_TABLE: no valid entry after an invalid one, rising days, ends of months, 2399 at the latest. -/
def leapTableOk (t : List Nat) : Bool :=
  let v := t.takeWhile leapValid
  t.all (fun e => bits e 27 18 == 0 && bits e 30 29 == 0) && !(t.drop v.length).any leapValid
    && v.all (fun e => decide (leapDay e ≤ lastDay) && monthEnd (leapDay e))
    && (v.zip (v.drop 1)).all (fun p => decide (leapDay p.1 < leapDay p.2))

def leapTableOf (p : Bytes) : List Nat := (List.range 16).map fun i => fld p (4 * i) 4

/-- RTC_LEAP_TABLE (15 R403). -/
def rtcLeapTableCmd : Cmd :=
  { opcode := 0x0906, stD := true, sev := some 4, flash := true, len := words 16
    field := fun _ p => leapTableOk (leapTableOf p)
    run := fun s _ p _ =>
      ({ s with rtc := { s.rtc with leaps := leapTableOf p }
                nor := if mainUp s then { s.nor with leaps := some (leapTableOf p) } else s.nor }, 0, []) }

def execRtcLeapTable (pk : Packet) (s : State) : Host.Outcome State Fault Refusal := command rtcLeapTableCmd pk s

/-! ## Recorder (0x0Bxx) -/

/-- As many of the records as fit (16 R433). -/
def recFit : List Record → Nat → List Record
  | [], _ => []
  | r :: rs, room => if recLen r ≤ room then r :: recFit rs (room - recLen r) else []

/-- REC_EXPORT (16 R433). -/
def recExport (first cnt : Nat) (s : State) : State × Bytes :=
  let open_ := if recAge s first < 2 ^ 31 then s.rcd.live.filter fun r => decide (recAge s r.seq ≤ recAge s first) else []
  let out := recFit (open_.take cnt) 4008
  let start := match out with
    | r :: _ => r.seq
    | [] => 0
  let head := le 4 start ++ le 2 out.length ++ le 2 (b2n (decide (out.length < open_.length)) + b2n (!s.gh.idOk) * 2)
  let body := head ++ (out.map recBytes).flatten
  (s, body ++ if s.gh.idOk then signature identityKey body else zeros 64)

def recExportCmd : Cmd :=
  { opcode := 0x0B01, recov := true, len := words 2
    field := fun _ p => decide (1 ≤ fld p 4 2) && decide (fld p 4 2 ≤ 1024) && fld p 6 2 == 0
    run := fun s _ p _ =>
      let (s, b) := recExport (fld p 0 4) (fld p 4 2) s
      (s, 0, b) }

def execRecExport (pk : Packet) (s : State) : Host.Outcome State Fault Refusal := command recExportCmd pk s

/-- REC_NOTE (16 R432). The CODE of a NOTE record is not stated. -/
def recNoteCmd : Cmd :=
  { opcode := 0x0B02, stD := true, recov := true, len := fun p n => n == 1 + ceilDiv (fld p 2 2) 4
    field := fun _ p => decide (fld p 0 1 ≤ 5) && fld p 1 1 == 0 && decide (1 ≤ fld p 2 2) && decide (fld p 2 2 ≤ 256)
    run := fun s w p _ =>
      let (v, s) := drawFree s
      let q := s.rcd.seq
      (recAdd (fld p 0 1) 12 (v % 65536) (originCode w.origin) 1 0 0 0 (slice p 4 (fld p 2 2)) s, 0, le 4 q) }

def execRecNote (pk : Packet) (s : State) : Host.Outcome State Fault Refusal := command recNoteCmd pk s

end Sys2Proof.Machine
end

