-- ==== Sys2Proof/Machine/CmdTables.lean ====
section
/-! DEFINITION. The commands that write the inactive bank's tables and STREAM_STATUS (04 R81, R82, R95-R97, R480; 05 R110;
06 R133, R134, R145; 07 R161, R163, R174-R182; 10 R259; 12 R332). -/

namespace Sys2Proof.Machine

/-- A value within bounds. -/
def inR (v lo hi : Nat) : Bool := decide (lo ≤ v) && decide (v ≤ hi)

def vlanOkDef (v : Nat) : Bool := decide (v ≤ 4094) || v == 0xFFFF

/-- A key locker 0-63, or 0xFF for none. -/
def lockerOkDef (v : Nat) : Bool := decide (v ≤ 63) || v == 0xFF

/-- The members of a 512-byte SID bitmap at an offset. -/
def sidMap (p : Bytes) (off : Nat) : List Nat :=
  (((List.range 512).zip (slice p off 512)).map fun e =>
    if e.2 = 0 then [] else ((List.range 8).filter fun i => bit e.2.toNat i).map fun i => 8 * e.1 + i).flatten

/-- A command that writes the inactive bank: severity 2, the ACTIVE role. -/
def tableCmd (opcode : Nat) (len : Bytes → Nat → Bool) (field : Bank → Bytes → Bool) (upd : Bytes → Bank → Bank) : Cmd :=
  { opcode := opcode, act := true, sev := some 2, len := len, field := fun s p => field (inactiveBank s) p
    run := fun s _ p _ => (setInactive (upd p (inactiveBank s)) s, 0, []) }

/-! ## Streams (04 R81, R82, R480) -/

def streamOf (p : Bytes) : StreamDef :=
  let ty := fld p 2 1
  let tq := fld p 7 1
  let drop := fld p 8 1
  { type := ty, ports := fld p 3 1, rate := fld p 4 2, tol := fld p 6 1, tq := if tq = 0 then 0x40 else tq
    dropout := if drop = 0 then 5 else drop, opts := fld p 9 1, altSid := fld p 10 2, vlan := fld p 12 2
    udpPort := fld p 14 2, idcode := fld p 16 4, srcAddr := if ty = 3 then fldBe p 20 6 else fldBe p 20 16
    dstMac := fldBe p 36 6, locker := fld p 42 2, ident := fldBe p 44 32, nch := fld p 76 2, tbConf := fld p 80 4
    blocks := (List.range (fld p 78 1)).map fun i =>
      { fmt := fld p (84 + 4 * i) 1, phnmr := fld p (85 + 4 * i) 1, annmr := fld p (86 + 4 * i) 1, dgnmr := fld p (87 + 4 * i) 1 } }

def isC37 (t : Nat) : Bool := t == 1 || t == 2
def isSv (t : Nat) : Bool := t == 3 || t == 4

/-- Ports of OPTS.PRP's pair. -/
def prpMask (opts : Nat) : Nat := if opts % 4 = 1 then 0x0C else if opts % 4 = 2 then 0x30 else 0

/-- Every field of STREAM_DEFINE lies in its range. DESIGN CHOICE: IDENT is taken as its bytes stand; 04 R81 names no check of them. -/
def streamRanges (p : Bytes) : Bool :=
  let d := streamOf p
  let t := d.type
  let ip90 := t == 4 || t == 5
  decide (fld p 0 2 ≤ 4095) && inR t 1 5 && decide (d.ports < 64) && ((d.ports == 0) == (t == 2))
    && (if isSv t then [4000, 4800, 12800, 14400].contains d.rate else inR d.rate 1 240)
    && (if isC37 t then decide (d.tol ≤ 32) else d.tol == 0)
    && decide (d.tq % 4 ≤ 2) && !bit d.tq 3 && decide (d.tq / 16 ≤ 11) && decide (d.opts < 16) && decide (d.opts % 4 ≤ 2)
    && (d.altSid == 0xFFFF || (isSv t && decide (d.altSid ≤ 4095))) && vlanOkDef d.vlan
    && (if t = 1 then decide (1 ≤ d.udpPort) else d.udpPort == if ip90 then 102 else 0)
    && decide (d.idcode < 65536) && (t != 3 || isZero (slice p 26 10)) && (t == 3 || d.dstMac == 0)
    && (if ip90 then d.locker == 0xFFFF || (lockerOkDef (d.locker % 256) && lockerOkDef (d.locker / 256)) else d.locker == 0xFFFF)
    && (!isC37 t || d.ident == 0) && (if isSv t then inR d.nch 1 32 else if t = 5 then inR d.nch 1 128 else d.nch == 0)
    && (if isC37 t then decide (1 ≤ fld p 78 1) else fld p 78 1 == 0) && fld p 79 1 == 0
    && (!isC37 t || inR d.tbConf 1 16777215) && d.blocks.all (fun b => decide (b.fmt < 16))
    && (d.ports &&& prpMask d.opts) == prpMask d.opts

/-- One frame can match the recognition keys of both (04 R82, R83). A C37118_IQ record names its stream. -/
def keysOverlap (a b : StreamDef) : Bool :=
  a.type == b.type && a.type != 2 && (a.ports &&& b.ports) != 0
    && (a.vlan == 0xFFFF || b.vlan == 0xFFFF || a.vlan == b.vlan)
    && (a.srcAddr == 0 || b.srcAddr == 0 || a.srcAddr == b.srcAddr)
    && a.idcode == b.idcode && (a.type != 1 || a.udpPort == b.udpPort) && (a.type == 1 || a.ident == b.ident)
    && a.dstMac == b.dstMac

/-- An alternate that a primary may name (04 R82). -/
def altFits (prim alt : StreamDef) : Bool :=
  bit alt.opts 3 && isSv alt.type && alt.rate == prim.rate && alt.nch == prim.nch

/-- The refusals of 04 R82 that need the rest of the bank. -/
def streamFits (b : Bank) (sid : Nat) (d : StreamDef) : Bool :=
  let rest := mdel b.streams sid
  !rest.any (fun e => keysOverlap d e.2)
    && (d.altSid == 0xFFFF || ((match mget rest d.altSid with
        | some a => altFits d a
        | none => false) && !rest.any (fun e => e.2.altSid == d.altSid)))
    && rest.all (fun e => e.2.altSid != sid || altFits e.2 d)

def dropChannels (sid : Nat) (b : Bank) : Bank := { b with channels := b.channels.filter fun e => e.2.sid != sid }

/-- The SV streams of a bank, of which the device holds 1,024 (00 R3). -/
def svStreams (b : Bank) : Nat := (b.streams.filter fun e => isSv e.2.type).length

/-- A bank with a stream defined; a definition anew drops the stream's channels. -/
def withStream (sid : Nat) (d : StreamDef) (b : Bank) : Bank :=
  let b := dropChannels sid b
  { b with streams := mput b.streams sid d }

/-- One SV stream beyond the capacity is refused, and nothing is applied (00 R4). -/
def streamDefineRun (s : State) (p : Bytes) : State × Nat × Bytes :=
  let b := withStream (fld p 0 2) (streamOf p) (inactiveBank s)
  if 1024 < svStreams b then (s, 0x0301, []) else (setInactive b s, 0, [])

def streamDefineCmd : Cmd :=
  { tableCmd 0x0201 (fun p n => n == 21 + fld p 78 1) (fun b p => streamRanges p && streamFits b (fld p 0 2) (streamOf p))
      (fun _ b => b) with run := fun s _ p _ => streamDefineRun s p }

def execStreamDefine (pk : Packet) (s : State) : Host.Outcome State Fault Refusal := command streamDefineCmd pk s

def streamDeleteCmd : Cmd :=
  tableCmd 0x0202 (words 1)
    (fun b p => decide (fld p 0 2 ≤ 4095) && fld p 2 2 == 0
      && !(mdel b.streams (fld p 0 2)).any (fun e => e.2.altSid == fld p 0 2))
    fun p b =>
      let b := dropChannels (fld p 0 2) b
      { b with streams := mdel b.streams (fld p 0 2) }

def execStreamDelete (pk : Packet) (s : State) : Host.Outcome State Fault Refusal := command streamDeleteCmd pk s

/-! ## Channels (04 R95-R97) -/

def channelOf (p : Bytes) (i : Nat) : ChannelDef :=
  let o := 4 + 32 * i
  { sid := fld p o 2, kind := fld p (o + 2) 1, index := fld p (o + 3) 1, block := fld p (o + 4) 1, format := fld p (o + 5) 1
    subst := fld p (o + 6) 1, flags := fld p (o + 7) 1, scale := fld p (o + 8) 4, nominal := fld p (o + 12) 4
    substRe := fld p (o + 16) 4, substIm := fld p (o + 20) 4, fci := fld p (o + 24) 2 }

/-- The FORMATs that 04 R96 allows at a position of a block. -/
def formatsOf (b : PmuBlock) (kind : Nat) : List Nat := match kind with
  | 0 => [1 + b.fmt % 4]
  | 1 => [if bit b.fmt 3 then 6 else 5]
  | 2 => [if bit b.fmt 3 then 6 else 5]
  | 3 => [if bit b.fmt 2 then 6 else 5]
  | 4 => [7]
  | _ => []

def indexTop (b : PmuBlock) (kind : Nat) : Nat := match kind with
  | 0 => b.phnmr
  | 3 => b.annmr
  | 4 => b.dgnmr
  | _ => 1

/-- The position, format and FCI of an entry fit its stream (04 R96, R97). -/
def channelFits (d : StreamDef) (c : ChannelDef) : Bool :=
  !bit d.opts 3 &&
  if isC37 d.type then
    decide (c.kind ≤ 4) && c.fci == 0xFFFF && (match d.blocks[c.block]? with
      | some b => decide (c.index < indexTop b c.kind) && (formatsOf b c.kind).contains c.format
      | none => false)
  else if isSv d.type then
    c.kind == 5 && c.block == 0 && decide (c.index < d.nch) && c.format == 8 && (decide (c.fci ≤ 8191) || c.fci == 0xFFFF)
      && (!bit c.flags 0 || c.fci != 0xFFFF)
  else c.kind == 6 && c.block == 0 && decide (c.index < d.nch) && [6, 8, 9, 10].contains c.format && c.fci == 0xFFFF

/-- The fields that do not depend on the stream (04 R95). -/
def channelRanges (p : Bytes) (i : Nat) : Bool :=
  let c := channelOf p i
  let raw := c.kind == 4 || (c.kind == 6 && (c.format == 9 || c.format == 10))
  decide (c.subst ≤ 2) && decide (c.flags < 2) && f32Finite c.scale && !f32IsZero c.scale
    && isZero (slice p (4 + 32 * i + 26) 6)
    && (c.kind == 0 || c.kind == 5 || (c.substIm == 0 && (!raw || decide (c.substRe < 65536))))

/-- CHANNEL_DEFINE's checks over all its entries. -/
def channelsFit (b : Bank) (p : Bytes) : Bool :=
  let first := fld p 0 2
  let n := fld p 2 1
  let cs := (List.range n).map (channelOf p)
  let kept := b.channels.filter fun e => !(decide (first ≤ e.1) && decide (e.1 < first + n))
  let fcis := (cs.map (·.fci)).filter (· != 0xFFFF)
  inR n 1 64 && fld p 3 1 == 0 && decide (first + n ≤ 65536) && (List.range n).all (channelRanges p)
    && cs.all (fun c => match mget b.streams c.sid with
      | some d => channelFits d c
      | none => false)
    && nodup fcis && !kept.any (fun e => fcis.contains e.2.fci)

def channelDefineCmd : Cmd :=
  tableCmd 0x0203 (fun p n => n == 1 + 8 * fld p 2 1) channelsFit
    fun p b => { b with channels := (List.range (fld p 2 1)).foldl (fun m i => mput m (fld p 0 2 + i) (channelOf p i)) b.channels }

def execChannelDefine (pk : Packet) (s : State) : Host.Outcome State Fault Refusal := command channelDefineCmd pk s

/-! ## Groups and templates (06 R133, R134, R145) -/

def groupOf (p : Bytes) : GroupDef :=
  { rate := fld p 2 2, wUs := fld p 4 4, policy := fld p 8 1, sids := sidMap p 12
    prods := (List.range (fld p 9 1)).map fun i => fld p (524 + 2 * i) 2 }

def groupRanges (p : Bytes) : Bool :=
  let g := groupOf p
  let n := fld p 9 1
  decide (fld p 0 2 ≤ 1023) && inR g.rate 1 240 && inR g.wUs 1 (min (64000000 / g.rate) 2000000) && decide (g.policy ≤ 1)
    && decide (n ≤ 64) && fld p 10 2 == 0 && g.prods.all (fun t => decide (t ≤ 16383)) && nodup g.prods
    && !(g.sids.isEmpty && g.prods.isEmpty) && (n % 2 == 0 || fld p (524 + 2 * n) 2 == 0)

def groupDefineCmd : Cmd :=
  tableCmd 0x0204 (fun p n => n == 131 + ceilDiv (fld p 9 1) 2) (fun _ p => groupRanges p)
    fun p b => { b with groups := mput b.groups (fld p 0 2) (groupOf p) }

def execGroupDefine (pk : Packet) (s : State) : Host.Outcome State Fault Refusal := command groupDefineCmd pk s

def templateOf (p : Bytes) : Template :=
  { type := fld p 2 1, prio := fld p 3 1, pavset := fld p 4 1, affDepth := if fld p 5 1 = 0 then 4 else fld p 5 1
    gid := fld p 6 2, object := fld p 8 2, tflags := fld p 10 1, wcet := fld p 12 4, stateSize := fld p 16 4
    blk := slice p 24 (fld p 20 2) }

/-- OBJECT's range for each TYPE. -/
def objectOk (t : Template) : Bool := match t.type with
  | 1 => decide (t.object ≤ 255)
  | 2 => decide (t.object ≤ 63)
  | 3 => decide (t.object ≤ 63) || inR t.object 0x100 0x1FF
  | 4 => decide (t.object ≤ 255)
  | 6 => decide (t.object ≤ 1023)
  | _ => t.object == 0

/-- A FILTER block's ranges (05 R110). -/
def filterBlkOk (k : Bytes) : Bool :=
  let n := fciCount k
  inR n 1 32 && k.length == 8 + 16 * n && decide (fld k 0 2 ≤ 4095) && decide (fld k 2 1 ≤ 3) && decide (fld k 3 1 ≤ 3)
    && [0, 10, 12, 15, 20, 25, 30, 50, 60, 100, 120].contains (fld k 4 1) && fld k 6 2 == 0
    && (List.range n).all fun i =>
      let th := fld k (8 + 16 * i + 4) 4
      let o := fciOpts k i
      decide (fciId k i ≤ 8191) && decide (fciSh k i ≤ 16) && decide (o < 8) && (!bit o 0 || fld k 3 1 != 0)
        && (if bit o 1 then decide (th ≤ 8388607) else th == 0) && isZero (slice k (8 + 16 * i + 8) 8)

/-- Every field of TEMPLATE_DEFINE lies in its range. Of a type block's own fields SCHED_LOAD judges the ranges; its reserved ones
must be 0 in the command (00 R9). -/
def templateRanges (p : Bytes) : Bool :=
  let t := templateOf p
  decide (fld p 0 2 ≤ 16383) && inR t.type 1 7 && decide (t.prio ≤ 15) && t.pavset != 0 && decide (fld p 5 1 ≤ 16)
    && (decide (t.gid ≤ 1023) || t.gid == 0xFFFF) && objectOk t && decide (t.tflags < 2) && fld p 11 1 == 0
    && inR t.wcet 500 20000000 && t.stateSize % 64 == 0 && decide (t.stateSize ≤ 262144) && fld p 20 2 % 4 == 0
    && decide (fld p 20 2 ≤ 4000) && fld p 22 2 == 0 && (t.type != 1 || t.blk.isEmpty) && (t.type != 5 || filterBlkOk t.blk)
    && (t.type != 6 || fld t.blk 2 2 == 0)

def templateDefineCmd : Cmd :=
  tableCmd 0x0205 (fun p n => n == 6 + fld p 20 2 / 4) (fun _ p => templateRanges p)
    fun p b => { b with templates := mput b.templates (fld p 0 2) (templateOf p) }

def execTemplateDefine (pk : Packet) (s : State) : Host.Outcome State Fault Refusal := command templateDefineCmd pk s

/-! ## STREAM_STATUS (04 R480) -/

/-- Frames seen on a port of the PRP pair in the last second. -/
def seenLately (s : State) (o : Option Instant) : Bool := match o with
  | some t => decide (now s < t + secU)
  | none => false

/-- The alternate feeds the stream's filter chain. -/
def altInUse (s : State) (sid : Nat) : Bool := match mget s.filters sid with
  | some f => f.useAlt
  | none => false

def streamStatus (s : State) (sid : Nat) : Bytes :=
  match mget (activeBank s).streams sid with
  | none => le 2 sid ++ zeros 58
  | some _ =>
    let r : StreamRun := mgetD s.streams sid {}
    let at_ : Instant := r.lastInst.getD 0
    le 2 sid ++ le 1 (streamStateCode r.state)
      ++ le 1 (b2n (altInUse s sid) + b2n (seenLately s r.prpA) * 2 + b2n (seenLately s r.prpB) * 4)
      ++ le 4 (min r.missRun 0xFFFFFFFF) ++ le 4 (at_ / secU) ++ le 4 (at_ % secU)
      ++ ((List.range 10).map fun i => le 4 (mgetD r.counts i 0)).flatten
      ++ le 1 r.dropout ++ le 1 r.srcSwitch ++ le 2 r.tqBad

def streamStatusCmd : Cmd :=
  { opcode := 0x0206, len := words 1
    field := fun _ p => decide (fld p 0 2 ≤ 4095) && inR (fld p 2 1) 1 64 && fld p 3 1 == 0
      && decide (fld p 0 2 + fld p 2 1 ≤ 4096)
    run := fun s _ p _ => (s, 0, ((List.range (fld p 2 1)).map fun i => streamStatus s (fld p 0 2 + i)).flatten) }

def execStreamStatus (pk : Packet) (s : State) : Host.Outcome State Fault Refusal := command streamStatusCmd pk s

/-! ## Detectors (07 R163, R174-R178, R182) -/

/-- The float32 nearest a bound. -/
def bnd (n : Int) (d : Nat) : Frac := f32Val (f32Of { num := n, den := d })

/-- 0, or a finite float32 in a range with the ends as given. -/
def orRange (v : Nat) (lo hi : Frac) (loIn hiIn : Bool) : Bool :=
  v == 0 || (f32Finite v && (if loIn then fle lo (f32Val v) else flt lo (f32Val v))
    && (if hiIn then fle (f32Val v) hi else flt (f32Val v) hi))

/-- 0, or a finite positive float32. -/
def orPos (v : Nat) : Bool := v == 0 || (f32Finite v && flt (fracOf 0) (f32Val v))

/-- The lower of two thresholds of which 0 disables one; none when both are 0. -/
def lowNonZero (a b : Nat) : Option Frac :=
  if a = 0 ∧ b = 0 then none else some (if a = 0 then f32Val b else if b = 0 then f32Val a else fmin (f32Val a) (f32Val b))

/-- A hysteresis: 0, or positive and below the smallest threshold in use. -/
def hystOk (v a b : Nat) : Bool :=
  v == 0 || (orPos v && (match lowNonZero a b with
    | some m => flt (f32Val v) m
    | none => true))

def above (v a : Nat) : Bool := v == 0 || a == 0 || flt (f32Val a) (f32Val v)

/-- A kernel block of a fixed part and a list of n CIDs, padded to 4 bytes. -/
def cidTail (k : Bytes) (off n : Nat) : Bool :=
  k.length == off + ceilDiv (2 * n) 4 * 4 && (n % 2 == 0 || fld k (off + 2 * n) 2 == 0)

def oscOk (k : Bytes) : Bool :=
  let n := fld k 6 2
  let lo := f32Or (fld k 8 4) (bnd 5 100)
  let za := f32Or (fld k 16 4) (bnd 5 100)
  decide (fld k 0 1 ≤ 8) && decide (fld k 1 1 ≤ 2) && decide (fld k 2 1 ≤ 1) && (fld k 4 2 == 0 || inR (fld k 4 2) 60 1800)
    && inR n 2 256 && orRange (fld k 8 4) (bnd 5 100) (fracOf 4) true false && orRange (fld k 12 4) lo (fracOf 4) false true
    && orRange (fld k 16 4) (fracOf 0) (bnd 3 10) false true && orRange (fld k 20 4) (fracOf 0) za false false
    && orPos (fld k 24 4) && orRange (fld k 28 4) (fracOf 2) (fracOf 100) true true && fld k 34 2 == 0 && cidTail k 36 n

def foscOk (k : Bytes) : Bool :=
  let n := fld k 26 2
  let lo := f32Or (fld k 4 4) (bnd 5 100)
  decide (fld k 0 1 ≤ 1) && (fld k 1 1 == 0 || inR (fld k 1 1) 2 8) && (fld k 2 2 == 0 || inR (fld k 2 2) 10 600)
    && inR n 1 256 && orRange (fld k 4 4) (bnd 5 100) (fracOf 15) true false && orRange (fld k 8 4) lo (fracOf 15) false true
    && orRange (fld k 12 4) (fracOf 2) (fracOf 1000) true true && orPos (fld k 16 4) && orPos (fld k 20 4)
    && decide (fld k 24 1 ≤ 60) && fld k 30 2 == 0 && cidTail k 32 n

/-- D-SSO: the upper bound of F_HI hangs on Fnom and is checked at SCHED_LOAD (07 R161). -/
def ssoOk (k : Bytes) : Bool :=
  let n := fld k 2 2
  let lo := f32Or (fld k 4 4) (fracOf 2)
  let al := f32Or (fld k 12 4) (fracOf 1)
  decide (fld k 0 1 ≤ 4) && inR n 1 64 && orRange (fld k 4 4) (fracOf 2) (fracOf (2 ^ 128)) true true
    && orRange (fld k 8 4) lo (fracOf (2 ^ 128)) false true && orRange (fld k 12 4) (bnd 1 10) (fracOf 50) true true
    && orRange (fld k 16 4) al (fracOf 50) false true && orRange (fld k 20 4) (fracOf 0) al false false && cidTail k 24 n

def islOk (k : Bytes) : Bool :=
  let n := fld k 0 1
  inR n 2 8 && k.length == 12 + 36 * n && decide (fld k 1 1 ≤ 50) && decide (fld k 3 1 ≤ 1)
    && orRange (fld k 4 4) (bnd 1 100) (fracOf 5) true true && orRange (fld k 8 4) (fracOf 1) (fracOf 720) true true
    && (List.range n).all fun a => inR (fld k (12 + 36 * a) 1) 1 8 && fld k (13 + 36 * a) 3 == 0

def angOk (k : Bytes) : Bool :=
  let th := fun o => orRange (fld k o 4) (fracOf 0) (fracOf 180) false false
  k.length == 20 && th 4 && th 8 && !(fld k 4 4 == 0 && fld k 8 4 == 0) && above (fld k 8 4) (fld k 4 4)
    && hystOk (fld k 12 4) (fld k 4 4) (fld k 8 4) && fld k 18 2 == 0

def rocOk (k : Bytes) : Bool :=
  let n := fld k 0 1
  inR n 1 16 && decide (fld k 1 1 ≤ n) && decide (fld k 2 1 ≤ 50) && decide (fld k 3 1 ≤ 2) && orPos (fld k 4 4)
    && orPos (fld k 8 4) && above (fld k 8 4) (fld k 4 4) && hystOk (fld k 12 4) (fld k 4 4) (fld k 8 4)
    && fld k 18 2 == 0 && cidTail k 20 n

def kernelOk (kernel : Nat) (k : Bytes) : Bool := match kernel with
  | 1 => oscOk k
  | 2 => foscOk k
  | 3 => ssoOk k
  | 4 => islOk k
  | 5 => angOk k
  | 6 => rocOk k
  | _ => false

def detOf (p : Bytes) : DetDef :=
  { kernel := fld p 2 1, opts := fld p 3 1, pinLevel := fld p 4 1, oq := fld p 5 1, blindN := fld p 6 1, dgPort := fld p 7 1
    dgAddr := fldBe p 8 16, dgUdp := fld p 24 2, dgVlan := fld p 26 2, dgDscp := fld p 28 1, dgLocker := fld p 29 1
    kblk := slice p 32 (fld p 30 2) }

def detRanges (p : Bytes) : Bool :=
  let d := detOf p
  decide (fld p 0 2 ≤ 255) && decide (d.opts < 8) && decide (d.pinLevel ≤ 3) && lockerOkDef d.oq
    && (!bit d.opts 1 || (decide (d.dgPort ≤ 5) && decide (1 ≤ d.dgUdp) && vlanOkDef d.dgVlan && decide (d.dgDscp < 64)
      && lockerOkDef d.dgLocker))
    && inR (fld p 30 2) 4 1024 && fld p 30 2 % 4 == 0 && kernelOk d.kernel d.kblk

def detDefineCmd : Cmd :=
  tableCmd 0x0401 (fun p n => n == 8 + fld p 30 2 / 4) (fun _ p => detRanges p)
    fun p b => { b with dets := mput b.dets (fld p 0 2) (detOf p) }

def execDetDefine (pk : Packet) (s : State) : Host.Outcome State Fault Refusal := command detDefineCmd pk s

/-! ## Captures (10 R259) -/

def capOf (p : Bytes) : CapDef :=
  { cls := fld p 2 1, oq := fld p 3 1, e := fld p 4 1, opts := fld p 5 1, sign := fld p 6 1, lateOq := fld p 7 1
    pre := fld p 8 4, post := fld p 12 4, hold := fld p 16 4, decim := fld p 20 2, blockN := fld p 22 2, phase := fld p 24 4
    sealS := fld p 28 2, wasRise := fld p 32 2, wasFall := fld p 34 2, trig := fld p 36 1
    dets := (List.range (fld p 37 1)).map fun i => (fld p (40 + 2 * i) 1, fld p (41 + 2 * i) 1)
    schs := (List.range (fld p 38 1)).map fun i => (fld p (56 + 4 * i) 1, fld p (58 + 4 * i) 2)
    sids := sidMap p 72 }

/-- The reserved bits of a phase request (03 R64). -/
def phaseWordOk (w : Nat) : Bool := bits w 23 20 == 0 && bits w 31 25 == 0

def capRanges (p : Bytes) : Bool :=
  let c := capOf p
  let w := c.cls == 1
  let hold := bits c.hold 30 0
  decide (fld p 0 2 ≤ 255) && inR c.cls 1 2 && decide (c.oq ≤ 63) && decide (c.opts < 4) && (w || !bit c.opts 1)
    && (lockerOkDef c.sign || c.sign == 0xFE) && (if w then c.lateOq == 0xFF else lockerOkDef c.lateOq)
    && (if w then decide (c.pre ≤ 144000) && inR c.post 1 144000 && decide (c.pre + c.post ≤ 144000) else c.pre == 0 && c.post == 0)
    && decide (hold ≤ if bit c.hold 31 then 65535 else 3600000)
    && (if w then c.decim == 0 && c.blockN == 0 && c.sealS == 0
        else inR c.decim 1 240 && decide (c.blockN ≤ 4096) && decide (c.sealS ≤ 60))
    && phaseWordOk c.phase && fld p 30 2 == 0 && decide (c.trig < 4) && decide (fld p 37 1 ≤ 8) && decide (fld p 38 1 ≤ 4)
    && fld p 39 1 == 0 && c.dets.all (fun e => inR e.2 1 3) && isZero (slice p (40 + 2 * fld p 37 1) (16 - 2 * fld p 37 1))
    && (List.range (fld p 38 1)).all (fun i => decide (fld p (56 + 4 * i) 1 ≤ 63) && fld p (57 + 4 * i) 1 == 0)
    && isZero (slice p (56 + 4 * fld p 38 1) (16 - 4 * fld p 38 1))

def capDefineCmd : Cmd :=
  tableCmd 0x0701 (words 146) (fun _ p => capRanges p) fun p b => { b with caps := mput b.caps (fld p 0 2) (capOf p) }

def execCapDefine (pk : Packet) (s : State) : Host.Outcome State Fault Refusal := command capDefineCmd pk s

/-! ## Outputs (12 R332) -/

/-- The NBLK block entries at an offset and the offset behind them. -/
def outBlocks (p : Bytes) : Nat → Nat → List OutBlock × Nat
  | 0, off => ([], off)
  | n + 1, off =>
    let k := fld p (off + 4) 1
    let b : OutBlock :=
      { sid := fld p off 2, inblk := fld p (off + 2) 1, format := fld p (off + 3) 1
        entries := (List.range k).map fun i =>
          let o := off + 8 + 8 * i
          { cid := fld p o 2, field := fld p (o + 2) 1, eflags := fld p (o + 3) 1, scale := fld p (o + 4) 4 } }
    let (bs, e) := outBlocks p n (off + 8 + 8 * k)
    (b :: bs, e)

/-- The reserved bytes of the block entries. -/
def outBlkRes (p : Bytes) : Nat → Nat → Bool
  | 0, _ => true
  | n + 1, off => fld p (off + 5) 3 == 0 && outBlkRes p n (off + 8 + 8 * fld p (off + 4) 1)

def outOf (p : Bytes) : OutDef :=
  { port := fld p 2 1, flags := fld p 3 1, dscp := fld p 4 1, locker := fld p 5 1, vlan := fld p 6 2, dstAddr := fldBe p 8 16
    dstUdp := fld p 24 2, srcUdp := fld p 26 2, idcode := fld p 28 2, rtMin := fld p 34 2, rtMax := fld p 36 2
    tbConf := fld p 40 4, goid := fldBe p 44 32, gocbref := fldBe p 76 64, datset := fldBe p 140 64
    blocks := (outBlocks p (fld p 30 2) 204).1
    members := (List.range (fld p 32 2)).map fun i =>
      { cid := fld p (204 + 8 * i) 2, type := fld p (206 + 8 * i) 1, msrc := fld p (207 + 8 * i) 1 } }

/-- PARAM_LEN covers the entries that the counts give. -/
def outLen (p : Bytes) (n : Nat) : Bool :=
  4 * n == (if bit (fld p 0 2) 8 then 204 + 8 * fld p 32 2 else (outBlocks p (min (fld p 30 2) 512) 204).2)

def outRanges (p : Bytes) : Bool :=
  let o := outOf p
  let g := bit (fld p 0 2) 8
  let lo := if o.rtMin = 0 then 4 else o.rtMin
  decide (fld p 0 2 < 512) && (g || decide (fld p 0 2 ≤ 63)) && decide (o.port ≤ 5)
    && (!bit o.flags 1 || o.port == 2 || o.port == 4) && decide (o.flags < 8) && (!g || !bit o.flags 0) && decide (o.dscp < 64)
    && (if g then lockerOkDef o.locker else o.locker == 0xFF) && vlanOkDef o.vlan
    && (if g then o.dstUdp == 102 else decide (1 ≤ o.dstUdp)) && decide (1 ≤ o.srcUdp)
    && (if g then fld p 30 2 == 0 && inR (fld p 32 2) 1 128 else inR (fld p 30 2) 1 480 && fld p 32 2 == 0)
    && (if g then decide (o.rtMin ≤ 1000) && (o.rtMax == 0 || inR o.rtMax lo 60000) else o.rtMin == 0 && o.rtMax == 0)
    && fld p 38 2 == 0 && (g || inR o.tbConf 1 16777215) && outBlkRes p (fld p 30 2) 204
    && o.blocks.all (fun b => decide (b.sid ≤ 4095) && decide (b.format < 16) && decide (b.entries.length ≤ 64)
      && b.entries.all (fun e => decide (e.field ≤ 4) && decide (e.eflags < 2) && (e.eflags == 0 || e.field == 2)))
    && o.members.all (fun m => inR m.type 1 10 && decide (m.msrc ≤ 1))
    && (List.range (fld p 32 2)).all (fun i => fld p (208 + 8 * i) 4 == 0)

def outDefineCmd : Cmd :=
  tableCmd 0x0D02 outLen (fun _ p => outRanges p) fun p b => { b with outs := mput b.outs (fld p 0 2) (outOf p) }

def execOutDefine (pk : Packet) (s : State) : Host.Outcome State Fault Refusal := command outDefineCmd pk s

end Sys2Proof.Machine
end

