-- ==== Sys2Proof/Machine/LoadCheck.lean ====
section
/-! DEFINITION. Schedule and scheme images: their layouts and the checks of SCHED_LOAD (03 R67-R73; 04 R107; 05 R109, R111; 06
R132, R135, R142, R146, R147; 07 R161, R162; 08 R191-R193; 09 R223, R253; 10 R260; 11 R294; 12 R333; 14 R383). -/

namespace Sys2Proof.Machine

/-! ## Layout of a schedule image (03 R67, R68) -/

def mapEntryOf (d : Bytes) (o : Nat) : MapEntry :=
  { kind := fld d o 1, index := fld d (o + 2) 2, base := fld d (o + 4) 4, length := fld d (o + 8) 4 }

def entryOf (d : Bytes) (o : Nat) : SchedEntry :=
  { q := fld d o 4, a := fld d (o + 4) 4, m := fld d (o + 8) 4, n := fld d (o + 12) 2, action := fld d (o + 14) 1
    flags := fld d (o + 15) 1, target := fld d (o + 16) 4, arg := fld d (o + 20) 4 }

def schedOf (d : Bytes) : SchedImg :=
  { fnom := fld d 6 1, voicePav := fld d 7 1, imageId := fld d 8 8, powerMw := fld d 16 4, refbusCid := fld d 24 4
    ssRate := fld d 28 4, cuRate := fld d 32 4, voiceUnits := fld d 36 2
    omap := (List.range (fld d 44 4)).map fun i => mapEntryOf d (fld d 40 4 + 16 * i)
    entries := (List.range (fld d 20 4)).map fun i => entryOf d (fld d 48 4 + 24 * i) }

/-- The trailer is the CRC-32C of every byte before it. -/
def crcOk (d : Bytes) : Bool := fld d (d.length - 4) 4 == crc32c (d.take (d.length - 4))

/-- MAGIC, FORMAT, CRC, offsets, ranges and reserved fields of the header and the map (03 R67, R73). -/
def schedForm (d : Bytes) : Bool :=
  let end_ := d.length - 4
  let nm := fld d 44 4
  let om := fld d 40 4
  let ne := fld d 20 4
  let oe := fld d 48 4
  decide (68 ≤ d.length) && fld d 0 4 == 0x4B535156 && fld d 4 2 == 1 && crcOk d && (fld d 6 1 == 50 || fld d 6 1 == 60)
    && decide (fld d 7 1 ≤ 4) && inR ne 1 16384 && fld d 38 2 == 0 && isZero (slice d 52 12)
    && decide (64 ≤ oe) && decide (oe + 24 * ne ≤ end_)
    && (nm == 0 || (decide (64 ≤ om) && decide (om + 16 * nm ≤ end_) && (decide (om + 16 * nm ≤ oe) || decide (oe + 24 * ne ≤ om))))
    && (List.range nm).all fun i =>
      inR (fld d (om + 16 * i) 1) 1 4 && fld d (om + 16 * i + 1) 1 == 0 && fld d (om + 16 * i + 12) 4 == 0

/-- An entry's own rules (03 R68). -/
def entryOk (e : SchedEntry) : Bool :=
  inR e.q 1 4000000000 && decide (e.a < e.q) && decide (1 ≤ e.m) && decide (1 ≤ e.n) && decide (e.a + (e.n - 1) * e.m < e.q)
    && inR e.action 1 7 && decide (e.flags ≤ 1) && (e.flags == 0 || e.action == 6)
    && (if e.flags = 1 then phaseWordOk e.arg else e.arg == 0)

/-! ## What an image issues -/

/-- The offsets of an entry's issues within a second. -/
def offsets (e : SchedEntry) : List Instant := (List.range e.n).map (issueAt e 0)

/-- The offsets at which an action is issued for a target. -/
def issuesOf (i : SchedImg) (action target : Nat) : List Instant :=
  ((i.entries.filter fun e => e.action == action && e.target == target).map offsets).flatten

/-- Exactly one issue in [j / rate + lag, (j + 1) / rate + lag) for each j of the second, taken modulo 1 s; lag = ln / ld. -/
def oneEach (offs : List Instant) (rate ln ld : Nat) : Bool :=
  let at_ := fun j => (j * ld + ln * rate) * secU / (rate * ld)
  let k := at_ 0 / secU * secU
  decide (offs.length = rate) && (List.range rate).all fun j =>
    let in_ := fun x => decide (at_ j - k ≤ x) && decide (x < at_ (j + 1) - k)
    decide ((offs.filter fun x => in_ x || in_ (x + secU)).length = 1)

/-- At most 256 issues fall on one instant (03 R70). -/
def notCrowded (i : SchedImg) : Bool :=
  let all := (i.entries.map offsets).flatten
  all.all fun x => decide ((all.filter (· == x)).length ≤ 256)

/-! ## The bank under an image -/

def smem (b : Bank) (g : GroupDef) (sid : Nat) : Bool := g.sids.contains sid && mhas b.streams sid

/-- A member stream's reporting rate (06 R135); 0 for an SV stream without a FILTER template. -/
def memberRate (b : Bank) (fn sid : Nat) : Nat := match mget b.streams sid with
  | none => 0
  | some d =>
    if isSv d.type then
      match filterTmpl b sid with
      | some (_, t) => if fld t.blk 4 1 = 0 then fn else fld t.blk 4 1
      | none => 0
    else d.rate

/-- A channel with ALIGN set of a member of a group. -/
def memberChan (b : Bank) (g : GroupDef) (cid : Nat) : Option ChannelDef := match mget b.channels cid with
  | some c => if chanAlign c && g.sids.contains c.sid then some c else none
  | none => none

/-- The templates that a group releases. -/
def tmplsOf (b : Bank) (gid : Nat) : List (Nat × Template) := b.templates.filter fun e => e.2.gid == gid

/-- Templates of a type for an object. -/
def tmplsFor (b : Bank) (type object : Nat) : List (Nat × Template) :=
  b.templates.filter fun e => e.2.type == type && e.2.object == object

def isProducer (t : Template) : Bool := bit t.tflags 0

/-- The FCI records of a bank's FILTER templates: SID, FCI, OPTS. -/
def fciRecords (b : Bank) : List (Nat × Nat × Nat) :=
  (b.templates.map fun e => if e.2.type = 5 then
    (List.range (fciCount e.2.blk)).map fun i => (fld e.2.blk 0 2, fciId e.2.blk i, fciOpts e.2.blk i) else []).flatten

/-! ## Checks that end in BAD_FIELD -/

/-- Every TARGET is defined (03 R69, R73). -/
def targetOk (b : Bank) (e : SchedEntry) : Bool := match e.action with
  | 1 => mhas b.groups e.target
  | 2 => match mget b.templates e.target with
    | some t => t.type == 5
    | none => false
  | 3 => !(tmplsFor b 6 e.target).isEmpty
  | 4 => mhas b.schemes e.target
  | 5 => e.target == 0
  | 6 => mhas b.caps e.target
  | _ => decide (e.target < 512) && mhas b.outs e.target

def refbusOk (b : Bank) (i : SchedImg) : Bool :=
  i.refbusCid == 0xFFFFFFFF || (match mget b.channels i.refbusCid with
    | some c => c.kind == 5 && c.fci != 0xFFFF
    | none => false)

/-- Pavilions 8 - v to 7 (01 R18). -/
def voiceMask (v : Nat) : Nat := (2 ^ v - 1) * 2 ^ (8 - v)

/-- Pavilion sets (01 R19) and VOICE_UNITS. -/
def pavsOk (b : Bank) (i : SchedImg) : Bool :=
  decide (i.voiceUnits ≤ 512 * i.voicePav) && b.templates.all fun e =>
    if e.2.type = 6 then (e.2.pavset &&& voiceMask i.voicePav) == e.2.pavset else (e.2.pavset &&& voiceMask i.voicePav) == 0

/-- Map entries: no overlap, and the INDEX and LENGTH rules (03 R73; 09 R253; 11 R294). -/
def mapOk : List MapEntry → Bool
  | [] => true
  | e :: es =>
    (e.kind != 1 || (decide (e.index ≤ 63) && decide (e.length ≤ 16383)))
      && (e.kind != 2 || (decide (e.index ≤ 15) && decide (e.length ≤ 16383))) && (e.kind != 4 || decide (e.index ≤ 1023))
      && es.all (fun x => (e.kind == 3 || !(x.kind == e.kind && x.index == e.index))
        && (e.length == 0 || x.length == 0 || decide (e.base + e.length ≤ x.base) || decide (x.base + x.length ≤ e.base)))
      && mapOk es

/-- How each TYPE is released (06 R146). -/
def templatesOk (b : Bank) : Bool :=
  b.templates.all fun e =>
    let t := e.2
    (if decide (t.type ≤ 4) then mhas b.groups t.gid else t.gid == 0xFFFF) && (!isProducer t || decide (t.type ≤ 2))

/-- SS_RATE and CU_RATE cover the bank (04 R107; 05 R128). -/
def ratesOk (b : Bank) (i : SchedImg) : Bool :=
  let ss := lsum b.streams fun e => if isSv e.2.type && !bit e.2.opts 3 then e.2.rate else 0
  let cu := lsum b.channels fun e => match mget b.streams e.2.sid with
    | some d => if chanAlign e.2 && !isSv d.type then d.rate else 0
    | none => 0
  let fc := lsum b.templates fun e => if e.2.type = 5 then
      let w := fld e.2.blk 3 1
      lsum (List.range (fciCount e.2.blk)) fun k => (if fld e.2.blk 4 1 = 0 then i.fnom else fld e.2.blk 4 1)
        + (if bit (fciOpts e.2.blk k) 0 then presetW w / 16 else 0)
    else 0
  decide (ss ≤ i.ssRate) && decide (cu + fc ≤ i.cuRate)

/-- RATE, Fnom, WPRESET and R_OUT combine as 05 R109 has it. -/
def combOk (rate fn wp ro : Nat) : Bool :=
  ([(4000, 50), (12800, 50)].contains (rate, fn) && wp == 0
    || [(4800, 50), (4800, 60), (14400, 50), (14400, 60)].contains (rate, fn))
    && (if fn = 50 then [10, 25, 50, 100].contains ro else [10, 12, 15, 20, 30, 60, 120].contains ro)

/-- FILTER templates (05 R111). DESIGN CHOICE: the table of RATE and Fnom (05 R109) holds for the streams that a FILTER template
names; one without a template reaches no filter chain. -/
def filtersOk (b : Bank) (i : SchedImg) : Bool :=
  let recs := fciRecords b
  nodup (recs.map (·.2.1))
    && b.templates.all (fun e => e.2.type != 5 || (match mget b.streams (fld e.2.blk 0 2) with
      | none => false
      | some d =>
        let sid := fld e.2.blk 0 2
        let p := fcPar i.fnom d.rate e.2.blk
        isSv d.type && !bit d.opts 3 && combOk d.rate i.fnom (fld e.2.blk 3 1) p.rOut
          && decide ((b.templates.filter fun x => x.2.type == 5 && fld x.2.blk 0 2 == sid).length = 1)
          && (List.range (fciCount e.2.blk)).all (fun k => (chansOf b sid).any fun c => c.2.fci == fciId e.2.blk k)
          && oneEach (issuesOf i 2 e.1) p.rOut p.lam d.rate))
    && b.channels.all (fun e => e.2.kind != 5 || e.2.fci == 0xFFFF || recs.any fun r => r.1 == e.2.sid && r.2.1 == e.2.fci)

/-- The producer template that a TID names (06 R135). -/
def producerOf (b : Bank) (tid : Nat) : Option Template := match mget b.templates tid with
  | some t => if decide (t.type ≤ 2) && isProducer t then some t else none
  | none => none

/-- A chain of n more groups leads into a group through producers. -/
def chainInto (b : Bank) : Nat → Nat → Bool
  | 0, _ => true
  | n + 1, gid => match mget b.groups gid with
    | none => false
    | some g => g.prods.any fun t => match producerOf b t with
      | some p => chainInto b n p.gid
      | none => false

/-- The instants of the second at which a group's DEADLINE must be issued (03 R62). -/
def deadlineOffs (g : GroupDef) : List Instant :=
  sortBy id ((List.range g.rate).map fun j => (j * 1000000 + g.wUs * g.rate) * secU / (g.rate * 1000000) % secU)

/-- Groups (06 R135). A group reached from itself lies in chains of any length. -/
def groupsOk (b : Bank) (i : SchedImg) : Bool :=
  b.groups.all fun e =>
    let g := e.2
    g.sids.all (fun s => match mget b.streams s with
        | some d => !bit d.opts 3 && memberRate b i.fnom s == g.rate
        | none => false)
      && g.prods.all (fun t => match producerOf b t with
        | none => false
        | some p => match mget b.groups p.gid with
          | none => false
          | some h => h.rate == g.rate && decide (h.wUs * i.fnom + 1000000 ≤ g.wUs * i.fnom))
      && !chainInto b 8 e.1 && decide ((tmplsOf b e.1).length ≤ 64)
      && sortBy id (issuesOf i 1 e.1) == deadlineOffs g

/-- The CIDs of a kernel block with the use of each: 0 phasor, 1 frequency, 2 SV with a waveform. -/
def kernelCids (d : DetDef) : List (Nat × Nat) :=
  let k := d.kblk
  let list := fun (off n use : Nat) => (List.range n).map fun i => (cidAt k off i, use)
  match d.kernel with
  | 1 => (if fld k 2 1 = 0 then [(fld k 32 2, 0)] else []) ++ list 36 (fld k 6 2) (fld k 2 1)
  | 2 => (if fld k 0 1 = 0 then [(fld k 28 2, 0)] else []) ++ list 32 (fld k 26 2) (fld k 0 1)
  | 3 => list 24 (fld k 2 2) 2
  | 4 => ((List.range (fld k 0 1)).map fun a => ((List.range (fld k (12 + 36 * a) 1)).map fun r =>
      [(fld k (16 + 36 * a + 4 * r) 2, 0), (fld k (18 + 36 * a + 4 * r) 2, 1)]).flatten).flatten
  | 5 => [(fld k 0 2, 0), (fld k 2 2, 0)]
  | _ => list 20 (fld k 0 1) 1

/-- The group's RATE suits the kernel and its F_HI, resolved (07 R160, R161). -/
def kernelRate (d : DetDef) (rate fn : Nat) : Bool :=
  let lo := f32Val (bandLo d)
  let hi := f32Val (bandHi d rate fn)
  let lim : Frac := { num := 4 * rate, den := 10 }
  match d.kernel with
  | 1 => inR rate 10 240 && flt hi lim && flt lo hi
  | 2 => inR rate 10 240 && flt hi lim && flt lo hi
  | 3 => (rate == fn || rate == 2 * fn) && fle hi (fracOf (2 * fn - 1 : Nat)) && flt lo hi
  | _ => rate == fn || rate == 2 * fn

def kindFits (b : Bank) (use : Nat) (c : ChannelDef) : Bool := match use with
  | 0 => c.kind == 0 || c.kind == 5
  | 1 => c.kind == 1 || c.kind == 5
  | _ => c.kind == 5 && (fciRecords b).any fun r => r.1 == c.sid && r.2.1 == c.fci && bit r.2.2 0

/-- Detectors (07 R161). -/
def detsOk (b : Bank) (i : SchedImg) : Bool :=
  b.dets.all (fun e => decide ((tmplsFor b 1 e.1).length = 1))
    && b.templates.all fun e => e.2.type != 1 || (match mget b.dets e.2.object, mget b.groups e.2.gid with
      | some d, some g => kernelRate d g.rate i.fnom && (kernelCids d).all fun c => match memberChan b g c.1 with
        | some ch => kindFits b c.2 ch
        | none => false
      | _, _ => false)

/-! ## Schemes (08 R193, R197-R204) -/

def varType (img : SchemeImg) (v : Nat) : Nat := match img.vars[v]? with
  | some d => d.type
  | none => 0

/-- An input binding names a source that there is (08 R197). -/
def inputOk (b : Bank) (g : GroupDef) (img : SchemeImg) (x : InBind) : Bool :=
  let prod := fun (ty : Nat) => g.prods.contains x.ref && (match producerOf b x.ref with
    | some t => t.type == ty
    | none => false)
  match x.src with
  | 1 => match memberChan b g x.ref with
    | some c => if c.kind = 0 ∨ c.kind = 5 then decide (x.sel ≤ 3) else x.sel == 0
    | none => false
  | 2 => x.sel == 0 && (memberChan b g x.ref).isSome
  | 3 => decide (x.sel ≤ 5) && prod 1
  | 4 => x.sel == 0 && decide (x.ref ≤ 15)
  | 5 => x.sel == 0 && decide (x.ref < img.stations.length)
  | 6 => x.sel == 0 && decide (x.ref ≤ 15)
  | 7 => x.sel == 0 && prod 2 && (match mget b.templates x.ref with
    | some t => match mget b.schemes t.object with
      | some e => decide (x.ofs + typeSize (varType img x.var) ≤ e.exportLen)
      | none => false
    | none => false)
  | _ => false

/-- An output binding names a target that there is (08 R202-R204). -/
def outputOk (b : Bank) (img : SchemeImg) (o : OutBind) : Bool :=
  match o.kind with
  | 1 => match img.stations[o.station]? with
    | some st => st.2 != 0xFFFF && mhas b.outs (0x100 + st.2)
    | none => false
  | 2 => decide (o.index ≤ 15) && varType img o.var == 1
  | 3 => decide (o.index ≤ 15) && varType img o.var == 10
  | 4 => varType img o.var == 1 && inR o.arg 1 6 && (match mget b.streams o.index with
    | some d => d.type == 1
    | none => false)
  | 5 => varType img o.var == 1 && decide (o.index ≤ 63)
  | _ => false

/-- The dataset of a station agrees with its publication's members (08 R202; 12 R333). -/
def stationOk (b : Bank) (img : SchemeImg) (j : Nat) : Bool :=
  let os := sortBy (·.index) (img.outputs.filter fun o => o.kind == 1 && o.station == j)
  os.isEmpty || (os.map (·.index) == List.range os.length && (match img.stations[j]? with
    | some st => match mget b.outs (0x100 + st.2) with
      | some d => d.members.map (·.type) == os.map fun o => varType img o.var
      | none => false
    | none => false))

/-- What schemes may not share: WAS_OUT pins, which bindings of KIND 2 and 3 and of SRC 6 name, publications, streams for commands. -/
def schemeClaims (img : SchemeImg) : List Nat :=
  ((img.outputs.filter (fun o => o.kind == 2 || o.kind == 3)).map (·.index)
      ++ (img.inputs.filter (·.src == 6)).map (·.ref)).dedup
    ++ ((img.stations.filter (·.2 != 0xFFFF)).map fun e => 0x10000 + e.2).dedup
    ++ ((img.outputs.filter (·.kind == 4)).map fun o => 0x20000 + o.index).dedup

/-- The CYCLE entry of a scheme (08 R193). -/
def cycleOk (i : SchedImg) (sch k : Nat) : Bool :=
  match i.entries.filter fun e => e.action == 4 && e.target == sch with
  | [e] => e.q == i.fnom && e.m == k && e.n * k == i.fnom && decide (e.a < k)
  | _ => false

def schemesOk (b : Bank) (i : SchedImg) : Bool :=
  b.schemes.all (fun e => decide (1 ≤ (tmplsFor b 2 e.1).length) && cycleOk i e.1 e.2.cycleK && e.2.fnom == i.fnom
      && (List.range e.2.stations.length).all (stationOk b e.2)
      && e.2.stations.all (fun st => st.1 == 0xFFFF || mhas b.streams st.1) && e.2.outputs.all (outputOk b e.2))
    && b.templates.all (fun e => e.2.type != 2 || (match mget b.schemes e.2.object, mget b.groups e.2.gid with
      | some img, some g => e.2.prio == img.prio && e.2.wcet == img.wcet && e.2.stateSize == img.stateSize && e.2.blk.isEmpty
          && isProducer e.2 == bit img.flags 2 && (g.rate == i.fnom || g.rate == 2 * i.fnom)
          && img.inputs.all (inputOk b g img)
      | _, _ => false))
    && nodup ((b.schemes.map fun e => schemeClaims e.2).flatten)
    && decide (lsum b.schemes (fun e => e.2.stateSize) ≤ 8388608)

/-! ## Voice, captures, outputs, Castling -/

/-- A call-progress tone definition (09 R249). -/
def toneOk (t : Bytes) : Bool :=
  inR (fld t 0 2) 300 3400 && (fld t 2 2 == 0 || inR (fld t 2 2) 300 3400) && inR (fld t 4 1) 10 45 && decide (fld t 5 1 ≤ 12)
    && inR (fld t 6 1) 5 50 && inR (fld t 7 1) 1 4 && decide (1 ≤ fld t 8 2)
    && (List.range 8).all fun k => decide (fld t (8 + 2 * k) 2 ≤ 1000)

def voiceBlkOk (k : Bytes) : Bool :=
  inR (fld k 0 1) 2 6 && decide (fld k 1 1 ≤ 16) && k.length == 4 + 24 * fld k 1 1 && fld k 2 2 == 0
    && (List.range (fld k 1 1)).all fun i => toneOk (slice k (4 + 24 * i) 24)

/-- VOICE templates and PLAYOUT entries (09 R223). -/
def voiceOk (b : Bank) (i : SchedImg) : Bool :=
  let play := i.entries.filter (·.action == 3)
  play.all (fun e => decide ((tmplsFor b 6 e.target).length = 1) && decide ((play.filter (·.target == e.target)).length = 1) && [e.q, 2 * e.q, 3 * e.q].contains (100 * e.m))
    && b.templates.all fun e => e.2.type != 6 || (voiceBlkOk e.2.blk && play.any (fun p => p.target == e.2.object)
      && decide ((tmplsFor b 6 e.2.object).length = 1) && decide (((List.range 8).filter (bit e.2.pavset)).length = 1))

/-- A class W definition (10 R260). -/
def capWOk (b : Bank) (i : SchedImg) (cap : Nat) (c : CapDef) : Bool :=
  inR c.sids.length 1 16 && (tmplsFor b 4 cap).isEmpty && c.sids.all fun sid => match mget b.streams sid with
    | some d => isSv d.type
        && b.caps.all (fun e => e.1 == cap || e.2.cls != 1 || !e.2.sids.contains sid)
        && (match i.omap.find? fun m => m.kind == 3 && m.index == sid with
          | some m => decide (8 * d.nch * (c.pre + c.post + d.rate / 4) ≤ m.length * 65536)
          | none => false)
    | none => false

/-- A class P definition (10 R260). -/
def capPOk (b : Bank) (cap : Nat) (c : CapDef) : Bool :=
  !bit c.opts 1 && (match tmplsFor b 4 cap with
    | [(_, t)] => t.blk.isEmpty && (match mget b.groups t.gid with
      | some g => c.sids.all g.sids.contains && g.rate % c.decim == 0
      | none => false)
    | _ => false)

def capsOk (b : Bank) (i : SchedImg) : Bool :=
  b.caps.all fun e => (if e.2.cls = 1 then capWOk b i e.1 e.2 else capPOk b e.1 e.2)
    && e.2.dets.all (fun d => mhas b.dets d.1) && e.2.schs.all (fun x => mhas b.schemes x.1)

def f32Pos (v : Nat) : Bool := f32Lt 0 v

/-- A block with NCID 0: its FREQ and DFREQ, and AQ32's full scale (12 R333). -/
def autoBlockOk (b : Bank) (aq : Bool) (k : OutBlock) : Bool :=
  match mget b.streams k.sid with
  | none => false
  | some d =>
    let sv := isSv d.type
    let cs := (chansOf b k.sid).filter fun c => chanAlign c.2 && (sv || c.2.block == k.inblk)
    let n := fun kind => (cs.filter fun c => c.2.kind == kind).length
    (!aq || cs.all fun c => !(c.2.kind == 0 || c.2.kind == 5) || f32Pos c.2.nominal)
      && (if sv then decide (1 ≤ n 5) else n 1 == 1 && decide (n 2 ≤ 1))

def sortedNat : List Nat → Bool
  | [] => true
  | [_] => true
  | a :: b :: l => decide (a ≤ b) && sortedNat (b :: l)

/-- A block entry (12 R333). -/
def outBlockOk (b : Bank) (g : GroupDef) (aq : Bool) (k : OutBlock) : Bool :=
  smem b g k.sid &&
  if k.entries.isEmpty then autoBlockOk b aq k
  else
    let fs := k.entries.map (·.field)
    sortedNat fs && decide ((fs.filter (· == 1)).length = 1) && decide ((fs.filter (· == 2)).length ≤ 1)
      && k.entries.all fun e => (e.eflags == 1 || (memberChan b g e.cid).isSome)
        && (!aq || e.field != 0 || f32Pos e.scale)

/-- PUBLISH gives one issue for each instance, between its deadline and the next (12 R333). -/
def publishOk (i : SchedImg) (out : Nat) (g : GroupDef) : Bool :=
  let offs := issuesOf i 7 out
  offs.isEmpty || oneEach offs g.rate g.wUs 1000000

/-- A publication is fed by a scheme's station. -/
def schemeFed (b : Bank) (n : Nat) : Bool := b.schemes.any fun e => e.2.stations.any fun st => st.2 == n

/-- Ports on which two outputs' commands could meet: a PRP pair counts as one. -/
def portClass (p : Nat) : Nat := if p = 3 then 2 else if p = 5 then 4 else p

def outputsOk (b : Bank) (i : SchedImg) : Bool :=
  b.outs.all (fun e =>
      let ts := tmplsFor b 3 e.1
      if e.1 < 0x100 then
        (match ts with
          | [(_, t)] => t.blk.isEmpty && (match mget b.groups t.gid with
            | some g => e.2.blocks.all (outBlockOk b g (bit e.2.flags 0)) && publishOk i e.1 g
            | none => false)
          | _ => false)
          && b.outs.all fun x => x.1 == e.1 || decide (0x100 ≤ x.1)
            || !(x.2.idcode == e.2.idcode && x.2.srcUdp == e.2.srcUdp && portClass x.2.port == portClass e.2.port)
      else
        let fed := schemeFed b (e.1 - 0x100)
        if fed then ts.isEmpty && (issuesOf i 7 e.1).isEmpty && e.2.members.all (·.msrc == 1)
        else match ts with
          | [(_, t)] => t.blk.isEmpty && (match mget b.groups t.gid with
            | some g => publishOk i e.1 g && e.2.members.all (fun m => m.msrc == 0 && (memberChan b g m.cid).isSome)
            | none => false)
          | _ => false)
    && b.templates.all fun e => e.2.type != 3 || mhas b.outs e.2.object

/-- Castling's COPY entries and template (14 R383). -/
def copyOk (b : Bank) (i : SchedImg) : Bool :=
  !(i.entries.any (·.action == 5)) ||
    ((match b.templates.filter fun e => e.2.type == 7 with
      | [(_, t)] => t.blk.length == 8 && inR (fld t.blk 0 4) 65536 25165824 && decide (fld t.blk 4 4 ≤ 10000)
      | _ => false)
      && sortBy id (issuesOf i 5 0) == (List.range i.fnom).map fun k => k * secU / i.fnom)

/-- Every check of SCHED_LOAD that ends in BAD_FIELD. -/
def schedFields (b : Bank) (d : Bytes) : Bool :=
  schedForm d &&
  let i := schedOf d
  let b := { b with sched := some i }
  i.entries.all entryOk && i.entries.all (targetOk b) && refbusOk b i && notCrowded i && pavsOk b i && mapOk i.omap
    && templatesOk b && ratesOk b i && filtersOk b i && groupsOk b i && detsOk b i && schemesOk b i && voiceOk b i && capsOk b i
    && outputsOk b i && copyOk b i

/-! ## Checks that end in NO_SPACE -/

/-- The cell demand of a bank (06 R132). -/
def cellDemand (b : Bank) (fn : Nat) : Nat :=
  let w := fun (mem : GroupDef → Bool) => lmax (b.groups.filter fun e => mem e.2) fun e => e.2.wUs
  let sids := lsum b.streams fun e =>
    if bit e.2.opts 3 then 0
    else
      let gs := b.groups.filter fun g => g.2.sids.contains e.1
      if gs.isEmpty then 3
      else ceilDiv (w (fun g => g.sids.contains e.1) * memberRate b fn e.1) 1000000 + 2
  let tids := lsum b.templates fun e =>
    let gs := b.groups.filter fun g => g.2.prods.contains e.1
    if gs.isEmpty then 0
    else
      let r := match mget b.groups e.2.gid with
        | some g => g.rate
        | none => 0
      ceilDiv (w (fun g => g.prods.contains e.1) * r) 1000000 + 2
  sids + tids

/-- Entries of the hold table (06 R142). -/
def holdDemand (b : Bank) : Nat :=
  lsum b.groups fun g => lsum (groupChans b g.2) fun c => if c.2.kind = 5 then 2 else 1

/-- The pavilion of a template's home (06 R147). -/
def homePav (t : Template) : Nat := ((List.range 8).find? (bit t.pavset)).getD 0

/-- Bytes of the history area that a detector needs (07 R162). -/
def historyOf (d : DetDef) (rate : Nat) : Nat := match d.kernel with
  | 1 => 2 * min 10 rate * winS d * fld d.kblk 6 2
  | 2 => 2 * min 40 rate * winS d * fld d.kblk 26 2
  | _ => 0

def homesOk (b : Bank) : Bool :=
  (List.range 8).all fun p =>
    let ts := b.templates.filter fun e => homePav e.2 == p
    decide (lsum ts (fun e => e.2.stateSize) ≤ 3145728)
      && decide (lsum ts (fun e => if e.2.type = 1 then (match mget b.dets e.2.object, mget b.groups e.2.gid with
        | some d, some g => historyOf d g.rate
        | _, _ => 0) else 0) ≤ 786432)

def spaceOk (b : Bank) (i : SchedImg) : Bool :=
  decide (i.ssRate ≤ 4915200) && decide (i.cuRate ≤ 16000000) && decide (i.voiceUnits ≤ 2048)
    && i.omap.all (fun m => decide (m.base + m.length ≤ 507904)) && decide (cellDemand b i.fnom ≤ Config.maxCells)
    && decide (holdDemand b ≤ 262144) && homesOk b && decide (svStreams b ≤ 1024)

/-! ## Layout of a scheme image (08 R191, R192) -/

/-- Offsets of the sections: stations, outputs, constants, variables, function blocks, exports, code, end of code. -/
def schemeSecs (d : Bytes) : List Nat :=
  let s1 := 64 + 16 * fld d 26 2
  let s2 := s1 + 8 * fld d 30 1
  let s3 := s2 + 16 * fld d 28 2
  let s4 := s3 + 16 * fld d 32 2
  let s5 := s4 + 16 * fld d 34 2
  let s6 := s5 + 8 * fld d 36 2
  let s7 := s6 + ceilDiv (2 * fld d 38 2) 4 * 4
  [s1, s2, s3, s4, s5, s6, s7, s7 + fld d 48 4]

def schemeOf (d : Bytes) : SchemeImg :=
  let at_ := fun k => (schemeSecs d).getD k 0
  { cycleK := fld d 6 1, prio := fld d 7 1, imageId := fld d 8 8, wcet := fld d 16 4, stateSize := fld d 20 4, fnom := fld d 24 1
    flags := fld d 25 1, exportLen := fld d 31 1, entry := fld d 40 4, errEntry := fld d 44 4
    inputs := (List.range (fld d 26 2)).map fun i =>
      let o := 64 + 16 * i
      { var := fld d o 2, src := fld d (o + 2) 1, sel := fld d (o + 3) 1, ref := fld d (o + 4) 2, ofs := fld d (o + 6) 2
        empty := fld d (o + 8) 8 }
    stations := (List.range (fld d 30 1)).map fun i => (fld d (at_ 0 + 8 * i) 2, fld d (at_ 0 + 8 * i + 2) 2)
    outputs := (List.range (fld d 28 2)).map fun i =>
      let o := at_ 1 + 16 * i
      { var := fld d o 2, kind := fld d (o + 2) 1, station := fld d (o + 3) 1, index := fld d (o + 4) 2, arg := fld d (o + 6) 2
        safe := fld d (o + 8) 8 }
    consts := (List.range (fld d 32 2)).map fun i =>
      let o := at_ 2 + 16 * i
      { type := fld d o 1, cls := 0, ident := fld d (o + 4) 4, init := fld d (o + 8) 8 }
    vars := (List.range (fld d 34 2)).map fun i =>
      let o := at_ 3 + 16 * i
      { type := fld d o 1, cls := fld d (o + 1) 1, ident := fld d (o + 4) 4, init := fld d (o + 8) 8 }
    fbs := (List.range (fld d 36 2)).map fun i => (fld d (at_ 4 + 8 * i) 1, fld d (at_ 4 + 8 * i + 4) 4)
    exports := (List.range (fld d 38 2)).map fun i => fld d (at_ 5 + 2 * i) 2
    code := slice d (at_ 6) (fld d 48 4) }

def varCls (img : SchemeImg) (v : Nat) : Nat := match img.vars[v]? with
  | some d => d.cls
  | none => 3

/-- The directories of a scheme image agree (08 R191, R192). -/
def schemeDirs (img : SchemeImg) : Bool :=
  img.inputs.all (fun x => varCls img x.var == 1) && nodup (img.inputs.map (·.var))
    && decide (img.inputs.length = (img.vars.filter (·.cls == 1)).length) && img.outputs.all (fun o => varCls img o.var == 2)
    && img.vars.all (fun v => inR v.type 1 10 && decide (v.cls ≤ 2)) && img.consts.all (fun v => inR v.type 1 10)
    && img.fbs.all (fun f => inR f.1 1 7)
    && img.stations.all (fun e => (decide (e.1 ≤ 4095) || e.1 == 0xFFFF) && (decide (e.2 ≤ 255) || e.2 == 0xFFFF))
    && img.exports.all (fun v => decide (v < img.vars.length))

/-- The whole of a scheme image (08 R191, R192). -/
def schemeForm (d : Bytes) : Bool :=
  let at_ := fun k => (schemeSecs d).getD k 0
  let k := fld d 6 1
  let n := fld d 48 4
  decide (68 ≤ d.length) && fld d 0 4 == 0x50535156 && fld d 4 2 == 1 && crcOk d && (fld d 24 1 == 50 || fld d 24 1 == 60)
    && decide (1 ≤ k) && fld d 24 1 % k == 0 && decide (fld d 7 1 ≤ 15) && fld d 20 4 % 64 == 0 && decide (fld d 25 1 < 8)
    && decide (fld d 26 2 ≤ 1024) && decide (fld d 28 2 ≤ 1024) && decide (fld d 30 1 ≤ 64) && fld d 31 1 % 4 == 0
    && decide (fld d 31 1 ≤ 240) && decide (fld d 32 2 ≤ 1024) && inR (fld d 34 2) 1 4096 && decide (fld d 36 2 ≤ 2048)
    && decide (fld d 38 2 ≤ 60) && inR n 4 49152 && decide (fld d 40 4 < n)
    && (fld d 44 4 == 0xFFFFFFFF || decide (fld d 44 4 < n)) && isZero (slice d 52 12) && d.length == at_ 7 + 4
    && (List.range (fld d 30 1)).all (fun i => fld d (at_ 0 + 8 * i + 4) 4 == 0)
    && (List.range (fld d 32 2)).all (fun i => fld d (at_ 2 + 16 * i + 1) 3 == 0)
    && (List.range (fld d 34 2)).all (fun i => fld d (at_ 3 + 16 * i + 2) 2 == 0)
    && (List.range (fld d 36 2)).all (fun i => fld d (at_ 4 + 8 * i + 1) 3 == 0)
    && schemeDirs (schemeOf d)

end Sys2Proof.Machine
end

