-- ==== Sys2Proof/Machine/CmdSched.lean ====
section
/-! DEFINITION. The schedule commands (03 R73-R77; 09 R253, R256). -/

namespace Sys2Proof.Machine

/-! ## SCHED_LOAD (03 R73) -/

/-- The checks of SCHED_LOAD after those of class 0x01xx. -/
def schedStatus (i : SchedImg) (s : State) : Nat :=
  if inRun s ∧ i.fnom ≠ fnom s then 0x0201
  else if !spaceOk { inactiveBank s with sched := some i } i then 0x0301
  else if budget s < i.powerMw then 0x0303
  else 0

def schedLoadCmd : Cmd :=
  { opcode := 0x0301, act := true, sev := some 2, len := chunkWords, chunked := true
    field := fun _ p => chunkHeader p && fld p 0 4 == 0
    image := fun s _ d => schedFields (inactiveBank s) d
    run := fun s w p _ => match chunkTake w.origin 0x0301 p s with
      | .bad st s => (s, st, [])
      | .more s => (s, 0, [])
      | .whole d s =>
        let i := schedOf d
        match schedStatus i s with
        | 0 => (setInactive { inactiveBank s with sched := some i } s, 0, [])
        | st => (s, st, []) }

def execSchedLoad (pk : Packet) (s : State) : Host.Outcome State Fault Refusal := command schedLoadCmd pk s

/-! ## Calls and a bank (03 R72; 09 R222, R253, R256) -/

/-- The settings that a channel has or is about to take. -/
def vchSettings (r : VchRun) : VchParams := match r.next with
  | some (p, _) => p
  | none => r.par

/-- The open channels. -/
def openVchs (s : State) : Map VchRun := s.vchs.filter fun e => vchOpenNow s e.1

/-- A channel's PLAYOUT entry has its frame length. -/
def playoutFits (b : Bank) (v : Nat) (p : VchParams) : Bool := match playoutEntry b v with
  | some e => 1000 * e.m == p.frameMs * e.q
  | none => false

/-- A channel that records has a buffer of two blocks. -/
def recFits (b : Bank) (v : Nat) (p : VchParams) : Bool :=
  p.recSel % 4 == 0 || decide (2 * (100 + 16 * recBlockMs p) ≤ recRoom b v) && decide (0 < recRoom b v)

/-- UNIT_CAP of a channel's template. -/
def unitCap (b : Bank) (v : Nat) : Nat := match voiceTmpl b v with
  | some (_, t) => fld t.blk 0 1
  | none => 0

def voicePavOf (b : Bank) (v : Nat) : Nat := match voiceTmpl b v with
  | some (_, t) => homePav t
  | none => 0

/-- Units over VOICE_UNITS, or over 512 on the pavilion of one of the channels. -/
def unitsFit (b : Bank) (l : List (Nat × VchParams)) : Bool :=
  decide (lsum l (fun e => vchCost e.2) ≤ (match b.sched with
    | some i => i.voiceUnits
    | none => 0))
    && (List.range 8).all fun k => decide (lsum (l.filter fun e => voicePavOf b e.1 == k) (fun e => vchCost e.2) ≤ 512)

/-- Every open channel fits a bank. -/
def callsFit (b : Bank) (s : State) : Bool :=
  let l := (openVchs s).map fun e => (e.1, vchSettings e.2)
  l.all (fun e => playoutFits b e.1 e.2 && recFits b e.1 e.2 && decide (vchCost e.2 ≤ unitCap b e.1)) && unitsFit b l

/-! ## SCHED_SWAP (03 R75) -/

/-- The first second boundary at least 20 ms away. -/
def swapBoundary (s : State) : Instant := secCeil (now s + msU 20)

def swapRefusal (s : State) : Nat := match (inactiveBank s).sched with
  | none => 0x0201
  | some i =>
    if s.pwr.swapWait.isSome ∨ !callsFit (inactiveBank s) s then 0x0201
    else if budget s < i.powerMw then 0x0303
    else 1

def schedSwapCmd : Cmd :=
  { opcode := 0x0302, act := true, sev := some 2, effect := fun s _ => swapBoundary s
    run := fun s w _ e => match swapRefusal s with
      | 1 => ({ s with pwr := { s.pwr with swapWait := some (e, w) } }, 1, [])
      | st => (s, st, []) }

def execSchedSwap (pk : Packet) (s : State) : Host.Outcome State Fault Refusal := command schedSwapCmd pk s

/-! ## SCHED_STATUS (03 R77) -/

def bankInfo (b : Bank) : Bytes := match b.sched with
  | some i => le 1 1 ++ le 1 i.fnom ++ le 1 i.voicePav ++ zeros 1 ++ le 4 i.entries.length ++ le 8 i.imageId ++ le 4 i.powerMw
      ++ le 2 i.voiceUnits ++ zeros 2
  | none => zeros 24

def schedStatusBytes (s : State) : Bytes :=
  le 4 (budget s) ++ le 1 (b2n s.active) ++ le 1 (b2n s.pwr.swapWait.isSome) ++ zeros 2 ++ bankInfo s.bank0 ++ bankInfo s.bank1

def schedStatusCmd : Cmd := { opcode := 0x0303, run := fun s _ _ _ => (s, 0, schedStatusBytes s) }

def execSchedStatus (pk : Packet) (s : State) : Host.Outcome State Fault Refusal := command schedStatusCmd pk s

end Sys2Proof.Machine
end

