-- ==== Sys2Proof/Machine/CmdScheme.lean ====
section
/-! DEFINITION. DET_STATUS and DET_ACK (07 R168, R187, R481) and the commands of schemes (08 R206-R215). -/

namespace Sys2Proof.Machine

/-! ## Detectors -/

/-- The current run of D-ANG (07 R187): the setting run of the lowest level in use, or the clearing run. -/
def angRun (d : DetDef) (c : Crit) : Nat := if c.level = 0 then (if fld d.kblk 4 4 = 0 then c.run3 else c.run2) else c.clr

/-- The kernel area (07 R187). -/
def kernelArea (d : DetDef) (r : DetRun) : Bytes :=
  let crit := fun i => mgetD r.crits i {}
  match d.kernel with
  | 1 => ((List.range 8).map fun i =>
      let c := crit i
      if c.tracked then le 1 i ++ le 1 c.level ++ zeros 2 ++ le 4 c.value2 ++ le 4 c.value1 ++ le 4 c.aux else zeros 16).flatten
  | 2 => ((List.range 8).map fun i =>
      let c := crit i
      if c.tracked then le 1 i ++ le 1 c.level ++ zeros 2 ++ le 4 c.value2 ++ le 4 c.value1 ++ le 2 c.cid ++ zeros 2
      else zeros 16).flatten
  | 3 => ((List.range (fld d.kblk 2 2)).map fun i =>
      let c := crit i
      le 2 (cidAt d.kblk 24 i) ++ le 1 c.level ++ zeros 1 ++ le 4 c.value2 ++ le 4 c.value1).flatten
  | 4 => ((List.range (fld d.kblk 0 1)).map fun i =>
      let (f, ref, flags) := r.areas.getD i (0, 0, 0)
      le 4 f ++ le 2 ref ++ le 1 flags ++ zeros 1).flatten ++ ((List.range 64).map fun i => le 1 (crit i).level).flatten
  | 5 => le 4 (crit 0).value1 ++ le 4 (angRun d (crit 0))
  | 6 => ((List.range (fld d.kblk 0 1)).map fun i => le 4 (r.vals.getD i 0)).flatten
  | _ => []

/-- DET_STATUS (07 R187). -/
def detStatusBytes (s : State) (i : Nat) : Bytes :=
  match mget (activeBank s).dets i with
  | none => le 2 i ++ zeros 30
  | some d =>
    let r := detRun s i
    let t := r.lastT.getD 0
    let part : Bool := match r.lastT with
      | some x => detPartial d r x
      | none => detPartial d r (now s)
    le 2 i ++ le 1 d.kernel ++ le 1 (topCrit r).1 ++ le 1 r.latch ++ le 1 (b2n r.blind + b2n part * 2 + b2n r.ringdown * 4)
      ++ le 2 ((r.crits.filter fun e => e.2.level != 0).length) ++ stampBytes t ++ le 4 r.evals ++ le 4 r.skips ++ le 4 r.seq
      ++ le 4 (if d.kernel = 2 then r.fTh else 0) ++ kernelArea d r

def detStatusCmd : Cmd :=
  { opcode := 0x0402, stI := false, len := words 1, field := fun _ p => decide (fld p 0 2 ≤ 255) && fld p 2 2 == 0
    run := fun s _ p _ => (s, 0, detStatusBytes s (fld p 0 2)) }

def execDetStatus (pk : Packet) (s : State) : Host.Outcome State Fault Refusal := command detStatusCmd pk s

def detAckCmd : Cmd :=
  { opcode := 0x0403, stI := false, act := true, sev := some 2, len := words 1
    field := fun _ p => (decide (fld p 0 2 ≤ 255) || fld p 0 2 == 0xFFFF) && fld p 2 2 == 0
    run := fun s _ p _ => (detAckLatch (fld p 0 2) s, 0, []) }

def execDetAck (pk : Packet) (s : State) : Host.Outcome State Fault Refusal := command detAckCmd pk s

/-! ## PROG_LOAD (08 R214, R215) -/

/-- An exchange image is staged by the ACTIVE unit, and by its standby when it is forwarded. -/
def stages (w : Waiter) (s : State) : Bool := s.cas.role = .active || w.origin = .twin

def progLoadRun (s : State) (w : Waiter) (p : Bytes) : Answer :=
  let target := fld p 0 4
  let n := target % 64
  let ex := bit target 8
  if ex ∧ !stages w s then (s, 0x0201, [])
  else if !ex ∧ (schRun s n).running then (s, 0x0203, [])
  else match chunkTake w.origin 0x0501 p s with
    | .bad st s => (s, st, [])
    | .more s => (s, 0, [])
    | .whole d s =>
      let img := schemeOf d
      if ex then (setSch n { schRun s n with exchange := some img } s, 0, [])
      else
        let b := inactiveBank s
        (setInactive { b with schemes := mput b.schemes n img } s, 0, [])

def progLoadCmd : Cmd :=
  { opcode := 0x0501, act := true, sev := some 2, len := chunkWords, chunked := true
    field := fun _ p => chunkHeader p && (fld p 0 4 / 64 == 0 || fld p 0 4 / 64 == 4)
    image := fun _ _ d => schemeForm d
    run := fun s w p _ => progLoadRun s w p }

def execProgLoad (pk : Packet) (s : State) : Host.Outcome State Fault Refusal := command progLoadCmd pk s

/-! ## PROG_START and PROG_STOP (08 R206, R207) -/

/-- The CYCLE issue of a scheme at or after an instant. -/
def cycleFrom (s : State) (sch : Nat) (t : Instant) : Instant :=
  match sched s with
  | none => t
  | some img => match img.entries.find? (fun e => e.action == 4 && e.target == sch) with
    | some e => issueFrom e t
    | none => t

def oneScheme (p : Bytes) : Bool := decide (fld p 0 1 ≤ 63) && fld p 1 3 == 0

/-- A forwarded command whose cycle the standby's shadow has already run or passed: the commit supplies its effect (14 R382). -/
def cycleGone (s : State) (w : Waiter) (sch : Nat) (effect : Instant) : Bool :=
  w.origin = .twin && (match (schRun s sch).lastT with
    | some t => decide (effect ≤ t)
    | none => false)

/-- A forwarded start whose CYCLE issue has passed here is left to the commit (14 R382). -/
def progStartRun (s : State) (w : Waiter) (n : Nat) (effect : Instant) : Answer :=
  if (schRun s n).running then (s, 0x0201, [])
  else
    let s := copyImage n s
    let gone : Bool := w.origin = .twin && (match (schRun s n).cycleAt with
      | some t => decide (effect ≤ t)
      | none => false)
    (if gone then s else schemeStartAt n (some w) effect s, 1, [])

def progStartCmd : Cmd :=
  { opcode := 0x0502, stI := false, act := true, sev := some 2, len := words 1
    field := fun s p => oneScheme p && (schImg (activeBank s) (fld p 0 1)).isSome
    effect := fun s p => cycleFrom s (fld p 0 1) (now s + msU 1)
    run := fun s w p e => progStartRun s w (fld p 0 1) e }

def execProgStart (pk : Packet) (s : State) : Host.Outcome State Fault Refusal := command progStartCmd pk s

/-- The last released cycle of a scheme that has not ended. -/
def lastCycle (s : State) (n : Nat) : Option Instant :=
  (cyclesInFlight s n).foldl (fun o k => some (max (o.getD 0) k.t)) none

/-- A PROG_STOP waits for the end of a cycle here: the one that is released, or on a standby the one that the ACTIVE unit named
(14 R382). -/
def stopCycle (s : State) (w : Waiter) (n : Nat) (effect : Instant) : Option Instant :=
  if w.origin = .twin then
    (if cycleGone s w n effect || (schRun s n).opened.contains effect || (cyclesInFlight s n).any (fun k => k.t == effect)
      then some effect else none)
  else lastCycle s n

/-- PROG_STOP of a scheme that does not run finds it stopped. -/
def progStopRun (s : State) (w : Waiter) (n : Nat) (effect : Instant) : Answer :=
  let r := schRun s n
  if !r.running then (s, 0, [])
  else match r.stopWait with
    | some ws => (setSch n { r with stopWait := some (ws ++ [w]) } s, 1, [])
    | none => (setSch n { r with stopWait := some [w], stopLast := stopCycle s w n effect } s, 1, [])

def progStopCmd : Cmd :=
  { opcode := 0x0503, stI := false, act := true, sev := some 2, len := words 1, field := fun _ p => oneScheme p
    effect := fun s p => (lastCycle s (fld p 0 1)).getD (nextCycle s (fld p 0 1))
    run := fun s w p e => progStopRun s w (fld p 0 1) e }

def execProgStop (pk : Packet) (s : State) : Host.Outcome State Fault Refusal := command progStopCmd pk s

/-! ## PROG_SET_VALUES (08 R209, R210) -/

def cellOf (p : Bytes) (i : Nat) : SetCell :=
  let o := 4 + 16 * i
  { id := fld p o 2, space := fld p (o + 2) 1, type := fld p (o + 3) 1, value := fld p (o + 4) 8 }

def cellsOf (p : Bytes) : List SetCell := (List.range (fld p 1 1)).map (cellOf p)

/-- A VALUE field holds a value of its type (08 R192). -/
def valueOk (ty v : Nat) : Bool := readTyped ty (le 8 v) == v

/-- A cell names a constant, or a variable of class 0 or 2, by its declared type. -/
def cellOk (img : SchemeImg) (c : SetCell) : Bool :=
  valueOk c.type c.value && match c.space with
    | 0 => (match img.vars[c.id]? with
      | some d => d.cls != 1 && d.type == c.type
      | none => false)
    | 1 => (match img.consts[c.id]? with
      | some d => d.type == c.type
      | none => false)
    | _ => false

def setField (s : State) (p : Bytes) : Bool :=
  let n := fld p 1 1
  decide (fld p 0 1 ≤ 63) && inR n 1 32 && fld p 2 2 == 0 && (List.range n).all (fun i => fld p (16 + 16 * i) 4 == 0)
    && match schImg (activeBank s) (fld p 0 1) with
      | some img => (cellsOf p).all (cellOk img)
      | none => false

def pendingSets (r : SchRun) : Nat := (r.pend.filter fun c => match c with
  | .set _ _ _ => true
  | _ => false).length

/-- The first cycle that can apply a command: one that is released and has not started, one that is opened, or the next to be
opened (08 R209, R217). -/
def nextApply (s : State) (sch : Nat) : Instant :=
  match lminBy ((waitingCycles s sch).map (·.t) ++ (schRun s sch).opened) id with
  | some t => t
  | none => nextCycle s sch

def progSetRun (s : State) (w : Waiter) (p : Bytes) (effect : Instant) : Answer :=
  let n := fld p 0 1
  let r := schRun s n
  let cells := cellsOf p
  if !r.running then
    if cells.any (·.space == 0) then (s, 0x0201, [])
    else match schImg (activeBank s) n with
      | some img =>
        let cs := cells.foldl (fun l c => lset l c.id c.value) (constsOf img r)
        (setSch n { r with consts := cs } s, 0, [])
      | none => (s, 0x0103, [])
  else if cells.any (fun c => c.space == 0 && mhas r.forces c.id) then (s, 0x0205, [])
  else if 4 ≤ pendingSets r then (s, 0x0302, [])
  else if cycleGone s w n effect then (s, 1, [])
  else (setSch n { r with pend := r.pend ++ [.set w effect cells] } s, 1, [])

def progSetValuesCmd : Cmd :=
  { opcode := 0x0504, stI := false, act := true, sev := some 2, len := fun p n => n == 1 + 4 * fld p 1 1, field := setField
    effect := fun s p => if (schRun s (fld p 0 1)).running then nextApply s (fld p 0 1) else now s
    run := fun s w p e => progSetRun s w p e }

def execProgSetValues (pk : Packet) (s : State) : Host.Outcome State Fault Refusal := command progSetValuesCmd pk s

/-! ## PROG_FORCE (08 R211, R212) -/

def forceField (s : State) (p : Bytes) : Bool :=
  let act := fld p 1 1
  decide (fld p 0 1 ≤ 63) && inR act 1 3 && fld p 5 3 == 0 && match schImg (activeBank s) (fld p 0 1) with
    | none => false
    | some img => act == 3 || (match img.vars[fld p 2 2]? with
      | some d => (d.cls == 1 || d.cls == 2) && (act == 2 || (d.type == fld p 4 1 && valueOk d.type (fld p 8 8)))
      | none => false)

/-- The variables of a scheme that are forced or are about to be. -/
def forcedIds (r : SchRun) : List Nat :=
  (mkeys r.forces ++ r.pend.filterMap fun c => match c with
    | .force _ _ id _ => some id
    | _ => none).dedup

def forceCount (s : State) : Nat := lsum s.schs fun e => (forcedIds e.2).length

def progForceRun (s : State) (w : Waiter) (p : Bytes) (effect : Instant) : Answer :=
  let n := fld p 0 1
  let id := fld p 2 2
  let r := schRun s n
  let c : PendCmd := match fld p 1 1 with
    | 1 => .force w effect id (fld p 8 8)
    | 2 => .unforce w effect id
    | _ => .unforceAll w effect
  if fld p 1 1 = 1 ∧ !(forcedIds r).contains id ∧ Config.maxForces ≤ forceCount s then (s, 0x0301, [])
  else if cycleGone s w n effect then (s, 1, [])
  else (setSch n { r with pend := r.pend ++ [c] } s, 1, [])

def progForceCmd : Cmd :=
  { opcode := 0x0505, stI := false, act := true, sev := some 4, len := words 4, field := forceField
    effect := fun s p => nextApply s (fld p 0 1), run := fun s w p e => progForceRun s w p e }

def execProgForce (pk : Packet) (s : State) : Host.Outcome State Fault Refusal := command progForceCmd pk s

/-! ## PROG_READ (08 R213) -/

def readEntry (img : Option SchemeImg) (r : SchRun) (id space : Nat) : Bytes :=
  let sets := r.pend.any fun c => match c with
    | .set _ _ cells => cells.any fun x => x.id == id && x.space == space
    | _ => false
  let forces := space == 0 && r.pend.any fun c => match c with
    | .force _ _ i _ => i == id
    | _ => false
  let entry := fun (ty v : Nat) => le 1 ty ++ le 1 (b2n (space == 0 && mhas r.forces id) + b2n sets * 2 + b2n forces * 4)
    ++ zeros 2 ++ le 8 v ++ zeros 4
  match img with
  | none => zeros 16
  | some img =>
    if space = 0 then match img.vars[id]? with
      | some d => entry d.type ((mget r.forces id).getD (r.vars.getD id d.init))
      | none => zeros 16
    else match img.consts[id]? with
      | some d => entry d.type ((constsOf img r).getD id d.init)
      | none => zeros 16

def progReadCmd : Cmd :=
  { opcode := 0x0506, stI := false, len := fun p n => n == 1 + fld p 1 1
    field := fun _ p => decide (fld p 0 1 ≤ 63) && inR (fld p 1 1) 1 64 && fld p 2 2 == 0
      && (List.range (fld p 1 1)).all fun i => decide (fld p (6 + 4 * i) 1 ≤ 1) && fld p (7 + 4 * i) 1 == 0
    run := fun s _ p _ =>
      let n := fld p 0 1
      (s, 0, ((List.range (fld p 1 1)).map fun i =>
        readEntry (schImg (activeBank s) n) (schRun s n) (fld p (4 + 4 * i) 2) (fld p (6 + 4 * i) 1)).flatten) }

def execProgRead (pk : Packet) (s : State) : Host.Outcome State Fault Refusal := command progReadCmd pk s

end Sys2Proof.Machine
end

