-- ==== Sys2Proof/Machine/CmdVoice.lean ====
section
/-! DEFINITION. The commands of calls and flows (09 R222-R228, R254). -/

namespace Sys2Proof.Machine

/-! ## VCH_OPEN and VCH_MODIFY (09 R222, R224, R225) -/

def vchParamsOf (p : Bytes) : VchParams :=
  { codecF := fld p 2 1, codecC := fld p 3 1, frameMs := fld p 4 1, jbMode := fld p 5 1, jbMin := fld p 6 2, jbMax := fld p 8 2
    jbInit := fld p 10 2, ecTail := fld p 12 1, ecOpts := fld p 13 1, toneMask := fld p 14 2, toneOpts := fld p 16 1
    relay := fld p 17 1, evtPtF := fld p 18 1, evtPtC := fld p 19 1, ptF := fld p 20 1, ptC := fld p 21 1, recSel := fld p 22 1
    recOq := fld p 23 1
    recBlockSel := fld p 24 2, evtOq := fld p 26 1, opts := fld p 27 1, label := fld p 28 4 }

/-- A codec allows a frame length (09 R221). -/
def codecFrame (codec ms : Nat) : Bool := if 5 ≤ codec then ms == 10 || ms == 20 else ms == 10 || ms == 20 || ms == 30

def eventPt (v : Nat) : Bool := v == 0 || inR v 96 127

/-- The fields' ranges (09 R224). -/
def vchRanges (p : Bytes) : Bool :=
  let c := vchParamsOf p
  decide (fld p 0 2 ≤ 1023) && inR c.codecF 1 6 && inR c.codecC 1 6 && codecFrame c.codecF c.frameMs
    && codecFrame c.codecC c.frameMs && decide (c.jbMode ≤ 1) && inR c.jbMin 10 300 && inR c.jbMax 10 300 && inR c.jbInit 10 300
    && decide (c.jbMin ≤ c.jbInit) && decide (c.jbInit ≤ c.jbMax)
    && (c.ecTail == 0 || (inR c.ecTail 16 128 && c.ecTail % 8 == 0)) && decide (c.ecOpts < 32) && decide (c.ecOpts % 4 ≤ 2)
    && decide (c.ecOpts / 4 % 4 ≤ 2) && decide (c.toneOpts < 8) && decide (c.relay < 16) && decide (c.relay % 4 ≤ 1)
    && decide (c.relay / 4 ≤ 1) && eventPt c.evtPtF && eventPt c.evtPtC && (c.relay % 4 != 1 || c.evtPtF != 0)
    && (c.relay / 4 != 1 || c.evtPtC != 0) && decide (c.ptF ≤ 127) && decide (c.ptC ≤ 127) && decide (c.recSel ≤ 3)
    && (decide (c.recOq ≤ 63) || (c.recOq == 0xFF && c.recSel == 0))
    && (c.recBlockSel == 0 || (inR c.recBlockSel 200 2000 && c.recBlockSel % c.frameMs == 0)) && lockerOkDef c.evtOq
    && decide (c.opts < 4)

/-- NTONE of a channel's template. -/
def toneCount (b : Bank) (v : Nat) : Nat := match voiceTmpl b v with
  | some (_, t) => fld t.blk 1 1
  | none => 0

/-- The checks against a bank that end in BAD_FIELD (03 R72; 09 R222, R224, R253). -/
def vchBankOk (b : Bank) (v : Nat) (c : VchParams) : Bool :=
  playoutFits b v c && recFits b v c

/-- The checks of the active bank, and of the inactive one while a swap is pending. -/
def vchField (s : State) (p : Bytes) : Bool :=
  let v := fld p 0 2
  let c := vchParamsOf p
  vchRanges p && vchBankOk (activeBank s) v c && (s.pwr.swapWait.isNone || vchBankOk (inactiveBank s) v c)
    && decide (vchCost c ≤ unitCap (activeBank s) v) && decide (c.toneMask < 2 ^ toneCount (activeBank s) v)

/-- The open channels' units with a channel's new settings; a channel that was open may lower its cost. -/
def vchUnits (s : State) (v : Nat) (c : VchParams) : Bool :=
  let others := ((openVchs s).filter fun e => e.1 != v).map fun e => (e.1, vchSettings e.2)
  let was := match vch s v with
    | some r => if vchOpenNow s v then vchCost (vchSettings r) else 0
    | none => 0
  decide (vchCost c ≤ was) || unitsFit (activeBank s) ((v, c) :: others)

/-- The first PLAYOUT issue at least 1 ms away. -/
def vchFrom (s : State) (v : Nat) : Instant := match playoutEntry (activeBank s) v with
  | some e => issueFrom e (now s + msU 1)
  | none => now s + msU 1

/-- The queue of a recording with new settings: without recording, what is buffered keeps its queue. -/
def recQueue (q : RecRun) (c : VchParams) : Nat := if c.recSel % 4 = 0 then q.oq else c.recOq

/-- A channel opens: h_0 is 32 zero bytes, and what a channel closed before left in the recording buffer goes first. -/
def vchOpen (v : Nat) (c : VchParams) (at_ : Instant) (s : State) : State :=
  let s := if (vch s v).isSome then vchEnd v 0 (now s) s else s
  let left : RecRun := match vch s v with
    | some r => { buffer := r.recd.buffer, oq := r.recd.oq }
    | none => {}
  setVch v { par := c, openAt := some at_, recd := { left with chain := zeros 32, oq := recQueue left c } } s

def vchOpenCmd : Cmd :=
  { opcode := 0x0601, stI := false, act := true, sev := some 2, len := words 8, field := vchField
    effect := fun s p => vchFrom s (fld p 0 2)
    run := fun s _ p e =>
      let v := fld p 0 2
      let c := vchParamsOf p
      if vchOpenNow s v then (s, 0x0201, [])
      else if !vchUnits s v c then (s, 0x0301, [])
      else (vchOpen v c e s, 0, []) }

def execVchOpen (pk : Packet) (s : State) : Host.Outcome State Fault Refusal := command vchOpenCmd pk s

/-- A channel that has not yet opened opens with the new settings. -/
def vchModify (v : Nat) (c : VchParams) (at_ : Instant) (s : State) : State :=
  match vch s v with
  | none => s
  | some r =>
    match r.openAt with
    | some _ => setVch v { r with par := c, recd := { r.recd with oq := recQueue r.recd c } } s
    | none => setVch v { r with next := some (c, at_) } s

def vchModifyCmd : Cmd :=
  { opcode := 0x0602, stI := false, act := true, sev := some 2, len := words 8, field := vchField
    effect := fun s p => vchFrom s (fld p 0 2)
    run := fun s _ p e =>
      let v := fld p 0 2
      let c := vchParamsOf p
      if !vchOpenNow s v then (s, 0x0201, [])
      else if !vchUnits s v c then (s, 0x0301, [])
      else (vchModify v c e s, 0, []) }

def execVchModify (pk : Packet) (s : State) : Host.Outcome State Fault Refusal := command vchModifyCmd pk s

/-! ## VCH_CLOSE (09 R226) -/

def oneVch (p : Bytes) : Bool := decide (fld p 0 2 ≤ 1023) && fld p 2 2 == 0

def vchCloseCmd : Cmd :=
  { opcode := 0x0603, stI := false, act := true, sev := some 2, len := words 1, field := fun _ p => oneVch p
    effect := fun s _ => now s + msU 1
    run := fun s _ p e =>
      let v := fld p 0 2
      if !vchOpenNow s v then (s, 0x0201, [])
      else ({ s with vchs := mmod s.vchs v fun r => { r with closeAt := some e } }, 0, []) }

def execVchClose (pk : Packet) (s : State) : Host.Outcome State Fault Refusal := command vchCloseCmd pk s

/-! ## FLOW_SET (09 R227, R228) -/

def flowDefOf (p : Bytes) : FlowDef :=
  { vch := fld p 2 2, role := fld p 4 1, port := fld p 5 1, vlan := fld p 6 2, localAddr := fldBe p 8 16
    remoteAddr := fldBe p 24 16, localUdp := fld p 40 2, remoteUdp := fld p 42 2, ssrc := fld p 44 4, profile := fld p 48 1
    locker := fld p 49 1, dscp := fld p 50 1, seq0 := fld p 52 2, ts0 := fld p 56 4, roc0 := fld p 60 4 }

def flowRanges (p : Bytes) : Bool :=
  let d := flowDefOf p
  let tx := bit d.role 0
  decide (fld p 0 2 ≤ 4095) && decide (d.vch ≤ 1023) && decide (d.role < 32) && decide (d.port ≤ 5) && vlanOkDef d.vlan
    && inR d.localUdp 1024 65534 && d.localUdp % 2 == 0 && d.remoteUdp % 2 == 0 && (!tx || d.ssrc != 0)
    && decide (d.profile ≤ 4) && (if d.profile = 0 then d.locker == 0xFF else decide (d.locker ≤ 63)) && decide (d.dscp < 64)
    && fld p 51 1 == 0 && fld p 54 2 == 0

/-- LOCAL_ADDR is the port's, or a service address. -/
def localOk (s : State) (d : FlowDef) : Bool :=
  (port s d.port).cfg.addrs.any (fun a => a.1 == d.localAddr) || s.cas.cfg.svc.any fun a => a.addr == d.localAddr

/-- Another index holds an enabled flow of the same leg and direction. -/
def flowTaken (s : State) (n : Nat) (d : FlowDef) : Bool :=
  s.flows.any fun e => e.1 != n && e.2.def_.vch == d.vch && bit e.2.def_.role 2 && e.2.def_.role % 4 == d.role % 4

def flowField (s : State) (p : Bytes) : Bool :=
  let d := flowDefOf p
  flowRanges p && localOk s d && !flowTaken s (fld p 0 2) d

/-- A leg whose receive flow is created, or starts afresh: nothing of the buffer, the mapping or the learned SSRC continues. -/
def legFresh (l : Leg) : Leg :=
  { l with anchor := none, delta := 0, held := [], margins := [], lastMove := none, ssrc := none, cand := none, failRun := 0
           lastSeq := none, reanchor := none, rtcp := {} }

/-- The leg of a receive flow starts afresh. -/
def flowFresh (d : FlowDef) (s : State) : State :=
  if bit d.role 0 then s
  else { s with vchs := mmod s.vchs d.vch fun r => setLeg r (bit d.role 1) (legFresh (legOf r (bit d.role 1))) }

/-- FLOW_SET changes the profile, the locker or the SSRC of an entry. -/
def flowAnew (d : FlowDef) (f : FlowRun) : Bool :=
  d.profile != f.def_.profile || d.locker != f.def_.locker || d.ssrc != f.def_.ssrc

/-- An existing entry as FLOW_SET leaves it. -/
def flowChanged (d : FlowDef) (f : FlowRun) : FlowRun :=
  let anew := flowAnew d f
  let kept : FlowRun := { f with def_ := { d with roc0 := if anew then d.roc0 else f.def_.roc0 }, keyLost := false }
  let ctx : FlowRun := if anew then { kept with
    high := none, window := [], roc := d.roc0, rtcpIndex := 0, rtcpHigh := none, rtcpWindow := [] } else kept
  if bit d.role 0 ∧ bit d.role 4 then
    { ctx with seq := d.seq0, ts := d.ts0, roc := d.roc0, marker := true, resume := false }
  else ctx

/-- An entry as FLOW_SET writes it: the context starts afresh when it is created or its profile, locker or SSRC changes. -/
def flowSet (n : Nat) (d : FlowDef) (s : State) : State :=
  match mget s.flows n with
  | none => flowFresh d (setFlow n { def_ := d, seq := d.seq0, ts := d.ts0, roc := d.roc0 } s)
  | some f =>
    let s := if flowAnew d f then flowFresh d s else s
    setFlow n (flowChanged d f) s

/-- An entry is deleted; a receive flow takes its leg's buffer with it. -/
def flowDelete (n : Nat) (s : State) : State :=
  match mget s.flows n with
  | none => s
  | some f => flowFresh f.def_ { s with flows := mdel s.flows n }

/-- A flow that names another channel, leg or direction than before is created anew. -/
def sameFlow (s : State) (n : Nat) (d : FlowDef) : Bool := match mget s.flows n with
  | some f => f.def_.vch == d.vch && f.def_.role % 4 == d.role % 4
  | none => false

def flowSetCmd : Cmd :=
  { opcode := 0x0604, stI := false, act := true, sev := some 2, len := words 16, field := flowField
    run := fun s _ p _ =>
      let n := fld p 0 2
      let d := flowDefOf p
      if !vchOpenNow s d.vch then (s, 0x0201, [])
      else
        let s := if bit d.role 2 ∧ sameFlow s n d then s else flowDelete n s
        (if bit d.role 2 then flowSet n d s else s, 0, []) }

def execFlowSet (pk : Packet) (s : State) : Host.Outcome State Fault Refusal := command flowSetCmd pk s

/-! ## VCH_STATUS (09 R254) -/

/-- An interval of instants in whole µs, rounded down. -/
def toUs (d : Int) : Int := d * 1000000 / 2 ^ 32

def legStatus (l : Leg) (t : Instant) : Bytes :=
  le 4 (unsgn 32 (toUs (legDepth l t))) ++ le 4 (unsgn 32 (toUs ((legMin l t).getD 0))) ++ le 4 l.rxPkts ++ le 4 l.conceal
    ++ le 4 l.late ++ le 1 l.farLost ++ zeros 1 ++ le 2 l.farJitter ++ le 4 l.rtt

def vchStatusBytes (s : State) (v : Nat) : Bytes :=
  match vch s v with
  | none => le 2 v ++ zeros 66
  | some r =>
    if !vchOpenNow s v then le 2 v ++ zeros 66
    else
      le 2 v ++ le 1 1 ++ le 1 (b2n r.ecDisabled + b2n r.ecConverged * 2 + b2n r.legF.silent * 4 + b2n r.legC.silent * 8
          + b2n r.recd.gap.isSome * 16)
        ++ le 2 (vchCost r.par) ++ le 1 (voicePavOf (activeBank s) v) ++ zeros 1 ++ legStatus r.legF (now s)
        ++ legStatus r.legC (now s) ++ le 2 r.erle ++ zeros 2

def vchStatusCmd : Cmd :=
  { opcode := 0x0605, stI := false, len := words 1, field := fun _ p => oneVch p
    run := fun s _ p _ => (s, 0, vchStatusBytes s (fld p 0 2)) }

def execVchStatus (pk : Packet) (s : State) : Host.Outcome State Fault Refusal := command vchStatusCmd pk s

end Sys2Proof.Machine
end

