-- ==== Sys2Proof/Machine/CmdCapture.lean ====
section
/-! DEFINITION. The commands of captures, queues and the codec (10 R261, R271, R285; 11 R305, R310). -/

namespace Sys2Proof.Machine

/-! ## Captures -/

/-- CAP_ARM (10 R261). A CAP that the active bank does not define has nothing to arm. -/
def capArmCmd : Cmd :=
  { opcode := 0x0702, stI := false, act := true, sev := some 2, len := words 1
    field := fun _ p => decide (fld p 0 2 ≤ 255) && decide (fld p 2 1 ≤ 1) && fld p 3 1 == 0
    run := fun s _ p _ => (armCap (fld p 0 2) (fld p 2 1 == 1) s, 0, []) }

def execCapArm (pk : Packet) (s : State) : Host.Outcome State Fault Refusal := command capArmCmd pk s

/-- CAP_TRIGGER (10 R271); a standby takes its triggers from the commit (10 R289). -/
def capTriggerRun (s : State) (w : Waiter) (p : Bytes) : Answer :=
  let cap := fld p 0 2
  if w.origin = .twin then (s, 0, [])
  else match capRun s cap with
    | none => (s, 0x0302, [])
    | some r =>
      if !bit r.def_.trig 0 then (s, 0x0302, [])
      else
        let (s, ok) := triggerCap cap { src := 3, srcId := 0, t := now s, mark := slice p 4 16, flags := 0 } false s
        (s, if ok then 0 else 0x0302, [])

def capTriggerCmd : Cmd :=
  { opcode := 0x0703, stI := false, act := true, len := words 5
    field := fun _ p => decide (fld p 0 2 ≤ 255) && fld p 2 2 == 0, run := fun s w p _ => capTriggerRun s w p }

def execCapTrigger (pk : Packet) (s : State) : Host.Outcome State Fault Refusal := command capTriggerCmd pk s

/-! ## Queues -/

/-- OQ_FLUSH (11 R305): the flush executes at once, and OQ_FLUSH_DONE gives the final reply. -/
def oqFlushCmd : Cmd :=
  { opcode := 0x0704, len := words 1, field := fun _ p => decide (fld p 0 1 ≤ 63) && fld p 1 3 == 0
    run := fun s w p _ =>
      let n := fld p 0 1
      let s := oqFlush n s
      (setOq n { oq s n with flushWait := (oq s n).flushWait ++ [w] } s, 1, []) }

def execOqFlush (pk : Packet) (s : State) : Host.Outcome State Fault Refusal := command oqFlushCmd pk s

/-- QUEUE_STATUS (11 R310). -/
def queueStatusCmd : Cmd :=
  { opcode := 0x0705, len := words 1
    field := fun _ p => decide (fld p 0 1 ≤ 79) && inR (fld p 1 1) 1 80 && decide (fld p 0 1 + fld p 1 1 ≤ 80) && fld p 2 2 == 0
    run := fun s _ p _ => (s, 0, ((List.range (fld p 1 1)).map fun i => queueRecord s (fld p 0 1 + i)).flatten) }

def execQueueStatus (pk : Packet) (s : State) : Host.Outcome State Fault Refusal := command queueStatusCmd pk s

/-! ## PRC_ENCODE and PRC_DECODE (10 R284, R285) -/

/-- A packet of the control firmware: written whole, or not at all (11 R296). -/
def fwPacket (n : Nat) (b : Bytes) (result : Bytes) (s : State) : Answer :=
  if !(oq s n).en ∨ oqLevel (oq s n) + heldWords (oq s n).held + pktWords b.length ≤ oqCapacity s n then
    (oqPut n 13 { data := b, mark := false } s, 0, result)
  else (s, 0x0302, [])

/-- The samples of an image, channel-major. -/
def samplesOf (nch w nsamp : Nat) (d : Bytes) : List (List Int) :=
  (List.range nch).map fun c => (List.range nsamp).map fun i => sgn w (fld d ((c * nsamp + i) * (w / 8)) (w / 8))

/-- An image of PRC_ENCODE: its fields and its length. -/
def encImageOk (d : Bytes) : Bool :=
  let nch := fld d 0 1
  let w := fld d 1 1
  let nsamp := fld d 2 2
  decide (8 ≤ d.length) && inR nch 1 64 && (w == 16 || w == 24 || w == 32) && inR nsamp 1 4096 && fld d 5 3 == 0
    && d.length == 8 + nch * nsamp * w / 8

def prcEncodeImage (n : Nat) (d : Bytes) (s : State) : Answer :=
  let w := fld d 1 1
  match prcEncode w (fld d 4 1) (samplesOf (fld d 0 1) w (fld d 2 2) (d.drop 8)) with
  | some b => fwPacket n b (le 4 b.length) s
  | none => (s, 0x0526, [])

def queueTarget (p : Bytes) : Bool := chunkHeader p && decide (fld p 0 4 ≤ 63)

def prcEncodeCmd : Cmd :=
  { opcode := 0x0C02, len := chunkWords, chunked := true, field := fun _ p => queueTarget p, image := fun _ _ d => encImageOk d
    run := fun s w p _ => match chunkTake w.origin 0x0C02 p s with
      | .bad st s => (s, st, [])
      | .more s => (s, 0, [])
      | .whole d s => prcEncodeImage (fld p 0 4) d s }

def execPrcEncode (pk : Packet) (s : State) : Host.Outcome State Fault Refusal := command prcEncodeCmd pk s

/-- The samples of a block: header bytes 4-8, 3 reserved bytes and the samples. -/
def prcDecodeImage (n : Nat) (d : Bytes) (s : State) : Answer :=
  match prcDecode d with
  | .error e => (count 153 s, prcErrCode e, [])
  | .ok chans => fwPacket n (slice d 4 5 ++ zeros 3 ++ rawSamples (fld d 5 1) chans) [] s

def prcDecodeCmd : Cmd :=
  { opcode := 0x0C01, len := chunkWords, chunked := true, field := fun _ p => queueTarget p
    run := fun s w p _ => match chunkTake w.origin 0x0C01 p s with
      | .bad st s => (s, st, [])
      | .more s => (s, 0, [])
      | .whole d s => prcDecodeImage (fld p 0 4) d s }

def execPrcDecode (pk : Packet) (s : State) : Host.Outcome State Fault Refusal := command prcDecodeCmd pk s

end Sys2Proof.Machine
end

