-- ==== Sys2Proof/Machine/CmdKeys.lean ====
section
/-! DEFINITION. The commands of Gatehouse (13 R345, R358-R363, R366). -/

namespace Sys2Proof.Machine

def keyLoadCmd : Cmd :=
  { opcode := 0x0801, sev := some 4, len := keyLoadLen, field := keyLoadField, run := fun s _ p _ => keyLoadRun s p }

def execKeyLoad (pk : Packet) (s : State) : Host.Outcome State Fault Refusal := command keyLoadCmd pk s

def keyClearCmd : Cmd :=
  { opcode := 0x0802, sev := some 4, len := words 1, field := fun _ p => keyClearField p, run := fun s _ p _ => keyClearRun s p }

def execKeyClear (pk : Packet) (s : State) : Host.Outcome State Fault Refusal := command keyClearCmd pk s

def keyGenerateCmd : Cmd :=
  { opcode := 0x0803, sev := some 4, len := words 2, field := keyGenField, run := fun s _ p _ => keyGenRun s p }

def execKeyGenerate (pk : Packet) (s : State) : Host.Outcome State Fault Refusal := command keyGenerateCmd pk s

def keyRewrapCmd : Cmd :=
  { opcode := 0x0804, sev := some 4, len := keyRewrapLen, field := keyRewrapField, run := fun s _ p _ => keyRewrapRun s p }

def execKeyRewrap (pk : Packet) (s : State) : Host.Outcome State Fault Refusal := command keyRewrapCmd pk s

def domainInvalidateCmd : Cmd :=
  { opcode := 0x0805, sev := some 7, flash := true, len := words 1
    field := fun s p => invalidateField p && decide (fld p 1 1 ≤ generation s (fld p 0 1)), run := fun s w p _ => invalidateRun s w p }

def execDomainInvalidate (pk : Packet) (s : State) : Host.Outcome State Fault Refusal := command domainInvalidateCmd pk s

def keyStatusCmd : Cmd := { opcode := 0x0806, run := fun s _ _ _ => (s, 0, keyStatusBytes s) }

def execKeyStatus (pk : Packet) (s : State) : Host.Outcome State Fault Refusal := command keyStatusCmd pk s

def idCertCmd : Cmd := { opcode := 0x0807, run := fun s _ _ _ => (s, 0, idCertBytes s) }

def execIdCert (pk : Packet) (s : State) : Host.Outcome State Fault Refusal := command idCertCmd pk s

end Sys2Proof.Machine
end

