-- ==== Sys2Proof/Machine/CmdCas.lean ====
section
/-! DEFINITION. The commands of Castling and what a standby does with a forwarded command (13 R366; 14 R378, R382, R388, R393,
R398). -/

namespace Sys2Proof.Machine

/-! ## CAS_CONFIG (14 R378) -/

def prefixOk (addr len : Nat) : Bool := decide (len ≤ if isV4 addr then 32 else 128)

def svcOf (p : Bytes) (i : Nat) : SvcAddr :=
  let o := 16 + 20 * i
  { port := fld p o 1, prefix_ := fld p (o + 1) 1, vlan := fld p (o + 2) 2, addr := fldBe p (o + 4) 16 }

def svcOk (a : SvcAddr) : Bool := decide (a.port ≤ 5) && prefixOk a.addr a.prefix_ && vlanOkDef a.vlan

def casConfigField (p : Bytes) : Bool :=
  let n := fld p 0 1
  inR n 1 16 && decide (fld p 1 1 < 8) && inR (fld p 3 1) 1 63 && (fld p 4 2 == 0 || inR (fld p 4 2) 500 20000)
    && vlanOkDef (fld p 6 2) && (fldBe p 8 6 == 0 || bit (fld p 8 1) 0) && fld p 14 2 == 0
    && (List.range n).all fun i => svcOk (svcOf p i)

/-- OPTS without PROMOTE, which is not stored. -/
def storedOpts (o : Nat) : Nat := o % 2 + o / 4 * 4

/-- The stored parameters. PRESUMED: the CRC covers the parameters as given, with PROMOTE 0. -/
def casConfigOf (p : Bytes) : CasConfig :=
  let o := storedOpts (fld p 1 1)
  { opts := o, minScore := if fld p 2 1 = 0 then 128 else fld p 2 1, presPorts := fld p 3 1
    hbTimeout := if fld p 4 2 = 0 then 2000 else fld p 4 2, presVlan := fld p 6 2
    presMac := if fldBe p 8 6 = 0 then 0x034E4C510001 else fldBe p 8 6
    svc := (List.range (fld p 0 1)).map (svcOf p), crc := crc32c (p.take 1 ++ le 1 o ++ p.drop 2) }

/-- A unit that PROMOTE can make ACTIVE. -/
def canPromote (s : State) : Bool := casActs s && (s.cas.role = .standby || s.cas.role = .stalemate)

/-- An ACTIVE partner has been heard within the last 3 slots. -/
def heardActive (s : State) : Bool := match s.cas.activeHeardAt with
  | some t => decide ((now s - t) * fnom s ≤ 3 * secU)
  | none => false

def casConfigCmd : Cmd :=
  { opcode := 0x0A01, sev := some 4, len := fun p n => n == 4 + 5 * fld p 0 1, field := fun _ p => casConfigField p
    run := fun s _ p _ =>
      let promote := bit (fld p 1 1) 1 && canPromote s
      if promote ∧ heardActive s then (s, 0x0201, [])
      else ({ s with cas := { s.cas with
        cfg := casConfigOf p
        promoteAt := if promote then some (slotAfter s (now s + usU 200)) else s.cas.promoteAt } }, 0, []) }

def execCasConfig (pk : Packet) (s : State) : Host.Outcome State Fault Refusal := command casConfigCmd pk s

/-! ## CAS_PAIR (13 R366) -/

def casPairCmd : Cmd := { opcode := 0x0A02, sev := some 4, flash := true, run := fun s w _ _ => casPairRun s w }

def execCasPair (pk : Packet) (s : State) : Host.Outcome State Fault Refusal := command casPairCmd pk s

/-! ## CAS_SWITCHOVER and CAS_RESYNC (14 R388, R393) -/

/-- CAS_SWITCHOVER; a standby takes the boundary that its partner chose. -/
def casSwitchoverRun (s : State) (w : Waiter) (e : Instant) : Answer :=
  if w.origin = .twin then ({ s with cas := { s.cas with switchAt := some (e, none) } }, 1, [])
  else if !casActs s ∨ !peerEligible s ∨ s.cas.switchAt.isSome then (s, 0x0302, [])
  else ({ s with cas := { s.cas with switchAt := some (e, some w) } }, 1, [])

def casSwitchoverCmd : Cmd :=
  { opcode := 0x0A03, stI := false, act := true, sev := some 4, effect := fun s _ => switchBoundary s
    run := fun s w _ e => casSwitchoverRun s w e }

def execCasSwitchover (pk : Packet) (s : State) : Host.Outcome State Fault Refusal := command casSwitchoverCmd pk s

/-- CAS_RESYNC: the ACTIVE unit starts, and its partner asks for it. Staged images are discarded (08 R215). A unit without a
partner over the link has nothing to bring in step. -/
def casResyncRun (s : State) (w : Waiter) : Answer :=
  if !casActs s ∨ !s.cas.twinUp ∨ (s.cas.role = .active ∧ !hasPartner s) then (s, 0x0302, [])
  else
    let s := dropExchange { s with cas := { s.cas with resyncWait := s.cas.resyncWait ++ [w] } }
    if s.cas.role = .active then (if s.cas.resync then s else resyncStart s, 1, [])
    else ({ s with cas := { s.cas with resyncReq := true } }, 1, [])

def casResyncCmd : Cmd :=
  { opcode := 0x0A04, stI := false, sev := some 4, run := fun s w _ _ => casResyncRun s w }

def execCasResync (pk : Packet) (s : State) : Host.Outcome State Fault Refusal := command casResyncCmd pk s

/-! ## CAS_STATUS (14 R398) -/

def divergeBytes (d : Option Divergence) : Bytes := match d with
  | some d => stampBytes d.slot ++ le 1 d.kind ++ zeros 1 ++ le 2 d.tid ++ stampBytes d.inst ++ le 4 d.cseq
  | none => zeros 24

/-- The partner holds another CAS_CONFIG. -/
def cfgDiffers (s : State) : Bool := s.cas.peerCrc.isSome && !casCfgMatch s

def casStatusBytes (s : State) : Bytes :=
  le 1 (roleCode s.cas.role)
    ++ le 1 (b2n (eligible s) + b2n s.cas.twinUp * 2 + b2n s.cas.hbOk * 4 + b2n s.cas.copyOk * 8 + b2n s.cas.resync * 16
      + b2n (oneLane s) * 32 + b2n (cfgDiffers s) * 64 + b2n s.pins.peerDet * 128)
    ++ le 1 (match s.cas.peerRole with
      | some r => roleCode r
      | none => 0xFF)
    ++ le 1 s.cas.score ++ le 1 (s.cas.peerHealth % 256) ++ le 1 s.cas.divcnt ++ zeros 2 ++ le 4 s.cas.term ++ le 4 s.cas.cseq
    ++ le 4 s.cas.commitPeak ++ le 4 s.cas.sakN ++ be 16 s.cas.peerId ++ divergeBytes s.cas.divRec

def casStatusCmd : Cmd := { opcode := 0x0A05, run := fun s _ _ _ => (s, 0, casStatusBytes s) }

def execCasStatus (pk : Packet) (s : State) : Host.Outcome State Fault Refusal := command casStatusCmd pk s

end Sys2Proof.Machine
end

