-- ==== Sys2Proof/Machine/CmdNet.lean ====
section
/-! DEFINITION. The commands of the network ports and the wake table (12 R316, R317, R324, R341, R342). -/

namespace Sys2Proof.Machine

/-! ## PORT_CONFIG -/

def portCfgOf (p : Bytes) : PortCfg :=
  { flags := fld p 1 1, maxFrame := if fld p 2 2 = 0 then 1522 else fld p 2 2, mac := fldBe p 4 6, ptpVlan := fld p 10 2
    pfcTx := fld p 12 1, pfcRx := fld p 13 1, xoff := (List.range 8).map fun c => fld p (16 + c) 1
    xon := (List.range 8).map fun c => fld p (24 + c) 1, ringXoff := fld p 32 2, rx0Pause := fld p 34 1, rx1Pause := fld p 35 1
    vlans := (List.range (fld p 14 1)).map fun i => fld p (36 + 2 * i) 2
    addrs := (List.range (fld p 15 1)).map fun i => (fldBe p (68 + 20 * i) 16, fld p (84 + 20 * i) 2, fld p (86 + 20 * i) 1) }

def portCfgField (p : Bytes) : Bool :=
  let c := portCfgOf p
  let n := fld p 0 1
  decide (n ≤ 5) && decide (c.flags < 64) && decide (c.flags / 8 % 4 ≤ 2) && (c.flags % 4 == 0 || n == 2 || n == 4)
    && (!bit c.flags 5 || decide (2 ≤ n)) && inR c.maxFrame 1522 9216 && !bit (fld p 4 1) 0 && decide (c.ptpVlan ≤ 4094)
    && decide (fld p 14 1 ≤ 16) && inR (fld p 15 1) 1 8
    && (c.xoff.zip c.xon).all (fun e => inR e.1 8 48 && inR e.2 1 (e.1 - 1)) && decide (c.ringXoff ≤ 1024)
    && c.vlans.all (fun v => decide (v ≤ 4094)) && isZero (slice p (36 + 2 * fld p 14 1) (32 - 2 * fld p 14 1))
    && c.addrs.all (fun a => vlanOkDef a.2.1 && prefixOk a.1 a.2.2)
    && (List.range (fld p 15 1)).all fun i => fld p (87 + 20 * i) 1 == 0

/-- The new settings; neighbours on no subnet of the new ADDRS are removed. -/
def portConfig (n : Nat) (c : PortCfg) (s : State) : State :=
  let r := port s n
  let near := fun (a : Nat) => c.addrs.any fun e => onSubnet a e.1 e.2.2
  setPort n { r with cfg := c, neigh := mfilter r.neigh fun a _ => near a, neighUse := r.neighUse.filter near } s

def portConfigCmd : Cmd :=
  { opcode := 0x0D01, sev := some 2, len := fun p n => n == 17 + 5 * fld p 15 1, field := fun _ p => portCfgField p
    run := fun s _ p _ => (portConfig (fld p 0 1) (portCfgOf p) s, 0, []) }

def execPortConfig (pk : Packet) (s : State) : Host.Outcome State Fault Refusal := command portConfigCmd pk s

/-! ## WAKE_SET -/

def wakeSetCmd : Cmd :=
  { opcode := 0x0D03, sev := some 2, len := words 37
    field := fun _ p => decide (fld p 0 1 ≤ 7) && decide (fld p 1 1 ≤ 3) && fld p 2 2 == 0
    run := fun s _ p _ =>
      let e : WakeEntry := { ports := fld p 1 1, pattern := slice p 4 128, mask := slice p 132 16 }
      ({ s with wake := mput s.wake (fld p 0 1) e }, 0, []) }

def execWakeSet (pk : Packet) (s : State) : Host.Outcome State Fault Refusal := command wakeSetCmd pk s

/-! ## PORT_STATUS -/

def portStatusBytes (s : State) (n : Nat) : Bytes :=
  let r := port s n
  let paused := bitmapOf ((List.range 8).filter (classPaused s n))
  le 1 n ++ le 1 (b2n r.up + b2n (bit r.cfg.flags 5) * 2 + b2n r.phyFault * 4) ++ le 1 (pausingByte r) ++ le 1 paused
    ++ le 4 r.linkDowns ++ ((List.range 18).map fun i => le 4 (mgetD r.counts i 0)).flatten

def portStatusCmd : Cmd :=
  { opcode := 0x0D04, len := words 1, field := fun _ p => decide (fld p 0 1 ≤ 5) && fld p 1 3 == 0
    run := fun s _ p _ => (s, 0, portStatusBytes s (fld p 0 1)) }

def execPortStatus (pk : Packet) (s : State) : Host.Outcome State Fault Refusal := command portStatusCmd pk s

/-! ## Forwarded commands (14 R382) -/

/-- Every Act command by its OPCODE. -/
def actCmd (opcode : Nat) : Option Cmd :=
  [streamDefineCmd, streamDeleteCmd, channelDefineCmd, groupDefineCmd, templateDefineCmd, schedLoadCmd, schedSwapCmd, detDefineCmd,
   detAckCmd, progLoadCmd, progStartCmd, progStopCmd, progSetValuesCmd, progForceCmd, vchOpenCmd, vchModifyCmd, vchCloseCmd,
   flowSetCmd, capDefineCmd, capArmCmd, capTriggerCmd, casSwitchoverCmd, outDefineCmd].find? fun c => c.opcode == opcode

/-- A forwarded command is executed with ORIGIN 2; one that is refused is a divergence (14 R382, R387). -/
def runForwarded (opcode : Nat) (pk : Packet) (effect : Instant) (s : State) : State :=
  let s := count 230 s
  match actCmd opcode with
  | none => s
  | some c =>
    let (s, st) := runCommand c { pk with origin := .twin } effect s
    if 2 ≤ st then diverge 5 0 0 s.cas.cseq (slotFloor s (now s)) s else s

/-- TWIN_CMD_RECEIVED: the standby executes the command. DESIGN CHOICE: while its control firmware is faulted the command waits
(01 R16). -/
def execTwinCmdReceived (opcode : Nat) (pk : Packet) (effect : Instant) (authOk : Bool) (s : State) :
    Host.Outcome State Fault Refusal :=
  let (ok, s) := twinTake authOk s
  if !ok ∨ s.cas.role = .active ∨ s.cas.role = .solo then done s
  else if fwDown s then done { s with cas := { s.cas with fwdWait := s.cas.fwdWait ++ [(opcode, pk, effect)] } }
  else done (runForwarded opcode pk effect s)

/-- CONTROL_FW_RECOVERY: replies that wait are posted, and commands that wait are executed. -/
def execControlFwRecovery (s : State) : Host.Outcome State Fault Refusal :=
  if s.pwr.fwFault then
    let s := drainReplies { s with pwr := { s.pwr with fwFault := false } }
    done (serve (s.cas.fwdWait.foldl (fun s x => runForwarded x.1 x.2.1 x.2.2 s) { s with cas := { s.cas with fwdWait := [] } }))
  else done s

end Sys2Proof.Machine
end

