-- ==== Sys2Proof/Machine/Registers.lean ====
section
/-! DEFINITION. The register maps of BAR0 and of the management port, the command and reply rings' registers, and the
management port's requests (02 R26-R28, R40-R44; 17 R437, R438). -/

namespace Sys2Proof.Machine

/-! ## Reads, block by block (02 R40) -/

/-- GLB_ID: family 0x0A, step 0x10, device 0x8848. -/
def glbId : Nat := 0x8848100A

/-- Word k of the pending-bit array. -/
def pendWord (s : State) (k : Nat) : Nat := 
  bitmapOf ((List.range 32).filter fun b => mgetD s.glb.vecPend (32 * k + b) false)

def readGlb (s : State) (off : Nat) : Nat :=
  match off with
  | 0x00 => glbId
  | 0x04 => glbStateWord s
  | 0x10 => s.glb.irqStatus.toNat
  | 0x14 => s.glb.irqEnable.toNat
  | 0x20 => s.glb.temp.toNat
  | 0x30 => s.glb.scratch.toNat
  | 0x40 => b2n s.glb.trcEn + s.glb.trcTypes.toNat * 4
  | 0x44 => s.glb.trcGidLo + s.glb.trcGidHi * 65536
  | 0x48 => s.glb.trcTidLo + s.glb.trcTidHi * 65536
  | 0x4C => s.glb.trcQ
  | _ =>
    if 0x800 ≤ off ∧ off < 0x1000 then (vecWord s ((off - 0x800) / 4)).toNat
    else if 0x1000 ≤ off ∧ off < 0x1010 then pendWord s ((off - 0x1000) / 4)
    else 0

/-- CMDQ_CTRL.IDLE: no host command is between its start and its only reply. -/
def cmdqIdle (s : State) : Bool :=
  let host := fun (w : Option Waiter) => match w with
    | some w => decide (w.origin = .host)
    | none => false
  !host (s.gh.pairWait.map (·.1)) && !host (s.pwr.dormantWait.getD none)

def readCmdq (s : State) (off : Nat) : Nat :=
  match off with
  | 0x00 => s.cmd.cqBaseLo
  | 0x04 => s.cmd.cqBaseHi
  | 0x08 => s.cmd.cqSize
  | 0x0C => s.cmd.cqTail
  | 0x10 => s.cmd.cqHead
  | 0x14 => b2n s.cmd.cqEn + b2n (cmdqIdle s) * 2
  | 0x20 => s.cmd.rqBaseLo
  | 0x24 => s.cmd.rqBaseHi
  | 0x28 => s.cmd.rqSize
  | 0x2C => s.cmd.rqTail
  | 0x30 => s.cmd.rqHead
  | 0x34 => b2n s.cmd.rqEn
  | _ => 0

def readOq (s : State) (n r : Nat) : Nat :=
  let q := oq s n
  match r with
  | 0x00 => b2n q.en + b2n q.notice * 4 + b2n q.dma * 8
  | 0x04 => oqStatusWord s n
  | 0x08 => oqLevel q
  | 0x0C => q.qtmo
  | 0x10 => q.ringLo
  | 0x14 => q.ringHi
  | 0x18 => q.ringSize
  | 0x1C => q.ringTail
  | 0x20 => q.ringHead
  | _ => 0

def readIq (s : State) (m r : Nat) : Nat :=
  let q := iq s m
  match r with
  | 0x00 => b2n q.en + b2n q.notice * 4 + b2n q.dma * 8
  | 0x04 => iqStatusWord s m
  | 0x08 => iqLevel q
  | 0x0C => q.qtmo
  | 0x10 => q.ringLo
  | 0x14 => q.ringHi
  | 0x18 => q.ringSize
  | 0x1C => q.ringTail
  | 0x20 => q.ringHead
  | _ => 0

def readNetRing (s : State) (p r off : Nat) : Nat :=
  let g := netRing s p r
  match off with
  | 0x00 => g.lo
  | 0x04 => g.hi
  | 0x08 => g.size
  | 0x0C => g.tail
  | 0x10 => g.head
  | 0x14 => b2n g.en
  | _ => 0

/-- The per-port registers that have no effect when read. -/
def readNetPort (s : State) (p off : Nat) : Nat :=
  let r := port s p
  match off with
  | 0x84 => r.popSec
  | 0x88 => r.popFrac
  | 0x8C => r.ovfFirst + r.ovfLast * 65536
  | 0x90 => r.lost + b2n r.ovf * 2 ^ 31
  | 0x94 => r.irq.toNat
  | _ => 0

def readTb (s : State) (off : Nat) : Nat :=
  match off with
  | 0x00 => tbCtrlWord s
  | 0x04 => tbStatusWord s
  | 0x0C => s.tb.snapSec / 2 ^ 32 % 65536
  | 0x10 => s.tb.snapSec % 2 ^ 32
  | 0x14 => s.tb.snapFrac
  | 0x18 => utcOffsetAt s (now s)
  | 0x1C => tbSlotWord s
  | _ => 0

def readRec (m : Master) (s : State) (off : Nat) : Nat :=
  let c := recCursor s m
  if off < 0x100 then
    match c.copy with
    | some r => fld (recBytes r) (256 * c.page + off) 4
    | none => 0
  else match off with
    | 0x100 => match c.copy with
      | some r => r.seq
      | none => 0
    | 0x108 => c.seek
    | 0x10C => b2n c.copy.isSome + b2n c.edge * 2 + (match c.copy with
      | some r => recLen r
      | none => 0) * 65536
    | 0x110 => c.page
    | 0x118 => s.rcd.discards
    | 0x11C => b2n s.rcd.owed
    | _ => 0

def readCas (s : State) (off : Nat) : Nat :=
  match off with
  | 0x00 => casRoleWord s
  | 0x04 => casStatusWord s
  | 0x08 => casHealthWord s
  | 0x0C => s.cas.peerHealth
  | 0x10 => s.cas.irq.toNat
  | _ => 0

def readAon (s : State) (off : Nat) : Nat :=
  match off with
  | 0x00 => aonStatusWord s
  | 0x0C => s.pwr.aonAlert.toNat
  | 0x10 => s.pwr.aonAlertEn.toNat
  | _ => 0

def cntLatch (s : State) : Master → Option Nat
  | .host => s.cntHost
  | .mgp => s.cntMgp

def setCntLatch (m : Master) (v : Option Nat) (s : State) : State :=
  match m with
  | .host => { s with cntHost := v }
  | .mgp => { s with cntMgp := v }

/-- A 64-bit read returns the counter coherently, low word first (02 R40). -/
def readCntWide (s : State) (n : Nat) : List Nat := [counter s n % 2 ^ 32, counter s n / 2 ^ 32]

/-- A 32-bit read of a counter: its low word latches the high word for the port's next high-word read. -/
def readCnt (m : Master) (off : Nat) (s : State) : Nat × State :=
  let v := counter s (off / 8)
  if 4096 ≤ off then (0, s)
  else if off % 8 = 0 then (v % 2 ^ 32, setCntLatch m (some (v / 2 ^ 32)) s)
  else ((cntLatch s m).getD (v / 2 ^ 32), setCntLatch m none s)

/-- A 32-bit read of the RTC block (15 R406). -/
def readRtc (m : Master) (off : Nat) (s : State) : Nat × State :=
  let i := off / 4
  if i < 8 then
    let s := rtcReadT m s
    (rtcShadow s m i, if i = 7 ∧ !s.rtc.locked then rtcRelease m s else s)
  else if i < 15 then (rtcReg (rtcPort s.rtc m).w 0 (i - 8), s)
  else if i = 17 then (rtcStatusWord s.rtc, s)
  else (0, s)

/-- An aligned 32-bit read by a port; an unmapped offset reads 0 (02 R40, R41). -/
def readReg (m : Master) (addr : Nat) (s : State) : Nat × State :=
  let off := addr % 65536
  if addr % 4 ≠ 0 then (0, s)
  else match addr / 65536 with
    | 0x00 => (readGlb s off, s)
    | 0x01 => (readCmdq s off, s)
    | 0x02 => (if off < 0x1000 then readOq s (off / 64) (off % 64) else 0, s)
    | 0x03 => (if off < 0x400 then readIq s (off / 64) (off % 64) else 0, s)
    | 0x04 =>
      let p := off / 256
      let o := off % 256
      if 6 ≤ p then (0, s)
      else if o < 0x80 then (readNetRing s p (o / 32) (o % 32), s)
      else if o = 0x80 then popTsq p s
      else (readNetPort s p o, s)
    | 0x05 => if off < 0x8000 then (readTb s off, s) else readRtc m (off - 0x8000) s
    | 0x06 => (readRec m s off, s)
    | 0x07 => readCnt m off s
    | 0x08 => (readCas s off, s)
    | 0xF0 => (if m = .mgp then readAon s off else 0, s)
    | _ => (0, s)

/-! ## Writes, block by block -/

/-- A write of a word of the MSI-X table; a vector whose mask clears is no longer pending. -/
def writeVec (i v : Nat) (s : State) : State :=
  let w : Nat := if i % 4 = 0 then v / 4 * 4 else if i % 4 = 3 then v % 2 else v
  let s := { s with glb := { s.glb with vecTab := mput s.glb.vecTab i (BitVec.ofNat 32 w) } }
  if i % 4 = 3 ∧ w = 0 then { s with glb := { s.glb with vecPend := mdel s.glb.vecPend (i / 4) } } else s

/-- A write of GLB_IRQ_ENABLE; a bit that is set and becomes enabled raises vector 1 (02 R42). -/
def writeIrqEnable (v : Nat) (s : State) : State :=
  let e := BitVec.ofNat 9 v
  let rises := s.glb.irqStatus &&& e &&& ~~~s.glb.irqEnable
  let s := { s with glb := { s.glb with irqEnable := e } }
  if rises = 0 then s else raiseVector 1 s

def writeGlb (off v : Nat) (s : State) : State :=
  match off with
  | 0x10 => { s with glb := { s.glb with irqStatus := s.glb.irqStatus &&& ~~~(BitVec.ofNat 9 v) } }
  | 0x14 => writeIrqEnable v s
  | 0x30 => { s with glb := { s.glb with scratch := BitVec.ofNat 32 v } }
  | 0x40 => { s with glb := { s.glb with trcEn := bit v 0, trcTypes := BitVec.ofNat 6 (v / 4) } }
  | 0x44 => { s with glb := { s.glb with trcGidLo := bits v 9 0, trcGidHi := bits v 25 16 } }
  | 0x48 => { s with glb := { s.glb with trcTidLo := bits v 13 0, trcTidHi := bits v 29 16 } }
  | 0x4C => { s with glb := { s.glb with trcQ := v % 128 } }
  | _ => if 0x800 ≤ off ∧ off < 0x1000 then writeVec ((off - 0x800) / 4) v s else s

/-- LOG2N from 2 to 10. -/
def cmdRingSizeOk (n : Nat) : Bool := decide (2 ≤ n) && decide (n ≤ 10)

/-- RPLQ_CTRL.EN rises: the ring starts empty, and the replies that waited for it are posted (02 R28, R40). -/
def startReplyRing (s : State) : State :=
  serve (drainReplies { s with cmd := { s.cmd with rqEn := true, rqTail := 0, rqHead := 0 } })

/-- CMDQ_CTRL.EN rises: the ring starts empty (02 R27, R40). -/
def startCmdRing (s : State) : State :=
  { s with cmd := { s.cmd with cqEn := true, cqTail := 0, cqHead := 0, unknown := [] } }

/-- A write of CMDQ_CTRL (reply false) or RPLQ_CTRL (reply true). Replies that waited for a stopped ring are posted once it
runs again (02 R28, R40). -/
def writeRingCtrl (reply en : Bool) (s : State) : State :=
  if reply then
    if !en then { s with cmd := { s.cmd with rqEn := false } }
    else if s.cmd.rqEn then s
    else if cmdRingSizeOk s.cmd.rqSize then startReplyRing s
    else setIrq 6 s
  else
    if !en then { s with cmd := { s.cmd with cqEn := false } }
    else if s.cmd.cqEn then s
    else if cmdRingSizeOk s.cmd.cqSize then startCmdRing s
    else setIrq 6 s

/-- A CMDQ_TAIL that lies in the ring and does not pass CMDQ_HEAD (02 R27). -/
def tailOk (s : State) (t : Nat) : Bool :=
  let n := ringLen s.cmd.cqSize
  decide (t < n) && decide ((s.cmd.cqTail + n - s.cmd.cqHead) % n ≤ (t + n - s.cmd.cqHead) % n)

/-- A write of CMDQ_TAIL, the doorbell (02 R27). -/
def writeCmdqTail (v : Nat) (s : State) : State :=
  if tailOk s (v % 1024) then { s with cmd := { s.cmd with cqTail := v % 1024 } } else setIrq 6 s

/-- A write of RPLQ_HEAD; replies that waited for room are posted (02 R28). -/
def writeRplqHead (v : Nat) (s : State) : State :=
  let s := { s with cmd := { s.cmd with rqHead := v % 1024 } }
  if s.cmd.rqEn then serve (drainReplies s) else s

def writeCmdq (off v : Nat) (s : State) : State :=
  let base := v / 4096 * 4096
  match off with
  | 0x00 => if s.cmd.cqEn then s else { s with cmd := { s.cmd with cqBaseLo := base } }
  | 0x04 => if s.cmd.cqEn then s else { s with cmd := { s.cmd with cqBaseHi := v } }
  | 0x08 => if s.cmd.cqEn then s else { s with cmd := { s.cmd with cqSize := v % 16 } }
  | 0x0C => writeCmdqTail v s
  | 0x14 => writeRingCtrl false (bit v 0) s
  | 0x20 => if s.cmd.rqEn then s else { s with cmd := { s.cmd with rqBaseLo := base } }
  | 0x24 => if s.cmd.rqEn then s else { s with cmd := { s.cmd with rqBaseHi := v } }
  | 0x28 => if s.cmd.rqEn then s else { s with cmd := { s.cmd with rqSize := v % 16 } }
  | 0x30 => writeRplqHead v s
  | 0x34 => writeRingCtrl true (bit v 0) s
  | _ => s

/-- A stale-tail or coalescing time: 0, or 10 to 100,000 µs. -/
def qtmoOk (v : Nat) : Bool := v == 0 || (decide (10 ≤ v) && decide (v ≤ 100000))

def writeOq (n r v : Nat) (s : State) : State :=
  let q := oq s n
  let base := v / 4096 * 4096
  let us := v % 2 ^ 17
  match r with
  | 0x00 => writeOqCtrl n v s
  | 0x04 => if bit v 4 then setOq n { q with stale := false } s else s
  | 0x0C => if qtmoOk us then setOq n { q with qtmo := us } s else s
  | 0x10 => if q.en then s else setOq n { q with ringLo := base } s
  | 0x14 => if q.en then s else setOq n { q with ringHi := v } s
  | 0x18 => if q.en then s else setOq n { q with ringSize := v % 32 } s
  | 0x20 => oqHeadWrite n (v % 65536) s
  | _ => s

def writeIq (m r v : Nat) (s : State) : State :=
  let q := iq s m
  let base := v / 4096 * 4096
  let us := v % 2 ^ 17
  match r with
  | 0x00 => writeIqCtrl m v s
  | 0x0C => if qtmoOk us then setIq m { q with qtmo := us } s else s
  | 0x10 => if q.en then s else setIq m { q with ringLo := base } s
  | 0x14 => if q.en then s else setIq m { q with ringHi := v } s
  | 0x18 => if q.en then s else setIq m { q with ringSize := v % 32 } s
  | 0x1C => iqDoorbell m (v % 65536) [] s
  | _ => s

def writeNetRing (p r off v : Nat) (s : State) : State :=
  let g := netRing s p r
  match off with
  | 0x00 => setRing p r { g with lo := v / 4096 * 4096 } s
  | 0x04 => setRing p r { g with hi := v } s
  | 0x08 => setRing p r { g with size := v % 16 } s
  | 0x0C => writeNetTail p r (v % 4096) [] s
  | 0x14 => setRing p r { g with en := bit v 0 } s
  | _ => s

def writeNetPort (p off v : Nat) (s : State) : State :=
  match off with
  | 0x90 => if bit v 31 then clearTsqOvf p s else s
  | 0x94 => setPort p { port s p with irq := (port s p).irq &&& ~~~(BitVec.ofNat 6 v) } s
  | _ => s

/-- A staged RTC_W register; in the calendar view the second and the minute are seven bits wide (02 R40). -/
def rtcWPut (cal : Bool) (w : RtcRegs) (i v : Nat) : RtcRegs :=
  match i with
  | 0 => { w with sub := v % 2 ^ 15 }
  | 1 => { w with r1 := if cal then v % 128 else v }
  | 2 => { w with r2 := if cal then v % 128 else v % 256 }
  | 3 => { w with hour := v % 64 }
  | 4 => { w with day := bits v 5 0, wday := bits v 10 8 }
  | 5 => { w with month := v % 32 }
  | 6 => { w with year := v % 65536 }
  | _ => w

/-- A write of RTC_CMD: one bit commands, and a write that sets more than one is ignored (15 R401). Every write is
recorded (02 R25). -/
def writeRtcCmd (m : Master) (v : Nat) (s : State) : State :=
  match v % 8 with
  | 1 => rtcSet m v s
  | 2 => rtcMode m false v s
  | 4 => rtcMode m true v s
  | 0 => rtcIgnored m v 0 s
  | _ => rtcIgnored m v 0x0103 s

/-- A write to the RTC block; while the interface is locked the W registers and RTC_CMD take none (15 R416). -/
def writeRtc (m : Master) (off v : Nat) (s : State) : State :=
  let i := off / 4
  if 8 ≤ i ∧ i < 16 then
    if s.rtc.locked then s
    else setRtcPort m { rtcPort s.rtc m with w := rtcWPut s.rtc.calendar (rtcPort s.rtc m).w (i - 8) v } s
  else if i = 16 then writeRtcCmd m v s
  else if i = 17 then
    { s with rtc := { s.rtc with lost := s.rtc.lost && !bit v 2, impossible := s.rtc.impossible && !bit v 4 } }
  else s

/-- A write of REC_CMD.OP (16 R429). -/
def writeRecCmd (m : Master) (op : Nat) (s : State) : State :=
  match op with
  | 1 => recMove m (recNext s m) s
  | 2 => recMove m (recPrev s m) s
  | 3 => recMove m s.rcd.live.head? s
  | 4 => recMove m s.rcd.live.getLast? s
  | 5 => recMove m (recSeek s (recCursor s m).seek) s
  | _ => s

def writeRec (m : Master) (off v : Nat) (s : State) : State :=
  let c := recCursor s m
  match off with
  | 0x104 => writeRecCmd m (v % 8) s
  | 0x108 => setRecCursor m { c with seek := v } s
  | 0x110 => setRecCursor m { c with page := v % 4 } s
  | 0x114 => recClear m v s
  | _ => s

def writeCas (off v : Nat) (s : State) : State :=
  match off with
  | 0x04 => if bit v 3 then { s with cas := { s.cas with diverge := false } } else s
  | 0x10 => { s with cas := { s.cas with irq := s.cas.irq &&& ~~~(BitVec.ofNat 5 v) } }
  | _ => s

/-- A write to the AON block (02 R44; 18 R447, R451). -/
def writeAon (off v : Nat) (s : State) : State :=
  match off with
  | 0x04 => aonPwr v (v % 4) s
  | 0x08 => if bit v 0 then aonCold v s else if bit v 1 then aonWarm v s else aonRecord 0xF004 v 0 s
  | 0x0C => { s with pwr := { s.pwr with aonAlert := s.pwr.aonAlert &&& ~~~(BitVec.ofNat 4 v) } }
  | 0x10 => { s with pwr := { s.pwr with aonAlertEn := BitVec.ofNat 4 v } }
  | _ => s

/-- An aligned 32-bit write by a port; a write to an unmapped offset is ignored (02 R40). -/
def writeReg (m : Master) (addr v : Nat) (s : State) : State :=
  let off := addr % 65536
  if addr % 4 ≠ 0 then s
  else match addr / 65536 with
    | 0x00 => writeGlb off v s
    | 0x01 => writeCmdq off v s
    | 0x02 => if off < 0x1000 then writeOq (off / 64) (off % 64) v s else s
    | 0x03 => if off < 0x400 then writeIq (off / 64) (off % 64) v s else s
    | 0x04 =>
      let p := off / 256
      let o := off % 256
      if 6 ≤ p then s
      else if o < 0x80 then writeNetRing p (o / 32) (o % 32) v s
      else writeNetPort p o v s
    | 0x05 =>
      if off < 0x8000 then (if off = 0x08 ∧ bit v 0 then tbSnap s else s) else writeRtc m (off - 0x8000) v s
    | 0x06 => writeRec m off v s
    | 0x08 => writeCas off v s
    | 0xF0 => if m = .mgp then writeAon off v s else s
    | _ => s

/-! ## The management port's map (02 R44) -/

/-- GLB, RTC, REC, CNT, CAS and AON, each up to where the next block begins. -/
def inMgpMap (addr : Nat) : Bool :=
  addr % 4 == 0 && (addr / 65536 == 0 || (decide (0x58000 ≤ addr) && decide (addr < 0x90000)) || addr / 65536 == 0xF0)

/-- What the always-on controller serves while the main side is down. -/
def servedDown (addr : Nat) : Bool :=
  addr == 0 || addr == 4 || (decide (0x58000 ≤ addr) && decide (addr < 0x70000)) || addr / 65536 == 0xF0

/-- STATUS of an access to a register. -/
def mgpStatus (s : State) (addr : Nat) : Nat :=
  if !inMgpMap addr then 3 else if mainDown s ∧ !servedDown addr then 5 else 0

/-! ## Rows of registers -/

/-- The slot lies among those between an old and a new CMDQ_TAIL. -/
def slotPosted (s : State) (old slot : Nat) : Bool :=
  let n := ringLen s.cmd.cqSize
  decide (slot < n) && decide ((slot + n - old) % n < (s.cmd.cqTail + n - old) % n)

/-- CMDQ_DOORBELL (02 R27). A posted command whose OPCODE the table does not hold is refused in its turn (02 R24, R34). -/
def execCmdqDoorbell (value : Nat) (unknown : List UnknownCmd) (s : State) : Host.Outcome State Fault Refusal :=
  if portAlive s .host then
    let old := s.cmd.cqTail
    let s := writeCmdqTail value s
    let new := unknown.filter fun u => !opcodes.contains u.opcode && decide (u.pk.origin = .host) && slotPosted s old u.slot
    done (serve { s with cmd := { s.cmd with unknown := new.foldl (fun m u => mput m u.slot u) s.cmd.unknown } })
  else done s

/-- RPLQ_HEAD_WRITE (02 R28). -/
def execRplqHeadWrite (value : Nat) (s : State) : Host.Outcome State Fault Refusal :=
  done (if portAlive s .host then writeRplqHead value s else s)

/-- CMDQ_CTRL_EN_SET (02 R40). -/
def execCmdqCtrlEnSet (reply : Bool) (s : State) : Host.Outcome State Fault Refusal :=
  done (if portAlive s .host then writeRingCtrl reply true s else s)

/-- CMDQ_CTRL_EN_CLEAR (02 R40). -/
def execCmdqCtrlEnClear (reply : Bool) (s : State) : Host.Outcome State Fault Refusal :=
  done (if portAlive s .host then writeRingCtrl reply false s else s)

/-- CNT_LOW_WORD_READ: a 32-bit read of the low word, or over PCIe a 64-bit read (02 R40). -/
def execCntLowWordRead (m : Master) (r : CntRead) (s : State) : Host.Outcome State Fault Refusal :=
  if !portAlive s m ∨ mainDown s then done s
  else if m = .host ∧ r.wide then done (emit (.readData m (readCntWide s r.n)) s)
  else
    let (v, s) := readCnt m (8 * r.n.val) s
    done (emit (.readData m [v]) s)

/-- REGISTER_WRITE (02 R40, R44). -/
def execRegisterWrite (m : Master) (addr : Nat) (value : Word32) (s : State) : Host.Outcome State Fault Refusal :=
  if portAlive s m ∧ (m = .mgp → mgpStatus s addr = 0) then done (writeReg m addr value.toNat s) else done s

/-! ## Requests of the management port (02 R43) -/

/-- The bytes of a request before its CRC. -/
def mgpBytes (op addr : Nat) (rest : Bytes) : Bytes := be 1 op ++ be 3 addr ++ rest

def mgpCrcOk (op addr : Nat) (rest : Bytes) (crc : Nat) : Bool := crc8 (mgpBytes op addr rest) == crc

/-- The bytes of a response: 0x5A, STATUS, the data words most significant byte first, and the CRC-8 of STATUS and data. -/
def mgpFrame (status : Nat) (words : List Nat) : Bytes :=
  let b := be 1 status ++ (words.map fun w => be 4 w).flatten
  be 1 0x5A ++ b ++ be 1 (crc8 b)

def mgpAnswer (status : Nat) (words : List Nat) (s : State) : Host.Outcome State Fault Refusal :=
  done (emit (.mgpResp (mgpFrame status words)) s)

/-- MGP_READ32. A request whose OP byte is none of the table's comes with this row, op being that byte: it is answered
STATUS 0x02. The row with the OP of another request is no request. -/
def execMgpRead32 (h : MgpHead) (crc : Nat) (s : State) : Host.Outcome State Fault Refusal :=
  if s.pwr.ps = .off ∨ (2 ≤ h.op ∧ h.op ≤ 5) then done s
  else if !mgpCrcOk h.op h.addr [] crc then mgpAnswer 1 [] s
  else if h.op ≠ 1 then mgpAnswer 2 [] s
  else if mgpStatus s h.addr ≠ 0 then mgpAnswer (mgpStatus s h.addr) [] s
  else
    let (v, s) := readReg .mgp h.addr s
    mgpAnswer 0 [v] s

/-- MGP_WRITE32. -/
def execMgpWrite32 (addr : Nat) (value : Word32) (crc : Nat) (s : State) : Host.Outcome State Fault Refusal :=
  if s.pwr.ps = .off then done s
  else if !mgpCrcOk 2 addr (be 4 value.toNat) crc then mgpAnswer 1 [] s
  else if mgpStatus s addr ≠ 0 then mgpAnswer (mgpStatus s addr) [] s
  else mgpAnswer 0 [] (writeReg .mgp addr value.toNat s)

/-- COUNT of 1 to 64. Of a request with another the spec does not say the STATUS: it is free, and nothing is done. -/
def mgpCountOk (n : Nat) : Bool := decide (1 ≤ n) && decide (n ≤ 64)

def mgpOddCount (s : State) : Host.Outcome State Fault Refusal :=
  let (v, s) := drawFree s
  mgpAnswer (v % 256) [] s

/-- Consecutive words, read in turn. -/
def mgpReadWords : List Nat → State → List Nat × State
  | [], s => ([], s)
  | a :: as, s =>
    let (v, s) := readReg .mgp a s
    let (vs, s) := mgpReadWords as s
    (v :: vs, s)

/-- MGP_READ_BURST: the first word that is not served gives the STATUS. -/
def execMgpReadBurst (addr count crc : Nat) (s : State) : Host.Outcome State Fault Refusal :=
  let as := (List.range count).map fun i => addr + 4 * i
  if s.pwr.ps = .off then done s
  else if !mgpCrcOk 3 addr (be 1 count) crc then mgpAnswer 1 [] s
  else if !mgpCountOk count then mgpOddCount s
  else match as.find? (fun a => mgpStatus s a != 0) with
    | some a => mgpAnswer (mgpStatus s a) [] s
    | none =>
      let (vs, s) := mgpReadWords as s
      mgpAnswer 0 vs s

/-- Words at a byte offset of the mailbox, each least significant byte first as packets are. -/
def mailWrite (off : Nat) (words : List Word32) (s : State) : State :=
  let bytes := (words.map fun w => le 4 w.toNat).flatten
  let at_ := ((List.range bytes.length).zip bytes).filter fun e => decide (off + e.1 < 4096)
  { s with cmd := { s.cmd with mailbox := at_.foldl (fun m e => mput m (off + e.1) e.2) s.cmd.mailbox } }

/-- The command is submitted: the mailbox holds its reply alone from now on. One whose OPCODE the table does not hold is
refused in its turn (02 R34). -/
def mailSubmit (s : State) : State :=
  serve { s with cmd := { s.cmd with mailSubmitted := true, replyBox := none } }

/-- A command of the mailbox is in progress: submitted and neither answered nor registered as QUEUED (02 R24, R43). -/
def mailBusy (s : State) : Bool :=
  let mine := fun (w : Option Waiter) => match w with
    | some w => decide (w.origin = .mgp)
    | none => false
  s.cmd.mailSubmitted || mine (s.gh.pairWait.map (·.1)) || mine (s.pwr.dormantWait.getD none)

/-- MGP_CMD_PUSH: ADDR[11:0] is the byte offset, and ADDR[23] submits the command (02 R43, R44). -/
def execMgpCmdPush (addr count : Nat) (words : List Word32) (crc : Nat) (s : State) : Host.Outcome State Fault Refusal :=
  if s.pwr.ps = .off then done s
  else if !mgpCrcOk 4 addr (be 1 count ++ (words.map fun w => be 4 w.toNat).flatten) crc then mgpAnswer 1 [] s
  else if !mgpCountOk count then mgpOddCount s
  else if mailBusy s then mgpAnswer 4 [] s
  else
    let s := mailWrite (addr % 4096) (words.take count) s
    mgpAnswer 0 [] (if bit addr 23 then mailSubmit s else s)

/-- A reply as it lies in memory (02 R33). -/
def replyBytes (r : Reply) : Bytes :=
  let d := padTo 4 r.result
  le 2 r.status ++ le 2 r.opcode ++ le 2 r.tag ++ le 2 (d.length / 4) ++ le 4 (originCode r.origin + b2n r.final * 256)
    ++ le 4 (crc32c d) ++ d

/-- MGP_CMD_POP (02 R43, R44). -/
def execMgpCmdPop (addr count crc : Nat) (s : State) : Host.Outcome State Fault Refusal :=
  if s.pwr.ps = .off then done s
  else if !mgpCrcOk 5 addr (be 1 count) crc then mgpAnswer 1 [] s
  else if !mgpCountOk count then mgpOddCount s
  else match s.cmd.replyBox with
    | none => mgpAnswer 4 [] s
    | some r => mgpAnswer 0 ((List.range count).map fun i => fld (replyBytes r) (addr % 4096 + 4 * i) 4) s

end Sys2Proof.Machine
end

