-- ==== Sys2Proof/Machine/Dispatch.lean ====
section
/-! DEFINITION. One arm for each row of the table: a direct call of the row's meaning. -/

namespace Sys2Proof.Machine

/-- The effect of one command or event on everything but the queue. -/
def exec (i : Instr) (s : State) : Host.Outcome State Fault Refusal :=
  match i with
  | .getInfo pk => Sys2Proof.Machine.execGetInfo pk s
  | .getState pk => Sys2Proof.Machine.execGetState pk s
  | .start pk => Sys2Proof.Machine.execStart pk s
  | .stop pk => Sys2Proof.Machine.execStop pk s
  | .warmReset pk => Sys2Proof.Machine.execWarmReset pk s
  | .powerCtrl pk => Sys2Proof.Machine.execPowerCtrl pk s
  | .fwLoad pk => Sys2Proof.Machine.execFwLoad pk s
  | .fwCommit pk => Sys2Proof.Machine.execFwCommit pk s
  | .cfgSave pk => Sys2Proof.Machine.execCfgSave pk s
  | .streamDefine pk => Sys2Proof.Machine.execStreamDefine pk s
  | .streamDelete pk => Sys2Proof.Machine.execStreamDelete pk s
  | .channelDefine pk => Sys2Proof.Machine.execChannelDefine pk s
  | .groupDefine pk => Sys2Proof.Machine.execGroupDefine pk s
  | .templateDefine pk => Sys2Proof.Machine.execTemplateDefine pk s
  | .streamStatus pk => Sys2Proof.Machine.execStreamStatus pk s
  | .schedLoad pk => Sys2Proof.Machine.execSchedLoad pk s
  | .schedSwap pk => Sys2Proof.Machine.execSchedSwap pk s
  | .schedStatus pk => Sys2Proof.Machine.execSchedStatus pk s
  | .detDefine pk => Sys2Proof.Machine.execDetDefine pk s
  | .detStatus pk => Sys2Proof.Machine.execDetStatus pk s
  | .detAck pk => Sys2Proof.Machine.execDetAck pk s
  | .progLoad pk => Sys2Proof.Machine.execProgLoad pk s
  | .progStart pk => Sys2Proof.Machine.execProgStart pk s
  | .progStop pk => Sys2Proof.Machine.execProgStop pk s
  | .progSetValues pk => Sys2Proof.Machine.execProgSetValues pk s
  | .progForce pk => Sys2Proof.Machine.execProgForce pk s
  | .progRead pk => Sys2Proof.Machine.execProgRead pk s
  | .vchOpen pk => Sys2Proof.Machine.execVchOpen pk s
  | .vchModify pk => Sys2Proof.Machine.execVchModify pk s
  | .vchClose pk => Sys2Proof.Machine.execVchClose pk s
  | .flowSet pk => Sys2Proof.Machine.execFlowSet pk s
  | .vchStatus pk => Sys2Proof.Machine.execVchStatus pk s
  | .capDefine pk => Sys2Proof.Machine.execCapDefine pk s
  | .capArm pk => Sys2Proof.Machine.execCapArm pk s
  | .capTrigger pk => Sys2Proof.Machine.execCapTrigger pk s
  | .oqFlush pk => Sys2Proof.Machine.execOqFlush pk s
  | .queueStatus pk => Sys2Proof.Machine.execQueueStatus pk s
  | .keyLoad pk => Sys2Proof.Machine.execKeyLoad pk s
  | .keyClear pk => Sys2Proof.Machine.execKeyClear pk s
  | .keyGenerate pk => Sys2Proof.Machine.execKeyGenerate pk s
  | .keyRewrap pk => Sys2Proof.Machine.execKeyRewrap pk s
  | .domainInvalidate pk => Sys2Proof.Machine.execDomainInvalidate pk s
  | .keyStatus pk => Sys2Proof.Machine.execKeyStatus pk s
  | .idCert pk => Sys2Proof.Machine.execIdCert pk s
  | .timeConfig pk => Sys2Proof.Machine.execTimeConfig pk s
  | .timeSet pk => Sys2Proof.Machine.execTimeSet pk s
  | .leapSet pk => Sys2Proof.Machine.execLeapSet pk s
  | .timeStatus pk => Sys2Proof.Machine.execTimeStatus pk s
  | .rtcCurveLoad pk => Sys2Proof.Machine.execRtcCurveLoad pk s
  | .rtcLeapTable pk => Sys2Proof.Machine.execRtcLeapTable pk s
  | .casConfig pk => Sys2Proof.Machine.execCasConfig pk s
  | .casPair pk => Sys2Proof.Machine.execCasPair pk s
  | .casSwitchover pk => Sys2Proof.Machine.execCasSwitchover pk s
  | .casResync pk => Sys2Proof.Machine.execCasResync pk s
  | .casStatus pk => Sys2Proof.Machine.execCasStatus pk s
  | .recExport pk => Sys2Proof.Machine.execRecExport pk s
  | .recNote pk => Sys2Proof.Machine.execRecNote pk s
  | .prcDecode pk => Sys2Proof.Machine.execPrcDecode pk s
  | .prcEncode pk => Sys2Proof.Machine.execPrcEncode pk s
  | .portConfig pk => Sys2Proof.Machine.execPortConfig pk s
  | .outDefine pk => Sys2Proof.Machine.execOutDefine pk s
  | .wakeSet pk => Sys2Proof.Machine.execWakeSet pk s
  | .portStatus pk => Sys2Proof.Machine.execPortStatus pk s
  | .chunkLoadTimeout origin opcode target => Sys2Proof.Machine.execChunkLoadTimeout origin opcode target s
  | .cmdqDoorbell value unknown => Sys2Proof.Machine.execCmdqDoorbell value unknown s
  | .rplqHeadWrite value => Sys2Proof.Machine.execRplqHeadWrite value s
  | .cmdqCtrlEnSet reply => Sys2Proof.Machine.execCmdqCtrlEnSet reply s
  | .cmdqCtrlEnClear reply => Sys2Proof.Machine.execCmdqCtrlEnClear reply s
  | .tbSnapCapture => Sys2Proof.Machine.execTbSnapCapture s
  | .oqCtrlEnSet q value => Sys2Proof.Machine.execOqCtrlEnSet q value s
  | .oqCtrlEnClear q value => Sys2Proof.Machine.execOqCtrlEnClear q value s
  | .oqCtrlFlush q value => Sys2Proof.Machine.execOqCtrlFlush q value s
  | .oqRingHeadWrite q value => Sys2Proof.Machine.execOqRingHeadWrite q value s
  | .qpopRead q wide => Sys2Proof.Machine.execQpopRead q wide s
  | .iqCtrlEnSet m value => Sys2Proof.Machine.execIqCtrlEnSet m value s
  | .iqCtrlFlush m value => Sys2Proof.Machine.execIqCtrlFlush m value s
  | .iqRingTailDoorbell m value entries => Sys2Proof.Machine.execIqRingTailDoorbell m value entries s
  | .netRingTailWrite p ring value descs => Sys2Proof.Machine.execNetRingTailWrite p ring value descs s
  | .netTsqPopRead p => Sys2Proof.Machine.execNetTsqPopRead p s
  | .netTsqOvfClear p => Sys2Proof.Machine.execNetTsqOvfClear p s
  | .cntLowWordRead m n => Sys2Proof.Machine.execCntLowWordRead m n s
  | .rtcTReadFreeze m j => Sys2Proof.Machine.execRtcTReadFreeze m j s
  | .rtcT7ReadRelease m => Sys2Proof.Machine.execRtcT7ReadRelease m s
  | .rtcCmdSet m => Sys2Proof.Machine.execRtcCmdSet m s
  | .rtcCmdTobin m => Sys2Proof.Machine.execRtcCmdTobin m s
  | .rtcCmdTocal m => Sys2Proof.Machine.execRtcCmdTocal m s
  | .recCmdNext m => Sys2Proof.Machine.execRecCmdNext m s
  | .recCmdPrev m => Sys2Proof.Machine.execRecCmdPrev m s
  | .recCmdOldest m => Sys2Proof.Machine.execRecCmdOldest m s
  | .recCmdNewest m => Sys2Proof.Machine.execRecCmdNewest m s
  | .recCmdSeekSeq m => Sys2Proof.Machine.execRecCmdSeekSeq m s
  | .recClear m value => Sys2Proof.Machine.execRecClear m value s
  | .recClearComplete => Sys2Proof.Machine.execRecClearComplete s
  | .aonPwrMainOn => Sys2Proof.Machine.execAonPwrMainOn s
  | .aonPwrMainOff => Sys2Proof.Machine.execAonPwrMainOff s
  | .aonPwrDormant => Sys2Proof.Machine.execAonPwrDormant s
  | .aonResetCold => Sys2Proof.Machine.execAonResetCold s
  | .aonResetWarm => Sys2Proof.Machine.execAonResetWarm s
  | .registerWrite m addr value => Sys2Proof.Machine.execRegisterWrite m addr value s
  | .mgpRead32 addr crc => Sys2Proof.Machine.execMgpRead32 addr crc s
  | .mgpWrite32 addr value crc => Sys2Proof.Machine.execMgpWrite32 addr value crc s
  | .mgpReadBurst addr count crc => Sys2Proof.Machine.execMgpReadBurst addr count crc s
  | .mgpCmdPush addr count words crc => Sys2Proof.Machine.execMgpCmdPush addr count words crc s
  | .mgpCmdPop addr count crc => Sys2Proof.Machine.execMgpCmdPop addr count crc s
  | .secondBoundary => Sys2Proof.Machine.execSecondBoundary s
  | .slotBoundary memTestOk => Sys2Proof.Machine.execSlotBoundary memTestOk s
  | .runBegin => Sys2Proof.Machine.execRunBegin s
  | .runEnd => Sys2Proof.Machine.execRunEnd s
  | .bankSwap => Sys2Proof.Machine.execBankSwap s
  | .progStopEffect scheme => Sys2Proof.Machine.execProgStopEffect scheme s
  | .ptpSyncReceived p msg stamp => Sys2Proof.Machine.execPtpSyncReceived p msg stamp s
  | .ptpAnnounceReceived p msg stamp => Sys2Proof.Machine.execPtpAnnounceReceived p msg stamp s
  | .ptpPdelayReqReceived p seq domain stamp => Sys2Proof.Machine.execPtpPdelayReqReceived p seq domain stamp s
  | .ptpPdelayRespReceived p msg stamp => Sys2Proof.Machine.execPtpPdelayRespReceived p msg stamp s
  | .ptpPdelayReqSend p => Sys2Proof.Machine.execPtpPdelayReqSend p s
  | .announceReceiptTimeout p => Sys2Proof.Machine.execAnnounceReceiptTimeout p s
  | .ppsInEdge stamp => Sys2Proof.Machine.execPpsInEdge stamp s
  | .zdaSentence ok utc => Sys2Proof.Machine.execZdaSentence ok utc s
  | .ref10mLost => Sys2Proof.Machine.execRef10mLost s
  | .ref10mRestored => Sys2Proof.Machine.execRef10mRestored s
  | .tbLocked => Sys2Proof.Machine.execTbLocked s
  | .tbHoldoverEntry => Sys2Proof.Machine.execTbHoldoverEntry s
  | .stepInRunRestart => Sys2Proof.Machine.execStepInRunRestart s
  | .leapSetEffect => Sys2Proof.Machine.execLeapSetEffect s
  | .leapApplied => Sys2Proof.Machine.execLeapApplied s
  | .phaseTargetFix id => Sys2Proof.Machine.execPhaseTargetFix id s
  | .phaseActionTaken id => Sys2Proof.Machine.execPhaseActionTaken id s
  | .deadlineIssue entry j => Sys2Proof.Machine.execDeadlineIssue entry j s
  | .deadlineEvaluation gid t => Sys2Proof.Machine.execDeadlineEvaluation gid t s
  | .releaseIssue entry j => Sys2Proof.Machine.execReleaseIssue entry j s
  | .playoutIssue entry j => Sys2Proof.Machine.execPlayoutIssue entry j s
  | .cycleIssue entry j => Sys2Proof.Machine.execCycleIssue entry j s
  | .copyIssue entry j => Sys2Proof.Machine.execCopyIssue entry j s
  | .tickIssue entry j => Sys2Proof.Machine.execTickIssue entry j s
  | .publishIssue entry j => Sys2Proof.Machine.execPublishIssue entry j s
  | .c37118FrameReceived f => Sys2Proof.Machine.execC37118FrameReceived f s
  | .injectionRecordTaken m => Sys2Proof.Machine.execInjectionRecordTaken m s
  | .svFrameReceived f => Sys2Proof.Machine.execSvFrameReceived f s
  | .gooseRPublicationReceived f => Sys2Proof.Machine.execGooseRPublicationReceived f s
  | .gooseOperandInstant sid t => Sys2Proof.Machine.execGooseOperandInstant sid t s
  | .cfgFrameReceived f => Sys2Proof.Machine.execCfgFrameReceived f s
  | .streamMissingLimit sid t => Sys2Proof.Machine.execStreamMissingLimit sid t s
  | .readyHeldRetry => Sys2Proof.Machine.execReadyHeldRetry s
  | .holdLimitExpiry serial => Sys2Proof.Machine.execHoldLimitExpiry serial s
  | .taskDispatch => Sys2Proof.Machine.execTaskDispatch s
  | .taskStart core => Sys2Proof.Machine.execTaskStart core s
  | .taskComplete core work => Sys2Proof.Machine.execTaskComplete core work s
  | .wcetBudgetReached core => Sys2Proof.Machine.execWcetBudgetReached core s
  | .taskAbort core => Sys2Proof.Machine.execTaskAbort core s
  | .schemeRuntimeFault core => Sys2Proof.Machine.execSchemeRuntimeFault core s
  | .rGooseRetransmit pub => Sys2Proof.Machine.execRGooseRetransmit pub s
  | .voicePacketReceived pkt => Sys2Proof.Machine.execVoicePacketReceived pkt s
  | .rtcpPacketReceived pkt => Sys2Proof.Machine.execRtcpPacketReceived pkt s
  | .rtcpSend vch leg => Sys2Proof.Machine.execRtcpSend vch leg s
  | .legSilent vch leg => Sys2Proof.Machine.execLegSilent vch leg s
  | .recBlockTransfer vch => Sys2Proof.Machine.execRecBlockTransfer vch s
  | .capRingMarker sid u => Sys2Proof.Machine.execCapRingMarker sid u s
  | .capRecordClose cap => Sys2Proof.Machine.execCapRecordClose cap s
  | .classPSeal cap => Sys2Proof.Machine.execClassPSeal cap s
  | .oqStallResume q => Sys2Proof.Machine.execOqStallResume q s
  | .dmaEntryWrite => Sys2Proof.Machine.execDmaEntryWrite s
  | .oqStaleTimer q => Sys2Proof.Machine.execOqStaleTimer q s
  | .oqFlushDone q => Sys2Proof.Machine.execOqFlushDone q s
  | .iqPull m => Sys2Proof.Machine.execIqPull m s
  | .rxFrameReceived f => Sys2Proof.Machine.execRxFrameReceived f s
  | .prpSourceForget p mac => Sys2Proof.Machine.execPrpSourceForget p mac s
  | .prpSupervisionSend p => Sys2Proof.Machine.execPrpSupervisionSend p s
  | .pfcFrameReceived p classes stamp => Sys2Proof.Machine.execPfcFrameReceived p classes stamp s
  | .pfcPauseExpiry p cls => Sys2Proof.Machine.execPfcPauseExpiry p cls s
  | .pfcXoffRepeat p cls => Sys2Proof.Machine.execPfcXoffRepeat p cls s
  | .pfcXonSend p cls => Sys2Proof.Machine.execPfcXonSend p cls s
  | .hostTxFrame p ring => Sys2Proof.Machine.execHostTxFrame p ring s
  | .linkChange p up phyFault => Sys2Proof.Machine.execLinkChange p up phyFault s
  | .wakeFrame p bytes => Sys2Proof.Machine.execWakeFrame p bytes s
  | .wasInEdgeAccepted pin level stamp => Sys2Proof.Machine.execWasInEdgeAccepted pin level stamp s
  | .hbInEdge stamp => Sys2Proof.Machine.execHbInEdge stamp s
  | .hbTimeout => Sys2Proof.Machine.execHbTimeout s
  | .listenWindowEnd peerPref => Sys2Proof.Machine.execListenWindowEnd peerPref s
  | .linkbeatSend => Sys2Proof.Machine.execLinkbeatSend s
  | .linkbeatReceived b authOk => Sys2Proof.Machine.execLinkbeatReceived b authOk s
  | .twinLinkTimeout => Sys2Proof.Machine.execTwinLinkTimeout s
  | .twinLossDecision => Sys2Proof.Machine.execTwinLossDecision s
  | .presenceFrameSend p => Sys2Proof.Machine.execPresenceFrameSend p s
  | .presenceFrameReceived p f => Sys2Proof.Machine.execPresenceFrameReceived p f s
  | .partnerOutputsAbsent => Sys2Proof.Machine.execPartnerOutputsAbsent s
  | .mirrorReceived item authOk => Sys2Proof.Machine.execMirrorReceived item authOk s
  | .twinCmdReceived opcode pk effect authOk => Sys2Proof.Machine.execTwinCmdReceived opcode pk effect authOk s
  | .commitReceived c authOk => Sys2Proof.Machine.execCommitReceived c authOk s
  | .ackReceived cseq health => Sys2Proof.Machine.execAckReceived cseq health s
  | .standbyCommitLoss => Sys2Proof.Machine.execStandbyCommitLoss s
  | .resyncStartReceived n => Sys2Proof.Machine.execResyncStartReceived n s
  | .resyncDataReceived d => Sys2Proof.Machine.execResyncDataReceived d s
  | .resyncEndReceived digest => Sys2Proof.Machine.execResyncEndReceived digest s
  | .resyncTimeout => Sys2Proof.Machine.execResyncTimeout s
  | .resyncRetry => Sys2Proof.Machine.execResyncRetry s
  | .faultDeclare cause => Sys2Proof.Machine.execFaultDeclare cause s
  | .faultReceived term cause => Sys2Proof.Machine.execFaultReceived term cause s
  | .takeover => Sys2Proof.Machine.execTakeover s
  | .addressAnnounceRepeat => Sys2Proof.Machine.execAddressAnnounceRepeat s
  | .switchoverHandover => Sys2Proof.Machine.execSwitchoverHandover s
  | .promoteEffect => Sys2Proof.Machine.execPromoteEffect s
  | .pairingFrameReceived certOk sigOk peerId nonce q => Sys2Proof.Machine.execPairingFrameReceived certOk sigOk peerId nonce q s
  | .eyeMeasure low => Sys2Proof.Machine.execEyeMeasure low s
  | .controlFwFault => Sys2Proof.Machine.execControlFwFault s
  | .rtcFreezeTimeout m => Sys2Proof.Machine.execRtcFreezeTimeout m s
  | .rtcSetCommit => Sys2Proof.Machine.execRtcSetCommit s
  | .rtcSensorReading temp => Sys2Proof.Machine.execRtcSensorReading temp s
  | .rtcEndOfRange => Sys2Proof.Machine.execRtcEndOfRange s
  | .rtcLockRelease => Sys2Proof.Machine.execRtcLockRelease s
  | .vrtcLow => Sys2Proof.Machine.execVrtcLow s
  | .recNorProgram => Sys2Proof.Machine.execRecNorProgram s
  | .opTimeCheckpoint => Sys2Proof.Machine.execOpTimeCheckpoint s
  | .traceQlevel => Sys2Proof.Machine.execTraceQlevel s
  | .vinGood straps => Sys2Proof.Machine.execVinGood straps s
  | .bootComplete res => Sys2Proof.Machine.execBootComplete res s
  | .bootWatchdog => Sys2Proof.Machine.execBootWatchdog s
  | .earlyWarning pin => Sys2Proof.Machine.execEarlyWarning pin s
  | .warningPassed => Sys2Proof.Machine.execWarningPassed s
  | .vinBelow9v => Sys2Proof.Machine.execVinBelow9v s
  | .vinBelow7v => Sys2Proof.Machine.execVinBelow7v s
  | .pdPowerChange pdB on => Sys2Proof.Machine.execPdPowerChange pdB on s
  | .pdClassification pdB cls => Sys2Proof.Machine.execPdClassification pdB cls s
  | .thermAssert temp => Sys2Proof.Machine.execThermAssert temp s
  | .thermRelease temp => Sys2Proof.Machine.execThermRelease temp s
  | .thermalTrip temp => Sys2Proof.Machine.execThermalTrip temp s
  | .modRstNAssert => Sys2Proof.Machine.execModRstNAssert s
  | .modRstNRelease => Sys2Proof.Machine.execModRstNRelease s
  | .perstN => Sys2Proof.Machine.execPerstN s
  | .mainOffEffect => Sys2Proof.Machine.execMainOffEffect s
  | .warmResetExecute => Sys2Proof.Machine.execWarmResetExecute s
  | .dormantEntry => Sys2Proof.Machine.execDormantEntry s
  | .controlFwRecovery => Sys2Proof.Machine.execControlFwRecovery s
  | .vbatOkChange ok => Sys2Proof.Machine.execVbatOkChange ok s
  | .peerDetChange level => Sys2Proof.Machine.execPeerDetChange level s
  | .tapInstruction ir => Sys2Proof.Machine.execTapInstruction ir s

end Sys2Proof.Machine
end

