-- ==== Sys2Proof/Machine/Frames.lean ====
section
/-! DEFINITION. The frame of every row: which parts of the state it may change. -/

namespace Sys2Proof.Machine

/-- The parts of the state. -/
inductive Part where
  /-- The GLB registers, the MSI-X table and the trace port. -/
  | glb
  /-- The pins. -/
  | pins
  /-- The command interface. -/
  | cmd
  /-- The time base. -/
  | tb
  /-- The reference bus. -/
  | refBus
  /-- The phase requests. -/
  | phases
  /-- Their next number. -/
  | phaseNext
  /-- Table bank 0. -/
  | bank0
  /-- Table bank 1. -/
  | bank1
  /-- Which bank is active. -/
  | active
  /-- The streams. -/
  | streams
  /-- The filter chains. -/
  | filters
  /-- The matching store. -/
  | mst
  /-- The ready list and the cores. -/
  | disp
  /-- The detectors. -/
  | dets
  /-- The schemes. -/
  | schs
  /-- The publications. -/
  | pubs
  /-- The output streams. -/
  | outRuns
  /-- The voice channels. -/
  | vchs
  /-- The flows. -/
  | flows
  /-- The captures. -/
  | caps
  /-- The output queues. -/
  | oqs
  /-- The injection queues. -/
  | iqs
  /-- The DMA engine's turn. -/
  | dmaPtr
  /-- The network ports. -/
  | ports
  /-- What the ports hold back. -/
  | txWait
  /-- The wake table. -/
  | wake
  /-- Gatehouse but for the pairing that waits. -/
  | gh
  /-- The pairing that waits. -/
  | pairWait
  /-- Castling. -/
  | cas
  /-- The real-time clock. -/
  | rtc
  /-- The event recorder. -/
  | rcd
  /-- The counters. -/
  | cnt
  /-- The host's latched counter word. -/
  | cntHost
  /-- The MGP's latched counter word. -/
  | cntMgp
  /-- Power, boot and waiting transitions but for AON_ALERT. -/
  | pwr
  /-- AON_ALERT. -/
  | alert
  /-- The serial NOR. -/
  | nor
  /-- The TAP's instruction register. -/
  | tapIr
  /-- The queue of commands. -/
  | pending
  /-- What has been put on the interfaces. -/
  | emitted
  /-- The number of free values drawn. -/
  | free
deriving DecidableEq, Repr

/-- The part is the same in both states. -/
abbrev Part.same (c : Part) (s t : State) : Prop :=
  match c with
  | .glb => s.glb = t.glb
  | .pins => s.pins = t.pins
  | .cmd => s.cmd = t.cmd
  | .tb => s.tb = t.tb
  | .refBus => s.refBus = t.refBus
  | .phases => s.phases = t.phases
  | .phaseNext => s.phaseNext = t.phaseNext
  | .bank0 => s.bank0 = t.bank0
  | .bank1 => s.bank1 = t.bank1
  | .active => s.active = t.active
  | .streams => s.streams = t.streams
  | .filters => s.filters = t.filters
  | .mst => s.mst = t.mst
  | .disp => s.disp = t.disp
  | .dets => s.dets = t.dets
  | .schs => s.schs = t.schs
  | .pubs => s.pubs = t.pubs
  | .outRuns => s.outRuns = t.outRuns
  | .vchs => s.vchs = t.vchs
  | .flows => s.flows = t.flows
  | .caps => s.caps = t.caps
  | .oqs => s.oqs = t.oqs
  | .iqs => s.iqs = t.iqs
  | .dmaPtr => s.dmaPtr = t.dmaPtr
  | .ports => s.ports = t.ports
  | .txWait => s.txWait = t.txWait
  | .wake => s.wake = t.wake
  | .gh => { s.gh with pairWait := none } = { t.gh with pairWait := none }
  | .pairWait => s.gh.pairWait = t.gh.pairWait
  | .cas => s.cas = t.cas
  | .rtc => s.rtc = t.rtc
  | .rcd => s.rcd = t.rcd
  | .cnt => s.cnt = t.cnt
  | .cntHost => s.cntHost = t.cntHost
  | .cntMgp => s.cntMgp = t.cntMgp
  | .pwr => { s.pwr with aonAlert := 0 } = { t.pwr with aonAlert := 0 }
  | .alert => s.pwr.aonAlert = t.pwr.aonAlert
  | .nor => s.nor = t.nor
  | .tapIr => s.tapIr = t.tapIr
  | .pending => s.pending = t.pending
  | .emitted => s.emitted = t.emitted
  | .free => s.free = t.free

/-- The parts that move with the time base: a row that takes place at an instant. -/
def clockParts : List Part := [.tb, .rtc, .rcd]

/-- The parts that noting an event touches. -/
def noteParts : List Part := [.glb, .rcd, .emitted]

/-- The parts that taking, recording and answering a command touch. -/
def answerParts : List Part := [.cmd, .pairWait, .alert, .glb, .rcd, .cnt, .emitted]

/-- The parts that work on the data path in RUN reaches: what tasks read and write, and what follows from it. -/
def pathParts : List Part := [.pins, .phases, .phaseNext, .filters, .mst, .disp, .dets, .schs, .pubs, .outRuns, .vchs, .flows, .caps, .oqs, .ports, .cas]

/-- The parts that a start, a reset or a loss of power reaches. -/
def powerParts : List Part := [.glb, .pins, .cmd, .tb, .refBus, .phases, .phaseNext, .bank0, .bank1, .active, .streams, .filters, .mst, .disp, .dets, .schs, .pubs, .outRuns, .vchs, .flows, .caps, .oqs, .iqs, .dmaPtr, .ports, .txWait, .wake, .gh, .pairWait, .cas, .rtc, .rcd, .cnt, .pwr, .alert, .nor, .emitted, .free]

/-- The frame of a row: the parts that it may change. It leaves every other part as it is. -/
def touches : Instr → List Part
  | .getInfo .. | .getState .. | .streamStatus .. | .schedStatus .. | .detStatus .. | .progRead .. | .vchStatus ..
  | .queueStatus .. | .keyStatus .. | .idCert .. | .timeStatus .. | .casStatus .. | .recExport .. | .portStatus ..
  | .cmdqDoorbell .. | .rplqHeadWrite .. | .cmdqCtrlEnSet .. | .cmdqCtrlEnClear .. => answerParts
  | .start .. | .stop .. | .schedSwap .. => answerParts ++ [.pwr]
  | .warmReset .. => answerParts ++ [.cas, .pwr]
  | .powerCtrl .. | .aonPwrMainOn .. | .aonPwrMainOff .. | .aonPwrDormant .. | .aonResetCold .. | .aonResetWarm ..
  | .registerWrite .. | .mgpWrite32 .. | .wakeFrame .. | .vinGood .. | .bootWatchdog .. | .modRstNRelease ..
  | .warmResetExecute .. => powerParts
  | .fwLoad .. => answerParts ++ [.nor, .free]
  | .fwCommit .. | .cfgSave .. => answerParts ++ [.nor]
  | .streamDefine .. | .streamDelete .. | .channelDefine .. | .groupDefine .. | .templateDefine .. | .schedLoad ..
  | .detDefine .. | .capDefine .. | .outDefine .. => answerParts ++ [.bank0, .bank1]
  | .detAck .. => answerParts ++ [.pins, .dets]
  | .progLoad .. | .progStart .. => answerParts ++ [.bank0, .bank1, .schs]
  | .progStop .. | .progSetValues .. | .progForce .. => answerParts ++ [.schs]
  | .vchOpen .. => answerParts ++ [.vchs, .flows, .oqs]
  | .vchModify .. | .vchClose .. => answerParts ++ [.vchs]
  | .flowSet .. => answerParts ++ [.vchs, .flows]
  | .capArm .. => answerParts ++ [.caps, .oqs]
  | .capTrigger .. => answerParts ++ [.phases, .phaseNext, .caps, .oqs, .cas]
  | .oqFlush .. | .prcDecode .. | .prcEncode .. => answerParts ++ [.oqs]
  | .keyLoad .. | .keyClear .. => answerParts ++ [.gh]
  | .keyGenerate .. | .keyRewrap .. | .casPair .. | .recNote .. | .mgpCmdPush .. => answerParts ++ [.free]
  | .domainInvalidate .. => answerParts ++ [.gh, .free]
  | .timeConfig .. | .leapSet .. => answerParts ++ [.tb]
  | .timeSet .. => answerParts ++ [.tb, .free]
  | .rtcCurveLoad .. | .rtcLeapTable .. => answerParts ++ [.rtc, .nor]
  | .casConfig .. | .casSwitchover .. => answerParts ++ [.cas]
  | .casResync .. => answerParts ++ [.schs, .cas]
  | .portConfig .. => answerParts ++ [.ports]
  | .wakeSet .. => answerParts ++ [.wake]
  | .chunkLoadTimeout .. => clockParts ++ [.cmd]
  | .tbSnapCapture .. | .ref10mLost .. | .ref10mRestored .. => [.tb]
  | .oqCtrlEnSet .. | .oqCtrlEnClear .. | .oqCtrlFlush .. => [.glb, .cmd, .oqs, .cnt, .alert, .emitted]
  | .oqRingHeadWrite .. => [.oqs]
  | .qpopRead .. => [.oqs, .cnt, .emitted]
  | .iqCtrlEnSet .. | .iqCtrlFlush .. => [.iqs]
  | .iqRingTailDoorbell .. => [.iqs, .cnt]
  | .netRingTailWrite .. | .pfcXoffRepeat .. => [.ports, .cnt, .emitted]
  | .netTsqPopRead .. | .pfcXonSend .. => [.ports, .emitted]
  | .netTsqOvfClear .. | .linkChange .. => [.ports]
  | .cntLowWordRead .. => [.cntHost, .cntMgp, .emitted]
  | .rtcTReadFreeze .. | .rtcT7ReadRelease .. => [.rtc, .emitted]
  | .rtcCmdSet .. | .rtcCmdTobin .. | .rtcCmdTocal .. | .rtcEndOfRange .. => noteParts ++ [.rtc]
  | .recCmdNext .. | .recCmdPrev .. | .recCmdOldest .. | .recCmdNewest .. | .recCmdSeekSeq .. | .recNorProgram .. => [.rcd]
  | .recClear .. | .recClearComplete .. => noteParts
  | .mgpRead32 .. => [.ports, .rtc, .cntHost, .cntMgp, .emitted]
  | .mgpReadBurst .. => [.ports, .rtc, .cntHost, .cntMgp, .emitted, .free]
  | .mgpCmdPop .. => [.emitted, .free]
  | .secondBoundary .. | .tbHoldoverEntry .. | .opTimeCheckpoint .. => clockParts ++ noteParts
  | .slotBoundary .. => clockParts ++ noteParts ++ [.pins, .cmd, .schs, .cas, .cnt, .alert]
  | .runBegin ..
    => clockParts ++ noteParts ++ [.pins, .cmd, .refBus, .phases, .bank0, .bank1, .active, .streams, .filters, .mst, .disp, .dets, .schs, .pubs, .outRuns, .vchs, .caps, .oqs, .iqs, .ports, .txWait, .cas, .cnt, .pwr, .alert, .free]
  | .runEnd .. | .bankSwap ..
    => pathParts ++ clockParts ++ noteParts ++ [.cmd, .refBus, .bank0, .bank1, .active, .streams, .iqs, .txWait, .cnt, .pwr, .alert, .free]
  | .progStopEffect ..
    => clockParts ++ noteParts ++ [.pins, .cmd, .phases, .schs, .pubs, .ports, .txWait, .cnt, .alert, .free]
  | .ptpSyncReceived .. => clockParts ++ noteParts ++ [.ports, .cnt, .free]
  | .ptpAnnounceReceived .. | .ptpPdelayRespReceived .. => clockParts ++ [.ports, .cnt]
  | .ptpPdelayReqReceived .. | .ptpPdelayReqSend .. | .pfcFrameReceived .. | .pfcPauseExpiry .. | .presenceFrameSend ..
    => clockParts ++ noteParts ++ [.ports, .txWait, .cnt]
  | .announceReceiptTimeout .. | .leapSetEffect .. | .rtcFreezeTimeout .. | .rtcLockRelease .. => clockParts
  | .ppsInEdge .. => clockParts ++ noteParts ++ [.cnt, .free]
  | .zdaSentence .. => noteParts ++ [.tb, .cnt, .free]
  | .tbLocked .. => noteParts ++ [.tb]
  | .stepInRunRestart ..
    => pathParts ++ clockParts ++ noteParts ++ [.cmd, .refBus, .bank0, .bank1, .streams, .iqs, .txWait, .cnt, .pwr, .alert, .free]
  | .leapApplied .. => clockParts ++ noteParts ++ [.nor]
  | .phaseTargetFix .. => clockParts ++ [.phases, .schs, .cnt]
  | .phaseActionTaken .. => clockParts ++ noteParts ++ [.pins, .phases, .phaseNext, .schs, .caps, .oqs, .cas, .cnt]
  | .deadlineIssue .. | .releaseIssue .. | .playoutIssue .. | .cycleIssue .. | .copyIssue .. | .tickIssue ..
  | .publishIssue .. => pathParts ++ clockParts ++ noteParts ++ [.cmd, .streams, .txWait, .cnt, .pwr, .alert, .free]
  | .deadlineEvaluation .. => pathParts ++ clockParts ++ noteParts ++ [.streams, .txWait, .cnt]
  | .c37118FrameReceived .. | .gooseOperandInstant ..
    => pathParts ++ clockParts ++ noteParts ++ [.streams, .txWait, .cnt, .pwr, .alert]
  | .injectionRecordTaken .. => pathParts ++ noteParts ++ [.tb, .streams, .iqs, .txWait, .cnt, .pwr, .alert]
  | .svFrameReceived .. => pathParts ++ clockParts ++ noteParts ++ [.refBus, .streams, .txWait, .cnt, .pwr, .alert]
  | .gooseRPublicationReceived .. | .cfgFrameReceived .. => clockParts ++ noteParts ++ [.streams, .ports, .cas, .cnt]
  | .streamMissingLimit .. => clockParts ++ noteParts ++ [.streams, .mst, .cnt]
  | .readyHeldRetry .. | .taskStart .. => [.disp]
  | .holdLimitExpiry .. | .taskAbort .. => pathParts ++ clockParts ++ noteParts ++ [.txWait, .cnt]
  | .taskDispatch .. => [.glb, .disp, .cnt, .emitted]
  | .taskComplete .. => pathParts ++ noteParts ++ [.cmd, .tb, .bank0, .bank1, .txWait, .cnt, .alert, .free]
  | .wcetBudgetReached .. => clockParts ++ noteParts ++ [.mst, .disp, .schs, .cnt]
  | .schemeRuntimeFault .. => pathParts ++ noteParts ++ [.tb, .txWait, .cnt]
  | .rGooseRetransmit .. => clockParts ++ noteParts ++ [.pubs, .ports, .txWait, .cnt, .free]
  | .voicePacketReceived .. | .rtcpPacketReceived .. => clockParts ++ [.vchs, .flows, .ports, .cas, .cnt, .emitted]
  | .rtcpSend .. => clockParts ++ noteParts ++ [.vchs, .flows, .ports, .txWait, .cnt, .free]
  | .legSilent .. => clockParts ++ [.vchs]
  | .recBlockTransfer .. => noteParts ++ [.vchs, .oqs, .cnt]
  | .capRingMarker .. => clockParts ++ [.caps]
  | .capRecordClose .. | .classPSeal .. => clockParts ++ noteParts ++ [.caps, .oqs, .cnt]
  | .oqStallResume .. => noteParts ++ [.caps, .oqs, .cnt]
  | .dmaEntryWrite .. => [.glb, .oqs, .dmaPtr, .cnt, .emitted]
  | .oqStaleTimer .. => clockParts ++ noteParts ++ [.oqs, .cnt]
  | .oqFlushDone .. => [.glb, .cmd, .oqs, .alert, .emitted]
  | .iqPull .. => [.glb, .iqs, .cnt, .emitted]
  | .rxFrameReceived .. => clockParts ++ noteParts ++ [.ports, .cnt]
  | .prpSourceForget .. => clockParts ++ [.ports]
  | .prpSupervisionSend .. => [.glb, .tb, .ports, .txWait, .cnt, .emitted]
  | .hostTxFrame .. => [.glb, .ports, .cnt, .emitted]
  | .wasInEdgeAccepted .. => clockParts ++ noteParts ++ [.pins, .phases, .phaseNext, .caps, .oqs, .cas, .cnt]
  | .hbInEdge .. => clockParts ++ [.cas]
  | .hbTimeout .. | .twinLinkTimeout .. => clockParts ++ noteParts ++ [.cas, .cnt]
  | .listenWindowEnd .. => clockParts ++ noteParts ++ [.pins, .cas, .cnt]
  | .linkbeatSend .. => [.emitted]
  | .linkbeatReceived .. => noteParts ++ [.pins, .cmd, .schs, .cas, .cnt, .alert]
  | .twinLossDecision .. | .faultDeclare .. => clockParts ++ noteParts ++ [.pins, .schs, .cas]
  | .presenceFrameReceived .. => [.ports, .cas, .cnt]
  | .partnerOutputsAbsent .. | .eyeMeasure .. => [.cas]
  | .mirrorReceived .. => pathParts ++ noteParts ++ [.tb, .refBus, .streams, .txWait, .cnt, .pwr, .alert]
  | .twinCmdReceived ..
    => noteParts ++ [.pins, .cmd, .phases, .phaseNext, .bank0, .bank1, .dets, .schs, .vchs, .flows, .caps, .oqs, .cas, .cnt, .pwr, .alert]
  | .commitReceived ..
    => noteParts ++ [.pins, .cmd, .phases, .phaseNext, .filters, .mst, .dets, .schs, .pubs, .vchs, .flows, .caps, .oqs, .cas, .cnt, .alert]
  | .ackReceived .. | .resyncStartReceived .. | .resyncDataReceived .. | .faultReceived .. => [.cas, .cnt]
  | .standbyCommitLoss .. => noteParts ++ [.pins, .schs, .cas]
  | .resyncEndReceived .. => noteParts ++ [.bank0, .bank1, .active, .filters, .mst, .dets, .schs, .vchs, .flows, .cas, .cnt]
  | .resyncTimeout .. => clockParts ++ noteParts ++ [.cas]
  | .resyncRetry .. => clockParts ++ [.cas, .cnt, .emitted]
  | .takeover .. | .promoteEffect ..
    => clockParts ++ noteParts ++ [.pins, .schs, .pubs, .vchs, .flows, .caps, .oqs, .cas, .cnt]
  | .addressAnnounceRepeat .. => clockParts ++ [.cas, .emitted]
  | .switchoverHandover ..
    => clockParts ++ noteParts ++ [.pins, .cmd, .bank0, .bank1, .schs, .pubs, .vchs, .flows, .caps, .oqs, .cas, .cnt, .alert]
  | .pairingFrameReceived .. => answerParts ++ [.gh, .cas, .free]
  | .controlFwFault .. => noteParts ++ [.tb, .pwr, .alert]
  | .rtcSetCommit .. | .rtcSensorReading .. => [.rtc]
  | .vrtcLow .. => [.glb, .rtc, .emitted]
  | .traceQlevel .. => [.glb, .emitted]
  | .bootComplete ..
    => clockParts ++ noteParts ++ [.pins, .cmd, .bank0, .active, .schs, .caps, .gh, .pairWait, .cas, .pwr, .alert, .nor]
  | .earlyWarning .. => noteParts ++ [.pins, .schs, .cas, .rtc, .pwr, .alert]
  | .warningPassed .. => noteParts ++ [.pins, .rtc, .pwr, .alert]
  | .vinBelow9v .. | .modRstNAssert .. => [.pins, .dets, .gh, .pairWait, .pwr, .alert, .emitted]
  | .vinBelow7v .. => [.pins, .dets, .gh, .pairWait, .rtc, .rcd, .pwr, .alert, .nor, .emitted]
  | .pdPowerChange .. | .pdClassification .. => noteParts ++ [.pins, .schs, .cas, .pwr, .alert]
  | .thermAssert .. => [.glb, .pins, .pwr, .alert, .emitted]
  | .thermRelease .. => [.glb, .pins, .pwr, .alert]
  | .thermalTrip .. => noteParts ++ [.pins, .dets, .gh, .pairWait, .pwr, .alert]
  | .perstN .. => [.glb, .cmd, .oqs, .iqs, .ports, .rcd]
  | .mainOffEffect .. | .dormantEntry ..
    => answerParts ++ clockParts ++ [.pins, .phases, .mst, .disp, .dets, .schs, .pubs, .outRuns, .vchs, .flows, .caps, .oqs, .ports, .txWait, .gh, .cas, .pwr, .free]
  | .controlFwRecovery ..
    => answerParts ++ [.pins, .phases, .phaseNext, .bank0, .bank1, .dets, .schs, .vchs, .flows, .caps, .oqs, .cas, .pwr]
  | .vbatOkChange .. => [.gh, .pairWait, .rtc, .rcd, .pwr, .alert, .nor]
  | .peerDetChange .. => noteParts ++ [.pins, .cas]
  | .tapInstruction .. => [.tapIr, .emitted, .free]

end Sys2Proof.Machine
end

