-- ==== Sys2Proof/Safety.lean ====
section
/-! DEFINITION. What counts as a sound state of the block, and when a command is accepted and how it is answered, in the
terms the statements use. -/

namespace Sys2Proof.Machine

/-- The main side has power: BOOT, IDLE and RUN (18 R447). -/
def powered : PState → Bool
  | .boot | .idle | .run => true
  | .off | .aonOnly | .dormant => false

/-- The rails agree with the power state: AON_STATUS.MAIN_UP is set in BOOT, IDLE and RUN only (02 R44, 18 R447), and
MOD_READY is high in IDLE and RUN only and low during an early warning (18 R447, R450). -/
def State.Rails (s : State) : Prop :=
  s.pwr.mainUp = powered s.pwr.ps ∧ s.pins.modReady = (mainUp s && !s.pwr.pwrFail)

/-- In s the firmware takes the packet from its ring or mailbox and accepts it: u is the state in which the command runs. It
is no repetition (02 R31), it passes the checks of class 0x01xx (02 R34) and those of the power state, the role and the
recovery (02 R36; 18 R449, R455), and it is no dry run (02 R26). -/
structure Accepts (c : Cmd) (pk : Packet) (s u : State) : Prop where
  taken : (taken c.opcode pk s).map endPairing = some u
  fresh : repeated c.opcode pk u = none
  wellFormed : class01 c pk u = none
  timely : class02 c pk.origin u = none
  notDry : bit pk.flags 1 = false

/-- STATUS and RESULT of the last command of the packet's origin that has been answered (02 R31). -/
def answer (pk : Packet) (t : State) : Option (Nat × Bytes) :=
  (match pk.origin with
    | .host => t.cmd.lastHost
    | .mgp => t.cmd.lastMgp
    | .twin => none).map fun (l : LastCmd) => (l.reply.status, l.reply.result)

/-- t is e but for what answering, recording and forwarding a command touch: the command interface, the recorder, the
counters, the vectors, the reply bit of AON_ALERT and what has been put on the interfaces. -/
def Quiet (t e : State) : Prop :=
  t = { e with cmd := t.cmd, rcd := t.rcd, cnt := t.cnt, glb := t.glb, emitted := t.emitted
               pwr := { e.pwr with aonAlert := t.pwr.aonAlert } }

/-- The row completes: the packet has this STATUS and RESULT in a state t that is e but for the answer itself, and exec
answers t once the commands without a row whose turn has then come are served too (02 R24, R34): t itself where there are
none. -/
def Answers (i : Instr) (s : State) (pk : Packet) (status : Nat) (result : Bytes) (e : State) : Prop :=
  ∃ t, exec i s = .next (serve t) ∧ answer pk t = some (status, result) ∧ Quiet t e

/-- The row of an action's issues (03 R69). -/
def issueRow (action entry i : Nat) : Instr :=
  match action with
  | 1 => .deadlineIssue entry i
  | 2 => .releaseIssue entry i
  | 3 => .playoutIssue entry i
  | 4 => .cycleIssue entry i
  | 5 => .copyIssue entry i
  | 6 => .tickIssue entry i
  | _ => .publishIssue entry i

/-- In RUN, issue i of entry n, of an action, falls next at t, and of the issues of that instant up to its place in the order of
01 R12 it is the only one that has not taken place. No dropped release is left from an earlier step. -/
structure Issues (action n i : Nat) (e : SchedEntry) (t : Instant) (s : State) : Prop where
  runs : inRun s = true
  falls : issueOf s action n i = some (e, t)
  next : (issuesAt (advanceTo t s) t).filter (fun x =>
    decide (issueRank x ≤ issueRank { idx := n, e := e, i := i }) && notIssued (advanceTo t s) t x) = [{ idx := n, e := e, i := i }]
  settled : s.disp.dropped = []

/-- The issue has taken place at its instant: the sequencer stands at its place. -/
def Issued (n i : Nat) (e : SchedEntry) (t : Instant) (u : State) : Prop :=
  t ≤ now u ∧ u.tb.seqPos = some (t, issueRank { idx := n, e := e, i := i })

end Sys2Proof.Machine
end

