-- ==== Sys2Proof/Certificates/Slice0/Obligations.lean ====
section
/-! DEFINITION. The statements for the provers. Each names the rows it is about; `Accepts`, `Answers` and `Quiet` (Safety)
say when a command is accepted and how it is answered. -/

open Sys2Proof Sys2Proof.Machine


/-! ## Steps, the queue and the rails -/

/-- A step takes the command at the front of the queue and runs exec on it with the queue's rest. -/
def Obligations.StepRunsTheFrontCommand : Prop :=
  ∀ (c : Instr) (rest : List Instr) (s : State), s.pending = c :: rest → step s = exec c { s with pending := rest }

/-- With nothing waiting, one tick of CK_TB passes: the time base adds its increment, and nothing moves but what counts time (the
model's choice for a step of an empty queue, log entry 1). -/
def Obligations.AnIdleStepPassesOneTick : Prop :=
  ∀ s : State, s.pending = [] → s.tb.count + s.tb.incr < 2 ^ 112 →
    ∃ t, step s = .next t ∧ t.tb.count = s.tb.count + s.tb.incr ∧ (s.tb.slew = 0 → t.tb.slew = 0 ∧ t.tb.incr = incrNominal) ∧
      t = { s with tb := t.tb, rtc := t.rtc, rcd := t.rcd }

/-- No row stops: every command, on any operands and in any state, ends in a next state. -/
def Obligations.EveryCommandEndsInANextState : Prop :=
  ∀ (i : Instr) (s : State), ∃ t, exec i s = .next t

/-- Every step takes one command off the queue and no command puts any there; and rails that agree with the power state still do
after it. -/
def Obligations.EveryStepKeepsTheQueueAndTheRails : Prop :=
  ∀ s t : State, step s = .next t → t.pending = s.pending.tail ∧ (s.Rails → t.Rails)

/-- Every command keeps its frame: a part of the state that `touches` does not list for its row is the same in the next state,
whatever the operands and the state. -/
def Obligations.EveryCommandKeepsItsFrame : Prop :=
  ∀ (i : Instr) (s t : State), exec i s = .next t → ∀ c : Part, c ∉ touches i → c.same s t

/-- The rails agree right after reset. -/
def Obligations.TheRailsAgreeAtReset : Prop :=
  State.reset.Rails

/-- Reset leaves the registers as the tables of 02 R40 and R44 say: GLB_STATE in AON_ONLY, TB_STATUS in FREERUN, both rings off
with CMDQ_CTRL.IDLE set and 2^4 slots, every output queue and injection queue off, empty, with NOTICE set and 2^4 entries,
every network ring off with 2^8 descriptors, AON_ALERT_EN 1, every interrupt, scratch, cursor and alert register 0; and nothing
waits. -/
def Obligations.ResetState : Prop :=
  readGlb State.reset 0x04 = 1 ∧ readGlb State.reset 0x10 = 0 ∧ readGlb State.reset 0x14 = 0 ∧ readGlb State.reset 0x30 = 0 ∧
  readCmdq State.reset 0x08 = 4 ∧ readCmdq State.reset 0x14 = 2 ∧ readCmdq State.reset 0x28 = 4 ∧ readCmdq State.reset 0x34 = 0 ∧
  (∀ n, readOq State.reset n 0x00 = 4 ∧ readOq State.reset n 0x04 = 1 ∧ readOq State.reset n 0x18 = 4) ∧
  (∀ m, readIq State.reset m 0x00 = 4 ∧ readIq State.reset m 0x04 = 0 ∧ readIq State.reset m 0x18 = 4) ∧
  (∀ p r, readNetRing State.reset p r 0x08 = 8 ∧ readNetRing State.reset p r 0x14 = 0) ∧
  readTb State.reset 0x04 = 4 ∧ (∀ m off, readRec m State.reset off = 0) ∧ readCas State.reset 0x04 = 0 ∧
  readCas State.reset 0x10 = 0 ∧ readAon State.reset 0x0C = 0 ∧ readAon State.reset 0x10 = 1 ∧ State.reset.tapIr = 1 ∧
  State.reset.pwr.ps = .aonOnly ∧ State.reset.pending = []

/-! ## Commands: their protocol -/

/-- Malformed commands, on the row START: of a command that is taken and is no repetition, a PARAM_LEN that does not match gives
BAD_LENGTH, else a reserved flag gives BAD_FIELD, else another HDRVER gives BAD_VERSION, else a CRC that does not match gives
BAD_CRC; the refused command changes nothing. A well-formed command in a power state that its row does not list: BUSY in BOOT,
MAIN_DOWN in AON_ONLY and DORMANT, WRONG_STATE in IDLE (the row STOP, whose only state is U), and NOT_ACTIVE_ROLE for an Act
row (PROG_STOP) in STANDBY or STALEMATE in RUN. The refused command changes nothing. -/
def Obligations.MalformedAndUntimelyCommandsAreRefused : Prop :=
  (∀ (pk : Packet) (s u : State), (taken 0x0103 pk s).map endPairing = some u → repeated 0x0103 pk u = none →
    (pk.plen ≠ 0 → Answers (.start pk) s pk 0x0102 [] u) ∧
    (pk.plen = 0 → 4 ≤ pk.flags → Answers (.start pk) s pk 0x0103 [] u) ∧
    (pk.plen = 0 → pk.flags < 4 → pk.hdrver ≠ 1 → Answers (.start pk) s pk 0x0104 [] u) ∧
    (pk.plen = 0 → pk.flags < 4 → pk.hdrver = 1 → pk.crc ≠ 0 → Answers (.start pk) s pk 0x0105 [] u)) ∧
  (∀ (pk : Packet) (s u : State), bit pk.flags 1 = false →
    ((taken 0x0104 pk s).map endPairing = some u → repeated 0x0104 pk u = none → class01 stopCmd pk u = none →
      (u.pwr.ps = .boot → Answers (.stop pk) s pk 0x0202 [] u) ∧
      (u.pwr.ps = .aonOnly ∨ u.pwr.ps = .dormant → Answers (.stop pk) s pk 0x0206 [] u) ∧
      (u.pwr.ps = .idle → Answers (.stop pk) s pk 0x0201 [] u)) ∧
    ((taken 0x0503 pk s).map endPairing = some u → repeated 0x0503 pk u = none → class01 progStopCmd pk u = none →
      u.pwr.ps = .run → u.pwr.recovery = false → u.cas.role = .standby ∨ u.cas.role = .stalemate →
      Answers (.progStop pk) s pk 0x0204 [] u))

/-- A command with the SEQ, OPCODE and parameter CRC of the last one from its origin is not executed again: the stored reply is
posted again, and nothing else happens but that commands without a row whose turn has come are served. -/
def Obligations.ARepeatedCommandIsAnsweredFromTheStore : Prop :=
  ∀ (pk : Packet) (s u : State) (r : Reply), (taken 0x0202 pk s).map endPairing = some u → repeated 0x0202 pk u = some r →
    exec (.streamDelete pk) s = .next (serve (postReply r (bit pk.flags 0) u))

/-- Where a reply goes: written at RPLQ_TAIL, which advances, with vector 0 unless NO_IRQ is set, and with RPLQ_FULL set by the
reply that fills the ring; kept waiting while the ring is full or off, or the firmware is down, so that none is dropped; or
into the mailbox with AON_ALERT.REPLY set. -/
def Obligations.RepliesArePostedToTheirOrigin : Prop :=
  ∀ (r : Reply) (q : Bool) (s : State),
    (r.origin = .host → fwDown s = false → s.cmd.rqEn = true → rplqFull s = false →
      (postReply r q s).cmd.rqTail = (s.cmd.rqTail + 1) % 2 ^ s.cmd.rqSize ∧
      .reply (some s.cmd.rqTail) r ∈ (postReply r q s).emitted ∧
      (q = false → .vector 0 ∈ (postReply r q s).emitted) ∧
      ((s.cmd.rqTail + 2) % 2 ^ s.cmd.rqSize = s.cmd.rqHead → (postReply r q s).glb.irqStatus.getLsbD 7 = true)) ∧
    (r.origin = .host → fwDown s = true ∨ s.cmd.rqEn = false ∨ rplqFull s = true →
      postReply r q s = { s with cmd := { s.cmd with replyWait := s.cmd.replyWait ++ [(r, q)] } }) ∧
    (r.origin = .mgp → fwDown s = false →
      (postReply r q s).cmd.replyBox = some r ∧ (postReply r q s).pwr.aonAlert.getLsbD 0 = true) ∧
    (r.origin = .mgp → fwDown s = true →
      postReply r q s = { s with cmd := { s.cmd with replyWait := s.cmd.replyWait ++ [(r, q)] } })

/-! ## Commands that read -/

/-- GET_INFO, GET_STATE, TIME_STATUS, SCHED_STATUS, CAS_STATUS, KEY_STATUS and ID_CERT answer OK with their result, and change
nothing but what answering touches. STREAM_STATUS, DET_STATUS, PROG_READ, VCH_STATUS, QUEUE_STATUS and PORT_STATUS answer OK
with the records of what their parameters name, and change nothing but what answering touches. What GET_STATE tells: 28 bytes,
of which byte 0 is the power state, byte 1 the role, byte 3 the source, and bytes 8 to 11 the budget in mW. -/
def Obligations.StatusCommandsComplete : Prop :=
  (∀ (pk : Packet) (s u : State),
    (Accepts getInfoCmd pk s u → Answers (.getInfo pk) s pk 0 (infoBytes u) u) ∧
    (Accepts getStateCmd pk s u → Answers (.getState pk) s pk 0 (stateBytes u) u) ∧
    (Accepts timeStatusCmd pk s u → Answers (.timeStatus pk) s pk 0 (timeStatusBytes u) u) ∧
    (Accepts schedStatusCmd pk s u → Answers (.schedStatus pk) s pk 0 (schedStatusBytes u) u) ∧
    (Accepts casStatusCmd pk s u → Answers (.casStatus pk) s pk 0 (casStatusBytes u) u) ∧
    (Accepts keyStatusCmd pk s u → Answers (.keyStatus pk) s pk 0 (keyStatusBytes u) u) ∧
    (Accepts idCertCmd pk s u → Answers (.idCert pk) s pk 0 (idCertBytes u) u)) ∧
  (∀ (pk : Packet) (s u : State),
    (Accepts streamStatusCmd pk s u → Answers (.streamStatus pk) s pk 0
      ((List.range (fld (pkBytes pk) 2 1)).map fun i => streamStatus u (fld (pkBytes pk) 0 2 + i)).flatten u) ∧
    (Accepts detStatusCmd pk s u → Answers (.detStatus pk) s pk 0 (detStatusBytes u (fld (pkBytes pk) 0 2)) u) ∧
    (Accepts progReadCmd pk s u → Answers (.progRead pk) s pk 0
      ((List.range (fld (pkBytes pk) 1 1)).map fun i => readEntry (schImg (activeBank u) (fld (pkBytes pk) 0 1))
        (schRun u (fld (pkBytes pk) 0 1)) (fld (pkBytes pk) (4 + 4 * i) 2) (fld (pkBytes pk) (6 + 4 * i) 1)).flatten u) ∧
    (Accepts vchStatusCmd pk s u → Answers (.vchStatus pk) s pk 0 (vchStatusBytes u (fld (pkBytes pk) 0 2)) u) ∧
    (Accepts queueStatusCmd pk s u → Answers (.queueStatus pk) s pk 0
      ((List.range (fld (pkBytes pk) 1 1)).map fun i => queueRecord u (fld (pkBytes pk) 0 1 + i)).flatten u) ∧
    (Accepts portStatusCmd pk s u → Answers (.portStatus pk) s pk 0 (portStatusBytes u (fld (pkBytes pk) 0 1)) u)) ∧
  (∀ s : State, (stateBytes s).length = 28 ∧ fld (stateBytes s) 0 1 = pstateCode s.pwr.ps ∧
    fld (stateBytes s) 1 1 = roleCode s.cas.role ∧ fld (stateBytes s) 3 1 = powerSource s ∧ fld (stateBytes s) 8 4 = budget s)

/-! ## Commands that write the tables -/

/-- The table commands write the entry that their parameters name into the inactive bank: STREAM_DEFINE and STREAM_DELETE (whose
stream loses its channels), CHANNEL_DEFINE for each of its channels, GROUP_DEFINE, TEMPLATE_DEFINE, DET_DEFINE, CAP_DEFINE and
OUT_DEFINE. The active bank and everything else stay. STREAM_DEFINE of a 1,025th SV stream is refused with NO_SPACE. A write of
the inactive bank leaves the active bank as it is. -/
def Obligations.TableCommandsWriteTheInactiveBank : Prop :=
  (∀ (pk : Packet) (s u : State),
    (∀ b, Accepts streamDefineCmd pk s u → b = { dropChannels (fld (pkBytes pk) 0 2) (inactiveBank u) with
        streams := mput (inactiveBank u).streams (fld (pkBytes pk) 0 2) (streamOf (pkBytes pk)) } →
      (svStreams b ≤ 1024 → Answers (.streamDefine pk) s pk 0 [] (setInactive b u)) ∧
      (1024 < svStreams b → Answers (.streamDefine pk) s pk 0x0301 [] u)) ∧
    (Accepts streamDeleteCmd pk s u → Answers (.streamDelete pk) s pk 0 [] (setInactive
      { dropChannels (fld (pkBytes pk) 0 2) (inactiveBank u) with
        streams := mdel (inactiveBank u).streams (fld (pkBytes pk) 0 2) } u)) ∧
    (Accepts channelDefineCmd pk s u → Answers (.channelDefine pk) s pk 0 [] (setInactive
      { inactiveBank u with
        channels := (List.range (fld (pkBytes pk) 2 1)).foldl
          (fun m i => mput m (fld (pkBytes pk) 0 2 + i) (channelOf (pkBytes pk) i)) (inactiveBank u).channels } u)) ∧
    (Accepts groupDefineCmd pk s u → Answers (.groupDefine pk) s pk 0 [] (setInactive
      { inactiveBank u with groups := mput (inactiveBank u).groups (fld (pkBytes pk) 0 2) (groupOf (pkBytes pk)) } u)) ∧
    (Accepts templateDefineCmd pk s u → Answers (.templateDefine pk) s pk 0 [] (setInactive
      { inactiveBank u with templates := mput (inactiveBank u).templates (fld (pkBytes pk) 0 2) (templateOf (pkBytes pk)) } u)) ∧
    (Accepts detDefineCmd pk s u → Answers (.detDefine pk) s pk 0 [] (setInactive
      { inactiveBank u with dets := mput (inactiveBank u).dets (fld (pkBytes pk) 0 2) (detOf (pkBytes pk)) } u)) ∧
    (Accepts capDefineCmd pk s u → Answers (.capDefine pk) s pk 0 [] (setInactive
      { inactiveBank u with caps := mput (inactiveBank u).caps (fld (pkBytes pk) 0 2) (capOf (pkBytes pk)) } u)) ∧
    (Accepts outDefineCmd pk s u → Answers (.outDefine pk) s pk 0 [] (setInactive
      { inactiveBank u with outs := mput (inactiveBank u).outs (fld (pkBytes pk) 0 2) (outOf (pkBytes pk)) } u))) ∧
  (∀ (b : Bank) (s : State), activeBank (setInactive b s) = activeBank s ∧ inactiveBank (setInactive b s) = b)

/-! ## Run, power and configuration commands -/

/-- START and STOP are QUEUED and wait for the second boundary; WARM_RESET answers OK and requests the reset, with no partner to
hand over to; POWER_CTRL MAIN_OFF answers OK and requests the shut-down; SCHED_SWAP is QUEUED for the first second boundary at
least 20 ms away. -/
def Obligations.RunAndPowerCommandsComplete : Prop :=
  ∀ (pk : Packet) (s u : State),
    (Accepts startCmd pk s u → (startSched u).isSome = true → u.pwr.bistFail = false → Answers (.start pk) s pk 1 []
      { u with pwr := { u.pwr with startWait := some (u.pwr.startWait.getD [] ++ [waiterOf 0x0103 pk]) } }) ∧
    (Accepts stopCmd pk s u → Answers (.stop pk) s pk 1 []
      { u with pwr := { u.pwr with stopWait := some (u.pwr.stopWait.getD [] ++ [waiterOf 0x0104 pk]) } }) ∧
    (Accepts warmResetCmd pk s u → u.cas.role = .solo → Answers (.warmReset pk) s pk 0 []
      { u with pwr := { u.pwr with warmAt := true } }) ∧
    (Accepts powerCtrlCmd pk s u → mainUp u = true → fld (pkBytes pk) 0 4 = 2 → Answers (.powerCtrl pk) s pk 0 []
      { u with pwr := { u.pwr with mainOffWait := some none } }) ∧
    (Accepts schedSwapCmd pk s u → swapRefusal u = 1 → Answers (.schedSwap pk) s pk 1 []
      { u with pwr := { u.pwr with swapWait := some (secCeil (now u + msU 20), waiterOf 0x0302 pk) } })

/-- FW_COMMIT gives the image's commit counter one above the other image's and clears its attempts; CFG_SAVE writes the active
bank, with the constants in effect, over the image with the lower commit counter, with a counter one higher. -/
def Obligations.CommitCommandsComplete : Prop :=
  ∀ (pk : Packet) (s u : State),
    (∀ i, Accepts fwCommitCmd pk s u → fld (pkBytes pk) 0 4 = 0 → u.nor.fwA = some i → Answers (.fwCommit pk) s pk 0 []
      { u with nor := { u.nor with fwA := some { i with commit := (fwCommitOf u true + 1) % 2 ^ 32 }, attemptsA := 0 } }) ∧
    (∀ i, Accepts fwCommitCmd pk s u → fld (pkBytes pk) 0 4 = 1 → u.nor.fwB = some i → Answers (.fwCommit pk) s pk 0 []
      { u with nor := { u.nor with fwB := some { i with commit := (fwCommitOf u false + 1) % 2 ^ 32 }, attemptsB := 0 } }) ∧
    (∀ a b, Accepts cfgSaveCmd pk s u → u.nor.cfgA = some a → u.nor.cfgB = some b → a.commit < b.commit →
      Answers (.cfgSave pk) s pk 0 [] { u with nor := { u.nor with cfgA := some (cfgImage (b.commit + 1) u) } }) ∧
    (∀ a b, Accepts cfgSaveCmd pk s u → u.nor.cfgA = some a → u.nor.cfgB = some b → b.commit ≤ a.commit →
      Answers (.cfgSave pk) s pk 0 [] { u with nor := { u.nor with cfgB := some (cfgImage (a.commit + 1) u) } })

/-! ## Chunked loads -/

/-- A chunk that is not the last joins its load and is answered OK, whatever it loads; a load that the other origin has in progress
makes it BUSY. With its last chunk, SCHED_LOAD puts the schedule into the inactive bank, PROG_LOAD the scheme image, and
FW_LOAD the image, with a commit counter that the spec does not state, into its slot when it passes its checks and nothing when
it fails them; and the load is gone. -/
def Obligations.ImageLoadsComplete : Prop :=
  (∀ (op : Nat) (p : Bytes) (o : Origin) (s : State),
    (liveLoads s).any (fun c => decide (c.origin ≠ o) && c.opcode == op && c.target == fld p 0 4) = false →
    bit (fld p 14 1) 1 = false →
    chunkTake o op p s = .more { dropChunk o op (fld p 0 4) s with cmd := { (dropChunk o op (fld p 0 4) s).cmd with
      chunks := (s.cmd.chunks.filter fun c => !isLoad o op (fld p 0 4) c) ++
        [{ origin := o, opcode := op, target := fld p 0 4, totalLen := fld p 4 4, data := chunkImage o op p s, last := now s }] } }) ∧
  (∀ (pk : Packet) (s u v : State) (d : Bytes),
    (Accepts schedLoadCmd pk s u → chunkTake pk.origin 0x0301 (pkBytes pk) u = .whole d v → schedStatus (schedOf d) v = 0 →
      Answers (.schedLoad pk) s pk 0 [] (setInactive { inactiveBank v with sched := some (schedOf d) } v)) ∧
    (Accepts progLoadCmd pk s u → chunkTake pk.origin 0x0501 (pkBytes pk) u = .whole d v → fld (pkBytes pk) 0 4 < 64 →
      (schRun u (fld (pkBytes pk) 0 4)).running = false →
      Answers (.progLoad pk) s pk 0 [] (setInactive
        { inactiveBank v with schemes := mput (inactiveBank v).schemes (fld (pkBytes pk) 0 4) (schemeOf d) } v)) ∧
    (Accepts fwLoadCmd pk s u → chunkTake pk.origin 0x0107 (pkBytes pk) u = .whole d v → fld (pkBytes pk) 0 4 = 0 →
      (Config.fwVerifies d = true → Answers (.fwLoad pk) s pk 0 [] { v with
        free := v.free + 1
        nor := { v.nor with attemptsA := 0, fwA := some { ver := Config.fwVersion d, commit := Config.freeValue v.free % 2 ^ 32
                                                          valid := true, image := d } } }) ∧
      (Config.fwVerifies d = false → Answers (.fwLoad pk) s pk 0x0402 [] v)))

/-- With the last chunk, PRC_ENCODE writes the compressed block into its output queue and answers with its length, and PRC_DECODE
the block's samples behind their header; a block that does not decode gives the codec's code and is counted. -/
def Obligations.CodecCommandsComplete : Prop :=
  ∀ (pk : Packet) (s u v : State) (d b : Bytes), (oq v (fld (pkBytes pk) 0 4)).en = true →
    (Accepts prcEncodeCmd pk s u → chunkTake pk.origin 0x0C02 (pkBytes pk) u = .whole d v →
      prcEncode (fld d 1 1) (fld d 4 1) (samplesOf (fld d 0 1) (fld d 1 1) (fld d 2 2) (d.drop 8)) = some b →
      oqLevel (oq v (fld (pkBytes pk) 0 4)) + heldWords (oq v (fld (pkBytes pk) 0 4)).held + pktWords b.length
        ≤ oqCapacity v (fld (pkBytes pk) 0 4) →
      Answers (.prcEncode pk) s pk 0 (le 4 b.length) (oqCommit (fld (pkBytes pk) 0 4) { data := b, mark := false } v)) ∧
    (∀ c, Accepts prcDecodeCmd pk s u → chunkTake pk.origin 0x0C01 (pkBytes pk) u = .whole d v → prcDecode d = .ok c →
      b = slice d 4 5 ++ zeros 3 ++ rawSamples (fld d 5 1) c →
      oqLevel (oq v (fld (pkBytes pk) 0 4)) + heldWords (oq v (fld (pkBytes pk) 0 4)).held + pktWords b.length
        ≤ oqCapacity v (fld (pkBytes pk) 0 4) →
      Answers (.prcDecode pk) s pk 0 [] (oqCommit (fld (pkBytes pk) 0 4) { data := b, mark := false } v)) ∧
    (∀ e, Accepts prcDecodeCmd pk s u → chunkTake pk.origin 0x0C01 (pkBytes pk) u = .whole d v → prcDecode d = .error e →
      Answers (.prcDecode pk) s pk (prcErrCode e) [] (count 153 v))

/-! ## Time, clock and recorder commands -/

/-- TIME_CONFIG takes its parameters and starts source selection anew; a LOCKED time base that is to take its time from TIME_SET
only enters HOLDOVER. TIME_SET in IDLE sets the count, and in RUN slews by a difference below 1 ms; a LOCKED time base refuses
it. LEAP_SET stores offset and flags for the next second boundary. RTC_CURVE_LOAD takes the 33 points for the next sensor
reading and, with the main side up, into NOR; RTC_LEAP_TABLE replaces the leap table at once and, with the main side up, in
NOR. -/
def Obligations.TimeAndClockCommandsComplete : Prop :=
  (∀ (pk : Packet) (s u : State),
    (Accepts timeConfigCmd pk s u → ∃ t, exec (.timeConfig pk) s = .next (serve t) ∧ answer pk t = some (0, []) ∧
      t.tb.cfg = timeConfigOf (pkBytes pk) ∧ t.tb.goodRun = 0 ∧ t.tb.masters = [] ∧ t.tb.gmPort = 0xFF ∧ t.tb.count = u.tb.count ∧
      t.tb.state = if (timeConfigOf (pkBytes pk)).source = 2 ∧ u.tb.state = .locked then .holdover else u.tb.state) ∧
    (Accepts timeSetCmd pk s u → u.tb.state ≠ .locked → inIdle u = true → Answers (.timeSet pk) s pk 0 []
      { u with tb := { u.tb with
        count := (fld (pkBytes pk) 0 8 * 2 ^ 32 + fld (pkBytes pk) 8 4) * 2 ^ 32, slew := 0, incr := incrNominal, goodRun := 0, secDone := none
        todErr := 0 } }) ∧
    (∀ x : Int, Accepts timeSetCmd pk s u → u.tb.state ≠ .locked → inIdle u = false →
      x = u.tb.count - (fld (pkBytes pk) 0 8 * 2 ^ 32 + fld (pkBytes pk) 8 4) * 2 ^ 32 → x.natAbs * 1000 < 2 ^ 64 →
      Answers (.timeSet pk) s pk 0 [] (slewBy x u)) ∧
    (Accepts timeSetCmd pk s u → u.tb.state = .locked → Answers (.timeSet pk) s pk 0x0201 [] u) ∧
    (Accepts leapSetCmd pk s u → Answers (.leapSet pk) s pk 0 []
      { u with tb := { u.tb with
        storedOffset := fld (pkBytes pk) 0 2, storedFlags := fld (pkBytes pk) 2 1, storedWaiting := true } })) ∧
  (∀ (pk : Packet) (s u : State),
    (Accepts rtcCurveLoadCmd pk s u → mainUp u = true → Answers (.rtcCurveLoad pk) s pk 0 []
      { u with rtc := { u.rtc with newCurve := some ((List.range 33).map fun i => sgn 16 (fld (pkBytes pk) (2 * i) 2)) }
               nor := { u.nor with curve := some ((List.range 33).map fun i => sgn 16 (fld (pkBytes pk) (2 * i) 2)) } }) ∧
    (Accepts rtcCurveLoadCmd pk s u → mainUp u = false → Answers (.rtcCurveLoad pk) s pk 0 []
      { u with rtc := { u.rtc with newCurve := some ((List.range 33).map fun i => sgn 16 (fld (pkBytes pk) (2 * i) 2)) } }) ∧
    (Accepts rtcLeapTableCmd pk s u → mainUp u = true → Answers (.rtcLeapTable pk) s pk 0 []
      { u with rtc := { u.rtc with leaps := leapTableOf (pkBytes pk) }
               nor := { u.nor with leaps := some (leapTableOf (pkBytes pk)) } }) ∧
    (Accepts rtcLeapTableCmd pk s u → mainUp u = false → Answers (.rtcLeapTable pk) s pk 0 []
      { u with rtc := { u.rtc with leaps := leapTableOf (pkBytes pk) } }))

/-- REC_NOTE writes a NOTE record of its severity and text and answers with the record's SEQ; where the recorder has room it is the
newest live record. REC_EXPORT answers with the records in sequence and their signature. -/
def Obligations.RecorderCommandsComplete : Prop :=
  ∀ (pk : Packet) (s u : State),
    (Accepts recNoteCmd pk s u → (u.rcd.live.filter (·.staged)).length < Config.stagingRoom →
      recLive u.rcd.live + 1040 ≤ Config.recorderRoom →
      ∃ t r, exec (.recNote pk) s = .next (serve t) ∧ answer pk t = some (0, le 4 u.rcd.seq) ∧ Quiet t { u with free := u.free + 1 } ∧
        t.rcd.live = u.rcd.live ++ [r] ∧ r.seq = u.rcd.seq ∧ r.cls = 12 ∧ r.sev = fld (pkBytes pk) 0 1 ∧
        r.detail = slice (pkBytes pk) 4 (fld (pkBytes pk) 2 2) ∧ t.rcd.seq = (u.rcd.seq + 1) % 2 ^ 32) ∧
    (Accepts recExportCmd pk s u → Answers (.recExport pk) s pk 0 (recExport (fld (pkBytes pk) 0 4) (fld (pkBytes pk) 4 2) u).2
      (recExport (fld (pkBytes pk) 0 4) (fld (pkBytes pk) 4 2) u).1)

/-! ## Detector and scheme commands -/

/-- DET_ACK clears the latch of the detector it names, or of every one with 0xFFFF, and no other. PROG_START of a scheme that does
not run is QUEUED and starts it cold: its variables at their initial values, its first cycle the first CYCLE issue at least 1
ms away. PROG_STOP of one that runs is QUEUED for the end of its last cycle; of one that does not run it finds it stopped. -/
def Obligations.DetAckAndSchemeStartAndStopComplete : Prop :=
  (∀ (pk : Packet) (s u : State), Accepts detAckCmd pk s u → ∃ t, exec (.detAck pk) s = .next (serve t) ∧ answer pk t = some (0, []) ∧
    ∀ i, mget t.dets i = (mget u.dets i).map fun r =>
      if i = fld (pkBytes pk) 0 2 ∨ fld (pkBytes pk) 0 2 = 0xFFFF then { r with latch := 0 } else r) ∧
  (∀ (pk : Packet) (s u : State),
    (∀ img, Accepts progStartCmd pk s u → schImg (activeBank u) (fld (pkBytes pk) 0 1) = some img →
      (schRun u (fld (pkBytes pk) 0 1)).running = false →
      ∃ t, exec (.progStart pk) s = .next (serve t) ∧ answer pk t = some (1, []) ∧
        (schRun t (fld (pkBytes pk) 0 1)).running = true ∧ (schRun t (fld (pkBytes pk) 0 1)).vars = img.vars.map (·.init) ∧
        (schRun t (fld (pkBytes pk) 0 1)).notBefore = cycleFrom u (fld (pkBytes pk) 0 1) (now u + msU 1) ∧
        (schRun t (fld (pkBytes pk) 0 1)).startWait = some (waiterOf 0x0502 pk) ∧
        (schRun t (fld (pkBytes pk) 0 1)).stopWait = none) ∧
    (Accepts progStopCmd pk s u → (schRun u (fld (pkBytes pk) 0 1)).running = true →
      (schRun u (fld (pkBytes pk) 0 1)).stopWait = none → Answers (.progStop pk) s pk 1 []
        (setSch (fld (pkBytes pk) 0 1) { schRun u (fld (pkBytes pk) 0 1) with
          stopWait := some [waiterOf 0x0503 pk], stopLast := lastCycle u (fld (pkBytes pk) 0 1) } u)) ∧
    (Accepts progStopCmd pk s u → (schRun u (fld (pkBytes pk) 0 1)).running = false → Answers (.progStop pk) s pk 0 [] u))

/-- PROG_SET_VALUES of a running scheme is QUEUED with its cells, at most 4 sets at a time and no forced variable; PROG_FORCE is
QUEUED likewise: 1 forces a variable, 2 releases one, 3 releases all. -/
def Obligations.SchemeSetAndForceComplete : Prop :=
  ∀ (pk : Packet) (s u : State),
    (Accepts progSetValuesCmd pk s u → (schRun u (fld (pkBytes pk) 0 1)).running = true →
      (cellsOf (pkBytes pk)).any (fun c => c.space == 0 && mhas (schRun u (fld (pkBytes pk) 0 1)).forces c.id) = false →
      pendingSets (schRun u (fld (pkBytes pk) 0 1)) < 4 → Answers (.progSetValues pk) s pk 1 []
        (setSch (fld (pkBytes pk) 0 1) { schRun u (fld (pkBytes pk) 0 1) with
          pend := (schRun u (fld (pkBytes pk) 0 1)).pend ++ [.set (waiterOf 0x0504 pk) (nextApply u (fld (pkBytes pk) 0 1)) (cellsOf (pkBytes pk))] } u)) ∧
    (Accepts progSetValuesCmd pk s u → (schRun u (fld (pkBytes pk) 0 1)).running = true →
      (cellsOf (pkBytes pk)).any (fun c => c.space == 0 && mhas (schRun u (fld (pkBytes pk) 0 1)).forces c.id) = true →
      Answers (.progSetValues pk) s pk 0x0205 [] u) ∧
    (Accepts progForceCmd pk s u → fld (pkBytes pk) 1 1 = 1 → forceCount u < Config.maxForces → Answers (.progForce pk) s pk 1 []
        (setSch (fld (pkBytes pk) 0 1) { schRun u (fld (pkBytes pk) 0 1) with
          pend := (schRun u (fld (pkBytes pk) 0 1)).pend
            ++ [.force (waiterOf 0x0505 pk) (nextApply u (fld (pkBytes pk) 0 1)) (fld (pkBytes pk) 2 2) (fld (pkBytes pk) 8 8)] } u)) ∧
    (Accepts progForceCmd pk s u → fld (pkBytes pk) 1 1 = 2 → Answers (.progForce pk) s pk 1 []
        (setSch (fld (pkBytes pk) 0 1) { schRun u (fld (pkBytes pk) 0 1) with
          pend := (schRun u (fld (pkBytes pk) 0 1)).pend ++ [.unforce (waiterOf 0x0505 pk) (nextApply u (fld (pkBytes pk) 0 1)) (fld (pkBytes pk) 2 2)] } u)) ∧
    (Accepts progForceCmd pk s u → fld (pkBytes pk) 1 1 = 3 → Answers (.progForce pk) s pk 1 []
        (setSch (fld (pkBytes pk) 0 1) { schRun u (fld (pkBytes pk) 0 1) with
          pend := (schRun u (fld (pkBytes pk) 0 1)).pend ++ [.unforceAll (waiterOf 0x0505 pk) (nextApply u (fld (pkBytes pk) 0 1))] } u))

/-! ## Voice commands -/

/-- VCH_OPEN of a channel that is not open opens it with its parameters from the first PLAYOUT issue at least 1 ms away; VCH_MODIFY
gives an open one its next settings from such an issue; VCH_CLOSE closes it 1 ms later; each of them of a channel in the wrong
state is refused. -/
def Obligations.CallCommandsComplete : Prop :=
  ∀ (pk : Packet) (s u : State),
    (Accepts vchOpenCmd pk s u → vchOpenNow u (fld (pkBytes pk) 0 2) = false →
      vchUnits u (fld (pkBytes pk) 0 2) (vchParamsOf (pkBytes pk)) = true →
      ∃ t r, exec (.vchOpen pk) s = .next (serve t) ∧ answer pk t = some (0, []) ∧ vch t (fld (pkBytes pk) 0 2) = some r ∧
        r.par = vchParamsOf (pkBytes pk) ∧ r.openAt = some (vchFrom u (fld (pkBytes pk) 0 2)) ∧ r.closeAt = none ∧ r.next = none ∧
        r.recd.chain = zeros 32) ∧
    (∀ r, Accepts vchModifyCmd pk s u → vch u (fld (pkBytes pk) 0 2) = some r → r.closeAt = none → r.openAt = none →
      vchUnits u (fld (pkBytes pk) 0 2) (vchParamsOf (pkBytes pk)) = true → Answers (.vchModify pk) s pk 0 []
        (setVch (fld (pkBytes pk) 0 2)
          { r with next := some (vchParamsOf (pkBytes pk), vchFrom u (fld (pkBytes pk) 0 2)) } u)) ∧
    (∀ r a, Accepts vchModifyCmd pk s u → vch u (fld (pkBytes pk) 0 2) = some r → r.closeAt = none → r.openAt = some a →
      vchUnits u (fld (pkBytes pk) 0 2) (vchParamsOf (pkBytes pk)) = true → Answers (.vchModify pk) s pk 0 []
        (setVch (fld (pkBytes pk) 0 2) { r with par := vchParamsOf (pkBytes pk), recd := { r.recd with oq := recQueue r.recd (vchParamsOf (pkBytes pk)) } } u)) ∧
    (Accepts vchCloseCmd pk s u → vchOpenNow u (fld (pkBytes pk) 0 2) = true → Answers (.vchClose pk) s pk 0 []
      { u with vchs := mmod u.vchs (fld (pkBytes pk) 0 2) fun r => { r with closeAt := some (now u + msU 1) } }) ∧
    (Accepts vchOpenCmd pk s u → vchOpenNow u (fld (pkBytes pk) 0 2) = true → Answers (.vchOpen pk) s pk 0x0201 [] u) ∧
    (Accepts vchModifyCmd pk s u → vchOpenNow u (fld (pkBytes pk) 0 2) = false → Answers (.vchModify pk) s pk 0x0201 [] u) ∧
    (Accepts vchCloseCmd pk s u → vchOpenNow u (fld (pkBytes pk) 0 2) = false → Answers (.vchClose pk) s pk 0x0201 [] u)

/-- FLOW_SET writes an entry of an open channel: a new one starts with the SEQ0, TS0 and ROC0 of its parameters; one whose profile,
locker and SSRC stay keeps its context; and a disabled one is removed. -/
def Obligations.FlowSetCompletes : Prop :=
  ∀ (pk : Packet) (s u : State), Accepts flowSetCmd pk s u → vchOpenNow u (flowDefOf (pkBytes pk)).vch = true →
    (bit (flowDefOf (pkBytes pk)).role 2 = true → sameFlow u (fld (pkBytes pk) 0 2) (flowDefOf (pkBytes pk)) = false →
      ∃ t, exec (.flowSet pk) s = .next (serve t) ∧ answer pk t = some (0, []) ∧ mget t.flows (fld (pkBytes pk) 0 2) =
        some { def_ := flowDefOf (pkBytes pk), seq := (flowDefOf (pkBytes pk)).seq0, ts := (flowDefOf (pkBytes pk)).ts0
               roc := (flowDefOf (pkBytes pk)).roc0 }) ∧
    (∀ f, bit (flowDefOf (pkBytes pk)).role 2 = true → bit (flowDefOf (pkBytes pk)).role 4 = false →
      mget u.flows (fld (pkBytes pk) 0 2) = some f → sameFlow u (fld (pkBytes pk) 0 2) (flowDefOf (pkBytes pk)) = true →
      (flowDefOf (pkBytes pk)).profile = f.def_.profile → (flowDefOf (pkBytes pk)).locker = f.def_.locker →
      (flowDefOf (pkBytes pk)).ssrc = f.def_.ssrc → Answers (.flowSet pk) s pk 0 []
        (setFlow (fld (pkBytes pk) 0 2)
          { f with def_ := { flowDefOf (pkBytes pk) with roc0 := f.def_.roc0 }, keyLost := false } u)) ∧
    (bit (flowDefOf (pkBytes pk)).role 2 = false → Answers (.flowSet pk) s pk 0 [] (flowDelete (fld (pkBytes pk) 0 2) u) ∧
      mget (flowDelete (fld (pkBytes pk) 0 2) u).flows (fld (pkBytes pk) 0 2) = none)

/-! ## Capture, queue and network commands -/

/-- CAP_ARM arms a capture from the present second and leaves one alone that is armed already; CAP_TRIGGER of one that takes
triggers by command is accepted, and refused where TRIG does not allow it; OQ_FLUSH is QUEUED, its queue discards what the
consumer has not begun and is flushing; PORT_CONFIG gives the port its settings; WAKE_SET writes its entry. -/
def Obligations.CaptureQueueAndPortCommandsComplete : Prop :=
  ∀ (pk : Packet) (s u : State),
    (∀ r, Accepts capArmCmd pk s u → fld (pkBytes pk) 2 1 = 1 → capRun u (fld (pkBytes pk) 0 2) = some r → r.armed = false →
      Answers (.capArm pk) s pk 0 [] (setCap (fld (pkBytes pk) 0 2) { r with armed := true, sealFrom := now u / 2 ^ 32 } u)) ∧
    (∀ r, Accepts capArmCmd pk s u → capRun u (fld (pkBytes pk) 0 2) = some r → r.armed = (fld (pkBytes pk) 2 1 == 1) →
      Answers (.capArm pk) s pk 0 [] u) ∧
    (∀ r, Accepts capTriggerCmd pk s u → capRun u (fld (pkBytes pk) 0 2) = some r → bit r.def_.trig 0 = true → emits u = true →
      trigOpen r (now u) = true → (r.def_.cls = 1 → openRecords u (fld (pkBytes pk) 0 2) r < 2) →
      Answers (.capTrigger pk) s pk 0 [] (acceptTrigger (fld (pkBytes pk) 0 2)
        { src := 3, srcId := 0, t := now u, mark := slice (pkBytes pk) 4 16, flags := 0 } false u)) ∧
    (∀ r, Accepts capTriggerCmd pk s u → capRun u (fld (pkBytes pk) 0 2) = some r → bit r.def_.trig 0 = false →
      Answers (.capTrigger pk) s pk 0x0302 [] u) ∧
    (Accepts oqFlushCmd pk s u → ∃ t, exec (.oqFlush pk) s = .next (serve t) ∧ answer pk t = some (1, []) ∧
      (oq t (fld (pkBytes pk) 0 1)).flushing = true ∧
      (oq t (fld (pkBytes pk) 0 1)).flushWait = (oq u (fld (pkBytes pk) 0 1)).flushWait ++ [waiterOf 0x0704 pk] ∧
      (oq t (fld (pkBytes pk) 0 1)).pkts =
        if 0 < (oq u (fld (pkBytes pk) 0 1)).begun then (oq u (fld (pkBytes pk) 0 1)).pkts.take 1 else []) ∧
    (Accepts portConfigCmd pk s u → ∃ t, exec (.portConfig pk) s = .next (serve t) ∧ answer pk t = some (0, []) ∧
      (port t (fld (pkBytes pk) 0 1)).cfg = portCfgOf (pkBytes pk) ∧
      ∀ p, p ≠ fld (pkBytes pk) 0 1 → port t p = port u p) ∧
    (Accepts wakeSetCmd pk s u → Answers (.wakeSet pk) s pk 0 []
      { u with
        wake := mput u.wake (fld (pkBytes pk) 0 1)
          { ports := fld (pkBytes pk) 1 1, pattern := slice (pkBytes pk) 4 128, mask := slice (pkBytes pk) 132 16 } })

/-! ## Key commands -/

/-- KEY_LOAD unwraps its blob under its parent into its locker and answers with the key's KID; KEY_CLEAR empties a locker and every
locker that descends from it; KEY_GENERATE and KEY_REWRAP answer with a new blob and change no locker. DOMAIN_INVALIDATE of a
domain's present generation, with no intent pending: its keys become ORPHANED, and the generation rises by one, whether its
fuse bit could be burned (OK) or its intent stays pending (HW_FAULT). -/
def Obligations.KeyCommandsComplete : Prop :=
  (∀ (pk : Packet) (s u : State),
    (∀ b key, Accepts keyLoadCmd pk s u → b = slice (pkBytes pk) 4 (fld (pkBytes pk) 2 2) →
      (unwrap (fld (pkBytes pk) 1 1) b u).1 = (0, key) →
      ∃ t, exec (.keyLoad pk) s = .next (serve t) ∧ answer pk t = some (0, le 8 (fld b 8 8)) ∧
        (locker t (fld (pkBytes pk) 0 1)).state = .loaded ∧ (locker t (fld (pkBytes pk) 0 1)).key = key ∧
        (locker t (fld (pkBytes pk) 0 1)).type = fld b 3 1 ∧
        (locker t (fld (pkBytes pk) 0 1)).kid = fld b 8 8 ∧
        (locker t (fld (pkBytes pk) 0 1)).parent = fld (pkBytes pk) 1 1) ∧
    (Accepts keyClearCmd pk s u → ∃ t, exec (.keyClear pk) s = .next (serve t) ∧ answer pk t = some (0, []) ∧
      ∀ n, n < 64 → (descends u (fld (pkBytes pk) 0 1) n = true → (locker t n).state = .empty) ∧
        (descends u (fld (pkBytes pk) 0 1) n = false → locker t n = locker u n)) ∧
    (Accepts keyGenerateCmd pk s u → parentStatus u (fld (pkBytes pk) 0 1) none = 0 → ∃ b, Answers (.keyGenerate pk) s pk 0 b
      { u with free := u.free + 3 }) ∧
    (∀ b key, Accepts keyRewrapCmd pk s u → b = slice (pkBytes pk) 4 (fld (pkBytes pk) 2 2) →
      (unwrap (fld (pkBytes pk) 0 1) b u).1 = (0, key) → parentStatus u (fld (pkBytes pk) 1 1) none = 0 →
      ∃ r, Answers (.keyRewrap pk) s pk 0 r { u with free := u.free + if fld b 2 1 = 2 then 2 else 1 })) ∧
  (∀ (pk : Packet) (s u : State), Accepts domainInvalidateCmd pk s u → intents u = [] →
    fld (pkBytes pk) 1 1 = generation u (fld (pkBytes pk) 0 1) →
    ∃ t st res, exec (.domainInvalidate pk) s = .next (serve t) ∧ answer pk t = some (st, res) ∧ (st = 0 ∨ st = 0x0601) ∧
      generation t (fld (pkBytes pk) 0 1) = generation u (fld (pkBytes pk) 0 1) + 1 ∧
      ∀ n, n < 64 → (locker u n).state = .loaded → (locker u n).rootDom = fld (pkBytes pk) 0 1 →
        (locker t n).state = .orphaned ∧ (locker t n).key = [])

/-! ## Castling commands -/

/-- CAS_CONFIG stores its parameters, and with PROMOTE of a unit that can be made ACTIVE and has not heard an ACTIVE one it sets
the instant; CAS_PAIR sends its frame and waits, without a reply yet; CAS_SWITCHOVER of an ACTIVE unit with an ELIGIBLE partner
is QUEUED; CAS_RESYNC is QUEUED, starting at the ACTIVE unit and asked for by its partner. -/
def Obligations.CastlingCommandsComplete : Prop :=
  ∀ (pk : Packet) (s u : State),
    (Accepts casConfigCmd pk s u → bit (fld (pkBytes pk) 1 1) 1 = false → Answers (.casConfig pk) s pk 0 []
      { u with cas := { u.cas with cfg := casConfigOf (pkBytes pk) } }) ∧
    (Accepts casConfigCmd pk s u → bit (fld (pkBytes pk) 1 1) 1 = true → canPromote u = true → heardActive u = false →
      Answers (.casConfig pk) s pk 0 [] { u with cas := { u.cas with
        cfg := casConfigOf (pkBytes pk), promoteAt := some (slotAfter u (now u + usU 200)) } }) ∧
    (Accepts casPairCmd pk s u → paired u = true → u.gh.idOk = true → ∃ t e n q, exec (.casPair pk) s = .next (serve t) ∧
      t.gh = { u.gh with pairWait := some (waiterOf 0x0A02 pk, e, n) } ∧ 0 < e ∧ e < p256Order ∧ n.length = 16 ∧
      q = be 64 (Config.p256Point e % 2 ^ 512) ∧ t = { u with gh := t.gh, free := t.free, emitted := t.emitted } ∧
      t.emitted = .pairing u.gh.idCert q n (signature identityKey (q ++ n ++ u.gh.idCert)) :: u.emitted) ∧
    (Accepts casSwitchoverCmd pk s u → casActs u = true → peerEligible u = true → u.cas.switchAt = none →
      Answers (.casSwitchover pk) s pk 1 []
        { u with cas := { u.cas with switchAt := some (switchBoundary u, some (waiterOf 0x0A03 pk)) } }) ∧
    (Accepts casResyncCmd pk s u → casActs u = true → u.cas.twinUp = true → u.cas.role ≠ .active →
      Answers (.casResync pk) s pk 1 [] { dropExchange u with cas := { u.cas with
        resyncWait := u.cas.resyncWait ++ [waiterOf 0x0A04 pk], resyncReq := true } }) ∧
    (Accepts casResyncCmd pk s u → casActs u = true → u.cas.twinUp = true → u.cas.role = .active → hasPartner u = true → u.cas.resync = false →
      ∃ t, exec (.casResync pk) s = .next (serve t) ∧ answer pk t = some (1, []) ∧ t.cas.resync = true ∧
        t.cas.sakN = (u.cas.sakN + 1) % 2 ^ 32 ∧ t.cas.resyncWait = u.cas.resyncWait ++ [waiterOf 0x0A04 pk] ∧ t.cas.unacked = [])

/-! ## The registers and their ports -/

/-- The rings' registers with the main side up. CMDQ_DOORBELL: a tail that lies in the ring and does not pass the head is taken,
with the posted commands without a row, and another sets BAD_TAIL. RPLQ_HEAD_WRITE: the head is taken, and a reply that waited
for room is posted. CMDQ_CTRL_EN_SET: a ring of legal size starts at 0, another sets BAD_TAIL; CMDQ_CTRL_EN_CLEAR stops it. -/
def Obligations.RingRegistersComplete : Prop :=
  ∀ (v : Nat) (l : List UnknownCmd) (s : State), mainUp s = true →
    (tailOk s (v % 1024) = true → (∀ u ∈ l, opcodes.contains u.opcode = true) →
      exec (.cmdqDoorbell v l) s = .next (serve { s with cmd := { s.cmd with cqTail := v % 1024 } })) ∧
    (tailOk s (v % 1024) = false → (∀ u ∈ l, opcodes.contains u.opcode = true) →
      exec (.cmdqDoorbell v l) s = .next (serve (setIrq 6 s))) ∧
    (∀ u : UnknownCmd, tailOk s (v % 1024) = true → l = [u] → opcodes.contains u.opcode = false → u.pk.origin = .host →
      u.slot = s.cmd.cqTail → u.slot + 1 = v % 1024 → v % 1024 < 2 ^ s.cmd.cqSize → exec (.cmdqDoorbell v l) s = .next (serve
        { s with cmd := { s.cmd with cqTail := v % 1024, unknown := mput s.cmd.unknown u.slot u } })) ∧
    (s.cmd.replyWait = [] → exec (.rplqHeadWrite v) s = .next (if s.cmd.rqEn then
      serve { s with cmd := { s.cmd with rqHead := v % 1024 } } else { s with cmd := { s.cmd with rqHead := v % 1024 } })) ∧
    (∀ r q, s.cmd.replyWait = [(r, q)] → r.origin = .host → s.pwr.fwFault = false → s.cmd.rqEn = true →
      (s.cmd.rqTail + 1) % 2 ^ s.cmd.rqSize ≠ v % 1024 → exec (.rplqHeadWrite v) s =
        .next (serve (putHostReply r q { s with cmd := { s.cmd with rqHead := v % 1024, replyWait := [] } }))) ∧
    (s.cmd.cqEn = false → 2 ≤ s.cmd.cqSize → s.cmd.cqSize ≤ 10 →
      exec (.cmdqCtrlEnSet false) s = .next 
        { s with cmd := { s.cmd with cqEn := true, cqTail := 0, cqHead := 0, unknown := [] } }) ∧
    (s.cmd.rqEn = false → 2 ≤ s.cmd.rqSize → s.cmd.rqSize ≤ 10 → s.cmd.replyWait = [] →
      exec (.cmdqCtrlEnSet true) s = .next (serve { s with cmd := { s.cmd with rqEn := true, rqTail := 0, rqHead := 0 } })) ∧
    (s.cmd.cqEn = false → (s.cmd.cqSize < 2 ∨ 10 < s.cmd.cqSize) → exec (.cmdqCtrlEnSet false) s = .next (setIrq 6 s)) ∧
    exec (.cmdqCtrlEnClear false) s = .next { s with cmd := { s.cmd with cqEn := false } } ∧
    exec (.cmdqCtrlEnClear true) s = .next { s with cmd := { s.cmd with rqEn := false } }

/-- REGISTER_WRITE of a port that is served: GLB_SCRATCH takes the value, GLB_IRQ_STATUS clears the bits written as 1, and an
unmapped offset ignores it. TB_SNAP_CAPTURE copies the time base. CNT_LOW_WORD_READ gives the counter's low word and latches
its high word for that port's next high-word read; over PCIe a 64-bit read gives both words at one instant. -/
def Obligations.RegisterAccessesComplete : Prop :=
  ∀ (m : Master) (v : Word32) (s : State), mainUp s = true →
    exec (.registerWrite m 0x30 v) s = .next { s with glb := { s.glb with scratch := v } } ∧
    exec (.registerWrite m 0x10 v) s =
      .next { s with glb := { s.glb with irqStatus := s.glb.irqStatus &&& ~~~(v.setWidth 9) } } ∧
    (∀ addr, 0x90000 ≤ addr → addr < 0xF00000 → exec (.registerWrite m addr v) s = .next s) ∧
    (∀ addr, 0xF00000 ≤ addr → exec (.registerWrite .host addr v) s = .next s) ∧
    exec .tbSnapCapture s = .next { s with
      tb := { s.tb with snapSec := s.tb.count / 2 ^ 64, snapFrac := s.tb.count / 2 ^ 32 % 2 ^ 32 } } ∧
    (∀ n : Fin 512, exec (.cntLowWordRead .host ⟨n, false⟩) s = .next { s with
      cntHost := some (counter s n.val / 2 ^ 32), emitted := .readData .host [counter s n.val % 2 ^ 32] :: s.emitted }) ∧
    (∀ n : Fin 512, exec (.cntLowWordRead .mgp ⟨n, false⟩) s = .next { s with
      cntMgp := some (counter s n.val / 2 ^ 32), emitted := .readData .mgp [counter s n.val % 2 ^ 32] :: s.emitted }) ∧
    (∀ n : Fin 512, exec (.cntLowWordRead .host ⟨n, true⟩) s = .next { s with
      emitted := .readData .host [counter s n.val % 2 ^ 32, counter s n.val / 2 ^ 32] :: s.emitted })

/-- Requests of the management port in every state but OFF: one whose CRC does not match is answered with STATUS 1 and has no
effect, one of an unknown OP with STATUS 2, an address that is not served with its own STATUS; else READ32 answers with the
word read, WRITE32 writes it, READ_BURST reads in turn; CMD_PUSH writes the mailbox and submits it where ADDR bit 23 says so,
unless it is busy (4); CMD_POP answers with the reply's words, or 4 while there is none. -/
def Obligations.ManagementPortRequestsComplete : Prop :=
  ∀ (addr c : Nat) (v : Word32) (ws : List Word32) (s : State), s.pwr.ps ≠ .off →
    (∀ op, op < 256 → op = 0 ∨ 5 < op → crc8 (mgpBytes op addr []) = c →
      exec (.mgpRead32 ⟨op, addr⟩ c) s = .next (emit (.mgpResp (mgpFrame 2 [])) s)) ∧
    (crc8 (mgpBytes 1 addr []) ≠ c → exec (.mgpRead32 ⟨1, addr⟩ c) s = .next (emit (.mgpResp (mgpFrame 1 [])) s)) ∧
    (crc8 (mgpBytes 1 addr []) = c → mgpStatus s addr ≠ 0 →
      exec (.mgpRead32 ⟨1, addr⟩ c) s = .next (emit (.mgpResp (mgpFrame (mgpStatus s addr) [])) s)) ∧
    (crc8 (mgpBytes 1 addr []) = c → mgpStatus s addr = 0 →
      exec (.mgpRead32 ⟨1, addr⟩ c) s = .next (emit (.mgpResp (mgpFrame 0 [(readReg .mgp addr s).1])) (readReg .mgp addr s).2)) ∧
    (crc8 (mgpBytes 2 addr (be 4 v.toNat)) = c → mgpStatus s addr = 0 →
      exec (.mgpWrite32 addr v c) s = .next (emit (.mgpResp (mgpFrame 0 [])) (writeReg .mgp addr v.toNat s))) ∧
    (crc8 (mgpBytes 3 addr (be 1 2)) = c → mgpStatus s addr = 0 → mgpStatus s (addr + 4) = 0 →
      exec (.mgpReadBurst addr 2 c) s = .next (emit (.mgpResp (mgpFrame 0 [(readReg .mgp addr s).1,
        (readReg .mgp (addr + 4) (readReg .mgp addr s).2).1])) (readReg .mgp (addr + 4) (readReg .mgp addr s).2).2)) ∧
    (∀ n, crc8 (mgpBytes 4 addr (be 1 n ++ (ws.map fun w => be 4 w.toNat).flatten)) = c → 1 ≤ n → n ≤ 64 →
      (mailBusy s = false → bit addr 23 = false →
        exec (.mgpCmdPush addr n ws c) s = .next (emit (.mgpResp (mgpFrame 0 [])) (mailWrite (addr % 4096) (ws.take n) s))) ∧
      (∀ u, u = mailWrite (addr % 4096) (ws.take n) s → mailBusy s = false → bit addr 23 = true →
        exec (.mgpCmdPush addr n ws c) s = .next (emit (.mgpResp (mgpFrame 0 []))
          (serve { u with cmd := { u.cmd with mailSubmitted := true, replyBox := none } }))) ∧
      (mailBusy s = true → exec (.mgpCmdPush addr n ws c) s = .next (emit (.mgpResp (mgpFrame 4 [])) s))) ∧
    (∀ n, crc8 (mgpBytes 5 addr (be 1 n)) = c → 1 ≤ n → n ≤ 64 →
      (∀ r, s.cmd.replyBox = some r → exec (.mgpCmdPop addr n c) s = .next (emit (.mgpResp (mgpFrame 0
        ((List.range n).map fun i => fld (replyBytes r) (addr % 4096 + 4 * i) 4))) s)) ∧
      (s.cmd.replyBox = none → exec (.mgpCmdPop addr n c) s = .next (emit (.mgpResp (mgpFrame 4 [])) s)))

/-! ## Output queues -/

/-- A 32-bit read of a pop port returns 0 and pops nothing (R41): of either word of the port of output queue n, whoever reads. -/
def Obligations.PopPortsIgnore32BitReads : Prop :=
  ∀ (n a : Nat) (m : Master) (s : State), n < 64 → a = 0x90000 + 8 * n ∨ a = 0x90000 + 8 * n + 4 → readReg m a s = (0, s)

/-- OQ_CTRL of queue q. OQ_CTRL_EN_SET starts it with its ring and counts at 0, and with DMA set a ring of no legal size is not
started. OQ_CTRL_EN_CLEAR discards what it holds, at once when no packet is begun and else when the packet ends. OQ_CTRL_FLUSH
discards what is not begun and is done when no packet is begun. No other queue changes. -/
def Obligations.OutputQueueControlCompletes : Prop :=
  ∀ (q : Fin 64) (v : Word32) (s : State), mainUp s = true →
    (v.getLsbD 0 = true → v.getLsbD 1 = false → (oq s q).en = false →
      (v.getLsbD 3 = true → 4 ≤ (oq s q).ringSize ∧ (oq s q).ringSize ≤ 16) →
      ∃ t, exec (.oqCtrlEnSet q v) s = .next t ∧ t = { s with oqs := t.oqs } ∧ oq t q = { oq s q with
        notice := v.getLsbD 2, dma := v.getLsbD 3, en := true, disabling := false, ringTail := 0, ringHead := 0, pseq := 0
        packets := 0, notices := 0, stalls := 0, drops := 0 } ∧ ∀ n, n ≠ q.val → oq t n = oq s n) ∧
    (v.getLsbD 0 = true → v.getLsbD 1 = false → (oq s q).en = false → v.getLsbD 3 = true →
      (oq s q).ringSize < 4 ∨ 16 < (oq s q).ringSize → ∃ t, exec (.oqCtrlEnSet q v) s = .next t ∧
      oq t q = { oq s q with notice := v.getLsbD 2, dma := true } ∧ ∀ n, n ≠ q.val → oq t n = oq s n) ∧
    (v.getLsbD 0 = false → v.getLsbD 1 = false → (oq s q).en = true → ∃ t, exec (.oqCtrlEnClear q v) s = .next t ∧
      ((oq s q).begun = 0 → (oq t q).en = false ∧ (oq t q).pkts = []) ∧
      (0 < (oq s q).begun → (oq t q).en = true ∧ (oq t q).disabling = true ∧ (oq t q).pkts = (oq s q).pkts) ∧
      ∀ n, n ≠ q.val → oq t n = oq s n) ∧
    (v.getLsbD 0 = (oq s q).en → v.getLsbD 1 = true → ∃ t, exec (.oqCtrlFlush q v) s = .next t ∧
      (oq t q).en = (oq s q).en ∧ (oq t q).flushing = decide (0 < (oq s q).begun) ∧
      (oq t q).pkts = (if 0 < (oq s q).begun then (oq s q).pkts.take 1 else []) ∧ ∀ n, n ≠ q.val → oq t n = oq s n)

/-- Reading queue q. QPOP_READ of an enabled queue without DMA gives the next word of its oldest packet, which leaves with its EOP
word; of an empty one, and narrower than 64 bits, it gives 0. DMA_ENTRY_WRITE moves up to 4,080 bytes of the queue whose turn
it is into the next entry of its ring. OQ_RING_HEAD_WRITE takes a head that does not pass the tail and no other. OQ_FLUSH_DONE
of a flushing queue with no packet begun ends the flush and gives OQ_FLUSH its second reply; OQ_STALE_TIMER sets STALE and
raises the queue's vector QTMO after the queue became unread-pending; OQ_STALL_RESUME lets a held producer go on whose packet
now fits. -/
def Obligations.OutputQueueReadsAndEventsComplete : Prop :=
  (∀ (q : Fin 64) (p : QPkt) (rest : List QPkt) (s : State), mainUp s = true →
    ((oq s q).pkts = p :: rest → (oq s q).en = true → (oq s q).dma = false → (oq s q).begun + 1 < pktWords p.data.length →
      exec (.qpopRead q true) s = .next (emit (.popped q (queueWord p (oq s q).begun)) (setOq q
        { oq s q with begun := (oq s q).begun + 1, staleFrom := some (now s), staleFired := false } s))) ∧
    ((oq s q).pkts = p :: rest → (oq s q).en = true → (oq s q).dma = false → (oq s q).disabling = false →
      (oq s q).begun + 1 = pktWords p.data.length → rest ≠ [] →
      exec (.qpopRead q true) s = .next (emit (.popped q (queueWord p (oq s q).begun)) (setOq q
        { oq s q with pkts := rest, begun := 0, staleFrom := some (now s), staleFired := false } s))) ∧
    ((oq s q).pkts = [] → exec (.qpopRead q true) s = .next (emit (.popped q 0) s)) ∧
    exec (.qpopRead q false) s = .next (emit (.popped q 0) s) ∧
    (dmaNext s = some q.val → (oq s q).pkts = p :: rest → (oq s q).begun + 4080 < p.data.length → (oq s q).dma = true →
      exec .dmaEntryWrite s = .next (emit (.dma q (oq s q).ringTail
          (entryHeader q (oq s q).pseq (oq s q).begun 4080 p.data.length p.mark) (slice p.data (oq s q).begun 4080))
        { setOq q { oq s q with
            ringTail := ((oq s q).ringTail + 1) % 2 ^ (oq s q).ringSize, begun := (oq s q).begun + 4080
            staleFrom := some ((oq s q).staleFrom.getD (now s)) } s with dmaPtr := (q.val + 1) % 64 })) ∧
    (∀ v, ringMoveOk (oq s q).ringSize (oq s q).ringHead v (oq s q).ringTail = true → v ≠ (oq s q).ringHead →
      exec (.oqRingHeadWrite q v) s = .next (setOq q (staleRestart (now s) { oq s q with ringHead := v }) s)) ∧
    (∀ v, ringMoveOk (oq s q).ringSize (oq s q).ringHead v (oq s q).ringTail = false →
      exec (.oqRingHeadWrite q v) s = .next s)) ∧
  (∀ (q : Fin 64) (s : State),
    (∀ w, (oq s q).flushing = true → (oq s q).begun = 0 → (oq s q).flushWait = [w] → exec (.oqFlushDone q) s =
      .next (finalReply w 0 (setOq q { oq s q with flushing := false, flushWait := [] } s))) ∧
    (∀ t0, (oq s q).staleFrom = some t0 → (oq s q).qtmo ≠ 0 → (oq s q).staleFired = false → mainUp s = true →
      ∃ t, exec (.oqStaleTimer q) s = .next t ∧ (oq t q).stale = true ∧ (oq t q).staleFired = true ∧
        t0 + usU (oq s q).qtmo ≤ now t ∧ t.emitted = .vector (2 + q.val) :: s.emitted ∧
        ∀ n, n ≠ q.val → oq t n = oq s n) ∧
    (∀ h, (oq s q).held = [h] → h.resumed = false → oqLevel (oq s q) + h.words ≤ oqCapacity s q → s.caps = [] →
      exec (.oqStallResume q) s = .next (setOq q { oq s q with held := [{ h with resumed := true }] } s)))

/-! ## Injection queues and network rings -/

/-- Injection queue m. IQ_CTRL_EN_SET starts it empty; IQ_CTRL_FLUSH discards its packets; IQ_RING_TAIL_DOORBELL takes a tail with
the entries that the host wrote and counts a bad one (BAD_DOORBELL); IQ_PULL takes an entry that holds a whole packet. -/
def Obligations.InjectionQueueRowsComplete : Prop :=
  ∀ (m : Fin 16) (v : Word32) (s : State), mainUp s = true →
    (v.getLsbD 0 = true → v.getLsbD 1 = false → (iq s m).en = false → exec (.iqCtrlEnSet m v) s = .next (setIq m { iq s m with
      notice := v.getLsbD 2, dma := v.getLsbD 3, en := true, ringTail := 0, ringHead := 0, entries := [], part := none
      dropping := false, packets := 0, notices := 0, drops := 0 } s)) ∧
    (v.getLsbD 0 = true → v.getLsbD 1 = true → (iq s m).en = true → exec (.iqCtrlFlush m v) s = .next (setIq m { iq s m with
      notice := v.getLsbD 2, pkts := [] } s)) ∧
    (∀ (e : IqEntry) (d : Nat), d = ((iq s m).ringTail + 1) % 2 ^ (iq s m).ringSize → (iq s m).ringHead = 0 →
      (iq s m).ringTail + 1 < 2 ^ (iq s m).ringSize → exec (.iqRingTailDoorbell m d [e]) s =
        .next (setIq m { iq s m with ringTail := d, entries := (iq s m).entries ++ [e] } s)) ∧
    (∀ (es : List IqEntry) (d : Nat), 2 ^ (iq s m).ringSize ≤ d → exec (.iqRingTailDoorbell m d es) s =
      .next (count 167 (setIq m { iq s m with drops := satAdd 0xFFFFFFFF (iq s m).drops 1 } s))) ∧
    (∀ e : IqEntry, (iq s m).en = true → (iq s m).dma = true → (iq s m).notice = false → (iq s m).entries = [e] →
      (iq s m).part = none → (iq s m).dropping = false → e.flags = 3 → e.queue = m.val → e.offset = 0 → e.plen = e.len →
      1 ≤ e.len → e.len ≤ 4080 → iqLevel (iq s m) + pktWords e.len ≤ iqCapacity s m →
      ∃ t, exec (.iqPull m) s = .next t ∧ (iq t m).entries = [] ∧
        (iq t m).ringHead = ((iq s m).ringHead + 1) % 2 ^ (iq s m).ringSize ∧
        (iq t m).pkts = (iq s m).pkts ++ [(e.data ++ zeros (e.len - e.data.length)).take e.len] ∧
        t = { s with iqs := t.iqs })

/-! ## The network ports -/

/-- A port's rings with the main side up: NET_RING_TAIL_WRITE of a transmit ring takes a tail that lies in the ring with the
descriptors that the host wrote, and ignores another; NET_TSQ_POP_READ gives the oldest stamp's tag with bit 31 set and holds
its instant, or gives 0; NET_TSQ_OVF_CLEAR clears the overflow latch. -/
def Obligations.NetworkRingRowsComplete : Prop :=
  ∀ (p : Fin 6) (d : TxDesc) (s : State), mainUp s = true →
    (∀ r : Fin 4, 2 ≤ r.val → (netRing s p r).tail + 1 < 2 ^ (netRing s p r).size →
      exec (.netRingTailWrite p r ((netRing s p r).tail + 1) [d]) s = .next (setRing p r { netRing s p r with
        tail := (netRing s p r).tail + 1, descs := (netRing s p r).descs ++ [d] } s)) ∧
    (∀ (r : Fin 4) (v : Nat) (ds : List TxDesc), 2 ^ (netRing s p r).size ≤ v →
      exec (.netRingTailWrite p r v ds) s = .next s) ∧
    (∀ e es, (port s p).tsq = e :: es → exec (.netTsqPopRead p) s = .next (emit (.readData .host [e.tag + 2 ^ 31]) (setPort p
      { port s p with tsq := es, popTag := e.tag, popValid := true, popSec := e.stamp / 2 ^ 32 % 2 ^ 32
                      popFrac := e.stamp % 2 ^ 32 } s))) ∧
    ((port s p).tsq = [] → exec (.netTsqPopRead p) s = .next (emit (.readData .host [0]) (setPort p
      { port s p with popTag := 0, popValid := false } s))) ∧
    exec (.netTsqOvfClear p) s =
      .next (setPort p { port s p with ovf := false, lost := 0, ovfFirst := 0, ovfLast := 0 } s)

/-- HOST_TX_FRAME sends the frame whose descriptor is due, counts it and gives the descriptor back; with a stamp asked for, its tag
and instant enter the port's queue, and the ring's and the stamp queue's NET_IRQ bits are set; with PRP it leaves on both ports
of the pair with the pair's next sequence number. RX_FRAME_RECEIVED on a port that is up: a frame with a bad FCS, a length out
of range, another destination or a VLAN of which the port is no member is counted and dropped, at its stamp; a good frame to
the port is counted, and goes to receive ring 0, which has room, by a descriptor. -/
def Obligations.FramesAreSentAndJudged : Prop :=
  (∀ (p : Fin 6) (d : TxDesc) (s : State), mainUp s = true → (port s p).up = true → heldBack s p = false →
    (netRing s p 2).en = true → (netRing s p 2).descs = [d] → ringReady s p 3 = none → d.cls < 7 →
    d.len + 4 ≤ (port s p).cfg.maxFrame → classPaused s p d.cls = false →
    (d.flags = 7 → (port s p).tsq.length < 64 → ∃ t, exec (.hostTxFrame p false) s = .next t ∧ (netRing t p 2).descs = [] ∧
      (netRing t p 2).head = ((netRing s p 2).head + 1) % 2 ^ (netRing s p 2).size ∧
      .hostFrame p.val ((d.data ++ zeros (d.len - d.data.length)).take d.len) none (now s) ∈ t.emitted ∧
      .txDone p.val 2 (netRing s p 2).head 1 ∈ t.emitted ∧
      (port t p).tsq = (port s p).tsq ++ [{ tag := d.tag % 2 ^ 15, stamp := now s }] ∧
      (port t p).irq = (port s p).irq ||| 0x14 ∧ ∀ n, n ≠ p.val → port t n = port s n) ∧
    (d.flags = 11 → p.val = 2 ∨ p.val = 4 → ∃ t, exec (.hostTxFrame p false) s = .next t ∧ (netRing t p 2).descs = [] ∧
      (port t p).prpSeq = ((port s p).prpSeq + 1) % 65536 ∧ ∀ q, q = p.val ∨ q = p.val + 1 →
      .hostFrame q ((d.data ++ zeros (d.len - d.data.length)).take d.len) (some (((port s p).prpSeq + 1) % 65536, lanOf q)) (now s)
        ∈ t.emitted)) ∧
  (∀ (f : EthFrame) (s : State), mainUp s = true → f.port < 6 → (port s f.port).up = true →
    (f.fcsOk = false → exec (.rxFrameReceived f) s = .next (countPort f.port 1 (advanceTo f.stamp s))) ∧
    (f.fcsOk = true → f.len < 64 ∨ (port s f.port).cfg.maxFrame < f.len →
      exec (.rxFrameReceived f) s = .next (countPort f.port 2 (advanceTo f.stamp s))) ∧
    (f.fcsOk = true → 64 ≤ f.len → f.len ≤ (port s f.port).cfg.maxFrame → f.dstMac ≠ (port s f.port).cfg.mac →
      bit f.dstMac 40 = false → exec (.rxFrameReceived f) s = .next (countPort f.port 3 (advanceTo f.stamp s))) ∧
    (f.fcsOk = true → 64 ≤ f.len → f.len ≤ (port s f.port).cfg.maxFrame → f.dstMac = (port s f.port).cfg.mac →
      vlanTaken (port s f.port).cfg f = false → exec (.rxFrameReceived f) s = .next (countPort f.port 4 (advanceTo f.stamp s))) ∧
    (f.fcsOk = true → 64 ≤ f.len → f.len ≤ (port s f.port).cfg.maxFrame → f.dstMac = (port s f.port).cfg.mac →
      f.vlan = none → bit (port s f.port).cfg.flags 2 = true → f.kind = .other → f.rct = none → f.neigh = none →
      f.held + f.len ≤ 65536 → f.held + f.len < (port s f.port).cfg.xoff.getD 0 64 * 1024 → isSvc s f.dst = false →
      (netRing s f.port 0).en = true →
      (rxDescs s f.port (ethInfo f 0xFFFF)).length ≤ ringFree (netRing s f.port 0) →
      ∃ t, exec (.rxFrameReceived f) s = .next t ∧
        .rxRing f.port 0 (netRing s f.port 0).head (rxDescs s f.port (ethInfo f 0xFFFF)) ∈ t.emitted ∧
        counter t 176 = satAdd (2 ^ 64 - 1) (counter s 176) 1))

/-- The ports' other events. PRP_SOURCE_FORGET drops a source 400 ms after its last frame. PRP_SUPERVISION_SEND sends on both ports
of a pair. PFC_FRAME_RECEIVED pauses an obeyed class until its stamp and its quanta have passed; PFC_PAUSE_EXPIRY ends the
pause, after which what waited leaves; PFC_XOFF_REPEAT sends the pause again; PFC_XON_SEND releases a class paused for its
buffer alone. LINK_CHANGE takes the link's state and counts a loss. -/
def Obligations.PortEventsComplete : Prop :=
  ∀ (p : Fin 6) (c : Fin 8) (s : State),
    (∀ mac x, mget (port s (pairPort p)).prp mac = some x → exec (.prpSourceForget p mac) s =
      .next (setPort (pairPort p) { port s (pairPort p) with prp := mdel (port s (pairPort p)).prp mac }
        (advanceTo (x.last + msU 400) s))) ∧
    (mainUp s = true → p.val = 2 ∨ p.val = 4 → bit (port s p).cfg.flags 1 = true → classPaused s p 6 = false →
      classPaused s (p + 1) 6 = false → heldBack s p = false → heldBack s (p + 1) = false →
      s.txWait = [] → ∃ t, exec (.prpSupervisionSend p) s = .next t ∧ t.emitted =
        .prpSupervision (p.val + 1) (port s (p.val + 1)).cfg.mac :: .prpSupervision p (port s p).cfg.mac :: s.emitted) ∧
    (∀ quanta t0, mainUp s = true → bit (port s p).cfg.pfcRx c = true → quanta ≠ 0 →
      ∃ t, exec (.pfcFrameReceived p [(c.val, quanta)] t0) s = .next t ∧
        mget (port t p).paused c = some (t0 + quantaU p quanta) ∧
        counter t 188 = satAdd (2 ^ 64 - 1) (counter s 188) 1 ∧ ∀ n, n ≠ p.val → port t n = port s n) ∧
    (∀ t0, mget (port s p).paused c = some t0 → exec (.pfcPauseExpiry p c) s = .next (txDrain p (setPort p
      { port s p with paused := mdel (port s p).paused c } (advanceTo t0 s)))) ∧
    (mainUp s = true → bit (pausingByte (port s p)) c = true →
      exec (.pfcXoffRepeat p c) s = .next (countPort p 11 (emit (.pfc p c 0xFFFF) s))) ∧
    (mainUp s = true → (port s p).pausing = 2 ^ c.val → exec (.pfcXonSend p c) s =
      .next (emit (.pfc p c 0) (setPort p { port s p with pausing := 0 } s))) ∧
    (∀ up fault, ∃ t, exec (.linkChange p up fault) s = .next t ∧ t = { s with ports := t.ports } ∧
      port t p = { port s p with
        up := up, phyFault := fault && decide (p.val < 2)
        linkDowns := if (port s p).up = true ∧ up = false then satAdd 0xFFFFFFFF (port s p).linkDowns 1
                     else (port s p).linkDowns } ∧ ∀ n, n ≠ p.val → port t n = port s n)

/-! ## The real-time clock -/

/-- The clock's reads. RTC_T_READ_FREEZE of a port that is not frozen copies the view and the flags into its shadows, freezes them
and gives the register; RTC_T7_READ_RELEASE gives the flags, ends the freeze and clears STALE; RTC_FREEZE_TIMEOUT ends it 2 ms
after it began and sets STALE. -/
def Obligations.ClockReadsComplete : Prop :=
  ∀ (m : Master) (i : Fin 8) (s : State), portAlive s m = true → s.rtc.locked = false →
    ((rtcPort s.rtc m).frozen = none → i.val ≠ 7 → ∃ t, exec (.rtcTReadFreeze m i) s = .next t ∧ rtcPort t.rtc m =
        { rtcPort s.rtc m with sh := rtcView s.rtc, shFlags := rtcFlags s.rtc, frozen := some (now s) } ∧
      t.emitted = .readData m [rtcReg (rtcView s.rtc) (rtcFlags s.rtc) i] :: s.emitted ∧
      t = { s with rtc := t.rtc, emitted := t.emitted }) ∧
    (∀ f, (rtcPort s.rtc m).frozen = some f → ∃ t, exec (.rtcT7ReadRelease m) s = .next t ∧
      rtcPort t.rtc m = { rtcPort s.rtc m with frozen := none } ∧ t.rtc.stale = false ∧
      t.emitted = .readData m [(rtcPort s.rtc m).shFlags] :: s.emitted ∧ t = { s with rtc := t.rtc, emitted := t.emitted }) ∧
    (∀ f, (rtcPort s.rtc m).frozen = some f → ∃ t, exec (.rtcFreezeTimeout m) s = .next t ∧
      (rtcPort t.rtc m).frozen = none ∧ t.rtc.stale = true ∧ f + msU 2 ≤ now t)

/-- Setting the clock. RTC_CMD_SET of a possible time waits to be loaded, and of an impossible one sets IMPOSSIBLE; RTC_SET_COMMIT
loads it and clears LOST, RANGE_END and IMPOSSIBLE; RTC_CMD_TOBIN and RTC_CMD_TOCAL choose the view. Each write of RTC_CMD
takes a SEQ of the recorder. The clock's own events. RTC_SENSOR_READING takes a new curve into effect with the correction at
the temperature; RTC_END_OF_RANGE sets RANGE_END, raises vector 93 and is recorded; RTC_LOCK_RELEASE unlocks the interface at
its instant and ends both freezes; VRTC_LOW sets LOST and raises vector 93. -/
def Obligations.ClockSettingAndEventsComplete : Prop :=
  (∀ (m : Master) (s : State), portAlive s m = true → s.rtc.locked = false →
    (∀ c, s.rtc.setWait = none → rtcStaged s.rtc (rtcPort s.rtc m).w = some c → ∃ t, exec (.rtcCmdSet m) s = .next t ∧
      t.rtc = { s.rtc with setWait := some (m, c, (rtcPort s.rtc m).w.sub) } ∧ t.rcd.seq = (s.rcd.seq + 1) % 2 ^ 32) ∧
    (s.rtc.setWait = none → rtcStaged s.rtc (rtcPort s.rtc m).w = none → ∃ t, exec (.rtcCmdSet m) s = .next t ∧
      t.rtc = { s.rtc with impossible := true } ∧ t.rcd.seq = (s.rcd.seq + 1) % 2 ^ 32) ∧
    (∀ c sub, s.rtc.setWait = some (m, c, sub) → exec .rtcSetCommit s = .next { s with rtc := { s.rtc with
      sec := c, sub := sub, phase := 0, setWait := none, impossible := false, lost := false, rangeEnd := false } }) ∧
    (∃ t, exec (.rtcCmdTobin m) s = .next t ∧ t.rtc = { s.rtc with calendar := false } ∧
      t.rcd.seq = (s.rcd.seq + 1) % 2 ^ 32) ∧
    (∃ t, exec (.rtcCmdTocal m) s = .next t ∧ t.rtc = { s.rtc with calendar := true } ∧
      t.rcd.seq = (s.rcd.seq + 1) % 2 ^ 32)) ∧
  (∀ (temp : Int) (s : State),
    exec (.rtcSensorReading temp) s = .next { s with rtc := { s.rtc with
      curve := s.rtc.newCurve.getD s.rtc.curve, newCurve := none
      curveTerm := curveAt (s.rtc.newCurve.getD s.rtc.curve) temp } } ∧
    (s.rtc.rangeEnd = false → rangeEndCount s.rtc.leaps * 32768 + 32767 ≤ s.rtc.sec * 32768 + s.rtc.sub →
      ∃ t, exec .rtcEndOfRange s = .next t ∧ t.rtc = { s.rtc with rangeEnd := true } ∧ .vector 93 ∈ t.emitted ∧
        t.rcd.seq = (s.rcd.seq + 1) % 2 ^ 32) ∧
    (∀ t0, s.rtc.unlockAt = some t0 → ∃ t, exec .rtcLockRelease s = .next t ∧ t.rtc.locked = false ∧ t.rtc.unlockAt = none ∧
      t.rtc.host.frozen = none ∧ t.rtc.mgp.frozen = none ∧ t0 ≤ now t) ∧
    exec .vrtcLow s = .next (raiseVector 93 { s with rtc := { s.rtc with lost := true } }))

/-! ## The event recorder -/

/-- A port's cursor. REC_CMD_OLDEST and REC_CMD_NEWEST copy the first and the last live record, REC_CMD_NEXT the first assigned
after the copy's, REC_CMD_PREV the last before it, and REC_CMD_SEEK_SEQ the one with the SEQ sought; a move that finds none
sets EDGE and keeps the copy. Nothing but the cursor changes. -/
def Obligations.RecorderCursorRowsComplete : Prop :=
  ∀ (m : Master) (s : State), portAlive s m = true →
    (∀ r, s.rcd.live.head? = some r → exec (.recCmdOldest m) s =
      .next (setRecCursor m { recCursor s m with copy := some r, edge := false, page := 0 } s)) ∧
    (∀ r, s.rcd.live.getLast? = some r → exec (.recCmdNewest m) s =
      .next (setRecCursor m { recCursor s m with copy := some r, edge := false, page := 0 } s)) ∧
    (∀ c r, (recCursor s m).copy = some c → s.rcd.live.find? (fun r => decide (recAge s r.seq < recAge s c.seq)) = some r →
      exec (.recCmdNext m) s = .next (setRecCursor m { recCursor s m with copy := some r, edge := false, page := 0 } s)) ∧
    (∀ c r, (recCursor s m).copy = some c →
      s.rcd.live.reverse.find? (fun r => decide (recAge s c.seq < recAge s r.seq)) = some r →
      exec (.recCmdPrev m) s = .next (setRecCursor m { recCursor s m with copy := some r, edge := false, page := 0 } s)) ∧
    (∀ r, recAge s (recCursor s m).seek < 2 ^ 31 → s.rcd.live.find? (fun r => r.seq == (recCursor s m).seek) = some r →
      exec (.recCmdSeekSeq m) s = .next (setRecCursor m { recCursor s m with copy := some r, edge := false, page := 0 } s)) ∧
    (s.rcd.live = [] → exec (.recCmdOldest m) s = .next (setRecCursor m { recCursor s m with edge := true, page := 0 } s) ∧
      exec (.recCmdNewest m) s = .next (setRecCursor m { recCursor s m with edge := true, page := 0 } s) ∧
      exec (.recCmdNext m) s = .next (setRecCursor m { recCursor s m with edge := true, page := 0 } s) ∧
      exec (.recCmdPrev m) s = .next (setRecCursor m { recCursor s m with edge := true, page := 0 } s) ∧
      exec (.recCmdSeekSeq m) s = .next (setRecCursor m { recCursor s m with edge := true, page := 0 } s))

/-- The recorder's own rows. REC_CLEAR with its key starts a clear with a record of its own, and without the key does nothing;
REC_CLEAR_COMPLETE leaves no record at or below its severity that is older than the clear's; REC_NOR_PROGRAM programs the
oldest staged record; OP_TIME_CHECKPOINT stores the operating time; TRACE_QLEVEL sends a queue's words; CHUNK_LOAD_TIMEOUT
drops a load 10 s after its last chunk. -/
def Obligations.RecorderAndHousekeepingRowsComplete : Prop :=
  ∀ (m : Master) (v : Word32) (s : State),
    (portAlive s m = true → v.toNat / 65536 = 0xC1EA → s.rcd.clearing = [] → ∃ t, exec (.recClear m v) s = .next t ∧
      t.rcd.clearing = [(v.toNat % 8, s.rcd.seq, originMaster m)]) ∧
    (v.toNat / 65536 ≠ 0xC1EA → exec (.recClear m v) s = .next s) ∧
    (∀ sev q o, s.rcd.clearing = [(sev, q, o)] → ∃ t, exec .recClearComplete s = .next t ∧ t.rcd.clearing = [] ∧
      (∀ r, r ∈ t.rcd.live ↔ r ∈ s.rcd.live ∧ (sev < r.sev ∨ recAge s r.seq ≤ recAge s q)) ∧ t = { s with rcd := t.rcd }) ∧
    (∀ r rs, s.rcd.live = r :: rs → r.staged = true → exec .recNorProgram s =
      .next { s with rcd := { s.rcd with live := { r with staged := false } :: rs } }) ∧
    (s.pwr.ps ≠ .off → s.rcd.owed = false → ∃ t, exec .opTimeCheckpoint s = .next t ∧ t.rcd.checkpoint = t.rcd.opTime ∧
      min (2 ^ 40 - 1) (s.rcd.checkpoint + 61440) ≤ t.rcd.opTime ∧ t.rcd.live = s.rcd.live) ∧
    (mainUp s = true → s.glb.trcQ < 80 → exec .traceQlevel s =
      .next (traceMsg 5 (le 1 s.glb.trcQ ++ le 4 (queueWords s s.glb.trcQ)) s)) ∧
    (∀ c, s.cmd.chunks.find? (isLoad c.origin c.opcode c.target) = some c →
      ∃ t, exec (.chunkLoadTimeout c.origin c.opcode c.target) s = .next t ∧ c.last + 10 * 2 ^ 32 ≤ now t ∧
        t.cmd.chunks = s.cmd.chunks.filter (fun x => !isLoad c.origin c.opcode c.target x))

/-! ## Power -/

/-- The writes of AON_PWR and AON_RESET. AON_PWR_MAIN_ON with a budget boots from AON_ONLY (cold) and from DORMANT (a wake), and
without one it leaves the power state; AON_PWR_MAIN_OFF and AON_PWR_DORMANT request their transitions; AON_RESET_COLD boots
cold; AON_RESET_WARM requests the warm reset, and in BOOT it boots again. What was requested takes place. MAIN_OFF_EFFECT from
IDLE cuts the main side off into AON_ONLY; WARM_RESET_EXECUTE boots warm and keeps counters, GLB_SCRATCH, role and wake table;
DORMANT_ENTRY from IDLE programs every record and enters DORMANT. Each empties the lockers. -/
def Obligations.PowerRequestsAndTransitionsComplete : Prop :=
  (∀ s : State,
    (s.pwr.ps = .aonOnly → budget s ≠ 0 → s.pins.modRst = false → ∃ t, exec .aonPwrMainOn s = .next t ∧
      t.pwr.ps = .boot ∧ t.pwr.bootKind = 1 ∧ t.rcd.cycles = satAdd (2 ^ 24 - 1) s.rcd.cycles 1) ∧
    (s.pwr.ps = .dormant → budget s ≠ 0 → ∃ t, exec .aonPwrMainOn s = .next t ∧
      t.pwr.ps = .boot ∧ t.pwr.bootKind = 2 ∧ t.wake = s.wake ∧ t.rcd.cycles = satAdd (2 ^ 24 - 1) s.rcd.cycles 1) ∧
    (s.pwr.ps = .aonOnly ∨ s.pwr.ps = .dormant → budget s = 0 → ∃ t, exec .aonPwrMainOn s = .next t ∧
      t = { s with rcd := t.rcd, glb := t.glb, emitted := t.emitted }) ∧
    (mainUp s = true → ∃ t, exec .aonPwrMainOff s = .next t ∧ t = { s with
      rcd := t.rcd, glb := t.glb, emitted := t.emitted, pwr := { s.pwr with mainOffWait := some none } }) ∧
    (mainUp s = true → dormantRefused s = false → s.cas.role ≠ .active → ∃ t, exec .aonPwrDormant s = .next t ∧ t = { s with
      rcd := t.rcd, glb := t.glb, emitted := t.emitted, pwr := { s.pwr with dormantWait := some none } }) ∧
    (s.pwr.ps ≠ .off → s.pwr.tripped = false → s.pins.modRst = false → budget s ≠ 0 → ∃ t, exec .aonResetCold s = .next t ∧
      t.pwr.ps = .boot ∧ t.pwr.bootKind = 1) ∧
    (mainUp s = true → s.cas.role ≠ .active → ∃ t, exec .aonResetWarm s = .next t ∧ t = { s with
      rcd := t.rcd, glb := t.glb, emitted := t.emitted, pwr := { s.pwr with warmAt := true } }) ∧
    (s.pwr.ps = .boot → ∃ t, exec .aonResetWarm s = .next t ∧ t.pwr.ps = .boot ∧ t.pwr.bootKind = 3)) ∧
  (∀ s : State,
    (s.pwr.ps = .idle → s.pwr.mainOffWait.isSome = true → ∃ t, exec .mainOffEffect s = .next t ∧ t.pwr.ps = .aonOnly ∧
      t.pwr.mainUp = false ∧ t.pwr.mainOffWait = none ∧ t.gh.lockers = []) ∧
    (mainUp s = true → s.pwr.warmAt = true → s.cas.switchAt = none → ∃ t, exec .warmResetExecute s = .next t ∧
      t.pwr.ps = .boot ∧ t.pwr.bootKind = 3 ∧ t.cnt = s.cnt ∧ t.glb.scratch = s.glb.scratch ∧ t.cas.role = s.cas.role ∧
      t.wake = s.wake ∧ t.gh.lockers = []) ∧
    (s.pwr.ps = .idle → s.pwr.dormantWait = some none → s.cas.switchAt = none → ∃ t, exec .dormantEntry s = .next t ∧
      t.pwr.ps = .dormant ∧ t.pwr.mainUp = false ∧ t.pwr.keptFuses = true ∧ t.gh.lockers = [] ∧
      (∀ r ∈ t.rcd.live, r.staged = false) ∧ t.rcd.checkpoint = s.rcd.opTime))

/-- The supplies. VIN_GOOD starts the always-on domain with one more power cycle, and with a budget the boot of kind 0 unless
BOOT_SEL0 holds it; VIN_BELOW_9V cuts the main side off; VIN_BELOW_7V stops everything, keeps the programmed records alone, and
without VBAT loses the clock; VBAT_OK_CHANGE follows VBAT. The powered-device interfaces and the early warning. PD_POWER_CHANGE
that leaves a budget takes the new state, sets PD_CHANGE and is recorded; PD_CLASSIFICATION takes the class, at most 8; when a
powered main side has no budget left, it goes down as for MAIN_OFF; EARLY_WARNING locks the clock, lowers MOD_READY, sets
PWR_FAIL in GLB_IRQ_STATUS and stores the operating time; WARNING_PASSED ends it and unlocks the clock 5 ms later. -/
def Obligations.SupplyAndPowerEventsComplete : Prop :=
  (∀ s : State,
    (s.pwr.vinOk = false → ∃ t, exec (.vinGood { hold := true }) s = .next t ∧ t.pwr.ps = .aonOnly ∧ t.pwr.vinOk = true ∧
      t.pwr.mainUp = false ∧ t.rcd.cycles = satAdd (2 ^ 24 - 1) s.rcd.cycles 1 ∧ t.rcd.opTime = s.rcd.checkpoint ∧
      t.pwr.aonAlertEn = 1) ∧
    (s.pwr.vinOk = false → s.pwr.pdA.delivering = false → s.pwr.pdB.delivering = false →
      ∃ t, exec (.vinGood { hold := false }) s = .next t ∧ t.pwr.ps = .boot ∧ t.pwr.bootKind = 0 ∧ t.pwr.vinOk = true ∧
      t.rcd.cycles = satAdd (2 ^ 24 - 1) s.rcd.cycles 1) ∧
    (s.pwr.ps ≠ .off → ∃ t, exec .vinBelow9v s = .next t ∧ t.pwr.ps = .aonOnly ∧ t.pwr.vinOk = false ∧ t.pwr.mainUp = false ∧
      t.gh.lockers = []) ∧
    (s.pwr.ps ≠ .off → ∃ t, exec .vinBelow7v s = .next t ∧ t.pwr.ps = .off ∧ t.pwr.vinOk = false ∧ t.pwr.aonAlert = 0 ∧
      t.rcd.live = s.rcd.live.filter (fun r => !r.staged) ∧ (s.pwr.vbatOk = true → t.rtc = s.rtc) ∧
      (s.pwr.vbatOk = false → t.rtc.lost = true ∧ t.rcd.discards = 0 ∧ t.nor.attemptsA = 0 ∧ t.nor.attemptsB = 0)) ∧
    exec (.vbatOkChange true) s = .next { s with pwr := { s.pwr with vbatOk := true } } ∧
    (s.pwr.ps ≠ .off → exec (.vbatOkChange false) s = .next { s with pwr := { s.pwr with vbatOk := false } }) ∧
    (s.pwr.ps = .off → ∃ t, exec (.vbatOkChange false) s = .next t ∧ t.pwr.vbatOk = false ∧ t.rtc.lost = true ∧
      t.rcd.live = s.rcd.live)) ∧
  (∀ (a on : Bool) (c : Nat) (s : State),
    ((pdOf s a).delivering ≠ on → (s.pwr.mainUp = true → budget (setPd a { pdOf s a with delivering := on } s) ≠ 0) →
      ∃ t, exec (.pdPowerChange a on) s = .next t ∧
      pdOf t a = { pdOf s a with delivering := on } ∧ pdOf t (!a) = pdOf s (!a) ∧ t.glb.irqStatus.getLsbD 3 = true ∧
      t.rcd.seq = (s.rcd.seq + 1) % 2 ^ 32) ∧
    ((s.pwr.mainUp = true → budget (setPd a { pdOf s a with alloc := min c 8 } s) ≠ 0) →
      exec (.pdClassification a c) s = .next (setPd a { pdOf s a with alloc := min c 8 } s)) ∧
    (s.pwr.mainUp = true → budget s ≠ 0 → s.pwr.mainOffWait = none →
      budget (setPd a { pdOf s a with alloc := min c 8 } s) = 0 → ∃ t, exec (.pdClassification a c) s = .next t ∧
      t.pwr.mainOffWait = some none ∧ t.glb.irqStatus.getLsbD 3 = true) ∧
    (s.pwr.ps ≠ .off → s.pwr.pwrFail = false → ∃ t, exec (.earlyWarning on) s = .next t ∧ t.pwr.pwrFail = true ∧
      t.pins.pwrFail = on ∧ t.rtc.locked = true ∧ t.rtc.setWait = none ∧ t.glb.irqStatus.getLsbD 2 = true ∧
      t.rcd.checkpoint = s.rcd.opTime ∧ t.rcd.suspended = true ∧ t.pins.modReady = false) ∧
    (s.pwr.pwrFail = true → s.pwr.vinOk = true → ∃ t, exec .warningPassed s = .next t ∧ t.pwr.pwrFail = false ∧
      t.rtc.unlockAt = some (now s + msU 5) ∧ t.pins.modReady = mainUp s ∧ t.rcd.seq = (s.rcd.seq + 1) % 2 ^ 32))

/-- Temperature, in units of 1/16 °C. THERM_ASSERT at 110 °C with the main side powered asserts THERM_N and sets THERM;
THERM_RELEASE below 105 °C releases it; THERMAL_TRIP at 125 °C cuts the main side off until a MAIN_ON. Each takes the reading.
Boot. BOOT_COMPLETE of a selected image enters IDLE with its attempts cleared, the time base in FREERUN and the outcome of the
certificate's comparison held, and with none it enters IDLE in recovery; BOOT_WATCHDOG of an image that has not got there boots
cold. -/
def Obligations.ThermalAndBootRowsComplete : Prop :=
  (∀ (c : BitVec 16) (s : State),
    (1760 ≤ c.toInt → s.pins.therm = false → s.pwr.mainUp = true → ∃ t, exec (.thermAssert c) s = .next t ∧
      t.pins.therm = true ∧ t.glb.temp = c ∧ t.glb.irqStatus.getLsbD 1 = true ∧ t.pwr.aonAlert.getLsbD 1 = true ∧
      t.pwr.thermAt = some (now s)) ∧
    (c.toInt < 1680 → exec (.thermRelease c) s = .next { s with
      glb := { s.glb with temp := c }, pins := { s.pins with therm := false }, pwr := { s.pwr with thermAt := none } }) ∧
    (2000 ≤ c.toInt → s.pwr.mainUp = true → ∃ t, exec (.thermalTrip c) s = .next t ∧ t.pwr.ps = .aonOnly ∧ t.pwr.tripped = true ∧
      t.pwr.mainUp = false ∧ t.glb.temp = c)) ∧
  (∀ (s : State), s.pwr.ps = .boot →
    (∀ c, s.pwr.fwImg = some 0 → ∃ t, exec (.bootComplete { trainOk := true, certOk := c }) s = .next t ∧ t.pwr.ps = .idle ∧
      t.gh.idOk = c ∧ t.nor.attemptsA = 0 ∧ t.tb.state = .freerun ∧ t.pins.phyRst = false ∧ t.rcd.suspended = false) ∧
    (∀ c, s.pwr.fwImg = some 0 → ∃ t, exec (.bootComplete { trainOk := false, certOk := c }) s = .next t ∧ t.pwr.ps = .idle ∧
      t.pwr.bistFail = true) ∧
    (∀ o c, s.pwr.fwImg = none → ∃ t, exec (.bootComplete { trainOk := o, certOk := c }) s = .next t ∧ t.pwr.ps = .idle ∧
      t.pwr.recovery = true) ∧
    (s.pwr.fwImg.isSome = true → ∃ t, exec .bootWatchdog s = .next t ∧ t.pwr.ps = .boot ∧ t.pwr.bootKind = 1))

/-- The reset pins and the rest of the system. MOD_RST_N asserted holds the module in AON_ONLY, and released it boots cold; PERST_N
stops both rings and every queue and empties the MSI-X table; CONTROL_FW_FAULT sets FW_FAULT and takes a LOCKED time base to
HOLDOVER, and CONTROL_FW_RECOVERY ends it; PEER_DET_CHANGE takes the pin; TAP_INSTRUCTION shifts the IDCODE out. -/
def Obligations.ResetPinRowsComplete : Prop :=
  ∀ s : State,
    (s.pwr.ps ≠ .off → s.pins.modRst = false → ∃ t, exec .modRstNAssert s = .next t ∧ t.pwr.ps = .aonOnly ∧
      t.pins.modRst = true ∧ t.pins.phyRst = true) ∧
    (s.pwr.ps = .aonOnly → s.pins.modRst = true → s.pwr.tripped = false → budget s ≠ 0 → ∃ t, exec .modRstNRelease s = .next t ∧
      t.pwr.ps = .boot ∧ t.pwr.bootKind = 1 ∧ t.pins.modRst = false) ∧
    (∃ t, exec .perstN s = .next t ∧ t.cmd.cqEn = false ∧ t.cmd.rqEn = false ∧ (∀ e ∈ t.cmd.replyWait, e.1.origin ≠ .host) ∧ t.rcd.host.copy = none ∧
      t.glb.vecTab = [] ∧ t.glb.vecPend = [] ∧ (∀ n, (oq t n).en = false ∧ (oq t n).pkts = []) ∧
      (∀ m, (iq t m).en = false ∧ (iq t m).pkts = []) ∧ ∀ p r, (netRing t p r).en = false) ∧
    (mainUp s = true → s.pwr.fwFault = false → ∃ t, exec .controlFwFault s = .next t ∧ t.pwr.fwFault = true ∧
      t.glb.irqStatus.getLsbD 0 = true ∧ t.tb.state = if s.tb.state = .locked then .holdover else s.tb.state) ∧
    (s.pwr.fwFault = true → s.cmd.replyWait = [] → s.cas.fwdWait = [] →
      exec .controlFwRecovery s = .next (serve { s with pwr := { s.pwr with fwFault := false } })) ∧
    (s.pwr.fwFault = false → exec .controlFwRecovery s = .next s) ∧
    (hasCopy (activeBank s) = true → exec (.peerDetChange true) s = .next { s with pins := { s.pins with peerDet := true } }) ∧
    (inRun s = false → exec (.peerDetChange false) s = .next { s with
      pins := { s.pins with peerDet := false, hbOut := false }
      cas := { s.cas with twinUp := false, lanes := 0, hbOk := false, listening := none } }) ∧
    exec (.tapInstruction 1) s = .next { s with tapIr := 1, emitted := .scan 1 0x188488B3 :: s.emitted } ∧
    (s.pins.modRst = false → exec (.tapInstruction 2) s = .next { s with tapIr := 0, emitted := .scan 0 0 :: s.emitted })

/-! ## The time base -/

/-- Instant j of a grid of rate R in second s lies at s + floor(j × 2^32 / R) × 2^-32 s (R61). Slots are the grid with R = Fnom: a
slot's instant is the last one of that grid that is not after t. Reporting and sample instants are the instants of the grid of
their own rate. -/
def Obligations.GridInstantsAreExact : Prop :=
  (∀ r sec j : Nat, j < r → gridAt r (sec * r + j) = sec * 2 ^ 32 + j * 2 ^ 32 / r) ∧
  (∀ (s : State) (t : Instant), 0 < fnom s → ∃ j, slotFloor s t = gridAt (fnom s) j ∧ gridAt (fnom s) j ≤ t ∧
    t < gridAt (fnom s) (j + 1)) ∧
  (∀ (r : Nat) (t : Instant), onGrid r t = true ↔ 0 < r ∧ ∃ j, gridAt r j = t)

/-- Seconds and references. SECOND_BOUNDARY reaches the first second boundary not yet crossed, with PPS_OUT and the time-of-day
message where the outputs speak; PPS_IN_EDGE takes the edge at its stamp, and with PPS_IN the source its offset; ZDA_SENTENCE
names the edge's second, and a sentence that disagrees is counted; REF10M_LOST and REF10M_RESTORED follow the reference. -/
def Obligations.TimeReferenceRowsComplete : Prop :=
  ∀ (e : Instant) (utc : Nat) (s : State),
    (mainUp s = true → ∃ t, exec .secondBoundary s = .next t ∧ nextSecond s ≤ now t ∧
      t.tb.secDone = some (nextSecond s / 2 ^ 32) ∧ (timeOutputs s = true → s.glb.trcEn = false → s.tb.state ≠ .locked →
        t.emitted = .tod (socOf s (nextSecond s) - b2n (insertedSecond s (nextSecond s / 2 ^ 32)))
            (insertedSecond s (nextSecond s / 2 ^ 32)) :: .pin 2 false (nextSecond s + usU s.tb.cfg.ppsOutWidth)
          :: .pin 2 true (nextSecond s) :: s.emitted)) ∧
    (mainUp s = true → s.tb.cfg.source ≠ 1 → ∃ t, exec (.ppsInEdge e) s = .next t ∧
      t = { advanceTo e s with tb := { (advanceTo e s).tb with
        ppsEdge := some e, ppsDisagree := if s.tb.zdaEdge = s.tb.ppsEdge then s.tb.ppsDisagree else 0 } }) ∧
    (∀ x : Int, mainUp s = true → s.tb.cfg.source = 1 → s.tb.todSet = true →
      x = (nearSecond (ppsInstant s e)).1 + s.tb.todErr * 1000000000 → x.natAbs < 100 →
      ∃ t, exec (.ppsInEdge e) s = .next t ∧ t.tb.ppsEdge = some e ∧ t.tb.goodRun = s.tb.goodRun + 1 ∧
      t.tb.offsetNs = x ∧ t.tb.slew = nsCount x) ∧
    (mainUp s = true → s.tb.cfg.source = 1 → s.tb.ppsEdge = some e → s.tb.zdaEdge ≠ some e → now s < e + msU 950 →
      s.tb.todSet = true → ((nearSecond (ppsInstant s e)).2 : Int) - (utc + utcOffsetAt s (ppsInstant s e) : Nat) = s.tb.todErr →
      exec (.zdaSentence true utc) s = .next { s with tb := { s.tb with zdaEdge := some e, ppsDisagree := 0 } }) ∧
    (mainUp s = true → s.tb.cfg.source = 1 → s.tb.ppsEdge = some e → s.tb.zdaEdge ≠ some e → now s < e + msU 950 →
      s.tb.todSet = true → ((nearSecond (ppsInstant s e)).2 : Int) - (utc + utcOffsetAt s (ppsInstant s e) : Nat) ≠ s.tb.todErr →
      s.tb.ppsDisagree < 2 → exec (.zdaSentence true utc) s =
        .next { s with tb := { s.tb with zdaEdge := some e, ppsDisagree := s.tb.ppsDisagree + 1 } }) ∧
    exec (.zdaSentence false utc) s = .next s ∧
    exec .ref10mLost s = .next { s with tb := { s.tb with refPresent := false } } ∧
    exec .ref10mRestored s = .next { s with tb := { s.tb with refPresent := true } }

/-- Lock and holdover. TB_LOCKED after 16 good seconds enters LOCKED; TB_HOLDOVER_ENTRY of a LOCKED time base whose source has been
lost enters HOLDOVER at the instant of the loss and sets TB_HOLDOVER. Both raise vector 93 and are recorded. UTC.
LEAP_SET_EFFECT puts the stored offset and flags in force at the next second boundary; LEAP_APPLIED moves the offset by the
leap second at the boundary where it ends, clears the flags and raises vector 93. -/
def Obligations.LockAndLeapRowsComplete : Prop :=
  (∀ s : State,
    (mainUp s = true → 16 ≤ s.tb.goodRun → s.tb.state ≠ .locked → s.tb.stepPending = none → s.tb.stepRestart = none →
      ∃ t, exec .tbLocked s = .next t ∧ t.tb = { s.tb with state := .locked, lockSrc := s.tb.cfg.source } ∧ .vector 93 ∈ t.emitted ∧
      t.rcd.seq = (s.rcd.seq + 1) % 2 ^ 32) ∧
    (s.tb.state = .locked → s.tb.cfg.source = 1 → ∃ t, exec .tbHoldoverEntry s = .next t ∧ t.tb.state = .holdover ∧
      t.tb.goodRun = 0 ∧ t.tb.holdFrom = now t ∧ s.tb.ppsEdge.getD 0 + 3 * 2 ^ 32 / 2 ≤ now t ∧
      t.glb.irqStatus.getLsbD 4 = true ∧ .vector 93 ∈ t.emitted ∧ t.rcd.seq = (s.rcd.seq + 1) % 2 ^ 32) ∧
    (s.tb.state = .locked → s.tb.cfg.source = 0 → (mdel s.tb.masters s.tb.gmPort) = [] →
      ∃ t, exec .tbHoldoverEntry s = .next t ∧ t.tb.state = .holdover ∧ s.tb.lastSync + 3 * 2 ^ 32 ≤ now t)) ∧
  (∀ s : State,
    (s.tb.storedWaiting = true → s.tb.utcFromPtp = false → ∃ t, exec .leapSetEffect s = .next t ∧
      t.tb.utcOffset = s.tb.storedOffset ∧ t.tb.storedWaiting = false ∧ t.tb.utcFromPtp = false ∧
      t.tb.leap = (if bit s.tb.storedFlags 0 then 1 else if bit s.tb.storedFlags 1 then 2 else 0) ∧
      secCeil (now s) ≤ now t) ∧
    (∀ e, s.tb.leapEnd = some e → ∃ t, exec .leapApplied s = .next t ∧ t.tb.leap = 0 ∧ t.tb.leapEnd = none ∧
      t.tb.lastLeap = some (e, s.tb.utcOffset, decide (s.tb.leap = 2)) ∧ e * 2 ^ 32 ≤ now t ∧ .vector 93 ∈ t.emitted ∧
      t.tb.utcOffset = if s.tb.leap = 2 then s.tb.utcOffset - 1 else s.tb.utcOffset + 1))

/-- PTP on a port that takes part. A one-step Sync of the selected master gives its offset, which below 100 ns counts towards lock;
a first Announce makes its sender the port's master; a Pdelay_Req is answered with response and follow-up; a follow-up to the
port's own request gives the mean link delay; PTP_PDELAY_REQ_SEND sends the next request; ANNOUNCE_RECEIPT_TIMEOUT forgets the
port's master. -/
def Obligations.PtpRowsComplete : Prop :=
  ∀ (p : Fin 6) (st : Instant) (s : State), ptpPort s p = true →
    (∀ (m : PtpSync) (a : Announce), s.tb.gmPort = p.val → mget s.tb.masters p = some a → a.sender = m.sender →
      m.domain = ptpDomain s.tb.cfg → m.kind = 0 → (syncOffset s p st m).natAbs < 100 →
      ∃ t, exec (.ptpSyncReceived p m st) s = .next t ∧ t.tb.offsetNs = syncOffset s p st m ∧ t.tb.lastSync = st ∧
      t.tb.slew = nsCount (syncOffset s p st m) ∧ t.tb.goodRun = s.tb.goodRun + 1 ∧ t.tb.state = s.tb.state) ∧
    (∀ m : Announce, m.domain = ptpDomain s.tb.cfg → mget s.tb.masters p = none → ∃ t,
      exec (.ptpAnnounceReceived p m st) s = .next t ∧ mget t.tb.masters p = some m ∧ mget t.tb.announceAt p = some st) ∧
    (∀ q, exec (.ptpPdelayReqReceived p q (ptpDomain s.tb.cfg) st) s =
      .next (txOwn p 7 68 (.ptp p 3 q) (txOwn p 7 68 (.ptp p 2 q) (countPort p 0 (advanceTo st s))))) ∧
    (∀ (m : PdelayResp) (t1 t2 t4 : Nat) (corr : Int), mget s.tb.pdelaySent p = some (m.seq, t1) → m.domain = ptpDomain s.tb.cfg → m.kind = 1 →
      mget s.tb.pdelayGot p = some (m.seq, t2, t4, corr) → ∃ t, exec (.ptpPdelayRespReceived p m st) s = .next t ∧
      t.tb.pdelay = lset s.tb.pdelay p (((toNs t4 : Int) - toNs t1 - ((m.peerNs : Int) - t2) - corr - m.corrNs) / 2)) ∧
    (mget s.tb.pdelaySent p = none → classPaused s p 7 = false → heldBack s p = false → mgetD s.txWait p [] = [] →
      ∃ t, exec (.ptpPdelayReqSend p) s = .next t ∧ t.tb.pdelaySeq = (s.tb.pdelaySeq + 1) % 65536 ∧
      mget t.tb.pdelaySent p = some ((s.tb.pdelaySeq + 1) % 65536, now s) ∧
      .ptp p 1 ((s.tb.pdelaySeq + 1) % 65536) ∈ t.emitted) ∧
    (∀ a, mget s.tb.announceAt p = some a → ∃ t, exec (.announceReceiptTimeout p) s = .next t ∧
      t.tb.masters = mdel s.tb.masters p ∧ t.tb.announceAt = mdel s.tb.announceAt p ∧ a + 3 * 2 ^ 32 ≤ now t)

/-! ## RUN, the banks and the slots -/

/-- RUN_BEGIN from IDLE with no swap due enters RUN at the next second boundary and gives START its second reply; RUN_END ends RUN
at one; BANK_SWAP in IDLE exchanges the banks, sets SWAP_DONE and gives SCHED_SWAP its second reply. PROG_STOP_EFFECT stops a
scheme that waits for it once its last cycle is over, or with none released at its next CYCLE issue; STEP_IN_RUN_RESTART in
IDLE steps the time base by the offset; SLOT_BOUNDARY in RUN of a SOLO unit without a partner reaches the next slot boundary,
counts it and forms the health score. -/
def Obligations.RunAndBoundaryRowsComplete : Prop :=
  (∀ s : State,
    (∀ ws, inIdle s = true → s.pwr.startWait = some ws → s.pwr.swapWait = none → ∃ t, exec .runBegin s = .next t ∧
      t.pwr.ps = .run ∧ t.pwr.startWait = none ∧ secCeil (now s) ≤ now t) ∧
    (∀ ws, inRun s = true → s.pwr.stopWait = some ws → s.pwr.swapWait = none → ∃ t, exec .runEnd s = .next t ∧
      t.pwr.ps = .idle ∧ t.pwr.stopWait = none ∧ t.cas.resync = false) ∧
    (∀ b w, inIdle s = true → s.pwr.swapWait = some (b, w) → ∃ t, exec .bankSwap s = .next t ∧
      t.active = !s.active ∧ t.pwr.swapWait = none ∧ t.pwr.ps = .idle ∧ t.glb.irqStatus.getLsbD 5 = true)) ∧
  (∀ s : State,
    (∀ n, (schRun s n).running = true → stopDue s n = true → ∃ t, exec (.progStopEffect n) s = .next t ∧
      (schRun t n).running = false ∧ (schRun t n).stopWait = none ∧
      ((schRun s n).stopLast = none → nextCycle s n ≤ now t)) ∧
    (∀ x : Int, s.tb.stepRestart = some x → 1000000 ≤ x.natAbs → inRun s = false → ∃ t, exec .stepInRunRestart s = .next t ∧
      t.tb.count = (s.tb.count - nsCount x).toNat ∧ t.tb.stepRestart = none ∧ t.tb.goodRun = 0 ∧
      counter t 2 = satAdd (2 ^ 64 - 1) (counter s 2) 1) ∧
    (∀ x : Int, s.tb.stepRestart = some x → x.natAbs < 1000000 → ∃ t, exec .stepInRunRestart s = .next t ∧
      t.tb.count = s.tb.count ∧ t.tb.stepRestart = none ∧ t.tb.slew = nsCount x ∧
      incrNominal - incrSpan ≤ t.tb.incr ∧ t.tb.incr ≤ incrNominal + incrSpan) ∧
    (inRun s = true → s.cas.role = .solo → paired s = false → ∃ t, exec (.slotBoundary true) s = .next t ∧
      nextSlot s ≤ now t ∧ t.tb.slotDone = some (nextSlot s) ∧ t.cas.slotCount = s.cas.slotCount + 1 ∧
      t.cas.score = healthScore t ∧ t.cas.role = .solo))

/-! ## Castling -/

/-- Listening, heartbeat and the twin link of a unit that acts. LISTEN_WINDOW_END with neither partner nor heartbeat makes the unit
ACTIVE with a higher TERM; HB_IN_EDGE takes the edge; HB_TIMEOUT clears HB_OK with HB_LOSS; LINKBEAT_SEND sends one on each
lane; TWIN_LINK_TIMEOUT takes the link down with TWIN_LOSS; TWIN_LOSS_DECISION of an ACTIVE unit goes on alone;
PARTNER_OUTPUTS_ABSENT of a unit that was ELIGIBLE sets the takeover. -/
def Obligations.TwinLinkRowsComplete : Prop :=
  ∀ (e : Instant) (s : State), casActs s = true →
    (s.cas.listening = some e → s.cas.activeHeardAt = none → s.cas.twinUp = false → s.cas.hbOk = false → s.cas.role ≠ .active →
      ∃ t, exec (.listenWindowEnd false) s = .next t ∧ t.cas.role = .active ∧ t.cas.listening = none ∧
      t.cas.term = (max s.cas.term s.cas.peerTerm + 1) % 2 ^ 32 ∧ t.cas.irq.getLsbD 0 = true) ∧
    (s.cas.hbEdges = [] → exec (.hbInEdge e) s = .next { advanceTo e s with cas := { s.cas with hbEdges := [e], hbOk := true } }) ∧
    (s.cas.hbOk = true → s.cas.hbEdges = [e] → ∃ t, exec .hbTimeout s = .next t ∧ t.cas.hbOk = false ∧ t.cas.hbEdges = [] ∧
      t.cas.irq.getLsbD 2 = true ∧ e + usU s.cas.cfg.hbTimeout ≤ now t ∧
      counter t 235 = satAdd (2 ^ 64 - 1) (counter s 235) 1) ∧
    (lockerLoaded s 63 = true → ∃ a b, exec .linkbeatSend s = .next { s with
      emitted := .linkbeat 1 b :: .linkbeat 0 a :: s.emitted } ∧ a.role = s.cas.role ∧ a.term = s.cas.term ∧
      a.health = casHealthWord s ∧ a.cfgCrc = s.cas.cfg.crc ∧ a.lane = 0 ∧ b = { a with lane := 1 }) ∧
    (s.cas.twinUp = true → ∃ t, exec .twinLinkTimeout s = .next t ∧ t.cas.twinUp = false ∧ t.cas.lanes = 0 ∧
      t.cas.copyOk = false ∧ t.cas.lossElig = s.cas.eligSlot ∧ t.cas.irq.getLsbD 1 = true ∧
      s.cas.lastTwin + msU 1 ≤ now t ∧ counter t 234 = satAdd (2 ^ 64 - 1) (counter s 234) 1) ∧
    (s.cas.lossAt = some e → s.cas.twinUp = false → s.cas.role = .active → ∃ t, exec .twinLossDecision s = .next t ∧
      t.cas = { s.cas with lossAt := none } ∧ e + usU s.cas.cfg.hbTimeout ≤ now t ∧
      t.rcd.seq = (s.rcd.seq + 1) % 2 ^ 32) ∧
    (s.cas.role = .standby → s.cas.decideFrom = some e → s.cas.hbOk = false → s.cas.twinUp = false → 3 ≤ s.cas.absentSlots →
      s.cas.lossElig = true → exec .partnerOutputsAbsent s = .next { s with cas := { s.cas with
        decideFrom := none, takeoverAt := some (slotAfter s (now s + usU 200)) } })

/-- Messages of the partner to a unit that acts, with the pair key. LINKBEAT_RECEIVED takes the partner's fields; one whose tag
fails is counted and has no other effect; PRESENCE_FRAME_SEND sends a tagged frame; PRESENCE_FRAME_RECEIVED of a partner takes
its TERM and role; ACK_RECEIVED of a sent commit makes it the base; FAULT_RECEIVED of an ELIGIBLE unit sets the takeover;
STANDBY_COMMIT_LOSS takes a STANDBY to STALEMATE. -/
def Obligations.PartnerMessagesComplete : Prop :=
  ∀ (b : Linkbeat) (p : Fin 6) (s : State), casActs s = true → lockerLoaded s 63 = true →
    (b.version = Config.twinVersion → s.cas.role ≠ .active → ∃ t, exec (.linkbeatReceived b true) s = .next t ∧
      t.cas.twinUp = true ∧ t.cas.lastTwin = now s ∧ t.cas.peerRole = some b.role ∧ t.cas.peerTerm = b.term ∧
      t.cas.peerId = b.peerId ∧ t.cas.peerCrc = some b.cfgCrc ∧ t.cas.role = s.cas.role) ∧
    exec (.linkbeatReceived b false) s = .next (count 197 s) ∧
    (∀ k, bit s.cas.cfg.presPorts p = true → portUp s p = true → pairKey s = some k → classPaused s p 6 = false →
      heldBack s p = false → mgetD s.txWait p [] = [] →
      gridPlus (fnom s) (gridFloor (fnom s) (slotFloor s (now s))) 1 1000 ≤ now s →
      ∃ t f, exec (.presenceFrameSend p) s = .next t ∧
      t.emitted = .presence p s.cas.cfg.presMac s.cas.cfg.presVlan f :: s.emitted ∧ f.tag = presenceTag k f ∧ f.role = roleCode s.cas.role ∧
      f.score = s.cas.score ∧ f.term = s.cas.term) ∧
    (∀ (f : Presence) k, pairKey s = some k → f.magic = 0x5343 → f.tag = presenceTag k f → f.id = s.cas.peerId →
      f.id ≠ Config.deviceId → f.role ≠ 1 → exec (.presenceFrameReceived p f) s = .next
        { countPort p 0 s with cas := { s.cas with peerTerm := f.term, peerRole := roleOfCode f.role } }) ∧
    (∀ q h x, s.cas.role = .active → mget s.cas.sent q = some x → ∃ t, exec (.ackReceived q h) s = .next t ∧
      t.cas.base = x.lines ∧ t.cas.copyOk = true ∧ t.cas.stopped = false ∧ t.cas.unacked = s.cas.unacked.filter (fun n => decide (q < n)) ∧
      t.cas.peerHealth = h % 2 ^ 32 ∧ t = { s with cas := t.cas }) ∧
    (∀ term c, eligible s = true → ∃ t, exec (.faultReceived term c) s = .next t ∧ t.cas.peerTerm = term ∧
      t.cas.takeoverAt = some (slotAfter s (now s + usU 200)) ∧ t = { s with cas := t.cas }) ∧
    (s.cas.role = .standby → s.cas.twinUp = true → s.cas.lastApplied = none → ∃ t, exec .standbyCommitLoss s = .next t ∧
      t.cas.role = .stalemate ∧ t.cas.copyOk = false ∧ t.cas.irq.getLsbD 0 = true)

/-- Commits and the copy set at a unit with the pair key. COMMIT_RECEIVED of an empty commit at a STANDBY is applied and
acknowledged; RESYNC_START_RECEIVED begins a resynchronisation, RESYNC_DATA_RECEIVED adds a part, RESYNC_END_RECEIVED of a
digest that matches ends it; RESYNC_TIMEOUT abandons it, and RESYNC_RETRY asks for another. -/
def Obligations.ResynchronisationRowsComplete : Prop :=
  ∀ s : State, casActs s = true → lockerLoaded s 63 = true → s.cas.role = .standby →
    (∀ c : Commit, c.crcOk = true → c.lines = [] → c.digests = [] → ∃ t w, exec (.commitReceived c true) s = .next t ∧
      t.cas.cseq = c.cseq ∧ t.cas.copyOk = true ∧ t.cas.lastApplied = some (slotFloor s (now s)) ∧
      t.emitted.head? = some (.ack c.cseq w)) ∧
    (∀ n, s.cas.peerVersion = Config.twinVersion → ∃ t, exec (.resyncStartReceived n) s = .next t ∧ t.cas.resync = true ∧
      t.cas.sakN = n ∧ t.cas.resyncFrom = now s ∧ t.cas.resyncBuf = [] ∧ t = { s with cas := t.cas }) ∧
    (∀ d, s.cas.resync = true → ∃ t, exec (.resyncDataReceived d) s = .next t ∧
      t.cas.resyncBuf = s.cas.resyncBuf ++ [d] ∧ t = { s with cas := t.cas }) ∧
    (s.cas.resync = true → s.cas.resyncBuf = [] → exec (.resyncEndReceived (Config.copyDigest [])) s = .next (count 232
      { dropExchange s with cas := { s.cas with
        lastTwin := now s, twinUp := true, resync := false, resyncDone := true, ownDigests := [], resyncRetry := none } })) ∧
    (s.cas.resync = true → ∃ t, exec .resyncTimeout s = .next t ∧ t.cas.resync = false ∧ t.cas.resyncBuf = [] ∧
      s.cas.resyncFrom + 2 * 2 ^ 32 ≤ now t ∧ t.cas.resyncRetry = some (now t + 10 * 2 ^ 32)) ∧
    (∀ r, s.cas.resyncRetry = some r → ∃ t, exec .resyncRetry s = .next t ∧ t.cas.resyncReq = true ∧
      t.cas.resyncRetry = none ∧ r ≤ now t)

/-- Roles. FAULT_DECLARE of an ACTIVE unit whose early warning stands takes it to STALEMATE; TAKEOVER at its slot boundary and
PROMOTE_EFFECT make the unit ACTIVE with a higher TERM; SWITCHOVER_HANDOVER takes an ACTIVE unit whose partner's shadow was
good for two slots to STANDBY; ADDRESS_ANNOUNCE_REPEAT announces again; EYE_MEASURE takes its finding. -/
def Obligations.RoleRowsComplete : Prop :=
  ∀ (b : Instant) (s : State), casActs s = true →
    (s.cas.role = .active → s.pwr.pwrFail = true → ∃ t, exec (.faultDeclare 1) s = .next t ∧ t.cas.role = .stalemate ∧
      t.pins.hbOut = false ∧ t.cas.irq.getLsbD 0 = true) ∧
    (s.cas.role = .standby → s.cas.takeoverAt = some b → ∃ t, exec .takeover s = .next t ∧ t.cas.role = .active ∧
      t.cas.term = (max s.cas.term s.cas.peerTerm + 1) % 2 ^ 32 ∧ t.cas.takeoverAt = none ∧ b ≤ now t) ∧
    (s.cas.role = .standby ∨ s.cas.role = .stalemate → s.cas.promoteAt = some b → ∃ t, exec .promoteEffect s = .next t ∧
      t.cas.role = .active ∧ t.cas.promoteAt = none ∧ b ≤ now t) ∧
    (∀ w, s.cas.role = .active → s.cas.switchAt = some (b, w) → 2 ≤ s.cas.shadowRun → hasPartner s = true →
      s.schs = [] → ∃ t, exec .switchoverHandover s = .next t ∧ t.cas.role = .standby ∧ t.cas.switchAt = none ∧
      t.cas.takenAt = some b) ∧
    (∀ w, s.cas.role = .active → s.cas.switchAt = some (b, w) → s.cas.shadowRun < 2 → ∃ t, exec .switchoverHandover s = .next t ∧
      t.cas.role = .active ∧ t.cas.switchAt = none) ∧
    (∀ ts, s.cas.announceAt = b :: ts → s.cas.role = .active → ∃ t, exec .addressAnnounceRepeat s = .next t ∧
      t.cas.announceAt = ts ∧ b ≤ now t ∧ ∀ a ∈ s.cas.cfg.svc, .announce a.port a.vlan a.addr (!isV4 a.addr) ∈ t.emitted) ∧
    (∀ low, exec (.eyeMeasure low) s = .next { s with cas := { s.cas with eyeWarn := low } })

/-! ## Issues of the schedule and phase requests -/

/-- The issues of the active schedule in RUN, in the order of 01 R12: of two coincident issues the one that comes first in it takes
place first, whichever row asks; and one that has taken place does nothing more. DEADLINE_ISSUE has its instance evaluated
later. CYCLE_ISSUE opens the cycle of a running scheme for its slot, releases it at once where the group has fired the
instance, and stops a scheme whose stop is due. COPY_ISSUE releases the COPY task. TICK_ISSUE triggers its capture, or with
PHASE schedules a phase-anchored start. The issues that reach a task or an output. RELEASE_ISSUE releases every FILTER instance
that is due: the chain's next instance is past it, and the task of the one that was due is ready; PLAYOUT_ISSUE releases the
VOICE task of an open call, and opens a call that waits for it; PUBLISH_ISSUE of a publication with a new state publishes it,
and of an output stream sends the frame that was built for its instance, or counts one that is missing. -/
def Obligations.ScheduleIssuesComplete : Prop :=
  (∀ (n i : Nat) (e : SchedEntry) (t : Instant) (s : State),
    (∀ a x y, 1 ≤ a → a ≤ 7 → inRun s = true → issueOf s a n i = some (e, t) →
      (issuesAt (advanceTo t s) t).filter (fun z => decide (issueRank z ≤ issueRank { idx := n, e := e, i := i })
        && notIssued (advanceTo t s) t z) = [x, y] →
      exec (issueRow a n i) s = .next (takeIssue t (takeIssue t (advanceTo t s) x) y)) ∧
    (∀ a q, 1 ≤ a → a ≤ 7 → inRun s = true → issueOf s a n i = some (e, t) → s.tb.seqPos = some (t, q) →
      issueRank { idx := n, e := e, i := i } ≤ q → exec (issueRow a n i) s = .next (advanceTo t s)) ∧
    (∀ g x, Issues 1 n i e t s → group s e.target = some g → instanceAt g t = some x →
      ∃ u, exec (.deadlineIssue n i) s = .next u ∧ Issued n i e t u ∧
      u.mst = { s.mst with evalDue := s.mst.evalDue ++ [dueEval e.target g x] } ∧ u.disp = s.disp) ∧
    (∀ tid tm, Issues 4 n i e t s → (schRun s e.target).running = true → stopDue s e.target = false →
      (schRun s e.target).notBefore ≤ slotFloor s t →
      (activeBank s).templates.find? (fun x => x.2.type == 2 && x.2.object == e.target) = some (tid, tm) →
      (findInst s tm.gid (slotFloor s t) = none → ∃ u, exec (.cycleIssue n i) s = .next u ∧ Issued n i e t u ∧
        (schRun u e.target).opened = (schRun s e.target).opened ++ [slotFloor s t] ∧
        (schRun u e.target).cycleAt = some (slotFloor s t) ∧ u.disp = s.disp) ∧
      (∀ x g, findInst s tm.gid (slotFloor s t) = some x → x.state = .fired → group s tm.gid = some g →
        (schRun s e.target).skipNext = false → (tmplRun s tid).pending < 4 → s.disp.ready.length < Config.maxReady →
        ∃ u k, exec (.cycleIssue n i) s = .next u ∧ Issued n i e t u ∧ u.disp.ready = s.disp.ready ++ [k] ∧ k.tid = tid ∧
        k.tmpl = tm ∧ k.t = slotFloor s t ∧ k.released = now u)) ∧
    (∀ tid tm, Issues 4 n i e t s → (schRun s e.target).running = true → stopDue s e.target = true →
      (schRun s e.target).notBefore ≤ slotFloor s t →
      (activeBank s).templates.find? (fun x => x.2.type == 2 && x.2.object == e.target) = some (tid, tm) →
      ∃ u, exec (.cycleIssue n i) s = .next u ∧ Issued n i e t u ∧ (schRun u e.target).running = false ∧
      (schRun u e.target).stopWait = none) ∧
    (∀ tid tm, Issues 5 n i e t s → (activeBank s).templates.find? (fun x => x.2.type == 7) = some (tid, tm) →
      (tmplRun s tid).pending < 4 → s.disp.ready.length < Config.maxReady → ∃ u k, exec (.copyIssue n i) s = .next u ∧
      Issued n i e t u ∧ u.disp.ready = s.disp.ready ++ [k] ∧ k.tid = tid ∧ k.tmpl = tm ∧ k.t = t ∧ k.released = now u ∧
      (tmplRun u tid).pending = (tmplRun s tid).pending + 1) ∧
    (∀ r, Issues 6 n i e t s → capRun s e.target = some r → bit r.def_.trig 1 = true →
      (bit e.flags 0 = false → ∃ u, exec (.tickIssue n i) s = .next u ∧ Issued n i e t u ∧ u.caps =
        (triggerCap e.target { src := 5, srcId := 0, t := t, mark := [], flags := 0 } false (advanceTo t s)).1.caps) ∧
      (bit e.flags 0 = true → ∃ u, exec (.tickIssue n i) s = .next u ∧ Issued n i e t u ∧ u.phaseNext = s.phaseNext + 1 ∧
        mget u.phases s.phaseNext = some
          { num := t / 2 ^ 32 * e.q + e.a + i * e.m, den := e.q, anchor := (t / 2 ^ 32 * e.q + e.a + i * e.m) * 2 ^ 32 / e.q
            phi := bits e.arg 15 0, cyc := bits e.arg 19 16, skip := bit e.arg 24
            act := .capture e.target 5 0 t [] false }))) ∧
  (∀ (n i : Nat) (e : SchedEntry) (t : Instant) (s : State),
    (∀ tm d p j, Issues 2 n i e t s → mget (activeBank s).templates e.target = some tm → tm.type = 5 →
      mget (activeBank s).streams (fld tm.blk 0 2) = some d → p = fcPar (fnom s) d.rate tm.blk →
      j = (gridFloor p.rate t - p.lam) * p.rOut / p.rate →
      ∃ u, exec (.releaseIssue n i) s = .next u ∧ Issued n i e t u ∧ j < (filter u (fld tm.blk 0 2)).next ∧
      ((filter s (fld tm.blk 0 2)).next = j → (tmplRun s e.target).pending < 4 → s.disp.ready.length < Config.maxReady →
        findCell s (fld tm.blk 0 2) (gridAt p.rOut j) = none → s.mst.cells.length < Config.maxCells →
        (fbFit (ceilDiv (filterBytes p tm.blk) 64) s.mst.fb 0).isSome = true →
        ∃ k ∈ u.disp.ready, k.tid = e.target ∧ k.tmpl = tm ∧ k.t = gridAt p.rOut j ∧ k.released = now (advanceTo t s))) ∧
    (∀ r tid tm, Issues 3 n i e t s → vch s e.target = some r → r.ended = false → comeBy r.closeAt t = false → r.next = none →
      voiceTmpl (activeBank s) e.target = some (tid, tm) → tm.type = 6 → (tmplRun s tid).pending < 4 →
      s.disp.ready.length < Config.maxReady →
      (r.openAt = none → ∃ u k, exec (.playoutIssue n i) s = .next u ∧ Issued n i e t u ∧
        u.disp.ready = s.disp.ready ++ [k] ∧ k.tid = tid ∧ k.tmpl = tm ∧ k.t = t ∧ u.vchs = s.vchs) ∧
      (∀ a, r.openAt = some a → a ≤ t → ∃ u k r', exec (.playoutIssue n i) s = .next u ∧ Issued n i e t u ∧
        u.disp.ready = s.disp.ready ++ [k] ∧ k.tid = tid ∧ k.t = t ∧ vch u e.target = some r' ∧ r'.openAt = none)) ∧
    (∀ d tid tm g x, Issues 7 n i e t s → mget (activeBank s).outs e.target = some d →
      outTmpl (activeBank s) e.target = some (tid, tm) → group s tm.gid = some g → lastDue g t = some x →
      beforeFirst s tm.gid x = false →
      (∀ a w ms, 0x100 ≤ e.target → (pub s (e.target - 0x100)).newState = some (a, w, ms) → ∃ u,
        exec (.publishIssue n i) s = .next u ∧ Issued n i e t u ∧ (pub u (e.target - 0x100)).data = ms ∧
        (pub u (e.target - 0x100)).sqNum = 0 ∧ (pub u (e.target - 0x100)).stNum = ((pub s (e.target - 0x100)).stNum + 1) % 2 ^ 32 ∧
        (pub u (e.target - 0x100)).newState = none) ∧
      (∀ y, e.target < 0x100 → (outRun s e.target).built.find? (fun b => b.1 == x) = some y → ∃ u,
        exec (.publishIssue n i) s = .next u ∧ Issued n i e t u ∧
        (outRun u e.target).built = (outRun s e.target).built.filter fun b => decide (x < b.1)) ∧
      (e.target < 0x100 → (outRun s e.target).built.find? (fun b => b.1 == x) = none → taskPending s tid x = false →
        hasFired s tm.gid x = true → ∃ u, exec (.publishIssue n i) s = .next u ∧ Issued n i e t u ∧
        counter u 195 = satAdd (2 ^ 64 - 1) (counter s 195) 1)))

/-- DEADLINE_EVALUATION of an instance that is due for it and has not fired fires it, at the earliest 2 µs after its deadline: it
is the newest one that fired, the firing is counted by its policy, and the group's detector, output and archive templates, each
with room for one more release, have their tasks. An instance that has fired by then is only passed. PHASE_TARGET_FIX fixes the
predicted instant while the reference bus is valid, skips a request with SKIP, and otherwise falls back to the nominal instant;
PHASE_ACTION_TAKEN takes the action of a pin at its instant. -/
def Obligations.DeadlineAndPhaseRowsComplete : Prop :=
  (∀ (gid : Nat) (g : GroupDef) (t : Instant) (s : State), inRun s = true → group s gid = some g →
    s.mst.evalDue = [dueEval gid g t] → s.disp.dropped = [] →
    (hasFired s gid t = false → beforeFirst s gid t = false → findInst s gid (gridAt g.rate (gridFloor g.rate t + 1)) = none →
      ((activeBank s).templates.map (·.1)).Nodup → (∀ e ∈ (activeBank s).templates, (tmplRun s e.1).pending < 4) →
      ∃ u, exec (.deadlineEvaluation gid t) s = .next u ∧ mget u.mst.lastFired gid = some t ∧ u.mst.evalDue = [] ∧
      counter u (if g.policy = 1 then 50 else 49) = satAdd (2 ^ 64 - 1) (counter s (if g.policy = 1 then 50 else 49)) 1 ∧
      (gridFloor g.rate t * 1000000 + (g.wUs + 2) * g.rate) * 2 ^ 32 / (g.rate * 1000000) ≤ now u ∧
      ∀ e ∈ (activeBank s).templates, e.2.gid = gid → e.2.type = 1 ∨ e.2.type = 3 ∨ e.2.type = 4 →
        ∃ k ∈ u.disp.ready ++ u.disp.held, k.tid = e.1 ∧ k.tmpl = e.2 ∧ k.gid = gid ∧ k.t = t) ∧
    (hasFired s gid t = true → ∃ u, exec (.deadlineEvaluation gid t) s = .next u ∧ u.mst = { s.mst with evalDue := [] } ∧
      u.disp = s.disp)) ∧
  (∀ (id : Nat) (r : PhaseReq) (x : Instant) (s : State), mget s.phases id = some r →
    (r.target = none → phasePredict s r = some x →
      refValid (advanceTo (x - usU 250) s) (now (advanceTo (x - usU 250) s)) = true →
      exec (.phaseTargetFix id) s = .next { advanceTo (x - usU 250) s with
        phases := mput s.phases id { r with target := some x } }) ∧
    (r.target = none → phasePredict s r = some x → r.skip = true →
      refValid (advanceTo (x - usU 250) s) (now (advanceTo (x - usU 250) s)) = false →
      ∃ u, exec (.phaseTargetFix id) s = .next u ∧ u.phases = mdel s.phases id ∧
      counter u 4 = satAdd (2 ^ 64 - 1) (counter s 4) 1) ∧
    (r.target = none → phasePredict s r = some x → r.skip = false →
      refValid (advanceTo (x - usU 250) s) (now (advanceTo (x - usU 250) s)) = false →
      ∃ u, exec (.phaseTargetFix id) s = .next u ∧
      mget u.phases id = some { r with target := some (phaseNominal (advanceTo (x - usU 250) s) r), fallback := true } ∧
      counter u 3 = satAdd (2 ^ 64 - 1) (counter s 3) 1) ∧
    (∀ sch (pin : Fin 16) level, r.target = some x → r.act = .pin sch pin.val level → emits s = true →
      ∃ u, exec (.phaseActionTaken id) s = .next u ∧ u.phases = mdel s.phases id ∧
      u.pins.wasOut.getLsbD pin.val = level ∧ x ≤ now u))

/-! ## Ingest -/

/-- Frames of a known stream that the MAC passes, with the main side up, outside PRP and service addresses. In IDLE a good C37.118
data frame, a good sampled-value frame of one ASDU and a good injection record each count as accepted; one that fails its
checks counts as such. In RUN a good data frame of a stream in no group takes a cell with its bytes, and a good sample set of a
stream without a filter chain counts as accepted. -/
def Obligations.IngestFramesComplete : Prop :=
  ∀ (sid : Nat) (d : StreamDef) (j : Nat) (s : State), mainUp s = true → s.disp.dropped = [] →
    (∀ f : UdpFrame, streamOfUdp s f = some (sid, d) → macDrop (port s f.port).cfg f.len f.vlan f.held = none → f.rct = none →
      isSvc s f.dst = false → c37Type f.bytes = 0 →
      (c37FrameOk d f.bytes = false → ∃ u, exec (.c37118FrameReceived f) s = .next u ∧
        mgetD (stream u sid).counts 6 0 = satAdd 0xFFFFFFFF (mgetD (stream s sid).counts 6 0) 1) ∧
      (c37FrameOk d f.bytes = true → (stream s sid).state ≠ .cfgMismatch → c37Instant s d f.bytes = some j →
        isFuture d.rate (gridAt d.rate j) f.stamp = false → inRun s = false →
        ∃ u, exec (.c37118FrameReceived f) s = .next u ∧
        mgetD (stream u sid).counts 0 0 = satAdd 0xFFFFFFFF (mgetD (stream s sid).counts 0 0) 1) ∧
      (c37FrameOk d f.bytes = true → (stream s sid).state ≠ .cfgMismatch → c37Instant s d f.bytes = some j →
        isFuture d.rate (gridAt d.rate j) f.stamp = false → inRun s = true → mget (activeBank s).streams sid = some d →
        groupsOf s sid = [] →
        (stream s sid).written.contains j = false → max (now s) f.stamp < gridAt d.rate (j + 2) →
        s.mst.cells.length < Config.maxCells → (fbFit (ceilDiv f.bytes.length 64) s.mst.fb 0).isSome = true →
        ∃ u, exec (.c37118FrameReceived f) s = .next u ∧
        ∃ c ∈ u.mst.cells, c.key = sid ∧ c.inst = gridAt d.rate j ∧ c.data = .frame f.bytes ∧ c.stamp = f.stamp)) ∧
    (∀ (f : SvFrame) (a : Asdu), streamOfSv s f = some (sid, d) → macDrop (port s f.port).cfg f.len f.vlan f.held = none → f.rct = none →
      f.l2 = true → f.wellFormed = true → f.sim = false → f.len ≤ 9216 → f.asdus = [a] → a.vals.length = d.nch →
      a.confRev = d.tbConf → a.smpCnt < d.rate → (stream s sid).state ≠ .cfgMismatch → s.caps = [] →
      (inRun s = true → bit d.opts 3 = false ∧ filterTmpl (activeBank s) sid = none ∧
        (stream s sid).written.contains (svInstant d.rate a.smpCnt f.stamp) = false) → ∃ u, exec (.svFrameReceived f) s = .next u ∧
      mgetD (stream u sid).counts 0 0 = satAdd 0xFFFFFFFF (mgetD (stream s sid).counts 0 0) 1) ∧
    (∀ (m : Fin 16) (p : Bytes) (rest : List Bytes), (iq s m).pkts = p :: rest → fld p 0 2 = sid → fld p 2 2 + 16 = p.length →
      16 ≤ fld p 2 2 → fld p 2 2 ≤ 9216 → mget (activeBank s).streams sid = some d → d.type = 2 → s.cas.role = .solo →
      fld p 8 6 * 2 ^ 32 + fld p 4 4 ≤ now s → c37FrameOk d (p.drop 16) = true → (stream s sid).state ≠ .cfgMismatch →
      c37Instant s d (p.drop 16) = some j →
      isFuture d.rate (gridAt d.rate j) (fld p 8 6 * 2 ^ 32 + fld p 4 4) = false → inRun s = false →
      ∃ u, exec (.injectionRecordTaken m) s = .next u ∧ (iq u m).pkts = rest ∧
      mgetD (stream u sid).counts 0 0 = satAdd 0xFFFFFFFF (mgetD (stream s sid).counts 0 0) 1)

/-- R-GOOSE, configuration frames and missing instances. In RUN a publication newer than the held one is held, from the port and
mirrored by the partner alike; GOOSE_OPERAND_INSTANT writes the dataset before the instant as an operand; a configuration frame
takes its stream to CFG_MISMATCH where it disagrees with it, and out of it where it agrees; STREAM_MISSING_LIMIT judges its
instant and releases its cells. -/
def Obligations.PublicationsAndConfigurationsComplete : Prop :=
  ∀ (sid : Nat) (d : StreamDef) (s : State), mainUp s = true → s.disp.dropped = [] →
    (∀ f : GooseFrame, streamOfGoose s f = some (sid, d) → macDrop (port s f.port).cfg f.len f.vlan f.held = none → f.rct = none →
      isSvc s f.dst = false → authOk s d.locker f.sig = true →
      f.wellFormed = true → f.sim = false → f.len ≤ 9216 → f.members.length = d.nch → f.confRev = d.tbConf →
      (stream s sid).state ≠ .cfgMismatch → inRun s = true → (stream s sid).held = none →
      ∃ u, exec (.gooseRPublicationReceived f) s = .next u ∧ (stream u sid).held = some
        { stNum := f.stNum, sqNum := f.sqNum, until_ := f.stamp + msU f.ttlMs, members := f.members, qual := gooseQual d f
          stamp := f.stamp }) ∧
    (∀ f : GooseFrame, streamOfGoose s f = some (sid, d) → authOk s d.locker f.sig = true →
      f.wellFormed = true → f.sim = false → f.len ≤ 9216 → f.members.length = d.nch → f.confRev = d.tbConf →
      (stream s sid).state ≠ .cfgMismatch → casActs s = true → lockerLoaded s 63 = true → s.cas.role = .standby →
      (stream s sid).held = none → ∃ u, exec (.mirrorReceived (.goose f) true) s = .next u ∧ (stream u sid).held = some
        { stNum := f.stNum, sqNum := f.sqNum, until_ := f.stamp + msU f.ttlMs, members := f.members, qual := gooseQual d f
          stamp := f.stamp } ∧ u.cas.twinUp = true) ∧
    (∀ (t : Instant) (h : GooseHeld), mget (activeBank s).streams sid = some d → d.type = 5 → inRun s = true →
      onGrid d.rate t = true → (stream s sid).written.contains (gridFloor d.rate t) = false → groupsOf s sid = [] →
      (stream s sid).held = some h → h.stamp < t → max (now s) t < gridAt d.rate (gridFloor d.rate t + 2) →
      s.mst.cells.length < Config.maxCells →
      (fbFit (ceilDiv (max 64 (4 * d.nch)) 64) s.mst.fb 0).isSome = true →
      ∃ u, exec (.gooseOperandInstant sid t) s = .next u ∧ ∃ c ∈ u.mst.cells, c.key = sid ∧ c.inst = t ∧
      c.data = .dataset h.members h.qual (decide (h.until_ ≤ t))) ∧
    (∀ f : CfgFrame, streamOfCfg s f = some (sid, d) → macDrop (port s f.port).cfg f.len f.vlan f.held = none → f.rct = none →
      isSvc s f.dst = false → f.frameSize = f.len → f.chkOk = true → f.readable = true → f.kind = 2 →
      ∃ u, exec (.cfgFrameReceived f) s = .next u ∧ ((stream u sid).state = .cfgMismatch ↔ cfgAgrees d f = false)) ∧
    (∀ t : Instant, mget (activeBank s).streams sid = some d → inRun s = true → onGrid d.rate t = true → groupsOf s sid = [] →
      (stream s sid).judged = none → ∃ u, exec (.streamMissingLimit sid t) s = .next u ∧
      (stream u sid).judged = some (gridFloor d.rate t) ∧ (∀ c ∈ u.mst.cells, c.key = sid → c.inst = t → 1024 ∉ c.waiting) ∧
      gridAt d.rate (gridFloor d.rate t + 2) ≤ now u)

/-! ## Tasks -/

/-- Dispatch. READY_HELD_RETRY moves a held release into the ready list; TASK_DISPATCH places the chosen task in its core's queue
and counts the step; TASK_START starts the chosen entry; HOLD_LIMIT_EXPIRY drops a held release and counts it. Tasks on core c.
TASK_COMPLETE of a task whose packets the queues take frees the core, and the instance of an ARCHIVE task of a disarmed capture
is no longer pending; WCET_BUDGET_REACHED counts the overrun and sets OVERRUN; TASK_ABORT at 8 × WCET_NS frees the core and is
counted; SCHEME_RUNTIME_FAULT frees the core and is counted. -/
def Obligations.TaskRowsComplete : Prop :=
  (∀ (k : TaskInst) (s : State), s.disp.dropped = [] →
    (s.disp.held = [k] → s.disp.ready.length < Config.maxReady → exec .readyHeldRetry s = .next { s with
      disp := { s.disp with ready := s.disp.ready ++ [k], held := [] } }) ∧
    (∀ c step, nextDispatch s = some (k, c, step) → 1 ≤ step → step ≤ 3 → s.disp.held = [] → ∃ u, exec .taskDispatch s = .next u ∧
      (core u c).queue = (core s c).queue ++ [k] ∧
      u.disp.ready = s.disp.ready.filter (fun x => x.serial != k.serial) ∧ (tmplRun u k.tid).lastCore = some c ∧
      counter u (57 + step) = satAdd (2 ^ 64 - 1) (counter s (57 + step)) 1) ∧
    (∀ c : Fin 64, (core s c).running = none → lminBy (sortBy (fun k => k.serial) (core s c).queue) (fun k => k.tmpl.prio) = some k →
      exec (.taskStart c) s = .next (setCore c { core s c with
        queue := (core s c).queue.filter (fun x => x.serial != k.serial), running := some k, start := now s
        overrun := false } s)) ∧
    (s.disp.held.find? (fun x => x.serial == k.serial) = some k → k.tmpl.type = 4 →
      ∃ u, exec (.holdLimitExpiry k.serial) s = .next u ∧ (∀ x ∈ u.disp.held, x.serial ≠ k.serial) ∧
      counter u 56 = satAdd (2 ^ 64 - 1) (counter s 56) 1 ∧ k.holdUntil ≤ now u)) ∧
  (∀ (c : Fin 64) (k : TaskInst) (s : State), (core s c).running = some k → s.disp.dropped = [] →
    (∀ r w, k.tmpl.type = 4 → k.old = none → capRun s k.tmpl.object = some r → r.armed = false → paired s = false →
      ∃ u, exec (.taskComplete c w) s = .next u ∧ (core u c).running = none ∧
      (tmplRun u k.tid).pending = (tmplRun s k.tid).pending - 1) ∧
    (∀ w v ps op ok, k.old = none → taskWork k w s = (v, ps, op, ok) → (putAll (keyTask k.serial) ps v).isSome = true →
      ∃ u, exec (.taskComplete c w) s = .next u ∧ (core u c).running = none) ∧
    ((core s c).overrun = false → ∃ u, exec (.wcetBudgetReached c) s = .next u ∧
      (core u c).overrun = true ∧ (core u c).running = some k ∧ counter u 62 = satAdd (2 ^ 64 - 1) (counter s 62) 1 ∧
      u.glb.irqStatus.getLsbD 8 = true ∧ (core s c).start + nsU k.tmpl.wcet ≤ now u) ∧
    (∃ u, exec (.taskAbort c) s = .next u ∧ (core u c).running = none ∧
      counter u 63 = satAdd (2 ^ 64 - 1) (counter s 63) 1 ∧ (core s c).start + nsU (8 * k.tmpl.wcet) ≤ now u) ∧
    (k.tmpl.type = 2 → ∃ u, exec (.schemeRuntimeFault c) s = .next u ∧ (core u c).running = none ∧
      counter u 98 = satAdd (2 ^ 64 - 1) (counter s 98) 1))

/-! ## Outputs, voice, captures, pins and the partner's frames -/

/-- Publications and calls in RUN. R_GOOSE_RETRANSMIT sends the state again with the next sqNum; a first good voice packet of a
flow without SRTP anchors its leg; an RTCP packet gives the far end's report; RTCP_SEND sends the leg's report and sets the
next one 2.5 to 7.5 s away; LEG_SILENT after 2 s; REC_BLOCK_TRANSFER moves the oldest recorded packet to its queue. -/
def Obligations.OutputAndVoiceRowsComplete : Prop :=
  ∀ (n v : Nat) (s : State), inRun s = true →
    (∀ t d, (pub s n).nextAt = some t → mget (activeBank s).outs (0x100 + n) = some d → emits s = true → d.locker = 0xFF →
      ∃ u, exec (.rGooseRetransmit n) s = .next u ∧ (pub u n).sqNum = ((pub s n).sqNum + 1) % 2 ^ 32 ∧
      (pub u n).stNum = (pub s n).stNum ∧ (pub u n).spdu = ((pub s n).spdu + 1) % 2 ^ 32 ∧
      (pub u n).interval = min (2 * (pub s n).interval) (rtMax d) ∧ t ≤ now u) ∧
    (∀ (pk : UdpFrame) (f : FlowRun) (r : VchRun) (e : SchedEntry) (h : Nat) (x : Bytes), voiceFlow s pk = some (n, f) →
      macDrop (port s pk.port).cfg pk.len pk.vlan pk.held = none → pk.rct = none → isSvc s pk.dst = false → mget s.flows n = some f →
      f.def_.vch = v → bit f.def_.role 1 = true → f.def_.profile = 0 → rtpBody pk.bytes = some h →
      unpad (fldBe pk.bytes 0 1) (pk.bytes.drop h) = some x → f.def_.ssrc = fldBe pk.bytes 8 4 → f.def_.ssrc ≠ 0 →
      vch s v = some r → fldBe pk.bytes 1 1 % 128 = r.par.ptC → (r.par.evtPtC = 0 ∨ r.par.evtPtC ≠ r.par.ptC) →
      payloadFits (codecOf r.par true) r.par.frameMs false x = true → playoutEntry (activeBank s) v = some e →
      r.legC.silent = false → r.legC.anchor = none → r.legC.reanchor = none →
      ∃ u r', exec (.voicePacketReceived pk) s = .next u ∧ vch u v = some r' ∧
      r'.legC.anchor = some (fldBe pk.bytes 4 4, issueNo e (pk.stamp + msU r.par.jbInit)) ∧ r'.legC.lastRx = some pk.stamp ∧
      r'.legC.lastSeq = some (fldBe pk.bytes 2 2) ∧ r'.legF = r.legF ∧ counter u 112 = satAdd (2 ^ 64 - 1) (counter s 112) 1) ∧
    (∀ (pk : UdpFrame) (f : FlowRun) (r : VchRun) (ps : List (Nat × Bytes)), rtcpFlow s pk = some (n, f) →
      macDrop (port s pk.port).cfg pk.len pk.vlan pk.held = none → pk.rct = none → isSvc s pk.dst = false → f.def_.vch = v →
      bit f.def_.role 1 = true → f.def_.profile = 0 → vch s v = some r → ps = rtcpParts pk.bytes.length pk.bytes →
      ps.find? (fun p => p.1 == 203) = none → ∃ u, exec (.rtcpPacketReceived pk) s = .next u ∧ vch u v = some { r with
        legC := ps.foldl (rtcpLeg (clkMs (codecOf r.par true)) ((legFlow s v true true).map (·.2.def_.ssrc)) (rxSsrc f r.legC)
          (ntpTime s pk.stamp / 65536 % 2 ^ 32) pk.stamp) r.legC }) ∧
    (∀ (r : VchRun) (f : FlowRun), vch s v = some r → r.closeAt = none → legFlow s v true true = some (n, f) → emits s = true →
      f.def_.profile = 0 → ∃ u r' x, exec (.rtcpSend v true) s = .next u ∧ vch u v = some r' ∧ r'.legC.rtcpAt = some x ∧
      now u + 5 * 2 ^ 32 / 2 ≤ x ∧ x < now u + 15 * 2 ^ 32 / 2 ∧ r'.legC.rtcp = rtcpMark r.legC.rtcp ∧
      (∀ mac, r.legC.rtcpAt = none → (addressed f.def_.port f.def_.remoteAddr s).1 = some mac →
        classPaused s f.def_.port 4 = false → heldBack s f.def_.port = false → mgetD s.txWait f.def_.port [] = [] →
        ∃ p b, .ip p (.rtcp n b) ∈ u.emitted ∧ p.port = f.def_.port ∧ p.dstMac = mac ∧ p.src = f.def_.localAddr ∧
        p.dst = f.def_.remoteAddr ∧ p.dscp = f.def_.dscp ∧ fldBe b 4 4 = f.def_.ssrc % 2 ^ 32)) ∧
    (∀ (r : VchRun), vch s v = some r → r.closeAt = none → r.openAt = none → r.legC.silent = false →
      ∃ u, exec (.legSilent v true) s = .next u ∧ vch u v = some { r with
        legC := { r.legC with silent := true, held := [] }, events := r.events ++ [(16, 1, [])] } ∧
      max r.opened (r.legC.lastRx.getD 0) + 2 * 2 ^ 32 ≤ now u) ∧
    (∀ (r : VchRun) m b rest, vch s v = some r → r.ended = false → r.recd.buffer = (m, b) :: rest → emits s = true →
      oqTakes s r.recd.oq (some (keyVch v)) b.length = true → ∃ u, exec (.recBlockTransfer v) s = .next u ∧
      vch u v = some { r with recd := { r.recd with buffer := rest } })

/-- Captures and pins. CAP_RING_MARKER marks the slot of every armed ring of its stream; CAP_RECORD_CLOSE hands its oldest open
record over; CLASS_P_SEAL takes the next PKT_SEQ and starts a new period; WAS_IN_EDGE_ACCEPTED keeps the newest 64 edges of its
pin, available 2 µs after the stamp; WAKE_FRAME with the magic frame on a port with a link wakes the module. -/
def Obligations.CaptureAndPinRowsComplete : Prop :=
  ∀ s : State,
    (∀ cap r, capRun s cap = some r →
      (∀ sid u d x, mainUp s = true → mget (activeBank s).streams sid = some d → r.armed = true → r.def_.cls = 1 →
        r.strs.find? (fun x => x.sid == sid) = some x → ∃ t q, exec (.capRingMarker sid u) s = .next t ∧ capRun t cap = some q ∧
        ringAt q sid u = some { n := u, marked := true, vals := [] } ∧ gridLess d.rate u 2 1000 ≤ now t) ∧
      (∀ rc, mainUp s = true → r.recs.find? (fun x => !x.deferred) = some rc → ∃ t q, exec (.capRecordClose cap) s = .next t ∧
        capRun t cap = some q ∧ ∀ x ∈ q.recs, x.recSeq = rc.recSeq → x.deferred = true) ∧
      (inRun s = true → r.def_.cls = 2 → r.armed = true → r.def_.sign ≠ 0xFF → ∃ t q, exec (.classPSeal cap) s = .next t ∧
        capRun t cap = some q ∧ q.sealFrom = r.sealFrom + sealPeriod r.def_ ∧ q.pktSeq = (r.pktSeq + 1) % 2 ^ 32 ∧
        (r.sealFrom + sealPeriod r.def_) * 2 ^ 32 ≤ now t)) ∧
    (∀ (pin : Fin 16) level st, mainUp s = true →
      s.caps.all (fun e => 256 ≤ e.1 || !bit (if level then e.2.def_.wasRise else e.2.def_.wasFall) pin) = true →
      (mgetD s.pins.wasIn pin []).length < 64 → ∃ t, exec (.wasInEdgeAccepted pin level st) s = .next t ∧
      mgetD t.pins.wasIn pin [] = mgetD s.pins.wasIn pin [] ++ [{ at_ := st, level := level }] ∧ st + usU 2 ≤ now t) ∧
    (∀ p : Fin 6, s.pwr.ps = .dormant → p.val < 2 → portUp s p = true → budget s ≠ 0 → (port s p).cfg.mac < 2 ^ 48 →
      ∃ t, exec (.wakeFrame p (be 6 (port s p).cfg.mac ++ List.replicate 6 (0xFF : Byte) ++
        (List.replicate 16 (be 6 (port s p).cfg.mac)).flatten)) s = .next t ∧ t.pwr.ps = .boot ∧ t.pwr.bootKind = 2)

/-- PAIRING_FRAME_RECEIVED answers the CAS_PAIR that waits: a verified partner's key loads into locker 63, and one that does not
verify leaves the lockers. TWIN_CMD_RECEIVED at a STANDBY executes the command: a forwarded DET_ACK clears its latch and is
counted. -/
def Obligations.PartnerCommandRowsComplete : Prop :=
  ∀ (pk : Packet) (s : State),
    (∀ w e own peer nonce q, s.gh.pairWait = some (w, e, own) → ∃ t, exec (.pairingFrameReceived true true peer nonce q) s = .next t ∧
      t.gh.pairWait = none ∧ lockerLoaded t 63 = true ∧ (locker t 63).type = 9 ∧
      (locker t 63).kid = ofLe ((kdf (be 32 (Config.p256Shared e q % 2 ^ 256)) lblPair
        (if Config.deviceId < peer then be 16 Config.deviceId ++ be 16 peer ++ own ++ nonce
          else be 16 peer ++ be 16 Config.deviceId ++ nonce ++ own) 40).drop 32) ∧ t.gh.peerPair = peer ∧ t.cas.sakN = 0) ∧
    (∀ w e own peer nonce q a b, s.gh.pairWait = some (w, e, own) → (a && b) = false →
      ∃ t, exec (.pairingFrameReceived a b peer nonce q) s = .next t ∧ t.gh = { s.gh with pairWait := none } ∧ t.cas = s.cas) ∧
    (casActs s = true → lockerLoaded s 63 = true → s.cas.role = .standby → fwDown s = false → bit pk.flags 1 = false →
      class01 detAckCmd { pk with origin := .twin } s = none → class02 detAckCmd .twin s = none →
      ∃ t, exec (.twinCmdReceived 0x0403 pk (now s) true) s = .next t ∧
      counter t 230 = satAdd (2 ^ 64 - 1) (counter s 230) 1 ∧ ∀ i, mget t.dets i = (mget s.dets i).map fun r =>
        if i = fld (pkBytes pk) 0 2 ∨ fld (pkBytes pk) 0 2 = 0xFFFF then { r with latch := 0 } else r)
end

