-- ==== Sys2Proof/Laws/Answers.lean ====
section
/-! SUPPORT. What closing a command does, once for all commands. -/

namespace Sys2Proof.Machine

theorem Quiet.refl (s : State) : Quiet s s := rfl

theorem Quiet.trans {a b c : State} (h : Quiet a b) (g : Quiet b c) : Quiet a c := by
  unfold Quiet at *
  rw [h, g]

theorem Quiet.pins {t e : State} (h : Quiet t e) : t.pins = e.pins := by rw [h]
theorem Quiet.tb {t e : State} (h : Quiet t e) : t.tb = e.tb := by rw [h]
theorem Quiet.refBus {t e : State} (h : Quiet t e) : t.refBus = e.refBus := by rw [h]
theorem Quiet.phases {t e : State} (h : Quiet t e) : t.phases = e.phases := by rw [h]
theorem Quiet.phaseNext {t e : State} (h : Quiet t e) : t.phaseNext = e.phaseNext := by rw [h]
theorem Quiet.bank0 {t e : State} (h : Quiet t e) : t.bank0 = e.bank0 := by rw [h]
theorem Quiet.bank1 {t e : State} (h : Quiet t e) : t.bank1 = e.bank1 := by rw [h]
theorem Quiet.active {t e : State} (h : Quiet t e) : t.active = e.active := by rw [h]
theorem Quiet.streams {t e : State} (h : Quiet t e) : t.streams = e.streams := by rw [h]
theorem Quiet.filters {t e : State} (h : Quiet t e) : t.filters = e.filters := by rw [h]
theorem Quiet.mst {t e : State} (h : Quiet t e) : t.mst = e.mst := by rw [h]
theorem Quiet.disp {t e : State} (h : Quiet t e) : t.disp = e.disp := by rw [h]
theorem Quiet.dets {t e : State} (h : Quiet t e) : t.dets = e.dets := by rw [h]
theorem Quiet.schs {t e : State} (h : Quiet t e) : t.schs = e.schs := by rw [h]
theorem Quiet.pubs {t e : State} (h : Quiet t e) : t.pubs = e.pubs := by rw [h]
theorem Quiet.outRuns {t e : State} (h : Quiet t e) : t.outRuns = e.outRuns := by rw [h]
theorem Quiet.vchs {t e : State} (h : Quiet t e) : t.vchs = e.vchs := by rw [h]
theorem Quiet.flows {t e : State} (h : Quiet t e) : t.flows = e.flows := by rw [h]
theorem Quiet.caps {t e : State} (h : Quiet t e) : t.caps = e.caps := by rw [h]
theorem Quiet.oqs {t e : State} (h : Quiet t e) : t.oqs = e.oqs := by rw [h]
theorem Quiet.iqs {t e : State} (h : Quiet t e) : t.iqs = e.iqs := by rw [h]
theorem Quiet.dmaPtr {t e : State} (h : Quiet t e) : t.dmaPtr = e.dmaPtr := by rw [h]
theorem Quiet.ports {t e : State} (h : Quiet t e) : t.ports = e.ports := by rw [h]
theorem Quiet.wake {t e : State} (h : Quiet t e) : t.wake = e.wake := by rw [h]
theorem Quiet.gh {t e : State} (h : Quiet t e) : t.gh = e.gh := by rw [h]
theorem Quiet.cas {t e : State} (h : Quiet t e) : t.cas = e.cas := by rw [h]
theorem Quiet.rtc {t e : State} (h : Quiet t e) : t.rtc = e.rtc := by rw [h]
theorem Quiet.cntHost {t e : State} (h : Quiet t e) : t.cntHost = e.cntHost := by rw [h]
theorem Quiet.cntMgp {t e : State} (h : Quiet t e) : t.cntMgp = e.cntMgp := by rw [h]
theorem Quiet.nor {t e : State} (h : Quiet t e) : t.nor = e.nor := by rw [h]
theorem Quiet.tapIr {t e : State} (h : Quiet t e) : t.tapIr = e.tapIr := by rw [h]
theorem Quiet.pending {t e : State} (h : Quiet t e) : t.pending = e.pending := by rw [h]
theorem Quiet.free {t e : State} (h : Quiet t e) : t.free = e.free := by rw [h]

theorem Quiet.of {s e : State} {c r n g m a} (h : Quiet { s with cmd := c, rcd := r, cnt := n, glb := g, emitted := m, pwr := { s.pwr with aonAlert := a } } e) : Quiet { s with cmd := c, rcd := r, cnt := n, glb := g, emitted := m, pwr := { s.pwr with aonAlert := a } } e := h

theorem quiet_ite {c : Prop} [Decidable c] {a b s : State} (ha : c → Quiet a s) (hb : ¬c → Quiet b s) : Quiet (if c then a else b) s := by
  split <;> simp_all

theorem emit_quiet (e : Emission) (s : State) : Quiet (emit e s) s := rfl
theorem count_quiet (n : Nat) (s : State) : Quiet (count n s) s := rfl

theorem raiseVector_quiet (n : Nat) (s : State) : Quiet (raiseVector n s) s := by
  unfold raiseVector
  exact quiet_ite (fun _ => rfl) (fun _ => rfl)

theorem setIrq_quiet (b : Nat) (s : State) : Quiet (setIrq b s) s := by
  unfold setIrq
  exact quiet_ite (fun _ => (raiseVector_quiet _ _).trans rfl) (fun _ => rfl)

theorem setAlert_quiet (b : Nat) (s : State) : Quiet (setAlert b s) s := rfl

theorem recDiscard_quiet (q : Nat) (s : State) : Quiet (recDiscard q s) s := (raiseVector_quiet _ _).trans rfl

theorem recStage_quiet (r : Record) (s : State) : Quiet (recStage r s) s := by
  unfold recStage
  refine quiet_ite (fun _ => (recDiscard_quiet _ _).trans rfl) (fun _ => ?_)
  refine quiet_ite (fun _ => quiet_ite (fun _ => (raiseVector_quiet _ _).trans rfl) (fun _ => rfl))
    (fun _ => (recDiscard_quiet _ _).trans rfl)

theorem recAdd_quiet (a b c d e f g h i) (s : State) : Quiet (recAdd a b c d e f g h i s) s := recStage_quiet _ _

theorem holdReply_quiet (r : Reply) (q : Bool) (s : State) : Quiet (holdReply r q s) s := rfl

theorem putHostReply_quiet (r : Reply) (q : Bool) (s : State) : Quiet (putHostReply r q s) s := by
  have h : ∀ v : State, Quiet v s → Quiet (if rplqFull v then setIrq 7 v else v) s := fun v hv =>
    quiet_ite (fun _ => (setIrq_quiet _ _).trans hv) (fun _ => hv)
  unfold putHostReply
  exact quiet_ite (fun _ => h _ rfl) (fun _ => (raiseVector_quiet _ _).trans (h _ rfl))

theorem postReply_quiet (r : Reply) (q : Bool) (s : State) : Quiet (postReply r q s) s := by
  unfold postReply
  split
  · exact quiet_ite (fun _ => holdReply_quiet _ _ _) (fun _ => putHostReply_quiet _ _ _)
  · exact quiet_ite (fun _ => holdReply_quiet _ _ _) (fun _ => (setAlert_quiet _ _).trans rfl)
  · rfl

theorem storeReply_quiet (l : LastCmd) (s : State) : Quiet (storeReply l s) s := by
  unfold storeReply
  split <;> rfl

theorem closeCommand_quiet (w : Waiter) (sev crc p st dry res) (s : State) : Quiet (closeCommand w sev crc p st dry res s) s := by
  unfold closeCommand
  refine (postReply_quiet _ _ _).trans ((storeReply_quiet _ _).trans ?_)
  refine quiet_ite (fun _ => ?_) (fun _ => ?_)
  · split
    · exact count_quiet _ _
    · exact count_quiet _ _
    · rfl
  · split
    · exact recAdd_quiet ..
    · rfl

theorem forwardCmd_quiet (c : Cmd) (pk e) (s : State) : Quiet (forwardCmd c pk e s) s := by
  unfold forwardCmd
  exact quiet_ite (fun _ => rfl) (fun _ => rfl)

/-- The replies kept for a repetition stay as they are. -/
def lasts (s : State) : Option LastCmd × Option LastCmd := (s.cmd.lastHost, s.cmd.lastMgp)

theorem raiseVector_lasts (n : Nat) (s : State) : lasts (raiseVector n s) = lasts s := by unfold raiseVector; dsimp only; split <;> rfl

theorem setIrq_lasts (b : Nat) (s : State) : lasts (setIrq b s) = lasts s := by
  unfold setIrq; dsimp only; split
  · exact (raiseVector_lasts _ _).trans rfl
  · rfl

theorem putHostReply_lasts (r : Reply) (q : Bool) (s : State) : lasts (putHostReply r q s) = lasts s := by
  have h : ∀ v : State, lasts v = lasts s → lasts (if rplqFull v then setIrq 7 v else v) = lasts s := fun v hv => by
    split
    · exact (setIrq_lasts _ _).trans hv
    · exact hv
  unfold putHostReply
  dsimp only
  split
  · exact h _ rfl
  · exact (raiseVector_lasts _ _).trans (h _ rfl)

theorem postReply_lasts (r : Reply) (q : Bool) (s : State) : lasts (postReply r q s) = lasts s := by
  unfold postReply
  split
  · split
    · rfl
    · exact putHostReply_lasts _ _ _
  · split <;> rfl
  · rfl

theorem closeCommand_answer (pk : Packet) (op : Nat) (sev crc p st dry res) (s : State) (h : pk.origin ≠ .twin) :
    answer pk (closeCommand (waiterOf op pk) sev crc p st dry res s) = some (st, res) := by
  have key : ∀ v : State, ∀ l : LastCmd, l.reply.origin = pk.origin → ∀ r q, answer pk (postReply r q (storeReply l v)) = some (l.reply.status, l.reply.result) := by
    intro v l hl r q
    have e := postReply_lasts r q (storeReply l v)
    simp only [lasts, Prod.mk.injEq] at e
    unfold answer
    rw [e.1, e.2]
    unfold storeReply
    rw [hl]
    cases ho : pk.origin <;> simp_all
  exact key _ _ rfl _ _

/-- Where no command without a row has its turn, nothing more is served. -/
theorem serve_none {s : State} (h : unknownNext s = none) : serve s = s := by
  simp [serve, serveUnknown, h]

/-- An accepted command ends with the status and the result of its run, and otherwise in the state that its run gives. -/
theorem command_answers {c : Cmd} {pk : Packet} {s u s' : State} {st : Nat} {res : Bytes} (h : Accepts c pk s u)
    (hr : c.run u (waiterOf c.opcode pk) (pkBytes pk) (c.effect u (pkBytes pk)) = (s', st, res)) (hst : st ≠ 2) :
    ∃ t, command c pk s = .next (serve t) ∧ answer pk t = some (st, res) ∧ Quiet t s' := by
  obtain ⟨h1, h2, h3, h4, h5⟩ := h
  have ho : pk.origin ≠ .twin := by
    intro e
    simp [taken, e] at h1
  obtain ⟨v, hv, rfl⟩ := Option.map_eq_some_iff.mp h1
  unfold command
  rw [hv]
  dsimp only
  rw [h2]
  dsimp only
  unfold runCommand
  simp only [h3, h4, hr, h5, Bool.false_eq_true, if_false, if_neg hst]
  split
  · exact ⟨_, rfl, closeCommand_answer _ _ _ _ _ _ _ _ _ ho, (closeCommand_quiet _ _ _ _ _ _ _ _).trans (forwardCmd_quiet _ _ _ _)⟩
  · exact ⟨_, rfl, closeCommand_answer _ _ _ _ _ _ _ _ _ ho, closeCommand_quiet _ _ _ _ _ _ _ _⟩

/-- An accepted command whose run answers later (status 2) ends in the state of its run alone. -/
theorem command_waits {c : Cmd} {pk : Packet} {s u s' : State} {res : Bytes} (h : Accepts c pk s u)
    (hr : c.run u (waiterOf c.opcode pk) (pkBytes pk) (c.effect u (pkBytes pk)) = (s', 2, res)) : command c pk s = .next (serve s') := by
  obtain ⟨h1, h2, h3, h4, h5⟩ := h
  obtain ⟨v, hv, rfl⟩ := Option.map_eq_some_iff.mp h1
  unfold command
  rw [hv]
  dsimp only
  rw [h2]
  dsimp only
  unfold runCommand
  simp only [h3, h4, hr, h5, Bool.false_eq_true, if_false, if_true]
  rfl

/-- A taken command that is no repetition and fails a check of class 0x01xx is answered with that status, and changes nothing
but its load, if it is a chunk. -/
theorem command_refuses01 {c : Cmd} {pk : Packet} {s u : State} {st : Nat} (h1 : (taken c.opcode pk s).map endPairing = some u)
    (h2 : repeated c.opcode pk u = none) (h3 : class01 c pk u = some st) (hc : c.chunked = false) :
    ∃ t, command c pk s = .next (serve t) ∧ answer pk t = some (st, []) ∧ Quiet t u := by
  have ho : pk.origin ≠ .twin := by
    intro e
    simp [taken, e] at h1
  obtain ⟨v, hv, rfl⟩ := Option.map_eq_some_iff.mp h1
  unfold command
  rw [hv]
  dsimp only
  rw [h2]
  dsimp only
  unfold runCommand
  simp only [h3, hc, Bool.false_eq_true, false_and, if_false]
  exact ⟨_, rfl, closeCommand_answer _ _ _ _ _ _ _ _ _ ho, closeCommand_quiet _ _ _ _ _ _ _ _⟩

/-- A well-formed command that fails a check of class 0x02xx is answered with that status and changes nothing. -/
theorem command_refuses02 {c : Cmd} {pk : Packet} {s u : State} {st : Nat} (h1 : (taken c.opcode pk s).map endPairing = some u)
    (h2 : repeated c.opcode pk u = none) (h3 : class01 c pk u = none) (h4 : class02 c pk.origin u = some st) :
    ∃ t, command c pk s = .next (serve t) ∧ answer pk t = some (st, []) ∧ Quiet t u := by
  have ho : pk.origin ≠ .twin := by
    intro e
    simp [taken, e] at h1
  obtain ⟨v, hv, rfl⟩ := Option.map_eq_some_iff.mp h1
  unfold command
  rw [hv]
  dsimp only
  rw [h2]
  dsimp only
  unfold runCommand
  simp only [h3, h4]
  exact ⟨_, rfl, closeCommand_answer _ _ _ _ _ _ _ _ _ ho, closeCommand_quiet _ _ _ _ _ _ _ _⟩

end Sys2Proof.Machine
end

