-- ==== Sys2Proof/Laws/Frame.lean ====
section
/-! SUPPORT. How the proofs of frames go together: which parts of the state may differ, by the places of their constructors
in a bit mask. -/

namespace Sys2Proof.Machine

/-- Every part whose bit in m is clear is the same. -/
structure Same (m : Nat) (s t : State) : Prop where
  keeps : ∀ c : Part, m.testBit c.ctorIdx = false → c.same s t

/-- Every next state of the outcome differs in those parts only. -/
structure Within (m : Nat) (o : Host.Outcome State Fault Refusal) (s : State) : Prop where
  next : ∀ t, o = .next t → Same m s t

/-- The same, of one update of several parts. -/
structure Fits (m : Nat) (s t : State) : Prop where
  keeps : ∀ c : Part, m.testBit c.ctorIdx = false → c.same s t

theorem Part.same_refl (c : Part) (s : State) : c.same s s := by cases c <;> rfl

theorem Part.same_trans {c : Part} {s t u : State} (h : c.same s t) (g : c.same t u) : c.same s u := by
  cases c <;> exact Eq.trans h g

theorem Same.refl {m : Nat} (s : State) : Same m s s := ⟨fun c _ => c.same_refl s⟩

theorem Same.step {m M : Nat} {s x y : State} (h : Same m x y) (e : m ||| M = M) (g : Same M s x) : Same M s y := ⟨fun c hc =>
  Part.same_trans (g.keeps c hc) (h.keeps c (by
    have := congrArg (·.testBit c.ctorIdx) e
    simp only [Nat.testBit_or, hc, Bool.or_false] at this
    exact this))⟩

theorem Same.of {m M : Nat} {s t : State} (h : Same m s t) (e : m ||| M = M) : Same M s t := h.step e (Same.refl s)

theorem Same.trans {M : Nat} {s x y : State} (h : Same M x y) (g : Same M s x) : Same M s y := h.step (Nat.or_self M) g

theorem Same.ite {M : Nat} {c : Prop} [Decidable c] {a b s : State} (ha : c → Same M s a) (hb : ¬c → Same M s b) :
    Same M s (if c then a else b) := by split <;> simp_all

theorem Same.ite_snd {M : Nat} {α : Type} {c : Prop} [Decidable c] {a b : α × State} {s : State} (ha : c → Same M s a.2)
    (hb : ¬c → Same M s b.2) : Same M s (if c then a else b).2 := by split <;> simp_all

theorem Same.ite_fst {M : Nat} {α : Type} {c : Prop} [Decidable c] {a b : State × α} {s : State} (ha : c → Same M s a.1)
    (hb : ¬c → Same M s b.1) : Same M s (if c then a else b).1 := by split <;> simp_all

theorem Same.snd {M : Nat} {α : Type} {x : α × State} {r : α} {t s : State} (e : x = (r, t)) (h : Same M s x.2) : Same M s t := by
  subst e; exact h

theorem Same.fst {M : Nat} {α : Type} {x : State × α} {r : α} {t s : State} (e : x = (t, r)) (h : Same M s x.1) : Same M s t := by
  subst e; exact h

theorem Same.snd2 {M : Nat} {α β : Type} {x : α × β × State} {r : α} {q : β} {t s : State} (e : x = (r, q, t))
    (h : Same M s x.2.2) : Same M s t := by
  subst e; exact h

theorem Same.snd3 {M : Nat} {α β : Type} {x : (α × β) × State} {r : α} {q : β} {t s : State} (e : x = ((r, q), t))
    (h : Same M s x.2) : Same M s t := by
  subst e; exact h

theorem Same.foldl {M : Nat} {α : Type} {f : State → α → State} {s0 s : State} {l : List α} (h : ∀ s a, Same M s (f s a))
    (h0 : Same M s s0) : Same M s (l.foldl f s0) := by
  induction l generalizing s0 with
  | nil => exact h0
  | cons x xs ih => exact ih ((h s0 x).trans h0)

theorem Same.foldl2 {M : Nat} {α β : Type} {f : β × State → α → β × State} {s0 : β × State} {s : State} {l : List α}
    (h : ∀ s a, Same M s.2 (f s a).2) (h0 : Same M s s0.2) : Same M s (l.foldl f s0).2 := by
  induction l generalizing s0 with
  | nil => exact h0
  | cons x xs ih => exact ih ((h s0 x).trans h0)

theorem Same.foldl1 {M : Nat} {α β : Type} {f : State × β → α → State × β} {s0 : State × β} {s : State} {l : List α}
    (h : ∀ s a, Same M s.1 (f s a).1) (h0 : Same M s s0.1) : Same M s (l.foldl f s0).1 := by
  induction l generalizing s0 with
  | nil => exact h0
  | cons x xs ih => exact ih ((h s0 x).trans h0)

theorem Same.foldl3 {M : Nat} {α β γ : Type} {f : β × γ × State → α → β × γ × State} {s0 : β × γ × State} {s : State} {l : List α}
    (h : ∀ s a, Same M s.2.2 (f s a).2.2) (h0 : Same M s s0.2.2) : Same M s (l.foldl f s0).2.2 := by
  induction l generalizing s0 with
  | nil => exact h0
  | cons x xs ih => exact ih ((h s0 x).trans h0)

theorem within_done {M : Nat} {x s : State} (h : Same M s x) : Within M (done x) s := ⟨fun t ht => by cases ht; exact h⟩

theorem within_ite {M : Nat} {c : Prop} [Decidable c] {a b : Host.Outcome State Fault Refusal} {s : State} (ha : c → Within M a s)
    (hb : ¬c → Within M b s) : Within M (if c then a else b) s := by split <;> simp_all

theorem within_step {m M : Nat} {o : Host.Outcome State Fault Refusal} {s s0 : State} (h : Within m o s0) (e : m ||| M = M)
    (h0 : Same M s s0) : Within M o s := ⟨fun t ht => (h.next t ht).step e h0⟩

/-- The bit mask of a list of parts. -/
def partMask (l : List Part) : Nat := l.foldr (fun c m => m ||| 2 ^ c.ctorIdx) 0

theorem partMask_testBit {c : Part} : ∀ {l : List Part}, c ∉ l → (partMask l).testBit c.ctorIdx = false
  | [], _ => Nat.zero_testBit _
  | d :: l, h => by
    have hl := partMask_testBit (c := c) (l := l) (fun g => h (List.mem_cons_of_mem _ g))
    have hd : d.ctorIdx ≠ c.ctorIdx := fun e => h (by cases c <;> cases d <;> first | exact List.mem_cons_self | cases e)
    show (partMask l ||| 2 ^ d.ctorIdx).testBit c.ctorIdx = false
    rw [Nat.testBit_or, hl, Nat.testBit_two_pow_of_ne hd, Bool.or_false]

/-- The frame as a list of parts. -/
theorem Same.frame {m : Nat} {l : List Part} {s t : State} (h : Same m s t) (e : m = partMask l) : ∀ c : Part, c ∉ l → c.same s t :=
  fun c hc => h.keeps c (by rw [e]; exact partMask_testBit hc)

theorem Same.glb {M : Nat} {s s' : State} {v} (b : M.testBit 0 = true) (h : Same M s s') : Same M s { s' with glb := v } :=
  ⟨fun c hc => by
    by_cases e : c = .glb
    · subst e; exact absurd (hc.symm.trans b) (by decide)
    · exact Part.same_trans (h.keeps c hc) (by cases c <;> first | rfl | exact absurd rfl e)⟩

theorem Same.pins {M : Nat} {s s' : State} {v} (b : M.testBit 1 = true) (h : Same M s s') : Same M s { s' with pins := v } :=
  ⟨fun c hc => by
    by_cases e : c = .pins
    · subst e; exact absurd (hc.symm.trans b) (by decide)
    · exact Part.same_trans (h.keeps c hc) (by cases c <;> first | rfl | exact absurd rfl e)⟩

theorem Same.cmd {M : Nat} {s s' : State} {v} (b : M.testBit 2 = true) (h : Same M s s') : Same M s { s' with cmd := v } :=
  ⟨fun c hc => by
    by_cases e : c = .cmd
    · subst e; exact absurd (hc.symm.trans b) (by decide)
    · exact Part.same_trans (h.keeps c hc) (by cases c <;> first | rfl | exact absurd rfl e)⟩

theorem Same.tb {M : Nat} {s s' : State} {v} (b : M.testBit 3 = true) (h : Same M s s') : Same M s { s' with tb := v } :=
  ⟨fun c hc => by
    by_cases e : c = .tb
    · subst e; exact absurd (hc.symm.trans b) (by decide)
    · exact Part.same_trans (h.keeps c hc) (by cases c <;> first | rfl | exact absurd rfl e)⟩

theorem Same.refBus {M : Nat} {s s' : State} {v} (b : M.testBit 4 = true) (h : Same M s s') : Same M s { s' with refBus := v } :=
  ⟨fun c hc => by
    by_cases e : c = .refBus
    · subst e; exact absurd (hc.symm.trans b) (by decide)
    · exact Part.same_trans (h.keeps c hc) (by cases c <;> first | rfl | exact absurd rfl e)⟩

theorem Same.phases {M : Nat} {s s' : State} {v} (b : M.testBit 5 = true) (h : Same M s s') : Same M s { s' with phases := v } :=
  ⟨fun c hc => by
    by_cases e : c = .phases
    · subst e; exact absurd (hc.symm.trans b) (by decide)
    · exact Part.same_trans (h.keeps c hc) (by cases c <;> first | rfl | exact absurd rfl e)⟩

theorem Same.phaseNext {M : Nat} {s s' : State} {v} (b : M.testBit 6 = true) (h : Same M s s') : Same M s { s' with phaseNext := v } :=
  ⟨fun c hc => by
    by_cases e : c = .phaseNext
    · subst e; exact absurd (hc.symm.trans b) (by decide)
    · exact Part.same_trans (h.keeps c hc) (by cases c <;> first | rfl | exact absurd rfl e)⟩

theorem Same.bank0 {M : Nat} {s s' : State} {v} (b : M.testBit 7 = true) (h : Same M s s') : Same M s { s' with bank0 := v } :=
  ⟨fun c hc => by
    by_cases e : c = .bank0
    · subst e; exact absurd (hc.symm.trans b) (by decide)
    · exact Part.same_trans (h.keeps c hc) (by cases c <;> first | rfl | exact absurd rfl e)⟩

theorem Same.bank1 {M : Nat} {s s' : State} {v} (b : M.testBit 8 = true) (h : Same M s s') : Same M s { s' with bank1 := v } :=
  ⟨fun c hc => by
    by_cases e : c = .bank1
    · subst e; exact absurd (hc.symm.trans b) (by decide)
    · exact Part.same_trans (h.keeps c hc) (by cases c <;> first | rfl | exact absurd rfl e)⟩

theorem Same.active {M : Nat} {s s' : State} {v} (b : M.testBit 9 = true) (h : Same M s s') : Same M s { s' with active := v } :=
  ⟨fun c hc => by
    by_cases e : c = .active
    · subst e; exact absurd (hc.symm.trans b) (by decide)
    · exact Part.same_trans (h.keeps c hc) (by cases c <;> first | rfl | exact absurd rfl e)⟩

theorem Same.streams {M : Nat} {s s' : State} {v} (b : M.testBit 10 = true) (h : Same M s s') : Same M s { s' with streams := v } :=
  ⟨fun c hc => by
    by_cases e : c = .streams
    · subst e; exact absurd (hc.symm.trans b) (by decide)
    · exact Part.same_trans (h.keeps c hc) (by cases c <;> first | rfl | exact absurd rfl e)⟩

theorem Same.filters {M : Nat} {s s' : State} {v} (b : M.testBit 11 = true) (h : Same M s s') : Same M s { s' with filters := v } :=
  ⟨fun c hc => by
    by_cases e : c = .filters
    · subst e; exact absurd (hc.symm.trans b) (by decide)
    · exact Part.same_trans (h.keeps c hc) (by cases c <;> first | rfl | exact absurd rfl e)⟩

theorem Same.mst {M : Nat} {s s' : State} {v} (b : M.testBit 12 = true) (h : Same M s s') : Same M s { s' with mst := v } :=
  ⟨fun c hc => by
    by_cases e : c = .mst
    · subst e; exact absurd (hc.symm.trans b) (by decide)
    · exact Part.same_trans (h.keeps c hc) (by cases c <;> first | rfl | exact absurd rfl e)⟩

theorem Same.disp {M : Nat} {s s' : State} {v} (b : M.testBit 13 = true) (h : Same M s s') : Same M s { s' with disp := v } :=
  ⟨fun c hc => by
    by_cases e : c = .disp
    · subst e; exact absurd (hc.symm.trans b) (by decide)
    · exact Part.same_trans (h.keeps c hc) (by cases c <;> first | rfl | exact absurd rfl e)⟩

theorem Same.dets {M : Nat} {s s' : State} {v} (b : M.testBit 14 = true) (h : Same M s s') : Same M s { s' with dets := v } :=
  ⟨fun c hc => by
    by_cases e : c = .dets
    · subst e; exact absurd (hc.symm.trans b) (by decide)
    · exact Part.same_trans (h.keeps c hc) (by cases c <;> first | rfl | exact absurd rfl e)⟩

theorem Same.schs {M : Nat} {s s' : State} {v} (b : M.testBit 15 = true) (h : Same M s s') : Same M s { s' with schs := v } :=
  ⟨fun c hc => by
    by_cases e : c = .schs
    · subst e; exact absurd (hc.symm.trans b) (by decide)
    · exact Part.same_trans (h.keeps c hc) (by cases c <;> first | rfl | exact absurd rfl e)⟩

theorem Same.pubs {M : Nat} {s s' : State} {v} (b : M.testBit 16 = true) (h : Same M s s') : Same M s { s' with pubs := v } :=
  ⟨fun c hc => by
    by_cases e : c = .pubs
    · subst e; exact absurd (hc.symm.trans b) (by decide)
    · exact Part.same_trans (h.keeps c hc) (by cases c <;> first | rfl | exact absurd rfl e)⟩

theorem Same.outRuns {M : Nat} {s s' : State} {v} (b : M.testBit 17 = true) (h : Same M s s') : Same M s { s' with outRuns := v } :=
  ⟨fun c hc => by
    by_cases e : c = .outRuns
    · subst e; exact absurd (hc.symm.trans b) (by decide)
    · exact Part.same_trans (h.keeps c hc) (by cases c <;> first | rfl | exact absurd rfl e)⟩

theorem Same.vchs {M : Nat} {s s' : State} {v} (b : M.testBit 18 = true) (h : Same M s s') : Same M s { s' with vchs := v } :=
  ⟨fun c hc => by
    by_cases e : c = .vchs
    · subst e; exact absurd (hc.symm.trans b) (by decide)
    · exact Part.same_trans (h.keeps c hc) (by cases c <;> first | rfl | exact absurd rfl e)⟩

theorem Same.flows {M : Nat} {s s' : State} {v} (b : M.testBit 19 = true) (h : Same M s s') : Same M s { s' with flows := v } :=
  ⟨fun c hc => by
    by_cases e : c = .flows
    · subst e; exact absurd (hc.symm.trans b) (by decide)
    · exact Part.same_trans (h.keeps c hc) (by cases c <;> first | rfl | exact absurd rfl e)⟩

theorem Same.caps {M : Nat} {s s' : State} {v} (b : M.testBit 20 = true) (h : Same M s s') : Same M s { s' with caps := v } :=
  ⟨fun c hc => by
    by_cases e : c = .caps
    · subst e; exact absurd (hc.symm.trans b) (by decide)
    · exact Part.same_trans (h.keeps c hc) (by cases c <;> first | rfl | exact absurd rfl e)⟩

theorem Same.oqs {M : Nat} {s s' : State} {v} (b : M.testBit 21 = true) (h : Same M s s') : Same M s { s' with oqs := v } :=
  ⟨fun c hc => by
    by_cases e : c = .oqs
    · subst e; exact absurd (hc.symm.trans b) (by decide)
    · exact Part.same_trans (h.keeps c hc) (by cases c <;> first | rfl | exact absurd rfl e)⟩

theorem Same.iqs {M : Nat} {s s' : State} {v} (b : M.testBit 22 = true) (h : Same M s s') : Same M s { s' with iqs := v } :=
  ⟨fun c hc => by
    by_cases e : c = .iqs
    · subst e; exact absurd (hc.symm.trans b) (by decide)
    · exact Part.same_trans (h.keeps c hc) (by cases c <;> first | rfl | exact absurd rfl e)⟩

theorem Same.dmaPtr {M : Nat} {s s' : State} {v} (b : M.testBit 23 = true) (h : Same M s s') : Same M s { s' with dmaPtr := v } :=
  ⟨fun c hc => by
    by_cases e : c = .dmaPtr
    · subst e; exact absurd (hc.symm.trans b) (by decide)
    · exact Part.same_trans (h.keeps c hc) (by cases c <;> first | rfl | exact absurd rfl e)⟩

theorem Same.ports {M : Nat} {s s' : State} {v} (b : M.testBit 24 = true) (h : Same M s s') : Same M s { s' with ports := v } :=
  ⟨fun c hc => by
    by_cases e : c = .ports
    · subst e; exact absurd (hc.symm.trans b) (by decide)
    · exact Part.same_trans (h.keeps c hc) (by cases c <;> first | rfl | exact absurd rfl e)⟩

theorem Same.txWait {M : Nat} {s s' : State} {v} (b : M.testBit 25 = true) (h : Same M s s') : Same M s { s' with txWait := v } :=
  ⟨fun c hc => by
    by_cases e : c = .txWait
    · subst e; exact absurd (hc.symm.trans b) (by decide)
    · exact Part.same_trans (h.keeps c hc) (by cases c <;> first | rfl | exact absurd rfl e)⟩

theorem Same.wake {M : Nat} {s s' : State} {v} (b : M.testBit 26 = true) (h : Same M s s') : Same M s { s' with wake := v } :=
  ⟨fun c hc => by
    by_cases e : c = .wake
    · subst e; exact absurd (hc.symm.trans b) (by decide)
    · exact Part.same_trans (h.keeps c hc) (by cases c <;> first | rfl | exact absurd rfl e)⟩

theorem Same.cas {M : Nat} {s s' : State} {v} (b : M.testBit 29 = true) (h : Same M s s') : Same M s { s' with cas := v } :=
  ⟨fun c hc => by
    by_cases e : c = .cas
    · subst e; exact absurd (hc.symm.trans b) (by decide)
    · exact Part.same_trans (h.keeps c hc) (by cases c <;> first | rfl | exact absurd rfl e)⟩

theorem Same.rtc {M : Nat} {s s' : State} {v} (b : M.testBit 30 = true) (h : Same M s s') : Same M s { s' with rtc := v } :=
  ⟨fun c hc => by
    by_cases e : c = .rtc
    · subst e; exact absurd (hc.symm.trans b) (by decide)
    · exact Part.same_trans (h.keeps c hc) (by cases c <;> first | rfl | exact absurd rfl e)⟩

theorem Same.rcd {M : Nat} {s s' : State} {v} (b : M.testBit 31 = true) (h : Same M s s') : Same M s { s' with rcd := v } :=
  ⟨fun c hc => by
    by_cases e : c = .rcd
    · subst e; exact absurd (hc.symm.trans b) (by decide)
    · exact Part.same_trans (h.keeps c hc) (by cases c <;> first | rfl | exact absurd rfl e)⟩

theorem Same.cnt {M : Nat} {s s' : State} {v} (b : M.testBit 32 = true) (h : Same M s s') : Same M s { s' with cnt := v } :=
  ⟨fun c hc => by
    by_cases e : c = .cnt
    · subst e; exact absurd (hc.symm.trans b) (by decide)
    · exact Part.same_trans (h.keeps c hc) (by cases c <;> first | rfl | exact absurd rfl e)⟩

theorem Same.cntHost {M : Nat} {s s' : State} {v} (b : M.testBit 33 = true) (h : Same M s s') : Same M s { s' with cntHost := v } :=
  ⟨fun c hc => by
    by_cases e : c = .cntHost
    · subst e; exact absurd (hc.symm.trans b) (by decide)
    · exact Part.same_trans (h.keeps c hc) (by cases c <;> first | rfl | exact absurd rfl e)⟩

theorem Same.cntMgp {M : Nat} {s s' : State} {v} (b : M.testBit 34 = true) (h : Same M s s') : Same M s { s' with cntMgp := v } :=
  ⟨fun c hc => by
    by_cases e : c = .cntMgp
    · subst e; exact absurd (hc.symm.trans b) (by decide)
    · exact Part.same_trans (h.keeps c hc) (by cases c <;> first | rfl | exact absurd rfl e)⟩

theorem Same.nor {M : Nat} {s s' : State} {v} (b : M.testBit 37 = true) (h : Same M s s') : Same M s { s' with nor := v } :=
  ⟨fun c hc => by
    by_cases e : c = .nor
    · subst e; exact absurd (hc.symm.trans b) (by decide)
    · exact Part.same_trans (h.keeps c hc) (by cases c <;> first | rfl | exact absurd rfl e)⟩

theorem Same.tapIr {M : Nat} {s s' : State} {v} (b : M.testBit 38 = true) (h : Same M s s') : Same M s { s' with tapIr := v } :=
  ⟨fun c hc => by
    by_cases e : c = .tapIr
    · subst e; exact absurd (hc.symm.trans b) (by decide)
    · exact Part.same_trans (h.keeps c hc) (by cases c <;> first | rfl | exact absurd rfl e)⟩

theorem Same.emitted {M : Nat} {s s' : State} {v} (b : M.testBit 40 = true) (h : Same M s s') : Same M s { s' with emitted := v } :=
  ⟨fun c hc => by
    by_cases e : c = .emitted
    · subst e; exact absurd (hc.symm.trans b) (by decide)
    · exact Part.same_trans (h.keeps c hc) (by cases c <;> first | rfl | exact absurd rfl e)⟩

theorem Same.free {M : Nat} {s s' : State} {v} (b : M.testBit 41 = true) (h : Same M s s') : Same M s { s' with free := v } :=
  ⟨fun c hc => by
    by_cases e : c = .free
    · subst e; exact absurd (hc.symm.trans b) (by decide)
    · exact Part.same_trans (h.keeps c hc) (by cases c <;> first | rfl | exact absurd rfl e)⟩

theorem Same.update {M : Nat} {s s' : State} {glb' pins' cmd' tb' refBus' phases' phaseNext' bank0' bank1' active' streams' filters' mst' disp' dets' schs' pubs' outRuns' vchs' flows' caps' oqs' iqs' dmaPtr' ports' txWait' wake' gh' cas' rtc' rcd' cnt' cntHost' cntMgp' pwr' nor' tapIr' emitted' free' pending'} (p : pending' = s'.pending)
    (e : Fits M s' (State.mk glb' pins' cmd' tb' refBus' phases' phaseNext' bank0' bank1' active' streams' filters' mst' disp' dets' schs' pubs' outRuns' vchs' flows' caps' oqs' iqs' dmaPtr' ports' txWait' wake' gh' cas' rtc' rcd' cnt' cntHost' cntMgp' pwr' nor' tapIr' pending' emitted' free'))
    (h : Same M s s') : Same M s (State.mk glb' pins' cmd' tb' refBus' phases' phaseNext' bank0' bank1' active' streams' filters' mst' disp' dets' schs' pubs' outRuns' vchs' flows' caps' oqs' iqs' dmaPtr' ports' txWait' wake' gh' cas' rtc' rcd' cnt' cntHost' cntMgp' pwr' nor' tapIr' pending' emitted' free') := ⟨fun c hc => Part.same_trans (h.keeps c hc) (e.keeps c hc)⟩

end Sys2Proof.Machine
end

