-- ==== Sys2Proof/Laws/FrameOps.lean ====
section
/-! SUPPORT. The frame of each definition of Machine/Ops. -/

namespace Sys2Proof.Machine

theorem drawFree_same : ∀ a0, Same 2199023255552 a0 (drawFree a0).2 := by
  intro a0
  unfold drawFree
  repeat' (first | with_reducible exact Same.refl _ | intro _ | with_reducible refine Same.free rfl ?_ | with_reducible refine Same.update rfl ?_ ?_ | exact Fits.mk (fun c h => by cases c <;> first | exact absurd h (by decide) | with_reducible exact rfl))

theorem emit_same : ∀ a0 a1, Same 1099511627776 a1 (emit a0 a1) := by
  intro a0 a1
  unfold emit
  repeat' (first | with_reducible exact Same.refl _ | intro _ | with_reducible refine Same.emitted rfl ?_ | with_reducible refine Same.update rfl ?_ ?_ | exact Fits.mk (fun c h => by cases c <;> first | exact absurd h (by decide) | with_reducible exact rfl))

theorem countBy_same : ∀ a0 a1 a2, Same 4294967296 a2 (countBy a0 a1 a2) := by
  intro a0 a1 a2
  unfold countBy
  repeat' (first | with_reducible exact Same.refl _ | intro _ | with_reducible refine Same.cnt rfl ?_ | with_reducible refine Same.update rfl ?_ ?_ | exact Fits.mk (fun c h => by cases c <;> first | exact absurd h (by decide) | with_reducible exact rfl))

theorem count_same : ∀ a0 a1, Same 4294967296 a1 (count a0 a1) := by
  intro a0 a1
  unfold count
  repeat' (first | with_reducible exact Same.refl _ | with_reducible refine (countBy_same _ _ _).step rfl ?_ | intro _)

theorem setPort_same : ∀ a0 a1 a2, Same 16777216 a2 (setPort a0 a1 a2) := by
  intro a0 a1 a2
  unfold setPort
  repeat' (first | with_reducible exact Same.refl _ | intro _ | with_reducible refine Same.ports rfl ?_ | with_reducible refine Same.update rfl ?_ ?_ | exact Fits.mk (fun c h => by cases c <;> first | exact absurd h (by decide) | with_reducible exact rfl))

theorem countPort_same : ∀ a0 a1 a2, Same 4311744512 a2 (countPort a0 a1 a2) := by
  intro a0 a1 a2
  unfold countPort
  repeat' (first | with_reducible exact Same.refl _ | with_reducible refine (count_same _ _).step rfl ?_ | with_reducible refine (setPort_same _ _ _).step rfl ?_ | intro _)

theorem elapse_same : ∀ a0 a1, Same 3221225480 a1 (elapse a0 a1) := by
  intro a0 a1
  unfold elapse
  repeat' (first | with_reducible exact Same.refl _ | intro _ | with_reducible refine Same.tb rfl ?_ | with_reducible refine Same.rtc rfl ?_ | with_reducible refine Same.rcd rfl ?_ | with_reducible refine Same.update rfl ?_ ?_ | exact Fits.mk (fun c h => by cases c <;> first | exact absurd h (by decide) | with_reducible exact rfl))

theorem advanceTo_same : ∀ a0 a1, Same 3221225480 a1 (advanceTo a0 a1) := by
  intro a0 a1
  unfold advanceTo
  repeat' (first | with_reducible exact Same.refl _ | with_reducible refine (elapse_same _ _).step rfl ?_ | intro _)

theorem raiseVector_same : ∀ a0 a1, Same 1099511627777 a1 (raiseVector a0 a1) := by
  intro a0 a1
  unfold raiseVector
  repeat' (first | with_reducible exact Same.refl _ | with_reducible refine Same.ite ?_ ?_ | with_reducible refine (emit_same _ _).step rfl ?_ | intro _ | with_reducible refine Same.glb rfl ?_ | with_reducible refine Same.update rfl ?_ ?_ | exact Fits.mk (fun c h => by cases c <;> first | exact absurd h (by decide) | with_reducible exact rfl))

theorem setIrq_same : ∀ a0 a1, Same 1099511627777 a1 (setIrq a0 a1) := by
  intro a0 a1
  unfold setIrq
  repeat' (first | with_reducible exact Same.refl _ | with_reducible refine Same.ite ?_ ?_ | with_reducible refine (raiseVector_same _ _).step rfl ?_ | intro _ | with_reducible refine Same.glb rfl ?_ | with_reducible refine Same.update rfl ?_ ?_ | exact Fits.mk (fun c h => by cases c <;> first | exact absurd h (by decide) | with_reducible exact rfl))

theorem setAlert_same : ∀ a0 a1, Same 68719476736 a1 (setAlert a0 a1) := by
  intro a0 a1
  unfold setAlert
  repeat' (first | with_reducible exact Same.refl _ | intro _ | with_reducible refine Same.update rfl ?_ ?_ | exact Fits.mk (fun c h => by cases c <;> first | exact absurd h (by decide) | with_reducible exact rfl))

theorem setCasIrq_same : ∀ a0 a1, Same 1100048498689 a1 (setCasIrq a0 a1) := by
  intro a0 a1
  unfold setCasIrq
  repeat' (first | with_reducible exact Same.refl _ | with_reducible refine (raiseVector_same _ _).step rfl ?_ | intro _ | with_reducible refine Same.cas rfl ?_ | with_reducible refine Same.update rfl ?_ ?_ | exact Fits.mk (fun c h => by cases c <;> first | exact absurd h (by decide) | with_reducible exact rfl))

theorem setActive_same : ∀ a0 a1, Same 384 a1 (setActive a0 a1) := by
  intro a0 a1
  unfold setActive
  repeat' (first | with_reducible exact Same.refl _ | with_reducible refine Same.ite ?_ ?_ | intro _ | with_reducible refine Same.bank0 rfl ?_ | with_reducible refine Same.bank1 rfl ?_ | with_reducible refine Same.update rfl ?_ ?_ | exact Fits.mk (fun c h => by cases c <;> first | exact absurd h (by decide) | with_reducible exact rfl))

theorem setInactive_same : ∀ a0 a1, Same 384 a1 (setInactive a0 a1) := by
  intro a0 a1
  unfold setInactive
  repeat' (first | with_reducible exact Same.refl _ | with_reducible refine Same.ite ?_ ?_ | intro _ | with_reducible refine Same.bank0 rfl ?_ | with_reducible refine Same.bank1 rfl ?_ | with_reducible refine Same.update rfl ?_ ?_ | exact Fits.mk (fun c h => by cases c <;> first | exact absurd h (by decide) | with_reducible exact rfl))

theorem recDiscard_same : ∀ a0 a1, Same 1101659111425 a1 (recDiscard a0 a1) := by
  intro a0 a1
  unfold recDiscard
  repeat' (first | with_reducible exact Same.refl _ | with_reducible refine (raiseVector_same _ _).step rfl ?_ | intro _ | with_reducible refine Same.rcd rfl ?_ | with_reducible refine Same.update rfl ?_ ?_ | exact Fits.mk (fun c h => by cases c <;> first | exact absurd h (by decide) | with_reducible exact rfl))

theorem recStage_same : ∀ a0 a1, Same 1101659111425 a1 (recStage a0 a1) := by
  intro a0 a1
  unfold recStage
  repeat' (first | with_reducible exact Same.refl _ | with_reducible refine Same.ite ?_ ?_ | with_reducible refine (raiseVector_same _ _).step rfl ?_ | with_reducible refine (recDiscard_same _ _).step rfl ?_ | intro _ | with_reducible refine Same.rcd rfl ?_ | with_reducible refine Same.update rfl ?_ ?_ | exact Fits.mk (fun c h => by cases c <;> first | exact absurd h (by decide) | with_reducible exact rfl))

theorem recAdd_same : ∀ a0 a1 a2 a3 a4 a5 a6 a7 a8 a9, Same 1101659111425 a9 (recAdd a0 a1 a2 a3 a4 a5 a6 a7 a8 a9) := by
  intro a0 a1 a2 a3 a4 a5 a6 a7 a8 a9
  unfold recAdd
  repeat' (first | with_reducible exact Same.refl _ | with_reducible refine (recStage_same _ _).step rfl ?_ | intro _ | split | (dsimp only; split))

theorem noteI_same : ∀ a0 a1 a2 a3 a4 a5 a6 a7, Same 1101659111425 a7 (noteI a0 a1 a2 a3 a4 a5 a6 a7) := by
  intro a0 a1 a2 a3 a4 a5 a6 a7
  unfold noteI
  repeat' (first | with_reducible exact Same.refl _ | with_reducible refine (recAdd_same _ _ _ _ _ _ _ _ _ _).step rfl ?_ | intro _)

theorem note_same : ∀ a0 a1 a2 a3 a4 a5 a6, Same 1101659111425 a6 (note a0 a1 a2 a3 a4 a5 a6) := by
  intro a0 a1 a2 a3 a4 a5 a6
  unfold note
  repeat' (first | with_reducible exact Same.refl _ | with_reducible refine (noteI_same _ _ _ _ _ _ _ _).step rfl ?_ | intro _)

theorem recSummary_same : ∀ a0, Same 1101659111425 a0 (recSummary a0) := by
  intro a0
  unfold recSummary
  repeat' (first | with_reducible exact Same.refl _ | with_reducible refine Same.ite ?_ ?_ | with_reducible refine (recAdd_same _ _ _ _ _ _ _ _ _ _).step rfl ?_ | intro _ | split | (dsimp only; split) | with_reducible refine Same.rcd rfl ?_ | with_reducible refine Same.update rfl ?_ ?_ | exact Fits.mk (fun c h => by cases c <;> first | exact absurd h (by decide) | with_reducible exact rfl))

theorem putHostReply_same : ∀ a0 a1 a2, Same 1099511627781 a2 (putHostReply a0 a1 a2) := by
  intro a0 a1 a2
  unfold putHostReply
  repeat' (first | with_reducible exact Same.refl _ | with_reducible refine Same.ite ?_ ?_ | with_reducible refine (emit_same _ _).step rfl ?_ | with_reducible refine (raiseVector_same _ _).step rfl ?_ | with_reducible refine (setIrq_same _ _).step rfl ?_ | intro _ | with_reducible refine Same.cmd rfl ?_ | with_reducible refine Same.update rfl ?_ ?_ | exact Fits.mk (fun c h => by cases c <;> first | exact absurd h (by decide) | with_reducible exact rfl))

theorem holdReply_same : ∀ a0 a1 a2, Same 4 a2 (holdReply a0 a1 a2) := by
  intro a0 a1 a2
  unfold holdReply
  repeat' (first | with_reducible exact Same.refl _ | intro _ | with_reducible refine Same.cmd rfl ?_ | with_reducible refine Same.update rfl ?_ ?_ | exact Fits.mk (fun c h => by cases c <;> first | exact absurd h (by decide) | with_reducible exact rfl))

theorem postReply_same : ∀ a0 a1 a2, Same 1168231104517 a2 (postReply a0 a1 a2) := by
  intro a0 a1 a2
  unfold postReply
  repeat' (first | with_reducible exact Same.refl _ | with_reducible refine Same.ite ?_ ?_ | with_reducible refine (emit_same _ _).step rfl ?_ | with_reducible refine (holdReply_same _ _ _).step rfl ?_ | with_reducible refine (putHostReply_same _ _ _).step rfl ?_ | with_reducible refine (setAlert_same _ _).step rfl ?_ | intro _ | split | (dsimp only; split) | with_reducible refine Same.cmd rfl ?_ | with_reducible refine Same.update rfl ?_ ?_ | exact Fits.mk (fun c h => by cases c <;> first | exact absurd h (by decide) | with_reducible exact rfl))

theorem finalReply_same : ∀ a0 a1 a2, Same 1168231104517 a2 (finalReply a0 a1 a2) := by
  intro a0 a1 a2
  unfold finalReply
  repeat' (first | with_reducible exact Same.refl _ | with_reducible refine (postReply_same _ _ _).step rfl ?_ | intro _)

theorem storeReply_same : ∀ a0 a1, Same 4 a1 (storeReply a0 a1) := by
  intro a0 a1
  unfold storeReply
  repeat' (first | with_reducible exact Same.refl _ | intro _ | split | (dsimp only; split) | with_reducible refine Same.cmd rfl ?_ | with_reducible refine Same.update rfl ?_ ?_ | exact Fits.mk (fun c h => by cases c <;> first | exact absurd h (by decide) | with_reducible exact rfl))

theorem closeCommand_same : ∀ a0 a1 a2 a3 a4 a5 a6 a7, Same 1174673555461 a7 (closeCommand a0 a1 a2 a3 a4 a5 a6 a7) := by
  intro a0 a1 a2 a3 a4 a5 a6 a7
  unfold closeCommand
  repeat' (first | with_reducible exact Same.refl _ | with_reducible refine Same.ite ?_ ?_ | with_reducible refine (count_same _ _).step rfl ?_ | with_reducible refine (postReply_same _ _ _).step rfl ?_ | with_reducible refine (recAdd_same _ _ _ _ _ _ _ _ _ _).step rfl ?_ | with_reducible refine (storeReply_same _ _).step rfl ?_ | intro _ | split | (dsimp only; split))

theorem drainReplies_same : ∀ a0, Same 1168231104517 a0 (drainReplies a0) := by
  intro a0
  unfold drainReplies
  repeat' (first | with_reducible exact Same.refl _ | with_reducible refine (postReply_same _ _ _).step rfl ?_ | with_reducible refine Same.foldl ?_ ?_ | intro _ | with_reducible refine Same.cmd rfl ?_ | with_reducible refine Same.update rfl ?_ ?_ | exact Fits.mk (fun c h => by cases c <;> first | exact absurd h (by decide) | with_reducible exact rfl))

end Sys2Proof.Machine
end

