-- ==== Sys2Proof/Laws/FrameFlags.lean ====
section
/-! SUPPORT. The frame of each definition of Machine/Flags. -/

namespace Sys2Proof.Machine

theorem useRefused_same : ∀ a0, Same 4294967296 a0 (useRefused a0) := by
  intro a0
  unfold useRefused
  repeat' (first | with_reducible exact Same.refl _ | with_reducible refine (count_same _ _).step rfl ?_ | intro _)

end Sys2Proof.Machine
end

