-- ==== Sys2Proof/Laws/FrameTrace.lean ====
section
/-! SUPPORT. The frame of each definition of Machine/Trace. -/

namespace Sys2Proof.Machine

theorem tracePut_same : ∀ a0 a1 a2, Same 1099511627777 a2 (tracePut a0 a1 a2) := by
  intro a0 a1 a2
  unfold tracePut
  repeat' (first | with_reducible exact Same.refl _ | with_reducible refine Same.ite ?_ ?_ | with_reducible refine (emit_same _ _).step rfl ?_ | intro _ | with_reducible refine Same.glb rfl ?_ | with_reducible refine Same.update rfl ?_ ?_ | exact Fits.mk (fun c h => by cases c <;> first | exact absurd h (by decide) | with_reducible exact rfl))

theorem traceMsg_same : ∀ a0 a1 a2, Same 1099511627777 a2 (traceMsg a0 a1 a2) := by
  intro a0 a1 a2
  unfold traceMsg
  repeat' (first | with_reducible exact Same.refl _ | with_reducible refine Same.ite ?_ ?_ | with_reducible refine (tracePut_same _ _ _).step rfl ?_ | intro _)

theorem traceSecond_same : ∀ a0, Same 1099511627777 a0 (traceSecond a0) := by
  intro a0
  unfold traceSecond
  repeat' (first | with_reducible exact Same.refl _ | with_reducible refine (tracePut_same _ _ _).step rfl ?_ | intro _)

theorem traceDispatch_same : ∀ a0 a1 a2 a3 a4, Same 1099511627777 a4 (traceDispatch a0 a1 a2 a3 a4) := by
  intro a0 a1 a2 a3 a4
  unfold traceDispatch
  repeat' (first | with_reducible exact Same.refl _ | with_reducible refine Same.ite ?_ ?_ | with_reducible refine (traceMsg_same _ _ _).step rfl ?_ | intro _)

theorem traceMatch_same : ∀ a0 a1 a2 a3 a4, Same 1099511627777 a4 (traceMatch a0 a1 a2 a3 a4) := by
  intro a0 a1 a2 a3 a4
  unfold traceMatch
  repeat' (first | with_reducible exact Same.refl _ | with_reducible refine Same.ite ?_ ?_ | with_reducible refine (traceMsg_same _ _ _).step rfl ?_ | intro _)

theorem traceDeadline_same : ∀ a0 a1 a2, Same 1099511627777 a2 (traceDeadline a0 a1 a2) := by
  intro a0 a1 a2
  unfold traceDeadline
  repeat' (first | with_reducible exact Same.refl _ | with_reducible refine Same.ite ?_ ?_ | with_reducible refine (traceMsg_same _ _ _).step rfl ?_ | intro _)

theorem traceCommit_same : ∀ a0 a1 a2, Same 1099511627777 a2 (traceCommit a0 a1 a2) := by
  intro a0 a1 a2
  unfold traceCommit
  repeat' (first | with_reducible exact Same.refl _ | with_reducible refine (traceMsg_same _ _ _).step rfl ?_ | intro _)

theorem traceOverrun_same : ∀ a0 a1 a2 a3 a4, Same 1099511627777 a4 (traceOverrun a0 a1 a2 a3 a4) := by
  intro a0 a1 a2 a3 a4
  unfold traceOverrun
  repeat' (first | with_reducible exact Same.refl _ | with_reducible refine Same.ite ?_ ?_ | with_reducible refine (traceMsg_same _ _ _).step rfl ?_ | intro _)

end Sys2Proof.Machine
end

