-- ==== Sys2Proof/Laws/FrameTransmit.lean ====
section
/-! SUPPORT. The frame of each definition of Machine/Transmit. -/

namespace Sys2Proof.Machine

theorem netIrq_same : ∀ a0 a1 a2, Same 1099528404993 a2 (netIrq a0 a1 a2) := by
  intro a0 a1 a2
  unfold netIrq
  repeat' (first | with_reducible exact Same.refl _ | with_reducible refine (raiseVector_same _ _).step rfl ?_ | with_reducible refine (setPort_same _ _ _).step rfl ?_ | intro _)

theorem egressStamp_same : ∀ a0 a1 a2 a3, Same 1103823372289 a3 (egressStamp a0 a1 a2 a3) := by
  intro a0 a1 a2 a3
  unfold egressStamp
  repeat' (first | with_reducible exact Same.refl _ | with_reducible refine Same.ite ?_ ?_ | with_reducible refine (countPort_same _ _ _).step rfl ?_ | with_reducible refine (netIrq_same _ _ _).step rfl ?_ | with_reducible refine (setPort_same _ _ _).step rfl ?_ | intro _)

theorem txLeaves_same : ∀ a0 a1 a2, Same 1103823372297 a2 (txLeaves a0 a1 a2) := by
  intro a0 a1 a2
  unfold txLeaves
  repeat' (first | with_reducible exact Same.refl _ | with_reducible refine (countPort_same _ _ _).step rfl ?_ | with_reducible refine (egressStamp_same _ _ _ _).step rfl ?_ | with_reducible refine (emit_same _ _).step rfl ?_ | intro _ | split | (dsimp only; split) | with_reducible refine Same.tb rfl ?_ | with_reducible refine Same.update rfl ?_ ?_ | exact Fits.mk (fun c h => by cases c <;> first | exact absurd h (by decide) | with_reducible exact rfl))

theorem txDrain_same : ∀ a0 a1, Same 1103856926729 a1 (txDrain a0 a1) := by
  intro a0 a1
  unfold txDrain
  repeat' (first | with_reducible exact Same.refl _ | with_reducible refine Same.ite ?_ ?_ | with_reducible refine (txLeaves_same _ _ _).step rfl ?_ | with_reducible refine Same.foldl ?_ ?_ | intro _ | with_reducible refine Same.txWait rfl ?_ | with_reducible refine Same.update rfl ?_ ?_ | exact Fits.mk (fun c h => by cases c <;> first | exact absurd h (by decide) | with_reducible exact rfl))

theorem txFrame_same : ∀ a0 a1 a2 a3, Same 1103856926729 a3 (txFrame a0 a1 a2 a3) := by
  intro a0 a1 a2 a3
  unfold txFrame
  repeat' (first | with_reducible exact Same.refl _ | with_reducible refine Same.ite ?_ ?_ | with_reducible refine (countPort_same _ _ _).step rfl ?_ | with_reducible refine (txDrain_same _ _).step rfl ?_ | with_reducible refine (txLeaves_same _ _ _).step rfl ?_ | intro _ | with_reducible refine Same.txWait rfl ?_ | with_reducible refine Same.update rfl ?_ ?_ | exact Fits.mk (fun c h => by cases c <;> first | exact absurd h (by decide) | with_reducible exact rfl))

theorem txOwn_same : ∀ a0 a1 a2 a3 a4, Same 1103856926729 a4 (txOwn a0 a1 a2 a3 a4) := by
  intro a0 a1 a2 a3 a4
  unfold txOwn
  repeat' (first | with_reducible exact Same.refl _ | with_reducible refine (txFrame_same _ _ _ _).step rfl ?_ | intro _)

end Sys2Proof.Machine
end

