-- ==== Sys2Proof/Laws/FrameTimeBase.lean ====
section
/-! SUPPORT. The frame of each definition of Machine/TimeBase. -/

namespace Sys2Proof.Machine

theorem noteTime_same : ∀ a0 a1 a2, Same 1101659111425 a2 (noteTime a0 a1 a2) := by
  intro a0 a1 a2
  unfold noteTime
  repeat' (first | with_reducible exact Same.refl _ | with_reducible refine (note_same _ _ _ _ _ _ _).step rfl ?_ | intro _)

theorem slewBy_same : ∀ a0 a1, Same 2199023255560 a1 (slewBy a0 a1) := by
  intro a0 a1
  unfold slewBy
  repeat' (first | with_reducible exact Same.refl _ | with_reducible refine (drawFree_same _).step rfl ?_ | intro _ | split | (dsimp only; split) | refine Same.snd (by assumption) ?_ | with_reducible refine Same.tb rfl ?_ | with_reducible refine Same.update rfl ?_ ?_ | exact Fits.mk (fun c h => by cases c <;> first | exact absurd h (by decide) | with_reducible exact rfl))

theorem tbStep_same : ∀ a0 a1, Same 1105954078729 a1 (tbStep a0 a1) := by
  intro a0 a1
  unfold tbStep
  repeat' (first | with_reducible exact Same.refl _ | with_reducible refine (count_same _ _).step rfl ?_ | with_reducible refine (noteTime_same _ _ _).step rfl ?_ | intro _ | with_reducible refine Same.tb rfl ?_ | with_reducible refine Same.update rfl ?_ ?_ | exact Fits.mk (fun c h => by cases c <;> first | exact absurd h (by decide) | with_reducible exact rfl))

theorem enterHoldover_same : ∀ a0, Same 1101659111433 a0 (enterHoldover a0) := by
  intro a0
  unfold enterHoldover
  repeat' (first | with_reducible exact Same.refl _ | with_reducible refine (noteTime_same _ _ _).step rfl ?_ | with_reducible refine (raiseVector_same _ _).step rfl ?_ | with_reducible refine (setIrq_same _ _).step rfl ?_ | intro _ | with_reducible refine Same.tb rfl ?_ | with_reducible refine Same.update rfl ?_ ?_ | exact Fits.mk (fun c h => by cases c <;> first | exact absurd h (by decide) | with_reducible exact rfl))

theorem stepWaits_same : ∀ a0 a1, Same 1101659111433 a1 (stepWaits a0 a1) := by
  intro a0 a1
  unfold stepWaits
  repeat' (first | with_reducible exact Same.refl _ | with_reducible refine Same.ite ?_ ?_ | with_reducible refine (enterHoldover_same _).step rfl ?_ | with_reducible refine (noteTime_same _ _ _).step rfl ?_ | with_reducible refine (raiseVector_same _ _).step rfl ?_ | intro _ | with_reducible refine Same.tb rfl ?_ | with_reducible refine Same.update rfl ?_ ?_ | exact Fits.mk (fun c h => by cases c <;> first | exact absurd h (by decide) | with_reducible exact rfl))

theorem correct_same : ∀ a0 a1, Same 3304977334281 a1 (correct a0 a1) := by
  intro a0 a1
  unfold correct
  repeat' (first | with_reducible exact Same.refl _ | with_reducible refine Same.ite ?_ ?_ | with_reducible refine (slewBy_same _ _).step rfl ?_ | with_reducible refine (stepWaits_same _ _).step rfl ?_ | with_reducible refine (tbStep_same _ _).step rfl ?_ | intro _ | with_reducible refine Same.tb rfl ?_ | with_reducible refine Same.update rfl ?_ ?_ | exact Fits.mk (fun c h => by cases c <;> first | exact absurd h (by decide) | with_reducible exact rfl))

theorem measured_same : ∀ a0 a1, Same 3304977334281 a1 (measured a0 a1) := by
  intro a0 a1
  unfold measured
  repeat' (first | with_reducible exact Same.refl _ | with_reducible refine (correct_same _ _).step rfl ?_ | intro _ | with_reducible refine Same.tb rfl ?_ | with_reducible refine Same.update rfl ?_ ?_ | exact Fits.mk (fun c h => by cases c <;> first | exact absurd h (by decide) | with_reducible exact rfl))

theorem enterLocked_same : ∀ a0, Same 1101659111433 a0 (enterLocked a0) := by
  intro a0
  unfold enterLocked
  repeat' (first | with_reducible exact Same.refl _ | with_reducible refine (noteTime_same _ _ _).step rfl ?_ | with_reducible refine (raiseVector_same _ _).step rfl ?_ | intro _ | with_reducible refine Same.tb rfl ?_ | with_reducible refine Same.update rfl ?_ ?_ | exact Fits.mk (fun c h => by cases c <;> first | exact absurd h (by decide) | with_reducible exact rfl))

theorem utcInForce_same : ∀ a0 a1 a2 a3 a4, Same 8 a4 (utcInForce a0 a1 a2 a3 a4) := by
  intro a0 a1 a2 a3 a4
  unfold utcInForce
  repeat' (first | with_reducible exact Same.refl _ | intro _ | with_reducible refine Same.tb rfl ?_ | with_reducible refine Same.update rfl ?_ ?_ | exact Fits.mk (fun c h => by cases c <;> first | exact absurd h (by decide) | with_reducible exact rfl))

theorem execLeapSetEffect_same : ∀ a0, Within 3221225480 (execLeapSetEffect a0) a0 := by
  intro a0
  unfold execLeapSetEffect
  repeat' (first | with_reducible exact Same.refl _ | with_reducible refine within_ite ?_ ?_ | with_reducible refine within_done ?_ | with_reducible refine (advanceTo_same _ _).step rfl ?_ | with_reducible refine (utcInForce_same _ _ _ _ _).step rfl ?_ | intro _ | with_reducible refine Same.tb rfl ?_ | with_reducible refine Same.update rfl ?_ ?_ | exact Fits.mk (fun c h => by cases c <;> first | exact absurd h (by decide) | with_reducible exact rfl))

theorem rtcLeapAdd_same : ∀ a0 a1 a2, Same 1240171806721 a2 (rtcLeapAdd a0 a1 a2) := by
  intro a0 a1 a2
  unfold rtcLeapAdd
  repeat' (first | with_reducible exact Same.refl _ | with_reducible refine Same.ite ?_ ?_ | with_reducible refine (note_same _ _ _ _ _ _ _).step rfl ?_ | intro _ | with_reducible refine Same.rtc rfl ?_ | with_reducible refine Same.nor rfl ?_ | with_reducible refine Same.update rfl ?_ ?_ | exact Fits.mk (fun c h => by cases c <;> first | exact absurd h (by decide) | with_reducible exact rfl))

theorem execLeapApplied_same : ∀ a0, Within 1240171806729 (execLeapApplied a0) a0 := by
  intro a0
  unfold execLeapApplied
  repeat' (first | with_reducible exact Same.refl _ | with_reducible refine within_done ?_ | with_reducible refine (advanceTo_same _ _).step rfl ?_ | with_reducible refine (raiseVector_same _ _).step rfl ?_ | with_reducible refine (rtcLeapAdd_same _ _ _).step rfl ?_ | intro _ | split | (dsimp only; split) | with_reducible refine Same.tb rfl ?_ | with_reducible refine Same.update rfl ?_ ?_ | exact Fits.mk (fun c h => by cases c <;> first | exact absurd h (by decide) | with_reducible exact rfl))

theorem selectMaster_same : ∀ a0, Same 8 a0 (selectMaster a0) := by
  intro a0
  unfold selectMaster
  repeat' (first | with_reducible exact Same.refl _ | intro _ | split | (dsimp only; split) | with_reducible refine Same.tb rfl ?_ | with_reducible refine Same.update rfl ?_ ?_ | exact Fits.mk (fun c h => by cases c <;> first | exact absurd h (by decide) | with_reducible exact rfl))

theorem announceUtc_same : ∀ a0 a1, Same 8 a1 (announceUtc a0 a1) := by
  intro a0 a1
  unfold announceUtc
  repeat' (first | with_reducible exact Same.refl _ | with_reducible refine Same.ite ?_ ?_ | with_reducible refine (utcInForce_same _ _ _ _ _).step rfl ?_ | intro _ | with_reducible refine Same.tb rfl ?_ | with_reducible refine Same.update rfl ?_ ?_ | exact Fits.mk (fun c h => by cases c <;> first | exact absurd h (by decide) | with_reducible exact rfl))

theorem execPtpAnnounceReceived_same : ∀ a0 a1 a2 a3, Within 7532969992 (execPtpAnnounceReceived a0 a1 a2 a3) a3 := by
  intro a0 a1 a2 a3
  unfold execPtpAnnounceReceived
  repeat' (first | with_reducible exact Same.refl _ | with_reducible refine Same.ite ?_ ?_ | with_reducible refine within_ite ?_ ?_ | with_reducible refine within_done ?_ | with_reducible refine (advanceTo_same _ _).step rfl ?_ | with_reducible refine (announceUtc_same _ _).step rfl ?_ | with_reducible refine (countPort_same _ _ _).step rfl ?_ | with_reducible refine (selectMaster_same _).step rfl ?_ | intro _ | split | (dsimp only; split) | with_reducible refine Same.tb rfl ?_ | with_reducible refine Same.update rfl ?_ ?_ | exact Fits.mk (fun c h => by cases c <;> first | exact absurd h (by decide) | with_reducible exact rfl))

theorem execAnnounceReceiptTimeout_same : ∀ a0 a1, Within 3221225480 (execAnnounceReceiptTimeout a0 a1) a1 := by
  intro a0 a1
  unfold execAnnounceReceiptTimeout
  repeat' (first | with_reducible exact Same.refl _ | with_reducible refine within_done ?_ | with_reducible refine (advanceTo_same _ _).step rfl ?_ | with_reducible refine (announceUtc_same _ _).step rfl ?_ | with_reducible refine (selectMaster_same _).step rfl ?_ | intro _ | split | (dsimp only; split) | with_reducible refine Same.tb rfl ?_ | with_reducible refine Same.update rfl ?_ ?_ | exact Fits.mk (fun c h => by cases c <;> first | exact absurd h (by decide) | with_reducible exact rfl))

theorem execPtpSyncReceived_same : ∀ a0 a1 a2 a3, Within 3306067853321 (execPtpSyncReceived a0 a1 a2 a3) a3 := by
  intro a0 a1 a2 a3
  unfold execPtpSyncReceived
  repeat' (first | with_reducible exact Same.refl _ | with_reducible refine within_ite ?_ ?_ | with_reducible refine within_done ?_ | with_reducible refine (advanceTo_same _ _).step rfl ?_ | with_reducible refine (countPort_same _ _ _).step rfl ?_ | with_reducible refine (measured_same _ _).step rfl ?_ | intro _ | split | (dsimp only; split) | with_reducible refine Same.tb rfl ?_ | with_reducible refine Same.update rfl ?_ ?_ | exact Fits.mk (fun c h => by cases c <;> first | exact absurd h (by decide) | with_reducible exact rfl))

theorem execPtpPdelayReqReceived_same : ∀ a0 a1 a2 a3 a4, Within 1107078152201 (execPtpPdelayReqReceived a0 a1 a2 a3 a4) a4 := by
  intro a0 a1 a2 a3 a4
  unfold execPtpPdelayReqReceived
  repeat' (first | with_reducible exact Same.refl _ | with_reducible refine within_ite ?_ ?_ | with_reducible refine within_done ?_ | with_reducible refine (advanceTo_same _ _).step rfl ?_ | with_reducible refine (countPort_same _ _ _).step rfl ?_ | with_reducible refine (txOwn_same _ _ _ _ _).step rfl ?_ | intro _)

theorem execPtpPdelayReqSend_same : ∀ a0 a1, Within 1107078152201 (execPtpPdelayReqSend a0 a1) a1 := by
  intro a0 a1
  unfold execPtpPdelayReqSend
  repeat' (first | with_reducible exact Same.refl _ | with_reducible refine within_ite ?_ ?_ | with_reducible refine within_done ?_ | with_reducible refine (advanceTo_same _ _).step rfl ?_ | with_reducible refine (txOwn_same _ _ _ _ _).step rfl ?_ | intro _ | split | (dsimp only; split) | with_reducible refine Same.tb rfl ?_ | with_reducible refine Same.update rfl ?_ ?_ | exact Fits.mk (fun c h => by cases c <;> first | exact absurd h (by decide) | with_reducible exact rfl))

theorem execPtpPdelayRespReceived_same : ∀ a0 a1 a2 a3, Within 7532969992 (execPtpPdelayRespReceived a0 a1 a2 a3) a3 := by
  intro a0 a1 a2 a3
  unfold execPtpPdelayRespReceived
  repeat' (first | with_reducible exact Same.refl _ | with_reducible refine within_ite ?_ ?_ | with_reducible refine within_done ?_ | with_reducible refine (advanceTo_same _ _).step rfl ?_ | with_reducible refine (countPort_same _ _ _).step rfl ?_ | intro _ | split | (dsimp only; split) | with_reducible refine Same.tb rfl ?_ | with_reducible refine Same.update rfl ?_ ?_ | exact Fits.mk (fun c h => by cases c <;> first | exact absurd h (by decide) | with_reducible exact rfl))

theorem execPpsInEdge_same : ∀ a0 a1, Within 3306051076105 (execPpsInEdge a0 a1) a1 := by
  intro a0 a1
  unfold execPpsInEdge
  repeat' (first | with_reducible exact Same.refl _ | with_reducible refine Same.ite ?_ ?_ | with_reducible refine within_ite ?_ ?_ | with_reducible refine within_done ?_ | with_reducible refine (advanceTo_same _ _).step rfl ?_ | with_reducible refine (measured_same _ _).step rfl ?_ | intro _ | with_reducible refine Same.tb rfl ?_ | with_reducible refine Same.update rfl ?_ ?_ | exact Fits.mk (fun c h => by cases c <;> first | exact absurd h (by decide) | with_reducible exact rfl))

theorem todCorrect_same : ∀ a0 a1 a2, Same 3304977334281 a2 (todCorrect a0 a1 a2) := by
  intro a0 a1 a2
  unfold todCorrect
  repeat' (first | with_reducible exact Same.refl _ | with_reducible refine (correct_same _ _).step rfl ?_ | intro _ | with_reducible refine Same.tb rfl ?_ | with_reducible refine Same.update rfl ?_ ?_ | exact Fits.mk (fun c h => by cases c <;> first | exact absurd h (by decide) | with_reducible exact rfl))

theorem execZdaSentence_same : ∀ a0 a1 a2, Within 3304977334281 (execZdaSentence a0 a1 a2) a2 := by
  intro a0 a1 a2
  unfold execZdaSentence
  repeat' (first | with_reducible exact Same.refl _ | with_reducible refine within_ite ?_ ?_ | with_reducible refine within_done ?_ | with_reducible refine (todCorrect_same _ _ _).step rfl ?_ | intro _ | split | (dsimp only; split) | with_reducible refine Same.tb rfl ?_ | with_reducible refine Same.update rfl ?_ ?_ | exact Fits.mk (fun c h => by cases c <;> first | exact absurd h (by decide) | with_reducible exact rfl))

theorem execRef10mLost_same : ∀ a0, Within 8 (execRef10mLost a0) a0 := by
  intro a0
  unfold execRef10mLost
  repeat' (first | with_reducible exact Same.refl _ | with_reducible refine within_done ?_ | intro _ | with_reducible refine Same.tb rfl ?_ | with_reducible refine Same.update rfl ?_ ?_ | exact Fits.mk (fun c h => by cases c <;> first | exact absurd h (by decide) | with_reducible exact rfl))

theorem execRef10mRestored_same : ∀ a0, Within 8 (execRef10mRestored a0) a0 := by
  intro a0
  unfold execRef10mRestored
  repeat' (first | with_reducible exact Same.refl _ | with_reducible refine within_done ?_ | intro _ | with_reducible refine Same.tb rfl ?_ | with_reducible refine Same.update rfl ?_ ?_ | exact Fits.mk (fun c h => by cases c <;> first | exact absurd h (by decide) | with_reducible exact rfl))

theorem execTbLocked_same : ∀ a0, Within 1101659111433 (execTbLocked a0) a0 := by
  intro a0
  unfold execTbLocked
  repeat' (first | with_reducible exact Same.refl _ | with_reducible refine within_ite ?_ ?_ | with_reducible refine within_done ?_ | with_reducible refine (enterLocked_same _).step rfl ?_ | intro _)

theorem execTbHoldoverEntry_same : ∀ a0, Within 1102732853257 (execTbHoldoverEntry a0) a0 := by
  intro a0
  unfold execTbHoldoverEntry
  repeat' (first | with_reducible exact Same.refl _ | with_reducible refine within_ite ?_ ?_ | with_reducible refine within_done ?_ | with_reducible refine (advanceTo_same _ _).step rfl ?_ | with_reducible refine (enterHoldover_same _).step rfl ?_ | intro _)

theorem rtcSteer_same : ∀ a0 a1, Same 1102732853249 a1 (rtcSteer a0 a1) := by
  intro a0 a1
  unfold rtcSteer
  repeat' (first | with_reducible exact Same.refl _ | with_reducible refine Same.ite ?_ ?_ | with_reducible refine (noteTime_same _ _ _).step rfl ?_ | intro _ | with_reducible refine Same.rtc rfl ?_ | with_reducible refine Same.update rfl ?_ ?_ | exact Fits.mk (fun c h => by cases c <;> first | exact absurd h (by decide) | with_reducible exact rfl))

theorem execSecondBoundary_same : ∀ a0, Within 1102732853257 (execSecondBoundary a0) a0 := by
  intro a0
  unfold execSecondBoundary
  repeat' (first | with_reducible exact Same.refl _ | with_reducible refine Same.ite ?_ ?_ | with_reducible refine within_ite ?_ ?_ | with_reducible refine within_done ?_ | with_reducible refine (advanceTo_same _ _).step rfl ?_ | with_reducible refine (emit_same _ _).step rfl ?_ | with_reducible refine (rtcSteer_same _ _).step rfl ?_ | with_reducible refine (traceSecond_same _).step rfl ?_ | intro _ | with_reducible refine Same.tb rfl ?_ | with_reducible refine Same.update rfl ?_ ?_ | exact Fits.mk (fun c h => by cases c <;> first | exact absurd h (by decide) | with_reducible exact rfl))

theorem tbSnap_same : ∀ a0, Same 8 a0 (tbSnap a0) := by
  intro a0
  unfold tbSnap
  repeat' (first | with_reducible exact Same.refl _ | intro _ | with_reducible refine Same.tb rfl ?_ | with_reducible refine Same.update rfl ?_ ?_ | exact Fits.mk (fun c h => by cases c <;> first | exact absurd h (by decide) | with_reducible exact rfl))

theorem execTbSnapCapture_same : ∀ a0, Within 8 (execTbSnapCapture a0) a0 := by
  intro a0
  unfold execTbSnapCapture
  repeat' (first | with_reducible exact Same.refl _ | with_reducible refine Same.ite ?_ ?_ | with_reducible refine within_done ?_ | with_reducible refine (tbSnap_same _).step rfl ?_ | intro _)

theorem addPhaseAt_same : ∀ a0 a1 a2 a3 a4, Same 96 a4 (addPhaseAt a0 a1 a2 a3 a4) := by
  intro a0 a1 a2 a3 a4
  unfold addPhaseAt
  repeat' (first | with_reducible exact Same.refl _ | intro _ | with_reducible refine Same.phases rfl ?_ | with_reducible refine Same.phaseNext rfl ?_ | with_reducible refine Same.update rfl ?_ ?_ | exact Fits.mk (fun c h => by cases c <;> first | exact absurd h (by decide) | with_reducible exact rfl))

theorem addPhase_same : ∀ a0 a1 a2 a3, Same 96 a3 (addPhase a0 a1 a2 a3) := by
  intro a0 a1 a2 a3
  unfold addPhase
  repeat' (first | with_reducible exact Same.refl _ | with_reducible refine (addPhaseAt_same _ _ _ _ _).step rfl ?_ | intro _)

theorem refSample_same : ∀ a0 a1, Same 48 a1 (refSample a0 a1) := by
  intro a0 a1
  unfold refSample
  repeat' (first | with_reducible exact Same.refl _ | intro _ | split | (dsimp only; split) | with_reducible refine Same.refBus rfl ?_ | with_reducible refine Same.phases rfl ?_ | with_reducible refine Same.update rfl ?_ ?_ | exact Fits.mk (fun c h => by cases c <;> first | exact absurd h (by decide) | with_reducible exact rfl))

theorem phaseOutcome_same : ∀ a0 a1 a2, Same 32768 a2 (phaseOutcome a0 a1 a2) := by
  intro a0 a1 a2
  unfold phaseOutcome
  repeat' (first | with_reducible exact Same.refl _ | intro _ | split | (dsimp only; split) | with_reducible refine Same.schs rfl ?_ | with_reducible refine Same.update rfl ?_ ?_ | exact Fits.mk (fun c h => by cases c <;> first | exact absurd h (by decide) | with_reducible exact rfl))

theorem execPhaseTargetFix_same : ∀ a0 a1, Within 7516225576 (execPhaseTargetFix a0 a1) a1 := by
  intro a0 a1
  unfold execPhaseTargetFix
  repeat' (first | with_reducible exact Same.refl _ | with_reducible refine within_ite ?_ ?_ | with_reducible refine within_done ?_ | with_reducible refine (advanceTo_same _ _).step rfl ?_ | with_reducible refine (count_same _ _).step rfl ?_ | with_reducible refine (phaseOutcome_same _ _ _).step rfl ?_ | intro _ | split | (dsimp only; split) | with_reducible refine Same.phases rfl ?_ | with_reducible refine Same.update rfl ?_ ?_ | exact Fits.mk (fun c h => by cases c <;> first | exact absurd h (by decide) | with_reducible exact rfl))

end Sys2Proof.Machine
end

