-- ==== Sys2Proof/Laws/FrameRtcBlock.lean ====
section
/-! SUPPORT. The frame of each definition of Machine/RtcBlock. -/

namespace Sys2Proof.Machine

theorem setRtcPort_same : ∀ a0 a1 a2, Same 1073741824 a2 (setRtcPort a0 a1 a2) := by
  intro a0 a1 a2
  unfold setRtcPort
  repeat' (first | with_reducible exact Same.refl _ | intro _ | split | (dsimp only; split) | with_reducible refine Same.rtc rfl ?_ | with_reducible refine Same.update rfl ?_ ?_ | exact Fits.mk (fun c h => by cases c <;> first | exact absurd h (by decide) | with_reducible exact rfl))

theorem rtcFreeze_same : ∀ a0 a1, Same 1073741824 a1 (rtcFreeze a0 a1) := by
  intro a0 a1
  unfold rtcFreeze
  repeat' (first | with_reducible exact Same.refl _ | with_reducible refine (setRtcPort_same _ _ _).step rfl ?_ | intro _)

theorem rtcRelease_same : ∀ a0 a1, Same 1073741824 a1 (rtcRelease a0 a1) := by
  intro a0 a1
  unfold rtcRelease
  repeat' (first | with_reducible exact Same.refl _ | with_reducible refine (setRtcPort_same _ _ _).step rfl ?_ | intro _ | with_reducible refine Same.rtc rfl ?_ | with_reducible refine Same.update rfl ?_ ?_ | exact Fits.mk (fun c h => by cases c <;> first | exact absurd h (by decide) | with_reducible exact rfl))

theorem rtcReadT_same : ∀ a0 a1, Same 1073741824 a1 (rtcReadT a0 a1) := by
  intro a0 a1
  unfold rtcReadT
  repeat' (first | with_reducible exact Same.refl _ | with_reducible refine Same.ite ?_ ?_ | with_reducible refine (rtcFreeze_same _ _).step rfl ?_ | intro _)

theorem execRtcTReadFreeze_same : ∀ a0 a1 a2, Within 1100585369600 (execRtcTReadFreeze a0 a1 a2) a2 := by
  intro a0 a1 a2
  unfold execRtcTReadFreeze
  repeat' (first | with_reducible exact Same.refl _ | with_reducible refine Same.ite ?_ ?_ | with_reducible refine within_ite ?_ ?_ | with_reducible refine within_done ?_ | with_reducible refine (emit_same _ _).step rfl ?_ | with_reducible refine (rtcReadT_same _ _).step rfl ?_ | with_reducible refine (rtcRelease_same _ _).step rfl ?_ | intro _)

theorem execRtcT7ReadRelease_same : ∀ a0 a1, Within 1100585369600 (execRtcT7ReadRelease a0 a1) a1 := by
  intro a0 a1
  unfold execRtcT7ReadRelease
  repeat' (first | with_reducible exact Same.refl _ | with_reducible refine Same.ite ?_ ?_ | with_reducible refine within_ite ?_ ?_ | with_reducible refine within_done ?_ | with_reducible refine (emit_same _ _).step rfl ?_ | with_reducible refine (rtcRelease_same _ _).step rfl ?_ | intro _)

theorem execRtcFreezeTimeout_same : ∀ a0 a1, Within 3221225480 (execRtcFreezeTimeout a0 a1) a1 := by
  intro a0 a1
  unfold execRtcFreezeTimeout
  repeat' (first | with_reducible exact Same.refl _ | with_reducible refine within_ite ?_ ?_ | with_reducible refine within_done ?_ | with_reducible refine (advanceTo_same _ _).step rfl ?_ | with_reducible refine (setRtcPort_same _ _ _).step rfl ?_ | intro _ | split | (dsimp only; split) | with_reducible refine Same.rtc rfl ?_ | with_reducible refine Same.update rfl ?_ ?_ | exact Fits.mk (fun c h => by cases c <;> first | exact absurd h (by decide) | with_reducible exact rfl))

theorem rtcCmdRecord_same : ∀ a0 a1 a2 a3 a4, Same 1101659111425 a4 (rtcCmdRecord a0 a1 a2 a3 a4) := by
  intro a0 a1 a2 a3 a4
  unfold rtcCmdRecord
  repeat' (first | with_reducible exact Same.refl _ | with_reducible refine (recAdd_same _ _ _ _ _ _ _ _ _ _).step rfl ?_ | intro _)

theorem rtcIgnored_same : ∀ a0 a1 a2 a3, Same 1101659111425 a3 (rtcIgnored a0 a1 a2 a3) := by
  intro a0 a1 a2 a3
  unfold rtcIgnored
  repeat' (first | with_reducible exact Same.refl _ | with_reducible refine Same.ite ?_ ?_ | with_reducible refine (rtcCmdRecord_same _ _ _ _ _).step rfl ?_ | intro _)

theorem rtcSet_same : ∀ a0 a1 a2, Same 1102732853249 a2 (rtcSet a0 a1 a2) := by
  intro a0 a1 a2
  unfold rtcSet
  repeat' (first | with_reducible exact Same.refl _ | with_reducible refine Same.ite ?_ ?_ | with_reducible refine (rtcCmdRecord_same _ _ _ _ _).step rfl ?_ | with_reducible refine (rtcIgnored_same _ _ _ _).step rfl ?_ | intro _ | split | (dsimp only; split) | with_reducible refine Same.rtc rfl ?_ | with_reducible refine Same.update rfl ?_ ?_ | exact Fits.mk (fun c h => by cases c <;> first | exact absurd h (by decide) | with_reducible exact rfl))

theorem execRtcCmdSet_same : ∀ a0 a1, Within 1102732853249 (execRtcCmdSet a0 a1) a1 := by
  intro a0 a1
  unfold execRtcCmdSet
  repeat' (first | with_reducible exact Same.refl _ | with_reducible refine within_done ?_ | with_reducible refine (rtcSet_same _ _ _).step rfl ?_ | intro _)

theorem execRtcSetCommit_same : ∀ a0, Within 1073741824 (execRtcSetCommit a0) a0 := by
  intro a0
  unfold execRtcSetCommit
  repeat' (first | with_reducible exact Same.refl _ | with_reducible refine within_done ?_ | intro _ | split | (dsimp only; split) | with_reducible refine Same.rtc rfl ?_ | with_reducible refine Same.update rfl ?_ ?_ | exact Fits.mk (fun c h => by cases c <;> first | exact absurd h (by decide) | with_reducible exact rfl))

theorem rtcMode_same : ∀ a0 a1 a2 a3, Same 1102732853249 a3 (rtcMode a0 a1 a2 a3) := by
  intro a0 a1 a2 a3
  unfold rtcMode
  repeat' (first | with_reducible exact Same.refl _ | with_reducible refine Same.ite ?_ ?_ | with_reducible refine (rtcCmdRecord_same _ _ _ _ _).step rfl ?_ | with_reducible refine (rtcIgnored_same _ _ _ _).step rfl ?_ | intro _ | with_reducible refine Same.rtc rfl ?_ | with_reducible refine Same.update rfl ?_ ?_ | exact Fits.mk (fun c h => by cases c <;> first | exact absurd h (by decide) | with_reducible exact rfl))

theorem execRtcCmdTobin_same : ∀ a0 a1, Within 1102732853249 (execRtcCmdTobin a0 a1) a1 := by
  intro a0 a1
  unfold execRtcCmdTobin
  repeat' (first | with_reducible exact Same.refl _ | with_reducible refine within_done ?_ | with_reducible refine (rtcMode_same _ _ _ _).step rfl ?_ | intro _)

theorem execRtcCmdTocal_same : ∀ a0 a1, Within 1102732853249 (execRtcCmdTocal a0 a1) a1 := by
  intro a0 a1
  unfold execRtcCmdTocal
  repeat' (first | with_reducible exact Same.refl _ | with_reducible refine within_done ?_ | with_reducible refine (rtcMode_same _ _ _ _).step rfl ?_ | intro _)

theorem execRtcSensorReading_same : ∀ a0 a1, Within 1073741824 (execRtcSensorReading a0 a1) a1 := by
  intro a0 a1
  unfold execRtcSensorReading
  repeat' (first | with_reducible exact Same.refl _ | with_reducible refine within_done ?_ | intro _ | with_reducible refine Same.rtc rfl ?_ | with_reducible refine Same.update rfl ?_ ?_ | exact Fits.mk (fun c h => by cases c <;> first | exact absurd h (by decide) | with_reducible exact rfl))

theorem execRtcEndOfRange_same : ∀ a0, Within 1102732853249 (execRtcEndOfRange a0) a0 := by
  intro a0
  unfold execRtcEndOfRange
  repeat' (first | with_reducible exact Same.refl _ | with_reducible refine within_ite ?_ ?_ | with_reducible refine within_done ?_ | with_reducible refine (noteTime_same _ _ _).step rfl ?_ | with_reducible refine (raiseVector_same _ _).step rfl ?_ | intro _ | with_reducible refine Same.rtc rfl ?_ | with_reducible refine Same.update rfl ?_ ?_ | exact Fits.mk (fun c h => by cases c <;> first | exact absurd h (by decide) | with_reducible exact rfl))

theorem rtcLock_same : ∀ a0, Same 1073741824 a0 (rtcLock a0) := by
  intro a0
  unfold rtcLock
  repeat' (first | with_reducible exact Same.refl _ | with_reducible refine Same.ite ?_ ?_ | with_reducible refine (rtcFreeze_same _ _).step rfl ?_ | intro _ | with_reducible refine Same.rtc rfl ?_ | with_reducible refine Same.update rfl ?_ ?_ | exact Fits.mk (fun c h => by cases c <;> first | exact absurd h (by decide) | with_reducible exact rfl))

theorem execRtcLockRelease_same : ∀ a0, Within 3221225480 (execRtcLockRelease a0) a0 := by
  intro a0
  unfold execRtcLockRelease
  repeat' (first | with_reducible exact Same.refl _ | with_reducible refine within_done ?_ | with_reducible refine (advanceTo_same _ _).step rfl ?_ | intro _ | split | (dsimp only; split) | with_reducible refine Same.rtc rfl ?_ | with_reducible refine Same.update rfl ?_ ?_ | exact Fits.mk (fun c h => by cases c <;> first | exact absurd h (by decide) | with_reducible exact rfl))

theorem execVrtcLow_same : ∀ a0, Within 1100585369601 (execVrtcLow a0) a0 := by
  intro a0
  unfold execVrtcLow
  repeat' (first | with_reducible exact Same.refl _ | with_reducible refine within_done ?_ | with_reducible refine (raiseVector_same _ _).step rfl ?_ | intro _ | with_reducible refine Same.rtc rfl ?_ | with_reducible refine Same.update rfl ?_ ?_ | exact Fits.mk (fun c h => by cases c <;> first | exact absurd h (by decide) | with_reducible exact rfl))

end Sys2Proof.Machine
end

