-- ==== Sys2Proof/Laws/FrameRecorderBlock.lean ====
section
/-! SUPPORT. The frame of each definition of Machine/RecorderBlock. -/

namespace Sys2Proof.Machine

theorem setRecCursor_same : ∀ a0 a1 a2, Same 2147483648 a2 (setRecCursor a0 a1 a2) := by
  intro a0 a1 a2
  unfold setRecCursor
  repeat' (first | with_reducible exact Same.refl _ | intro _ | split | (dsimp only; split) | with_reducible refine Same.rcd rfl ?_ | with_reducible refine Same.update rfl ?_ ?_ | exact Fits.mk (fun c h => by cases c <;> first | exact absurd h (by decide) | with_reducible exact rfl))

theorem recMove_same : ∀ a0 a1 a2, Same 2147483648 a2 (recMove a0 a1 a2) := by
  intro a0 a1 a2
  unfold recMove
  repeat' (first | with_reducible exact Same.refl _ | with_reducible refine (setRecCursor_same _ _ _).step rfl ?_ | intro _ | split | (dsimp only; split))

theorem execRecCmdNext_same : ∀ a0 a1, Within 2147483648 (execRecCmdNext a0 a1) a1 := by
  intro a0 a1
  unfold execRecCmdNext
  repeat' (first | with_reducible exact Same.refl _ | with_reducible refine Same.ite ?_ ?_ | with_reducible refine within_done ?_ | with_reducible refine (recMove_same _ _ _).step rfl ?_ | intro _)

theorem execRecCmdPrev_same : ∀ a0 a1, Within 2147483648 (execRecCmdPrev a0 a1) a1 := by
  intro a0 a1
  unfold execRecCmdPrev
  repeat' (first | with_reducible exact Same.refl _ | with_reducible refine Same.ite ?_ ?_ | with_reducible refine within_done ?_ | with_reducible refine (recMove_same _ _ _).step rfl ?_ | intro _)

theorem execRecCmdOldest_same : ∀ a0 a1, Within 2147483648 (execRecCmdOldest a0 a1) a1 := by
  intro a0 a1
  unfold execRecCmdOldest
  repeat' (first | with_reducible exact Same.refl _ | with_reducible refine Same.ite ?_ ?_ | with_reducible refine within_done ?_ | with_reducible refine (recMove_same _ _ _).step rfl ?_ | intro _)

theorem execRecCmdNewest_same : ∀ a0 a1, Within 2147483648 (execRecCmdNewest a0 a1) a1 := by
  intro a0 a1
  unfold execRecCmdNewest
  repeat' (first | with_reducible exact Same.refl _ | with_reducible refine Same.ite ?_ ?_ | with_reducible refine within_done ?_ | with_reducible refine (recMove_same _ _ _).step rfl ?_ | intro _)

theorem execRecCmdSeekSeq_same : ∀ a0 a1, Within 2147483648 (execRecCmdSeekSeq a0 a1) a1 := by
  intro a0 a1
  unfold execRecCmdSeekSeq
  repeat' (first | with_reducible exact Same.refl _ | with_reducible refine Same.ite ?_ ?_ | with_reducible refine within_done ?_ | with_reducible refine (recMove_same _ _ _).step rfl ?_ | intro _)

theorem clearStart_same : ∀ a0 a1 a2, Same 1101659111425 a2 (clearStart a0 a1 a2) := by
  intro a0 a1 a2
  unfold clearStart
  repeat' (first | with_reducible exact Same.refl _ | with_reducible refine (recAdd_same _ _ _ _ _ _ _ _ _ _).step rfl ?_ | with_reducible refine (recSummary_same _).step rfl ?_ | intro _ | split | (dsimp only; split) | with_reducible refine Same.rcd rfl ?_ | with_reducible refine Same.update rfl ?_ ?_ | exact Fits.mk (fun c h => by cases c <;> first | exact absurd h (by decide) | with_reducible exact rfl))

theorem recClear_same : ∀ a0 a1 a2, Same 1101659111425 a2 (recClear a0 a1 a2) := by
  intro a0 a1 a2
  unfold recClear
  repeat' (first | with_reducible exact Same.refl _ | with_reducible refine Same.ite ?_ ?_ | with_reducible refine (clearStart_same _ _ _).step rfl ?_ | intro _ | with_reducible refine Same.rcd rfl ?_ | with_reducible refine Same.update rfl ?_ ?_ | exact Fits.mk (fun c h => by cases c <;> first | exact absurd h (by decide) | with_reducible exact rfl))

theorem execRecClear_same : ∀ a0 a1 a2, Within 1101659111425 (execRecClear a0 a1 a2) a2 := by
  intro a0 a1 a2
  unfold execRecClear
  repeat' (first | with_reducible exact Same.refl _ | with_reducible refine Same.ite ?_ ?_ | with_reducible refine within_done ?_ | with_reducible refine (recClear_same _ _ _).step rfl ?_ | intro _)

theorem execRecClearComplete_same : ∀ a0, Within 1101659111425 (execRecClearComplete a0) a0 := by
  intro a0
  unfold execRecClearComplete
  repeat' (first | with_reducible exact Same.refl _ | with_reducible refine within_done ?_ | with_reducible refine (clearStart_same _ _ _).step rfl ?_ | intro _ | split | (dsimp only; split) | with_reducible refine Same.rcd rfl ?_ | with_reducible refine Same.update rfl ?_ ?_ | exact Fits.mk (fun c h => by cases c <;> first | exact absurd h (by decide) | with_reducible exact rfl))

theorem execRecNorProgram_same : ∀ a0, Within 2147483648 (execRecNorProgram a0) a0 := by
  intro a0
  unfold execRecNorProgram
  repeat' (first | with_reducible exact Same.refl _ | with_reducible refine within_done ?_ | intro _ | with_reducible refine Same.rcd rfl ?_ | with_reducible refine Same.update rfl ?_ ?_ | exact Fits.mk (fun c h => by cases c <;> first | exact absurd h (by decide) | with_reducible exact rfl))

theorem programAll_same : ∀ a0, Same 2147483648 a0 (programAll a0) := by
  intro a0
  unfold programAll
  repeat' (first | with_reducible exact Same.refl _ | intro _ | with_reducible refine Same.rcd rfl ?_ | with_reducible refine Same.update rfl ?_ ?_ | exact Fits.mk (fun c h => by cases c <;> first | exact absurd h (by decide) | with_reducible exact rfl))

theorem checkpoint_same : ∀ a0, Same 2147483648 a0 (checkpoint a0) := by
  intro a0
  unfold checkpoint
  repeat' (first | with_reducible exact Same.refl _ | intro _ | with_reducible refine Same.rcd rfl ?_ | with_reducible refine Same.update rfl ?_ ?_ | exact Fits.mk (fun c h => by cases c <;> first | exact absurd h (by decide) | with_reducible exact rfl))

theorem execOpTimeCheckpoint_same : ∀ a0, Within 1102732853257 (execOpTimeCheckpoint a0) a0 := by
  intro a0
  unfold execOpTimeCheckpoint
  repeat' (first | with_reducible exact Same.refl _ | with_reducible refine within_ite ?_ ?_ | with_reducible refine within_done ?_ | with_reducible refine (checkpoint_same _).step rfl ?_ | with_reducible refine (elapse_same _ _).step rfl ?_ | with_reducible refine (recSummary_same _).step rfl ?_ | intro _)

theorem loseStaged_same : ∀ a0, Same 2147483648 a0 (loseStaged a0) := by
  intro a0
  unfold loseStaged
  repeat' (first | with_reducible exact Same.refl _ | intro _ | split | (dsimp only; split) | with_reducible refine Same.rcd rfl ?_ | with_reducible refine Same.update rfl ?_ ?_ | exact Fits.mk (fun c h => by cases c <;> first | exact absurd h (by decide) | with_reducible exact rfl))

end Sys2Proof.Machine
end

