-- ==== Sys2Proof/Laws/FrameQueues.lean ====
section
/-! SUPPORT. The frame of each definition of Machine/Queues. -/

namespace Sys2Proof.Machine

theorem setOq_same : ∀ a0 a1 a2, Same 2097152 a2 (setOq a0 a1 a2) := by
  intro a0 a1 a2
  unfold setOq
  repeat' (first | with_reducible exact Same.refl _ | intro _ | with_reducible refine Same.oqs rfl ?_ | with_reducible refine Same.update rfl ?_ ?_ | exact Fits.mk (fun c h => by cases c <;> first | exact absurd h (by decide) | with_reducible exact rfl))

theorem setIq_same : ∀ a0 a1 a2, Same 4194304 a2 (setIq a0 a1 a2) := by
  intro a0 a1 a2
  unfold setIq
  repeat' (first | with_reducible exact Same.refl _ | intro _ | with_reducible refine Same.iqs rfl ?_ | with_reducible refine Same.update rfl ?_ ?_ | exact Fits.mk (fun c h => by cases c <;> first | exact absurd h (by decide) | with_reducible exact rfl))

theorem oqVector_same : ∀ a0 a1, Same 1099513724929 a1 (oqVector a0 a1) := by
  intro a0 a1
  unfold oqVector
  repeat' (first | with_reducible exact Same.refl _ | with_reducible refine (raiseVector_same _ _).step rfl ?_ | with_reducible refine (setOq_same _ _ _).step rfl ?_ | intro _)

theorem oqCommit_same : ∀ a0 a1 a2, Same 1099513724929 a2 (oqCommit a0 a1 a2) := by
  intro a0 a1 a2
  unfold oqCommit
  repeat' (first | with_reducible exact Same.refl _ | with_reducible refine Same.ite ?_ ?_ | with_reducible refine (oqVector_same _ _).step rfl ?_ | with_reducible refine (setOq_same _ _ _).step rfl ?_ | intro _)

theorem oqDrop_same : ∀ a0 a1 a2 a3, Same 4297064448 a3 (oqDrop a0 a1 a2 a3) := by
  intro a0 a1 a2 a3
  unfold oqDrop
  repeat' (first | with_reducible exact Same.refl _ | with_reducible refine (countBy_same _ _ _).step rfl ?_ | with_reducible refine (setOq_same _ _ _).step rfl ?_ | intro _)

theorem oqOversize_same : ∀ a0 a1 a2, Same 1105956175873 a2 (oqOversize a0 a1 a2) := by
  intro a0 a1 a2
  unfold oqOversize
  repeat' (first | with_reducible exact Same.refl _ | with_reducible refine Same.ite ?_ ?_ | with_reducible refine (noteI_same _ _ _ _ _ _ _ _).step rfl ?_ | with_reducible refine (oqDrop_same _ _ _ _).step rfl ?_ | with_reducible refine (setOq_same _ _ _).step rfl ?_ | intro _)

theorem oqForget_same : ∀ a0 a1, Same 2097152 a1 (oqForget a0 a1) := by
  intro a0 a1
  unfold oqForget
  repeat' (first | with_reducible exact Same.refl _ | intro _ | with_reducible refine Same.oqs rfl ?_ | with_reducible refine Same.update rfl ?_ ?_ | exact Fits.mk (fun c h => by cases c <;> first | exact absurd h (by decide) | with_reducible exact rfl))

theorem oqPut_same : ∀ a0 a1 a2 a3, Same 1105956175873 a3 (oqPut a0 a1 a2 a3) := by
  intro a0 a1 a2 a3
  unfold oqPut
  repeat' (first | with_reducible exact Same.refl _ | with_reducible refine Same.ite ?_ ?_ | with_reducible refine (oqCommit_same _ _ _).step rfl ?_ | with_reducible refine (oqDrop_same _ _ _ _).step rfl ?_ | with_reducible refine (oqOversize_same _ _ _).step rfl ?_ | intro _)

theorem oqWrite_same : ∀ a0 a1 a2 a3, Same 1105956175873 a3 (oqWrite a0 a1 a2 a3) := by
  intro a0 a1 a2 a3
  unfold oqWrite
  repeat' (first | with_reducible exact Same.refl _ | with_reducible refine Same.ite ?_ ?_ | with_reducible refine (oqPut_same _ _ _ _).step rfl ?_ | intro _)

theorem oqNoWait_same : ∀ a0 a1 a2 a3, Same 1105956175873 a3 (oqNoWait a0 a1 a2 a3) := by
  intro a0 a1 a2 a3
  unfold oqNoWait
  repeat' (first | with_reducible exact Same.refl _ | with_reducible refine Same.ite ?_ ?_ | with_reducible refine (oqDrop_same _ _ _ _).step rfl ?_ | with_reducible refine (oqPut_same _ _ _ _).step rfl ?_ | intro _)

theorem oqStall_same : ∀ a0 a1 a2 a3, Same 4297064448 a3 (oqStall a0 a1 a2 a3) := by
  intro a0 a1 a2 a3
  unfold oqStall
  repeat' (first | with_reducible exact Same.refl _ | with_reducible refine Same.ite ?_ ?_ | with_reducible refine (count_same _ _).step rfl ?_ | with_reducible refine (setOq_same _ _ _).step rfl ?_ | intro _)

theorem oqDiscard_same : ∀ a0 a1, Same 4297064448 a1 (oqDiscard a0 a1) := by
  intro a0 a1
  unfold oqDiscard
  repeat' (first | with_reducible exact Same.refl _ | with_reducible refine Same.ite ?_ ?_ | with_reducible refine (oqDrop_same _ _ _ _).step rfl ?_ | with_reducible refine (setOq_same _ _ _).step rfl ?_ | intro _)

theorem oqBoundary_same : ∀ a0 a1, Same 4297064448 a1 (oqBoundary a0 a1) := by
  intro a0 a1
  unfold oqBoundary
  repeat' (first | with_reducible exact Same.refl _ | with_reducible refine Same.ite ?_ ?_ | with_reducible refine (oqDiscard_same _ _).step rfl ?_ | with_reducible refine (setOq_same _ _ _).step rfl ?_ | intro _ | refine Same.snd (by assumption) ?_ | refine Same.fst (by assumption) ?_ | refine Same.snd2 (by assumption) ?_ | refine Same.snd3 (by assumption) ?_ | with_reducible refine Same.update rfl ?_ ?_ | exact Fits.mk (fun c h => by cases c <;> first | exact absurd h (by decide) | with_reducible exact rfl))

theorem execQpopRead_same : ∀ a0 a1 a2, Within 1103808692224 (execQpopRead a0 a1 a2) a2 := by
  intro a0 a1 a2
  unfold execQpopRead
  repeat' (first | with_reducible exact Same.refl _ | with_reducible refine Same.ite ?_ ?_ | with_reducible refine within_ite ?_ ?_ | with_reducible refine within_done ?_ | with_reducible refine (emit_same _ _).step rfl ?_ | with_reducible refine (oqBoundary_same _ _).step rfl ?_ | with_reducible refine (setOq_same _ _ _).step rfl ?_ | intro _ | split | (dsimp only; split) | refine Same.snd (by assumption) ?_ | refine Same.fst (by assumption) ?_ | refine Same.snd2 (by assumption) ?_ | refine Same.snd3 (by assumption) ?_ | with_reducible refine Same.update rfl ?_ ?_ | exact Fits.mk (fun c h => by cases c <;> first | exact absurd h (by decide) | with_reducible exact rfl))

theorem execDmaEntryWrite_same : ∀ a0, Within 1103817080833 (execDmaEntryWrite a0) a0 := by
  intro a0
  unfold execDmaEntryWrite
  repeat' (first | with_reducible exact Same.refl _ | with_reducible refine Same.ite ?_ ?_ | with_reducible refine within_ite ?_ ?_ | with_reducible refine within_done ?_ | with_reducible refine (emit_same _ _).step rfl ?_ | with_reducible refine (oqBoundary_same _ _).step rfl ?_ | with_reducible refine (oqVector_same _ _).step rfl ?_ | with_reducible refine (setOq_same _ _ _).step rfl ?_ | intro _ | split | (dsimp only; split) | refine Same.snd (by assumption) ?_ | refine Same.fst (by assumption) ?_ | refine Same.snd2 (by assumption) ?_ | refine Same.snd3 (by assumption) ?_ | with_reducible refine Same.dmaPtr rfl ?_ | with_reducible refine Same.update rfl ?_ ?_ | exact Fits.mk (fun c h => by cases c <;> first | exact absurd h (by decide) | with_reducible exact rfl))

theorem oqHeadWrite_same : ∀ a0 a1 a2, Same 2097152 a2 (oqHeadWrite a0 a1 a2) := by
  intro a0 a1 a2
  unfold oqHeadWrite
  repeat' (first | with_reducible exact Same.refl _ | with_reducible refine Same.ite ?_ ?_ | with_reducible refine (setOq_same _ _ _).step rfl ?_ | intro _)

theorem execOqRingHeadWrite_same : ∀ a0 a1 a2, Within 2097152 (execOqRingHeadWrite a0 a1 a2) a2 := by
  intro a0 a1 a2
  unfold execOqRingHeadWrite
  repeat' (first | with_reducible exact Same.refl _ | with_reducible refine Same.ite ?_ ?_ | with_reducible refine within_done ?_ | with_reducible refine (oqHeadWrite_same _ _ _).step rfl ?_ | intro _)

theorem oqFlush_same : ∀ a0 a1, Same 4297064448 a1 (oqFlush a0 a1) := by
  intro a0 a1
  unfold oqFlush
  repeat' (first | with_reducible exact Same.refl _ | with_reducible refine (oqDiscard_same _ _).step rfl ?_ | with_reducible refine (setOq_same _ _ _).step rfl ?_ | intro _)

theorem finalReplies_same : ∀ a0 a1 a2, Same 1168231104517 a2 (finalReplies a0 a1 a2) := by
  intro a0 a1 a2
  unfold finalReplies
  repeat' (first | with_reducible exact Same.refl _ | with_reducible refine (finalReply_same _ _ _).step rfl ?_ | with_reducible refine Same.foldl ?_ ?_ | intro _)

theorem oqFlushEnd_same : ∀ a0 a1, Same 1168233201669 a1 (oqFlushEnd a0 a1) := by
  intro a0 a1
  unfold oqFlushEnd
  repeat' (first | with_reducible exact Same.refl _ | with_reducible refine Same.ite ?_ ?_ | with_reducible refine (finalReplies_same _ _ _).step rfl ?_ | with_reducible refine (setOq_same _ _ _).step rfl ?_ | intro _)

theorem execOqFlushDone_same : ∀ a0 a1, Within 1168233201669 (execOqFlushDone a0 a1) a1 := by
  intro a0 a1
  unfold execOqFlushDone
  repeat' (first | with_reducible exact Same.refl _ | with_reducible refine within_done ?_ | with_reducible refine (oqFlushEnd_same _ _).step rfl ?_ | intro _)

theorem writeOqCtrl_same : ∀ a0 a1 a2, Same 1172528168965 a2 (writeOqCtrl a0 a1 a2) := by
  intro a0 a1 a2
  unfold writeOqCtrl
  repeat' (first | with_reducible exact Same.refl _ | with_reducible refine Same.ite ?_ ?_ | with_reducible refine (oqBoundary_same _ _).step rfl ?_ | with_reducible refine (oqFlush_same _ _).step rfl ?_ | with_reducible refine (oqFlushEnd_same _ _).step rfl ?_ | with_reducible refine (setOq_same _ _ _).step rfl ?_ | intro _ | refine Same.snd (by assumption) ?_ | refine Same.fst (by assumption) ?_ | refine Same.snd2 (by assumption) ?_ | refine Same.snd3 (by assumption) ?_ | with_reducible refine Same.update rfl ?_ ?_ | exact Fits.mk (fun c h => by cases c <;> first | exact absurd h (by decide) | with_reducible exact rfl))

theorem execOqCtrlEnSet_same : ∀ a0 a1 a2, Within 1172528168965 (execOqCtrlEnSet a0 a1 a2) a2 := by
  intro a0 a1 a2
  unfold execOqCtrlEnSet
  repeat' (first | with_reducible exact Same.refl _ | with_reducible refine Same.ite ?_ ?_ | with_reducible refine within_done ?_ | with_reducible refine (writeOqCtrl_same _ _ _).step rfl ?_ | intro _)

theorem execOqCtrlEnClear_same : ∀ a0 a1 a2, Within 1172528168965 (execOqCtrlEnClear a0 a1 a2) a2 := by
  intro a0 a1 a2
  unfold execOqCtrlEnClear
  repeat' (first | with_reducible exact Same.refl _ | with_reducible refine Same.ite ?_ ?_ | with_reducible refine within_done ?_ | with_reducible refine (writeOqCtrl_same _ _ _).step rfl ?_ | intro _)

theorem execOqCtrlFlush_same : ∀ a0 a1 a2, Within 1172528168965 (execOqCtrlFlush a0 a1 a2) a2 := by
  intro a0 a1 a2
  unfold execOqCtrlFlush
  repeat' (first | with_reducible exact Same.refl _ | with_reducible refine Same.ite ?_ ?_ | with_reducible refine within_done ?_ | with_reducible refine (writeOqCtrl_same _ _ _).step rfl ?_ | intro _)

theorem execOqStaleTimer_same : ∀ a0 a1, Within 1107029917705 (execOqStaleTimer a0 a1) a1 := by
  intro a0 a1
  unfold execOqStaleTimer
  repeat' (first | with_reducible exact Same.refl _ | with_reducible refine within_ite ?_ ?_ | with_reducible refine within_done ?_ | with_reducible refine (advanceTo_same _ _).step rfl ?_ | with_reducible refine (count_same _ _).step rfl ?_ | with_reducible refine (oqVector_same _ _).step rfl ?_ | with_reducible refine (setOq_same _ _ _).step rfl ?_ | intro _ | split | (dsimp only; split))

theorem writeIqCtrl_same : ∀ a0 a1 a2, Same 4194304 a2 (writeIqCtrl a0 a1 a2) := by
  intro a0 a1 a2
  unfold writeIqCtrl
  repeat' (first | with_reducible exact Same.refl _ | with_reducible refine (setIq_same _ _ _).step rfl ?_ | intro _)

theorem execIqCtrlEnSet_same : ∀ a0 a1 a2, Within 4194304 (execIqCtrlEnSet a0 a1 a2) a2 := by
  intro a0 a1 a2
  unfold execIqCtrlEnSet
  repeat' (first | with_reducible exact Same.refl _ | with_reducible refine Same.ite ?_ ?_ | with_reducible refine within_done ?_ | with_reducible refine (writeIqCtrl_same _ _ _).step rfl ?_ | intro _)

theorem execIqCtrlFlush_same : ∀ a0 a1 a2, Within 4194304 (execIqCtrlFlush a0 a1 a2) a2 := by
  intro a0 a1 a2
  unfold execIqCtrlFlush
  repeat' (first | with_reducible exact Same.refl _ | with_reducible refine Same.ite ?_ ?_ | with_reducible refine within_done ?_ | with_reducible refine (writeIqCtrl_same _ _ _).step rfl ?_ | intro _)

theorem iqDrop_same : ∀ a0 a1 a2, Same 4299161600 a2 (iqDrop a0 a1 a2) := by
  intro a0 a1 a2
  unfold iqDrop
  repeat' (first | with_reducible exact Same.refl _ | with_reducible refine (count_same _ _).step rfl ?_ | with_reducible refine (setIq_same _ _ _).step rfl ?_ | intro _)

theorem iqDoorbell_same : ∀ a0 a1 a2 a3, Same 4299161600 a3 (iqDoorbell a0 a1 a2 a3) := by
  intro a0 a1 a2 a3
  unfold iqDoorbell
  repeat' (first | with_reducible exact Same.refl _ | with_reducible refine Same.ite ?_ ?_ | with_reducible refine (iqDrop_same _ _ _).step rfl ?_ | with_reducible refine (setIq_same _ _ _).step rfl ?_ | intro _)

theorem execIqRingTailDoorbell_same : ∀ a0 a1 a2 a3, Within 4299161600 (execIqRingTailDoorbell a0 a1 a2 a3) a3 := by
  intro a0 a1 a2 a3
  unfold execIqRingTailDoorbell
  repeat' (first | with_reducible exact Same.refl _ | with_reducible refine Same.ite ?_ ?_ | with_reducible refine within_done ?_ | with_reducible refine (iqDoorbell_same _ _ _ _).step rfl ?_ | intro _)

theorem iqTake_same : ∀ a0 a1 a2, Same 4299161600 a2 (iqTake a0 a1 a2) := by
  intro a0 a1 a2
  unfold iqTake
  repeat' (first | with_reducible exact Same.refl _ | with_reducible refine Same.ite ?_ ?_ | with_reducible refine (iqDrop_same _ _ _).step rfl ?_ | with_reducible refine (setIq_same _ _ _).step rfl ?_ | intro _ | split | (dsimp only; split))

theorem iqPullLoop_same : ∀ a0 a1 a2, Same 4299161600 a2 (iqPullLoop a0 a1 a2) := by
  intro a0 a1 a2
  fun_induction iqPullLoop a0 a1 a2
  all_goals repeat' (first | with_reducible exact Same.refl _ | refine Same.trans (by assumption) ?_ | with_reducible refine (iqTake_same _ _ _).step rfl ?_ | with_reducible refine (setIq_same _ _ _).step rfl ?_ | intro _ | split | (dsimp only; split))

theorem execIqPull_same : ∀ a0 a1, Within 1103810789377 (execIqPull a0 a1) a1 := by
  intro a0 a1
  unfold execIqPull
  repeat' (first | with_reducible exact Same.refl _ | with_reducible refine within_ite ?_ ?_ | with_reducible refine within_done ?_ | with_reducible refine (iqPullLoop_same _ _ _).step rfl ?_ | with_reducible refine (raiseVector_same _ _).step rfl ?_ | with_reducible refine (setIq_same _ _ _).step rfl ?_ | intro _ | split | (dsimp only; split))

theorem resetQueues_same : ∀ a0, Same 6291456 a0 (resetQueues a0) := by
  intro a0
  unfold resetQueues
  repeat' (first | with_reducible exact Same.refl _ | intro _ | with_reducible refine Same.oqs rfl ?_ | with_reducible refine Same.iqs rfl ?_ | with_reducible refine Same.update rfl ?_ ?_ | exact Fits.mk (fun c h => by cases c <;> first | exact absurd h (by decide) | with_reducible exact rfl))

theorem execTraceQlevel_same : ∀ a0, Within 1099511627777 (execTraceQlevel a0) a0 := by
  intro a0
  unfold execTraceQlevel
  repeat' (first | with_reducible exact Same.refl _ | with_reducible refine within_ite ?_ ?_ | with_reducible refine within_done ?_ | with_reducible refine (traceMsg_same _ _ _).step rfl ?_ | intro _)

theorem clearPeaks_same : ∀ a0, Same 6291456 a0 (clearPeaks a0) := by
  intro a0
  unfold clearPeaks
  repeat' (first | with_reducible exact Same.refl _ | intro _ | with_reducible refine Same.oqs rfl ?_ | with_reducible refine Same.iqs rfl ?_ | with_reducible refine Same.update rfl ?_ ?_ | exact Fits.mk (fun c h => by cases c <;> first | exact absurd h (by decide) | with_reducible exact rfl))

end Sys2Proof.Machine
end

