-- ==== Sys2Proof/Laws/FrameStore.lean ====
section
/-! SUPPORT. The frame of each definition of Machine/Store. -/

namespace Sys2Proof.Machine

theorem setInst_same : ∀ a0 a1, Same 4096 a1 (setInst a0 a1) := by
  intro a0 a1
  unfold setInst
  repeat' (first | with_reducible exact Same.refl _ | intro _ | with_reducible refine Same.mst rfl ?_ | with_reducible refine Same.update rfl ?_ ?_ | exact Fits.mk (fun c h => by cases c <;> first | exact absurd h (by decide) | with_reducible exact rfl))

theorem dropInst_same : ∀ a0 a1 a2, Same 4096 a2 (dropInst a0 a1 a2) := by
  intro a0 a1 a2
  unfold dropInst
  repeat' (first | with_reducible exact Same.refl _ | intro _ | with_reducible refine Same.mst rfl ?_ | with_reducible refine Same.update rfl ?_ ?_ | exact Fits.mk (fun c h => by cases c <;> first | exact absurd h (by decide) | with_reducible exact rfl))

theorem fbAlloc_same : ∀ a0 a1 a2 a3, ∀ t, fbAlloc a0 a1 a2 a3 = some t → Same 4096 a3 t.2 := by
  intro a0 a1 a2 a3 t h
  unfold fbAlloc at h
  dsimp only at h
  split at h <;> cases h
  exact Same.mst rfl (Same.refl _)

theorem fbSweep_same : ∀ a0, Same 4096 a0 (fbSweep a0) := by
  intro a0
  unfold fbSweep
  repeat' (first | with_reducible exact Same.refl _ | intro _ | with_reducible refine Same.mst rfl ?_ | with_reducible refine Same.update rfl ?_ ?_ | exact Fits.mk (fun c h => by cases c <;> first | exact absurd h (by decide) | with_reducible exact rfl))

theorem cellSweep_same : ∀ a0, Same 4096 a0 (cellSweep a0) := by
  intro a0
  unfold cellSweep
  repeat' (first | with_reducible exact Same.refl _ | with_reducible refine (fbSweep_same _).step rfl ?_ | intro _ | with_reducible refine Same.mst rfl ?_ | with_reducible refine Same.update rfl ?_ ?_ | exact Fits.mk (fun c h => by cases c <;> first | exact absurd h (by decide) | with_reducible exact rfl))

theorem unreference_same : ∀ a0 a1 a2, Same 4096 a2 (unreference a0 a1 a2) := by
  intro a0 a1 a2
  unfold unreference
  repeat' (first | with_reducible exact Same.refl _ | with_reducible refine (cellSweep_same _).step rfl ?_ | intro _ | with_reducible refine Same.mst rfl ?_ | with_reducible refine Same.update rfl ?_ ?_ | exact Fits.mk (fun c h => by cases c <;> first | exact absurd h (by decide) | with_reducible exact rfl))

theorem cellsPeak_same : ∀ a0, Same 4294967296 a0 (cellsPeak a0) := by
  intro a0
  unfold cellsPeak
  repeat' (first | with_reducible exact Same.refl _ | with_reducible refine Same.ite ?_ ?_ | intro _ | with_reducible refine Same.cnt rfl ?_ | with_reducible refine Same.update rfl ?_ ?_ | exact Fits.mk (fun c h => by cases c <;> first | exact absurd h (by decide) | with_reducible exact rfl))

theorem takeCell_same : ∀ a0 a1 a2 a3 a4, ∀ t, takeCell a0 a1 a2 a3 a4 = some t → Same 4294971392 a4 t := by
  intro a0 a1 a2 a3 a4 t h
  unfold takeCell at h
  split at h
  · cases h
  split at h
  · cases h
  next h1 =>
    cases h
    exact (cellsPeak_same _).step rfl (Same.mst rfl ((fbAlloc_same _ _ _ _ _ h1).of rfl))

theorem setStream_same : ∀ a0 a1 a2, Same 1024 a2 (setStream a0 a1 a2) := by
  intro a0 a1 a2
  unfold setStream
  repeat' (first | with_reducible exact Same.refl _ | intro _ | with_reducible refine Same.streams rfl ?_ | with_reducible refine Same.update rfl ?_ ?_ | exact Fits.mk (fun c h => by cases c <;> first | exact absurd h (by decide) | with_reducible exact rfl))

theorem countStream_same : ∀ a0 a1 a2, Same 4294968320 a2 (countStream a0 a1 a2) := by
  intro a0 a1 a2
  unfold countStream
  repeat' (first | with_reducible exact Same.refl _ | with_reducible refine (count_same _ _).step rfl ?_ | with_reducible refine (setStream_same _ _ _).step rfl ?_ | intro _)

theorem noteIngest_same : ∀ a0 a1 a2 a3, Same 1101659111425 a3 (noteIngest a0 a1 a2 a3) := by
  intro a0 a1 a2 a3
  unfold noteIngest
  repeat' (first | with_reducible exact Same.refl _ | with_reducible refine (note_same _ _ _ _ _ _ _).step rfl ?_ | intro _)

theorem histAdd_same : ∀ a0 a1 a2 a3, Same 1024 a3 (histAdd a0 a1 a2 a3) := by
  intro a0 a1 a2 a3
  unfold histAdd
  repeat' (first | with_reducible exact Same.refl _ | with_reducible refine (setStream_same _ _ _).step rfl ?_ | intro _)

theorem streamDrop_same : ∀ a0 a1, Same 1105954079745 a1 (streamDrop a0 a1) := by
  intro a0 a1
  unfold streamDrop
  repeat' (first | with_reducible exact Same.refl _ | with_reducible refine (count_same _ _).step rfl ?_ | with_reducible refine (noteIngest_same _ _ _ _).step rfl ?_ | with_reducible refine (setStream_same _ _ _).step rfl ?_ | intro _)

theorem streamMiss_same : ∀ a0 a1 a2 a3, Same 1105954079745 a3 (streamMiss a0 a1 a2 a3) := by
  intro a0 a1 a2 a3
  unfold streamMiss
  repeat' (first | with_reducible exact Same.refl _ | with_reducible refine Same.ite ?_ ?_ | with_reducible refine (histAdd_same _ _ _ _).step rfl ?_ | with_reducible refine (setStream_same _ _ _).step rfl ?_ | with_reducible refine (streamDrop_same _ _).step rfl ?_ | intro _ | split | (dsimp only; split))

theorem streamGood_same : ∀ a0 a1 a2, Same 1101659112449 a2 (streamGood a0 a1 a2) := by
  intro a0 a1 a2
  unfold streamGood
  repeat' (first | with_reducible exact Same.refl _ | with_reducible refine (histAdd_same _ _ _ _).step rfl ?_ | with_reducible refine (noteIngest_same _ _ _ _).step rfl ?_ | with_reducible refine (setStream_same _ _ _).step rfl ?_ | intro _ | split | (dsimp only; split))

theorem streamAccept_same : ∀ a0 a1 a2 a3, Same 1105954079745 a3 (streamAccept a0 a1 a2 a3) := by
  intro a0 a1 a2 a3
  unfold streamAccept
  repeat' (first | with_reducible exact Same.refl _ | with_reducible refine Same.ite ?_ ?_ | with_reducible refine (setStream_same _ _ _).step rfl ?_ | with_reducible refine (streamGood_same _ _ _).step rfl ?_ | with_reducible refine (streamMiss_same _ _ _ _).step rfl ?_ | intro _)

theorem streamRefused_same : ∀ a0 a1, Same 1209033294849 a1 (streamRefused a0 a1) := by
  intro a0 a1
  unfold streamRefused
  repeat' (first | with_reducible exact Same.refl _ | with_reducible refine Same.ite ?_ ?_ | with_reducible refine (countStream_same _ _ _).step rfl ?_ | with_reducible refine (noteIngest_same _ _ _ _).step rfl ?_ | intro _ | with_reducible refine Same.update rfl ?_ ?_ | exact Fits.mk (fun c h => by cases c <;> first | exact absurd h (by decide) | with_reducible exact rfl))

theorem setTmplRun_same : ∀ a0 a1 a2, Same 8192 a2 (setTmplRun a0 a1 a2) := by
  intro a0 a1 a2
  unfold setTmplRun
  repeat' (first | with_reducible exact Same.refl _ | intro _ | with_reducible refine Same.disp rfl ?_ | with_reducible refine Same.update rfl ?_ ?_ | exact Fits.mk (fun c h => by cases c <;> first | exact absurd h (by decide) | with_reducible exact rfl))

theorem noteData_same : ∀ a0 a1 a2 a3 a4, Same 1101659111425 a4 (noteData a0 a1 a2 a3 a4) := by
  intro a0 a1 a2 a3 a4
  unfold noteData
  repeat' (first | with_reducible exact Same.refl _ | with_reducible refine (note_same _ _ _ _ _ _ _).step rfl ?_ | intro _)

theorem instSettle_same : ∀ a0 a1, Same 4096 a1 (instSettle a0 a1) := by
  intro a0 a1
  unfold instSettle
  repeat' (first | with_reducible exact Same.refl _ | with_reducible refine Same.ite ?_ ?_ | with_reducible refine (dropInst_same _ _ _).step rfl ?_ | with_reducible refine (fbSweep_same _).step rfl ?_ | with_reducible refine (setInst_same _ _).step rfl ?_ | intro _)

theorem instTaskEnd_same : ∀ a0 a1 a2, Same 4096 a2 (instTaskEnd a0 a1 a2) := by
  intro a0 a1 a2
  unfold instTaskEnd
  repeat' (first | with_reducible exact Same.refl _ | with_reducible refine (instSettle_same _ _).step rfl ?_ | intro _ | split | (dsimp only; split))

theorem retryHeld_same : ∀ a0, Same 8192 a0 (retryHeld a0) := by
  intro a0
  unfold retryHeld
  repeat' (first | with_reducible exact Same.refl _ | intro _ | with_reducible refine Same.disp rfl ?_ | with_reducible refine Same.update rfl ?_ ?_ | exact Fits.mk (fun c h => by cases c <;> first | exact absurd h (by decide) | with_reducible exact rfl))

theorem skipCycle_same : ∀ a0 a1 a2 a3, Same 1105954086913 a3 (skipCycle a0 a1 a2 a3) := by
  intro a0 a1 a2 a3
  unfold skipCycle
  repeat' (first | with_reducible exact Same.refl _ | with_reducible refine Same.ite ?_ ?_ | with_reducible refine (count_same _ _).step rfl ?_ | with_reducible refine (noteI_same _ _ _ _ _ _ _ _).step rfl ?_ | intro _ | with_reducible refine Same.disp rfl ?_ | with_reducible refine Same.update rfl ?_ ?_ | exact Fits.mk (fun c h => by cases c <;> first | exact absurd h (by decide) | with_reducible exact rfl))

theorem removeTask_same : ∀ a0 a1, Same 8192 a1 (removeTask a0 a1) := by
  intro a0 a1
  unfold removeTask
  repeat' (first | with_reducible exact Same.refl _ | with_reducible refine (setTmplRun_same _ _ _).step rfl ?_ | intro _ | split | (dsimp only; split) | with_reducible refine Same.disp rfl ?_ | with_reducible refine Same.update rfl ?_ ?_ | exact Fits.mk (fun c h => by cases c <;> first | exact absurd h (by decide) | with_reducible exact rfl))

theorem schemeSkipNext_same : ∀ a0 a1, Same 1105954123777 a1 (schemeSkipNext a0 a1) := by
  intro a0 a1
  unfold schemeSkipNext
  repeat' (first | with_reducible exact Same.refl _ | with_reducible refine (instTaskEnd_same _ _ _).step rfl ?_ | with_reducible refine (removeTask_same _ _).step rfl ?_ | with_reducible refine (retryHeld_same _).step rfl ?_ | with_reducible refine (skipCycle_same _ _ _ _).step rfl ?_ | intro _ | split | (dsimp only; split) | with_reducible refine Same.schs rfl ?_ | with_reducible refine Same.update rfl ?_ ?_ | exact Fits.mk (fun c h => by cases c <;> first | exact absurd h (by decide) | with_reducible exact rfl))

theorem releaseDropped_same : ∀ a0 a1, Same 1105954091009 a1 (releaseDropped a0 a1) := by
  intro a0 a1
  unfold releaseDropped
  repeat' (first | with_reducible exact Same.refl _ | with_reducible refine Same.ite ?_ ?_ | with_reducible refine (instTaskEnd_same _ _ _).step rfl ?_ | with_reducible refine (skipCycle_same _ _ _ _).step rfl ?_ | intro _ | with_reducible refine Same.disp rfl ?_ | with_reducible refine Same.update rfl ?_ ?_ | exact Fits.mk (fun c h => by cases c <;> first | exact absurd h (by decide) | with_reducible exact rfl))

theorem releaseTask_same : ∀ a0 a1 a2 a3 a4 a5, Same 1105954123777 a5 (releaseTask a0 a1 a2 a3 a4 a5) := by
  intro a0 a1 a2 a3 a4 a5
  unfold releaseTask
  repeat' (first | with_reducible exact Same.refl _ | with_reducible refine Same.ite ?_ ?_ | with_reducible refine (count_same _ _).step rfl ?_ | with_reducible refine (instTaskEnd_same _ _ _).step rfl ?_ | with_reducible refine (noteData_same _ _ _ _ _).step rfl ?_ | with_reducible refine (releaseDropped_same _ _).step rfl ?_ | with_reducible refine (setTmplRun_same _ _ _).step rfl ?_ | with_reducible refine (skipCycle_same _ _ _ _).step rfl ?_ | intro _ | with_reducible refine Same.disp rfl ?_ | with_reducible refine Same.schs rfl ?_ | with_reducible refine Same.update rfl ?_ ?_ | exact Fits.mk (fun c h => by cases c <;> first | exact absurd h (by decide) | with_reducible exact rfl))

theorem setHeld_same : ∀ a0 a1 a2 a3, Same 4096 a3 (setHeld a0 a1 a2 a3) := by
  intro a0 a1 a2 a3
  unfold setHeld
  repeat' (first | with_reducible exact Same.refl _ | intro _ | with_reducible refine Same.mst rfl ?_ | with_reducible refine Same.update rfl ?_ ?_ | exact Fits.mk (fun c h => by cases c <;> first | exact absurd h (by decide) | with_reducible exact rfl))

theorem holdUpdate_same : ∀ a0 a1 a2, Same 4096 a2 (holdUpdate a0 a1 a2) := by
  intro a0 a1 a2
  unfold holdUpdate
  repeat' (first | with_reducible exact Same.refl _ | with_reducible refine Same.ite ?_ ?_ | with_reducible refine (setHeld_same _ _ _ _).step rfl ?_ | with_reducible refine Same.foldl ?_ ?_ | intro _)

theorem takeOpened_same : ∀ a0 a1 a2, Same 32768 a2 (takeOpened a0 a1 a2) := by
  intro a0 a1 a2
  unfold takeOpened
  repeat' (first | with_reducible exact Same.refl _ | with_reducible refine Same.ite ?_ ?_ | intro _ | with_reducible refine Same.schs rfl ?_ | with_reducible refine Same.update rfl ?_ ?_ | exact Fits.mk (fun c h => by cases c <;> first | exact absurd h (by decide) | with_reducible exact rfl))

theorem fireInst_same : ∀ a0 a1 a2 a3 a4, Same 1105954123777 a4 (fireInst a0 a1 a2 a3 a4) := by
  intro a0 a1 a2 a3 a4
  unfold fireInst
  repeat' (first | with_reducible exact Same.refl _ | with_reducible refine (count_same _ _).step rfl ?_ | with_reducible refine (countBy_same _ _ _).step rfl ?_ | with_reducible refine (holdUpdate_same _ _ _).step rfl ?_ | with_reducible refine (instSettle_same _ _).step rfl ?_ | with_reducible refine (releaseTask_same _ _ _ _ _ _).step rfl ?_ | with_reducible refine (takeOpened_same _ _ _).step rfl ?_ | with_reducible refine (traceMatch_same _ _ _ _ _).step rfl ?_ | with_reducible refine (unreference_same _ _ _).step rfl ?_ | with_reducible refine Same.foldl ?_ ?_ | intro _ | with_reducible refine Same.mst rfl ?_ | with_reducible refine Same.update rfl ?_ ?_ | exact Fits.mk (fun c h => by cases c <;> first | exact absurd h (by decide) | with_reducible exact rfl))

theorem fireWaiting_same : ∀ a0 a1 a2 a3 a4, Same 1105954123777 a4 (fireWaiting a0 a1 a2 a3 a4) := by
  intro a0 a1 a2 a3 a4
  fun_induction fireWaiting a0 a1 a2 a3 a4
  all_goals repeat' (first | with_reducible exact Same.refl _ | refine Same.trans (by assumption) ?_ | with_reducible refine (fireInst_same _ _ _ _ _).step rfl ?_ | intro _ | split | (dsimp only; split))

theorem fire_same : ∀ a0 a1 a2 a3 a4, Same 1105954123777 a4 (fire a0 a1 a2 a3 a4) := by
  intro a0 a1 a2 a3 a4
  unfold fire
  repeat' (first | with_reducible exact Same.refl _ | with_reducible refine (fireInst_same _ _ _ _ _).step rfl ?_ | with_reducible refine (fireWaiting_same _ _ _ _ _).step rfl ?_ | intro _)

theorem joinInst_same : ∀ a0 a1 a2 a3 a4, Same 1105954123777 a4 (joinInst a0 a1 a2 a3 a4) := by
  intro a0 a1 a2 a3 a4
  unfold joinInst
  repeat' (first | with_reducible exact Same.refl _ | with_reducible refine Same.ite ?_ ?_ | with_reducible refine (count_same _ _).step rfl ?_ | with_reducible refine (fire_same _ _ _ _ _).step rfl ?_ | with_reducible refine (setInst_same _ _).step rfl ?_ | with_reducible refine (traceMatch_same _ _ _ _ _).step rfl ?_ | intro _)

theorem operandWritten_same : ∀ a0 a1 a2 a3, Same 1105954123777 a3 (operandWritten a0 a1 a2 a3) := by
  intro a0 a1 a2 a3
  unfold operandWritten
  repeat' (first | with_reducible exact Same.refl _ | with_reducible refine (cellSweep_same _).step rfl ?_ | with_reducible refine (joinInst_same _ _ _ _ _).step rfl ?_ | with_reducible refine Same.foldl ?_ ?_ | intro _)

theorem limitPassed_same : ∀ a0 a1 a2, Same 4096 a2 (limitPassed a0 a1 a2) := by
  intro a0 a1 a2
  unfold limitPassed
  repeat' (first | with_reducible exact Same.refl _ | with_reducible refine (cellSweep_same _).step rfl ?_ | intro _ | with_reducible refine Same.mst rfl ?_ | with_reducible refine Same.update rfl ?_ ?_ | exact Fits.mk (fun c h => by cases c <;> first | exact absurd h (by decide) | with_reducible exact rfl))

theorem noteMissed_same : ∀ a0 a1 a2, Same 1105954079745 a2 (noteMissed a0 a1 a2) := by
  intro a0 a1 a2
  unfold noteMissed
  repeat' (first | with_reducible exact Same.refl _ | with_reducible refine (setStream_same _ _ _).step rfl ?_ | with_reducible refine (streamMiss_same _ _ _ _).step rfl ?_ | intro _)

theorem judgeMissing_same : ∀ a0 a1 a2 a3, Same 1105954079745 a3 (judgeMissing a0 a1 a2 a3) := by
  intro a0 a1 a2 a3
  unfold judgeMissing
  repeat' (first | with_reducible exact Same.refl _ | with_reducible refine Same.ite ?_ ?_ | with_reducible refine (noteMissed_same _ _ _).step rfl ?_ | with_reducible refine Same.foldl ?_ ?_ | intro _ | split | (dsimp only; split))

theorem evaluateDeadline_same : ∀ a0 a1 a2, Same 1105954124801 a2 (evaluateDeadline a0 a1 a2) := by
  intro a0 a1 a2
  unfold evaluateDeadline
  repeat' (first | with_reducible exact Same.refl _ | with_reducible refine Same.ite ?_ ?_ | with_reducible refine (fire_same _ _ _ _ _).step rfl ?_ | with_reducible refine (judgeMissing_same _ _ _ _).step rfl ?_ | with_reducible refine (traceDeadline_same _ _ _).step rfl ?_ | intro _ | split | (dsimp only; split))

theorem deadlineIssue_same : ∀ a0 a1 a2, Same 4096 a2 (deadlineIssue a0 a1 a2) := by
  intro a0 a1 a2
  unfold deadlineIssue
  repeat' (first | with_reducible exact Same.refl _ | intro _ | split | (dsimp only; split) | with_reducible refine Same.mst rfl ?_ | with_reducible refine Same.update rfl ?_ ?_ | exact Fits.mk (fun c h => by cases c <;> first | exact absurd h (by decide) | with_reducible exact rfl))

theorem rowDeadlineEvaluation_same : ∀ a0 a1 a2, Within 1107027866633 (rowDeadlineEvaluation a0 a1 a2) a2 := by
  intro a0 a1 a2
  unfold rowDeadlineEvaluation
  repeat' (first | with_reducible exact Same.refl _ | with_reducible refine within_ite ?_ ?_ | with_reducible refine within_done ?_ | with_reducible refine (advanceTo_same _ _).step rfl ?_ | with_reducible refine (evaluateDeadline_same _ _ _).step rfl ?_ | with_reducible refine Same.foldl ?_ ?_ | intro _ | split | (dsimp only; split) | with_reducible refine Same.mst rfl ?_ | with_reducible refine Same.update rfl ?_ ?_ | exact Fits.mk (fun c h => by cases c <;> first | exact absurd h (by decide) | with_reducible exact rfl))

theorem setCore_same : ∀ a0 a1 a2, Same 8192 a2 (setCore a0 a1 a2) := by
  intro a0 a1 a2
  unfold setCore
  repeat' (first | with_reducible exact Same.refl _ | intro _ | with_reducible refine Same.disp rfl ?_ | with_reducible refine Same.update rfl ?_ ?_ | exact Fits.mk (fun c h => by cases c <;> first | exact absurd h (by decide) | with_reducible exact rfl))

theorem execReadyHeldRetry_same : ∀ a0, Within 8192 (execReadyHeldRetry a0) a0 := by
  intro a0
  unfold execReadyHeldRetry
  repeat' (first | with_reducible exact Same.refl _ | with_reducible refine within_done ?_ | with_reducible refine (retryHeld_same _).step rfl ?_ | intro _)

theorem execTaskDispatch_same : ∀ a0, Within 1103806603265 (execTaskDispatch a0) a0 := by
  intro a0
  unfold execTaskDispatch
  repeat' (first | with_reducible exact Same.refl _ | with_reducible refine Same.ite ?_ ?_ | with_reducible refine within_done ?_ | with_reducible refine (count_same _ _).step rfl ?_ | with_reducible refine (retryHeld_same _).step rfl ?_ | with_reducible refine (setCore_same _ _ _).step rfl ?_ | with_reducible refine (setTmplRun_same _ _ _).step rfl ?_ | with_reducible refine (traceDispatch_same _ _ _ _ _).step rfl ?_ | intro _ | split | (dsimp only; split) | with_reducible refine Same.disp rfl ?_ | with_reducible refine Same.update rfl ?_ ?_ | exact Fits.mk (fun c h => by cases c <;> first | exact absurd h (by decide) | with_reducible exact rfl))

theorem execTaskStart_same : ∀ a0 a1, Within 8192 (execTaskStart a0 a1) a1 := by
  intro a0 a1
  unfold execTaskStart
  repeat' (first | with_reducible exact Same.refl _ | with_reducible refine within_done ?_ | with_reducible refine (setCore_same _ _ _).step rfl ?_ | intro _ | split | (dsimp only; split))

theorem taskEnd_same : ∀ a0 a1 a2, Same 2109440 a2 (taskEnd a0 a1 a2) := by
  intro a0 a1 a2
  unfold taskEnd
  repeat' (first | with_reducible exact Same.refl _ | with_reducible refine Same.ite ?_ ?_ | with_reducible refine (instTaskEnd_same _ _ _).step rfl ?_ | with_reducible refine (oqForget_same _ _).step rfl ?_ | with_reducible refine (setCore_same _ _ _).step rfl ?_ | with_reducible refine (setTmplRun_same _ _ _).step rfl ?_ | intro _)

theorem execWcetBudgetReached_same : ∀ a0 a1, Within 1107027865609 (execWcetBudgetReached a0 a1) a1 := by
  intro a0 a1
  unfold execWcetBudgetReached
  repeat' (first | with_reducible exact Same.refl _ | with_reducible refine Same.ite ?_ ?_ | with_reducible refine within_ite ?_ ?_ | with_reducible refine within_done ?_ | with_reducible refine (advanceTo_same _ _).step rfl ?_ | with_reducible refine (count_same _ _).step rfl ?_ | with_reducible refine (schemeSkipNext_same _ _).step rfl ?_ | with_reducible refine (setCore_same _ _ _).step rfl ?_ | with_reducible refine (setIrq_same _ _).step rfl ?_ | with_reducible refine (traceOverrun_same _ _ _ _ _).step rfl ?_ | intro _ | split | (dsimp only; split))

theorem writeProduced_same : ∀ a0 a1 a2 a3 a4, Same 1105954123777 a4 (writeProduced a0 a1 a2 a3 a4) := by
  intro a0 a1 a2 a3 a4
  unfold writeProduced
  repeat' (first | with_reducible exact Same.refl _ | with_reducible refine (count_same _ _).step rfl ?_ | with_reducible refine (operandWritten_same _ _ _ _).step rfl ?_ | refine (takeCell_same _ _ _ _ _ _ (by assumption)).step rfl ?_ | intro _ | split | (dsimp only; split))

theorem writeOperandOf_same : ∀ a0 a1 a2 a3, Same 1105954123777 a3 (writeOperandOf a0 a1 a2 a3) := by
  intro a0 a1 a2 a3
  unfold writeOperandOf
  repeat' (first | with_reducible exact Same.refl _ | with_reducible refine Same.ite ?_ ?_ | with_reducible refine (writeProduced_same _ _ _ _ _).step rfl ?_ | intro _)

end Sys2Proof.Machine
end

