-- ==== Sys2Proof/Laws/FrameFilter.lean ====
section
/-! SUPPORT. The frame of each definition of Machine/Filter. -/

namespace Sys2Proof.Machine

theorem countIf_same : ∀ a0 a1 a2, Same 4294967296 a2 (countIf a0 a1 a2) := by
  intro a0 a1 a2
  unfold countIf
  repeat' (first | with_reducible exact Same.refl _ | with_reducible refine Same.ite ?_ ?_ | with_reducible refine (count_same _ _).step rfl ?_ | intro _)

theorem fciOutput_same : ∀ a0 a1 a2 a3 a4 a5 a6 a7 a8, Same 4294967296 a8 (fciOutput a0 a1 a2 a3 a4 a5 a6 a7 a8).2 := by
  intro a0 a1 a2 a3 a4 a5 a6 a7 a8
  unfold fciOutput
  repeat' (first | with_reducible exact Same.refl _ | with_reducible refine Same.ite_snd ?_ ?_ | with_reducible refine (countIf_same _ _ _).step rfl ?_ | intro _ | split | (dsimp only; split))

theorem setFilter_same : ∀ a0 a1 a2, Same 2048 a2 (setFilter a0 a1 a2) := by
  intro a0 a1 a2
  unfold setFilter
  repeat' (first | with_reducible exact Same.refl _ | intro _ | with_reducible refine Same.filters rfl ?_ | with_reducible refine Same.update rfl ?_ ?_ | exact Fits.mk (fun c h => by cases c <;> first | exact absurd h (by decide) | with_reducible exact rfl))

theorem stepDetect_same : ∀ a0 a1 a2 a3 a4 a5 a6, Same 4294969344 a6 (stepDetect a0 a1 a2 a3 a4 a5 a6) := by
  intro a0 a1 a2 a3 a4 a5 a6
  unfold stepDetect
  repeat' (first | with_reducible exact Same.refl _ | with_reducible refine Same.ite ?_ ?_ | with_reducible refine (countBy_same _ _ _).step rfl ?_ | with_reducible refine (setFilter_same _ _ _).step rfl ?_ | with_reducible refine Same.foldl ?_ ?_ | intro _ | split | (dsimp only; split))

theorem consumeSample_same : ∀ a0 a1 a2 a3 a4 a5, Same 1105954081793 a4 (consumeSample a0 a1 a2 a3 a4 a5) := by
  intro a0 a1 a2 a3 a4 a5
  unfold consumeSample
  repeat' (first | with_reducible exact Same.refl _ | with_reducible refine Same.ite ?_ ?_ | with_reducible refine (count_same _ _).step rfl ?_ | with_reducible refine (countBy_same _ _ _).step rfl ?_ | with_reducible refine (setFilter_same _ _ _).step rfl ?_ | with_reducible refine (setStream_same _ _ _).step rfl ?_ | with_reducible refine (streamGood_same _ _ _).step rfl ?_ | with_reducible refine (streamMiss_same _ _ _ _).step rfl ?_ | intro _ | split | (dsimp only; split))

theorem stagingCell_same : ∀ a0 a1 a2 a3, ∀ t, stagingCell a0 a1 a2 a3 = some t → Same 4294971392 a3 t := by
  intro a0 a1 a2 a3 t h
  unfold stagingCell at h
  split at h
  · cases h; exact Same.refl _
  · exact takeCell_same _ _ _ _ _ _ h

theorem filterRelease_same : ∀ a0 a1 a2 a3 a4 a5, Same 1209033341953 a5 (filterRelease a0 a1 a2 a3 a4 a5) := by
  intro a0 a1 a2 a3 a4 a5
  unfold filterRelease
  repeat' (first | with_reducible exact Same.refl _ | with_reducible refine (consumeSample_same _ _ _ _ _ _).step rfl ?_ | with_reducible refine (releaseTask_same _ _ _ _ _ _).step rfl ?_ | with_reducible refine (setFilter_same _ _ _).step rfl ?_ | refine (stagingCell_same _ _ _ _ _ (by assumption)).step rfl ?_ | with_reducible refine (streamRefused_same _ _).step rfl ?_ | with_reducible refine Same.foldl ?_ ?_ | intro _ | split | (dsimp only; split))

theorem filterReady_same : ∀ a0 a1 a2 a3 a4 a5, Same 1209033341953 a5 (filterReady a0 a1 a2 a3 a4 a5) := by
  intro a0 a1 a2 a3 a4 a5
  fun_induction filterReady a0 a1 a2 a3 a4 a5
  all_goals repeat' (first | with_reducible exact Same.refl _ | refine Same.trans (by assumption) ?_ | with_reducible refine (filterRelease_same _ _ _ _ _ _).step rfl ?_ | intro _)

theorem filterDrain_same : ∀ a0 a1 a2 a3 a4, Same 1209033341953 a4 (filterDrain a0 a1 a2 a3 a4) := by
  intro a0 a1 a2 a3 a4
  unfold filterDrain
  repeat' (first | with_reducible exact Same.refl _ | with_reducible refine (filterReady_same _ _ _ _ _ _).step rfl ?_ | intro _)

theorem filterUpTo_same : ∀ a0 a1 a2 a3 a4 a5 a6 a7, Same 1209033341953 a7 (filterUpTo a0 a1 a2 a3 a4 a5 a6 a7) := by
  intro a0 a1 a2 a3 a4 a5 a6 a7
  fun_induction filterUpTo a0 a1 a2 a3 a4 a5 a6 a7
  all_goals repeat' (first | with_reducible exact Same.refl _ | refine Same.trans (by assumption) ?_ | with_reducible refine (filterRelease_same _ _ _ _ _ _).step rfl ?_ | intro _)

theorem releaseIssue_same : ∀ a0 a1 a2 a3, Same 1209033341953 a3 (releaseIssue a0 a1 a2 a3) := by
  intro a0 a1 a2 a3
  unfold releaseIssue
  repeat' (first | with_reducible exact Same.refl _ | with_reducible refine (filterDrain_same _ _ _ _ _).step rfl ?_ | with_reducible refine (filterUpTo_same _ _ _ _ _ _ _ _).step rfl ?_ | intro _ | split | (dsimp only; split))

theorem filterEval_same : ∀ a0 a1, Same 4294969344 a1 (filterEval a0 a1).2 := by
  intro a0 a1
  unfold filterEval
  repeat' (first | with_reducible exact Same.refl _ | with_reducible refine (fciOutput_same _ _ _ _ _ _ _ _ _).step rfl ?_ | with_reducible refine (stepDetect_same _ _ _ _ _ _ _).step rfl ?_ | with_reducible refine Same.foldl2 ?_ ?_ | intro _ | split | (dsimp only; split))

theorem filterPut_same : ∀ a0 a1 a2, Same 1105954123777 a2 (filterPut a0 a1 a2) := by
  intro a0 a1 a2
  unfold filterPut
  repeat' (first | with_reducible exact Same.refl _ | with_reducible refine Same.ite ?_ ?_ | with_reducible refine (operandWritten_same _ _ _ _).step rfl ?_ | intro _ | split | (dsimp only; split) | with_reducible refine Same.mst rfl ?_ | with_reducible refine Same.update rfl ?_ ?_ | exact Fits.mk (fun c h => by cases c <;> first | exact absurd h (by decide) | with_reducible exact rfl))

theorem filterWrite_same : ∀ a0 a1, Same 1105954125825 a1 (filterWrite a0 a1) := by
  intro a0 a1
  unfold filterWrite
  repeat' (first | with_reducible exact Same.refl _ | with_reducible refine (filterEval_same _ _).step rfl ?_ | with_reducible refine (filterPut_same _ _ _).step rfl ?_ | intro _)

theorem filterDropped_same : ∀ a0 a1, Same 6144 a1 (filterDropped a0 a1) := by
  intro a0 a1
  unfold filterDropped
  repeat' (first | with_reducible exact Same.refl _ | with_reducible refine (cellSweep_same _).step rfl ?_ | with_reducible refine (setFilter_same _ _ _).step rfl ?_ | intro _ | split | (dsimp only; split) | with_reducible refine Same.mst rfl ?_ | with_reducible refine Same.update rfl ?_ ?_ | exact Fits.mk (fun c h => by cases c <;> first | exact absurd h (by decide) | with_reducible exact rfl))

theorem refBusUpdate_same : ∀ a0 a1 a2, Same 4294967344 a2 (refBusUpdate a0 a1 a2) := by
  intro a0 a1 a2
  unfold refBusUpdate
  repeat' (first | with_reducible exact Same.refl _ | with_reducible refine Same.ite ?_ ?_ | with_reducible refine (count_same _ _).step rfl ?_ | with_reducible refine (refSample_same _ _).step rfl ?_ | intro _ | split | (dsimp only; split))

end Sys2Proof.Machine
end

