-- ==== Sys2Proof/Laws/FrameCapture.lean ====
section
/-! SUPPORT. The frame of each definition of Machine/Capture. -/

namespace Sys2Proof.Machine

theorem setCap_same : ∀ a0 a1 a2, Same 1048576 a2 (setCap a0 a1 a2) := by
  intro a0 a1 a2
  unfold setCap
  repeat' (first | with_reducible exact Same.refl _ | intro _ | with_reducible refine Same.caps rfl ?_ | with_reducible refine Same.update rfl ?_ ?_ | exact Fits.mk (fun c h => by cases c <;> first | exact absurd h (by decide) | with_reducible exact rfl))

theorem capDone_same : ∀ a0 a1 a2, Same 1048576 a2 (capDone a0 a1 a2) := by
  intro a0 a1 a2
  unfold capDone
  repeat' (first | with_reducible exact Same.refl _ | with_reducible refine (setCap_same _ _ _).step rfl ?_ | intro _ | split | (dsimp only; split))

theorem capDrain_same : ∀ a0 a1 a2, Same 1105957224449 a2 (capDrain a0 a1 a2) := by
  intro a0 a1 a2
  fun_induction capDrain a0 a1 a2
  all_goals repeat' (first | with_reducible exact Same.refl _ | refine Same.trans (by assumption) ?_ | with_reducible refine (capDone_same _ _ _).step rfl ?_ | with_reducible refine (oqForget_same _ _).step rfl ?_ | with_reducible refine (oqPut_same _ _ _ _).step rfl ?_ | with_reducible refine (oqStall_same _ _ _ _).step rfl ?_ | with_reducible refine (setCap_same _ _ _).step rfl ?_ | intro _ | split | (dsimp only; split))

theorem capEmit_same : ∀ a0 a1 a2 a3 a4, Same 1105957224449 a4 (capEmit a0 a1 a2 a3 a4) := by
  intro a0 a1 a2 a3 a4
  unfold capEmit
  repeat' (first | with_reducible exact Same.refl _ | with_reducible refine Same.ite ?_ ?_ | with_reducible refine (capDrain_same _ _ _).step rfl ?_ | with_reducible refine (countBy_same _ _ _).step rfl ?_ | with_reducible refine (setCap_same _ _ _).step rfl ?_ | intro _ | split | (dsimp only; split))

theorem nextPkt_same : ∀ a0 a1, Same 1048576 a1 (nextPkt a0 a1).2 := by
  intro a0 a1
  unfold nextPkt
  repeat' (first | with_reducible exact Same.refl _ | with_reducible refine (setCap_same _ _ _).step rfl ?_ | intro _ | split | (dsimp only; split))

theorem capChained_same : ∀ a0 a1 a2 a3, Same 1105957224449 a3 (capChained a0 a1 a2 a3) := by
  intro a0 a1 a2 a3
  unfold capChained
  repeat' (first | with_reducible exact Same.refl _ | with_reducible refine (capEmit_same _ _ _ _ _).step rfl ?_ | with_reducible refine (setCap_same _ _ _).step rfl ?_ | intro _ | split | (dsimp only; split))

theorem sealCap_same : ∀ a0 a1, Same 1105957224449 a1 (sealCap a0 a1) := by
  intro a0 a1
  unfold sealCap
  repeat' (first | with_reducible exact Same.refl _ | with_reducible refine Same.ite ?_ ?_ | with_reducible refine (capEmit_same _ _ _ _ _).step rfl ?_ | with_reducible refine (count_same _ _).step rfl ?_ | with_reducible refine (nextPkt_same _ _).step rfl ?_ | with_reducible refine (setCap_same _ _ _).step rfl ?_ | with_reducible refine (useRefused_same _).step rfl ?_ | intro _ | split | (dsimp only; split))

theorem execClassPSeal_same : ∀ a0 a1, Within 1107030966281 (execClassPSeal a0 a1) a1 := by
  intro a0 a1
  unfold execClassPSeal
  repeat' (first | with_reducible exact Same.refl _ | with_reducible refine within_ite ?_ ?_ | with_reducible refine within_done ?_ | with_reducible refine (advanceTo_same _ _).step rfl ?_ | with_reducible refine (sealCap_same _ _).step rfl ?_ | with_reducible refine (setCap_same _ _ _).step rfl ?_ | intro _ | split | (dsimp only; split))

theorem ringSlotWrite_same : ∀ a0 a1 a2, Same 1048576 a2 (ringSlotWrite a0 a1 a2) := by
  intro a0 a1 a2
  unfold ringSlotWrite
  repeat' (first | with_reducible exact Same.refl _ | intro _ | split | (dsimp only; split) | with_reducible refine Same.caps rfl ?_ | with_reducible refine Same.update rfl ?_ ?_ | exact Fits.mk (fun c h => by cases c <;> first | exact absurd h (by decide) | with_reducible exact rfl))

theorem execCapRingMarker_same : ∀ a0 a1 a2, Within 3222274056 (execCapRingMarker a0 a1 a2) a2 := by
  intro a0 a1 a2
  unfold execCapRingMarker
  repeat' (first | with_reducible exact Same.refl _ | with_reducible refine within_ite ?_ ?_ | with_reducible refine within_done ?_ | with_reducible refine (advanceTo_same _ _).step rfl ?_ | with_reducible refine (ringSlotWrite_same _ _ _).step rfl ?_ | intro _ | split | (dsimp only; split))

theorem ringTake_same : ∀ a0 a1 a2 a3 a4 a5, Same 4296015872 a5 (ringTake a0 a1 a2 a3 a4 a5) := by
  intro a0 a1 a2 a3 a4 a5
  unfold ringTake
  repeat' (first | with_reducible exact Same.refl _ | with_reducible refine Same.ite ?_ ?_ | with_reducible refine (count_same _ _).step rfl ?_ | with_reducible refine (ringSlotWrite_same _ _ _).step rfl ?_ | intro _ | split | (dsimp only; split))

theorem openRecord_same : ∀ a0 a1 a2 a3, Same 1048576 a3 (openRecord a0 a1 a2 a3) := by
  intro a0 a1 a2 a3
  unfold openRecord
  repeat' (first | with_reducible exact Same.refl _ | with_reducible refine (setCap_same _ _ _).step rfl ?_ | intro _ | split | (dsimp only; split))

theorem closeRecord_same : ∀ a0 a1, Same 1105957224449 a1 (closeRecord a0 a1) := by
  intro a0 a1
  unfold closeRecord
  repeat' (first | with_reducible exact Same.refl _ | with_reducible refine Same.ite ?_ ?_ | with_reducible refine (capEmit_same _ _ _ _ _).step rfl ?_ | with_reducible refine (count_same _ _).step rfl ?_ | with_reducible refine (countBy_same _ _ _).step rfl ?_ | with_reducible refine (setCap_same _ _ _).step rfl ?_ | with_reducible refine (useRefused_same _).step rfl ?_ | intro _ | split | (dsimp only; split))

theorem execCapRecordClose_same : ∀ a0 a1, Within 1107030966281 (execCapRecordClose a0 a1) a1 := by
  intro a0 a1
  unfold execCapRecordClose
  repeat' (first | with_reducible exact Same.refl _ | with_reducible refine Same.ite ?_ ?_ | with_reducible refine within_ite ?_ ?_ | with_reducible refine within_done ?_ | with_reducible refine (advanceTo_same _ _).step rfl ?_ | with_reducible refine (closeRecord_same _ _).step rfl ?_ | intro _ | split | (dsimp only; split))

theorem closeSegments_same : ∀ a0 a1 a2, Same 1105957224449 a2 (closeSegments a0 a1 a2) := by
  intro a0 a1 a2
  unfold closeSegments
  repeat' (first | with_reducible exact Same.refl _ | with_reducible refine Same.ite ?_ ?_ | with_reducible refine (capChained_same _ _ _ _).step rfl ?_ | with_reducible refine (countBy_same _ _ _).step rfl ?_ | with_reducible refine (nextPkt_same _ _).step rfl ?_ | with_reducible refine (setCap_same _ _ _).step rfl ?_ | with_reducible refine Same.foldl ?_ ?_ | intro _ | split | (dsimp only; split))

theorem archiveWork_same : ∀ a0 a1 a2, Same 1105957224449 a2 (archiveWork a0 a1 a2) := by
  intro a0 a1 a2
  unfold archiveWork
  repeat' (first | with_reducible exact Same.refl _ | with_reducible refine Same.ite ?_ ?_ | with_reducible refine (closeSegments_same _ _ _).step rfl ?_ | with_reducible refine (setCap_same _ _ _).step rfl ?_ | intro _ | split | (dsimp only; split))

theorem lateLane_same : ∀ a0 a1 a2 a3 a4, Same 1105957224449 a4 (lateLane a0 a1 a2 a3 a4) := by
  intro a0 a1 a2 a3 a4
  unfold lateLane
  repeat' (first | with_reducible exact Same.refl _ | with_reducible refine Same.ite ?_ ?_ | with_reducible refine (count_same _ _).step rfl ?_ | with_reducible refine (nextPkt_same _ _).step rfl ?_ | with_reducible refine (oqNoWait_same _ _ _ _).step rfl ?_ | with_reducible refine (setCap_same _ _ _).step rfl ?_ | with_reducible refine Same.foldl ?_ ?_ | intro _ | split | (dsimp only; split))

theorem writeMark_same : ∀ a0 a1 a2, Same 1105957224449 a2 (writeMark a0 a1 a2) := by
  intro a0 a1 a2
  unfold writeMark
  repeat' (first | with_reducible exact Same.refl _ | with_reducible refine (capChained_same _ _ _ _).step rfl ?_ | with_reducible refine (nextPkt_same _ _).step rfl ?_ | intro _ | split | (dsimp only; split))

theorem acceptTrigger_same : ∀ a0 a1 a2 a3, Same 1106494095457 a3 (acceptTrigger a0 a1 a2 a3) := by
  intro a0 a1 a2 a3
  unfold acceptTrigger
  repeat' (first | with_reducible exact Same.refl _ | with_reducible refine Same.ite ?_ ?_ | with_reducible refine (addPhase_same _ _ _ _).step rfl ?_ | with_reducible refine (count_same _ _).step rfl ?_ | with_reducible refine (openRecord_same _ _ _ _).step rfl ?_ | with_reducible refine (setCap_same _ _ _).step rfl ?_ | with_reducible refine (writeMark_same _ _ _).step rfl ?_ | intro _ | split | (dsimp only; split) | with_reducible refine Same.cas rfl ?_ | with_reducible refine Same.update rfl ?_ ?_ | exact Fits.mk (fun c h => by cases c <;> first | exact absurd h (by decide) | with_reducible exact rfl))

theorem triggerCap_same : ∀ a0 a1 a2 a3, Same 1106494095457 a3 (triggerCap a0 a1 a2 a3).1 := by
  intro a0 a1 a2 a3
  unfold triggerCap
  repeat' (first | with_reducible exact Same.refl _ | with_reducible refine Same.ite_fst ?_ ?_ | with_reducible refine (acceptTrigger_same _ _ _ _).step rfl ?_ | with_reducible refine (count_same _ _).step rfl ?_ | with_reducible refine (setCap_same _ _ _).step rfl ?_ | intro _ | split | (dsimp only; split))

theorem triggerAll_same : ∀ a0 a1 a2, Same 1106494095457 a2 (triggerAll a0 a1 a2) := by
  intro a0 a1 a2
  unfold triggerAll
  repeat' (first | with_reducible exact Same.refl _ | with_reducible refine Same.ite ?_ ?_ | with_reducible refine (triggerCap_same _ _ _ _).step rfl ?_ | with_reducible refine Same.foldl ?_ ?_ | intro _)

theorem crossTrigger_same : ∀ a0 a1 a2, Same 1105957224545 a2 (crossTrigger a0 a1 a2) := by
  intro a0 a1 a2
  unfold crossTrigger
  repeat' (first | with_reducible exact Same.refl _ | with_reducible refine Same.ite ?_ ?_ | with_reducible refine (addPhase_same _ _ _ _).step rfl ?_ | with_reducible refine (openRecord_same _ _ _ _).step rfl ?_ | with_reducible refine (setCap_same _ _ _).step rfl ?_ | with_reducible refine (writeMark_same _ _ _).step rfl ?_ | intro _ | split | (dsimp only; split))

theorem captureTaken_same : ∀ a0 a1 a2 a3 a4 a5 a6 a7 a8, Same 1106494095457 a8 (captureTaken a0 a1 a2 a3 a4 a5 a6 a7 a8) := by
  intro a0 a1 a2 a3 a4 a5 a6 a7 a8
  unfold captureTaken
  repeat' (first | with_reducible exact Same.refl _ | with_reducible refine Same.ite ?_ ?_ | with_reducible refine (openRecord_same _ _ _ _).step rfl ?_ | with_reducible refine (triggerCap_same _ _ _ _).step rfl ?_ | intro _)

theorem armCap_same : ∀ a0 a1 a2, Same 1105957224449 a2 (armCap a0 a1 a2) := by
  intro a0 a1 a2
  unfold armCap
  repeat' (first | with_reducible exact Same.refl _ | with_reducible refine Same.ite ?_ ?_ | with_reducible refine (closeSegments_same _ _ _).step rfl ?_ | with_reducible refine (sealCap_same _ _).step rfl ?_ | with_reducible refine (setCap_same _ _ _).step rfl ?_ | intro _ | split | (dsimp only; split))

theorem deliverOne_same : ∀ a0 a1 a2, Same 1105957224449 a1 (deliverOne a0 a1 a2) := by
  intro a0 a1 a2
  unfold deliverOne
  repeat' (first | with_reducible exact Same.refl _ | with_reducible refine Same.ite ?_ ?_ | with_reducible refine (capChained_same _ _ _ _).step rfl ?_ | with_reducible refine (capEmit_same _ _ _ _ _).step rfl ?_ | intro _ | split | (dsimp only; split))

theorem deliverShadow_same : ∀ a0, Same 1105957224449 a0 (deliverShadow a0) := by
  intro a0
  unfold deliverShadow
  repeat' (first | with_reducible exact Same.refl _ | with_reducible refine (deliverOne_same _ _ _).step rfl ?_ | with_reducible refine (setCap_same _ _ _).step rfl ?_ | with_reducible refine Same.foldl ?_ ?_ | intro _ | split | (dsimp only; split))

theorem confirmShadow_same : ∀ a0 a1 a2, Same 1048576 a2 (confirmShadow a0 a1 a2) := by
  intro a0 a1 a2
  unfold confirmShadow
  repeat' (first | with_reducible exact Same.refl _ | with_reducible refine (setCap_same _ _ _).step rfl ?_ | intro _ | split | (dsimp only; split))

end Sys2Proof.Machine
end

