-- ==== Sys2Proof/Laws/FrameNet.lean ====
section
/-! SUPPORT. The frame of each definition of Machine/Net. -/

namespace Sys2Proof.Machine

theorem setRing_same : ∀ a0 a1 a2 a3, Same 16777216 a3 (setRing a0 a1 a2 a3) := by
  intro a0 a1 a2 a3
  unfold setRing
  repeat' (first | with_reducible exact Same.refl _ | with_reducible refine (setPort_same _ _ _).step rfl ?_ | intro _)

theorem pfcXoff_same : ∀ a0 a1 a2, Same 1103823372288 a2 (pfcXoff a0 a1 a2) := by
  intro a0 a1 a2
  unfold pfcXoff
  repeat' (first | with_reducible exact Same.refl _ | with_reducible refine (countPort_same _ _ _).step rfl ?_ | with_reducible refine (emit_same _ _).step rfl ?_ | intro _)

theorem pauseFor_same : ∀ a0 a1 a2 a3, Same 1103823372288 a3 (pauseFor a0 a1 a2 a3) := by
  intro a0 a1 a2 a3
  unfold pauseFor
  repeat' (first | with_reducible exact Same.refl _ | with_reducible refine Same.ite ?_ ?_ | with_reducible refine (pfcXoff_same _ _ _).step rfl ?_ | with_reducible refine (setPort_same _ _ _).step rfl ?_ | intro _)

theorem releaseFor_same : ∀ a0 a1 a2 a3, Same 1099528404992 a3 (releaseFor a0 a1 a2 a3) := by
  intro a0 a1 a2 a3
  unfold releaseFor
  repeat' (first | with_reducible exact Same.refl _ | with_reducible refine Same.ite ?_ ?_ | with_reducible refine (emit_same _ _).step rfl ?_ | with_reducible refine (setPort_same _ _ _).step rfl ?_ | intro _)

theorem ringPause_same : ∀ a0 a1 a2, Same 1103823372288 a2 (ringPause a0 a1 a2) := by
  intro a0 a1 a2
  unfold ringPause
  repeat' (first | with_reducible exact Same.refl _ | with_reducible refine Same.ite ?_ ?_ | with_reducible refine (pauseFor_same _ _ _ _).step rfl ?_ | with_reducible refine (releaseFor_same _ _ _ _).step rfl ?_ | with_reducible refine Same.foldl ?_ ?_ | intro _)

theorem rxDeliver_same : ∀ a0 a1 a2 a3, Same 1103823372289 a3 (rxDeliver a0 a1 a2 a3) := by
  intro a0 a1 a2 a3
  unfold rxDeliver
  repeat' (first | with_reducible exact Same.refl _ | with_reducible refine Same.ite ?_ ?_ | with_reducible refine (countPort_same _ _ _).step rfl ?_ | with_reducible refine (emit_same _ _).step rfl ?_ | with_reducible refine (netIrq_same _ _ _).step rfl ?_ | with_reducible refine (ringPause_same _ _ _).step rfl ?_ | with_reducible refine (setRing_same _ _ _ _).step rfl ?_ | intro _)

theorem prpTake_same : ∀ a0 a1 a2 a3, Same 4311744512 a3 (prpTake a0 a1 a2 a3).2 := by
  intro a0 a1 a2 a3
  unfold prpTake
  repeat' (first | with_reducible exact Same.refl _ | with_reducible refine Same.ite_snd ?_ ?_ | with_reducible refine (countPort_same _ _ _).step rfl ?_ | with_reducible refine (setPort_same _ _ _).step rfl ?_ | intro _ | split | (dsimp only; split))

theorem bufferXoff_same : ∀ a0 a1 a2 a3, Same 1103823372288 a3 (bufferXoff a0 a1 a2 a3) := by
  intro a0 a1 a2 a3
  unfold bufferXoff
  repeat' (first | with_reducible exact Same.refl _ | with_reducible refine Same.ite ?_ ?_ | with_reducible refine (pauseFor_same _ _ _ _).step rfl ?_ | intro _ | refine Same.snd (by assumption) ?_ | refine Same.fst (by assumption) ?_ | refine Same.snd2 (by assumption) ?_ | refine Same.snd3 (by assumption) ?_)

theorem macTake_same : ∀ a0 a1 a2 a3 a4 a5 a6 a7, Same 1107044597768 a7 (macTake a0 a1 a2 a3 a4 a5 a6 a7).2 := by
  intro a0 a1 a2 a3 a4 a5 a6 a7
  unfold macTake
  repeat' (first | with_reducible exact Same.refl _ | with_reducible refine Same.ite ?_ ?_ | with_reducible refine Same.ite_snd ?_ ?_ | with_reducible refine (advanceTo_same _ _).step rfl ?_ | with_reducible refine (bufferXoff_same _ _ _ _).step rfl ?_ | with_reducible refine (countPort_same _ _ _).step rfl ?_ | with_reducible refine (prpTake_same _ _ _ _).step rfl ?_ | intro _ | split | (dsimp only; split) | refine Same.snd (by assumption) ?_ | refine Same.fst (by assumption) ?_ | refine Same.snd2 (by assumption) ?_ | refine Same.snd3 (by assumption) ?_)

theorem mirrorOut_same : ∀ a0 a1 a2 a3 a4, Same 1104343465984 a4 (mirrorOut a0 a1 a2 a3 a4) := by
  intro a0 a1 a2 a3 a4
  unfold mirrorOut
  repeat' (first | with_reducible exact Same.refl _ | with_reducible refine Same.ite ?_ ?_ | with_reducible refine (count_same _ _).step rfl ?_ | with_reducible refine (emit_same _ _).step rfl ?_ | intro _ | with_reducible refine Same.cas rfl ?_ | with_reducible refine Same.update rfl ?_ ?_ | exact Fits.mk (fun c h => by cases c <;> first | exact absurd h (by decide) | with_reducible exact rfl))

theorem svcInput_same : ∀ a0 a1 a2 a3 a4 a5, Same 1104343465984 a5 (svcInput a0 a1 a2 a3 a4 a5).2 := by
  intro a0 a1 a2 a3 a4 a5
  unfold svcInput
  repeat' (first | with_reducible exact Same.refl _ | with_reducible refine Same.ite_snd ?_ ?_ | with_reducible refine (count_same _ _).step rfl ?_ | with_reducible refine (mirrorOut_same _ _ _ _ _).step rfl ?_ | intro _)

theorem neighLearn_same : ∀ a0 a1 a2 a3, Same 4311744512 a3 (neighLearn a0 a1 a2 a3) := by
  intro a0 a1 a2 a3
  unfold neighLearn
  repeat' (first | with_reducible exact Same.refl _ | with_reducible refine Same.ite ?_ ?_ | with_reducible refine (count_same _ _).step rfl ?_ | with_reducible refine (setPort_same _ _ _).step rfl ?_ | intro _)

theorem addressed_same : ∀ a0 a1 a2, Same 16777216 a2 (addressed a0 a1 a2).2 := by
  intro a0 a1 a2
  unfold addressed
  repeat' (first | with_reducible exact Same.refl _ | with_reducible refine Same.ite_snd ?_ ?_ | with_reducible refine (setPort_same _ _ _).step rfl ?_ | intro _ | split | (dsimp only; split))

theorem txIpFrame_same : ∀ a0 a1 a2 a3 a4 a5, Same 1103856926729 a5 (txIpFrame a0 a1 a2 a3 a4 a5) := by
  intro a0 a1 a2 a3 a4 a5
  unfold txIpFrame
  repeat' (first | with_reducible exact Same.refl _ | with_reducible refine (addressed_same _ _ _).step rfl ?_ | with_reducible refine (countPort_same _ _ _).step rfl ?_ | with_reducible refine (txFrame_same _ _ _ _).step rfl ?_ | intro _ | split | (dsimp only; split) | refine Same.snd (by assumption) ?_)

theorem txIp_same : ∀ a0 a1 a2, Same 1103856926729 a2 (txIp a0 a1 a2) := by
  intro a0 a1 a2
  unfold txIp
  repeat' (first | with_reducible exact Same.refl _ | with_reducible refine (txIpFrame_same _ _ _ _ _ _).step rfl ?_ | intro _)

theorem prpAdvance_same : ∀ a0 a1, Same 16777216 a1 (prpAdvance a0 a1) := by
  intro a0 a1
  unfold prpAdvance
  repeat' (first | with_reducible exact Same.refl _ | with_reducible refine (setPort_same _ _ _).step rfl ?_ | intro _)

theorem txOut_same : ∀ a0 a1 a2 a3 a4 a5, Same 1103856926729 a5 (txOut a0 a1 a2 a3 a4 a5) := by
  intro a0 a1 a2 a3 a4 a5
  unfold txOut
  repeat' (first | with_reducible exact Same.refl _ | with_reducible refine Same.ite ?_ ?_ | with_reducible refine (prpAdvance_same _ _).step rfl ?_ | with_reducible refine (txIpFrame_same _ _ _ _ _ _).step rfl ?_ | intro _)

end Sys2Proof.Machine
end

