-- ==== Sys2Proof/Laws/FrameDetect.lean ====
section
/-! SUPPORT. The frame of each definition of Machine/Detect. -/

namespace Sys2Proof.Machine

theorem setDet_same : ∀ a0 a1 a2, Same 16384 a2 (setDet a0 a1 a2) := by
  intro a0 a1 a2
  unfold setDet
  repeat' (first | with_reducible exact Same.refl _ | intro _ | with_reducible refine Same.dets rfl ?_ | with_reducible refine Same.update rfl ?_ ?_ | exact Fits.mk (fun c h => by cases c <;> first | exact absurd h (by decide) | with_reducible exact rfl))

theorem alarmPin_same : ∀ a0, Same 1099511627778 a0 (alarmPin a0) := by
  intro a0
  unfold alarmPin
  repeat' (first | with_reducible exact Same.refl _ | with_reducible refine Same.ite ?_ ?_ | with_reducible refine (emit_same _ _).step rfl ?_ | intro _ | with_reducible refine Same.pins rfl ?_ | with_reducible refine Same.update rfl ?_ ?_ | exact Fits.mk (fun c h => by cases c <;> first | exact absurd h (by decide) | with_reducible exact rfl))

theorem detDatagram_same : ∀ a0 a1 a2, Same 1103856926729 a2 (detDatagram a0 a1 a2) := by
  intro a0 a1 a2
  unfold detDatagram
  repeat' (first | with_reducible exact Same.refl _ | with_reducible refine Same.ite ?_ ?_ | with_reducible refine (count_same _ _).step rfl ?_ | with_reducible refine (txIp_same _ _ _).step rfl ?_ | with_reducible refine (useRefused_same _).step rfl ?_ | intro _ | split | (dsimp only; split))

theorem detRecorder_same : ∀ a0 a1 a2 a3 a4, Same 1105954095105 a4 (detRecorder a0 a1 a2 a3 a4) := by
  intro a0 a1 a2 a3 a4
  unfold detRecorder
  repeat' (first | with_reducible exact Same.refl _ | with_reducible refine Same.ite ?_ ?_ | with_reducible refine (count_same _ _).step rfl ?_ | with_reducible refine (recAdd_same _ _ _ _ _ _ _ _ _ _).step rfl ?_ | with_reducible refine (setDet_same _ _ _).step rfl ?_ | intro _)

theorem issueRecord_same : ∀ a0 a1 a2 a3 a4 a5, Same 1106544443499 a5 (issueRecord a0 a1 a2 a3 a4 a5).2 := by
  intro a0 a1 a2 a3 a4 a5
  unfold issueRecord
  repeat' (first | with_reducible exact Same.refl _ | with_reducible refine Same.ite ?_ ?_ | with_reducible refine Same.ite_snd ?_ ?_ | with_reducible refine (alarmPin_same _).step rfl ?_ | with_reducible refine (count_same _ _).step rfl ?_ | with_reducible refine (detDatagram_same _ _ _).step rfl ?_ | with_reducible refine (detRecorder_same _ _ _ _ _).step rfl ?_ | with_reducible refine (raiseVector_same _ _).step rfl ?_ | with_reducible refine (setDet_same _ _ _).step rfl ?_ | with_reducible refine (triggerAll_same _ _ _).step rfl ?_ | intro _)

theorem issueAll_same : ∀ a0 a1 a2 a3 a4 a5, Same 1106544443499 a5 (issueAll a0 a1 a2 a3 a4 a5).2 := by
  intro a0 a1 a2 a3 a4 a5
  unfold issueAll
  repeat' (first | with_reducible exact Same.refl _ | with_reducible refine (issueRecord_same _ _ _ _ _ _).step rfl ?_ | with_reducible refine Same.foldl2 ?_ ?_ | intro _ | split | (dsimp only; split))

theorem detWork_same : ∀ a0 a1, Same 1106544443499 a1 (detWork a0 a1).1 := by
  intro a0 a1
  unfold detWork
  repeat' (first | with_reducible exact Same.refl _ | with_reducible refine (count_same _ _).step rfl ?_ | with_reducible refine (countBy_same _ _ _).step rfl ?_ | with_reducible refine (issueAll_same _ _ _ _ _ _).step rfl ?_ | with_reducible refine (setDet_same _ _ _).step rfl ?_ | intro _ | split | (dsimp only; split))

theorem detDropped_same : ∀ a0 a1, Same 1106544443499 a1 (detDropped a0 a1) := by
  intro a0 a1
  unfold detDropped
  repeat' (first | with_reducible exact Same.refl _ | with_reducible refine Same.ite ?_ ?_ | with_reducible refine (count_same _ _).step rfl ?_ | with_reducible refine (issueAll_same _ _ _ _ _ _).step rfl ?_ | with_reducible refine (oqNoWait_same _ _ _ _).step rfl ?_ | with_reducible refine (setDet_same _ _ _).step rfl ?_ | with_reducible refine Same.foldl ?_ ?_ | intro _ | split | (dsimp only; split))

theorem detAckLatch_same : ∀ a0 a1, Same 1099511644162 a1 (detAckLatch a0 a1) := by
  intro a0 a1
  unfold detAckLatch
  repeat' (first | with_reducible exact Same.refl _ | with_reducible refine (alarmPin_same _).step rfl ?_ | intro _ | with_reducible refine Same.dets rfl ?_ | with_reducible refine Same.update rfl ?_ ?_ | exact Fits.mk (fun c h => by cases c <;> first | exact absurd h (by decide) | with_reducible exact rfl))

theorem detStop_same : ∀ a0, Same 1101659127811 a0 (detStop a0) := by
  intro a0
  unfold detStop
  repeat' (first | with_reducible exact Same.refl _ | with_reducible refine Same.ite ?_ ?_ | with_reducible refine (detAckLatch_same _ _).step rfl ?_ | with_reducible refine (note_same _ _ _ _ _ _ _).step rfl ?_ | intro _)

end Sys2Proof.Machine
end

