-- ==== Sys2Proof/Laws/FrameOutputs.lean ====
section
/-! SUPPORT. The frame of each definition of Machine/Outputs. -/

namespace Sys2Proof.Machine

theorem setOutRun_same : ∀ a0 a1 a2, Same 131072 a2 (setOutRun a0 a1 a2) := by
  intro a0 a1 a2
  unfold setOutRun
  repeat' (first | with_reducible exact Same.refl _ | intro _ | with_reducible refine Same.outRuns rfl ?_ | with_reducible refine Same.update rfl ?_ ?_ | exact Fits.mk (fun c h => by cases c <;> first | exact absurd h (by decide) | with_reducible exact rfl))

theorem outSend_same : ∀ a0 a1 a2 a3 a4 a5 a6, Same 1103856926729 a6 (outSend a0 a1 a2 a3 a4 a5 a6) := by
  intro a0 a1 a2 a3 a4 a5 a6
  unfold outSend
  repeat' (first | with_reducible exact Same.refl _ | with_reducible refine (txOut_same _ _ _ _ _ _).step rfl ?_ | intro _)

theorem outDrain_same : ∀ a0 a1, Same 1103856926729 a1 (outDrain a0 a1) := by
  intro a0 a1
  unfold outDrain
  repeat' (first | with_reducible exact Same.refl _ | with_reducible refine Same.ite ?_ ?_ | with_reducible refine (txDrain_same _ _).step rfl ?_ | intro _)

theorem sendData_same : ∀ a0 a1 a2 a3, Same 1103856926729 a3 (sendData a0 a1 a2 a3) := by
  intro a0 a1 a2 a3
  unfold sendData
  repeat' (first | with_reducible exact Same.refl _ | with_reducible refine Same.ite ?_ ?_ | with_reducible refine (outSend_same _ _ _ _ _ _ _).step rfl ?_ | intro _)

theorem setPub_same : ∀ a0 a1 a2, Same 65536 a2 (setPub a0 a1 a2) := by
  intro a0 a1 a2
  unfold setPub
  repeat' (first | with_reducible exact Same.refl _ | intro _ | with_reducible refine Same.pubs rfl ?_ | with_reducible refine Same.update rfl ?_ ?_ | exact Fits.mk (fun c h => by cases c <;> first | exact absurd h (by decide) | with_reducible exact rfl))

theorem sendGoose_same : ∀ a0 a1 a2 a3 a4, Same 3302880247817 a4 (sendGoose a0 a1 a2 a3 a4) := by
  intro a0 a1 a2 a3 a4
  unfold sendGoose
  repeat' (first | with_reducible exact Same.refl _ | with_reducible refine Same.ite ?_ ?_ | with_reducible refine (count_same _ _).step rfl ?_ | with_reducible refine (drawFree_same _).step rfl ?_ | with_reducible refine (outSend_same _ _ _ _ _ _ _).step rfl ?_ | with_reducible refine (setPub_same _ _ _).step rfl ?_ | with_reducible refine (useRefused_same _).step rfl ?_ | intro _ | split | (dsimp only; split))

theorem publishState_same : ∀ a0 a1 a2 a3 a4, Same 3302880247817 a4 (publishState a0 a1 a2 a3 a4) := by
  intro a0 a1 a2 a3 a4
  unfold publishState
  repeat' (first | with_reducible exact Same.refl _ | with_reducible refine (sendGoose_same _ _ _ _ _).step rfl ?_ | with_reducible refine (setPub_same _ _ _).step rfl ?_ | intro _)

theorem execRGooseRetransmit_same : ∀ a0 a1, Within 3306101473289 (execRGooseRetransmit a0 a1) a1 := by
  intro a0 a1
  unfold execRGooseRetransmit
  repeat' (first | with_reducible exact Same.refl _ | with_reducible refine within_done ?_ | with_reducible refine (advanceTo_same _ _).step rfl ?_ | with_reducible refine (sendGoose_same _ _ _ _ _).step rfl ?_ | with_reducible refine (setPub_same _ _ _).step rfl ?_ | intro _ | split | (dsimp only; split))

theorem memberValue_same : ∀ a0 a1 a2, Same 2199023255552 a2 (memberValue a0 a1 a2).2 := by
  intro a0 a1 a2
  unfold memberValue
  repeat' (first | with_reducible exact Same.refl _ | with_reducible refine (drawFree_same _).step rfl ?_ | intro _ | split | (dsimp only; split))

theorem frameDone_same : ∀ a0 a1 a2 a3, Same 1103857057801 a3 (frameDone a0 a1 a2 a3) := by
  intro a0 a1 a2 a3
  unfold frameDone
  repeat' (first | with_reducible exact Same.refl _ | with_reducible refine Same.ite ?_ ?_ | with_reducible refine (countPort_same _ _ _).step rfl ?_ | with_reducible refine (sendData_same _ _ _ _).step rfl ?_ | with_reducible refine (setOutRun_same _ _ _).step rfl ?_ | intro _)

theorem outWork_same : ∀ a0 a1, Same 3302880378889 a1 (outWork a0 a1) := by
  intro a0 a1
  unfold outWork
  repeat' (first | with_reducible exact Same.refl _ | with_reducible refine Same.ite ?_ ?_ | with_reducible refine (countBy_same _ _ _).step rfl ?_ | with_reducible refine (countPort_same _ _ _).step rfl ?_ | with_reducible refine (frameDone_same _ _ _ _).step rfl ?_ | with_reducible refine (memberValue_same _ _ _).step rfl ?_ | with_reducible refine (publishState_same _ _ _ _ _).step rfl ?_ | with_reducible refine (setPub_same _ _ _).step rfl ?_ | with_reducible refine Same.foldl2 ?_ ?_ | intro _ | split | (dsimp only; split))

theorem outDropped_same : ∀ a0 a1, Same 4295163904 a1 (outDropped a0 a1) := by
  intro a0 a1
  unfold outDropped
  repeat' (first | with_reducible exact Same.refl _ | with_reducible refine Same.ite ?_ ?_ | with_reducible refine (count_same _ _).step rfl ?_ | with_reducible refine (setOutRun_same _ _ _).step rfl ?_ | with_reducible refine (setPub_same _ _ _).step rfl ?_ | intro _)

theorem publishStream_same : ∀ a0 a1 a2 a3 a4 a5 a6, Same 1103857057801 a6 (publishStream a0 a1 a2 a3 a4 a5 a6) := by
  intro a0 a1 a2 a3 a4 a5 a6
  unfold publishStream
  repeat' (first | with_reducible exact Same.refl _ | with_reducible refine Same.ite ?_ ?_ | with_reducible refine (count_same _ _).step rfl ?_ | with_reducible refine (countPort_same _ _ _).step rfl ?_ | with_reducible refine (sendData_same _ _ _ _).step rfl ?_ | with_reducible refine (setOutRun_same _ _ _).step rfl ?_ | intro _ | split | (dsimp only; split))

theorem publishGoose_same : ∀ a0 a1 a2 a3 a4 a5 a6, Same 3302880247817 a6 (publishGoose a0 a1 a2 a3 a4 a5 a6) := by
  intro a0 a1 a2 a3 a4 a5 a6
  unfold publishGoose
  repeat' (first | with_reducible exact Same.refl _ | with_reducible refine Same.ite ?_ ?_ | with_reducible refine (countPort_same _ _ _).step rfl ?_ | with_reducible refine (publishState_same _ _ _ _ _).step rfl ?_ | with_reducible refine (setPub_same _ _ _).step rfl ?_ | intro _ | split | (dsimp only; split))

theorem publishDue_same : ∀ a0 a1 a2 a3 a4 a5 a6, Same 3302880378889 a6 (publishDue a0 a1 a2 a3 a4 a5 a6) := by
  intro a0 a1 a2 a3 a4 a5 a6
  unfold publishDue
  repeat' (first | with_reducible exact Same.refl _ | with_reducible refine Same.ite ?_ ?_ | with_reducible refine (publishGoose_same _ _ _ _ _ _ _).step rfl ?_ | with_reducible refine (publishStream_same _ _ _ _ _ _ _).step rfl ?_ | intro _ | split | (dsimp only; split))

theorem publishAt_same : ∀ a0 a1 a2, Same 3302880378889 a2 (publishAt a0 a1 a2) := by
  intro a0 a1 a2
  unfold publishAt
  repeat' (first | with_reducible exact Same.refl _ | with_reducible refine (outDrain_same _ _).step rfl ?_ | with_reducible refine (publishDue_same _ _ _ _ _ _ _).step rfl ?_ | intro _ | split | (dsimp only; split))

end Sys2Proof.Machine
end

