-- ==== Sys2Proof/Laws/FrameScheme.lean ====
section
/-! SUPPORT. The frame of each definition of Machine/Scheme. -/

namespace Sys2Proof.Machine

theorem setSch_same : ∀ a0 a1 a2, Same 32768 a2 (setSch a0 a1 a2) := by
  intro a0 a1 a2
  unfold setSch
  repeat' (first | with_reducible exact Same.refl _ | intro _ | with_reducible refine Same.schs rfl ?_ | with_reducible refine Same.update rfl ?_ ?_ | exact Fits.mk (fun c h => by cases c <;> first | exact absurd h (by decide) | with_reducible exact rfl))

theorem wasOutDrive_same : ∀ a0 a1 a2, Same 1099511627778 a2 (wasOutDrive a0 a1 a2) := by
  intro a0 a1 a2
  unfold wasOutDrive
  repeat' (first | with_reducible exact Same.refl _ | with_reducible refine Same.ite ?_ ?_ | with_reducible refine (emit_same _ _).step rfl ?_ | intro _ | with_reducible refine Same.pins rfl ?_ | with_reducible refine Same.update rfl ?_ ?_ | exact Fits.mk (fun c h => by cases c <;> first | exact absurd h (by decide) | with_reducible exact rfl))

theorem cancelPin_same : ∀ a0 a1 a2, Same 4294967328 a2 (cancelPin a0 a1 a2) := by
  intro a0 a1 a2
  unfold cancelPin
  repeat' (first | with_reducible exact Same.refl _ | with_reducible refine (countBy_same _ _ _).step rfl ?_ | intro _ | split | (dsimp only; split) | with_reducible refine Same.phases rfl ?_ | with_reducible refine Same.update rfl ?_ ?_ | exact Fits.mk (fun c h => by cases c <;> first | exact absurd h (by decide) | with_reducible exact rfl))

theorem pinOutput_same : ∀ a0 a1 a2 a3 a4, Same 1103806627938 a4 (pinOutput a0 a1 a2 a3 a4) := by
  intro a0 a1 a2 a3 a4
  unfold pinOutput
  repeat' (first | with_reducible exact Same.refl _ | with_reducible refine Same.ite ?_ ?_ | with_reducible refine (addPhase_same _ _ _ _).step rfl ?_ | with_reducible refine (cancelPin_same _ _ _).step rfl ?_ | with_reducible refine (wasOutDrive_same _ _ _).step rfl ?_ | intro _ | split | (dsimp only; split) | with_reducible refine Same.pins rfl ?_ | with_reducible refine Same.schs rfl ?_ | with_reducible refine Same.update rfl ?_ ?_ | exact Fits.mk (fun c h => by cases c <;> first | exact absurd h (by decide) | with_reducible exact rfl))

theorem commandOutput_same : ∀ a0 a1, Same 1103856926729 a1 (commandOutput a0 a1) := by
  intro a0 a1
  unfold commandOutput
  repeat' (first | with_reducible exact Same.refl _ | with_reducible refine Same.ite ?_ ?_ | with_reducible refine (count_same _ _).step rfl ?_ | with_reducible refine (txIp_same _ _ _).step rfl ?_ | intro _ | split | (dsimp only; split))

theorem stationOutputs_same : ∀ a0 a1 a2, Same 3302880247817 a2 (stationOutputs a0 a1 a2) := by
  intro a0 a1 a2
  unfold stationOutputs
  repeat' (first | with_reducible exact Same.refl _ | with_reducible refine Same.ite ?_ ?_ | with_reducible refine (count_same _ _).step rfl ?_ | with_reducible refine (publishState_same _ _ _ _ _).step rfl ?_ | with_reducible refine Same.foldl ?_ ?_ | intro _ | split | (dsimp only; split))

theorem dropForces_same : ∀ a0 a1 a2, Same 1101659111425 a2 (dropForces a0 a1 a2) := by
  intro a0 a1 a2
  unfold dropForces
  repeat' (first | with_reducible exact Same.refl _ | with_reducible refine (noteI_same _ _ _ _ _ _ _ _).step rfl ?_ | with_reducible refine Same.foldl ?_ ?_ | intro _)

theorem schemeExchange_same : ∀ a0 a1 a2 a3, Same 1101659144193 a3 (schemeExchange a0 a1 a2 a3) := by
  intro a0 a1 a2 a3
  unfold schemeExchange
  repeat' (first | with_reducible exact Same.refl _ | with_reducible refine (dropForces_same _ _ _).step rfl ?_ | with_reducible refine (noteI_same _ _ _ _ _ _ _ _).step rfl ?_ | with_reducible refine (setSch_same _ _ _).step rfl ?_ | with_reducible refine Same.foldl ?_ ?_ | intro _ | split | (dsimp only; split))

theorem exchangeDue_same : ∀ a0 a1, Same 1101659144193 a1 (exchangeDue a0 a1) := by
  intro a0 a1
  unfold exchangeDue
  repeat' (first | with_reducible exact Same.refl _ | with_reducible refine Same.ite ?_ ?_ | with_reducible refine (schemeExchange_same _ _ _ _).step rfl ?_ | intro _ | split | (dsimp only; split))

theorem schemeWork_same : ∀ a0 a1 a2 a3, Same 3371599757423 a3 (schemeWork a0 a1 a2 a3).1 := by
  intro a0 a1 a2 a3
  unfold schemeWork
  repeat' (first | with_reducible exact Same.refl _ | with_reducible refine Same.ite ?_ ?_ | with_reducible refine Same.ite_fst ?_ ?_ | with_reducible refine (commandOutput_same _ _).step rfl ?_ | with_reducible refine (count_same _ _).step rfl ?_ | with_reducible refine (countBy_same _ _ _).step rfl ?_ | with_reducible refine (finalReply_same _ _ _).step rfl ?_ | with_reducible refine (pinOutput_same _ _ _ _ _).step rfl ?_ | with_reducible refine (setSch_same _ _ _).step rfl ?_ | with_reducible refine (stationOutputs_same _ _ _).step rfl ?_ | with_reducible refine Same.foldl ?_ ?_ | intro _ | split | (dsimp only; split))

theorem copyImage_same : ∀ a0 a1, Same 1101659111809 a1 (copyImage a0 a1) := by
  intro a0 a1
  unfold copyImage
  repeat' (first | with_reducible exact Same.refl _ | with_reducible refine Same.ite ?_ ?_ | with_reducible refine (noteI_same _ _ _ _ _ _ _ _).step rfl ?_ | with_reducible refine (setInactive_same _ _).step rfl ?_ | intro _ | split | (dsimp only; split))

theorem schemeStartAt_same : ∀ a0 a1 a2 a3, Same 32768 a3 (schemeStartAt a0 a1 a2 a3) := by
  intro a0 a1 a2 a3
  unfold schemeStartAt
  repeat' (first | with_reducible exact Same.refl _ | with_reducible refine (setSch_same _ _ _).step rfl ?_ | intro _ | split | (dsimp only; split))

theorem schemeStart_same : ∀ a0 a1, Same 1101659144577 a1 (schemeStart a0 a1) := by
  intro a0 a1
  unfold schemeStart
  repeat' (first | with_reducible exact Same.refl _ | with_reducible refine (copyImage_same _ _).step rfl ?_ | with_reducible refine (schemeStartAt_same _ _ _ _).step rfl ?_ | intro _)

theorem schemeStop_same : ∀ a0 a1, Same 3371599757359 a1 (schemeStop a0 a1) := by
  intro a0 a1
  unfold schemeStop
  repeat' (first | with_reducible exact Same.refl _ | with_reducible refine Same.ite ?_ ?_ | with_reducible refine (cancelPin_same _ _ _).step rfl ?_ | with_reducible refine (finalReplies_same _ _ _).step rfl ?_ | with_reducible refine (publishState_same _ _ _ _ _).step rfl ?_ | with_reducible refine (setPub_same _ _ _).step rfl ?_ | with_reducible refine (setSch_same _ _ _).step rfl ?_ | with_reducible refine (wasOutDrive_same _ _ _).step rfl ?_ | with_reducible refine Same.foldl ?_ ?_ | intro _ | split | (dsimp only; split) | with_reducible refine Same.pins rfl ?_ | with_reducible refine Same.update rfl ?_ ?_ | exact Fits.mk (fun c h => by cases c <;> first | exact absurd h (by decide) | with_reducible exact rfl))

theorem execProgStopEffect_same : ∀ a0 a1, Within 3374820982831 (execProgStopEffect a0 a1) a1 := by
  intro a0 a1
  unfold execProgStopEffect
  repeat' (first | with_reducible exact Same.refl _ | with_reducible refine Same.ite ?_ ?_ | with_reducible refine within_ite ?_ ?_ | with_reducible refine within_done ?_ | with_reducible refine (advanceTo_same _ _).step rfl ?_ | with_reducible refine (schemeStop_same _ _).step rfl ?_ | intro _)

theorem cycleOpen_same : ∀ a0 a1 a2 a3 a4, Same 1105954123777 a4 (cycleOpen a0 a1 a2 a3 a4) := by
  intro a0 a1 a2 a3 a4
  unfold cycleOpen
  repeat' (first | with_reducible exact Same.refl _ | with_reducible refine Same.ite ?_ ?_ | with_reducible refine (releaseTask_same _ _ _ _ _ _).step rfl ?_ | with_reducible refine (setInst_same _ _).step rfl ?_ | with_reducible refine (setSch_same _ _ _).step rfl ?_ | with_reducible refine (takeOpened_same _ _ _).step rfl ?_ | intro _ | split | (dsimp only; split))

theorem cyclePassed_same : ∀ a0 a1 a2 a3, Same 4096 a3 (cyclePassed a0 a1 a2 a3) := by
  intro a0 a1 a2 a3
  unfold cyclePassed
  repeat' (first | with_reducible exact Same.refl _ | with_reducible refine Same.ite ?_ ?_ | with_reducible refine (instSettle_same _ _).step rfl ?_ | intro _ | split | (dsimp only; split))

theorem cycleIssue_same : ∀ a0 a1 a2, Same 3373747253295 a2 (cycleIssue a0 a1 a2) := by
  intro a0 a1 a2
  unfold cycleIssue
  repeat' (first | with_reducible exact Same.refl _ | with_reducible refine Same.ite ?_ ?_ | with_reducible refine (cycleOpen_same _ _ _ _ _).step rfl ?_ | with_reducible refine (cyclePassed_same _ _ _ _).step rfl ?_ | with_reducible refine (schemeStop_same _ _).step rfl ?_ | with_reducible refine (setSch_same _ _ _).step rfl ?_ | intro _ | split | (dsimp only; split))

theorem schemeReplaced_same : ∀ a0 a1, Same 1170378620933 a1 (schemeReplaced a0 a1) := by
  intro a0 a1
  unfold schemeReplaced
  repeat' (first | with_reducible exact Same.refl _ | with_reducible refine (dropForces_same _ _ _).step rfl ?_ | with_reducible refine (finalReplies_same _ _ _).step rfl ?_ | with_reducible refine (setSch_same _ _ _).step rfl ?_ | intro _ | split | (dsimp only; split))

theorem schemeSwap_same : ∀ a0 a1 a2, Same 1170378621317 a2 (schemeSwap a0 a1 a2) := by
  intro a0 a1 a2
  unfold schemeSwap
  repeat' (first | with_reducible exact Same.refl _ | with_reducible refine Same.ite ?_ ?_ | with_reducible refine (schemeReplaced_same _ _).step rfl ?_ | with_reducible refine (schemeStart_same _ _).step rfl ?_ | with_reducible refine (setSch_same _ _ _).step rfl ?_ | intro _ | split | (dsimp only; split))

end Sys2Proof.Machine
end

