-- ==== Sys2Proof/Laws/FrameVoice.lean ====
section
/-! SUPPORT. The frame of each definition of Machine/Voice. -/

namespace Sys2Proof.Machine

theorem setVch_same : ∀ a0 a1 a2, Same 262144 a2 (setVch a0 a1 a2) := by
  intro a0 a1 a2
  unfold setVch
  repeat' (first | with_reducible exact Same.refl _ | intro _ | with_reducible refine Same.vchs rfl ?_ | with_reducible refine Same.update rfl ?_ ?_ | exact Fits.mk (fun c h => by cases c <;> first | exact absurd h (by decide) | with_reducible exact rfl))

theorem setFlow_same : ∀ a0 a1 a2, Same 524288 a2 (setFlow a0 a1 a2) := by
  intro a0 a1 a2
  unfold setFlow
  repeat' (first | with_reducible exact Same.refl _ | intro _ | with_reducible refine Same.flows rfl ?_ | with_reducible refine Same.update rfl ?_ ?_ | exact Fits.mk (fun c h => by cases c <;> first | exact absurd h (by decide) | with_reducible exact rfl))

theorem recMark_same : ∀ a0 a1 a2 a3 a4 a5, Same 262144 a5 (recMark a0 a1 a2 a3 a4 a5) := by
  intro a0 a1 a2 a3 a4 a5
  unfold recMark
  repeat' (first | with_reducible exact Same.refl _ | with_reducible refine Same.ite ?_ ?_ | with_reducible refine (setVch_same _ _ _).step rfl ?_ | intro _ | split | (dsimp only; split))

theorem recSeal_same : ∀ a0 a1, Same 4295229440 a1 (recSeal a0 a1) := by
  intro a0 a1
  unfold recSeal
  repeat' (first | with_reducible exact Same.refl _ | with_reducible refine Same.ite ?_ ?_ | with_reducible refine (count_same _ _).step rfl ?_ | with_reducible refine (setVch_same _ _ _).step rfl ?_ | with_reducible refine (useRefused_same _).step rfl ?_ | intro _ | split | (dsimp only; split))

theorem voiceEvent_same : ∀ a0 a1 a2 a3 a4 a5, Same 1105956438017 a5 (voiceEvent a0 a1 a2 a3 a4 a5) := by
  intro a0 a1 a2 a3 a4 a5
  unfold voiceEvent
  repeat' (first | with_reducible exact Same.refl _ | with_reducible refine Same.ite ?_ ?_ | with_reducible refine (oqNoWait_same _ _ _ _).step rfl ?_ | with_reducible refine (recMark_same _ _ _ _ _ _).step rfl ?_ | intro _ | split | (dsimp only; split))

theorem pendEvent_same : ∀ a0 a1 a2 a3 a4, Same 262144 a4 (pendEvent a0 a1 a2 a3 a4) := by
  intro a0 a1 a2 a3 a4
  unfold pendEvent
  repeat' (first | with_reducible exact Same.refl _ | intro _ | with_reducible refine Same.vchs rfl ?_ | with_reducible refine Same.update rfl ?_ ?_ | exact Fits.mk (fun c h => by cases c <;> first | exact absurd h (by decide) | with_reducible exact rfl))

theorem closeBlock_same : ∀ a0 a1, Same 4295229440 a1 (closeBlock a0 a1) := by
  intro a0 a1
  unfold closeBlock
  repeat' (first | with_reducible exact Same.refl _ | with_reducible refine Same.ite ?_ ?_ | with_reducible refine (count_same _ _).step rfl ?_ | with_reducible refine (recMark_same _ _ _ _ _ _).step rfl ?_ | with_reducible refine (recSeal_same _ _).step rfl ?_ | with_reducible refine (setVch_same _ _ _).step rfl ?_ | intro _ | split | (dsimp only; split))

theorem recordIssue_same : ∀ a0 a1 a2 a3 a4 a5 a6, Same 4295229440 a6 (recordIssue a0 a1 a2 a3 a4 a5 a6) := by
  intro a0 a1 a2 a3 a4 a5 a6
  unfold recordIssue
  repeat' (first | with_reducible exact Same.refl _ | with_reducible refine Same.ite ?_ ?_ | with_reducible refine (closeBlock_same _ _).step rfl ?_ | with_reducible refine (setVch_same _ _ _).step rfl ?_ | intro _ | split | (dsimp only; split))

theorem execRecBlockTransfer_same : ∀ a0 a1, Within 1105956438017 (execRecBlockTransfer a0 a1) a1 := by
  intro a0 a1
  unfold execRecBlockTransfer
  repeat' (first | with_reducible exact Same.refl _ | with_reducible refine Same.ite ?_ ?_ | with_reducible refine within_ite ?_ ?_ | with_reducible refine within_done ?_ | with_reducible refine (oqForget_same _ _).step rfl ?_ | with_reducible refine (oqPut_same _ _ _ _).step rfl ?_ | with_reducible refine (oqStall_same _ _ _ _).step rfl ?_ | with_reducible refine (setVch_same _ _ _).step rfl ?_ | intro _ | split | (dsimp only; split) | with_reducible refine Same.vchs rfl ?_ | with_reducible refine Same.update rfl ?_ ?_ | exact Fits.mk (fun c h => by cases c <;> first | exact absurd h (by decide) | with_reducible exact rfl))

theorem keyLostEvent_same : ∀ a0 a1, Same 786432 a1 (keyLostEvent a0 a1) := by
  intro a0 a1
  unfold keyLostEvent
  repeat' (first | with_reducible exact Same.refl _ | with_reducible refine Same.ite ?_ ?_ | with_reducible refine (pendEvent_same _ _ _ _ _).step rfl ?_ | with_reducible refine (setFlow_same _ _ _).step rfl ?_ | intro _ | split | (dsimp only; split))

theorem keyFound_same : ∀ a0 a1, Same 524288 a1 (keyFound a0 a1) := by
  intro a0 a1
  unfold keyFound
  repeat' (first | with_reducible exact Same.refl _ | intro _ | with_reducible refine Same.flows rfl ?_ | with_reducible refine Same.update rfl ?_ ?_ | exact Fits.mk (fun c h => by cases c <;> first | exact absurd h (by decide) | with_reducible exact rfl))

theorem breakRun_same : ∀ a0 a1 a2, Same 262144 a2 (breakRun a0 a1 a2) := by
  intro a0 a1 a2
  unfold breakRun
  repeat' (first | with_reducible exact Same.refl _ | intro _ | with_reducible refine Same.vchs rfl ?_ | with_reducible refine Same.update rfl ?_ ?_ | exact Fits.mk (fun c h => by cases c <;> first | exact absurd h (by decide) | with_reducible exact rfl))

theorem dropPkt_same : ∀ a0 a1 a2 a3, Same 4295229440 a3 (dropPkt a0 a1 a2 a3) := by
  intro a0 a1 a2 a3
  unfold dropPkt
  repeat' (first | with_reducible exact Same.refl _ | with_reducible refine (breakRun_same _ _ _).step rfl ?_ | with_reducible refine (count_same _ _).step rfl ?_ | intro _)

theorem anchorLeg_same : ∀ a0 a1 a2 a3 a4 a5 a6, Same 4295229440 a6 (anchorLeg a0 a1 a2 a3 a4 a5 a6) := by
  intro a0 a1 a2 a3 a4 a5 a6
  unfold anchorLeg
  repeat' (first | with_reducible exact Same.refl _ | with_reducible refine (count_same _ _).step rfl ?_ | with_reducible refine (pendEvent_same _ _ _ _ _).step rfl ?_ | with_reducible refine (setVch_same _ _ _).step rfl ?_ | intro _ | split | (dsimp only; split))

theorem checkFail_same : ∀ a0 a1 a2 a3, Same 4295229440 a3 (checkFail a0 a1 a2 a3) := by
  intro a0 a1 a2 a3
  unfold checkFail
  repeat' (first | with_reducible exact Same.refl _ | with_reducible refine (count_same _ _).step rfl ?_ | with_reducible refine (setVch_same _ _ _).step rfl ?_ | intro _ | split | (dsimp only; split))

theorem lateGrow_same : ∀ a0 a1 a2 a3 a4, Same 4295229440 a4 (lateGrow a0 a1 a2 a3 a4) := by
  intro a0 a1 a2 a3 a4
  unfold lateGrow
  repeat' (first | with_reducible exact Same.refl _ | with_reducible refine Same.ite ?_ ?_ | with_reducible refine (count_same _ _).step rfl ?_ | with_reducible refine (setVch_same _ _ _).step rfl ?_ | intro _ | split | (dsimp only; split))

theorem mappedPkt_same : ∀ a0 a1 a2 a3 a4 a5, Same 4295229440 a5 (mappedPkt a0 a1 a2 a3 a4 a5) := by
  intro a0 a1 a2 a3 a4 a5
  unfold mappedPkt
  repeat' (first | with_reducible exact Same.refl _ | with_reducible refine Same.ite ?_ ?_ | with_reducible refine (checkFail_same _ _ _ _).step rfl ?_ | with_reducible refine (count_same _ _).step rfl ?_ | with_reducible refine (dropPkt_same _ _ _ _).step rfl ?_ | with_reducible refine (lateGrow_same _ _ _ _ _).step rfl ?_ | with_reducible refine (setVch_same _ _ _).step rfl ?_ | intro _ | split | (dsimp only; split))

theorem checkedPkt_same : ∀ a0 a1 a2 a3 a4, Same 4295229440 a4 (checkedPkt a0 a1 a2 a3 a4) := by
  intro a0 a1 a2 a3 a4
  unfold checkedPkt
  repeat' (first | with_reducible exact Same.refl _ | with_reducible refine Same.ite ?_ ?_ | with_reducible refine (anchorLeg_same _ _ _ _ _ _ _).step rfl ?_ | with_reducible refine (mappedPkt_same _ _ _ _ _ _).step rfl ?_ | with_reducible refine (pendEvent_same _ _ _ _ _).step rfl ?_ | with_reducible refine (setVch_same _ _ _).step rfl ?_ | intro _ | split | (dsimp only; split))

theorem foreignSsrc_same : ∀ a0 a1 a2 a3 a4 a5 a6 a7, Same 786432 a7 (foreignSsrc a0 a1 a2 a3 a4 a5 a6 a7).2 := by
  intro a0 a1 a2 a3 a4 a5 a6 a7
  unfold foreignSsrc
  repeat' (first | with_reducible exact Same.refl _ | with_reducible refine Same.ite_snd ?_ ?_ | with_reducible refine (pendEvent_same _ _ _ _ _).step rfl ?_ | with_reducible refine (setFlow_same _ _ _).step rfl ?_ | intro _ | split | (dsimp only; split) | with_reducible refine Same.vchs rfl ?_ | with_reducible refine Same.update rfl ?_ ?_ | exact Fits.mk (fun c h => by cases c <;> first | exact absurd h (by decide) | with_reducible exact rfl))

theorem ssrcCheck_same : ∀ a0 a1 a2 a3 a4 a5, Same 786432 a5 (ssrcCheck a0 a1 a2 a3 a4 a5).2 := by
  intro a0 a1 a2 a3 a4 a5
  unfold ssrcCheck
  repeat' (first | with_reducible exact Same.refl _ | with_reducible refine Same.ite_snd ?_ ?_ | with_reducible refine (foreignSsrc_same _ _ _ _ _ _ _ _).step rfl ?_ | with_reducible refine (setVch_same _ _ _).step rfl ?_ | intro _ | split | (dsimp only; split))

theorem openedPkt_same : ∀ a0 a1 a2 a3 a4 a5 a6, Same 4295753728 a6 (openedPkt a0 a1 a2 a3 a4 a5 a6) := by
  intro a0 a1 a2 a3 a4 a5 a6
  unfold openedPkt
  repeat' (first | with_reducible exact Same.refl _ | with_reducible refine Same.ite ?_ ?_ | with_reducible refine (checkedPkt_same _ _ _ _ _).step rfl ?_ | with_reducible refine (dropPkt_same _ _ _ _).step rfl ?_ | with_reducible refine (ssrcCheck_same _ _ _ _ _ _).step rfl ?_ | intro _ | split | (dsimp only; split))

theorem takeIndex_same : ∀ a0 a1 a2 a3 a4, Same 524288 a4 (takeIndex a0 a1 a2 a3 a4) := by
  intro a0 a1 a2 a3 a4
  unfold takeIndex
  repeat' (first | with_reducible exact Same.refl _ | with_reducible refine Same.ite ?_ ?_ | with_reducible refine (setFlow_same _ _ _).step rfl ?_ | intro _)

theorem flowPkt_same : ∀ a0 a1 a2 a3 a4, Same 4295753728 a4 (flowPkt a0 a1 a2 a3 a4) := by
  intro a0 a1 a2 a3 a4
  unfold flowPkt
  repeat' (first | with_reducible exact Same.refl _ | with_reducible refine Same.ite ?_ ?_ | with_reducible refine (dropPkt_same _ _ _ _).step rfl ?_ | with_reducible refine (keyFound_same _ _).step rfl ?_ | with_reducible refine (keyLostEvent_same _ _).step rfl ?_ | with_reducible refine (openedPkt_same _ _ _ _ _ _ _).step rfl ?_ | with_reducible refine (takeIndex_same _ _ _ _ _).step rfl ?_ | with_reducible refine (useRefused_same _).step rfl ?_ | intro _ | split | (dsimp only; split))

theorem voicePkt_same : ∀ a0 a1, Same 4295753728 a1 (voicePkt a0 a1) := by
  intro a0 a1
  unfold voicePkt
  repeat' (first | with_reducible exact Same.refl _ | with_reducible refine (flowPkt_same _ _ _ _ _).step rfl ?_ | intro _ | split | (dsimp only; split))

theorem execVoicePacketReceived_same : ∀ a0 a1, Within 1107582255112 (execVoicePacketReceived a0 a1) a1 := by
  intro a0 a1
  unfold execVoicePacketReceived
  repeat' (first | with_reducible exact Same.refl _ | with_reducible refine Same.ite ?_ ?_ | with_reducible refine within_ite ?_ ?_ | with_reducible refine within_done ?_ | with_reducible refine (macTake_same _ _ _ _ _ _ _ _).step rfl ?_ | with_reducible refine (svcInput_same _ _ _ _ _ _).step rfl ?_ | with_reducible refine (voicePkt_same _ _).step rfl ?_ | intro _ | split | (dsimp only; split) | refine Same.snd (by assumption) ?_ | refine Same.fst (by assumption) ?_ | refine Same.snd2 (by assumption) ?_ | refine Same.snd3 (by assumption) ?_)

theorem execLegSilent_same : ∀ a0 a1 a2, Within 3221487624 (execLegSilent a0 a1 a2) a2 := by
  intro a0 a1 a2
  unfold execLegSilent
  repeat' (first | with_reducible exact Same.refl _ | with_reducible refine within_ite ?_ ?_ | with_reducible refine within_done ?_ | with_reducible refine (advanceTo_same _ _).step rfl ?_ | with_reducible refine (pendEvent_same _ _ _ _ _).step rfl ?_ | with_reducible refine (setVch_same _ _ _).step rfl ?_ | intro _ | split | (dsimp only; split))

end Sys2Proof.Machine
end

