-- ==== Sys2Proof/Laws/FrameRtcp.lean ====
section
/-! SUPPORT. The frame of each definition of Machine/Rtcp. -/

namespace Sys2Proof.Machine

theorem rtcpReport_same : ∀ a0 a1 a2 a3 a4 a5, Same 1103857713161 a5 (rtcpReport a0 a1 a2 a3 a4 a5) := by
  intro a0 a1 a2 a3 a4 a5
  unfold rtcpReport
  repeat' (first | with_reducible exact Same.refl _ | with_reducible refine Same.ite ?_ ?_ | with_reducible refine (setFlow_same _ _ _).step rfl ?_ | with_reducible refine (setVch_same _ _ _).step rfl ?_ | with_reducible refine (txIp_same _ _ _).step rfl ?_ | intro _)

theorem execRtcpSend_same : ∀ a0 a1 a2, Within 3306102194185 (execRtcpSend a0 a1 a2) a2 := by
  intro a0 a1 a2
  unfold execRtcpSend
  repeat' (first | with_reducible exact Same.refl _ | with_reducible refine within_ite ?_ ?_ | with_reducible refine within_done ?_ | with_reducible refine (advanceTo_same _ _).step rfl ?_ | with_reducible refine (count_same _ _).step rfl ?_ | with_reducible refine (drawFree_same _).step rfl ?_ | with_reducible refine (keyLostEvent_same _ _).step rfl ?_ | with_reducible refine (rtcpReport_same _ _ _ _ _ _).step rfl ?_ | with_reducible refine (setVch_same _ _ _).step rfl ?_ | with_reducible refine (useRefused_same _).step rfl ?_ | intro _ | split | (dsimp only; split))

theorem rtcpTaken_same : ∀ a0 a1 a2 a3 a4 a5 a6, Same 262144 a6 (rtcpTaken a0 a1 a2 a3 a4 a5 a6) := by
  intro a0 a1 a2 a3 a4 a5 a6
  unfold rtcpTaken
  repeat' (first | with_reducible exact Same.refl _ | with_reducible refine (pendEvent_same _ _ _ _ _).step rfl ?_ | with_reducible refine (setVch_same _ _ _).step rfl ?_ | intro _ | split | (dsimp only; split))

theorem flowRtcp_same : ∀ a0 a1 a2 a3 a4, Same 4295753728 a4 (flowRtcp a0 a1 a2 a3 a4) := by
  intro a0 a1 a2 a3 a4
  unfold flowRtcp
  repeat' (first | with_reducible exact Same.refl _ | with_reducible refine Same.ite ?_ ?_ | with_reducible refine (count_same _ _).step rfl ?_ | with_reducible refine (keyFound_same _ _).step rfl ?_ | with_reducible refine (keyLostEvent_same _ _).step rfl ?_ | with_reducible refine (rtcpTaken_same _ _ _ _ _ _ _).step rfl ?_ | with_reducible refine (setFlow_same _ _ _).step rfl ?_ | with_reducible refine (useRefused_same _).step rfl ?_ | intro _ | split | (dsimp only; split))

theorem rtcpPkt_same : ∀ a0 a1, Same 4295753728 a1 (rtcpPkt a0 a1) := by
  intro a0 a1
  unfold rtcpPkt
  repeat' (first | with_reducible exact Same.refl _ | with_reducible refine (flowRtcp_same _ _ _ _ _).step rfl ?_ | intro _ | split | (dsimp only; split))

theorem execRtcpPacketReceived_same : ∀ a0 a1, Within 1107582255112 (execRtcpPacketReceived a0 a1) a1 := by
  intro a0 a1
  unfold execRtcpPacketReceived
  repeat' (first | with_reducible exact Same.refl _ | with_reducible refine Same.ite ?_ ?_ | with_reducible refine within_ite ?_ ?_ | with_reducible refine within_done ?_ | with_reducible refine (macTake_same _ _ _ _ _ _ _ _).step rfl ?_ | with_reducible refine (rtcpPkt_same _ _).step rfl ?_ | with_reducible refine (svcInput_same _ _ _ _ _ _).step rfl ?_ | intro _ | split | (dsimp only; split) | refine Same.snd (by assumption) ?_ | refine Same.fst (by assumption) ?_ | refine Same.snd2 (by assumption) ?_ | refine Same.snd3 (by assumption) ?_)

end Sys2Proof.Machine
end

