-- ==== Sys2Proof/Laws/FramePlayout.lean ====
section
/-! SUPPORT. The frame of each definition of Machine/Playout. -/

namespace Sys2Proof.Machine

theorem txIssue_same : ∀ a0 a1 a2 a3 a4 a5, Same 1103857713161 a5 (txIssue a0 a1 a2 a3 a4 a5) := by
  intro a0 a1 a2 a3 a4 a5
  unfold txIssue
  repeat' (first | with_reducible exact Same.refl _ | with_reducible refine Same.ite ?_ ?_ | with_reducible refine (count_same _ _).step rfl ?_ | with_reducible refine (keyLostEvent_same _ _).step rfl ?_ | with_reducible refine (setFlow_same _ _ _).step rfl ?_ | with_reducible refine (txIp_same _ _ _).step rfl ?_ | with_reducible refine (useRefused_same _).step rfl ?_ | intro _ | split | (dsimp only; split))

theorem issueEvent_same : ∀ a0 a1 a2 a3, Same 1105956438017 a3 (issueEvent a0 a1 a2 a3) := by
  intro a0 a1 a2 a3
  unfold issueEvent
  repeat' (first | with_reducible exact Same.refl _ | with_reducible refine Same.ite ?_ ?_ | with_reducible refine (count_same _ _).step rfl ?_ | with_reducible refine (voiceEvent_same _ _ _ _ _ _).step rfl ?_ | intro _)

theorem noteIssue_same : ∀ a0 a1 a2, Same 262144 a2 (noteIssue a0 a1 a2) := by
  intro a0 a1 a2
  unfold noteIssue
  repeat' (first | with_reducible exact Same.refl _ | with_reducible refine Same.ite ?_ ?_ | intro _ | with_reducible refine Same.vchs rfl ?_ | with_reducible refine Same.update rfl ?_ ?_ | exact Fits.mk (fun c h => by cases c <;> first | exact absurd h (by decide) | with_reducible exact rfl))

theorem voiceTask_same : ∀ a0 a1, Same 1106007293961 a1 (voiceTask a0 a1) := by
  intro a0 a1
  unfold voiceTask
  repeat' (first | with_reducible exact Same.refl _ | with_reducible refine (count_same _ _).step rfl ?_ | with_reducible refine (issueEvent_same _ _ _ _).step rfl ?_ | with_reducible refine (noteIssue_same _ _ _).step rfl ?_ | with_reducible refine (recordIssue_same _ _ _ _ _ _ _).step rfl ?_ | with_reducible refine (setVch_same _ _ _).step rfl ?_ | with_reducible refine (txIssue_same _ _ _ _ _ _).step rfl ?_ | with_reducible refine Same.foldl ?_ ?_ | intro _ | split | (dsimp only; split))

theorem txSkip_same : ∀ a0 a1 a2 a3, Same 524288 a3 (txSkip a0 a1 a2 a3) := by
  intro a0 a1 a2 a3
  unfold txSkip
  repeat' (first | with_reducible exact Same.refl _ | with_reducible refine Same.ite ?_ ?_ | with_reducible refine (setFlow_same _ _ _).step rfl ?_ | intro _ | split | (dsimp only; split))

theorem voiceSilent_same : ∀ a0 a1 a2 a3, Same 4295753728 a3 (voiceSilent a0 a1 a2 a3) := by
  intro a0 a1 a2 a3
  unfold voiceSilent
  repeat' (first | with_reducible exact Same.refl _ | with_reducible refine (noteIssue_same _ _ _).step rfl ?_ | with_reducible refine (recordIssue_same _ _ _ _ _ _ _).step rfl ?_ | with_reducible refine (txSkip_same _ _ _ _).step rfl ?_ | intro _)

theorem voiceDropped_same : ∀ a0 a1, Same 4295753728 a1 (voiceDropped a0 a1) := by
  intro a0 a1
  unfold voiceDropped
  repeat' (first | with_reducible exact Same.refl _ | with_reducible refine (setVch_same _ _ _).step rfl ?_ | with_reducible refine (voiceSilent_same _ _ _ _).step rfl ?_ | intro _ | split | (dsimp only; split))

theorem voiceAborted_same : ∀ a0 a1, Same 4295753728 a1 (voiceAborted a0 a1) := by
  intro a0 a1
  unfold voiceAborted
  repeat' (first | with_reducible exact Same.refl _ | with_reducible refine (voiceSilent_same _ _ _ _).step rfl ?_ | intro _ | split | (dsimp only; split))

theorem applyModify_same : ∀ a0 a1 a2 a3, Same 1105956438017 a3 (applyModify a0 a1 a2 a3) := by
  intro a0 a1 a2 a3
  unfold applyModify
  repeat' (first | with_reducible exact Same.refl _ | with_reducible refine (closeBlock_same _ _).step rfl ?_ | with_reducible refine (recMark_same _ _ _ _ _ _).step rfl ?_ | with_reducible refine (voiceEvent_same _ _ _ _ _ _).step rfl ?_ | intro _ | split | (dsimp only; split) | with_reducible refine Same.vchs rfl ?_ | with_reducible refine Same.update rfl ?_ ?_ | exact Fits.mk (fun c h => by cases c <;> first | exact absurd h (by decide) | with_reducible exact rfl))

theorem vchEnd_same : ∀ a0 a1 a2 a3, Same 1105956962305 a3 (vchEnd a0 a1 a2 a3) := by
  intro a0 a1 a2 a3
  unfold vchEnd
  repeat' (first | with_reducible exact Same.refl _ | with_reducible refine Same.ite ?_ ?_ | with_reducible refine (closeBlock_same _ _).step rfl ?_ | with_reducible refine (recSeal_same _ _).step rfl ?_ | with_reducible refine (setVch_same _ _ _).step rfl ?_ | with_reducible refine (voiceEvent_same _ _ _ _ _ _).step rfl ?_ | intro _ | split | (dsimp only; split) | with_reducible refine Same.vchs rfl ?_ | with_reducible refine Same.flows rfl ?_ | with_reducible refine Same.update rfl ?_ ?_ | exact Fits.mk (fun c h => by cases c <;> first | exact absurd h (by decide) | with_reducible exact rfl))

theorem vchStarts_same : ∀ a0 a1 a2 a3, Same 1105956438017 a3 (vchStarts a0 a1 a2 a3) := by
  intro a0 a1 a2 a3
  unfold vchStarts
  repeat' (first | with_reducible exact Same.refl _ | with_reducible refine (setVch_same _ _ _).step rfl ?_ | with_reducible refine (voiceEvent_same _ _ _ _ _ _).step rfl ?_ | intro _)

theorem issueEdge_same : ∀ a0 a1 a2 a3, Same 1105956962305 a3 (issueEdge a0 a1 a2 a3).2 := by
  intro a0 a1 a2 a3
  unfold issueEdge
  repeat' (first | with_reducible exact Same.refl _ | with_reducible refine Same.ite ?_ ?_ | with_reducible refine Same.ite_snd ?_ ?_ | with_reducible refine (applyModify_same _ _ _ _).step rfl ?_ | with_reducible refine (vchEnd_same _ _ _ _).step rfl ?_ | with_reducible refine (vchStarts_same _ _ _ _).step rfl ?_ | intro _ | split | (dsimp only; split))

theorem playoutIssue_same : ∀ a0 a1 a2 a3, Same 1105957007361 a3 (playoutIssue a0 a1 a2 a3) := by
  intro a0 a1 a2 a3
  unfold playoutIssue
  repeat' (first | with_reducible exact Same.refl _ | with_reducible refine Same.ite ?_ ?_ | with_reducible refine (issueEdge_same _ _ _ _).step rfl ?_ | with_reducible refine (releaseTask_same _ _ _ _ _ _).step rfl ?_ | intro _ | split | (dsimp only; split))

theorem voiceStop_same : ∀ a0, Same 1105956962305 a0 (voiceStop a0) := by
  intro a0
  unfold voiceStop
  repeat' (first | with_reducible exact Same.refl _ | with_reducible refine (vchEnd_same _ _ _ _).step rfl ?_ | with_reducible refine Same.foldl ?_ ?_ | intro _)

theorem voiceSwap_same : ∀ a0 a1 a2, Same 262144 a2 (voiceSwap a0 a1 a2) := by
  intro a0 a1 a2
  unfold voiceSwap
  repeat' (first | with_reducible exact Same.refl _ | intro _ | split | (dsimp only; split) | with_reducible refine Same.vchs rfl ?_ | with_reducible refine Same.update rfl ?_ ?_ | exact Fits.mk (fun c h => by cases c <;> first | exact absurd h (by decide) | with_reducible exact rfl))

theorem voiceTakeover_same : ∀ a0, Same 786432 a0 (voiceTakeover a0) := by
  intro a0
  unfold voiceTakeover
  repeat' (first | with_reducible exact Same.refl _ | with_reducible refine Same.ite ?_ ?_ | with_reducible refine (recMark_same _ _ _ _ _ _).step rfl ?_ | with_reducible refine Same.foldl ?_ ?_ | intro _ | split | (dsimp only; split) | with_reducible refine Same.vchs rfl ?_ | with_reducible refine Same.flows rfl ?_ | with_reducible refine Same.update rfl ?_ ?_ | exact Fits.mk (fun c h => by cases c <;> first | exact absurd h (by decide) | with_reducible exact rfl))

end Sys2Proof.Machine
end

