-- ==== Sys2Proof/Laws/FrameCastling.lean ====
section
/-! SUPPORT. The frame of each definition of Machine/Castling. -/

namespace Sys2Proof.Machine

theorem noteCas_same : ∀ a0 a1 a2, Same 1101659111425 a2 (noteCas a0 a1 a2) := by
  intro a0 a1 a2
  unfold noteCas
  repeat' (first | with_reducible exact Same.refl _ | with_reducible refine (note_same _ _ _ _ _ _ _).step rfl ?_ | intro _)

theorem roleTo_same : ∀ a0 a1 a2 a3, Same 1102195982339 a3 (roleTo a0 a1 a2 a3) := by
  intro a0 a1 a2 a3
  unfold roleTo
  repeat' (first | with_reducible exact Same.refl _ | with_reducible refine Same.ite ?_ ?_ | with_reducible refine (noteCas_same _ _ _).step rfl ?_ | with_reducible refine (setCasIrq_same _ _).step rfl ?_ | intro _ | with_reducible refine Same.pins rfl ?_ | with_reducible refine Same.cas rfl ?_ | with_reducible refine Same.update rfl ?_ ?_ | exact Fits.mk (fun c h => by cases c <;> first | exact absurd h (by decide) | with_reducible exact rfl))

theorem pinsOff_same : ∀ a0, Same 1099511627778 a0 (pinsOff a0) := by
  intro a0
  unfold pinsOff
  repeat' (first | with_reducible exact Same.refl _ | with_reducible refine Same.ite ?_ ?_ | with_reducible refine (alarmPin_same _).step rfl ?_ | with_reducible refine (emit_same _ _).step rfl ?_ | with_reducible refine Same.foldl ?_ ?_ | intro _ | with_reducible refine Same.pins rfl ?_ | with_reducible refine Same.update rfl ?_ ?_ | exact Fits.mk (fun c h => by cases c <;> first | exact absurd h (by decide) | with_reducible exact rfl))

theorem pinsOn_same : ∀ a0, Same 1099511627778 a0 (pinsOn a0) := by
  intro a0
  unfold pinsOn
  repeat' (first | with_reducible exact Same.refl _ | with_reducible refine (alarmPin_same _).step rfl ?_ | with_reducible refine (wasOutDrive_same _ _ _).step rfl ?_ | with_reducible refine Same.foldl ?_ ?_ | intro _)

theorem dropExchange_same : ∀ a0, Same 32768 a0 (dropExchange a0) := by
  intro a0
  unfold dropExchange
  repeat' (first | with_reducible exact Same.refl _ | intro _ | with_reducible refine Same.schs rfl ?_ | with_reducible refine Same.update rfl ?_ ?_ | exact Fits.mk (fun c h => by cases c <;> first | exact absurd h (by decide) | with_reducible exact rfl))

theorem toStalemate_same : ∀ a0 a1 a2, Same 1102196015107 a2 (toStalemate a0 a1 a2) := by
  intro a0 a1 a2
  unfold toStalemate
  repeat' (first | with_reducible exact Same.refl _ | with_reducible refine Same.ite ?_ ?_ | with_reducible refine (dropExchange_same _).step rfl ?_ | with_reducible refine (pinsOff_same _).step rfl ?_ | with_reducible refine (roleTo_same _ _ _ _).step rfl ?_ | intro _ | with_reducible refine Same.cas rfl ?_ | with_reducible refine Same.update rfl ?_ ?_ | exact Fits.mk (fun c h => by cases c <;> first | exact absurd h (by decide) | with_reducible exact rfl))

theorem toActive_same : ∀ a0 a1 a2, Same 1102195982339 a2 (toActive a0 a1 a2) := by
  intro a0 a1 a2
  unfold toActive
  repeat' (first | with_reducible exact Same.refl _ | with_reducible refine (roleTo_same _ _ _ _).step rfl ?_ | intro _ | with_reducible refine Same.cas rfl ?_ | with_reducible refine Same.update rfl ?_ ?_ | exact Fits.mk (fun c h => by cases c <;> first | exact absurd h (by decide) | with_reducible exact rfl))

theorem casRunBegin_same : ∀ a0 a1, Same 1102195982339 a1 (casRunBegin a0 a1) := by
  intro a0 a1
  unfold casRunBegin
  repeat' (first | with_reducible exact Same.refl _ | with_reducible refine Same.ite ?_ ?_ | with_reducible refine (pinsOff_same _).step rfl ?_ | with_reducible refine (roleTo_same _ _ _ _).step rfl ?_ | intro _ | with_reducible refine Same.pins rfl ?_ | with_reducible refine Same.cas rfl ?_ | with_reducible refine Same.update rfl ?_ ?_ | exact Fits.mk (fun c h => by cases c <;> first | exact absurd h (by decide) | with_reducible exact rfl))

theorem casRunEnd_same : ∀ a0, Same 536870914 a0 (casRunEnd a0) := by
  intro a0
  unfold casRunEnd
  repeat' (first | with_reducible exact Same.refl _ | intro _ | with_reducible refine Same.pins rfl ?_ | with_reducible refine Same.cas rfl ?_ | with_reducible refine Same.update rfl ?_ ?_ | exact Fits.mk (fun c h => by cases c <;> first | exact absurd h (by decide) | with_reducible exact rfl))

theorem execHbInEdge_same : ∀ a0 a1, Within 3758096392 (execHbInEdge a0 a1) a1 := by
  intro a0 a1
  unfold execHbInEdge
  repeat' (first | with_reducible exact Same.refl _ | with_reducible refine within_ite ?_ ?_ | with_reducible refine within_done ?_ | with_reducible refine (advanceTo_same _ _).step rfl ?_ | intro _ | split | (dsimp only; split) | with_reducible refine Same.cas rfl ?_ | with_reducible refine Same.update rfl ?_ ?_ | exact Fits.mk (fun c h => by cases c <;> first | exact absurd h (by decide) | with_reducible exact rfl))

theorem execHbTimeout_same : ∀ a0, Within 1107564691465 (execHbTimeout a0) a0 := by
  intro a0
  unfold execHbTimeout
  repeat' (first | with_reducible exact Same.refl _ | with_reducible refine within_ite ?_ ?_ | with_reducible refine within_done ?_ | with_reducible refine (advanceTo_same _ _).step rfl ?_ | with_reducible refine (count_same _ _).step rfl ?_ | with_reducible refine (noteCas_same _ _ _).step rfl ?_ | with_reducible refine (setCasIrq_same _ _).step rfl ?_ | intro _ | split | (dsimp only; split) | with_reducible refine Same.cas rfl ?_ | with_reducible refine Same.update rfl ?_ ?_ | exact Fits.mk (fun c h => by cases c <;> first | exact absurd h (by decide) | with_reducible exact rfl))

theorem execPresenceFrameSend_same : ∀ a0 a1, Within 1107078152201 (execPresenceFrameSend a0 a1) a1 := by
  intro a0 a1
  unfold execPresenceFrameSend
  repeat' (first | with_reducible exact Same.refl _ | with_reducible refine within_ite ?_ ?_ | with_reducible refine within_done ?_ | with_reducible refine (advanceTo_same _ _).step rfl ?_ | with_reducible refine (txOwn_same _ _ _ _ _).step rfl ?_ | with_reducible refine (useRefused_same _).step rfl ?_ | intro _ | split | (dsimp only; split))

theorem yieldCheck_same : ∀ a0 a1 a2, Same 536870912 a2 (yieldCheck a0 a1 a2) := by
  intro a0 a1 a2
  unfold yieldCheck
  repeat' (first | with_reducible exact Same.refl _ | with_reducible refine Same.ite ?_ ?_ | intro _ | with_reducible refine Same.cas rfl ?_ | with_reducible refine Same.update rfl ?_ ?_ | exact Fits.mk (fun c h => by cases c <;> first | exact absurd h (by decide) | with_reducible exact rfl))

theorem execPresenceFrameReceived_same : ∀ a0 a1 a2, Within 4848615424 (execPresenceFrameReceived a0 a1 a2) a2 := by
  intro a0 a1 a2
  unfold execPresenceFrameReceived
  repeat' (first | with_reducible exact Same.refl _ | with_reducible refine Same.ite ?_ ?_ | with_reducible refine within_ite ?_ ?_ | with_reducible refine within_done ?_ | with_reducible refine (count_same _ _).step rfl ?_ | with_reducible refine (countPort_same _ _ _).step rfl ?_ | with_reducible refine (yieldCheck_same _ _ _).step rfl ?_ | intro _ | split | (dsimp only; split) | with_reducible refine Same.cas rfl ?_ | with_reducible refine Same.update rfl ?_ ?_ | exact Fits.mk (fun c h => by cases c <;> first | exact absurd h (by decide) | with_reducible exact rfl))

theorem twinTake_same : ∀ a0 a1, Same 4831838208 a1 (twinTake a0 a1).2 := by
  intro a0 a1
  unfold twinTake
  repeat' (first | with_reducible exact Same.refl _ | with_reducible refine Same.ite_snd ?_ ?_ | with_reducible refine (count_same _ _).step rfl ?_ | intro _ | with_reducible refine Same.cas rfl ?_ | with_reducible refine Same.update rfl ?_ ?_ | exact Fits.mk (fun c h => by cases c <;> first | exact absurd h (by decide) | with_reducible exact rfl))

theorem execLinkbeatSend_same : ∀ a0, Within 1099511627776 (execLinkbeatSend a0) a0 := by
  intro a0
  unfold execLinkbeatSend
  repeat' (first | with_reducible exact Same.refl _ | with_reducible refine within_ite ?_ ?_ | with_reducible refine within_done ?_ | with_reducible refine (emit_same _ _).step rfl ?_ | intro _ | split | (dsimp only; split))

theorem commitsStop_same : ∀ a0, Same 1102195982337 a0 (commitsStop a0) := by
  intro a0
  unfold commitsStop
  repeat' (first | with_reducible exact Same.refl _ | with_reducible refine (noteCas_same _ _ _).step rfl ?_ | intro _ | with_reducible refine Same.cas rfl ?_ | with_reducible refine Same.update rfl ?_ ?_ | exact Fits.mk (fun c h => by cases c <;> first | exact absurd h (by decide) | with_reducible exact rfl))

theorem commitBuild_same : ∀ a0 a1, Same 3305514205185 a1 (commitBuild a0 a1) := by
  intro a0 a1
  unfold commitBuild
  repeat' (first | with_reducible exact Same.refl _ | with_reducible refine Same.ite ?_ ?_ | with_reducible refine (commitsStop_same _).step rfl ?_ | with_reducible refine (count_same _ _).step rfl ?_ | with_reducible refine (drawFree_same _).step rfl ?_ | with_reducible refine (emit_same _ _).step rfl ?_ | with_reducible refine (traceCommit_same _ _ _).step rfl ?_ | intro _ | split | (dsimp only; split) | with_reducible refine Same.cas rfl ?_ | with_reducible refine Same.update rfl ?_ ?_ | exact Fits.mk (fun c h => by cases c <;> first | exact absurd h (by decide) | with_reducible exact rfl))

theorem commitFold_same : ∀ a0, Same 4831838208 a0 (commitFold a0) := by
  intro a0
  unfold commitFold
  repeat' (first | with_reducible exact Same.refl _ | with_reducible refine Same.ite ?_ ?_ | with_reducible refine (count_same _ _).step rfl ?_ | intro _ | with_reducible refine Same.cas rfl ?_ | with_reducible refine Same.update rfl ?_ ?_ | exact Fits.mk (fun c h => by cases c <;> first | exact absurd h (by decide) | with_reducible exact rfl))

theorem copyDropped_same : ∀ a0, Same 4294967296 a0 (copyDropped a0) := by
  intro a0
  unfold copyDropped
  repeat' (first | with_reducible exact Same.refl _ | with_reducible refine Same.ite ?_ ?_ | with_reducible refine (count_same _ _).step rfl ?_ | intro _)

theorem copyRelease_same : ∀ a0 a1 a2, Same 1106490994689 a2 (copyRelease a0 a1 a2) := by
  intro a0 a1 a2
  unfold copyRelease
  repeat' (first | with_reducible exact Same.refl _ | with_reducible refine (commitFold_same _).step rfl ?_ | with_reducible refine (releaseTask_same _ _ _ _ _ _).step rfl ?_ | intro _ | split | (dsimp only; split) | refine Same.snd (by assumption) ?_ | refine Same.fst (by assumption) ?_ | refine Same.snd2 (by assumption) ?_ | refine Same.snd3 (by assumption) ?_ | with_reducible refine Same.cas rfl ?_ | with_reducible refine Same.update rfl ?_ ?_ | exact Fits.mk (fun c h => by cases c <;> first | exact absurd h (by decide) | with_reducible exact rfl))

theorem execAckReceived_same : ∀ a0 a1 a2, Within 4831838208 (execAckReceived a0 a1 a2) a2 := by
  intro a0 a1 a2
  unfold execAckReceived
  repeat' (first | with_reducible exact Same.refl _ | with_reducible refine within_ite ?_ ?_ | with_reducible refine within_done ?_ | with_reducible refine (twinTake_same _ _).step rfl ?_ | intro _ | split | (dsimp only; split) | with_reducible refine Same.cas rfl ?_ | with_reducible refine Same.update rfl ?_ ?_ | exact Fits.mk (fun c h => by cases c <;> first | exact absurd h (by decide) | with_reducible exact rfl))

theorem resyncStart_same : ∀ a0, Same 1104343465984 a0 (resyncStart a0) := by
  intro a0
  unfold resyncStart
  repeat' (first | with_reducible exact Same.refl _ | with_reducible refine Same.ite ?_ ?_ | with_reducible refine (count_same _ _).step rfl ?_ | with_reducible refine (emit_same _ _).step rfl ?_ | intro _ | with_reducible refine Same.cas rfl ?_ | with_reducible refine Same.update rfl ?_ ?_ | exact Fits.mk (fun c h => by cases c <;> first | exact absurd h (by decide) | with_reducible exact rfl))

theorem resyncReply_same : ∀ a0, Same 1168767975429 a0 (resyncReply a0) := by
  intro a0
  unfold resyncReply
  repeat' (first | with_reducible exact Same.refl _ | with_reducible refine (finalReplies_same _ _ _).step rfl ?_ | intro _ | with_reducible refine Same.cas rfl ?_ | with_reducible refine Same.update rfl ?_ ?_ | exact Fits.mk (fun c h => by cases c <;> first | exact absurd h (by decide) | with_reducible exact rfl))

theorem startedActive_same : ∀ a0, Same 1104343465984 a0 (startedActive a0) := by
  intro a0
  unfold startedActive
  repeat' (first | with_reducible exact Same.refl _ | with_reducible refine Same.ite ?_ ?_ | with_reducible refine (resyncStart_same _).step rfl ?_ | intro _ | refine Same.snd (by assumption) ?_ | refine Same.fst (by assumption) ?_ | refine Same.snd2 (by assumption) ?_ | refine Same.snd3 (by assumption) ?_)

theorem execListenWindowEnd_same : ∀ a0 a1, Within 1107564691467 (execListenWindowEnd a0 a1) a1 := by
  intro a0 a1
  unfold execListenWindowEnd
  repeat' (first | with_reducible exact Same.refl _ | with_reducible refine Same.ite ?_ ?_ | with_reducible refine within_ite ?_ ?_ | with_reducible refine within_done ?_ | with_reducible refine (advanceTo_same _ _).step rfl ?_ | with_reducible refine (noteCas_same _ _ _).step rfl ?_ | with_reducible refine (pinsOn_same _).step rfl ?_ | with_reducible refine (startedActive_same _).step rfl ?_ | with_reducible refine (toActive_same _ _ _).step rfl ?_ | intro _ | split | (dsimp only; split) | refine Same.snd (by assumption) ?_ | refine Same.fst (by assumption) ?_ | refine Same.snd2 (by assumption) ?_ | refine Same.snd3 (by assumption) ?_ | with_reducible refine Same.cas rfl ?_ | with_reducible refine Same.update rfl ?_ ?_ | exact Fits.mk (fun c h => by cases c <;> first | exact absurd h (by decide) | with_reducible exact rfl))

theorem linkHeard_same : ∀ a0 a1, Same 536870912 a1 (linkHeard a0 a1) := by
  intro a0 a1
  unfold linkHeard
  repeat' (first | with_reducible exact Same.refl _ | intro _ | split | (dsimp only; split) | with_reducible refine Same.cas rfl ?_ | with_reducible refine Same.update rfl ?_ ?_ | exact Fits.mk (fun c h => by cases c <;> first | exact absurd h (by decide) | with_reducible exact rfl))

theorem partnerAsks_same : ∀ a0 a1 a2, Same 1173062975493 a2 (partnerAsks a0 a1 a2) := by
  intro a0 a1 a2
  unfold partnerAsks
  repeat' (first | with_reducible exact Same.refl _ | with_reducible refine Same.ite ?_ ?_ | with_reducible refine (dropExchange_same _).step rfl ?_ | with_reducible refine (resyncReply_same _).step rfl ?_ | with_reducible refine (resyncStart_same _).step rfl ?_ | intro _)

theorem execLinkbeatReceived_same : ∀ a0 a1 a2, Within 1175210459143 (execLinkbeatReceived a0 a1 a2) a2 := by
  intro a0 a1 a2
  unfold execLinkbeatReceived
  repeat' (first | with_reducible exact Same.refl _ | with_reducible refine Same.ite ?_ ?_ | with_reducible refine within_ite ?_ ?_ | with_reducible refine within_done ?_ | with_reducible refine (linkHeard_same _ _).step rfl ?_ | with_reducible refine (noteCas_same _ _ _).step rfl ?_ | with_reducible refine (partnerAsks_same _ _ _).step rfl ?_ | with_reducible refine (toStalemate_same _ _ _).step rfl ?_ | with_reducible refine (twinTake_same _ _).step rfl ?_ | with_reducible refine (yieldCheck_same _ _ _).step rfl ?_ | intro _ | split | (dsimp only; split) | with_reducible refine Same.cas rfl ?_ | with_reducible refine Same.update rfl ?_ ?_ | exact Fits.mk (fun c h => by cases c <;> first | exact absurd h (by decide) | with_reducible exact rfl))

theorem execTwinLinkTimeout_same : ∀ a0, Within 1107564691465 (execTwinLinkTimeout a0) a0 := by
  intro a0
  unfold execTwinLinkTimeout
  repeat' (first | with_reducible exact Same.refl _ | with_reducible refine within_ite ?_ ?_ | with_reducible refine within_done ?_ | with_reducible refine (advanceTo_same _ _).step rfl ?_ | with_reducible refine (count_same _ _).step rfl ?_ | with_reducible refine (setCasIrq_same _ _).step rfl ?_ | intro _ | with_reducible refine Same.cas rfl ?_ | with_reducible refine Same.update rfl ?_ ?_ | exact Fits.mk (fun c h => by cases c <;> first | exact absurd h (by decide) | with_reducible exact rfl))

theorem execTwinLossDecision_same : ∀ a0, Within 1103269756939 (execTwinLossDecision a0) a0 := by
  intro a0
  unfold execTwinLossDecision
  repeat' (first | with_reducible exact Same.refl _ | with_reducible refine Same.ite ?_ ?_ | with_reducible refine within_ite ?_ ?_ | with_reducible refine within_done ?_ | with_reducible refine (advanceTo_same _ _).step rfl ?_ | with_reducible refine (noteCas_same _ _ _).step rfl ?_ | with_reducible refine (toStalemate_same _ _ _).step rfl ?_ | intro _ | split | (dsimp only; split) | with_reducible refine Same.cas rfl ?_ | with_reducible refine Same.update rfl ?_ ?_ | exact Fits.mk (fun c h => by cases c <;> first | exact absurd h (by decide) | with_reducible exact rfl))

theorem execPartnerOutputsAbsent_same : ∀ a0, Within 536870912 (execPartnerOutputsAbsent a0) a0 := by
  intro a0
  unfold execPartnerOutputsAbsent
  repeat' (first | with_reducible exact Same.refl _ | with_reducible refine Same.ite ?_ ?_ | with_reducible refine within_ite ?_ ?_ | with_reducible refine within_done ?_ | intro _ | with_reducible refine Same.cas rfl ?_ | with_reducible refine Same.update rfl ?_ ?_ | exact Fits.mk (fun c h => by cases c <;> first | exact absurd h (by decide) | with_reducible exact rfl))

theorem diverge_same : ∀ a0 a1 a2 a3 a4 a5, Same 1106490949633 a5 (diverge a0 a1 a2 a3 a4 a5) := by
  intro a0 a1 a2 a3 a4 a5
  unfold diverge
  repeat' (first | with_reducible exact Same.refl _ | with_reducible refine Same.ite ?_ ?_ | with_reducible refine (count_same _ _).step rfl ?_ | with_reducible refine (noteCas_same _ _ _).step rfl ?_ | with_reducible refine (setCasIrq_same _ _).step rfl ?_ | intro _ | with_reducible refine Same.cas rfl ?_ | with_reducible refine Same.update rfl ?_ ?_ | exact Fits.mk (fun c h => by cases c <;> first | exact absurd h (by decide) | with_reducible exact rfl))

theorem compareDigest_same : ∀ a0 a1 a2 a3 a4, Same 1106490949633 a4 (compareDigest a0 a1 a2 a3 a4).2 := by
  intro a0 a1 a2 a3 a4
  unfold compareDigest
  repeat' (first | with_reducible exact Same.refl _ | with_reducible refine Same.ite_snd ?_ ?_ | with_reducible refine (diverge_same _ _ _ _ _ _).step rfl ?_ | intro _)

theorem commitDone_same : ∀ a0 a1, Same 1170915459079 a1 (commitDone a0 a1) := by
  intro a0 a1
  unfold commitDone
  repeat' (first | with_reducible exact Same.refl _ | with_reducible refine Same.ite ?_ ?_ | with_reducible refine (resyncReply_same _).step rfl ?_ | with_reducible refine (roleTo_same _ _ _ _).step rfl ?_ | intro _ | with_reducible refine Same.cas rfl ?_ | with_reducible refine Same.update rfl ?_ ?_ | exact Fits.mk (fun c h => by cases c <;> first | exact absurd h (by decide) | with_reducible exact rfl))

theorem settleWaits_same : ∀ a0 a1, Same 1170915459079 a1 (settleWaits a0 a1) := by
  intro a0 a1
  fun_induction settleWaits a0 a1
  all_goals repeat' (first | with_reducible exact Same.refl _ | refine Same.trans (by assumption) ?_ | with_reducible refine (commitDone_same _ _).step rfl ?_ | intro _ | with_reducible refine Same.update rfl ?_ ?_ | exact Fits.mk (fun c h => by cases c <;> first | exact absurd h (by decide) | with_reducible exact rfl))

theorem applyHome_same : ∀ a0 a1, Same 837632 a1 (applyHome a0 a1) := by
  intro a0 a1
  unfold applyHome
  repeat' (first | with_reducible exact Same.refl _ | with_reducible refine (setDet_same _ _ _).step rfl ?_ | with_reducible refine (setFilter_same _ _ _).step rfl ?_ | with_reducible refine (setSch_same _ _ _).step rfl ?_ | with_reducible refine (setVch_same _ _ _).step rfl ?_ | intro _ | split | (dsimp only; split) | with_reducible refine Same.flows rfl ?_ | with_reducible refine Same.update rfl ?_ ?_ | exact Fits.mk (fun c h => by cases c <;> first | exact absurd h (by decide) | with_reducible exact rfl))

theorem applyLine_same : ∀ a0 a1 a2 a3 a4, Same 1106491791361 a4 (applyLine a0 a1 a2 a3 a4).2 := by
  intro a0 a1 a2 a3 a4
  unfold applyLine
  repeat' (first | with_reducible exact Same.refl _ | with_reducible refine Same.ite ?_ ?_ | with_reducible refine Same.ite_snd ?_ ?_ | with_reducible refine (applyHome_same _ _).step rfl ?_ | with_reducible refine (diverge_same _ _ _ _ _ _).step rfl ?_ | with_reducible refine (dropInst_same _ _ _).step rfl ?_ | with_reducible refine (setHeld_same _ _ _ _).step rfl ?_ | with_reducible refine (setInst_same _ _).step rfl ?_ | intro _ | split | (dsimp only; split) | with_reducible refine Same.mst rfl ?_ | with_reducible refine Same.update rfl ?_ ?_ | exact Fits.mk (fun c h => by cases c <;> first | exact absurd h (by decide) | with_reducible exact rfl))

theorem applyEngine_same : ∀ a0 a1, Same 1105957290083 a1 (applyEngine a0 a1) := by
  intro a0 a1
  unfold applyEngine
  repeat' (first | with_reducible exact Same.refl _ | with_reducible refine Same.ite ?_ ?_ | with_reducible refine (confirmShadow_same _ _ _).step rfl ?_ | with_reducible refine (crossTrigger_same _ _ _).step rfl ?_ | with_reducible refine (setPub_same _ _ _).step rfl ?_ | with_reducible refine Same.foldl ?_ ?_ | intro _ | split | (dsimp only; split) | with_reducible refine Same.pins rfl ?_ | with_reducible refine Same.phases rfl ?_ | with_reducible refine Same.phaseNext rfl ?_ | with_reducible refine Same.update rfl ?_ ?_ | exact Fits.mk (fun c h => by cases c <;> first | exact absurd h (by decide) | with_reducible exact rfl))

theorem placeHome_same : ∀ a0 a1 a2 a3, Same 537708544 a3 (placeHome a0 a1 a2 a3) := by
  intro a0 a1 a2 a3
  unfold placeHome
  repeat' (first | with_reducible exact Same.refl _ | with_reducible refine Same.ite ?_ ?_ | with_reducible refine (applyHome_same _ _).step rfl ?_ | intro _ | with_reducible refine Same.cas rfl ?_ | with_reducible refine Same.update rfl ?_ ?_ | exact Fits.mk (fun c h => by cases c <;> first | exact absurd h (by decide) | with_reducible exact rfl))

theorem compareAll_same : ∀ a0 a1 a2 a3, Same 1106490949633 a3 (compareAll a0 a1 a2 a3).2.2 := by
  intro a0 a1 a2 a3
  unfold compareAll
  refine Same.foldl3 ?_ (Same.refl _)
  intro s d
  obtain ⟨left, bad, s⟩ := s
  dsimp only
  split
  · next e _ => exact Same.cas rfl ((compareDigest_same a1 a0 d e.2 s).of (M := 1106490949633) rfl)
  · exact Same.refl _

theorem applyCommit_same : ∀ a0 a1, Same 1175214479463 a1 (applyCommit a0 a1) := by
  intro a0 a1
  unfold applyCommit
  repeat' (first | with_reducible exact Same.refl _ | with_reducible refine (applyEngine_same _ _).step rfl ?_ | with_reducible refine (applyLine_same _ _ _ _ _).step rfl ?_ | with_reducible refine (compareAll_same _ _ _ _).step rfl ?_ | with_reducible refine (placeHome_same _ _ _ _).step rfl ?_ | with_reducible refine (settleWaits_same _ _).step rfl ?_ | with_reducible refine Same.foldl ?_ ?_ | with_reducible refine Same.foldl2 ?_ ?_ | intro _ | split | (dsimp only; split))

theorem execCommitReceived_same : ∀ a0 a1 a2, Within 1175214479463 (execCommitReceived a0 a1 a2) a2 := by
  intro a0 a1 a2
  unfold execCommitReceived
  repeat' (first | with_reducible exact Same.refl _ | with_reducible refine Same.ite ?_ ?_ | with_reducible refine within_ite ?_ ?_ | with_reducible refine within_done ?_ | with_reducible refine (applyCommit_same _ _).step rfl ?_ | with_reducible refine (count_same _ _).step rfl ?_ | with_reducible refine (emit_same _ _).step rfl ?_ | with_reducible refine (pinsOn_same _).step rfl ?_ | with_reducible refine (traceCommit_same _ _ _).step rfl ?_ | with_reducible refine (twinTake_same _ _).step rfl ?_ | intro _ | split | (dsimp only; split) | with_reducible refine Same.cas rfl ?_ | with_reducible refine Same.update rfl ?_ ?_ | exact Fits.mk (fun c h => by cases c <;> first | exact absurd h (by decide) | with_reducible exact rfl))

theorem shadowDone_same : ∀ a0 a1, Same 1175211264007 a1 (shadowDone a0 a1) := by
  intro a0 a1
  unfold shadowDone
  repeat' (first | with_reducible exact Same.refl _ | with_reducible refine (applyHome_same _ _).step rfl ?_ | with_reducible refine (compareDigest_same _ _ _ _ _).step rfl ?_ | with_reducible refine (settleWaits_same _ _).step rfl ?_ | with_reducible refine Same.foldl ?_ ?_ | with_reducible refine Same.foldl2 ?_ ?_ | intro _ | split | (dsimp only; split) | refine Same.snd (by assumption) ?_ | with_reducible refine Same.cas rfl ?_ | with_reducible refine Same.update rfl ?_ ?_ | exact Fits.mk (fun c h => by cases c <;> first | exact absurd h (by decide) | with_reducible exact rfl))

theorem digestTask_same : ∀ a0 a1 a2, Same 1175211264007 a2 (digestTask a0 a1 a2) := by
  intro a0 a1 a2
  unfold digestTask
  repeat' (first | with_reducible exact Same.refl _ | with_reducible refine Same.ite ?_ ?_ | with_reducible refine (shadowDone_same _ _).step rfl ?_ | intro _ | split | (dsimp only; split) | with_reducible refine Same.cas rfl ?_ | with_reducible refine Same.update rfl ?_ ?_ | exact Fits.mk (fun c h => by cases c <;> first | exact absurd h (by decide) | with_reducible exact rfl))

theorem lateWait_same : ∀ a0 a1 a2, Same 1106490949633 a2 (lateWait a0 a1 a2).2 := by
  intro a0 a1 a2
  unfold lateWait
  repeat' (first | with_reducible exact Same.refl _ | with_reducible refine Same.ite_snd ?_ ?_ | with_reducible refine (diverge_same _ _ _ _ _ _).step rfl ?_ | with_reducible refine Same.foldl ?_ ?_ | intro _ | split | (dsimp only; split))

theorem overdueBy_same : ∀ a0 a1 a2, Same 1175210426375 a2 (overdueBy a0 a1 a2) := by
  intro a0 a1 a2
  unfold overdueBy
  repeat' (first | with_reducible exact Same.refl _ | with_reducible refine Same.ite ?_ ?_ | with_reducible refine (diverge_same _ _ _ _ _ _).step rfl ?_ | with_reducible refine (lateWait_same _ _ _).step rfl ?_ | with_reducible refine (settleWaits_same _ _).step rfl ?_ | with_reducible refine Same.foldl ?_ ?_ | with_reducible refine Same.foldl2 ?_ ?_ | intro _ | split | (dsimp only; split) | with_reducible refine Same.cas rfl ?_ | with_reducible refine Same.update rfl ?_ ?_ | exact Fits.mk (fun c h => by cases c <;> first | exact absurd h (by decide) | with_reducible exact rfl))

theorem overdue_same : ∀ a0 a1, Same 1175210426375 a1 (overdue a0 a1) := by
  intro a0 a1
  unfold overdue
  repeat' (first | with_reducible exact Same.refl _ | with_reducible refine (overdueBy_same _ _ _).step rfl ?_ | intro _)

theorem execStandbyCommitLoss_same : ∀ a0, Within 1102196015107 (execStandbyCommitLoss a0) a0 := by
  intro a0
  unfold execStandbyCommitLoss
  repeat' (first | with_reducible exact Same.refl _ | with_reducible refine within_ite ?_ ?_ | with_reducible refine within_done ?_ | with_reducible refine (toStalemate_same _ _ _).step rfl ?_ | intro _ | split | (dsimp only; split))

theorem execResyncStartReceived_same : ∀ a0 a1, Within 4831838208 (execResyncStartReceived a0 a1) a1 := by
  intro a0 a1
  unfold execResyncStartReceived
  repeat' (first | with_reducible exact Same.refl _ | with_reducible refine within_ite ?_ ?_ | with_reducible refine within_done ?_ | with_reducible refine (twinTake_same _ _).step rfl ?_ | intro _ | split | (dsimp only; split) | with_reducible refine Same.cas rfl ?_ | with_reducible refine Same.update rfl ?_ ?_ | exact Fits.mk (fun c h => by cases c <;> first | exact absurd h (by decide) | with_reducible exact rfl))

theorem execResyncDataReceived_same : ∀ a0 a1, Within 4831838208 (execResyncDataReceived a0 a1) a1 := by
  intro a0 a1
  unfold execResyncDataReceived
  repeat' (first | with_reducible exact Same.refl _ | with_reducible refine Same.ite ?_ ?_ | with_reducible refine within_done ?_ | with_reducible refine (twinTake_same _ _).step rfl ?_ | intro _ | split | (dsimp only; split) | with_reducible refine Same.cas rfl ?_ | with_reducible refine Same.update rfl ?_ ?_ | exact Fits.mk (fun c h => by cases c <;> first | exact absurd h (by decide) | with_reducible exact rfl))

theorem applyCopy_same : ∀ a0 a1, Same 1106491792257 a1 (applyCopy a0 a1) := by
  intro a0 a1
  unfold applyCopy
  repeat' (first | with_reducible exact Same.refl _ | with_reducible refine (applyLine_same _ _ _ _ _).step rfl ?_ | with_reducible refine (setSch_same _ _ _).step rfl ?_ | with_reducible refine Same.foldl ?_ ?_ | intro _ | with_reducible refine Same.bank0 rfl ?_ | with_reducible refine Same.bank1 rfl ?_ | with_reducible refine Same.active rfl ?_ | with_reducible refine Same.update rfl ?_ ?_ | exact Fits.mk (fun c h => by cases c <;> first | exact absurd h (by decide) | with_reducible exact rfl))

theorem execResyncEndReceived_same : ∀ a0 a1, Within 1106491792257 (execResyncEndReceived a0 a1) a1 := by
  intro a0 a1
  unfold execResyncEndReceived
  repeat' (first | with_reducible exact Same.refl _ | with_reducible refine within_ite ?_ ?_ | with_reducible refine within_done ?_ | with_reducible refine (applyCopy_same _ _).step rfl ?_ | with_reducible refine (count_same _ _).step rfl ?_ | with_reducible refine (dropExchange_same _).step rfl ?_ | with_reducible refine (twinTake_same _ _).step rfl ?_ | with_reducible refine Same.foldl ?_ ?_ | intro _ | split | (dsimp only; split) | with_reducible refine Same.cas rfl ?_ | with_reducible refine Same.update rfl ?_ ?_ | exact Fits.mk (fun c h => by cases c <;> first | exact absurd h (by decide) | with_reducible exact rfl))

theorem execResyncTimeout_same : ∀ a0, Within 1103269724169 (execResyncTimeout a0) a0 := by
  intro a0
  unfold execResyncTimeout
  repeat' (first | with_reducible exact Same.refl _ | with_reducible refine within_ite ?_ ?_ | with_reducible refine within_done ?_ | with_reducible refine (advanceTo_same _ _).step rfl ?_ | with_reducible refine (noteCas_same _ _ _).step rfl ?_ | intro _ | with_reducible refine Same.cas rfl ?_ | with_reducible refine Same.update rfl ?_ ?_ | exact Fits.mk (fun c h => by cases c <;> first | exact absurd h (by decide) | with_reducible exact rfl))

theorem execResyncRetry_same : ∀ a0, Within 1107564691464 (execResyncRetry a0) a0 := by
  intro a0
  unfold execResyncRetry
  repeat' (first | with_reducible exact Same.refl _ | with_reducible refine within_ite ?_ ?_ | with_reducible refine within_done ?_ | with_reducible refine (advanceTo_same _ _).step rfl ?_ | with_reducible refine (resyncStart_same _).step rfl ?_ | intro _ | split | (dsimp only; split) | with_reducible refine Same.cas rfl ?_ | with_reducible refine Same.update rfl ?_ ?_ | exact Fits.mk (fun c h => by cases c <;> first | exact absurd h (by decide) | with_reducible exact rfl))

theorem announceAll_same : ∀ a0, Same 1099511627776 a0 (announceAll a0) := by
  intro a0
  unfold announceAll
  repeat' (first | with_reducible exact Same.refl _ | with_reducible refine (emit_same _ _).step rfl ?_ | with_reducible refine Same.foldl ?_ ?_ | intro _)

theorem republish_same : ∀ a0, Same 65536 a0 (republish a0) := by
  intro a0
  unfold republish
  repeat' (first | with_reducible exact Same.refl _ | with_reducible refine Same.ite ?_ ?_ | with_reducible refine (setPub_same _ _ _).step rfl ?_ | with_reducible refine Same.foldl ?_ ?_ | intro _)

theorem emitFromNow_same : ∀ a0, Same 1106494947331 a0 (emitFromNow a0) := by
  intro a0
  unfold emitFromNow
  repeat' (first | with_reducible exact Same.refl _ | with_reducible refine (announceAll_same _).step rfl ?_ | with_reducible refine (deliverShadow_same _).step rfl ?_ | with_reducible refine (pinsOn_same _).step rfl ?_ | with_reducible refine (republish_same _).step rfl ?_ | with_reducible refine (voiceTakeover_same _).step rfl ?_ | intro _ | with_reducible refine Same.cas rfl ?_ | with_reducible refine Same.update rfl ?_ ?_ | exact Fits.mk (fun c h => by cases c <;> first | exact absurd h (by decide) | with_reducible exact rfl))

theorem execTakeover_same : ∀ a0, Within 1107568721931 (execTakeover a0) a0 := by
  intro a0
  unfold execTakeover
  repeat' (first | with_reducible exact Same.refl _ | with_reducible refine within_ite ?_ ?_ | with_reducible refine within_done ?_ | with_reducible refine (advanceTo_same _ _).step rfl ?_ | with_reducible refine (count_same _ _).step rfl ?_ | with_reducible refine (dropExchange_same _).step rfl ?_ | with_reducible refine (emitFromNow_same _).step rfl ?_ | with_reducible refine (setCasIrq_same _ _).step rfl ?_ | with_reducible refine (toActive_same _ _ _).step rfl ?_ | intro _ | split | (dsimp only; split) | with_reducible refine Same.cas rfl ?_ | with_reducible refine Same.update rfl ?_ ?_ | exact Fits.mk (fun c h => by cases c <;> first | exact absurd h (by decide) | with_reducible exact rfl))

theorem execPromoteEffect_same : ∀ a0, Within 1107568721931 (execPromoteEffect a0) a0 := by
  intro a0
  unfold execPromoteEffect
  repeat' (first | with_reducible exact Same.refl _ | with_reducible refine within_ite ?_ ?_ | with_reducible refine within_done ?_ | with_reducible refine (advanceTo_same _ _).step rfl ?_ | with_reducible refine (dropExchange_same _).step rfl ?_ | with_reducible refine (emitFromNow_same _).step rfl ?_ | with_reducible refine (toActive_same _ _ _).step rfl ?_ | intro _ | split | (dsimp only; split) | with_reducible refine Same.cas rfl ?_ | with_reducible refine Same.update rfl ?_ ?_ | exact Fits.mk (fun c h => by cases c <;> first | exact absurd h (by decide) | with_reducible exact rfl))

theorem execAddressAnnounceRepeat_same : ∀ a0, Within 1103269724168 (execAddressAnnounceRepeat a0) a0 := by
  intro a0
  unfold execAddressAnnounceRepeat
  repeat' (first | with_reducible exact Same.refl _ | with_reducible refine Same.ite ?_ ?_ | with_reducible refine within_done ?_ | with_reducible refine (advanceTo_same _ _).step rfl ?_ | with_reducible refine (announceAll_same _).step rfl ?_ | intro _ | split | (dsimp only; split) | with_reducible refine Same.cas rfl ?_ | with_reducible refine Same.update rfl ?_ ?_ | exact Fits.mk (fun c h => by cases c <;> first | exact absurd h (by decide) | with_reducible exact rfl))

theorem execFaultReceived_same : ∀ a0 a1 a2, Within 4831838208 (execFaultReceived a0 a1 a2) a2 := by
  intro a0 a1 a2
  unfold execFaultReceived
  repeat' (first | with_reducible exact Same.refl _ | with_reducible refine Same.ite ?_ ?_ | with_reducible refine within_ite ?_ ?_ | with_reducible refine within_done ?_ | with_reducible refine (twinTake_same _ _).step rfl ?_ | intro _ | split | (dsimp only; split) | with_reducible refine Same.cas rfl ?_ | with_reducible refine Same.update rfl ?_ ?_ | exact Fits.mk (fun c h => by cases c <;> first | exact absurd h (by decide) | with_reducible exact rfl))

theorem declareFault_same : ∀ a0 a1, Same 1102196015107 a1 (declareFault a0 a1) := by
  intro a0 a1
  unfold declareFault
  repeat' (first | with_reducible exact Same.refl _ | with_reducible refine Same.ite ?_ ?_ | with_reducible refine (emit_same _ _).step rfl ?_ | with_reducible refine (noteCas_same _ _ _).step rfl ?_ | with_reducible refine (toStalemate_same _ _ _).step rfl ?_ | intro _ | with_reducible refine Same.pins rfl ?_ | with_reducible refine Same.update rfl ?_ ?_ | exact Fits.mk (fun c h => by cases c <;> first | exact absurd h (by decide) | with_reducible exact rfl))

theorem execFaultDeclare_same : ∀ a0 a1, Within 1103269756939 (execFaultDeclare a0 a1) a1 := by
  intro a0 a1
  unfold execFaultDeclare
  repeat' (first | with_reducible exact Same.refl _ | with_reducible refine within_done ?_ | with_reducible refine (advanceTo_same _ _).step rfl ?_ | with_reducible refine (declareFault_same _ _).step rfl ?_ | intro _ | split | (dsimp only; split))

theorem exchangeOne_same : ∀ a0 a1 a2, Same 1101659144577 a2 (exchangeOne a0 a1 a2) := by
  intro a0 a1 a2
  unfold exchangeOne
  repeat' (first | with_reducible exact Same.refl _ | with_reducible refine (exchangeDue_same _ _).step rfl ?_ | with_reducible refine (setSch_same _ _ _).step rfl ?_ | intro _ | split | (dsimp only; split) | with_reducible refine Same.bank0 rfl ?_ | with_reducible refine Same.bank1 rfl ?_ | with_reducible refine Same.update rfl ?_ ?_ | exact Fits.mk (fun c h => by cases c <;> first | exact absurd h (by decide) | with_reducible exact rfl))

theorem exchangeAll_same : ∀ a0 a1, Same 1101659144577 a1 (exchangeAll a0 a1) := by
  intro a0 a1
  unfold exchangeAll
  repeat' (first | with_reducible exact Same.refl _ | with_reducible refine (exchangeOne_same _ _ _).step rfl ?_ | with_reducible refine Same.foldl ?_ ?_ | intro _)

theorem execSwitchoverHandover_same : ∀ a0, Within 1176288199055 (execSwitchoverHandover a0) a0 := by
  intro a0
  unfold execSwitchoverHandover
  repeat' (first | with_reducible exact Same.refl _ | with_reducible refine within_ite ?_ ?_ | with_reducible refine within_done ?_ | with_reducible refine (advanceTo_same _ _).step rfl ?_ | with_reducible refine (count_same _ _).step rfl ?_ | with_reducible refine (emitFromNow_same _).step rfl ?_ | with_reducible refine (exchangeAll_same _ _).step rfl ?_ | with_reducible refine (finalReply_same _ _ _).step rfl ?_ | with_reducible refine (pinsOff_same _).step rfl ?_ | with_reducible refine (roleTo_same _ _ _ _).step rfl ?_ | with_reducible refine (setCasIrq_same _ _).step rfl ?_ | with_reducible refine (toActive_same _ _ _).step rfl ?_ | intro _ | split | (dsimp only; split) | with_reducible refine Same.cas rfl ?_ | with_reducible refine Same.update rfl ?_ ?_ | exact Fits.mk (fun c h => by cases c <;> first | exact absurd h (by decide) | with_reducible exact rfl))

theorem watchSlot_same : ∀ a0 a1, Same 1102196015107 a1 (watchSlot a0 a1) := by
  intro a0 a1
  unfold watchSlot
  repeat' (first | with_reducible exact Same.refl _ | with_reducible refine Same.ite ?_ ?_ | with_reducible refine (toStalemate_same _ _ _).step rfl ?_ | intro _ | split | (dsimp only; split) | with_reducible refine Same.cas rfl ?_ | with_reducible refine Same.update rfl ?_ ?_ | exact Fits.mk (fun c h => by cases c <;> first | exact absurd h (by decide) | with_reducible exact rfl))

theorem slotHealth_same : ∀ a0 a1 a2, Same 1175210426375 a2 (slotHealth a0 a1 a2) := by
  intro a0 a1 a2
  unfold slotHealth
  repeat' (first | with_reducible exact Same.refl _ | with_reducible refine Same.ite ?_ ?_ | with_reducible refine (overdue_same _ _).step rfl ?_ | intro _ | with_reducible refine Same.cas rfl ?_ | with_reducible refine Same.update rfl ?_ ?_ | exact Fits.mk (fun c h => by cases c <;> first | exact absurd h (by decide) | with_reducible exact rfl))

theorem execSlotBoundary_same : ∀ a0 a1, Within 1176284200975 (execSlotBoundary a0 a1) a1 := by
  intro a0 a1
  unfold execSlotBoundary
  repeat' (first | with_reducible exact Same.refl _ | with_reducible refine Same.ite ?_ ?_ | with_reducible refine within_ite ?_ ?_ | with_reducible refine within_done ?_ | with_reducible refine (advanceTo_same _ _).step rfl ?_ | with_reducible refine (slotHealth_same _ _ _).step rfl ?_ | with_reducible refine (toStalemate_same _ _ _).step rfl ?_ | with_reducible refine (watchSlot_same _ _).step rfl ?_ | intro _ | split | (dsimp only; split) | with_reducible refine Same.tb rfl ?_ | with_reducible refine Same.update rfl ?_ ?_ | exact Fits.mk (fun c h => by cases c <;> first | exact absurd h (by decide) | with_reducible exact rfl))

theorem execEyeMeasure_same : ∀ a0 a1, Within 536870912 (execEyeMeasure a0 a1) a1 := by
  intro a0 a1
  unfold execEyeMeasure
  repeat' (first | with_reducible exact Same.refl _ | with_reducible refine Same.ite ?_ ?_ | with_reducible refine within_done ?_ | intro _ | with_reducible refine Same.cas rfl ?_ | with_reducible refine Same.update rfl ?_ ?_ | exact Fits.mk (fun c h => by cases c <;> first | exact absurd h (by decide) | with_reducible exact rfl))

end Sys2Proof.Machine
end

