-- ==== Sys2Proof/Laws/FrameIngest.lean ====
section
/-! SUPPORT. The frame of each definition of Machine/Ingest. -/

namespace Sys2Proof.Machine

theorem countTqBad_same : ∀ a0 a1, Same 4294968320 a1 (countTqBad a0 a1) := by
  intro a0 a1
  unfold countTqBad
  repeat' (first | with_reducible exact Same.refl _ | with_reducible refine (count_same _ _).step rfl ?_ | with_reducible refine (setStream_same _ _ _).step rfl ?_ | intro _)

theorem enterMismatch_same : ∀ a0 a1 a2, Same 1101659112449 a2 (enterMismatch a0 a1 a2) := by
  intro a0 a1 a2
  unfold enterMismatch
  repeat' (first | with_reducible exact Same.refl _ | with_reducible refine Same.ite ?_ ?_ | with_reducible refine (histAdd_same _ _ _ _).step rfl ?_ | with_reducible refine (noteIngest_same _ _ _ _).step rfl ?_ | with_reducible refine (raiseVector_same _ _).step rfl ?_ | with_reducible refine (setStream_same _ _ _).step rfl ?_ | intro _ | split | (dsimp only; split))

theorem leaveMismatch_same : ∀ a0 a1 a2 a3, Same 1105954079745 a3 (leaveMismatch a0 a1 a2 a3) := by
  intro a0 a1 a2 a3
  unfold leaveMismatch
  repeat' (first | with_reducible exact Same.refl _ | with_reducible refine Same.ite ?_ ?_ | with_reducible refine (histAdd_same _ _ _ _).step rfl ?_ | with_reducible refine (noteIngest_same _ _ _ _).step rfl ?_ | with_reducible refine (setStream_same _ _ _).step rfl ?_ | with_reducible refine (streamDrop_same _ _).step rfl ?_ | intro _ | split | (dsimp only; split))

theorem prpSeen_same : ∀ a0 a1 a2 a3 a4, Same 1024 a4 (prpSeen a0 a1 a2 a3 a4) := by
  intro a0 a1 a2 a3 a4
  unfold prpSeen
  repeat' (first | with_reducible exact Same.refl _ | with_reducible refine Same.ite ?_ ?_ | with_reducible refine (setStream_same _ _ _).step rfl ?_ | intro _)

theorem authFail_same : ∀ a0 a1 a2, Same 4294968320 a2 (authFail a0 a1 a2) := by
  intro a0 a1 a2
  unfold authFail
  repeat' (first | with_reducible exact Same.refl _ | with_reducible refine Same.ite ?_ ?_ | with_reducible refine (countStream_same _ _ _).step rfl ?_ | with_reducible refine (useRefused_same _).step rfl ?_ | intro _)

theorem c37Accept_same : ∀ a0 a1 a2 a3 a4 a5, Same 1209036485633 a5 (c37Accept a0 a1 a2 a3 a4 a5) := by
  intro a0 a1 a2 a3 a4 a5
  unfold c37Accept
  repeat' (first | with_reducible exact Same.refl _ | with_reducible refine Same.ite ?_ ?_ | with_reducible refine (countStream_same _ _ _).step rfl ?_ | with_reducible refine (countTqBad_same _ _).step rfl ?_ | with_reducible refine (lateLane_same _ _ _ _ _).step rfl ?_ | with_reducible refine (operandWritten_same _ _ _ _).step rfl ?_ | with_reducible refine (setStream_same _ _ _).step rfl ?_ | with_reducible refine (streamAccept_same _ _ _ _).step rfl ?_ | with_reducible refine (streamRefused_same _ _).step rfl ?_ | refine (takeCell_same _ _ _ _ _ _ (by assumption)).step rfl ?_ | intro _ | split | (dsimp only; split))

theorem c37Ingest_same : ∀ a0 a1 a2 a3 a4, Same 1209036485633 a4 (c37Ingest a0 a1 a2 a3 a4) := by
  intro a0 a1 a2 a3 a4
  unfold c37Ingest
  repeat' (first | with_reducible exact Same.refl _ | with_reducible refine Same.ite ?_ ?_ | with_reducible refine (c37Accept_same _ _ _ _ _ _).step rfl ?_ | with_reducible refine (countStream_same _ _ _).step rfl ?_ | intro _ | split | (dsimp only; split))

theorem c37Frame_same : ∀ a0 a1, Same 1209036485633 a1 (c37Frame a0 a1) := by
  intro a0 a1
  unfold c37Frame
  repeat' (first | with_reducible exact Same.refl _ | with_reducible refine Same.ite ?_ ?_ | with_reducible refine (c37Ingest_same _ _ _ _ _).step rfl ?_ | with_reducible refine (prpSeen_same _ _ _ _ _).step rfl ?_ | with_reducible refine (setStream_same _ _ _).step rfl ?_ | intro _ | split | (dsimp only; split))

theorem rowC37118FrameReceived_same : ∀ a0 a1, Within 1210663875593 (rowC37118FrameReceived a0 a1) a1 := by
  intro a0 a1
  unfold rowC37118FrameReceived
  repeat' (first | with_reducible exact Same.refl _ | with_reducible refine Same.ite ?_ ?_ | with_reducible refine within_ite ?_ ?_ | with_reducible refine within_done ?_ | with_reducible refine (c37Frame_same _ _).step rfl ?_ | with_reducible refine (macTake_same _ _ _ _ _ _ _ _).step rfl ?_ | with_reducible refine (svcInput_same _ _ _ _ _ _).step rfl ?_ | intro _ | split | (dsimp only; split) | refine Same.snd (by assumption) ?_ | refine Same.fst (by assumption) ?_ | refine Same.snd2 (by assumption) ?_ | refine Same.snd3 (by assumption) ?_)

theorem recordIngest_same : ∀ a0 a1 a2 a3, Same 1209036485633 a3 (recordIngest a0 a1 a2 a3) := by
  intro a0 a1 a2 a3
  unfold recordIngest
  repeat' (first | with_reducible exact Same.refl _ | with_reducible refine Same.ite ?_ ?_ | with_reducible refine (c37Ingest_same _ _ _ _ _).step rfl ?_ | intro _ | split | (dsimp only; split))

theorem rowInjectionRecordTaken_same : ∀ a0 a1, Within 1209577550849 (rowInjectionRecordTaken a0 a1) a1 := by
  intro a0 a1
  unfold rowInjectionRecordTaken
  repeat' (first | with_reducible exact Same.refl _ | with_reducible refine within_ite ?_ ?_ | with_reducible refine within_done ?_ | with_reducible refine (count_same _ _).step rfl ?_ | with_reducible refine (mirrorOut_same _ _ _ _ _).step rfl ?_ | with_reducible refine (recordIngest_same _ _ _ _).step rfl ?_ | with_reducible refine (setIq_same _ _ _).step rfl ?_ | intro _ | split | (dsimp only; split))

theorem svFeed_same : ∀ a0 a1 a2 a3 a4 a5 a6 a7, Same 1209033342001 a7 (svFeed a0 a1 a2 a3 a4 a5 a6 a7) := by
  intro a0 a1 a2 a3 a4 a5 a6 a7
  unfold svFeed
  repeat' (first | with_reducible exact Same.refl _ | with_reducible refine Same.ite ?_ ?_ | with_reducible refine (filterDrain_same _ _ _ _ _).step rfl ?_ | with_reducible refine (refBusUpdate_same _ _ _).step rfl ?_ | with_reducible refine (setFilter_same _ _ _).step rfl ?_ | intro _)

theorem svHeard_same : ∀ a0 a1 a2 a3, Same 1024 a3 (svHeard a0 a1 a2 a3) := by
  intro a0 a1 a2 a3
  unfold svHeard
  repeat' (first | with_reducible exact Same.refl _ | with_reducible refine (setStream_same _ _ _).step rfl ?_ | intro _)

theorem svAccept_same : ∀ a0 a1 a2 a3 a4 a5, Same 1209033342001 a5 (svAccept a0 a1 a2 a3 a4 a5) := by
  intro a0 a1 a2 a3 a4 a5
  unfold svAccept
  repeat' (first | with_reducible exact Same.refl _ | with_reducible refine Same.ite ?_ ?_ | with_reducible refine (countStream_same _ _ _).step rfl ?_ | with_reducible refine (countTqBad_same _ _).step rfl ?_ | refine (stagingCell_same _ _ _ _ _ (by assumption)).step rfl ?_ | with_reducible refine (streamAccept_same _ _ _ _).step rfl ?_ | with_reducible refine (streamRefused_same _ _).step rfl ?_ | with_reducible refine (svFeed_same _ _ _ _ _ _ _ _).step rfl ?_ | with_reducible refine (svHeard_same _ _ _ _).step rfl ?_ | intro _ | split | (dsimp only; split))

theorem svAsdu_same : ∀ a0 a1 a2 a3 a4, Same 1209034390577 a3 (svAsdu a0 a1 a2 a3 a4) := by
  intro a0 a1 a2 a3 a4
  unfold svAsdu
  repeat' (first | with_reducible exact Same.refl _ | with_reducible refine Same.ite ?_ ?_ | with_reducible refine (countStream_same _ _ _).step rfl ?_ | with_reducible refine (ringTake_same _ _ _ _ _ _).step rfl ?_ | with_reducible refine (svAccept_same _ _ _ _ _ _).step rfl ?_ | intro _)

theorem svFrame_same : ∀ a0 a1, Same 1209034390577 a1 (svFrame a0 a1) := by
  intro a0 a1
  unfold svFrame
  repeat' (first | with_reducible exact Same.refl _ | with_reducible refine Same.ite ?_ ?_ | with_reducible refine (authFail_same _ _ _).step rfl ?_ | with_reducible refine (countStream_same _ _ _).step rfl ?_ | with_reducible refine (enterMismatch_same _ _ _).step rfl ?_ | with_reducible refine (leaveMismatch_same _ _ _ _).step rfl ?_ | with_reducible refine (prpSeen_same _ _ _ _ _).step rfl ?_ | with_reducible refine (svAsdu_same _ _ _ _ _).step rfl ?_ | with_reducible refine Same.foldl ?_ ?_ | intro _ | split | (dsimp only; split))

theorem rowSvFrameReceived_same : ∀ a0 a1, Within 1210661780537 (rowSvFrameReceived a0 a1) a1 := by
  intro a0 a1
  unfold rowSvFrameReceived
  repeat' (first | with_reducible exact Same.refl _ | with_reducible refine Same.ite ?_ ?_ | with_reducible refine within_ite ?_ ?_ | with_reducible refine within_done ?_ | with_reducible refine (macTake_same _ _ _ _ _ _ _ _).step rfl ?_ | with_reducible refine (svFrame_same _ _).step rfl ?_ | with_reducible refine (svcInput_same _ _ _ _ _ _).step rfl ?_ | intro _ | split | (dsimp only; split) | refine Same.snd (by assumption) ?_ | refine Same.fst (by assumption) ?_ | refine Same.snd2 (by assumption) ?_ | refine Same.snd3 (by assumption) ?_)

theorem goosePub_same : ∀ a0 a1, Same 1105954079745 a1 (goosePub a0 a1) := by
  intro a0 a1
  unfold goosePub
  repeat' (first | with_reducible exact Same.refl _ | with_reducible refine Same.ite ?_ ?_ | with_reducible refine (authFail_same _ _ _).step rfl ?_ | with_reducible refine (countStream_same _ _ _).step rfl ?_ | with_reducible refine (enterMismatch_same _ _ _).step rfl ?_ | with_reducible refine (leaveMismatch_same _ _ _ _).step rfl ?_ | with_reducible refine (prpSeen_same _ _ _ _ _).step rfl ?_ | with_reducible refine (setStream_same _ _ _).step rfl ?_ | intro _ | split | (dsimp only; split))

theorem execGooseRPublicationReceived_same : ∀ a0 a1, Within 1107581469705 (execGooseRPublicationReceived a0 a1) a1 := by
  intro a0 a1
  unfold execGooseRPublicationReceived
  repeat' (first | with_reducible exact Same.refl _ | with_reducible refine Same.ite ?_ ?_ | with_reducible refine within_ite ?_ ?_ | with_reducible refine within_done ?_ | with_reducible refine (goosePub_same _ _).step rfl ?_ | with_reducible refine (macTake_same _ _ _ _ _ _ _ _).step rfl ?_ | with_reducible refine (svcInput_same _ _ _ _ _ _).step rfl ?_ | intro _ | split | (dsimp only; split) | refine Same.snd (by assumption) ?_ | refine Same.fst (by assumption) ?_ | refine Same.snd2 (by assumption) ?_ | refine Same.snd3 (by assumption) ?_)

theorem gooseOperand_same : ∀ a0 a1 a2 a3, Same 1209033339905 a3 (gooseOperand a0 a1 a2 a3) := by
  intro a0 a1 a2 a3
  unfold gooseOperand
  repeat' (first | with_reducible exact Same.refl _ | with_reducible refine Same.ite ?_ ?_ | with_reducible refine (countTqBad_same _ _).step rfl ?_ | with_reducible refine (operandWritten_same _ _ _ _).step rfl ?_ | with_reducible refine (setStream_same _ _ _).step rfl ?_ | with_reducible refine (streamAccept_same _ _ _ _).step rfl ?_ | with_reducible refine (streamRefused_same _ _).step rfl ?_ | refine (takeCell_same _ _ _ _ _ _ (by assumption)).step rfl ?_ | intro _ | split | (dsimp only; split))

theorem rowGooseOperandInstant_same : ∀ a0 a1 a2, Within 1210107081737 (rowGooseOperandInstant a0 a1 a2) a2 := by
  intro a0 a1 a2
  unfold rowGooseOperandInstant
  repeat' (first | with_reducible exact Same.refl _ | with_reducible refine within_ite ?_ ?_ | with_reducible refine within_done ?_ | with_reducible refine (advanceTo_same _ _).step rfl ?_ | with_reducible refine (gooseOperand_same _ _ _ _).step rfl ?_ | intro _ | split | (dsimp only; split))

theorem cfgToRing_same : ∀ a0 a1 a2, Same 1103823372289 a2 (cfgToRing a0 a1 a2) := by
  intro a0 a1 a2
  unfold cfgToRing
  repeat' (first | with_reducible exact Same.refl _ | with_reducible refine (rxDeliver_same _ _ _ _).step rfl ?_ | intro _)

theorem cfgFrame_same : ∀ a0 a1 a2, Same 1105970856961 a2 (cfgFrame a0 a1 a2) := by
  intro a0 a1 a2
  unfold cfgFrame
  repeat' (first | with_reducible exact Same.refl _ | with_reducible refine Same.ite ?_ ?_ | with_reducible refine (cfgToRing_same _ _ _).step rfl ?_ | with_reducible refine (countStream_same _ _ _).step rfl ?_ | with_reducible refine (enterMismatch_same _ _ _).step rfl ?_ | with_reducible refine (leaveMismatch_same _ _ _ _).step rfl ?_ | with_reducible refine (prpSeen_same _ _ _ _ _).step rfl ?_ | intro _ | split | (dsimp only; split))

theorem execCfgFrameReceived_same : ∀ a0 a1, Within 1107581469705 (execCfgFrameReceived a0 a1) a1 := by
  intro a0 a1
  unfold execCfgFrameReceived
  repeat' (first | with_reducible exact Same.refl _ | with_reducible refine Same.ite ?_ ?_ | with_reducible refine within_ite ?_ ?_ | with_reducible refine within_done ?_ | with_reducible refine (cfgFrame_same _ _ _).step rfl ?_ | with_reducible refine (macTake_same _ _ _ _ _ _ _ _).step rfl ?_ | with_reducible refine (svcInput_same _ _ _ _ _ _).step rfl ?_ | intro _ | split | (dsimp only; split) | refine Same.snd (by assumption) ?_ | refine Same.fst (by assumption) ?_ | refine Same.snd2 (by assumption) ?_ | refine Same.snd3 (by assumption) ?_)

theorem execStreamMissingLimit_same : ∀ a0 a1 a2, Within 1107027825673 (execStreamMissingLimit a0 a1 a2) a2 := by
  intro a0 a1 a2
  unfold execStreamMissingLimit
  repeat' (first | with_reducible exact Same.refl _ | with_reducible refine Same.ite ?_ ?_ | with_reducible refine within_ite ?_ ?_ | with_reducible refine within_done ?_ | with_reducible refine (advanceTo_same _ _).step rfl ?_ | with_reducible refine (limitPassed_same _ _ _).step rfl ?_ | with_reducible refine (noteMissed_same _ _ _).step rfl ?_ | with_reducible refine (setStream_same _ _ _).step rfl ?_ | intro _ | split | (dsimp only; split))

end Sys2Proof.Machine
end

