-- ==== Sys2Proof/Laws/FrameTasks.lean ====
section
/-! SUPPORT. The frame of each definition of Machine/Tasks. -/

namespace Sys2Proof.Machine

theorem viewOld_same : ∀ a0 a1, Same 2432 a1 (viewOld a0 a1) := by
  intro a0 a1
  unfold viewOld
  repeat' (first | with_reducible exact Same.refl _ | with_reducible refine (setActive_same _ _).step rfl ?_ | with_reducible refine (setFilter_same _ _ _).step rfl ?_ | intro _ | split | (dsimp only; split))

theorem unviewOld_same : ∀ a0 a1 a2, Same 2432 a2 (unviewOld a0 a1 a2) := by
  intro a0 a1 a2
  unfold unviewOld
  repeat' (first | with_reducible exact Same.refl _ | with_reducible refine Same.ite ?_ ?_ | with_reducible refine (setActive_same _ _).step rfl ?_ | intro _ | split | (dsimp only; split) | with_reducible refine Same.filters rfl ?_ | with_reducible refine Same.update rfl ?_ ?_ | exact Fits.mk (fun c h => by cases c <;> first | exact absurd h (by decide) | with_reducible exact rfl))

theorem underOld_same {m : Nat} (k : TaskInst) (f : State → State) (e : m &&& 896 = 0) (h : ∀ s, Same m s (f s)) :
    ∀ s, Same (m ||| 2048) s (underOld k f s) := by
  intro s
  have bit : ∀ c : Part, (896).testBit c.ctorIdx = true → m.testBit c.ctorIdx = false := fun c hc => by
    have := congrArg (·.testBit c.ctorIdx) e
    simpa [Nat.testBit_and, hc] using this
  have h0 : (f (viewOld k s)).bank0 = (viewOld k s).bank0 := ((h _).keeps .bank0 (bit .bank0 rfl)).symm
  have h1 : (f (viewOld k s)).bank1 = (viewOld k s).bank1 := ((h _).keeps .bank1 (bit .bank1 rfl)).symm
  have h2 : (f (viewOld k s)).active = (viewOld k s).active := ((h _).keeps .active (bit .active rfl)).symm
  have hb : (underOld k f s).bank0 = s.bank0 ∧ (underOld k f s).bank1 = s.bank1 := by
    unfold underOld
    generalize f (viewOld k s) = x at h0 h1 h2
    cases ho : k.old with
    | none =>
      have v : viewOld k s = s := by unfold viewOld; rw [ho]
      have u : unviewOld k s x = x := by unfold unviewOld; rw [ho]
      rw [v] at h0 h1
      rw [u]
      exact ⟨h0, h1⟩
    | some o =>
      have v : (viewOld k s).active = s.active ∧ (s.active = true → (viewOld k s).bank0 = s.bank0)
          ∧ (s.active = false → (viewOld k s).bank1 = s.bank1) := by
        unfold viewOld
        rw [ho]
        cases hch : o.chain <;> cases ha : s.active <;> simp [setActive, setFilter, ha, hch]
      have u : (unviewOld k s x).bank0 = (setActive (activeBank s) x).bank0
          ∧ (unviewOld k s x).bank1 = (setActive (activeBank s) x).bank1 := by
        unfold unviewOld
        rw [ho]
        dsimp only
        split <;> exact ⟨rfl, rfl⟩
      rw [u.1, u.2]
      rw [v.1] at h2
      cases ha : s.active with
      | true => exact ⟨by rw [← v.2.1 ha, ← h0]; simp [setActive, h2, ha], by simp [setActive, activeBank, h2, ha]⟩
      | false => exact ⟨by simp [setActive, activeBank, h2, ha], by rw [← v.2.2 ha, ← h1]; simp [setActive, h2, ha]⟩
  refine ⟨fun c hc => ?_⟩
  rw [Nat.testBit_or, Bool.or_eq_false_iff] at hc
  by_cases c0 : c = .bank0
  · subst c0; exact hb.1.symm
  by_cases c1 : c = .bank1
  · subst c1; exact hb.2.symm
  have bits : (2432).testBit c.ctorIdx = false := by
    have := hc.2
    clear hc
    revert this c0 c1
    cases c <;> decide
  exact Part.same_trans ((viewOld_same k s).keeps c bits) (Part.same_trans ((h _).keeps c hc.1) ((unviewOld_same k s _).keeps c bits))

theorem detRenew_same : ∀ a0 a1, Same 1099511644162 a1 (detRenew a0 a1) := by
  intro a0 a1
  unfold detRenew
  repeat' (first | with_reducible exact Same.refl _ | with_reducible refine Same.ite ?_ ?_ | with_reducible refine (alarmPin_same _).step rfl ?_ | intro _ | split | (dsimp only; split) | with_reducible refine Same.dets rfl ?_ | with_reducible refine Same.update rfl ?_ ?_ | exact Fits.mk (fun c h => by cases c <;> first | exact absurd h (by decide) | with_reducible exact rfl))

theorem lostWork_same : ∀ a0 a1, Same 1106545432683 a1 (lostWork a0 a1) := by
  intro a0 a1
  unfold lostWork
  split
  · exact (detRenew_same _ _).step rfl ((underOld_same _ _ rfl (detDropped_same _) _).of rfl)
  · exact (underOld_same _ _ rfl (outDropped_same _) _).of rfl
  · exact (underOld_same _ _ rfl (filterDropped_same _) _).of rfl
  · exact (voiceDropped_same _ _).of rfl
  · exact (copyDropped_same _).of rfl
  · exact Same.refl _

theorem settle_same : ∀ a0, Same 1106545473643 a0 (settle a0) := by
  intro a0
  unfold settle
  repeat' (first | with_reducible exact Same.refl _ | with_reducible refine (exchangeDue_same _ _).step rfl ?_ | with_reducible refine (lostWork_same _ _).step rfl ?_ | with_reducible refine Same.foldl ?_ ?_ | intro _ | with_reducible refine Same.disp rfl ?_ | with_reducible refine Same.update rfl ?_ ?_ | exact Fits.mk (fun c h => by cases c <;> first | exact absurd h (by decide) | with_reducible exact rfl))

theorem settled_same {M : Nat} {o : Host.Outcome State Fault Refusal} {s : State} (h : Within M o s) (e : 1106545473643 ||| M = M) :
    Within M (settled o) s := by
  refine ⟨fun t ht => ?_⟩
  cases o with
  | next x => cases ht; exact (settle_same _).step e (h.next x rfl)
  | fault f => cases ht
  | refused r => cases ht

theorem execDeadlineEvaluation_same : ∀ a0 a1 s, Within 1107619216491 (execDeadlineEvaluation a0 a1 s) s := by
  intro a0 a1 s
  exact settled_same (within_step (rowDeadlineEvaluation_same a0 a1 s) rfl (Same.refl _)) rfl

theorem execC37118FrameReceived_same : ∀ a0 s, Within 1210698431595 (execC37118FrameReceived a0 s) s := by
  intro a0 s
  exact settled_same (within_step (rowC37118FrameReceived_same a0 s) rfl (Same.refl _)) rfl

theorem execInjectionRecordTaken_same : ∀ a0 s, Within 1209628884075 (execInjectionRecordTaken a0 s) s := by
  intro a0 s
  exact settled_same (within_step (rowInjectionRecordTaken_same a0 s) rfl (Same.refl _)) rfl

theorem execSvFrameReceived_same : ∀ a0 s, Within 1210698431611 (execSvFrameReceived a0 s) s := by
  intro a0 s
  exact settled_same (within_step (rowSvFrameReceived_same a0 s) rfl (Same.refl _)) rfl

theorem execGooseOperandInstant_same : ∀ a0 a1 s, Within 1210698431595 (execGooseOperandInstant a0 a1 s) s := by
  intro a0 a1 s
  exact settled_same (within_step (rowGooseOperandInstant_same a0 a1 s) rfl (Same.refl _)) rfl

theorem tickIssue_same : ∀ a0 a1 a2, Same 1106494095457 a2 (tickIssue a0 a1 a2) := by
  intro a0 a1 a2
  unfold tickIssue
  repeat' (first | with_reducible exact Same.refl _ | with_reducible refine Same.ite ?_ ?_ | with_reducible refine (addPhaseAt_same _ _ _ _ _).step rfl ?_ | with_reducible refine (triggerCap_same _ _ _ _).step rfl ?_ | intro _ | split | (dsimp only; split))

theorem issueAct_same : ∀ a0 a1 a2, Same 3408647928943 a2 (issueAct a0 a1 a2) := by
  intro a0 a1 a2
  unfold issueAct
  repeat' (first | with_reducible exact Same.refl _ | with_reducible refine (copyRelease_same _ _ _).step rfl ?_ | with_reducible refine (cycleIssue_same _ _ _).step rfl ?_ | with_reducible refine (deadlineIssue_same _ _ _).step rfl ?_ | with_reducible refine (playoutIssue_same _ _ _ _).step rfl ?_ | with_reducible refine (publishAt_same _ _ _).step rfl ?_ | with_reducible refine (releaseIssue_same _ _ _ _).step rfl ?_ | with_reducible refine (tickIssue_same _ _ _).step rfl ?_ | intro _ | split | (dsimp only; split))

theorem takeIssue_same : ∀ a0 a1 a2, Same 3408647945327 a1 (takeIssue a0 a1 a2) := by
  intro a0 a1 a2
  unfold takeIssue
  repeat' (first | with_reducible exact Same.refl _ | with_reducible refine (issueAct_same _ _ _).step rfl ?_ | with_reducible refine (settle_same _).step rfl ?_ | intro _ | with_reducible refine Same.tb rfl ?_ | with_reducible refine Same.update rfl ?_ ?_ | exact Fits.mk (fun c h => by cases c <;> first | exact absurd h (by decide) | with_reducible exact rfl))

theorem sequence_same : ∀ a0 a1 a2 a3, Within 3409721687151 (sequence a0 a1 a2 a3) a3 := by
  intro a0 a1 a2 a3
  unfold sequence
  repeat' (first | with_reducible exact Same.refl _ | with_reducible refine within_ite ?_ ?_ | with_reducible refine within_done ?_ | with_reducible refine (advanceTo_same _ _).step rfl ?_ | with_reducible refine (takeIssue_same _ _ _).step rfl ?_ | with_reducible refine Same.foldl ?_ ?_ | intro _ | split | (dsimp only; split))

theorem execDeadlineIssue_same : ∀ a0 a1 a2, Within 3409721687151 (execDeadlineIssue a0 a1 a2) a2 := by
  intro a0 a1 a2
  unfold execDeadlineIssue
  repeat' (first | with_reducible exact Same.refl _ | with_reducible refine within_step (sequence_same _ _ _ _) rfl ?_ | intro _)

theorem execReleaseIssue_same : ∀ a0 a1 a2, Within 3409721687151 (execReleaseIssue a0 a1 a2) a2 := by
  intro a0 a1 a2
  unfold execReleaseIssue
  repeat' (first | with_reducible exact Same.refl _ | with_reducible refine within_step (sequence_same _ _ _ _) rfl ?_ | intro _)

theorem execPlayoutIssue_same : ∀ a0 a1 a2, Within 3409721687151 (execPlayoutIssue a0 a1 a2) a2 := by
  intro a0 a1 a2
  unfold execPlayoutIssue
  repeat' (first | with_reducible exact Same.refl _ | with_reducible refine within_step (sequence_same _ _ _ _) rfl ?_ | intro _)

theorem execCycleIssue_same : ∀ a0 a1 a2, Within 3409721687151 (execCycleIssue a0 a1 a2) a2 := by
  intro a0 a1 a2
  unfold execCycleIssue
  repeat' (first | with_reducible exact Same.refl _ | with_reducible refine within_step (sequence_same _ _ _ _) rfl ?_ | intro _)

theorem execCopyIssue_same : ∀ a0 a1 a2, Within 3409721687151 (execCopyIssue a0 a1 a2) a2 := by
  intro a0 a1 a2
  unfold execCopyIssue
  repeat' (first | with_reducible exact Same.refl _ | with_reducible refine within_step (sequence_same _ _ _ _) rfl ?_ | intro _)

theorem execTickIssue_same : ∀ a0 a1 a2, Within 3409721687151 (execTickIssue a0 a1 a2) a2 := by
  intro a0 a1 a2
  unfold execTickIssue
  repeat' (first | with_reducible exact Same.refl _ | with_reducible refine within_step (sequence_same _ _ _ _) rfl ?_ | intro _)

theorem execPublishIssue_same : ∀ a0 a1 a2, Within 3409721687151 (execPublishIssue a0 a1 a2) a2 := by
  intro a0 a1 a2
  unfold execPublishIssue
  repeat' (first | with_reducible exact Same.refl _ | with_reducible refine within_step (sequence_same _ _ _ _) rfl ?_ | intro _)

theorem execPhaseActionTaken_same : ∀ a0 a1, Within 1107567870059 (execPhaseActionTaken a0 a1) a1 := by
  intro a0 a1
  unfold execPhaseActionTaken
  repeat' (first | with_reducible exact Same.refl _ | with_reducible refine within_done ?_ | with_reducible refine (advanceTo_same _ _).step rfl ?_ | with_reducible refine (captureTaken_same _ _ _ _ _ _ _ _ _).step rfl ?_ | with_reducible refine (phaseOutcome_same _ _ _).step rfl ?_ | with_reducible refine (wasOutDrive_same _ _ _).step rfl ?_ | intro _ | split | (dsimp only; split) | with_reducible refine Same.phases rfl ?_ | with_reducible refine Same.update rfl ?_ ?_ | exact Fits.mk (fun c h => by cases c <;> first | exact absurd h (by decide) | with_reducible exact rfl))

theorem execWasInEdgeAccepted_same : ∀ a0 a1 a2 a3, Within 1107567837291 (execWasInEdgeAccepted a0 a1 a2 a3) a3 := by
  intro a0 a1 a2 a3
  unfold execWasInEdgeAccepted
  repeat' (first | with_reducible exact Same.refl _ | with_reducible refine within_ite ?_ ?_ | with_reducible refine within_done ?_ | with_reducible refine (advanceTo_same _ _).step rfl ?_ | with_reducible refine (triggerAll_same _ _ _).step rfl ?_ | intro _ | with_reducible refine Same.pins rfl ?_ | with_reducible refine Same.update rfl ?_ ?_ | exact Fits.mk (fun c h => by cases c <;> first | exact absurd h (by decide) | with_reducible exact rfl))

theorem putAll_same : ∀ k a0 a1, ∀ t, putAll k a0 a1 = some t → Same 1105956175873 a1 t := by
  intro k a0 a1 t
  induction a0 generalizing a1 with
  | nil => intro h; cases h; exact Same.refl _
  | cons x xs ih =>
    obtain ⟨q, p, d⟩ := x
    intro h
    unfold putAll at h
    split at h
    · cases h; exact Same.refl _
    split at h
    · exact (ih _ h).trans ((oqPut_same _ _ _ _).of rfl)
    · cases h

theorem taskWork_same : ∀ a0 a1 a2, Same 3374288205935 a2 (taskWork a0 a1 a2).1 := by
  intro a0 a1 a2
  unfold taskWork
  repeat' (first | with_reducible exact Same.refl _ | with_reducible refine Same.ite ?_ ?_ | with_reducible refine (archiveWork_same _ _ _).step rfl ?_ | with_reducible refine (commitBuild_same _ _).step rfl ?_ | with_reducible refine (detWork_same _ _).step rfl ?_ | with_reducible refine (filterWrite_same _ _).step rfl ?_ | with_reducible refine (outWork_same _ _).step rfl ?_ | with_reducible refine (schemeWork_same _ _ _ _).step rfl ?_ | with_reducible refine (triggerAll_same _ _ _).step rfl ?_ | with_reducible refine (voiceTask_same _ _).step rfl ?_ | with_reducible refine Same.foldl ?_ ?_ | intro _ | split | (dsimp only; split))

theorem execTaskComplete_same : ∀ a0 a1 a2, Within 3374288206319 (execTaskComplete a0 a1 a2) a2 := by
  intro a0 a1 a2
  unfold execTaskComplete
  repeat' (first | with_reducible exact Same.refl _ | with_reducible refine within_done ?_ | with_reducible refine (detRenew_same _ _).step rfl ?_ | with_reducible refine (digestTask_same _ _ _).step rfl ?_ | with_reducible refine (oqStall_same _ _ _ _).step rfl ?_ | refine (putAll_same _ _ _ _ (by assumption)).step rfl ?_ | with_reducible refine (settle_same _).step rfl ?_ | with_reducible refine (taskEnd_same _ _ _).step rfl ?_ | with_reducible refine (taskWork_same _ _ _).step rfl ?_ | with_reducible refine (unviewOld_same _ _ _).step rfl ?_ | with_reducible refine (viewOld_same _ _).step rfl ?_ | with_reducible refine (writeOperandOf_same _ _ _ _).step rfl ?_ | intro _ | split | (dsimp only; split) | refine Same.fst (by assumption) ?_)

theorem execTaskAbort_same : ∀ a0 a1, Within 1107619215467 (execTaskAbort a0 a1) a1 := by
  intro a0 a1
  unfold execTaskAbort
  repeat' (first | with_reducible exact Same.refl _ | with_reducible refine Same.ite ?_ ?_ | with_reducible refine within_done ?_ | with_reducible refine (advanceTo_same _ _).step rfl ?_ | with_reducible refine (count_same _ _).step rfl ?_ | with_reducible refine (lostWork_same _ _).step rfl ?_ | with_reducible refine (noteData_same _ _ _ _ _).step rfl ?_ | with_reducible refine (setTmplRun_same _ _ _).step rfl ?_ | with_reducible refine (settle_same _).step rfl ?_ | with_reducible refine (taskEnd_same _ _ _).step rfl ?_ | with_reducible refine (traceOverrun_same _ _ _ _ _).step rfl ?_ | with_reducible refine (voiceAborted_same _ _).step rfl ?_ | intro _ | split | (dsimp only; split))

theorem execSchemeRuntimeFault_same : ∀ a0 a1, Within 1106545473643 (execSchemeRuntimeFault a0 a1) a1 := by
  intro a0 a1
  unfold execSchemeRuntimeFault
  repeat' (first | with_reducible exact Same.refl _ | with_reducible refine Same.ite ?_ ?_ | with_reducible refine within_ite ?_ ?_ | with_reducible refine within_done ?_ | with_reducible refine (count_same _ _).step rfl ?_ | with_reducible refine (noteData_same _ _ _ _ _).step rfl ?_ | with_reducible refine (setSch_same _ _ _).step rfl ?_ | with_reducible refine (settle_same _).step rfl ?_ | with_reducible refine (taskEnd_same _ _ _).step rfl ?_ | intro _ | split | (dsimp only; split))

theorem execHoldLimitExpiry_same : ∀ a0 a1, Within 1107619215467 (execHoldLimitExpiry a0 a1) a1 := by
  intro a0 a1
  unfold execHoldLimitExpiry
  repeat' (first | with_reducible exact Same.refl _ | with_reducible refine Same.ite ?_ ?_ | with_reducible refine within_done ?_ | with_reducible refine (advanceTo_same _ _).step rfl ?_ | with_reducible refine (count_same _ _).step rfl ?_ | with_reducible refine (noteData_same _ _ _ _ _).step rfl ?_ | with_reducible refine (releaseDropped_same _ _).step rfl ?_ | with_reducible refine (removeTask_same _ _).step rfl ?_ | with_reducible refine (settle_same _).step rfl ?_ | intro _ | split | (dsimp only; split) | with_reducible refine Same.disp rfl ?_ | with_reducible refine Same.update rfl ?_ ?_ | exact Fits.mk (fun c h => by cases c <;> first | exact absurd h (by decide) | with_reducible exact rfl))

theorem execOqStallResume_same : ∀ a0 a1, Within 1105957224449 (execOqStallResume a0 a1) a1 := by
  intro a0 a1
  unfold execOqStallResume
  repeat' (first | with_reducible exact Same.refl _ | with_reducible refine Same.ite ?_ ?_ | with_reducible refine within_ite ?_ ?_ | with_reducible refine within_done ?_ | with_reducible refine (capDrain_same _ _ _).step rfl ?_ | with_reducible refine (setOq_same _ _ _).step rfl ?_ | with_reducible refine Same.foldl ?_ ?_ | intro _)

end Sys2Proof.Machine
end

