-- ==== Sys2Proof/Laws/FrameRunCtl.lean ====
section
/-! SUPPORT. The frame of each definition of Machine/RunCtl. -/

namespace Sys2Proof.Machine

theorem startFilters_same : ∀ a0 a1, Same 4294969344 a1 (startFilters a0 a1) := by
  intro a0 a1
  unfold startFilters
  repeat' (first | with_reducible exact Same.refl _ | with_reducible refine (countBy_same _ _ _).step rfl ?_ | with_reducible refine (setFilter_same _ _ _).step rfl ?_ | with_reducible refine Same.foldl ?_ ?_ | intro _ | split | (dsimp only; split) | with_reducible refine Same.filters rfl ?_ | with_reducible refine Same.update rfl ?_ ?_ | exact Fits.mk (fun c h => by cases c <;> first | exact absurd h (by decide) | with_reducible exact rfl))

theorem swapFilters_same : ∀ a0 a1 a2, Same 4294969344 a2 (swapFilters a0 a1 a2) := by
  intro a0 a1 a2
  unfold swapFilters
  repeat' (first | with_reducible exact Same.refl _ | with_reducible refine Same.ite ?_ ?_ | with_reducible refine (countBy_same _ _ _).step rfl ?_ | with_reducible refine (setFilter_same _ _ _).step rfl ?_ | with_reducible refine Same.foldl ?_ ?_ | intro _ | split | (dsimp only; split) | with_reducible refine Same.filters rfl ?_ | with_reducible refine Same.update rfl ?_ ?_ | exact Fits.mk (fun c h => by cases c <;> first | exact absurd h (by decide) | with_reducible exact rfl))

theorem startStreams_same : ∀ a0, Same 1024 a0 (startStreams a0) := by
  intro a0
  unfold startStreams
  repeat' (first | with_reducible exact Same.refl _ | intro _ | with_reducible refine Same.streams rfl ?_ | with_reducible refine Same.update rfl ?_ ?_ | exact Fits.mk (fun c h => by cases c <;> first | exact absurd h (by decide) | with_reducible exact rfl))

theorem swapStreams_same : ∀ a0 a1 a2, Same 1024 a2 (swapStreams a0 a1 a2) := by
  intro a0 a1 a2
  unfold swapStreams
  repeat' (first | with_reducible exact Same.refl _ | intro _ | with_reducible refine Same.streams rfl ?_ | with_reducible refine Same.update rfl ?_ ?_ | exact Fits.mk (fun c h => by cases c <;> first | exact absurd h (by decide) | with_reducible exact rfl))

theorem retireInst_same : ∀ a0 a1 a2 a3, Same 1103806599169 a3 (retireInst a0 a1 a2 a3) := by
  intro a0 a1 a2 a3
  unfold retireInst
  repeat' (first | with_reducible exact Same.refl _ | with_reducible refine (count_same _ _).step rfl ?_ | with_reducible refine (dropInst_same _ _ _).step rfl ?_ | with_reducible refine (traceMatch_same _ _ _ _ _).step rfl ?_ | with_reducible refine (unreference_same _ _ _).step rfl ?_ | intro _ | split | (dsimp only; split) | refine Same.snd (by assumption) ?_ | refine Same.fst (by assumption) ?_ | refine Same.snd2 (by assumption) ?_ | refine Same.snd3 (by assumption) ?_)

theorem carryMembers_same : ∀ a0 a1 a2, Same 4096 a2 (carryMembers a0 a1 a2) := by
  intro a0 a1 a2
  unfold carryMembers
  repeat' (first | with_reducible exact Same.refl _ | with_reducible refine (setInst_same _ _).step rfl ?_ | with_reducible refine Same.foldl ?_ ?_ | intro _ | split | (dsimp only; split) | with_reducible refine Same.mst rfl ?_ | with_reducible refine Same.update rfl ?_ ?_ | exact Fits.mk (fun c h => by cases c <;> first | exact absurd h (by decide) | with_reducible exact rfl))

theorem carryComplete_same : ∀ a0 a1 a2 a3 a4, Same 1105954123777 a4 (carryComplete a0 a1 a2 a3 a4) := by
  intro a0 a1 a2 a3 a4
  unfold carryComplete
  repeat' (first | with_reducible exact Same.refl _ | with_reducible refine Same.ite ?_ ?_ | with_reducible refine (count_same _ _).step rfl ?_ | with_reducible refine (fire_same _ _ _ _ _).step rfl ?_ | with_reducible refine (setInst_same _ _).step rfl ?_ | with_reducible refine (traceMatch_same _ _ _ _ _).step rfl ?_ | intro _ | split | (dsimp only; split))

theorem keepCycles_same : ∀ a0, Same 4096 a0 (keepCycles a0) := by
  intro a0
  unfold keepCycles
  repeat' (first | with_reducible exact Same.refl _ | with_reducible refine (instSettle_same _ _).step rfl ?_ | with_reducible refine Same.foldl ?_ ?_ | intro _)

theorem swapGroups_same : ∀ a0 a1 a2, Same 1105954123777 a2 (swapGroups a0 a1 a2) := by
  intro a0 a1 a2
  unfold swapGroups
  repeat' (first | with_reducible exact Same.refl _ | with_reducible refine Same.ite ?_ ?_ | with_reducible refine (carryComplete_same _ _ _ _ _).step rfl ?_ | with_reducible refine (carryMembers_same _ _ _).step rfl ?_ | with_reducible refine (keepCycles_same _).step rfl ?_ | with_reducible refine (retireInst_same _ _ _ _).step rfl ?_ | with_reducible refine Same.foldl ?_ ?_ | with_reducible refine Same.foldl2 ?_ ?_ | with_reducible refine Same.foldl1 ?_ ?_ | intro _ | split | (dsimp only; split) | refine Same.snd (by assumption) ?_ | refine Same.fst (by assumption) ?_ | refine Same.snd2 (by assumption) ?_ | refine Same.snd3 (by assumption) ?_ | with_reducible refine Same.mst rfl ?_ | with_reducible refine Same.update rfl ?_ ?_ | exact Fits.mk (fun c h => by cases c <;> first | exact absurd h (by decide) | with_reducible exact rfl))

theorem swapCells_same : ∀ a0 a1, Same 4096 a1 (swapCells a0 a1) := by
  intro a0 a1
  unfold swapCells
  repeat' (first | with_reducible exact Same.refl _ | with_reducible refine (cellSweep_same _).step rfl ?_ | intro _ | split | (dsimp only; split) | with_reducible refine Same.mst rfl ?_ | with_reducible refine Same.update rfl ?_ ?_ | exact Fits.mk (fun c h => by cases c <;> first | exact absurd h (by decide) | with_reducible exact rfl))

theorem replaceCap_same : ∀ a0 a1 a2 a3, Same 1105957224449 a3 (replaceCap a0 a1 a2 a3) := by
  intro a0 a1 a2 a3
  unfold replaceCap
  repeat' (first | with_reducible exact Same.refl _ | with_reducible refine Same.ite ?_ ?_ | with_reducible refine (closeSegments_same _ _ _).step rfl ?_ | with_reducible refine (sealCap_same _ _).step rfl ?_ | with_reducible refine (setCap_same _ _ _).step rfl ?_ | intro _ | split | (dsimp only; split) | with_reducible refine Same.caps rfl ?_ | with_reducible refine Same.update rfl ?_ ?_ | exact Fits.mk (fun c h => by cases c <;> first | exact absurd h (by decide) | with_reducible exact rfl))

theorem swapCaps_same : ∀ a0 a1 a2, Same 1105957224449 a2 (swapCaps a0 a1 a2) := by
  intro a0 a1 a2
  unfold swapCaps
  repeat' (first | with_reducible exact Same.refl _ | with_reducible refine Same.ite ?_ ?_ | with_reducible refine (replaceCap_same _ _ _ _).step rfl ?_ | with_reducible refine Same.foldl ?_ ?_ | intro _ | split | (dsimp only; split))

theorem swapQueues_same : ∀ a0 a1, Same 6291456 a1 (swapQueues a0 a1) := by
  intro a0 a1
  unfold swapQueues
  repeat' (first | with_reducible exact Same.refl _ | intro _ | with_reducible refine Same.oqs rfl ?_ | with_reducible refine Same.iqs rfl ?_ | with_reducible refine Same.update rfl ?_ ?_ | exact Fits.mk (fun c h => by cases c <;> first | exact absurd h (by decide) | with_reducible exact rfl))

theorem swapDets_same : ∀ a0 a1, Same 1099511644162 a1 (swapDets a0 a1) := by
  intro a0 a1
  unfold swapDets
  repeat' (first | with_reducible exact Same.refl _ | with_reducible refine (alarmPin_same _).step rfl ?_ | intro _ | split | (dsimp only; split) | with_reducible refine Same.dets rfl ?_ | with_reducible refine Same.update rfl ?_ ?_ | exact Fits.mk (fun c h => by cases c <;> first | exact absurd h (by decide) | with_reducible exact rfl))

theorem swapTasks_same : ∀ a0 a1 a2, Same 8192 a2 (swapTasks a0 a1 a2) := by
  intro a0 a1 a2
  unfold swapTasks
  repeat' (first | with_reducible exact Same.refl _ | intro _ | split | (dsimp only; split) | with_reducible refine Same.disp rfl ?_ | with_reducible refine Same.update rfl ?_ ?_ | exact Fits.mk (fun c h => by cases c <;> first | exact absurd h (by decide) | with_reducible exact rfl))

theorem stopLostSchemes_same : ∀ a0 a1, Same 3373747241007 a1 (stopLostSchemes a0 a1) := by
  intro a0 a1
  unfold stopLostSchemes
  repeat' (first | with_reducible exact Same.refl _ | with_reducible refine Same.ite ?_ ?_ | with_reducible refine (noteI_same _ _ _ _ _ _ _ _).step rfl ?_ | with_reducible refine (schemeStop_same _ _).step rfl ?_ | with_reducible refine Same.foldl ?_ ?_ | intro _ | split | (dsimp only; split))

theorem swapTmpls_same : ∀ a0 a1, Same 8192 a1 (swapTmpls a0 a1) := by
  intro a0 a1
  unfold swapTmpls
  repeat' (first | with_reducible exact Same.refl _ | intro _ | split | (dsimp only; split) | with_reducible refine Same.disp rfl ?_ | with_reducible refine Same.update rfl ?_ ?_ | exact Fits.mk (fun c h => by cases c <;> first | exact absurd h (by decide) | with_reducible exact rfl))

theorem swapPairing_same : ∀ a0, Same 1102195982339 a0 (swapPairing a0) := by
  intro a0
  unfold swapPairing
  repeat' (first | with_reducible exact Same.refl _ | with_reducible refine Same.ite ?_ ?_ | with_reducible refine (pinsOn_same _).step rfl ?_ | with_reducible refine (roleTo_same _ _ _ _).step rfl ?_ | intro _)

theorem cancelTicks_same : ∀ a0, Same 4294967328 a0 (cancelTicks a0) := by
  intro a0
  unfold cancelTicks
  repeat' (first | with_reducible exact Same.refl _ | with_reducible refine (countBy_same _ _ _).step rfl ?_ | intro _ | split | (dsimp only; split) | with_reducible refine Same.phases rfl ?_ | with_reducible refine Same.update rfl ?_ ?_ | exact Fits.mk (fun c h => by cases c <;> first | exact absurd h (by decide) | with_reducible exact rfl))

theorem swapRefBus_same : ∀ a0 a1, Same 48 a1 (swapRefBus a0 a1) := by
  intro a0 a1
  unfold swapRefBus
  repeat' (first | with_reducible exact Same.refl _ | with_reducible refine Same.ite ?_ ?_ | intro _ | with_reducible refine Same.refBus rfl ?_ | with_reducible refine Same.phases rfl ?_ | with_reducible refine Same.update rfl ?_ ?_ | exact Fits.mk (fun c h => by cases c <;> first | exact absurd h (by decide) | with_reducible exact rfl))

theorem bankSwap_same : ∀ a0 a1, Same 3408651485119 a1 (bankSwap a0 a1) := by
  intro a0 a1
  unfold bankSwap
  repeat' (first | with_reducible exact Same.refl _ | with_reducible refine Same.ite ?_ ?_ | with_reducible refine (cancelTicks_same _).step rfl ?_ | with_reducible refine (finalReply_same _ _ _).step rfl ?_ | with_reducible refine (schemeSwap_same _ _ _).step rfl ?_ | with_reducible refine (setIrq_same _ _).step rfl ?_ | with_reducible refine (stopLostSchemes_same _ _).step rfl ?_ | with_reducible refine (swapCaps_same _ _ _).step rfl ?_ | with_reducible refine (swapCells_same _ _).step rfl ?_ | with_reducible refine (swapDets_same _ _).step rfl ?_ | with_reducible refine (swapFilters_same _ _ _).step rfl ?_ | with_reducible refine (swapGroups_same _ _ _).step rfl ?_ | with_reducible refine (swapPairing_same _).step rfl ?_ | with_reducible refine (swapQueues_same _ _).step rfl ?_ | with_reducible refine (swapRefBus_same _ _).step rfl ?_ | with_reducible refine (swapStreams_same _ _ _).step rfl ?_ | with_reducible refine (swapTasks_same _ _ _).step rfl ?_ | with_reducible refine (swapTmpls_same _ _).step rfl ?_ | with_reducible refine (voiceSwap_same _ _ _).step rfl ?_ | with_reducible refine Same.foldl ?_ ?_ | with_reducible refine Same.foldl2 ?_ ?_ | with_reducible refine Same.foldl1 ?_ ?_ | intro _ | split | (dsimp only; split) | refine Same.snd (by assumption) ?_ | refine Same.fst (by assumption) ?_ | refine Same.snd2 (by assumption) ?_ | refine Same.snd3 (by assumption) ?_ | with_reducible refine Same.active rfl ?_ | with_reducible refine Same.update rfl ?_ ?_ | exact Fits.mk (fun c h => by cases c <;> first | exact absurd h (by decide) | with_reducible exact rfl))

theorem beginRun_same : ∀ a0 a1, Same 1209577692571 a1 (beginRun a0 a1) := by
  intro a0 a1
  unfold beginRun
  repeat' (first | with_reducible exact Same.refl _ | with_reducible refine Same.ite ?_ ?_ | with_reducible refine (casRunBegin_same _ _).step rfl ?_ | with_reducible refine (clearPeaks_same _).step rfl ?_ | with_reducible refine (schemeStart_same _ _).step rfl ?_ | with_reducible refine (startFilters_same _ _).step rfl ?_ | with_reducible refine (startStreams_same _).step rfl ?_ | with_reducible refine Same.foldl ?_ ?_ | with_reducible refine Same.foldl2 ?_ ?_ | with_reducible refine Same.foldl1 ?_ ?_ | intro _ | split | (dsimp only; split) | refine Same.snd (by assumption) ?_ | refine Same.fst (by assumption) ?_ | refine Same.snd2 (by assumption) ?_ | refine Same.snd3 (by assumption) ?_ | with_reducible refine Same.tb rfl ?_ | with_reducible refine Same.refBus rfl ?_ | with_reducible refine Same.mst rfl ?_ | with_reducible refine Same.dets rfl ?_ | with_reducible refine Same.outRuns rfl ?_ | with_reducible refine Same.caps rfl ?_ | with_reducible refine Same.cnt rfl ?_ | with_reducible refine Same.update rfl ?_ ?_ | exact Fits.mk (fun c h => by cases c <;> first | exact absurd h (by decide) | with_reducible exact rfl))

theorem replyTo_same : ∀ a0 a1 a2, Same 1168231104517 a2 (replyTo a0 a1 a2) := by
  intro a0 a1 a2
  unfold replyTo
  repeat' (first | with_reducible exact Same.refl _ | with_reducible refine (finalReply_same _ _ _).step rfl ?_ | intro _ | split | (dsimp only; split))

theorem execRunBegin_same : ∀ a0, Within 3409725358015 (execRunBegin a0) a0 := by
  intro a0
  unfold execRunBegin
  repeat' (first | with_reducible exact Same.refl _ | with_reducible refine Same.ite ?_ ?_ | with_reducible refine within_ite ?_ ?_ | with_reducible refine within_done ?_ | with_reducible refine (advanceTo_same _ _).step rfl ?_ | with_reducible refine (bankSwap_same _ _).step rfl ?_ | with_reducible refine (beginRun_same _ _).step rfl ?_ | with_reducible refine (finalReplies_same _ _ _).step rfl ?_ | intro _ | split | (dsimp only; split) | refine Same.snd (by assumption) ?_ | refine Same.fst (by assumption) ?_ | refine Same.snd2 (by assumption) ?_ | refine Same.snd3 (by assumption) ?_)

theorem discardReady_same : ∀ a0, Same 12288 a0 (discardReady a0) := by
  intro a0
  unfold discardReady
  repeat' (first | with_reducible exact Same.refl _ | with_reducible refine Same.ite ?_ ?_ | with_reducible refine (cellSweep_same _).step rfl ?_ | with_reducible refine (instTaskEnd_same _ _ _).step rfl ?_ | with_reducible refine (removeTask_same _ _).step rfl ?_ | with_reducible refine Same.foldl ?_ ?_ | intro _ | split | (dsimp only; split) | with_reducible refine Same.mst rfl ?_ | with_reducible refine Same.update rfl ?_ ?_ | exact Fits.mk (fun c h => by cases c <;> first | exact absurd h (by decide) | with_reducible exact rfl))

theorem stopCells_same : ∀ a0, Same 4096 a0 (stopCells a0) := by
  intro a0
  unfold stopCells
  repeat' (first | with_reducible exact Same.refl _ | with_reducible refine (cellSweep_same _).step rfl ?_ | intro _ | split | (dsimp only; split) | with_reducible refine Same.mst rfl ?_ | with_reducible refine Same.update rfl ?_ ?_ | exact Fits.mk (fun c h => by cases c <;> first | exact absurd h (by decide) | with_reducible exact rfl))

theorem stopData_same : ∀ a0, Same 3373751201839 a0 (stopData a0) := by
  intro a0
  unfold stopData
  repeat' (first | with_reducible exact Same.refl _ | with_reducible refine Same.ite ?_ ?_ | with_reducible refine (closeSegments_same _ _ _).step rfl ?_ | with_reducible refine (detStop_same _).step rfl ?_ | with_reducible refine (discardReady_same _).step rfl ?_ | with_reducible refine (retireInst_same _ _ _ _).step rfl ?_ | with_reducible refine (schemeStop_same _ _).step rfl ?_ | with_reducible refine (sealCap_same _ _).step rfl ?_ | with_reducible refine (stopCells_same _).step rfl ?_ | with_reducible refine (tbStep_same _ _).step rfl ?_ | with_reducible refine (voiceStop_same _).step rfl ?_ | with_reducible refine Same.foldl ?_ ?_ | with_reducible refine Same.foldl2 ?_ ?_ | with_reducible refine Same.foldl1 ?_ ?_ | intro _ | split | (dsimp only; split) | refine Same.snd (by assumption) ?_ | refine Same.fst (by assumption) ?_ | refine Same.snd2 (by assumption) ?_ | refine Same.snd3 (by assumption) ?_)

theorem endRun_same : ∀ a0, Same 3408647942191 a0 (endRun a0) := by
  intro a0
  have h := (stopData_same a0).of (M := 3408647942191) rfl
  unfold endRun
  generalize stopData a0 = s at h ⊢
  dsimp only
  have g0 : Same 3408647942191 a0 { s with pwr := { s.pwr with ps := .idle, stopWait := none }, outRuns := [] } :=
    Same.update rfl (Fits.mk (fun c h => by cases c <;> first | exact absurd h (by decide) | with_reducible exact rfl)) h
  have g := (casRunEnd_same _).step (M := 3408647942191) rfl g0
  generalize casRunEnd _ = u at g ⊢
  split
  · exact (replyTo_same _ _ _).step rfl ((finalReplies_same _ _ _).step rfl (Same.cas rfl g))
  · exact (finalReplies_same _ _ _).step rfl (Same.cas rfl g)

theorem execRunEnd_same : ∀ a0, Within 3409725882367 (execRunEnd a0) a0 := by
  intro a0
  unfold execRunEnd
  repeat' (first | with_reducible exact Same.refl _ | with_reducible refine Same.ite ?_ ?_ | with_reducible refine within_ite ?_ ?_ | with_reducible refine within_done ?_ | with_reducible refine (advanceTo_same _ _).step rfl ?_ | with_reducible refine (bankSwap_same _ _).step rfl ?_ | with_reducible refine (endRun_same _).step rfl ?_ | with_reducible refine (finalReplies_same _ _ _).step rfl ?_ | with_reducible refine (settle_same _).step rfl ?_ | intro _ | split | (dsimp only; split) | refine Same.snd (by assumption) ?_ | refine Same.fst (by assumption) ?_ | refine Same.snd2 (by assumption) ?_ | refine Same.snd3 (by assumption) ?_)

theorem execBankSwap_same : ∀ a0, Within 3409725882367 (execBankSwap a0) a0 := by
  intro a0
  unfold execBankSwap
  repeat' (first | with_reducible exact Same.refl _ | with_reducible refine Same.ite ?_ ?_ | with_reducible refine within_ite ?_ ?_ | with_reducible refine within_done ?_ | with_reducible refine (advanceTo_same _ _).step rfl ?_ | with_reducible refine (bankSwap_same _ _).step rfl ?_ | with_reducible refine (endRun_same _).step rfl ?_ | with_reducible refine (finalReplies_same _ _ _).step rfl ?_ | with_reducible refine (settle_same _).step rfl ?_ | intro _ | split | (dsimp only; split) | refine Same.snd (by assumption) ?_ | refine Same.fst (by assumption) ?_ | refine Same.snd2 (by assumption) ?_ | refine Same.snd3 (by assumption) ?_)

theorem execStepInRunRestart_same : ∀ a0, Within 3409725881855 (execStepInRunRestart a0) a0 := by
  intro a0
  unfold execStepInRunRestart
  repeat' (first | with_reducible exact Same.refl _ | with_reducible refine Same.ite ?_ ?_ | with_reducible refine within_ite ?_ ?_ | with_reducible refine within_done ?_ | with_reducible refine (advanceTo_same _ _).step rfl ?_ | with_reducible refine (beginRun_same _ _).step rfl ?_ | with_reducible refine (correct_same _ _).step rfl ?_ | with_reducible refine (endRun_same _).step rfl ?_ | with_reducible refine (settle_same _).step rfl ?_ | with_reducible refine (tbStep_same _ _).step rfl ?_ | intro _ | split | (dsimp only; split) | refine Same.snd (by assumption) ?_ | refine Same.fst (by assumption) ?_ | refine Same.snd2 (by assumption) ?_ | refine Same.snd3 (by assumption) ?_ | with_reducible refine Same.tb rfl ?_ | with_reducible refine Same.update rfl ?_ ?_ | exact Fits.mk (fun c h => by cases c <;> first | exact absurd h (by decide) | with_reducible exact rfl))

end Sys2Proof.Machine
end

