-- ==== Sys2Proof/Laws/FrameNetEvents.lean ====
section
/-! SUPPORT. The frame of each definition of Machine/NetEvents. -/

namespace Sys2Proof.Machine

theorem rxRoute_same : ∀ a0 a1, Same 1103823372289 a1 (rxRoute a0 a1) := by
  intro a0 a1
  unfold rxRoute
  repeat' (first | with_reducible exact Same.refl _ | with_reducible refine Same.ite ?_ ?_ | with_reducible refine (count_same _ _).step rfl ?_ | with_reducible refine (countPort_same _ _ _).step rfl ?_ | with_reducible refine (neighLearn_same _ _ _ _).step rfl ?_ | with_reducible refine (rxDeliver_same _ _ _ _).step rfl ?_ | intro _ | split | (dsimp only; split))

theorem execRxFrameReceived_same : ∀ a0 a1, Within 1107044597769 (execRxFrameReceived a0 a1) a1 := by
  intro a0 a1
  unfold execRxFrameReceived
  repeat' (first | with_reducible exact Same.refl _ | with_reducible refine Same.ite ?_ ?_ | with_reducible refine within_ite ?_ ?_ | with_reducible refine within_done ?_ | with_reducible refine (advanceTo_same _ _).step rfl ?_ | with_reducible refine (bufferXoff_same _ _ _ _).step rfl ?_ | with_reducible refine (countPort_same _ _ _).step rfl ?_ | with_reducible refine (prpTake_same _ _ _ _).step rfl ?_ | with_reducible refine (rxRoute_same _ _).step rfl ?_ | intro _ | split | (dsimp only; split) | refine Same.snd (by assumption) ?_ | refine Same.fst (by assumption) ?_ | refine Same.snd2 (by assumption) ?_ | refine Same.snd3 (by assumption) ?_)

theorem execPrpSourceForget_same : ∀ a0 a1 a2, Within 3238002696 (execPrpSourceForget a0 a1 a2) a2 := by
  intro a0 a1 a2
  unfold execPrpSourceForget
  repeat' (first | with_reducible exact Same.refl _ | with_reducible refine within_done ?_ | with_reducible refine (advanceTo_same _ _).step rfl ?_ | with_reducible refine (setPort_same _ _ _).step rfl ?_ | intro _ | split | (dsimp only; split))

theorem execPrpSupervisionSend_same : ∀ a0 a1, Within 1103856926729 (execPrpSupervisionSend a0 a1) a1 := by
  intro a0 a1
  unfold execPrpSupervisionSend
  repeat' (first | with_reducible exact Same.refl _ | with_reducible refine within_ite ?_ ?_ | with_reducible refine within_done ?_ | with_reducible refine (txOwn_same _ _ _ _ _).step rfl ?_ | intro _ | split | (dsimp only; split))

theorem execPfcFrameReceived_same : ∀ a0 a1 a2 a3, Within 1107078152201 (execPfcFrameReceived a0 a1 a2 a3) a3 := by
  intro a0 a1 a2 a3
  unfold execPfcFrameReceived
  repeat' (first | with_reducible exact Same.refl _ | with_reducible refine Same.ite ?_ ?_ | with_reducible refine within_ite ?_ ?_ | with_reducible refine within_done ?_ | with_reducible refine (advanceTo_same _ _).step rfl ?_ | with_reducible refine (countPort_same _ _ _).step rfl ?_ | with_reducible refine (setPort_same _ _ _).step rfl ?_ | with_reducible refine (txDrain_same _ _).step rfl ?_ | intro _ | split | (dsimp only; split))

theorem execPfcPauseExpiry_same : ∀ a0 a1 a2, Within 1107078152201 (execPfcPauseExpiry a0 a1 a2) a2 := by
  intro a0 a1 a2
  unfold execPfcPauseExpiry
  repeat' (first | with_reducible exact Same.refl _ | with_reducible refine within_done ?_ | with_reducible refine (advanceTo_same _ _).step rfl ?_ | with_reducible refine (setPort_same _ _ _).step rfl ?_ | with_reducible refine (txDrain_same _ _).step rfl ?_ | intro _ | split | (dsimp only; split))

theorem execPfcXoffRepeat_same : ∀ a0 a1 a2, Within 1103823372288 (execPfcXoffRepeat a0 a1 a2) a2 := by
  intro a0 a1 a2
  unfold execPfcXoffRepeat
  repeat' (first | with_reducible exact Same.refl _ | with_reducible refine Same.ite ?_ ?_ | with_reducible refine within_done ?_ | with_reducible refine (pfcXoff_same _ _ _).step rfl ?_ | intro _)

theorem execPfcXonSend_same : ∀ a0 a1 a2, Within 1099528404992 (execPfcXonSend a0 a1 a2) a2 := by
  intro a0 a1 a2
  unfold execPfcXonSend
  repeat' (first | with_reducible exact Same.refl _ | with_reducible refine Same.ite ?_ ?_ | with_reducible refine within_done ?_ | with_reducible refine (releaseFor_same _ _ _ _).step rfl ?_ | intro _)

theorem hostOut_same : ∀ a0 a1 a2 a3 a4, Same 1103823372289 a4 (hostOut a0 a1 a2 a3 a4) := by
  intro a0 a1 a2 a3 a4
  unfold hostOut
  repeat' (first | with_reducible exact Same.refl _ | with_reducible refine Same.ite ?_ ?_ | with_reducible refine (countPort_same _ _ _).step rfl ?_ | with_reducible refine (egressStamp_same _ _ _ _).step rfl ?_ | with_reducible refine (emit_same _ _).step rfl ?_ | intro _)

theorem execHostTxFrame_same : ∀ a0 a1 a2, Within 1103823372289 (execHostTxFrame a0 a1 a2) a2 := by
  intro a0 a1 a2
  unfold execHostTxFrame
  repeat' (first | with_reducible exact Same.refl _ | with_reducible refine Same.ite ?_ ?_ | with_reducible refine within_ite ?_ ?_ | with_reducible refine within_done ?_ | with_reducible refine (countPort_same _ _ _).step rfl ?_ | with_reducible refine (emit_same _ _).step rfl ?_ | with_reducible refine (hostOut_same _ _ _ _ _).step rfl ?_ | with_reducible refine (netIrq_same _ _ _).step rfl ?_ | with_reducible refine (prpAdvance_same _ _).step rfl ?_ | with_reducible refine (setRing_same _ _ _ _).step rfl ?_ | intro _ | split | (dsimp only; split))

theorem writeNetTail_same : ∀ a0 a1 a2 a3 a4, Same 1103823372288 a4 (writeNetTail a0 a1 a2 a3 a4) := by
  intro a0 a1 a2 a3 a4
  unfold writeNetTail
  repeat' (first | with_reducible exact Same.refl _ | with_reducible refine Same.ite ?_ ?_ | with_reducible refine (ringPause_same _ _ _).step rfl ?_ | with_reducible refine (setRing_same _ _ _ _).step rfl ?_ | intro _)

theorem execNetRingTailWrite_same : ∀ a0 a1 a2 a3 a4, Within 1103823372288 (execNetRingTailWrite a0 a1 a2 a3 a4) a4 := by
  intro a0 a1 a2 a3 a4
  unfold execNetRingTailWrite
  repeat' (first | with_reducible exact Same.refl _ | with_reducible refine Same.ite ?_ ?_ | with_reducible refine within_done ?_ | with_reducible refine (writeNetTail_same _ _ _ _ _).step rfl ?_ | intro _)

theorem popTsq_same : ∀ a0 a1, Same 16777216 a1 (popTsq a0 a1).2 := by
  intro a0 a1
  unfold popTsq
  repeat' (first | with_reducible exact Same.refl _ | with_reducible refine (setPort_same _ _ _).step rfl ?_ | intro _ | split | (dsimp only; split))

theorem execNetTsqPopRead_same : ∀ a0 a1, Within 1099528404992 (execNetTsqPopRead a0 a1) a1 := by
  intro a0 a1
  unfold execNetTsqPopRead
  repeat' (first | with_reducible exact Same.refl _ | with_reducible refine within_ite ?_ ?_ | with_reducible refine within_done ?_ | with_reducible refine (emit_same _ _).step rfl ?_ | with_reducible refine (popTsq_same _ _).step rfl ?_ | intro _ | split | (dsimp only; split))

theorem clearTsqOvf_same : ∀ a0 a1, Same 16777216 a1 (clearTsqOvf a0 a1) := by
  intro a0 a1
  unfold clearTsqOvf
  repeat' (first | with_reducible exact Same.refl _ | with_reducible refine (setPort_same _ _ _).step rfl ?_ | intro _)

theorem execNetTsqOvfClear_same : ∀ a0 a1, Within 16777216 (execNetTsqOvfClear a0 a1) a1 := by
  intro a0 a1
  unfold execNetTsqOvfClear
  repeat' (first | with_reducible exact Same.refl _ | with_reducible refine Same.ite ?_ ?_ | with_reducible refine within_done ?_ | with_reducible refine (clearTsqOvf_same _ _).step rfl ?_ | intro _)

theorem execLinkChange_same : ∀ a0 a1 a2 a3, Within 16777216 (execLinkChange a0 a1 a2 a3) a3 := by
  intro a0 a1 a2 a3
  unfold execLinkChange
  repeat' (first | with_reducible exact Same.refl _ | with_reducible refine within_done ?_ | with_reducible refine (setPort_same _ _ _).step rfl ?_ | intro _)

theorem execMirrorReceived_same : ∀ a0 a1 a2, Within 1209624689787 (execMirrorReceived a0 a1 a2) a2 := by
  intro a0 a1 a2
  unfold execMirrorReceived
  repeat' (first | with_reducible exact Same.refl _ | with_reducible refine within_ite ?_ ?_ | with_reducible refine within_done ?_ | with_reducible refine (c37Frame_same _ _).step rfl ?_ | with_reducible refine (cfgFrame_same _ _ _).step rfl ?_ | with_reducible refine (goosePub_same _ _).step rfl ?_ | with_reducible refine (recordIngest_same _ _ _ _).step rfl ?_ | with_reducible refine (rtcpPkt_same _ _).step rfl ?_ | with_reducible refine (settle_same _).step rfl ?_ | with_reducible refine (svFrame_same _ _).step rfl ?_ | with_reducible refine (twinTake_same _ _).step rfl ?_ | with_reducible refine (voicePkt_same _ _).step rfl ?_ | intro _ | split | (dsimp only; split))

end Sys2Proof.Machine
end

