-- ==== Sys2Proof/Laws/FrameKeys.lean ====
section
/-! SUPPORT. The frame of each definition of Machine/Keys. -/

namespace Sys2Proof.Machine

theorem setLocker_same : ∀ a0 a1 a2, Same 402653184 a2 (setLocker a0 a1 a2) := by
  intro a0 a1 a2
  unfold setLocker
  repeat' (first | with_reducible exact Same.refl _ | intro _ | with_reducible refine Same.update rfl ?_ ?_ | exact Fits.mk (fun c h => by cases c <;> first | exact absurd h (by decide) | with_reducible exact rfl))

theorem unwrap_same : ∀ a0 a1 a2, Same 4294967296 a2 (unwrap a0 a1 a2).2 := by
  intro a0 a1 a2
  unfold unwrap
  repeat' (first | with_reducible exact Same.refl _ | with_reducible refine Same.ite_snd ?_ ?_ | with_reducible refine (count_same _ _).step rfl ?_ | intro _ | split | (dsimp only; split))

theorem randomBytes_same : ∀ a0 a1, Same 2199023255552 a1 (randomBytes a0 a1).2 := by
  intro a0 a1
  unfold randomBytes
  repeat' (first | with_reducible exact Same.refl _ | with_reducible refine (drawFree_same _).step rfl ?_ | intro _ | split | (dsimp only; split))

theorem noteGate_same : ∀ a0 a1 a2 a3 a4 a5, Same 1101659111425 a5 (noteGate a0 a1 a2 a3 a4 a5) := by
  intro a0 a1 a2 a3 a4 a5
  unfold noteGate
  repeat' (first | with_reducible exact Same.refl _ | with_reducible refine (recAdd_same _ _ _ _ _ _ _ _ _ _).step rfl ?_ | intro _)

theorem zeroise_same : ∀ a0 a1, Same 1106356731905 a1 (zeroise a0 a1) := by
  intro a0 a1
  unfold zeroise
  repeat' (first | with_reducible exact Same.refl _ | with_reducible refine Same.ite ?_ ?_ | with_reducible refine (countBy_same _ _ _).step rfl ?_ | with_reducible refine (noteGate_same _ _ _ _ _ _).step rfl ?_ | intro _ | with_reducible refine Same.update rfl ?_ ?_ | exact Fits.mk (fun c h => by cases c <;> first | exact absurd h (by decide) | with_reducible exact rfl))

theorem emptyLockers_same : ∀ a0, Same 402653184 a0 (emptyLockers a0) := by
  intro a0
  unfold emptyLockers
  repeat' (first | with_reducible exact Same.refl _ | intro _ | with_reducible refine Same.update rfl ?_ ?_ | exact Fits.mk (fun c h => by cases c <;> first | exact absurd h (by decide) | with_reducible exact rfl))

theorem keyLoadRun_same : ∀ a0 a1, Same 1106356731905 a0 (keyLoadRun a0 a1).1 := by
  intro a0 a1
  unfold keyLoadRun
  repeat' (first | with_reducible exact Same.refl _ | with_reducible refine Same.ite_fst ?_ ?_ | with_reducible refine (setLocker_same _ _ _).step rfl ?_ | with_reducible refine (unwrap_same _ _ _).step rfl ?_ | with_reducible refine (zeroise_same _ _).step rfl ?_ | intro _ | split | (dsimp only; split))

theorem keyGenRun_same : ∀ a0 a1, Same 2199023255552 a0 (keyGenRun a0 a1).1 := by
  intro a0 a1
  unfold keyGenRun
  repeat' (first | with_reducible exact Same.refl _ | with_reducible refine Same.ite_fst ?_ ?_ | with_reducible refine (drawFree_same _).step rfl ?_ | with_reducible refine (randomBytes_same _ _).step rfl ?_ | intro _ | split | (dsimp only; split))

theorem keyRewrapRun_same : ∀ a0 a1, Same 2203318222848 a0 (keyRewrapRun a0 a1).1 := by
  intro a0 a1
  unfold keyRewrapRun
  repeat' (first | with_reducible exact Same.refl _ | with_reducible refine Same.ite_fst ?_ ?_ | with_reducible refine (drawFree_same _).step rfl ?_ | with_reducible refine (randomBytes_same _ _).step rfl ?_ | with_reducible refine (unwrap_same _ _ _).step rfl ?_ | intro _ | split | (dsimp only; split))

theorem keyClearRun_same : ∀ a0 a1, Same 1106356731905 a0 (keyClearRun a0 a1).1 := by
  intro a0 a1
  unfold keyClearRun
  repeat' (first | with_reducible exact Same.refl _ | with_reducible refine (zeroise_same _ _).step rfl ?_ | intro _)

theorem marginRead_same : ∀ a0, Same 2199023255552 a0 (marginRead a0).2 := by
  intro a0
  unfold marginRead
  repeat' (first | with_reducible exact Same.refl _ | with_reducible refine (drawFree_same _).step rfl ?_ | intro _ | split | (dsimp only; split))

theorem marginReads_same : ∀ a0, Same 2199023255552 a0 (marginReads a0).2 := by
  intro a0
  unfold marginReads
  repeat' (first | with_reducible exact Same.refl _ | with_reducible refine (marginRead_same _).step rfl ?_ | intro _ | split | (dsimp only; split))

theorem burnVerify_same : ∀ a0 a1, Same 2203318222848 a1 (burnVerify a0 a1).2 := by
  intro a0 a1
  fun_induction burnVerify a0 a1
  all_goals repeat' (first | with_reducible exact Same.refl _ | refine Same.trans (by assumption) ?_ | with_reducible refine (count_same _ _).step rfl ?_ | with_reducible refine (marginReads_same _).step rfl ?_ | intro _ | split | (dsimp only; split) | refine Same.snd (by assumption) ?_)

theorem intentDone_same : ∀ a0 a1, Same 402653184 a1 (intentDone a0 a1) := by
  intro a0 a1
  unfold intentDone
  repeat' (first | with_reducible exact Same.refl _ | intro _ | with_reducible refine Same.update rfl ?_ ?_ | exact Fits.mk (fun c h => by cases c <;> first | exact absurd h (by decide) | with_reducible exact rfl))

theorem driveIntent_same : ∀ a0 a1 a2, Same 2203720876032 a2 (driveIntent a0 a1 a2).2 := by
  intro a0 a1 a2
  unfold driveIntent
  repeat' (first | with_reducible exact Same.refl _ | with_reducible refine Same.ite_snd ?_ ?_ | with_reducible refine (burnVerify_same _ _).step rfl ?_ | with_reducible refine (intentDone_same _ _).step rfl ?_ | with_reducible refine (marginReads_same _).step rfl ?_ | intro _ | split | (dsimp only; split))

theorem driveIntents_same : ∀ a0, Same 2203720876032 a0 (driveIntents a0).2 := by
  intro a0
  unfold driveIntents
  repeat' (first | with_reducible exact Same.refl _ | with_reducible refine (driveIntent_same _ _ _).step rfl ?_ | with_reducible refine Same.foldl2 ?_ ?_ | intro _ | split | (dsimp only; split))

theorem orphan_same : ∀ a0 a1, Same 4697620480 a1 (orphan a0 a1) := by
  intro a0 a1
  unfold orphan
  repeat' (first | with_reducible exact Same.refl _ | with_reducible refine (countBy_same _ _ _).step rfl ?_ | intro _ | with_reducible refine Same.update rfl ?_ ?_ | exact Fits.mk (fun c h => by cases c <;> first | exact absurd h (by decide) | with_reducible exact rfl))

theorem invalidateEnd_same : ∀ a0 a1 a2 a3 a4 a5 a6, Same 1174673555461 a6 (invalidateEnd a0 a1 a2 a3 a4 a5 a6) := by
  intro a0 a1 a2 a3 a4 a5 a6
  unfold invalidateEnd
  repeat' (first | with_reducible exact Same.refl _ | with_reducible refine (closeCommand_same _ _ _ _ _ _ _ _).step rfl ?_ | with_reducible refine (noteGate_same _ _ _ _ _ _).step rfl ?_ | intro _)

theorem invalidateRun_same : ∀ a0 a1 a2, Same 3374099464197 a0 (invalidateRun a0 a1 a2).1 := by
  intro a0 a1 a2
  unfold invalidateRun
  repeat' (first | with_reducible exact Same.refl _ | with_reducible refine Same.ite_fst ?_ ?_ | with_reducible refine (driveIntent_same _ _ _).step rfl ?_ | with_reducible refine (driveIntents_same _).step rfl ?_ | with_reducible refine (invalidateEnd_same _ _ _ _ _ _ _).step rfl ?_ | with_reducible refine (orphan_same _ _).step rfl ?_ | intro _ | split | (dsimp only; split) | with_reducible refine Same.update rfl ?_ ?_ | exact Fits.mk (fun c h => by cases c <;> first | exact absurd h (by decide) | with_reducible exact rfl))

theorem bootIntents_same : ∀ a0, Same 3305379987457 a0 (bootIntents a0) := by
  intro a0
  unfold bootIntents
  repeat' (first | with_reducible exact Same.refl _ | with_reducible refine Same.ite ?_ ?_ | with_reducible refine (driveIntent_same _ _ _).step rfl ?_ | with_reducible refine (noteGate_same _ _ _ _ _ _).step rfl ?_ | with_reducible refine Same.foldl ?_ ?_ | intro _ | split | (dsimp only; split))

theorem loadPairKey_same : ∀ a0, Same 1102061764609 a0 (loadPairKey a0) := by
  intro a0
  unfold loadPairKey
  repeat' (first | with_reducible exact Same.refl _ | with_reducible refine (noteGate_same _ _ _ _ _ _).step rfl ?_ | with_reducible refine (setLocker_same _ _ _).step rfl ?_ | intro _ | split | (dsimp only; split))

theorem casPairRun_same : ∀ a0 a1, Same 3298803318784 a0 (casPairRun a0 a1).1 := by
  intro a0 a1
  unfold casPairRun
  repeat' (first | with_reducible exact Same.refl _ | with_reducible refine Same.ite_fst ?_ ?_ | with_reducible refine (drawFree_same _).step rfl ?_ | with_reducible refine (emit_same _ _).step rfl ?_ | with_reducible refine (randomBytes_same _ _).step rfl ?_ | intro _ | split | (dsimp only; split) | with_reducible refine Same.update rfl ?_ ?_ | exact Fits.mk (fun c h => by cases c <;> first | exact absurd h (by decide) | with_reducible exact rfl))

theorem execPairingFrameReceived_same : ∀ a0 a1 a2 a3 a4 a5,
    Within 3374636335109 (execPairingFrameReceived a0 a1 a2 a3 a4 a5) a5 := by
  intro a0 a1 a2 a3 a4 a5
  unfold execPairingFrameReceived
  split
  · exact within_done (Same.refl _)
  · have h1 : Same 3374636335109 a5 { a5 with gh := { a5.gh with pairWait := none } } :=
      Same.update rfl (Fits.mk (fun c h => by cases c <;> first | exact absurd h (by decide) | with_reducible exact rfl)) (Same.refl _)
    generalize { a5 with gh := { a5.gh with pairWait := none } } = s1 at h1 ⊢
    dsimp only
    refine within_ite (fun _ => within_done ((closeCommand_same _ _ _ _ _ _ _ _).step rfl h1)) (fun _ => ?_)
    have h2 := (randomBytes_same 12 s1).step (M := 3374636335109) rfl h1
    generalize randomBytes 12 s1 = q at h2 ⊢
    have h3 := (zeroise_same 63 q.2).step (M := 3374636335109) rfl h2
    generalize zeroise 63 q.2 = s3 at h3 ⊢
    refine within_done ((closeCommand_same _ _ _ _ _ _ _ _).step rfl ?_)
    have h4 := fun l => (setLocker_same 63 l s3).step (M := 3374636335109) rfl h3
    refine Same.update rfl ?_ (h4 _)
    generalize setLocker 63 _ s3 = s4
    exact Fits.mk (fun c h => by cases c <;> first | exact absurd h (by decide) | with_reducible exact rfl)

end Sys2Proof.Machine
end

