-- ==== Sys2Proof/Laws/FramePower.lean ====
section
/-! SUPPORT. The frame of each definition of Machine/Power. -/

namespace Sys2Proof.Machine

theorem notePower_same : ∀ a0 a1 a2 a3, Same 1101659111425 a3 (notePower a0 a1 a2 a3) := by
  intro a0 a1 a2 a3
  unfold notePower
  repeat' (first | with_reducible exact Same.refl _ | with_reducible refine (note_same _ _ _ _ _ _ _).step rfl ?_ | intro _)

theorem readyPin_same : ∀ a0, Same 1099511627778 a0 (readyPin a0) := by
  intro a0
  unfold readyPin
  repeat' (first | with_reducible exact Same.refl _ | with_reducible refine Same.ite ?_ ?_ | with_reducible refine (emit_same _ _).step rfl ?_ | intro _ | refine Same.snd (by assumption) ?_ | refine Same.fst (by assumption) ?_ | refine Same.snd2 (by assumption) ?_ | refine Same.snd3 (by assumption) ?_ | with_reducible refine Same.pins rfl ?_ | with_reducible refine Same.update rfl ?_ ?_ | exact Fits.mk (fun c h => by cases c <;> first | exact absurd h (by decide) | with_reducible exact rfl))

theorem mainRail_same : ∀ a0 a1, Same 103079215104 a1 (mainRail a0 a1) := by
  intro a0 a1
  unfold mainRail
  repeat' (first | with_reducible exact Same.refl _ | with_reducible refine Same.ite ?_ ?_ | with_reducible refine (setAlert_same _ _).step rfl ?_ | intro _ | refine Same.snd (by assumption) ?_ | refine Same.fst (by assumption) ?_ | refine Same.snd2 (by assumption) ?_ | refine Same.snd3 (by assumption) ?_ | with_reducible refine Same.update rfl ?_ ?_ | exact Fits.mk (fun c h => by cases c <;> first | exact absurd h (by decide) | with_reducible exact rfl))

theorem resetMain_same : ∀ a0 a1 a2, Same 1211180777471 a2 (resetMain a0 a1 a2) := by
  intro a0 a1 a2
  unfold resetMain
  repeat' (first | with_reducible exact Same.refl _ | with_reducible refine (alarmPin_same _).step rfl ?_ | with_reducible refine (emptyLockers_same _).step rfl ?_ | with_reducible refine (pinsOff_same _).step rfl ?_ | intro _ | with_reducible refine Same.glb rfl ?_ | with_reducible refine Same.pins rfl ?_ | with_reducible refine Same.cmd rfl ?_ | with_reducible refine Same.tb rfl ?_ | with_reducible refine Same.refBus rfl ?_ | with_reducible refine Same.phases rfl ?_ | with_reducible refine Same.phaseNext rfl ?_ | with_reducible refine Same.bank0 rfl ?_ | with_reducible refine Same.bank1 rfl ?_ | with_reducible refine Same.active rfl ?_ | with_reducible refine Same.streams rfl ?_ | with_reducible refine Same.filters rfl ?_ | with_reducible refine Same.mst rfl ?_ | with_reducible refine Same.disp rfl ?_ | with_reducible refine Same.dets rfl ?_ | with_reducible refine Same.schs rfl ?_ | with_reducible refine Same.pubs rfl ?_ | with_reducible refine Same.outRuns rfl ?_ | with_reducible refine Same.vchs rfl ?_ | with_reducible refine Same.flows rfl ?_ | with_reducible refine Same.caps rfl ?_ | with_reducible refine Same.oqs rfl ?_ | with_reducible refine Same.iqs rfl ?_ | with_reducible refine Same.dmaPtr rfl ?_ | with_reducible refine Same.ports rfl ?_ | with_reducible refine Same.txWait rfl ?_ | with_reducible refine Same.wake rfl ?_ | with_reducible refine Same.cas rfl ?_ | with_reducible refine Same.rtc rfl ?_ | with_reducible refine Same.rcd rfl ?_ | with_reducible refine Same.cnt rfl ?_ | with_reducible refine Same.update rfl ?_ ?_ | exact Fits.mk (fun c h => by cases c <;> first | exact absurd h (by decide) | with_reducible exact rfl))

theorem mainCut_same : ∀ a0 a1, Same 1202993512450 a1 (mainCut a0 a1) := by
  intro a0 a1
  unfold mainCut
  repeat' (first | with_reducible exact Same.refl _ | with_reducible refine (alarmPin_same _).step rfl ?_ | with_reducible refine (emptyLockers_same _).step rfl ?_ | with_reducible refine (mainRail_same _ _).step rfl ?_ | with_reducible refine (pinsOff_same _).step rfl ?_ | with_reducible refine (readyPin_same _).step rfl ?_ | intro _ | refine Same.snd (by assumption) ?_ | refine Same.fst (by assumption) ?_ | refine Same.snd2 (by assumption) ?_ | refine Same.snd3 (by assumption) ?_ | with_reducible refine Same.pins rfl ?_ | with_reducible refine Same.dets rfl ?_ | with_reducible refine Same.update rfl ?_ ?_ | exact Fits.mk (fun c h => by cases c <;> first | exact absurd h (by decide) | with_reducible exact rfl))

theorem setAttempts_same : ∀ a0 a1 a2, Same 137438953472 a2 (setAttempts a0 a1 a2) := by
  intro a0 a1 a2
  unfold setAttempts
  repeat' (first | with_reducible exact Same.refl _ | with_reducible refine Same.ite ?_ ?_ | intro _ | with_reducible refine Same.nor rfl ?_ | with_reducible refine Same.update rfl ?_ ?_ | exact Fits.mk (fun c h => by cases c <;> first | exact absurd h (by decide) | with_reducible exact rfl))

theorem startImage_same : ∀ a0, Same 240518168576 a0 (startImage a0) := by
  intro a0
  unfold startImage
  repeat' (first | with_reducible exact Same.refl _ | with_reducible refine (setAttempts_same _ _ _).step rfl ?_ | intro _ | split | (dsimp only; split) | with_reducible refine Same.update rfl ?_ ?_ | exact Fits.mk (fun c h => by cases c <;> first | exact absurd h (by decide) | with_reducible exact rfl))

theorem powerCycle_same : ∀ a0, Same 2147483648 a0 (powerCycle a0) := by
  intro a0
  unfold powerCycle
  repeat' (first | with_reducible exact Same.refl _ | intro _ | with_reducible refine Same.rcd rfl ?_ | with_reducible refine Same.update rfl ?_ ?_ | exact Fits.mk (fun c h => by cases c <;> first | exact absurd h (by decide) | with_reducible exact rfl))

theorem startBoot_same : ∀ a0 a1, Same 3547642986495 a1 (startBoot a0 a1) := by
  intro a0 a1
  unfold startBoot
  repeat' (first | with_reducible exact Same.refl _ | with_reducible refine Same.ite ?_ ?_ | with_reducible refine (bootIntents_same _).step rfl ?_ | with_reducible refine (mainRail_same _ _).step rfl ?_ | with_reducible refine (powerCycle_same _).step rfl ?_ | with_reducible refine (readyPin_same _).step rfl ?_ | with_reducible refine (resetMain_same _ _ _).step rfl ?_ | with_reducible refine (startImage_same _).step rfl ?_ | intro _ | refine Same.snd (by assumption) ?_ | refine Same.fst (by assumption) ?_ | refine Same.snd2 (by assumption) ?_ | refine Same.snd3 (by assumption) ?_ | with_reducible refine Same.update rfl ?_ ?_ | exact Fits.mk (fun c h => by cases c <;> first | exact absurd h (by decide) | with_reducible exact rfl))

theorem tryBoot_same : ∀ a0 a1, Same 3547642986495 a1 (tryBoot a0 a1) := by
  intro a0 a1
  unfold tryBoot
  repeat' (first | with_reducible exact Same.refl _ | with_reducible refine Same.ite ?_ ?_ | with_reducible refine (notePower_same _ _ _ _).step rfl ?_ | with_reducible refine (startBoot_same _ _).step rfl ?_ | intro _ | refine Same.snd (by assumption) ?_ | refine Same.fst (by assumption) ?_ | refine Same.snd2 (by assumption) ?_ | refine Same.snd3 (by assumption) ?_)

theorem loadConfig_same : ∀ a0, Same 1204739408513 a0 (loadConfig a0) := by
  intro a0
  unfold loadConfig
  repeat' (first | with_reducible exact Same.refl _ | with_reducible refine (notePower_same _ _ _ _).step rfl ?_ | intro _ | split | (dsimp only; split) | with_reducible refine Same.bank0 rfl ?_ | with_reducible refine Same.active rfl ?_ | with_reducible refine Same.schs rfl ?_ | with_reducible refine Same.caps rfl ?_ | with_reducible refine Same.update rfl ?_ ?_ | exact Fits.mk (fun c h => by cases c <;> first | exact absurd h (by decide) | with_reducible exact rfl))

theorem startTimeBase_same : ∀ a0, Same 1101659111433 a0 (startTimeBase a0) := by
  intro a0
  unfold startTimeBase
  repeat' (first | with_reducible exact Same.refl _ | with_reducible refine Same.ite ?_ ?_ | with_reducible refine (noteTime_same _ _ _).step rfl ?_ | with_reducible refine (raiseVector_same _ _).step rfl ?_ | intro _ | with_reducible refine Same.tb rfl ?_ | with_reducible refine Same.update rfl ?_ ?_ | exact Fits.mk (fun c h => by cases c <;> first | exact absurd h (by decide) | with_reducible exact rfl))

theorem restoreRtc_same : ∀ a0, Same 138512695296 a0 (restoreRtc a0) := by
  intro a0
  unfold restoreRtc
  repeat' (first | with_reducible exact Same.refl _ | with_reducible refine Same.ite ?_ ?_ | intro _ | with_reducible refine Same.rtc rfl ?_ | with_reducible refine Same.nor rfl ?_ | with_reducible refine Same.update rfl ?_ ?_ | exact Fits.mk (fun c h => by cases c <;> first | exact absurd h (by decide) | with_reducible exact rfl))

theorem bootTrained_same : ∀ a0 a1, Same 1205275197441 a1 (bootTrained a0 a1) := by
  intro a0 a1
  unfold bootTrained
  repeat' (first | with_reducible exact Same.refl _ | with_reducible refine Same.ite ?_ ?_ | with_reducible refine (notePower_same _ _ _ _).step rfl ?_ | intro _ | refine Same.snd (by assumption) ?_ | refine Same.fst (by assumption) ?_ | refine Same.snd2 (by assumption) ?_ | refine Same.snd3 (by assumption) ?_ | with_reducible refine Same.cas rfl ?_ | with_reducible refine Same.update rfl ?_ ?_ | exact Fits.mk (fun c h => by cases c <;> first | exact absurd h (by decide) | with_reducible exact rfl))

theorem bootCert_same : ∀ a0 a1, Same 1102061764609 a1 (bootCert a0 a1) := by
  intro a0 a1
  unfold bootCert
  repeat' (first | with_reducible exact Same.refl _ | with_reducible refine Same.ite ?_ ?_ | with_reducible refine (noteGate_same _ _ _ _ _ _).step rfl ?_ | intro _ | refine Same.snd (by assumption) ?_ | refine Same.fst (by assumption) ?_ | refine Same.snd2 (by assumption) ?_ | refine Same.snd3 (by assumption) ?_ | with_reducible refine Same.update rfl ?_ ?_ | exact Fits.mk (fun c h => by cases c <;> first | exact absurd h (by decide) | with_reducible exact rfl))

theorem bootNotes_same : ∀ a0 a1, Same 1101659111425 a1 (bootNotes a0 a1) := by
  intro a0 a1
  unfold bootNotes
  repeat' (first | with_reducible exact Same.refl _ | with_reducible refine Same.ite ?_ ?_ | with_reducible refine (notePower_same _ _ _ _).step rfl ?_ | intro _ | refine Same.snd (by assumption) ?_ | refine Same.fst (by assumption) ?_ | refine Same.snd2 (by assumption) ?_ | refine Same.snd3 (by assumption) ?_ | with_reducible refine Same.rcd rfl ?_ | with_reducible refine Same.update rfl ?_ ?_ | exact Fits.mk (fun c h => by cases c <;> first | exact absurd h (by decide) | with_reducible exact rfl))

theorem execBootComplete_same : ∀ a0 a1, Within 1344191627919 (execBootComplete a0 a1) a1 := by
  intro a0 a1
  unfold execBootComplete
  repeat' (first | with_reducible exact Same.refl _ | with_reducible refine Same.ite ?_ ?_ | with_reducible refine within_ite ?_ ?_ | with_reducible refine within_done ?_ | with_reducible refine (bootCert_same _ _).step rfl ?_ | with_reducible refine (bootNotes_same _ _).step rfl ?_ | with_reducible refine (bootTrained_same _ _).step rfl ?_ | with_reducible refine (drainReplies_same _).step rfl ?_ | with_reducible refine (loadConfig_same _).step rfl ?_ | with_reducible refine (loadPairKey_same _).step rfl ?_ | with_reducible refine (notePower_same _ _ _ _).step rfl ?_ | with_reducible refine (readyPin_same _).step rfl ?_ | with_reducible refine (restoreRtc_same _).step rfl ?_ | with_reducible refine (setAttempts_same _ _ _).step rfl ?_ | with_reducible refine (startTimeBase_same _).step rfl ?_ | intro _ | split | (dsimp only; split) | refine Same.snd (by assumption) ?_ | refine Same.fst (by assumption) ?_ | refine Same.snd2 (by assumption) ?_ | refine Same.snd3 (by assumption) ?_ | with_reducible refine Same.pins rfl ?_ | with_reducible refine Same.update rfl ?_ ?_ | exact Fits.mk (fun c h => by cases c <;> first | exact absurd h (by decide) | with_reducible exact rfl))

theorem execBootWatchdog_same : ∀ a0, Within 3547642986495 (execBootWatchdog a0) a0 := by
  intro a0
  unfold execBootWatchdog
  repeat' (first | with_reducible exact Same.refl _ | with_reducible refine Same.ite ?_ ?_ | with_reducible refine within_ite ?_ ?_ | with_reducible refine within_done ?_ | with_reducible refine (startBoot_same _ _).step rfl ?_ | intro _ | refine Same.snd (by assumption) ?_ | refine Same.fst (by assumption) ?_ | refine Same.snd2 (by assumption) ?_ | refine Same.snd3 (by assumption) ?_)

theorem loseRetained_same : ∀ a0, Same 141062832128 a0 (loseRetained a0) := by
  intro a0
  unfold loseRetained
  repeat' (first | with_reducible exact Same.refl _ | intro _ | with_reducible refine Same.rtc rfl ?_ | with_reducible refine Same.rcd rfl ?_ | with_reducible refine Same.nor rfl ?_ | with_reducible refine Same.update rfl ?_ ?_ | exact Fits.mk (fun c h => by cases c <;> first | exact absurd h (by decide) | with_reducible exact rfl))

theorem execVinGood_same : ∀ a0 a1, Within 3547642986495 (execVinGood a0 a1) a1 := by
  intro a0 a1
  unfold execVinGood
  repeat' (first | with_reducible exact Same.refl _ | with_reducible refine Same.ite ?_ ?_ | with_reducible refine within_ite ?_ ?_ | with_reducible refine within_done ?_ | with_reducible refine (powerCycle_same _).step rfl ?_ | with_reducible refine (readyPin_same _).step rfl ?_ | with_reducible refine (recSummary_same _).step rfl ?_ | with_reducible refine (resetMain_same _ _ _).step rfl ?_ | with_reducible refine (tryBoot_same _ _).step rfl ?_ | intro _ | refine Same.snd (by assumption) ?_ | refine Same.fst (by assumption) ?_ | refine Same.snd2 (by assumption) ?_ | refine Same.snd3 (by assumption) ?_ | with_reducible refine Same.pins rfl ?_ | with_reducible refine Same.rtc rfl ?_ | with_reducible refine Same.rcd rfl ?_ | with_reducible refine Same.update rfl ?_ ?_ | exact Fits.mk (fun c h => by cases c <;> first | exact absurd h (by decide) | with_reducible exact rfl))

theorem execVinBelow9v_same : ∀ a0, Within 1202993512450 (execVinBelow9v a0) a0 := by
  intro a0
  unfold execVinBelow9v
  repeat' (first | with_reducible exact Same.refl _ | with_reducible refine within_done ?_ | with_reducible refine (mainCut_same _ _).step rfl ?_ | intro _ | split | (dsimp only; split) | refine Same.snd (by assumption) ?_ | refine Same.fst (by assumption) ?_ | refine Same.snd2 (by assumption) ?_ | refine Same.snd3 (by assumption) ?_ | with_reducible refine Same.update rfl ?_ ?_ | exact Fits.mk (fun c h => by cases c <;> first | exact absurd h (by decide) | with_reducible exact rfl))

theorem execVinBelow7v_same : ∀ a0, Within 1343653691394 (execVinBelow7v a0) a0 := by
  intro a0
  unfold execVinBelow7v
  repeat' (first | with_reducible exact Same.refl _ | with_reducible refine Same.ite ?_ ?_ | with_reducible refine within_ite ?_ ?_ | with_reducible refine within_done ?_ | with_reducible refine (loseRetained_same _).step rfl ?_ | with_reducible refine (loseStaged_same _).step rfl ?_ | with_reducible refine (mainCut_same _ _).step rfl ?_ | intro _ | refine Same.snd (by assumption) ?_ | refine Same.fst (by assumption) ?_ | refine Same.snd2 (by assumption) ?_ | refine Same.snd3 (by assumption) ?_ | with_reducible refine Same.update rfl ?_ ?_ | exact Fits.mk (fun c h => by cases c <;> first | exact absurd h (by decide) | with_reducible exact rfl))

theorem execVbatOkChange_same : ∀ a0 a1, Within 244142047232 (execVbatOkChange a0 a1) a1 := by
  intro a0 a1
  unfold execVbatOkChange
  repeat' (first | with_reducible exact Same.refl _ | with_reducible refine Same.ite ?_ ?_ | with_reducible refine within_done ?_ | with_reducible refine (loseRetained_same _).step rfl ?_ | intro _ | with_reducible refine Same.update rfl ?_ ?_ | exact Fits.mk (fun c h => by cases c <;> first | exact absurd h (by decide) | with_reducible exact rfl))

theorem setPd_same : ∀ a0 a1 a2, Same 103079215104 a2 (setPd a0 a1 a2) := by
  intro a0 a1 a2
  unfold setPd
  repeat' (first | with_reducible exact Same.refl _ | with_reducible refine Same.ite ?_ ?_ | intro _ | with_reducible refine Same.update rfl ?_ ?_ | exact Fits.mk (fun c h => by cases c <;> first | exact absurd h (by decide) | with_reducible exact rfl))

theorem budgetLost_same : ∀ a0, Same 1205275230211 a0 (budgetLost a0) := by
  intro a0
  unfold budgetLost
  repeat' (first | with_reducible exact Same.refl _ | with_reducible refine (declareFault_same _ _).step rfl ?_ | with_reducible refine (notePower_same _ _ _ _).step rfl ?_ | with_reducible refine (setIrq_same _ _).step rfl ?_ | intro _ | with_reducible refine Same.update rfl ?_ ?_ | exact Fits.mk (fun c h => by cases c <;> first | exact absurd h (by decide) | with_reducible exact rfl))

theorem execPdPowerChange_same : ∀ a0 a1 a2, Within 1205275230211 (execPdPowerChange a0 a1 a2) a2 := by
  intro a0 a1 a2
  unfold execPdPowerChange
  repeat' (first | with_reducible exact Same.refl _ | with_reducible refine Same.ite ?_ ?_ | with_reducible refine within_ite ?_ ?_ | with_reducible refine within_done ?_ | with_reducible refine (budgetLost_same _).step rfl ?_ | with_reducible refine (notePower_same _ _ _ _).step rfl ?_ | with_reducible refine (setIrq_same _ _).step rfl ?_ | with_reducible refine (setPd_same _ _ _).step rfl ?_ | intro _)

theorem execPdClassification_same : ∀ a0 a1 a2, Within 1205275230211 (execPdClassification a0 a1 a2) a2 := by
  intro a0 a1 a2
  unfold execPdClassification
  repeat' (first | with_reducible exact Same.refl _ | with_reducible refine Same.ite ?_ ?_ | with_reducible refine within_done ?_ | with_reducible refine (budgetLost_same _).step rfl ?_ | with_reducible refine (setPd_same _ _ _).step rfl ?_ | intro _)

theorem execThermAssert_same : ∀ a0 a1, Within 1202590842883 (execThermAssert a0 a1) a1 := by
  intro a0 a1
  unfold execThermAssert
  repeat' (first | with_reducible exact Same.refl _ | with_reducible refine within_ite ?_ ?_ | with_reducible refine within_done ?_ | with_reducible refine (setAlert_same _ _).step rfl ?_ | with_reducible refine (setIrq_same _ _).step rfl ?_ | intro _ | with_reducible refine Same.glb rfl ?_ | with_reducible refine Same.pins rfl ?_ | with_reducible refine Same.update rfl ?_ ?_ | exact Fits.mk (fun c h => by cases c <;> first | exact absurd h (by decide) | with_reducible exact rfl))

theorem execThermRelease_same : ∀ a0 a1, Within 103079215107 (execThermRelease a0 a1) a1 := by
  intro a0 a1
  unfold execThermRelease
  repeat' (first | with_reducible exact Same.refl _ | with_reducible refine within_ite ?_ ?_ | with_reducible refine within_done ?_ | intro _ | with_reducible refine Same.glb rfl ?_ | with_reducible refine Same.pins rfl ?_ | with_reducible refine Same.update rfl ?_ ?_ | exact Fits.mk (fun c h => by cases c <;> first | exact absurd h (by decide) | with_reducible exact rfl))

theorem execThermalTrip_same : ∀ a0 a1, Within 1205140996099 (execThermalTrip a0 a1) a1 := by
  intro a0 a1
  unfold execThermalTrip
  repeat' (first | with_reducible exact Same.refl _ | with_reducible refine Same.ite ?_ ?_ | with_reducible refine within_ite ?_ ?_ | with_reducible refine within_done ?_ | with_reducible refine (mainCut_same _ _).step rfl ?_ | with_reducible refine (notePower_same _ _ _ _).step rfl ?_ | intro _ | refine Same.snd (by assumption) ?_ | refine Same.fst (by assumption) ?_ | refine Same.snd2 (by assumption) ?_ | refine Same.snd3 (by assumption) ?_ | with_reducible refine Same.glb rfl ?_ | with_reducible refine Same.update rfl ?_ ?_ | exact Fits.mk (fun c h => by cases c <;> first | exact absurd h (by decide) | with_reducible exact rfl))

theorem execEarlyWarning_same : ∀ a0 a1, Within 1206348972035 (execEarlyWarning a0 a1) a1 := by
  intro a0 a1
  unfold execEarlyWarning
  repeat' (first | with_reducible exact Same.refl _ | with_reducible refine Same.ite ?_ ?_ | with_reducible refine within_ite ?_ ?_ | with_reducible refine within_done ?_ | with_reducible refine (checkpoint_same _).step rfl ?_ | with_reducible refine (declareFault_same _ _).step rfl ?_ | with_reducible refine (readyPin_same _).step rfl ?_ | with_reducible refine (rtcLock_same _).step rfl ?_ | with_reducible refine (setAlert_same _ _).step rfl ?_ | with_reducible refine (setIrq_same _ _).step rfl ?_ | intro _ | refine Same.snd (by assumption) ?_ | refine Same.fst (by assumption) ?_ | refine Same.snd2 (by assumption) ?_ | refine Same.snd3 (by assumption) ?_ | with_reducible refine Same.pins rfl ?_ | with_reducible refine Same.rcd rfl ?_ | with_reducible refine Same.update rfl ?_ ?_ | exact Fits.mk (fun c h => by cases c <;> first | exact absurd h (by decide) | with_reducible exact rfl))

theorem execWarningPassed_same : ∀ a0, Within 1205812068355 (execWarningPassed a0) a0 := by
  intro a0
  unfold execWarningPassed
  repeat' (first | with_reducible exact Same.refl _ | with_reducible refine Same.ite ?_ ?_ | with_reducible refine within_ite ?_ ?_ | with_reducible refine within_done ?_ | with_reducible refine (notePower_same _ _ _ _).step rfl ?_ | with_reducible refine (readyPin_same _).step rfl ?_ | intro _ | refine Same.snd (by assumption) ?_ | refine Same.fst (by assumption) ?_ | refine Same.snd2 (by assumption) ?_ | refine Same.snd3 (by assumption) ?_ | with_reducible refine Same.pins rfl ?_ | with_reducible refine Same.rtc rfl ?_ | with_reducible refine Same.update rfl ?_ ?_ | exact Fits.mk (fun c h => by cases c <;> first | exact absurd h (by decide) | with_reducible exact rfl))

theorem execModRstNAssert_same : ∀ a0, Within 1202993512450 (execModRstNAssert a0) a0 := by
  intro a0
  unfold execModRstNAssert
  repeat' (first | with_reducible exact Same.refl _ | with_reducible refine Same.ite ?_ ?_ | with_reducible refine within_ite ?_ ?_ | with_reducible refine within_done ?_ | with_reducible refine (mainCut_same _ _).step rfl ?_ | intro _ | refine Same.snd (by assumption) ?_ | refine Same.fst (by assumption) ?_ | refine Same.snd2 (by assumption) ?_ | refine Same.snd3 (by assumption) ?_ | with_reducible refine Same.pins rfl ?_ | with_reducible refine Same.update rfl ?_ ?_ | exact Fits.mk (fun c h => by cases c <;> first | exact absurd h (by decide) | with_reducible exact rfl))

theorem execModRstNRelease_same : ∀ a0, Within 3547642986495 (execModRstNRelease a0) a0 := by
  intro a0
  unfold execModRstNRelease
  repeat' (first | with_reducible exact Same.refl _ | with_reducible refine Same.ite ?_ ?_ | with_reducible refine within_ite ?_ ?_ | with_reducible refine within_done ?_ | with_reducible refine (tryBoot_same _ _).step rfl ?_ | intro _ | refine Same.snd (by assumption) ?_ | refine Same.fst (by assumption) ?_ | refine Same.snd2 (by assumption) ?_ | refine Same.snd3 (by assumption) ?_ | with_reducible refine Same.pins rfl ?_ | with_reducible refine Same.update rfl ?_ ?_ | exact Fits.mk (fun c h => by cases c <;> first | exact absurd h (by decide) | with_reducible exact rfl))

theorem aonRecord_same : ∀ a0 a1 a2 a3, Same 1101659111425 a3 (aonRecord a0 a1 a2 a3) := by
  intro a0 a1 a2 a3
  unfold aonRecord
  repeat' (first | with_reducible exact Same.refl _ | with_reducible refine (recAdd_same _ _ _ _ _ _ _ _ _ _).step rfl ?_ | intro _)

theorem aonCold_same : ∀ a0 a1, Same 3547642986495 a1 (aonCold a0 a1) := by
  intro a0 a1
  unfold aonCold
  repeat' (first | with_reducible exact Same.refl _ | with_reducible refine Same.ite ?_ ?_ | with_reducible refine (aonRecord_same _ _ _ _).step rfl ?_ | with_reducible refine (mainCut_same _ _).step rfl ?_ | with_reducible refine (tryBoot_same _ _).step rfl ?_ | intro _ | refine Same.snd (by assumption) ?_ | refine Same.fst (by assumption) ?_ | refine Same.snd2 (by assumption) ?_ | refine Same.snd3 (by assumption) ?_)

theorem execAonResetCold_same : ∀ a0, Within 3547642986495 (execAonResetCold a0) a0 := by
  intro a0
  unfold execAonResetCold
  repeat' (first | with_reducible exact Same.refl _ | with_reducible refine within_done ?_ | with_reducible refine (aonCold_same _ _).step rfl ?_ | intro _ | refine Same.snd (by assumption) ?_ | refine Same.fst (by assumption) ?_ | refine Same.snd2 (by assumption) ?_ | refine Same.snd3 (by assumption) ?_)

theorem execPerstN_same : ∀ a0, Within 2170552325 (execPerstN a0) a0 := by
  intro a0
  unfold execPerstN
  repeat' (first | with_reducible exact Same.refl _ | with_reducible refine within_done ?_ | with_reducible refine (resetQueues_same _).step rfl ?_ | intro _ | with_reducible refine Same.glb rfl ?_ | with_reducible refine Same.cmd rfl ?_ | with_reducible refine Same.ports rfl ?_ | with_reducible refine Same.rcd rfl ?_ | with_reducible refine Same.update rfl ?_ ?_ | exact Fits.mk (fun c h => by cases c <;> first | exact absurd h (by decide) | with_reducible exact rfl))

theorem handoverFirst_same : ∀ a0, Same 1100048498688 a0 (handoverFirst a0) := by
  intro a0
  unfold handoverFirst
  repeat' (first | with_reducible exact Same.refl _ | with_reducible refine Same.ite ?_ ?_ | with_reducible refine (emit_same _ _).step rfl ?_ | intro _ | with_reducible refine Same.cas rfl ?_ | with_reducible refine Same.update rfl ?_ ?_ | exact Fits.mk (fun c h => by cases c <;> first | exact absurd h (by decide) | with_reducible exact rfl))

theorem warmRequest_same : ∀ a0, Same 1203127713792 a0 (warmRequest a0) := by
  intro a0
  unfold warmRequest
  repeat' (first | with_reducible exact Same.refl _ | with_reducible refine (handoverFirst_same _).step rfl ?_ | intro _ | with_reducible refine Same.update rfl ?_ ?_ | exact Fits.mk (fun c h => by cases c <;> first | exact absurd h (by decide) | with_reducible exact rfl))

theorem aonWarm_same : ∀ a0 a1, Same 3547642986495 a1 (aonWarm a0 a1) := by
  intro a0 a1
  unfold aonWarm
  repeat' (first | with_reducible exact Same.refl _ | with_reducible refine Same.ite ?_ ?_ | with_reducible refine (aonRecord_same _ _ _ _).step rfl ?_ | with_reducible refine (startBoot_same _ _).step rfl ?_ | with_reducible refine (warmRequest_same _).step rfl ?_ | intro _ | refine Same.snd (by assumption) ?_ | refine Same.fst (by assumption) ?_ | refine Same.snd2 (by assumption) ?_ | refine Same.snd3 (by assumption) ?_)

theorem execAonResetWarm_same : ∀ a0, Within 3547642986495 (execAonResetWarm a0) a0 := by
  intro a0
  unfold execAonResetWarm
  repeat' (first | with_reducible exact Same.refl _ | with_reducible refine within_done ?_ | with_reducible refine (aonWarm_same _ _).step rfl ?_ | intro _ | refine Same.snd (by assumption) ?_ | refine Same.fst (by assumption) ?_ | refine Same.snd2 (by assumption) ?_ | refine Same.snd3 (by assumption) ?_)

theorem execWarmResetExecute_same : ∀ a0, Within 3547642986495 (execWarmResetExecute a0) a0 := by
  intro a0
  unfold execWarmResetExecute
  repeat' (first | with_reducible exact Same.refl _ | with_reducible refine Same.ite ?_ ?_ | with_reducible refine within_ite ?_ ?_ | with_reducible refine within_done ?_ | with_reducible refine (startBoot_same _ _).step rfl ?_ | intro _ | refine Same.snd (by assumption) ?_ | refine Same.fst (by assumption) ?_ | refine Same.snd2 (by assumption) ?_ | refine Same.snd3 (by assumption) ?_)

theorem mainOn_same : ∀ a0, Same 3547642986495 a0 (mainOn a0).2 := by
  intro a0
  unfold mainOn
  repeat' (first | with_reducible exact Same.refl _ | with_reducible refine Same.ite ?_ ?_ | with_reducible refine Same.ite_snd ?_ ?_ | with_reducible refine (startBoot_same _ _).step rfl ?_ | intro _ | refine Same.snd (by assumption) ?_ | refine Same.fst (by assumption) ?_ | refine Same.snd2 (by assumption) ?_ | refine Same.snd3 (by assumption) ?_)

theorem mainOff_same : ∀ a0, Same 103079215104 a0 (mainOff a0) := by
  intro a0
  unfold mainOff
  repeat' (first | with_reducible exact Same.refl _ | with_reducible refine Same.ite ?_ ?_ | intro _ | with_reducible refine Same.update rfl ?_ ?_ | exact Fits.mk (fun c h => by cases c <;> first | exact absurd h (by decide) | with_reducible exact rfl))

theorem dormantRequest_same : ∀ a0 a1, Same 1203127713792 a1 (dormantRequest a0 a1) := by
  intro a0 a1
  unfold dormantRequest
  repeat' (first | with_reducible exact Same.refl _ | with_reducible refine (handoverFirst_same _).step rfl ?_ | intro _ | with_reducible refine Same.update rfl ?_ ?_ | exact Fits.mk (fun c h => by cases c <;> first | exact absurd h (by decide) | with_reducible exact rfl))

theorem aonPwr_same : ∀ a0 a1 a2, Same 3547642986495 a2 (aonPwr a0 a1 a2) := by
  intro a0 a1 a2
  unfold aonPwr
  repeat' (first | with_reducible exact Same.refl _ | with_reducible refine Same.ite ?_ ?_ | with_reducible refine (aonRecord_same _ _ _ _).step rfl ?_ | with_reducible refine (dormantRequest_same _ _).step rfl ?_ | with_reducible refine (mainOff_same _).step rfl ?_ | with_reducible refine (mainOn_same _).step rfl ?_ | intro _ | split | (dsimp only; split) | refine Same.snd (by assumption) ?_ | refine Same.fst (by assumption) ?_ | refine Same.snd2 (by assumption) ?_ | refine Same.snd3 (by assumption) ?_)

theorem execAonPwrMainOn_same : ∀ a0, Within 3547642986495 (execAonPwrMainOn a0) a0 := by
  intro a0
  unfold execAonPwrMainOn
  repeat' (first | with_reducible exact Same.refl _ | with_reducible refine within_done ?_ | with_reducible refine (aonPwr_same _ _ _).step rfl ?_ | intro _ | refine Same.snd (by assumption) ?_ | refine Same.fst (by assumption) ?_ | refine Same.snd2 (by assumption) ?_ | refine Same.snd3 (by assumption) ?_)

theorem execAonPwrMainOff_same : ∀ a0, Within 3547642986495 (execAonPwrMainOff a0) a0 := by
  intro a0
  unfold execAonPwrMainOff
  repeat' (first | with_reducible exact Same.refl _ | with_reducible refine within_done ?_ | with_reducible refine (aonPwr_same _ _ _).step rfl ?_ | intro _ | refine Same.snd (by assumption) ?_ | refine Same.fst (by assumption) ?_ | refine Same.snd2 (by assumption) ?_ | refine Same.snd3 (by assumption) ?_)

theorem execAonPwrDormant_same : ∀ a0, Within 3547642986495 (execAonPwrDormant a0) a0 := by
  intro a0
  unfold execAonPwrDormant
  repeat' (first | with_reducible exact Same.refl _ | with_reducible refine within_done ?_ | with_reducible refine (aonPwr_same _ _ _).step rfl ?_ | intro _ | refine Same.snd (by assumption) ?_ | refine Same.fst (by assumption) ?_ | refine Same.snd2 (by assumption) ?_ | refine Same.snd3 (by assumption) ?_)

theorem stopFirst_same : ∀ a0, Same 3409721684015 a0 (stopFirst a0) := by
  intro a0
  unfold stopFirst
  repeat' (first | with_reducible exact Same.refl _ | with_reducible refine Same.ite ?_ ?_ | with_reducible refine (advanceTo_same _ _).step rfl ?_ | with_reducible refine (endRun_same _).step rfl ?_ | with_reducible refine (finalReplies_same _ _ _).step rfl ?_ | intro _ | split | (dsimp only; split) | refine Same.snd (by assumption) ?_ | refine Same.fst (by assumption) ?_ | refine Same.snd2 (by assumption) ?_ | refine Same.snd3 (by assumption) ?_)

theorem execMainOffEffect_same : ∀ a0, Within 3410124337199 (execMainOffEffect a0) a0 := by
  intro a0
  unfold execMainOffEffect
  repeat' (first | with_reducible exact Same.refl _ | with_reducible refine Same.ite ?_ ?_ | with_reducible refine within_ite ?_ ?_ | with_reducible refine within_done ?_ | with_reducible refine (mainCut_same _ _).step rfl ?_ | with_reducible refine (stopFirst_same _).step rfl ?_ | intro _ | refine Same.snd (by assumption) ?_ | refine Same.fst (by assumption) ?_ | refine Same.snd2 (by assumption) ?_ | refine Same.snd3 (by assumption) ?_)

theorem execDormantEntry_same : ∀ a0, Within 3410124337199 (execDormantEntry a0) a0 := by
  intro a0
  unfold execDormantEntry
  repeat' (first | with_reducible exact Same.refl _ | with_reducible refine Same.ite ?_ ?_ | with_reducible refine within_ite ?_ ?_ | with_reducible refine within_done ?_ | with_reducible refine (checkpoint_same _).step rfl ?_ | with_reducible refine (closeCommand_same _ _ _ _ _ _ _ _).step rfl ?_ | with_reducible refine (mainCut_same _ _).step rfl ?_ | with_reducible refine (programAll_same _).step rfl ?_ | with_reducible refine (stopFirst_same _).step rfl ?_ | intro _ | split | (dsimp only; split) | refine Same.snd (by assumption) ?_ | refine Same.fst (by assumption) ?_ | refine Same.snd2 (by assumption) ?_ | refine Same.snd3 (by assumption) ?_ | with_reducible refine Same.update rfl ?_ ?_ | exact Fits.mk (fun c h => by cases c <;> first | exact absurd h (by decide) | with_reducible exact rfl))

theorem execWakeFrame_same : ∀ a0 a1 a2, Within 3547642986495 (execWakeFrame a0 a1 a2) a2 := by
  intro a0 a1 a2
  unfold execWakeFrame
  repeat' (first | with_reducible exact Same.refl _ | with_reducible refine Same.ite ?_ ?_ | with_reducible refine within_ite ?_ ?_ | with_reducible refine within_done ?_ | with_reducible refine (noteI_same _ _ _ _ _ _ _ _).step rfl ?_ | with_reducible refine (startBoot_same _ _).step rfl ?_ | intro _ | split | (dsimp only; split) | refine Same.snd (by assumption) ?_ | refine Same.fst (by assumption) ?_ | refine Same.snd2 (by assumption) ?_ | refine Same.snd3 (by assumption) ?_)

theorem execControlFwFault_same : ∀ a0, Within 1204738326537 (execControlFwFault a0) a0 := by
  intro a0
  unfold execControlFwFault
  repeat' (first | with_reducible exact Same.refl _ | with_reducible refine Same.ite ?_ ?_ | with_reducible refine within_ite ?_ ?_ | with_reducible refine within_done ?_ | with_reducible refine (enterHoldover_same _).step rfl ?_ | with_reducible refine (notePower_same _ _ _ _).step rfl ?_ | with_reducible refine (setIrq_same _ _).step rfl ?_ | intro _ | with_reducible refine Same.update rfl ?_ ?_ | exact Fits.mk (fun c h => by cases c <;> first | exact absurd h (by decide) | with_reducible exact rfl))

theorem execPeerDetChange_same : ∀ a0 a1, Within 1102195982339 (execPeerDetChange a0 a1) a1 := by
  intro a0 a1
  unfold execPeerDetChange
  repeat' (first | with_reducible exact Same.refl _ | with_reducible refine within_ite ?_ ?_ | with_reducible refine within_done ?_ | with_reducible refine (swapPairing_same _).step rfl ?_ | intro _ | with_reducible refine Same.pins rfl ?_ | with_reducible refine Same.cas rfl ?_ | with_reducible refine Same.update rfl ?_ ?_ | exact Fits.mk (fun c h => by cases c <;> first | exact absurd h (by decide) | with_reducible exact rfl))

theorem execTapInstruction_same : ∀ a0 a1, Within 3573412790272 (execTapInstruction a0 a1) a1 := by
  intro a0 a1
  unfold execTapInstruction
  repeat' (first | with_reducible exact Same.refl _ | with_reducible refine within_ite ?_ ?_ | with_reducible refine within_done ?_ | with_reducible refine (drawFree_same _).step rfl ?_ | with_reducible refine (emit_same _ _).step rfl ?_ | intro _ | split | (dsimp only; split) | with_reducible refine Same.tapIr rfl ?_ | with_reducible refine Same.update rfl ?_ ?_ | exact Fits.mk (fun c h => by cases c <;> first | exact absurd h (by decide) | with_reducible exact rfl))

end Sys2Proof.Machine
end

