-- ==== Sys2Proof/Laws/FrameCommand.lean ====
section
/-! SUPPORT. The frame of each definition of Machine/Command. -/

namespace Sys2Proof.Machine

theorem dropChunk_same : ∀ a0 a1 a2 a3, Same 4 a3 (dropChunk a0 a1 a2 a3) := by
  intro a0 a1 a2 a3
  unfold dropChunk
  repeat' (first | with_reducible exact Same.refl _ | intro _ | with_reducible refine Same.cmd rfl ?_ | with_reducible refine Same.update rfl ?_ ?_ | exact Fits.mk (fun c h => by cases c <;> first | exact absurd h (by decide) | with_reducible exact rfl))

theorem chunkTake_bad_same {o op p} {s t : State} {st} (h : chunkTake o op p s = .bad st t) : Same 4 s t := by
  unfold chunkTake at h
  dsimp only at h
  split at h
  · cases h; exact Same.refl _
  split at h <;> cases h

theorem chunkTake_more_same {o op p} {s t : State} (h : chunkTake o op p s = .more t) : Same 4 s t := by
  unfold chunkTake at h
  dsimp only at h
  split at h
  · cases h
  split at h <;> cases h
  exact Same.cmd rfl (dropChunk_same o op (fld p 0 4) s)

theorem chunkTake_whole_same {o op p d} {s t : State} (h : chunkTake o op p s = .whole d t) : Same 4 s t := by
  unfold chunkTake at h
  dsimp only at h
  split at h
  · cases h
  split at h <;> cases h
  exact dropChunk_same o op (fld p 0 4) s

theorem takeHost_same : ∀ a0, Same 4 a0 (takeHost a0) := by
  intro a0
  unfold takeHost
  repeat' (first | with_reducible exact Same.refl _ | intro _ | with_reducible refine Same.cmd rfl ?_ | with_reducible refine Same.update rfl ?_ ?_ | exact Fits.mk (fun c h => by cases c <;> first | exact absurd h (by decide) | with_reducible exact rfl))

theorem takeMail_same : ∀ a0, Same 4 a0 (takeMail a0) := by
  intro a0
  unfold takeMail
  repeat' (first | with_reducible exact Same.refl _ | intro _ | with_reducible refine Same.cmd rfl ?_ | with_reducible refine Same.update rfl ?_ ?_ | exact Fits.mk (fun c h => by cases c <;> first | exact absurd h (by decide) | with_reducible exact rfl))

theorem taken_same : ∀ a0 a1 a2, ∀ t, taken a0 a1 a2 = some t → Same 4 a2 t := by
  intro a0 a1 a2 t h
  unfold taken at h
  split at h
  · split at h <;> cases h; exact Same.cmd rfl (Same.refl _)
  · split at h <;> cases h; exact Same.cmd rfl (Same.refl _)
  · cases h

theorem notTaken_same : ∀ a0 a1, Same 1099511627777 a1 (notTaken a0 a1) := by
  intro a0 a1
  unfold notTaken
  repeat' (first | with_reducible exact Same.refl _ | with_reducible refine Same.ite ?_ ?_ | with_reducible refine (setIrq_same _ _).step rfl ?_ | intro _)

theorem endPairing_same : ∀ a0, Same 1174941990917 a0 (endPairing a0) := by
  intro a0
  unfold endPairing
  repeat' (first | with_reducible exact Same.refl _ | with_reducible refine (closeCommand_same _ _ _ _ _ _ _ _).step rfl ?_ | intro _ | split | (dsimp only; split) | with_reducible refine Same.update rfl ?_ ?_ | exact Fits.mk (fun c h => by cases c <;> first | exact absurd h (by decide) | with_reducible exact rfl))

theorem forwardCmd_same : ∀ a0 a1 a2 a3, Same 1099511627776 a3 (forwardCmd a0 a1 a2 a3) := by
  intro a0 a1 a2 a3
  unfold forwardCmd
  repeat' (first | with_reducible exact Same.refl _ | with_reducible refine Same.ite ?_ ?_ | with_reducible refine (emit_same _ _).step rfl ?_ | intro _)

/-- Every run of the command stays within the parts of m. -/
def Cmd.Bounds (c : Cmd) (m : Nat) : Prop := ∀ s w p e, Same m s (c.run s w p e).1

theorem runCommand_same {m M : Nat} {c : Cmd} (h : c.Bounds m) (e1 : m ||| 1174673555461 = M) :
    ∀ pk e s, Same M s (runCommand c pk e s).1 := by
  intro pk e s
  have e2 : 1174673555461 ||| M = M := by rw [← e1, Nat.lor_comm m, ← Nat.or_assoc, Nat.or_self]
  have e3 : m ||| M = M := by rw [← e1, ← Nat.or_assoc, Nat.or_self]
  have up : ∀ {k : Nat} {a b : State}, Same k a b → k ||| 1174673555461 = 1174673555461 → Same M a b := fun g e =>
    (g.of e).of e2
  unfold runCommand
  dsimp only
  split
  · exact (up (closeCommand_same _ _ _ _ _ _ _ _) rfl).trans
      (Same.ite (fun _ => up (dropChunk_same _ _ _ _) rfl) (fun _ => Same.refl _))
  split
  · exact up (closeCommand_same _ _ _ _ _ _ _ _) rfl
  refine Same.ite_fst (fun _ => up (closeCommand_same _ _ _ _ _ _ _ _) rfl) (fun _ => ?_)
  refine Same.ite_fst (fun _ => (h _ _ _ _).of e3) (fun _ => ?_)
  refine Same.ite_fst (fun _ => ?_) (fun _ => ?_)
  · exact (up (closeCommand_same _ _ _ _ _ _ _ _) rfl).trans
      ((up (forwardCmd_same _ _ _ _) rfl).trans ((h _ _ _ _).of e3))
  · exact (up (closeCommand_same _ _ _ _ _ _ _ _) rfl).trans ((h _ _ _ _).of e3)

theorem badOpcode_same : ∀ a0 a1 a2, Same 1174941990917 a2 (badOpcode a0 a1 a2) := by
  intro a0 a1 a2
  unfold badOpcode
  repeat' (first | with_reducible exact Same.refl _ | with_reducible refine (closeCommand_same _ _ _ _ _ _ _ _).step rfl ?_ | with_reducible refine (endPairing_same _).step rfl ?_ | with_reducible refine (postReply_same _ _ _).step rfl ?_ | intro _ | split | (dsimp only; split))

theorem unknownNext_same : ∀ a0, ∀ t, unknownNext a0 = some t → Same 4 a0 t.2 := by
  intro s t h
  unfold unknownNext at h
  split at h
  · cases h; exact takeHost_same _
  · dsimp only at h
    split at h
    · cases h; exact takeMail_same _
    · cases h

theorem serveUnknown_same : ∀ a0 a1, Same 1174941990917 a1 (serveUnknown a0 a1) := by
  intro n s
  fun_induction serveUnknown n s
  · exact Same.refl _
  · next h ih => exact ih.trans ((badOpcode_same _ _ _).step rfl ((unknownNext_same _ _ h).of rfl))
  · exact Same.refl _

theorem serve_same : ∀ a0, Same 1174941990917 a0 (serve a0) := by
  intro a0
  unfold serve
  repeat' (first | with_reducible exact Same.refl _ | with_reducible refine (serveUnknown_same _ _).step rfl ?_ | intro _)

theorem command_same {m M : Nat} {c : Cmd} (h : c.Bounds m) (e1 : m ||| 1174941990917 = M) : ∀ pk s, Within M (command c pk s) s := by
  intro pk s
  have e2 : 1174941990917 ||| M = M := by rw [← e1, Nat.lor_comm m, ← Nat.or_assoc, Nat.or_self]
  have up : ∀ {k : Nat} {a b : State}, Same k a b → k ||| 1174941990917 = 1174941990917 → Same M a b := fun g e => (g.of e).of e2
  have run : ∀ pk e s, Same M s (runCommand c pk e s).1 := fun pk e s =>
    (runCommand_same h rfl pk e s).of (by rw [← e1, Nat.or_assoc, ← Nat.or_assoc 1174673555461, Nat.lor_comm 1174673555461,
      Nat.or_assoc m, ← Nat.or_assoc m, Nat.or_self]; rfl)
  unfold command
  split
  · exact within_done (up (notTaken_same _ _) rfl)
  next h1 =>
    have h2 := up (taken_same _ _ _ _ h1) rfl
    dsimp only
    split
    · exact within_done ((up (serve_same _) rfl).trans ((up (postReply_same _ _ _) rfl).trans ((up (endPairing_same _) rfl).trans h2)))
    · exact within_done ((up (serve_same _) rfl).trans ((run _ _ _).trans ((up (endPairing_same _) rfl).trans h2)))

theorem execChunkLoadTimeout_same : ∀ a0 a1 a2 a3, Within 3221225484 (execChunkLoadTimeout a0 a1 a2 a3) a3 := by
  intro a0 a1 a2 a3
  unfold execChunkLoadTimeout
  repeat' (first | with_reducible exact Same.refl _ | with_reducible refine within_done ?_ | with_reducible refine (advanceTo_same _ _).step rfl ?_ | with_reducible refine (dropChunk_same _ _ _ _).step rfl ?_ | intro _ | split | (dsimp only; split))

end Sys2Proof.Machine
end

