-- ==== Sys2Proof/Laws/FrameCmdSystem.lean ====
section
/-! SUPPORT. The frame of each definition of Machine/CmdSystem. -/

namespace Sys2Proof.Machine

theorem getInfoCmd_same : getInfoCmd.Bounds 0 := by
  intro s w p e
  dsimp only [getInfoCmd]
  repeat' (first | with_reducible exact Same.refl _ | intro _)

theorem execGetInfo_same : ∀ a0 a1, Within 1174941990917 (execGetInfo a0 a1) a1 := fun _ _ => command_same getInfoCmd_same rfl _ _

theorem getStateCmd_same : getStateCmd.Bounds 0 := by
  intro s w p e
  dsimp only [getStateCmd]
  repeat' (first | with_reducible exact Same.refl _ | intro _)

theorem execGetState_same : ∀ a0 a1, Within 1174941990917 (execGetState a0 a1) a1 := fun _ _ => command_same getStateCmd_same rfl _ _

theorem startCmd_same : startCmd.Bounds 103079215104 := by
  intro s w p e
  dsimp only [startCmd]
  repeat' (first | with_reducible exact Same.refl _ | with_reducible refine Same.ite_fst ?_ ?_ | intro _ | with_reducible refine Same.update rfl ?_ ?_ | exact Fits.mk (fun c h => by cases c <;> first | exact absurd h (by decide) | with_reducible exact rfl))

theorem execStart_same : ∀ a0 a1, Within 1209301729285 (execStart a0 a1) a1 := fun _ _ => command_same startCmd_same rfl _ _

theorem stopCmd_same : stopCmd.Bounds 103079215104 := by
  intro s w p e
  dsimp only [stopCmd]
  repeat' (first | with_reducible exact Same.refl _ | intro _ | with_reducible refine Same.update rfl ?_ ?_ | exact Fits.mk (fun c h => by cases c <;> first | exact absurd h (by decide) | with_reducible exact rfl))

theorem execStop_same : ∀ a0 a1, Within 1209301729285 (execStop a0 a1) a1 := fun _ _ => command_same stopCmd_same rfl _ _

theorem warmResetCmd_same : warmResetCmd.Bounds 1203127713792 := by
  intro s w p e
  dsimp only [warmResetCmd]
  repeat' (first | with_reducible exact Same.refl _ | with_reducible refine (warmRequest_same _).step rfl ?_ | intro _)

theorem execWarmReset_same : ∀ a0 a1, Within 1209838600197 (execWarmReset a0 a1) a1 := fun _ _ => command_same warmResetCmd_same rfl _ _

theorem powerCtrlCmd_same : powerCtrlCmd.Bounds 3547642986495 := by
  intro s w p e
  dsimp only [powerCtrlCmd]
  repeat' (first | with_reducible exact Same.refl _ | with_reducible refine Same.ite ?_ ?_ | with_reducible refine Same.ite_fst ?_ ?_ | with_reducible refine (dormantRequest_same _ _).step rfl ?_ | with_reducible refine (mainOff_same _).step rfl ?_ | with_reducible refine (mainOn_same _).step rfl ?_ | intro _ | split | (dsimp only; split) | refine Same.snd (by assumption) ?_ | refine Same.fst (by assumption) ?_ | refine Same.snd2 (by assumption) ?_ | refine Same.snd3 (by assumption) ?_ | with_reducible refine Same.update rfl ?_ ?_ | exact Fits.mk (fun c h => by cases c <;> first | exact absurd h (by decide) | with_reducible exact rfl))

theorem execPowerCtrl_same : ∀ a0 a1, Within 3547642986495 (execPowerCtrl a0 a1) a1 := fun _ _ => command_same powerCtrlCmd_same rfl _ _

theorem setFw_same : ∀ a0 a1 a2, Same 137438953472 a2 (setFw a0 a1 a2) := by
  intro a0 a1 a2
  unfold setFw
  repeat' (first | with_reducible exact Same.refl _ | with_reducible refine Same.ite ?_ ?_ | intro _ | with_reducible refine Same.nor rfl ?_ | with_reducible refine Same.update rfl ?_ ?_ | exact Fits.mk (fun c h => by cases c <;> first | exact absurd h (by decide) | with_reducible exact rfl))

theorem fwLoadCmd_same : fwLoadCmd.Bounds 2336462209028 := by
  intro s w p e
  dsimp only [fwLoadCmd]
  repeat' (first | with_reducible exact Same.refl _ | with_reducible refine Same.ite_fst ?_ ?_ | with_reducible refine (drawFree_same _).step rfl ?_ | with_reducible refine (setAttempts_same _ _ _).step rfl ?_ | with_reducible refine (setFw_same _ _ _).step rfl ?_ | refine (chunkTake_bad_same (by assumption)).step rfl ?_ | refine (chunkTake_more_same (by assumption)).step rfl ?_ | refine (chunkTake_whole_same (by assumption)).step rfl ?_ | intro _ | split | (dsimp only; split))

theorem execFwLoad_same : ∀ a0 a1, Within 3511404199941 (execFwLoad a0 a1) a1 := fun _ _ => command_same fwLoadCmd_same rfl _ _

theorem fwCommitCmd_same : fwCommitCmd.Bounds 137438953472 := by
  intro s w p e
  dsimp only [fwCommitCmd]
  repeat' (first | with_reducible exact Same.refl _ | with_reducible refine (setAttempts_same _ _ _).step rfl ?_ | with_reducible refine (setFw_same _ _ _).step rfl ?_ | intro _ | split | (dsimp only; split))

theorem execFwCommit_same : ∀ a0 a1, Within 1312380944389 (execFwCommit a0 a1) a1 := fun _ _ => command_same fwCommitCmd_same rfl _ _

theorem cfgSave_same : ∀ a0, Same 137438953472 a0 (cfgSave a0) := by
  intro a0
  unfold cfgSave
  repeat' (first | with_reducible exact Same.refl _ | with_reducible refine Same.ite ?_ ?_ | intro _ | split | (dsimp only; split) | with_reducible refine Same.nor rfl ?_ | with_reducible refine Same.update rfl ?_ ?_ | exact Fits.mk (fun c h => by cases c <;> first | exact absurd h (by decide) | with_reducible exact rfl))

theorem cfgSaveCmd_same : cfgSaveCmd.Bounds 137438953472 := by
  intro s w p e
  dsimp only [cfgSaveCmd]
  repeat' (first | with_reducible exact Same.refl _ | with_reducible refine (cfgSave_same _).step rfl ?_ | intro _)

theorem execCfgSave_same : ∀ a0 a1, Within 1312380944389 (execCfgSave a0 a1) a1 := fun _ _ => command_same cfgSaveCmd_same rfl _ _

theorem timeConfig_same : ∀ a0 a1, Same 1101659111433 a1 (timeConfig a0 a1) := by
  intro a0 a1
  unfold timeConfig
  repeat' (first | with_reducible exact Same.refl _ | with_reducible refine Same.ite ?_ ?_ | with_reducible refine (enterHoldover_same _).step rfl ?_ | intro _ | with_reducible refine Same.tb rfl ?_ | with_reducible refine Same.update rfl ?_ ?_ | exact Fits.mk (fun c h => by cases c <;> first | exact absurd h (by decide) | with_reducible exact rfl))

theorem timeConfigCmd_same : timeConfigCmd.Bounds 1101659111433 := by
  intro s w p e
  dsimp only [timeConfigCmd]
  repeat' (first | with_reducible exact Same.refl _ | with_reducible refine (timeConfig_same _ _).step rfl ?_ | intro _)

theorem execTimeConfig_same : ∀ a0 a1, Within 1174941990925 (execTimeConfig a0 a1) a1 := fun _ _ => command_same timeConfigCmd_same rfl _ _

theorem timeSet_same : ∀ a0 a1 a2, Same 2199023255560 a2 (timeSet a0 a1 a2).1 := by
  intro a0 a1 a2
  unfold timeSet
  repeat' (first | with_reducible exact Same.refl _ | with_reducible refine Same.ite_fst ?_ ?_ | with_reducible refine (slewBy_same _ _).step rfl ?_ | intro _ | with_reducible refine Same.tb rfl ?_ | with_reducible refine Same.update rfl ?_ ?_ | exact Fits.mk (fun c h => by cases c <;> first | exact absurd h (by decide) | with_reducible exact rfl))

theorem timeSetCmd_same : timeSetCmd.Bounds 2199023255560 := by
  intro s w p e
  dsimp only [timeSetCmd]
  repeat' (first | with_reducible exact Same.refl _ | with_reducible refine (timeSet_same _ _ _).step rfl ?_ | intro _ | split | (dsimp only; split))

theorem execTimeSet_same : ∀ a0 a1, Within 3373965246477 (execTimeSet a0 a1) a1 := fun _ _ => command_same timeSetCmd_same rfl _ _

theorem leapSetCmd_same : leapSetCmd.Bounds 8 := by
  intro s w p e
  dsimp only [leapSetCmd]
  repeat' (first | with_reducible exact Same.refl _ | intro _ | with_reducible refine Same.tb rfl ?_ | with_reducible refine Same.update rfl ?_ ?_ | exact Fits.mk (fun c h => by cases c <;> first | exact absurd h (by decide) | with_reducible exact rfl))

theorem execLeapSet_same : ∀ a0 a1, Within 1174941990925 (execLeapSet a0 a1) a1 := fun _ _ => command_same leapSetCmd_same rfl _ _

theorem timeStatusCmd_same : timeStatusCmd.Bounds 0 := by
  intro s w p e
  dsimp only [timeStatusCmd]
  repeat' (first | with_reducible exact Same.refl _ | intro _)

theorem execTimeStatus_same : ∀ a0 a1, Within 1174941990917 (execTimeStatus a0 a1) a1 := fun _ _ => command_same timeStatusCmd_same rfl _ _

theorem rtcCurveLoadCmd_same : rtcCurveLoadCmd.Bounds 138512695296 := by
  intro s w p e
  dsimp only [rtcCurveLoadCmd]
  repeat' (first | with_reducible exact Same.refl _ | intro _ | with_reducible refine Same.rtc rfl ?_ | with_reducible refine Same.nor rfl ?_ | with_reducible refine Same.update rfl ?_ ?_ | exact Fits.mk (fun c h => by cases c <;> first | exact absurd h (by decide) | with_reducible exact rfl))

theorem execRtcCurveLoad_same : ∀ a0 a1, Within 1313454686213 (execRtcCurveLoad a0 a1) a1 := fun _ _ => command_same rtcCurveLoadCmd_same rfl _ _

theorem rtcLeapTableCmd_same : rtcLeapTableCmd.Bounds 138512695296 := by
  intro s w p e
  dsimp only [rtcLeapTableCmd]
  repeat' (first | with_reducible exact Same.refl _ | intro _ | with_reducible refine Same.rtc rfl ?_ | with_reducible refine Same.nor rfl ?_ | with_reducible refine Same.update rfl ?_ ?_ | exact Fits.mk (fun c h => by cases c <;> first | exact absurd h (by decide) | with_reducible exact rfl))

theorem execRtcLeapTable_same : ∀ a0 a1, Within 1313454686213 (execRtcLeapTable a0 a1) a1 := fun _ _ => command_same rtcLeapTableCmd_same rfl _ _

theorem recExport_same : ∀ a0 a1 a2, Same 0 a2 (recExport a0 a1 a2).1 := by
  intro a0 a1 a2
  unfold recExport
  repeat' (first | with_reducible exact Same.refl _ | intro _ | split | (dsimp only; split))

theorem recExportCmd_same : recExportCmd.Bounds 0 := by
  intro s w p e
  dsimp only [recExportCmd]
  repeat' (first | with_reducible exact Same.refl _ | with_reducible refine (recExport_same _ _ _).step rfl ?_ | intro _ | split | (dsimp only; split))

theorem execRecExport_same : ∀ a0 a1, Within 1174941990917 (execRecExport a0 a1) a1 := fun _ _ => command_same recExportCmd_same rfl _ _

theorem recNoteCmd_same : recNoteCmd.Bounds 3300682366977 := by
  intro s w p e
  dsimp only [recNoteCmd]
  repeat' (first | with_reducible exact Same.refl _ | with_reducible refine (drawFree_same _).step rfl ?_ | with_reducible refine (recAdd_same _ _ _ _ _ _ _ _ _ _).step rfl ?_ | intro _ | split | (dsimp only; split))

theorem execRecNote_same : ∀ a0 a1, Within 3373965246469 (execRecNote a0 a1) a1 := fun _ _ => command_same recNoteCmd_same rfl _ _

end Sys2Proof.Machine
end

