-- ==== Sys2Proof/Laws/FrameCmdTables.lean ====
section
/-! SUPPORT. The frame of each definition of Machine/CmdTables. -/

namespace Sys2Proof.Machine

theorem streamDefineRun_same : ∀ a0 a1, Same 384 a0 (streamDefineRun a0 a1).1 := by
  intro a0 a1
  unfold streamDefineRun
  repeat' (first | with_reducible exact Same.refl _ | with_reducible refine Same.ite_fst ?_ ?_ | with_reducible refine (setInactive_same _ _).step rfl ?_ | intro _)

theorem streamDefineCmd_same : streamDefineCmd.Bounds 384 := by
  intro s w p e
  dsimp only [streamDefineCmd, tableCmd]
  repeat' (first | with_reducible exact Same.refl _ | with_reducible refine (streamDefineRun_same _ _).step rfl ?_ | intro _)

theorem execStreamDefine_same : ∀ a0 a1, Within 1174941991301 (execStreamDefine a0 a1) a1 := fun _ _ => command_same streamDefineCmd_same rfl _ _

theorem tableCmd_same {op : Nat} {l : Bytes → Nat → Bool} {f : Bank → Bytes → Bool} {u : Bytes → Bank → Bank} :
    (tableCmd op l f u).Bounds 384 := fun _ _ _ _ => setInactive_same _ _

theorem streamDeleteCmd_same : streamDeleteCmd.Bounds 384 := tableCmd_same

theorem execStreamDelete_same : ∀ a0 a1, Within 1174941991301 (execStreamDelete a0 a1) a1 := fun _ _ => command_same streamDeleteCmd_same rfl _ _

theorem channelDefineCmd_same : channelDefineCmd.Bounds 384 := tableCmd_same

theorem execChannelDefine_same : ∀ a0 a1, Within 1174941991301 (execChannelDefine a0 a1) a1 := fun _ _ => command_same channelDefineCmd_same rfl _ _

theorem groupDefineCmd_same : groupDefineCmd.Bounds 384 := tableCmd_same

theorem execGroupDefine_same : ∀ a0 a1, Within 1174941991301 (execGroupDefine a0 a1) a1 := fun _ _ => command_same groupDefineCmd_same rfl _ _

theorem templateDefineCmd_same : templateDefineCmd.Bounds 384 := tableCmd_same

theorem execTemplateDefine_same : ∀ a0 a1, Within 1174941991301 (execTemplateDefine a0 a1) a1 := fun _ _ => command_same templateDefineCmd_same rfl _ _

theorem streamStatusCmd_same : streamStatusCmd.Bounds 0 := by
  intro s w p e
  dsimp only [streamStatusCmd]
  repeat' (first | with_reducible exact Same.refl _ | intro _)

theorem execStreamStatus_same : ∀ a0 a1, Within 1174941990917 (execStreamStatus a0 a1) a1 := fun _ _ => command_same streamStatusCmd_same rfl _ _

theorem detDefineCmd_same : detDefineCmd.Bounds 384 := tableCmd_same

theorem execDetDefine_same : ∀ a0 a1, Within 1174941991301 (execDetDefine a0 a1) a1 := fun _ _ => command_same detDefineCmd_same rfl _ _

theorem capDefineCmd_same : capDefineCmd.Bounds 384 := tableCmd_same

theorem execCapDefine_same : ∀ a0 a1, Within 1174941991301 (execCapDefine a0 a1) a1 := fun _ _ => command_same capDefineCmd_same rfl _ _

theorem outDefineCmd_same : outDefineCmd.Bounds 384 := tableCmd_same

theorem execOutDefine_same : ∀ a0 a1, Within 1174941991301 (execOutDefine a0 a1) a1 := fun _ _ => command_same outDefineCmd_same rfl _ _

end Sys2Proof.Machine
end

