-- ==== Sys2Proof/Laws/FrameCmdSched.lean ====
section
/-! SUPPORT. The frame of each definition of Machine/CmdSched. -/

namespace Sys2Proof.Machine

theorem schedLoadCmd_same : schedLoadCmd.Bounds 388 := by
  intro s w p e
  dsimp only [schedLoadCmd]
  repeat' (first | with_reducible exact Same.refl _ | with_reducible refine (setInactive_same _ _).step rfl ?_ | refine (chunkTake_bad_same (by assumption)).step rfl ?_ | refine (chunkTake_more_same (by assumption)).step rfl ?_ | refine (chunkTake_whole_same (by assumption)).step rfl ?_ | intro _ | split | (dsimp only; split))

theorem execSchedLoad_same : ∀ a0 a1, Within 1174941991301 (execSchedLoad a0 a1) a1 := fun _ _ => command_same schedLoadCmd_same rfl _ _

theorem schedSwapCmd_same : schedSwapCmd.Bounds 103079215104 := by
  intro s w p e
  dsimp only [schedSwapCmd]
  repeat' (first | with_reducible exact Same.refl _ | intro _ | split | (dsimp only; split) | with_reducible refine Same.update rfl ?_ ?_ | exact Fits.mk (fun c h => by cases c <;> first | exact absurd h (by decide) | with_reducible exact rfl))

theorem execSchedSwap_same : ∀ a0 a1, Within 1209301729285 (execSchedSwap a0 a1) a1 := fun _ _ => command_same schedSwapCmd_same rfl _ _

theorem schedStatusCmd_same : schedStatusCmd.Bounds 0 := by
  intro s w p e
  dsimp only [schedStatusCmd]
  repeat' (first | with_reducible exact Same.refl _ | intro _)

theorem execSchedStatus_same : ∀ a0 a1, Within 1174941990917 (execSchedStatus a0 a1) a1 := fun _ _ => command_same schedStatusCmd_same rfl _ _

end Sys2Proof.Machine
end

