-- ==== Sys2Proof/Laws/FrameCmdScheme.lean ====
section
/-! SUPPORT. The frame of each definition of Machine/CmdScheme. -/

namespace Sys2Proof.Machine

theorem detStatusCmd_same : detStatusCmd.Bounds 0 := by
  intro s w p e
  dsimp only [detStatusCmd]
  repeat' (first | with_reducible exact Same.refl _ | intro _)

theorem execDetStatus_same : ∀ a0 a1, Within 1174941990917 (execDetStatus a0 a1) a1 := fun _ _ => command_same detStatusCmd_same rfl _ _

theorem detAckCmd_same : detAckCmd.Bounds 1099511644162 := by
  intro s w p e
  dsimp only [detAckCmd]
  repeat' (first | with_reducible exact Same.refl _ | with_reducible refine (detAckLatch_same _ _).step rfl ?_ | intro _)

theorem execDetAck_same : ∀ a0 a1, Within 1174942007303 (execDetAck a0 a1) a1 := fun _ _ => command_same detAckCmd_same rfl _ _

theorem progLoadRun_same : ∀ a0 a1 a2, Same 33156 a0 (progLoadRun a0 a1 a2).1 := by
  intro a0 a1 a2
  unfold progLoadRun
  dsimp only
  refine Same.ite_fst (fun _ => Same.refl _) (fun _ => Same.ite_fst (fun _ => Same.refl _) (fun _ => ?_))
  split
  · next h => exact (chunkTake_bad_same h).of rfl
  · next h => exact (chunkTake_more_same h).of rfl
  · next h =>
    refine Same.trans ?_ ((chunkTake_whole_same h).of rfl)
    exact Same.ite_fst (fun _ => (setSch_same _ _ _).of rfl) (fun _ => (setInactive_same _ _).of rfl)

theorem progLoadCmd_same : progLoadCmd.Bounds 33156 := by
  intro s w p e
  dsimp only [progLoadCmd]
  repeat' (first | with_reducible exact Same.refl _ | with_reducible refine (progLoadRun_same _ _ _).step rfl ?_ | intro _)

theorem execProgLoad_same : ∀ a0 a1, Within 1174942024069 (execProgLoad a0 a1) a1 := fun _ _ => command_same progLoadCmd_same rfl _ _

theorem progStartRun_same : ∀ a0 a1 a2 a3, Same 1101659144577 a0 (progStartRun a0 a1 a2 a3).1 := by
  intro a0 a1 a2 a3
  unfold progStartRun
  repeat' (first | with_reducible exact Same.refl _ | with_reducible refine Same.ite ?_ ?_ | with_reducible refine Same.ite_fst ?_ ?_ | with_reducible refine (copyImage_same _ _).step rfl ?_ | with_reducible refine (schemeStartAt_same _ _ _ _).step rfl ?_ | intro _ | split | (dsimp only; split))

theorem progStartCmd_same : progStartCmd.Bounds 1101659144577 := by
  intro s w p e
  dsimp only [progStartCmd]
  repeat' (first | with_reducible exact Same.refl _ | with_reducible refine (progStartRun_same _ _ _ _).step rfl ?_ | intro _)

theorem execProgStart_same : ∀ a0 a1, Within 1174942024069 (execProgStart a0 a1) a1 := fun _ _ => command_same progStartCmd_same rfl _ _

theorem progStopRun_same : ∀ a0 a1 a2 a3, Same 32768 a0 (progStopRun a0 a1 a2 a3).1 := by
  intro a0 a1 a2 a3
  unfold progStopRun
  repeat' (first | with_reducible exact Same.refl _ | with_reducible refine Same.ite_fst ?_ ?_ | with_reducible refine (setSch_same _ _ _).step rfl ?_ | intro _ | split | (dsimp only; split))

theorem progStopCmd_same : progStopCmd.Bounds 32768 := by
  intro s w p e
  dsimp only [progStopCmd]
  repeat' (first | with_reducible exact Same.refl _ | with_reducible refine (progStopRun_same _ _ _ _).step rfl ?_ | intro _)

theorem execProgStop_same : ∀ a0 a1, Within 1174942023685 (execProgStop a0 a1) a1 := fun _ _ => command_same progStopCmd_same rfl _ _

theorem progSetRun_same : ∀ a0 a1 a2 a3, Same 32768 a0 (progSetRun a0 a1 a2 a3).1 := by
  intro a0 a1 a2 a3
  unfold progSetRun
  repeat' (first | with_reducible exact Same.refl _ | with_reducible refine Same.ite_fst ?_ ?_ | with_reducible refine (setSch_same _ _ _).step rfl ?_ | intro _ | split | (dsimp only; split))

theorem progSetValuesCmd_same : progSetValuesCmd.Bounds 32768 := by
  intro s w p e
  dsimp only [progSetValuesCmd]
  repeat' (first | with_reducible exact Same.refl _ | with_reducible refine (progSetRun_same _ _ _ _).step rfl ?_ | intro _)

theorem execProgSetValues_same : ∀ a0 a1, Within 1174942023685 (execProgSetValues a0 a1) a1 := fun _ _ => command_same progSetValuesCmd_same rfl _ _

theorem progForceRun_same : ∀ a0 a1 a2 a3, Same 32768 a0 (progForceRun a0 a1 a2 a3).1 := by
  intro a0 a1 a2 a3
  unfold progForceRun
  repeat' (first | with_reducible exact Same.refl _ | with_reducible refine Same.ite_fst ?_ ?_ | with_reducible refine (setSch_same _ _ _).step rfl ?_ | intro _ | split | (dsimp only; split))

theorem progForceCmd_same : progForceCmd.Bounds 32768 := by
  intro s w p e
  dsimp only [progForceCmd]
  repeat' (first | with_reducible exact Same.refl _ | with_reducible refine (progForceRun_same _ _ _ _).step rfl ?_ | intro _)

theorem execProgForce_same : ∀ a0 a1, Within 1174942023685 (execProgForce a0 a1) a1 := fun _ _ => command_same progForceCmd_same rfl _ _

theorem progReadCmd_same : progReadCmd.Bounds 0 := by
  intro s w p e
  dsimp only [progReadCmd]
  repeat' (first | with_reducible exact Same.refl _ | intro _)

theorem execProgRead_same : ∀ a0 a1, Within 1174941990917 (execProgRead a0 a1) a1 := fun _ _ => command_same progReadCmd_same rfl _ _

end Sys2Proof.Machine
end

