-- ==== Sys2Proof/Laws/FrameCmdVoice.lean ====
section
/-! SUPPORT. The frame of each definition of Machine/CmdVoice. -/

namespace Sys2Proof.Machine

theorem vchOpen_same : ∀ a0 a1 a2 a3, Same 1105956962305 a3 (vchOpen a0 a1 a2 a3) := by
  intro a0 a1 a2 a3
  unfold vchOpen
  repeat' (first | with_reducible exact Same.refl _ | with_reducible refine Same.ite ?_ ?_ | with_reducible refine (setVch_same _ _ _).step rfl ?_ | with_reducible refine (vchEnd_same _ _ _ _).step rfl ?_ | intro _ | split | (dsimp only; split))

theorem vchOpenCmd_same : vchOpenCmd.Bounds 1105956962305 := by
  intro s w p e
  dsimp only [vchOpenCmd]
  repeat' (first | with_reducible exact Same.refl _ | with_reducible refine Same.ite_fst ?_ ?_ | with_reducible refine (vchOpen_same _ _ _ _).step rfl ?_ | intro _)

theorem execVchOpen_same : ∀ a0 a1, Within 1174944874501 (execVchOpen a0 a1) a1 := fun _ _ => command_same vchOpenCmd_same rfl _ _

theorem vchModify_same : ∀ a0 a1 a2 a3, Same 262144 a3 (vchModify a0 a1 a2 a3) := by
  intro a0 a1 a2 a3
  unfold vchModify
  repeat' (first | with_reducible exact Same.refl _ | with_reducible refine (setVch_same _ _ _).step rfl ?_ | intro _ | split | (dsimp only; split))

theorem vchModifyCmd_same : vchModifyCmd.Bounds 262144 := by
  intro s w p e
  dsimp only [vchModifyCmd]
  repeat' (first | with_reducible exact Same.refl _ | with_reducible refine Same.ite_fst ?_ ?_ | with_reducible refine (vchModify_same _ _ _ _).step rfl ?_ | intro _)

theorem execVchModify_same : ∀ a0 a1, Within 1174942253061 (execVchModify a0 a1) a1 := fun _ _ => command_same vchModifyCmd_same rfl _ _

theorem vchCloseCmd_same : vchCloseCmd.Bounds 262144 := by
  intro s w p e
  dsimp only [vchCloseCmd]
  repeat' (first | with_reducible exact Same.refl _ | with_reducible refine Same.ite_fst ?_ ?_ | intro _ | with_reducible refine Same.vchs rfl ?_ | with_reducible refine Same.update rfl ?_ ?_ | exact Fits.mk (fun c h => by cases c <;> first | exact absurd h (by decide) | with_reducible exact rfl))

theorem execVchClose_same : ∀ a0 a1, Within 1174942253061 (execVchClose a0 a1) a1 := fun _ _ => command_same vchCloseCmd_same rfl _ _

theorem flowFresh_same : ∀ a0 a1, Same 262144 a1 (flowFresh a0 a1) := by
  intro a0 a1
  unfold flowFresh
  repeat' (first | with_reducible exact Same.refl _ | with_reducible refine Same.ite ?_ ?_ | intro _ | with_reducible refine Same.vchs rfl ?_ | with_reducible refine Same.update rfl ?_ ?_ | exact Fits.mk (fun c h => by cases c <;> first | exact absurd h (by decide) | with_reducible exact rfl))

theorem flowSet_same : ∀ a0 a1 a2, Same 786432 a2 (flowSet a0 a1 a2) := by
  intro a0 a1 a2
  unfold flowSet
  repeat' (first | with_reducible exact Same.refl _ | with_reducible refine Same.ite ?_ ?_ | with_reducible refine (flowFresh_same _ _).step rfl ?_ | with_reducible refine (setFlow_same _ _ _).step rfl ?_ | intro _ | split | (dsimp only; split))

theorem flowDelete_same : ∀ a0 a1, Same 786432 a1 (flowDelete a0 a1) := by
  intro a0 a1
  unfold flowDelete
  repeat' (first | with_reducible exact Same.refl _ | with_reducible refine (flowFresh_same _ _).step rfl ?_ | intro _ | split | (dsimp only; split) | with_reducible refine Same.flows rfl ?_ | with_reducible refine Same.update rfl ?_ ?_ | exact Fits.mk (fun c h => by cases c <;> first | exact absurd h (by decide) | with_reducible exact rfl))

theorem flowSetCmd_same : flowSetCmd.Bounds 786432 := by
  intro s w p e
  dsimp only [flowSetCmd]
  repeat' (first | with_reducible exact Same.refl _ | with_reducible refine Same.ite ?_ ?_ | with_reducible refine Same.ite_fst ?_ ?_ | with_reducible refine (flowDelete_same _ _).step rfl ?_ | with_reducible refine (flowSet_same _ _ _).step rfl ?_ | intro _)

theorem execFlowSet_same : ∀ a0 a1, Within 1174942777349 (execFlowSet a0 a1) a1 := fun _ _ => command_same flowSetCmd_same rfl _ _

theorem vchStatusCmd_same : vchStatusCmd.Bounds 0 := by
  intro s w p e
  dsimp only [vchStatusCmd]
  repeat' (first | with_reducible exact Same.refl _ | intro _)

theorem execVchStatus_same : ∀ a0 a1, Within 1174941990917 (execVchStatus a0 a1) a1 := fun _ _ => command_same vchStatusCmd_same rfl _ _

end Sys2Proof.Machine
end

