-- ==== Sys2Proof/Laws/FrameCmdCapture.lean ====
section
/-! SUPPORT. The frame of each definition of Machine/CmdCapture. -/

namespace Sys2Proof.Machine

theorem capArmCmd_same : capArmCmd.Bounds 1105957224449 := by
  intro s w p e
  dsimp only [capArmCmd]
  repeat' (first | with_reducible exact Same.refl _ | with_reducible refine (armCap_same _ _ _).step rfl ?_ | intro _)

theorem execCapArm_same : ∀ a0 a1, Within 1174945136645 (execCapArm a0 a1) a1 := fun _ _ => command_same capArmCmd_same rfl _ _

theorem capTriggerRun_same : ∀ a0 a1 a2, Same 1106494095457 a0 (capTriggerRun a0 a1 a2).1 := by
  intro a0 a1 a2
  unfold capTriggerRun
  repeat' (first | with_reducible exact Same.refl _ | with_reducible refine Same.ite_fst ?_ ?_ | with_reducible refine (triggerCap_same _ _ _ _).step rfl ?_ | intro _ | split | (dsimp only; split))

theorem capTriggerCmd_same : capTriggerCmd.Bounds 1106494095457 := by
  intro s w p e
  dsimp only [capTriggerCmd]
  repeat' (first | with_reducible exact Same.refl _ | with_reducible refine (capTriggerRun_same _ _ _).step rfl ?_ | intro _)

theorem execCapTrigger_same : ∀ a0 a1, Within 1175482007653 (execCapTrigger a0 a1) a1 := fun _ _ => command_same capTriggerCmd_same rfl _ _

theorem oqFlushCmd_same : oqFlushCmd.Bounds 4297064448 := by
  intro s w p e
  dsimp only [oqFlushCmd]
  repeat' (first | with_reducible exact Same.refl _ | with_reducible refine (oqFlush_same _ _).step rfl ?_ | with_reducible refine (setOq_same _ _ _).step rfl ?_ | intro _)

theorem execOqFlush_same : ∀ a0 a1, Within 1174944088069 (execOqFlush a0 a1) a1 := fun _ _ => command_same oqFlushCmd_same rfl _ _

theorem queueStatusCmd_same : queueStatusCmd.Bounds 0 := by
  intro s w p e
  dsimp only [queueStatusCmd]
  repeat' (first | with_reducible exact Same.refl _ | intro _)

theorem execQueueStatus_same : ∀ a0 a1, Within 1174941990917 (execQueueStatus a0 a1) a1 := fun _ _ => command_same queueStatusCmd_same rfl _ _

theorem fwPacket_same : ∀ a0 a1 a2 a3, Same 1105956175873 a3 (fwPacket a0 a1 a2 a3).1 := by
  intro a0 a1 a2 a3
  unfold fwPacket
  repeat' (first | with_reducible exact Same.refl _ | with_reducible refine Same.ite_fst ?_ ?_ | with_reducible refine (oqPut_same _ _ _ _).step rfl ?_ | intro _)

theorem prcEncodeImage_same : ∀ a0 a1 a2, Same 1105956175873 a2 (prcEncodeImage a0 a1 a2).1 := by
  intro a0 a1 a2
  unfold prcEncodeImage
  repeat' (first | with_reducible exact Same.refl _ | with_reducible refine (fwPacket_same _ _ _ _).step rfl ?_ | intro _ | split | (dsimp only; split))

theorem prcEncodeCmd_same : prcEncodeCmd.Bounds 1105956175877 := by
  intro s w p e
  dsimp only [prcEncodeCmd]
  repeat' (first | with_reducible exact Same.refl _ | with_reducible refine (prcEncodeImage_same _ _ _).step rfl ?_ | refine (chunkTake_bad_same (by assumption)).step rfl ?_ | refine (chunkTake_more_same (by assumption)).step rfl ?_ | refine (chunkTake_whole_same (by assumption)).step rfl ?_ | intro _ | split | (dsimp only; split))

theorem execPrcEncode_same : ∀ a0 a1, Within 1174944088069 (execPrcEncode a0 a1) a1 := fun _ _ => command_same prcEncodeCmd_same rfl _ _

theorem prcDecodeImage_same : ∀ a0 a1 a2, Same 1105956175873 a2 (prcDecodeImage a0 a1 a2).1 := by
  intro a0 a1 a2
  unfold prcDecodeImage
  repeat' (first | with_reducible exact Same.refl _ | with_reducible refine (count_same _ _).step rfl ?_ | with_reducible refine (fwPacket_same _ _ _ _).step rfl ?_ | intro _ | split | (dsimp only; split))

theorem prcDecodeCmd_same : prcDecodeCmd.Bounds 1105956175877 := by
  intro s w p e
  dsimp only [prcDecodeCmd]
  repeat' (first | with_reducible exact Same.refl _ | with_reducible refine (prcDecodeImage_same _ _ _).step rfl ?_ | refine (chunkTake_bad_same (by assumption)).step rfl ?_ | refine (chunkTake_more_same (by assumption)).step rfl ?_ | refine (chunkTake_whole_same (by assumption)).step rfl ?_ | intro _ | split | (dsimp only; split))

theorem execPrcDecode_same : ∀ a0 a1, Within 1174944088069 (execPrcDecode a0 a1) a1 := fun _ _ => command_same prcDecodeCmd_same rfl _ _

end Sys2Proof.Machine
end

