-- ==== Sys2Proof/Laws/FrameCmdKeys.lean ====
section
/-! SUPPORT. The frame of each definition of Machine/CmdKeys. -/

namespace Sys2Proof.Machine

theorem keyLoadCmd_same : keyLoadCmd.Bounds 1106356731905 := by
  intro s w p e
  dsimp only [keyLoadCmd]
  repeat' (first | with_reducible exact Same.refl _ | with_reducible refine (keyLoadRun_same _ _).step rfl ?_ | intro _)

theorem execKeyLoad_same : ∀ a0 a1, Within 1175076208645 (execKeyLoad a0 a1) a1 := fun _ _ => command_same keyLoadCmd_same rfl _ _

theorem keyClearCmd_same : keyClearCmd.Bounds 1106356731905 := by
  intro s w p e
  dsimp only [keyClearCmd]
  repeat' (first | with_reducible exact Same.refl _ | with_reducible refine (keyClearRun_same _ _).step rfl ?_ | intro _)

theorem execKeyClear_same : ∀ a0 a1, Within 1175076208645 (execKeyClear a0 a1) a1 := fun _ _ => command_same keyClearCmd_same rfl _ _

theorem keyGenerateCmd_same : keyGenerateCmd.Bounds 2199023255552 := by
  intro s w p e
  dsimp only [keyGenerateCmd]
  repeat' (first | with_reducible exact Same.refl _ | with_reducible refine (keyGenRun_same _ _).step rfl ?_ | intro _)

theorem execKeyGenerate_same : ∀ a0 a1, Within 3373965246469 (execKeyGenerate a0 a1) a1 := fun _ _ => command_same keyGenerateCmd_same rfl _ _

theorem keyRewrapCmd_same : keyRewrapCmd.Bounds 2203318222848 := by
  intro s w p e
  dsimp only [keyRewrapCmd]
  repeat' (first | with_reducible exact Same.refl _ | with_reducible refine (keyRewrapRun_same _ _).step rfl ?_ | intro _)

theorem execKeyRewrap_same : ∀ a0 a1, Within 3373965246469 (execKeyRewrap a0 a1) a1 := fun _ _ => command_same keyRewrapCmd_same rfl _ _

theorem domainInvalidateCmd_same : domainInvalidateCmd.Bounds 3374099464197 := by
  intro s w p e
  dsimp only [domainInvalidateCmd]
  repeat' (first | with_reducible exact Same.refl _ | with_reducible refine (invalidateRun_same _ _ _).step rfl ?_ | intro _)

theorem execDomainInvalidate_same : ∀ a0 a1, Within 3374099464197 (execDomainInvalidate a0 a1) a1 := fun _ _ => command_same domainInvalidateCmd_same rfl _ _

theorem keyStatusCmd_same : keyStatusCmd.Bounds 0 := by
  intro s w p e
  dsimp only [keyStatusCmd]
  repeat' (first | with_reducible exact Same.refl _ | intro _)

theorem execKeyStatus_same : ∀ a0 a1, Within 1174941990917 (execKeyStatus a0 a1) a1 := fun _ _ => command_same keyStatusCmd_same rfl _ _

theorem idCertCmd_same : idCertCmd.Bounds 0 := by
  intro s w p e
  dsimp only [idCertCmd]
  repeat' (first | with_reducible exact Same.refl _ | intro _)

theorem execIdCert_same : ∀ a0 a1, Within 1174941990917 (execIdCert a0 a1) a1 := fun _ _ => command_same idCertCmd_same rfl _ _

end Sys2Proof.Machine
end

