-- ==== Sys2Proof/Laws/FrameCmdCas.lean ====
section
/-! SUPPORT. The frame of each definition of Machine/CmdCas. -/

namespace Sys2Proof.Machine

theorem casConfigCmd_same : casConfigCmd.Bounds 536870912 := by
  intro s w p e
  dsimp only [casConfigCmd]
  repeat' (first | with_reducible exact Same.refl _ | with_reducible refine Same.ite_fst ?_ ?_ | intro _ | with_reducible refine Same.cas rfl ?_ | with_reducible refine Same.update rfl ?_ ?_ | exact Fits.mk (fun c h => by cases c <;> first | exact absurd h (by decide) | with_reducible exact rfl))

theorem execCasConfig_same : ∀ a0 a1, Within 1175478861829 (execCasConfig a0 a1) a1 := fun _ _ => command_same casConfigCmd_same rfl _ _

theorem casPairCmd_same : casPairCmd.Bounds 3298803318784 := by
  intro s w p e
  dsimp only [casPairCmd]
  repeat' (first | with_reducible exact Same.refl _ | with_reducible refine (casPairRun_same _ _).step rfl ?_ | intro _)

theorem execCasPair_same : ∀ a0 a1, Within 3373965246469 (execCasPair a0 a1) a1 := fun _ _ => command_same casPairCmd_same rfl _ _

theorem casSwitchoverRun_same : ∀ a0 a1 a2, Same 536870912 a0 (casSwitchoverRun a0 a1 a2).1 := by
  intro a0 a1 a2
  unfold casSwitchoverRun
  repeat' (first | with_reducible exact Same.refl _ | with_reducible refine Same.ite_fst ?_ ?_ | intro _ | with_reducible refine Same.cas rfl ?_ | with_reducible refine Same.update rfl ?_ ?_ | exact Fits.mk (fun c h => by cases c <;> first | exact absurd h (by decide) | with_reducible exact rfl))

theorem casSwitchoverCmd_same : casSwitchoverCmd.Bounds 536870912 := by
  intro s w p e
  dsimp only [casSwitchoverCmd]
  repeat' (first | with_reducible exact Same.refl _ | with_reducible refine (casSwitchoverRun_same _ _ _).step rfl ?_ | intro _)

theorem execCasSwitchover_same : ∀ a0 a1, Within 1175478861829 (execCasSwitchover a0 a1) a1 := fun _ _ => command_same casSwitchoverCmd_same rfl _ _

theorem casResyncRun_same : ∀ a0 a1, Same 1104343498752 a0 (casResyncRun a0 a1).1 := by
  intro a0 a1
  unfold casResyncRun
  repeat' (first | with_reducible exact Same.refl _ | with_reducible refine Same.ite ?_ ?_ | with_reducible refine Same.ite_fst ?_ ?_ | with_reducible refine (dropExchange_same _).step rfl ?_ | with_reducible refine (resyncStart_same _).step rfl ?_ | intro _ | with_reducible refine Same.cas rfl ?_ | with_reducible refine Same.update rfl ?_ ?_ | exact Fits.mk (fun c h => by cases c <;> first | exact absurd h (by decide) | with_reducible exact rfl))

theorem casResyncCmd_same : casResyncCmd.Bounds 1104343498752 := by
  intro s w p e
  dsimp only [casResyncCmd]
  repeat' (first | with_reducible exact Same.refl _ | with_reducible refine (casResyncRun_same _ _).step rfl ?_ | intro _)

theorem execCasResync_same : ∀ a0 a1, Within 1175478894597 (execCasResync a0 a1) a1 := fun _ _ => command_same casResyncCmd_same rfl _ _

theorem casStatusCmd_same : casStatusCmd.Bounds 0 := by
  intro s w p e
  dsimp only [casStatusCmd]
  repeat' (first | with_reducible exact Same.refl _ | intro _)

theorem execCasStatus_same : ∀ a0 a1, Within 1174941990917 (execCasStatus a0 a1) a1 := fun _ _ => command_same casStatusCmd_same rfl _ _

end Sys2Proof.Machine
end

