-- ==== Sys2Proof/Laws/FrameCmdNet.lean ====
section
/-! SUPPORT. The frame of each definition of Machine/CmdNet. -/

namespace Sys2Proof.Machine

theorem portConfig_same : ∀ a0 a1 a2, Same 16777216 a2 (portConfig a0 a1 a2) := by
  intro a0 a1 a2
  unfold portConfig
  repeat' (first | with_reducible exact Same.refl _ | with_reducible refine (setPort_same _ _ _).step rfl ?_ | intro _ | split | (dsimp only; split))

theorem portConfigCmd_same : portConfigCmd.Bounds 16777216 := by
  intro s w p e
  dsimp only [portConfigCmd]
  repeat' (first | with_reducible exact Same.refl _ | with_reducible refine (portConfig_same _ _ _).step rfl ?_ | intro _)

theorem execPortConfig_same : ∀ a0 a1, Within 1174958768133 (execPortConfig a0 a1) a1 := fun _ _ => command_same portConfigCmd_same rfl _ _

theorem wakeSetCmd_same : wakeSetCmd.Bounds 67108864 := by
  intro s w p e
  dsimp only [wakeSetCmd]
  repeat' (first | with_reducible exact Same.refl _ | intro _ | with_reducible refine Same.wake rfl ?_ | with_reducible refine Same.update rfl ?_ ?_ | exact Fits.mk (fun c h => by cases c <;> first | exact absurd h (by decide) | with_reducible exact rfl))

theorem execWakeSet_same : ∀ a0 a1, Within 1175009099781 (execWakeSet a0 a1) a1 := fun _ _ => command_same wakeSetCmd_same rfl _ _

theorem portStatusCmd_same : portStatusCmd.Bounds 0 := by
  intro s w p e
  dsimp only [portStatusCmd]
  repeat' (first | with_reducible exact Same.refl _ | intro _)

theorem execPortStatus_same : ∀ a0 a1, Within 1174941990917 (execPortStatus a0 a1) a1 := fun _ _ => command_same portStatusCmd_same rfl _ _

theorem actCmd_same {op : Nat} {c : Cmd} (h : actCmd op = some c) : c.Bounds 1209574146535 := by
  have h := List.mem_of_find?_eq_some h
  simp only [List.mem_cons, List.not_mem_nil, or_false] at h
  rcases h with rfl | rfl | rfl | rfl | rfl | rfl | rfl | rfl | rfl | rfl | rfl | rfl | rfl | rfl | rfl | rfl | rfl | rfl | rfl | rfl | rfl | rfl | rfl
  exacts [fun s w p e => (streamDefineCmd_same s w p e).of rfl, fun s w p e => (streamDeleteCmd_same s w p e).of rfl, fun s w p e => (channelDefineCmd_same s w p e).of rfl, fun s w p e => (groupDefineCmd_same s w p e).of rfl, fun s w p e => (templateDefineCmd_same s w p e).of rfl, fun s w p e => (schedLoadCmd_same s w p e).of rfl, fun s w p e => (schedSwapCmd_same s w p e).of rfl, fun s w p e => (detDefineCmd_same s w p e).of rfl, fun s w p e => (detAckCmd_same s w p e).of rfl, fun s w p e => (progLoadCmd_same s w p e).of rfl, fun s w p e => (progStartCmd_same s w p e).of rfl, fun s w p e => (progStopCmd_same s w p e).of rfl, fun s w p e => (progSetValuesCmd_same s w p e).of rfl, fun s w p e => (progForceCmd_same s w p e).of rfl, fun s w p e => (vchOpenCmd_same s w p e).of rfl, fun s w p e => (vchModifyCmd_same s w p e).of rfl, fun s w p e => (vchCloseCmd_same s w p e).of rfl, fun s w p e => (flowSetCmd_same s w p e).of rfl, fun s w p e => (capDefineCmd_same s w p e).of rfl, fun s w p e => (capArmCmd_same s w p e).of rfl, fun s w p e => (capTriggerCmd_same s w p e).of rfl, fun s w p e => (casSwitchoverCmd_same s w p e).of rfl, fun s w p e => (outDefineCmd_same s w p e).of rfl]

theorem runForwarded_same : ∀ a0 a1 a2 a3, Same 1209574146535 a3 (runForwarded a0 a1 a2 a3) := by
  intro a0 a1 a2 a3
  unfold runForwarded
  dsimp only
  split
  · exact (count_same _ _).of rfl
  next h =>
    have h2 := fun pk => (runCommand_same (actCmd_same h) rfl pk a2 (count 230 a3)).step (M := 1209574146535) rfl
      ((count_same _ _).of rfl)
    exact Same.ite (fun _ => (diverge_same _ _ _ _ _ _).step rfl (h2 _)) (fun _ => h2 _)

theorem execTwinCmdReceived_same : ∀ a0 a1 a2 a3 a4, Within 1209574146535 (execTwinCmdReceived a0 a1 a2 a3 a4) a4 := by
  intro a0 a1 a2 a3 a4
  unfold execTwinCmdReceived
  split
  next e =>
  have h1 := Same.snd e ((twinTake_same a3 a4).of (M := 1209574146535) rfl)
  refine within_ite (fun _ => within_done h1) (fun _ => within_ite (fun _ => within_done (Same.cas rfl h1)) (fun _ => within_done ?_))
  exact (runForwarded_same _ _ _ _).step rfl h1

theorem execControlFwRecovery_same : ∀ a0, Within 1209842581991 (execControlFwRecovery a0) a0 := by
  intro a0
  unfold execControlFwRecovery
  repeat' (first | with_reducible exact Same.refl _ | with_reducible refine within_ite ?_ ?_ | with_reducible refine within_done ?_ | with_reducible refine (drainReplies_same _).step rfl ?_ | with_reducible refine (runForwarded_same _ _ _ _).step rfl ?_ | with_reducible refine (serve_same _).step rfl ?_ | with_reducible refine Same.foldl ?_ ?_ | intro _ | with_reducible refine Same.cas rfl ?_ | with_reducible refine Same.update rfl ?_ ?_ | exact Fits.mk (fun c h => by cases c <;> first | exact absurd h (by decide) | with_reducible exact rfl))

end Sys2Proof.Machine
end

