-- ==== Sys2Proof/Laws/FrameRegisters.lean ====
section
/-! SUPPORT. The frame of each definition of Machine/Registers. -/

namespace Sys2Proof.Machine

theorem setCntLatch_same : ∀ a0 a1 a2, Same 25769803776 a2 (setCntLatch a0 a1 a2) := by
  intro a0 a1 a2
  unfold setCntLatch
  repeat' (first | with_reducible exact Same.refl _ | intro _ | split | (dsimp only; split) | with_reducible refine Same.cntHost rfl ?_ | with_reducible refine Same.cntMgp rfl ?_ | with_reducible refine Same.update rfl ?_ ?_ | exact Fits.mk (fun c h => by cases c <;> first | exact absurd h (by decide) | with_reducible exact rfl))

theorem readCnt_same : ∀ a0 a1 a2, Same 25769803776 a2 (readCnt a0 a1 a2).2 := by
  intro a0 a1 a2
  unfold readCnt
  repeat' (first | with_reducible exact Same.refl _ | with_reducible refine Same.ite_snd ?_ ?_ | with_reducible refine (setCntLatch_same _ _ _).step rfl ?_ | intro _)

theorem readRtc_same : ∀ a0 a1 a2, Same 1073741824 a2 (readRtc a0 a1 a2).2 := by
  intro a0 a1 a2
  unfold readRtc
  repeat' (first | with_reducible exact Same.refl _ | with_reducible refine Same.ite ?_ ?_ | with_reducible refine Same.ite_snd ?_ ?_ | with_reducible refine (rtcReadT_same _ _).step rfl ?_ | with_reducible refine (rtcRelease_same _ _).step rfl ?_ | intro _)

theorem readReg_same : ∀ a0 a1 a2, Same 26860322816 a2 (readReg a0 a1 a2).2 := by
  intro a0 a1 a2
  unfold readReg
  repeat' (first | with_reducible exact Same.refl _ | with_reducible refine Same.ite_snd ?_ ?_ | with_reducible refine (popTsq_same _ _).step rfl ?_ | with_reducible refine (readCnt_same _ _ _).step rfl ?_ | with_reducible refine (readRtc_same _ _ _).step rfl ?_ | intro _ | split | (dsimp only; split))

theorem writeVec_same : ∀ a0 a1 a2, Same 1 a2 (writeVec a0 a1 a2) := by
  intro a0 a1 a2
  unfold writeVec
  repeat' (first | with_reducible exact Same.refl _ | with_reducible refine Same.ite ?_ ?_ | intro _ | with_reducible refine Same.glb rfl ?_ | with_reducible refine Same.update rfl ?_ ?_ | exact Fits.mk (fun c h => by cases c <;> first | exact absurd h (by decide) | with_reducible exact rfl))

theorem writeIrqEnable_same : ∀ a0 a1, Same 1099511627777 a1 (writeIrqEnable a0 a1) := by
  intro a0 a1
  unfold writeIrqEnable
  repeat' (first | with_reducible exact Same.refl _ | with_reducible refine Same.ite ?_ ?_ | with_reducible refine (raiseVector_same _ _).step rfl ?_ | intro _ | with_reducible refine Same.glb rfl ?_ | with_reducible refine Same.update rfl ?_ ?_ | exact Fits.mk (fun c h => by cases c <;> first | exact absurd h (by decide) | with_reducible exact rfl))

theorem writeGlb_same : ∀ a0 a1 a2, Same 1099511627777 a2 (writeGlb a0 a1 a2) := by
  intro a0 a1 a2
  unfold writeGlb
  repeat' (first | with_reducible exact Same.refl _ | with_reducible refine Same.ite ?_ ?_ | with_reducible refine (writeIrqEnable_same _ _).step rfl ?_ | with_reducible refine (writeVec_same _ _ _).step rfl ?_ | intro _ | split | (dsimp only; split) | with_reducible refine Same.glb rfl ?_ | with_reducible refine Same.update rfl ?_ ?_ | exact Fits.mk (fun c h => by cases c <;> first | exact absurd h (by decide) | with_reducible exact rfl))

theorem startReplyRing_same : ∀ a0, Same 1174941990917 a0 (startReplyRing a0) := by
  intro a0
  unfold startReplyRing
  repeat' (first | with_reducible exact Same.refl _ | with_reducible refine (drainReplies_same _).step rfl ?_ | with_reducible refine (serve_same _).step rfl ?_ | intro _ | refine Same.snd (by assumption) ?_ | refine Same.fst (by assumption) ?_ | refine Same.snd2 (by assumption) ?_ | refine Same.snd3 (by assumption) ?_ | with_reducible refine Same.cmd rfl ?_ | with_reducible refine Same.update rfl ?_ ?_ | exact Fits.mk (fun c h => by cases c <;> first | exact absurd h (by decide) | with_reducible exact rfl))

theorem startCmdRing_same : ∀ a0, Same 4 a0 (startCmdRing a0) := by
  intro a0
  unfold startCmdRing
  repeat' (first | with_reducible exact Same.refl _ | intro _ | refine Same.snd (by assumption) ?_ | refine Same.fst (by assumption) ?_ | refine Same.snd2 (by assumption) ?_ | refine Same.snd3 (by assumption) ?_ | with_reducible refine Same.cmd rfl ?_ | with_reducible refine Same.update rfl ?_ ?_ | exact Fits.mk (fun c h => by cases c <;> first | exact absurd h (by decide) | with_reducible exact rfl))

theorem writeRingCtrl_same : ∀ a0 a1 a2, Same 1174941990917 a2 (writeRingCtrl a0 a1 a2) := by
  intro a0 a1 a2
  unfold writeRingCtrl
  repeat' (first | with_reducible exact Same.refl _ | with_reducible refine Same.ite ?_ ?_ | with_reducible refine (setIrq_same _ _).step rfl ?_ | with_reducible refine (startCmdRing_same _).step rfl ?_ | with_reducible refine (startReplyRing_same _).step rfl ?_ | intro _ | refine Same.snd (by assumption) ?_ | refine Same.fst (by assumption) ?_ | refine Same.snd2 (by assumption) ?_ | refine Same.snd3 (by assumption) ?_ | with_reducible refine Same.cmd rfl ?_ | with_reducible refine Same.update rfl ?_ ?_ | exact Fits.mk (fun c h => by cases c <;> first | exact absurd h (by decide) | with_reducible exact rfl))

theorem writeCmdqTail_same : ∀ a0 a1, Same 1099511627781 a1 (writeCmdqTail a0 a1) := by
  intro a0 a1
  unfold writeCmdqTail
  repeat' (first | with_reducible exact Same.refl _ | with_reducible refine Same.ite ?_ ?_ | with_reducible refine (setIrq_same _ _).step rfl ?_ | intro _ | with_reducible refine Same.cmd rfl ?_ | with_reducible refine Same.update rfl ?_ ?_ | exact Fits.mk (fun c h => by cases c <;> first | exact absurd h (by decide) | with_reducible exact rfl))

theorem writeRplqHead_same : ∀ a0 a1, Same 1174941990917 a1 (writeRplqHead a0 a1) := by
  intro a0 a1
  unfold writeRplqHead
  repeat' (first | with_reducible exact Same.refl _ | with_reducible refine Same.ite ?_ ?_ | with_reducible refine (drainReplies_same _).step rfl ?_ | with_reducible refine (serve_same _).step rfl ?_ | intro _ | with_reducible refine Same.cmd rfl ?_ | with_reducible refine Same.update rfl ?_ ?_ | exact Fits.mk (fun c h => by cases c <;> first | exact absurd h (by decide) | with_reducible exact rfl))

theorem writeCmdq_same : ∀ a0 a1 a2, Same 1174941990917 a2 (writeCmdq a0 a1 a2) := by
  intro a0 a1 a2
  unfold writeCmdq
  repeat' (first | with_reducible exact Same.refl _ | with_reducible refine Same.ite ?_ ?_ | with_reducible refine (writeCmdqTail_same _ _).step rfl ?_ | with_reducible refine (writeRingCtrl_same _ _ _).step rfl ?_ | with_reducible refine (writeRplqHead_same _ _).step rfl ?_ | intro _ | split | (dsimp only; split) | with_reducible refine Same.cmd rfl ?_ | with_reducible refine Same.update rfl ?_ ?_ | exact Fits.mk (fun c h => by cases c <;> first | exact absurd h (by decide) | with_reducible exact rfl))

theorem writeOq_same : ∀ a0 a1 a2 a3, Same 1172528168965 a3 (writeOq a0 a1 a2 a3) := by
  intro a0 a1 a2 a3
  unfold writeOq
  repeat' (first | with_reducible exact Same.refl _ | with_reducible refine Same.ite ?_ ?_ | with_reducible refine (oqHeadWrite_same _ _ _).step rfl ?_ | with_reducible refine (setOq_same _ _ _).step rfl ?_ | with_reducible refine (writeOqCtrl_same _ _ _).step rfl ?_ | intro _ | split | (dsimp only; split))

theorem writeIq_same : ∀ a0 a1 a2 a3, Same 4299161600 a3 (writeIq a0 a1 a2 a3) := by
  intro a0 a1 a2 a3
  unfold writeIq
  repeat' (first | with_reducible exact Same.refl _ | with_reducible refine Same.ite ?_ ?_ | with_reducible refine (iqDoorbell_same _ _ _ _).step rfl ?_ | with_reducible refine (setIq_same _ _ _).step rfl ?_ | with_reducible refine (writeIqCtrl_same _ _ _).step rfl ?_ | intro _ | split | (dsimp only; split))

theorem writeNetRing_same : ∀ a0 a1 a2 a3 a4, Same 1103823372288 a4 (writeNetRing a0 a1 a2 a3 a4) := by
  intro a0 a1 a2 a3 a4
  unfold writeNetRing
  repeat' (first | with_reducible exact Same.refl _ | with_reducible refine (setRing_same _ _ _ _).step rfl ?_ | with_reducible refine (writeNetTail_same _ _ _ _ _).step rfl ?_ | intro _ | split | (dsimp only; split))

theorem writeNetPort_same : ∀ a0 a1 a2 a3, Same 16777216 a3 (writeNetPort a0 a1 a2 a3) := by
  intro a0 a1 a2 a3
  unfold writeNetPort
  repeat' (first | with_reducible exact Same.refl _ | with_reducible refine Same.ite ?_ ?_ | with_reducible refine (clearTsqOvf_same _ _).step rfl ?_ | with_reducible refine (setPort_same _ _ _).step rfl ?_ | intro _ | split | (dsimp only; split))

theorem writeRtcCmd_same : ∀ a0 a1 a2, Same 1102732853249 a2 (writeRtcCmd a0 a1 a2) := by
  intro a0 a1 a2
  unfold writeRtcCmd
  repeat' (first | with_reducible exact Same.refl _ | with_reducible refine (rtcIgnored_same _ _ _ _).step rfl ?_ | with_reducible refine (rtcMode_same _ _ _ _).step rfl ?_ | with_reducible refine (rtcSet_same _ _ _).step rfl ?_ | intro _ | split | (dsimp only; split))

theorem writeRtc_same : ∀ a0 a1 a2 a3, Same 1102732853249 a3 (writeRtc a0 a1 a2 a3) := by
  intro a0 a1 a2 a3
  unfold writeRtc
  repeat' (first | with_reducible exact Same.refl _ | with_reducible refine Same.ite ?_ ?_ | with_reducible refine (setRtcPort_same _ _ _).step rfl ?_ | with_reducible refine (writeRtcCmd_same _ _ _).step rfl ?_ | intro _ | with_reducible refine Same.rtc rfl ?_ | with_reducible refine Same.update rfl ?_ ?_ | exact Fits.mk (fun c h => by cases c <;> first | exact absurd h (by decide) | with_reducible exact rfl))

theorem writeRecCmd_same : ∀ a0 a1 a2, Same 2147483648 a2 (writeRecCmd a0 a1 a2) := by
  intro a0 a1 a2
  unfold writeRecCmd
  repeat' (first | with_reducible exact Same.refl _ | with_reducible refine (recMove_same _ _ _).step rfl ?_ | intro _ | split | (dsimp only; split))

theorem writeRec_same : ∀ a0 a1 a2 a3, Same 1101659111425 a3 (writeRec a0 a1 a2 a3) := by
  intro a0 a1 a2 a3
  unfold writeRec
  repeat' (first | with_reducible exact Same.refl _ | with_reducible refine (recClear_same _ _ _).step rfl ?_ | with_reducible refine (setRecCursor_same _ _ _).step rfl ?_ | with_reducible refine (writeRecCmd_same _ _ _).step rfl ?_ | intro _ | split | (dsimp only; split))

theorem writeCas_same : ∀ a0 a1 a2, Same 536870912 a2 (writeCas a0 a1 a2) := by
  intro a0 a1 a2
  unfold writeCas
  repeat' (first | with_reducible exact Same.refl _ | with_reducible refine Same.ite ?_ ?_ | intro _ | split | (dsimp only; split) | with_reducible refine Same.cas rfl ?_ | with_reducible refine Same.update rfl ?_ ?_ | exact Fits.mk (fun c h => by cases c <;> first | exact absurd h (by decide) | with_reducible exact rfl))

theorem writeAon_same : ∀ a0 a1 a2, Same 3547642986495 a2 (writeAon a0 a1 a2) := by
  intro a0 a1 a2
  unfold writeAon
  repeat' (first | with_reducible exact Same.refl _ | with_reducible refine Same.ite ?_ ?_ | with_reducible refine (aonCold_same _ _).step rfl ?_ | with_reducible refine (aonPwr_same _ _ _).step rfl ?_ | with_reducible refine (aonRecord_same _ _ _ _).step rfl ?_ | with_reducible refine (aonWarm_same _ _).step rfl ?_ | intro _ | split | (dsimp only; split) | refine Same.snd (by assumption) ?_ | refine Same.fst (by assumption) ?_ | refine Same.snd2 (by assumption) ?_ | refine Same.snd3 (by assumption) ?_ | with_reducible refine Same.update rfl ?_ ?_ | exact Fits.mk (fun c h => by cases c <;> first | exact absurd h (by decide) | with_reducible exact rfl))

theorem writeReg_same : ∀ a0 a1 a2 a3, Same 3547642986495 a3 (writeReg a0 a1 a2 a3) := by
  intro a0 a1 a2 a3
  unfold writeReg
  repeat' (first | with_reducible exact Same.refl _ | with_reducible refine Same.ite ?_ ?_ | with_reducible refine (tbSnap_same _).step rfl ?_ | with_reducible refine (writeAon_same _ _ _).step rfl ?_ | with_reducible refine (writeCas_same _ _ _).step rfl ?_ | with_reducible refine (writeCmdq_same _ _ _).step rfl ?_ | with_reducible refine (writeGlb_same _ _ _).step rfl ?_ | with_reducible refine (writeIq_same _ _ _ _).step rfl ?_ | with_reducible refine (writeNetPort_same _ _ _ _).step rfl ?_ | with_reducible refine (writeNetRing_same _ _ _ _ _).step rfl ?_ | with_reducible refine (writeOq_same _ _ _ _).step rfl ?_ | with_reducible refine (writeRec_same _ _ _ _).step rfl ?_ | with_reducible refine (writeRtc_same _ _ _ _).step rfl ?_ | intro _ | split | (dsimp only; split) | refine Same.snd (by assumption) ?_ | refine Same.fst (by assumption) ?_ | refine Same.snd2 (by assumption) ?_ | refine Same.snd3 (by assumption) ?_)

theorem execCmdqDoorbell_same : ∀ a0 a1 a2, Within 1174941990917 (execCmdqDoorbell a0 a1 a2) a2 := by
  intro a0 a1 a2
  unfold execCmdqDoorbell
  repeat' (first | with_reducible exact Same.refl _ | with_reducible refine within_ite ?_ ?_ | with_reducible refine within_done ?_ | with_reducible refine (serve_same _).step rfl ?_ | with_reducible refine (writeCmdqTail_same _ _).step rfl ?_ | intro _ | with_reducible refine Same.cmd rfl ?_ | with_reducible refine Same.update rfl ?_ ?_ | exact Fits.mk (fun c h => by cases c <;> first | exact absurd h (by decide) | with_reducible exact rfl))

theorem execRplqHeadWrite_same : ∀ a0 a1, Within 1174941990917 (execRplqHeadWrite a0 a1) a1 := by
  intro a0 a1
  unfold execRplqHeadWrite
  repeat' (first | with_reducible exact Same.refl _ | with_reducible refine Same.ite ?_ ?_ | with_reducible refine within_done ?_ | with_reducible refine (writeRplqHead_same _ _).step rfl ?_ | intro _)

theorem execCmdqCtrlEnSet_same : ∀ a0 a1, Within 1174941990917 (execCmdqCtrlEnSet a0 a1) a1 := by
  intro a0 a1
  unfold execCmdqCtrlEnSet
  repeat' (first | with_reducible exact Same.refl _ | with_reducible refine Same.ite ?_ ?_ | with_reducible refine within_done ?_ | with_reducible refine (writeRingCtrl_same _ _ _).step rfl ?_ | intro _)

theorem execCmdqCtrlEnClear_same : ∀ a0 a1, Within 1174941990917 (execCmdqCtrlEnClear a0 a1) a1 := by
  intro a0 a1
  unfold execCmdqCtrlEnClear
  repeat' (first | with_reducible exact Same.refl _ | with_reducible refine Same.ite ?_ ?_ | with_reducible refine within_done ?_ | with_reducible refine (writeRingCtrl_same _ _ _).step rfl ?_ | intro _)

theorem execCntLowWordRead_same : ∀ a0 a1 a2, Within 1125281431552 (execCntLowWordRead a0 a1 a2) a2 := by
  intro a0 a1 a2
  unfold execCntLowWordRead
  repeat' (first | with_reducible exact Same.refl _ | with_reducible refine within_ite ?_ ?_ | with_reducible refine within_done ?_ | with_reducible refine (emit_same _ _).step rfl ?_ | with_reducible refine (readCnt_same _ _ _).step rfl ?_ | intro _ | split | (dsimp only; split))

theorem execRegisterWrite_same : ∀ a0 a1 a2 a3, Within 3547642986495 (execRegisterWrite a0 a1 a2 a3) a3 := by
  intro a0 a1 a2 a3
  unfold execRegisterWrite
  repeat' (first | with_reducible exact Same.refl _ | with_reducible refine Same.ite ?_ ?_ | with_reducible refine within_ite ?_ ?_ | with_reducible refine within_done ?_ | with_reducible refine (writeReg_same _ _ _ _).step rfl ?_ | intro _ | refine Same.snd (by assumption) ?_ | refine Same.fst (by assumption) ?_ | refine Same.snd2 (by assumption) ?_ | refine Same.snd3 (by assumption) ?_)

theorem mgpAnswer_same : ∀ a0 a1 a2, Within 1099511627776 (mgpAnswer a0 a1 a2) a2 := by
  intro a0 a1 a2
  unfold mgpAnswer
  repeat' (first | with_reducible exact Same.refl _ | with_reducible refine within_done ?_ | with_reducible refine (emit_same _ _).step rfl ?_ | intro _)

theorem execMgpRead32_same : ∀ a0 a1 a2, Within 1126371950592 (execMgpRead32 a0 a1 a2) a2 := by
  intro a0 a1 a2
  unfold execMgpRead32
  repeat' (first | with_reducible exact Same.refl _ | with_reducible refine within_ite ?_ ?_ | with_reducible refine within_done ?_ | with_reducible refine within_step (mgpAnswer_same _ _ _) rfl ?_ | with_reducible refine (readReg_same _ _ _).step rfl ?_ | intro _ | split | (dsimp only; split))

theorem execMgpWrite32_same : ∀ a0 a1 a2 a3, Within 3547642986495 (execMgpWrite32 a0 a1 a2 a3) a3 := by
  intro a0 a1 a2 a3
  unfold execMgpWrite32
  repeat' (first | with_reducible exact Same.refl _ | with_reducible refine Same.ite ?_ ?_ | with_reducible refine within_ite ?_ ?_ | with_reducible refine within_done ?_ | with_reducible refine within_step (mgpAnswer_same _ _ _) rfl ?_ | with_reducible refine (writeReg_same _ _ _ _).step rfl ?_ | intro _ | refine Same.snd (by assumption) ?_ | refine Same.fst (by assumption) ?_ | refine Same.snd2 (by assumption) ?_ | refine Same.snd3 (by assumption) ?_)

theorem mgpOddCount_same : ∀ a0, Within 3298534883328 (mgpOddCount a0) a0 := by
  intro a0
  unfold mgpOddCount
  repeat' (first | with_reducible exact Same.refl _ | with_reducible refine (drawFree_same _).step rfl ?_ | with_reducible refine within_step (mgpAnswer_same _ _ _) rfl ?_ | intro _ | split | (dsimp only; split))

theorem mgpReadWords_same : ∀ a0 a1, Same 26860322816 a1 (mgpReadWords a0 a1).2 := by
  intro a0 a1
  fun_induction mgpReadWords a0 a1
  all_goals repeat' (first | with_reducible exact Same.refl _ | refine Same.trans (by assumption) ?_ | with_reducible refine (readReg_same _ _ _).step rfl ?_ | intro _ | split | (dsimp only; split) | refine Same.snd (by assumption) ?_)

theorem execMgpReadBurst_same : ∀ a0 a1 a2 a3, Within 3325395206144 (execMgpReadBurst a0 a1 a2 a3) a3 := by
  intro a0 a1 a2 a3
  unfold execMgpReadBurst
  repeat' (first | with_reducible exact Same.refl _ | with_reducible refine within_ite ?_ ?_ | with_reducible refine within_done ?_ | with_reducible refine within_step (mgpAnswer_same _ _ _) rfl ?_ | with_reducible refine within_step (mgpOddCount_same _) rfl ?_ | with_reducible refine (mgpReadWords_same _ _).step rfl ?_ | intro _ | split | (dsimp only; split) | with_reducible refine Same.free rfl ?_)

theorem mailWrite_same : ∀ a0 a1 a2, Same 4 a2 (mailWrite a0 a1 a2) := by
  intro a0 a1 a2
  unfold mailWrite
  repeat' (first | with_reducible exact Same.refl _ | intro _ | with_reducible refine Same.cmd rfl ?_ | with_reducible refine Same.update rfl ?_ ?_ | exact Fits.mk (fun c h => by cases c <;> first | exact absurd h (by decide) | with_reducible exact rfl))

theorem mailSubmit_same : ∀ a0, Same 1174941990917 a0 (mailSubmit a0) := by
  intro a0
  unfold mailSubmit
  repeat' (first | with_reducible exact Same.refl _ | with_reducible refine (serve_same _).step rfl ?_ | intro _ | with_reducible refine Same.cmd rfl ?_ | with_reducible refine Same.update rfl ?_ ?_ | exact Fits.mk (fun c h => by cases c <;> first | exact absurd h (by decide) | with_reducible exact rfl))

theorem execMgpCmdPush_same : ∀ a0 a1 a2 a3 a4, Within 3373965246469 (execMgpCmdPush a0 a1 a2 a3 a4) a4 := by
  intro a0 a1 a2 a3 a4
  unfold execMgpCmdPush
  repeat' (first | with_reducible exact Same.refl _ | with_reducible refine Same.ite ?_ ?_ | with_reducible refine within_ite ?_ ?_ | with_reducible refine within_done ?_ | with_reducible refine (mailSubmit_same _).step rfl ?_ | with_reducible refine (mailWrite_same _ _ _).step rfl ?_ | with_reducible refine within_step (mgpAnswer_same _ _ _) rfl ?_ | with_reducible refine within_step (mgpOddCount_same _) rfl ?_ | intro _ | with_reducible refine Same.free rfl ?_)

theorem execMgpCmdPop_same : ∀ a0 a1 a2 a3, Within 3298534883328 (execMgpCmdPop a0 a1 a2 a3) a3 := by
  intro a0 a1 a2 a3
  unfold execMgpCmdPop
  repeat' (first | with_reducible exact Same.refl _ | with_reducible refine within_ite ?_ ?_ | with_reducible refine within_done ?_ | with_reducible refine within_step (mgpAnswer_same _ _ _) rfl ?_ | with_reducible refine within_step (mgpOddCount_same _) rfl ?_ | intro _ | split | (dsimp only; split) | with_reducible refine Same.free rfl ?_)

end Sys2Proof.Machine
end

