-- ==== Sys2Proof/Laws/Maps.lean ====
section
/-! SUPPORT. Maps: a read after a write, the entries a write leaves alone, and that writes keep the keys strictly rising. -/

namespace Sys2Proof.Machine

@[simp] theorem mget_mput_same {α : Type} (m : Map α) (n : Nat) (a : α) : mget (mput m n a) n = some a := by
  induction m with
  | nil => simp [mput, mget]
  | cons e m ih =>
    obtain ⟨k, v⟩ := e
    unfold mput
    split
    · simp [mget]
    split
    · simp [mget]
    · next h => simp only [mget]; rw [if_neg (fun x => h x.symm)]; exact ih

@[simp] theorem mget_mput_other {α : Type} (m : Map α) {n k : Nat} (a : α) (h : k ≠ n) : mget (mput m n a) k = mget m k := by
  induction m with
  | nil => simp [mput, mget]; omega
  | cons e m ih =>
    obtain ⟨i, v⟩ := e
    unfold mput
    split
    · simp only [mget]; rw [if_neg (fun x => h x.symm)]
    split
    · next h2 => subst h2; simp only [mget]; rw [if_neg (fun x => h x.symm), if_neg (fun x => h x.symm)]
    · simp only [mget, ih]

theorem mgetD_mput_same {α : Type} (m : Map α) (n : Nat) (a d : α) : mgetD (mput m n a) n d = a := by simp [mgetD]

theorem mgetD_mput_other {α : Type} (m : Map α) {n k : Nat} (a d : α) (h : k ≠ n) : mgetD (mput m n a) k d = mgetD m k d := by
  simp [mgetD, h]

/-- A write keeps the canonical form. -/
theorem msorted_mput {α : Type} (m : Map α) (n : Nat) (a : α) (h : msorted m = true) : msorted (mput m n a) = true := by
  induction m with
  | nil => rfl
  | cons e m ih =>
    obtain ⟨k, v⟩ := e
    unfold mput
    split
    · next h1 => simp [msorted, h1, h]
    split
    · next h2 =>
      subst h2
      cases m with
      | nil => rfl
      | cons f m => obtain ⟨k2, v2⟩ := f; simpa [msorted] using h
    · next h1 h2 =>
      cases m with
      | nil => simp [mput, msorted]; omega
      | cons f m =>
        obtain ⟨k2, v2⟩ := f
        simp only [msorted, Bool.and_eq_true, decide_eq_true_eq] at h
        have i := ih h.2
        unfold mput at i ⊢
        split
        · next h3 => rw [if_pos h3] at i; simp only [msorted, Bool.and_eq_true, decide_eq_true_eq] at i ⊢; exact ⟨by omega, i⟩
        split
        · next h3 h4 => rw [if_neg h3, if_pos h4] at i; simp only [msorted, Bool.and_eq_true, decide_eq_true_eq]; exact ⟨by omega, i⟩
        · next h3 h4 => rw [if_neg h3, if_neg h4] at i; simp only [msorted, Bool.and_eq_true, decide_eq_true_eq]; exact ⟨h.1, i⟩

@[simp] theorem mget_mdel_same {α : Type} (m : Map α) (n : Nat) : mget (mdel m n) n = none := by
  induction m with
  | nil => rfl
  | cons e m ih =>
    obtain ⟨k, v⟩ := e
    unfold mdel at ih ⊢
    rw [List.filter_cons]
    split
    · next h => simp only [mget]; rw [if_neg (by simpa using h)]; exact ih
    · exact ih

theorem mget_mdel_other {α : Type} (m : Map α) {n k : Nat} (h : k ≠ n) : mget (mdel m n) k = mget m k := by
  induction m with
  | nil => rfl
  | cons e m ih =>
    obtain ⟨i, v⟩ := e
    unfold mdel at ih ⊢
    rw [List.filter_cons]
    split
    · simp only [mget, ih]
    · next h2 => simp only [mget]; rw [if_neg (by simp at h2; omega)]; exact ih

/-- A map read at a key after a change of every entry. -/
theorem mget_mmap {α β : Type} (m : Map α) (f : Nat → α → β) (n : Nat) : mget (mmap m f) n = (mget m n).map (f n) := by
  induction m with
  | nil => rfl
  | cons e m ih =>
    obtain ⟨k, v⟩ := e
    simp only [mmap, List.map_cons, mget]
    split
    · next h => subst h; rfl
    · exact ih

end Sys2Proof.Machine
end

