-- ==== Sys2Proof/Laws/Spine.lean ====
section
/-! SUPPORT. The part of the state that commands leave alone, and how the proofs that they do go together. -/

namespace Sys2Proof.Machine

/-- The waiting commands, PSTATE, MAIN_UP, the early warning and MOD_READY: what only the queue and the power events move. -/
def State.spine (s : State) : List Instr × PState × Bool × Bool × Bool := (s.pending, s.pwr.ps, s.pwr.mainUp, s.pwr.pwrFail, s.pins.modReady)
/-- An outcome is a next state, and one that keeps the spine. -/
structure Keeps (o : Host.Outcome State Fault Refusal) (s : State) : Prop where
  ends : ∃ t, o = .next t
  next : ∀ t, o = .next t → t.spine = s.spine
theorem keeps_done {x s : State} (h : x.spine = s.spine) : Keeps (done x) s :=
  ⟨⟨x, rfl⟩, fun t ht => by cases ht; exact h⟩
theorem keeps_ite {c : Prop} [Decidable c] {a b : Host.Outcome State Fault Refusal} {s : State} (ha : c → Keeps a s) (hb : ¬c → Keeps b s) :
    Keeps (if c then a else b) s := by split <;> simp_all
theorem keeps_trans {o} {s s0 : State} (h : Keeps o s0) (h0 : s0.spine = s.spine) : Keeps o s := ⟨h.ends, fun t ht => (h.next t ht).trans h0⟩
theorem spine_ite {c : Prop} [Decidable c] {a b s : State} (ha : c → a.spine = s.spine) (hb : ¬c → b.spine = s.spine) :
    (if c then a else b).spine = s.spine := by split <;> simp_all
theorem spine_mk {s s' : State} {glb' pins' cmd' tb' refBus' phases' phaseNext' bank0' bank1' active' streams' filters' mst' disp' dets' schs' pubs' outRuns' vchs' flows' caps' oqs' iqs' dmaPtr' ports' txWait' wake' gh' cas' rtc' rcd' cnt' cntHost' cntMgp' pwr' nor' tapIr' emitted' free'}
    (h1 : pwr'.ps = s'.pwr.ps) (h2 : pwr'.mainUp = s'.pwr.mainUp) (h4 : pwr'.pwrFail = s'.pwr.pwrFail) (h3 : pins'.modReady = s'.pins.modReady) (h : s'.spine = s.spine) :
    (State.mk glb' pins' cmd' tb' refBus' phases' phaseNext' bank0' bank1' active' streams' filters' mst' disp' dets' schs' pubs' outRuns' vchs' flows' caps' oqs' iqs' dmaPtr' ports' txWait' wake' gh' cas' rtc' rcd' cnt' cntHost' cntMgp' pwr' nor' tapIr' s'.pending emitted' free').spine = s.spine := by
  rw [← h]; simp [State.spine, h1, h2, h3, h4]
theorem spine_snd {α : Type} {x : α × State} {r : α} {t s : State} (e : x = (r, t)) (h : x.2.spine = s.spine) : t.spine = s.spine := by
  subst e; exact h
theorem spine_fst {α : Type} {x : State × α} {r : α} {t s : State} (e : x = (t, r)) (h : x.1.spine = s.spine) : t.spine = s.spine := by
  subst e; exact h
theorem spine_snd2 {α β : Type} {x : α × β × State} {r : α} {q : β} {t s : State} (e : x = (r, q, t)) (h : x.2.2.spine = s.spine) : t.spine = s.spine := by
  subst e; exact h
theorem spine_snd3 {α β : Type} {x : (α × β) × State} {r : α} {q : β} {t s : State} (e : x = ((r, q), t)) (h : x.2.spine = s.spine) : t.spine = s.spine := by
  subst e; exact h
theorem spine_ite_snd {α : Type} {c : Prop} [Decidable c] {a b : α × State} {s : State} (ha : c → a.2.spine = s.spine) (hb : ¬c → b.2.spine = s.spine) :
    (if c then a else b).2.spine = s.spine := by split <;> simp_all
theorem spine_ite_fst {α : Type} {c : Prop} [Decidable c] {a b : State × α} {s : State} (ha : c → a.1.spine = s.spine) (hb : ¬c → b.1.spine = s.spine) :
    (if c then a else b).1.spine = s.spine := by split <;> simp_all
theorem foldl_spine {α : Type} {f : State → α → State} {s0 s : State} {l : List α} (h : ∀ s a, (f s a).spine = s.spine) (h0 : s0.spine = s.spine) : (l.foldl f s0).spine = s.spine := by
  induction l generalizing s0 with
  | nil => exact h0
  | cons x xs ih => exact ih ((h s0 x).trans h0)
theorem foldl_spine2 {α β : Type} {f : β × State → α → β × State} {s0 : β × State} {s : State} {l : List α} (h : ∀ s a, (f s a).2.spine = s.2.spine) (h0 : s0.2.spine = s.spine) : (l.foldl f s0).2.spine = s.spine := by
  induction l generalizing s0 with
  | nil => exact h0
  | cons x xs ih => exact ih ((h s0 x).trans h0)
theorem foldl_spine1 {α β : Type} {f : State × β → α → State × β} {s0 : State × β} {s : State} {l : List α} (h : ∀ s a, (f s a).1.spine = s.1.spine) (h0 : s0.1.spine = s.spine) : (l.foldl f s0).1.spine = s.spine := by
  induction l generalizing s0 with
  | nil => exact h0
  | cons x xs ih => exact ih ((h s0 x).trans h0)
theorem foldl_spine3 {α β γ : Type} {f : β × γ × State → α → β × γ × State} {s0 : β × γ × State} {s : State} {l : List α} (h : ∀ s a, (f s a).2.2.spine = s.2.2.spine) (h0 : s0.2.2.spine = s.spine) : (l.foldl f s0).2.2.spine = s.spine := by
  induction l generalizing s0 with
  | nil => exact h0
  | cons x xs ih => exact ih ((h s0 x).trans h0)

end Sys2Proof.Machine
end

