-- ==== Sys2Proof/Laws/SpineOps.lean ====
section
/-! SUPPORT. What each definition of Machine/Ops leaves as it was: the waiting commands, the power state and its rails
(`State.spine`). -/

namespace Sys2Proof.Machine

theorem drawFree_spine : ∀ a0, (drawFree a0).2.spine = a0.spine := by
  intro a0
  unfold drawFree
  repeat' (first | with_reducible rfl | intro _ | with_reducible refine spine_mk rfl rfl rfl rfl ?_)

theorem emit_spine : ∀ a0 a1, (emit a0 a1).spine = a1.spine := by
  intro a0 a1
  unfold emit
  repeat' (first | with_reducible rfl | intro _ | with_reducible refine spine_mk rfl rfl rfl rfl ?_)

theorem countBy_spine : ∀ a0 a1 a2, (countBy a0 a1 a2).spine = a2.spine := by
  intro a0 a1 a2
  unfold countBy
  repeat' (first | with_reducible rfl | intro _ | with_reducible refine spine_mk rfl rfl rfl rfl ?_)

theorem count_spine : ∀ a0 a1, (count a0 a1).spine = a1.spine := by
  intro a0 a1
  unfold count
  repeat' (first | with_reducible rfl | with_reducible refine (countBy_spine _ _ _).trans ?_ | intro _)

theorem setPort_spine : ∀ a0 a1 a2, (setPort a0 a1 a2).spine = a2.spine := by
  intro a0 a1 a2
  unfold setPort
  repeat' (first | with_reducible rfl | intro _ | with_reducible refine spine_mk rfl rfl rfl rfl ?_)

theorem countPort_spine : ∀ a0 a1 a2, (countPort a0 a1 a2).spine = a2.spine := by
  intro a0 a1 a2
  unfold countPort
  repeat' (first | with_reducible rfl | with_reducible refine (count_spine _ _).trans ?_ | with_reducible refine (setPort_spine _ _ _).trans ?_ | intro _)

theorem elapse_spine : ∀ a0 a1, (elapse a0 a1).spine = a1.spine := by
  intro a0 a1
  unfold elapse
  repeat' (first | with_reducible rfl | intro _ | with_reducible refine spine_mk rfl rfl rfl rfl ?_)

theorem advanceTo_spine : ∀ a0 a1, (advanceTo a0 a1).spine = a1.spine := by
  intro a0 a1
  unfold advanceTo
  repeat' (first | with_reducible rfl | with_reducible refine (elapse_spine _ _).trans ?_ | intro _)

theorem raiseVector_spine : ∀ a0 a1, (raiseVector a0 a1).spine = a1.spine := by
  intro a0 a1
  unfold raiseVector
  repeat' (first | with_reducible rfl | with_reducible refine spine_ite ?_ ?_ | with_reducible refine (emit_spine _ _).trans ?_ | intro _ | with_reducible refine spine_mk rfl rfl rfl rfl ?_)

theorem setIrq_spine : ∀ a0 a1, (setIrq a0 a1).spine = a1.spine := by
  intro a0 a1
  unfold setIrq
  repeat' (first | with_reducible rfl | with_reducible refine spine_ite ?_ ?_ | with_reducible refine (raiseVector_spine _ _).trans ?_ | intro _ | with_reducible refine spine_mk rfl rfl rfl rfl ?_)

theorem setAlert_spine : ∀ a0 a1, (setAlert a0 a1).spine = a1.spine := by
  intro a0 a1
  unfold setAlert
  repeat' (first | with_reducible rfl | intro _ | with_reducible refine spine_mk rfl rfl rfl rfl ?_)

theorem setCasIrq_spine : ∀ a0 a1, (setCasIrq a0 a1).spine = a1.spine := by
  intro a0 a1
  unfold setCasIrq
  repeat' (first | with_reducible rfl | with_reducible refine (raiseVector_spine _ _).trans ?_ | intro _ | with_reducible refine spine_mk rfl rfl rfl rfl ?_)

theorem setActive_spine : ∀ a0 a1, (setActive a0 a1).spine = a1.spine := by
  intro a0 a1
  unfold setActive
  repeat' (first | with_reducible rfl | with_reducible refine spine_ite ?_ ?_ | intro _ | with_reducible refine spine_mk rfl rfl rfl rfl ?_)

theorem setInactive_spine : ∀ a0 a1, (setInactive a0 a1).spine = a1.spine := by
  intro a0 a1
  unfold setInactive
  repeat' (first | with_reducible rfl | with_reducible refine spine_ite ?_ ?_ | intro _ | with_reducible refine spine_mk rfl rfl rfl rfl ?_)

theorem recDiscard_spine : ∀ a0 a1, (recDiscard a0 a1).spine = a1.spine := by
  intro a0 a1
  unfold recDiscard
  repeat' (first | with_reducible rfl | with_reducible refine (raiseVector_spine _ _).trans ?_ | intro _ | with_reducible refine spine_mk rfl rfl rfl rfl ?_)

theorem recStage_spine : ∀ a0 a1, (recStage a0 a1).spine = a1.spine := by
  intro a0 a1
  unfold recStage
  repeat' (first | with_reducible rfl | with_reducible refine spine_ite ?_ ?_ | with_reducible refine (raiseVector_spine _ _).trans ?_ | with_reducible refine (recDiscard_spine _ _).trans ?_ | intro _ | with_reducible refine spine_mk rfl rfl rfl rfl ?_)

theorem recAdd_spine : ∀ a0 a1 a2 a3 a4 a5 a6 a7 a8 a9, (recAdd a0 a1 a2 a3 a4 a5 a6 a7 a8 a9).spine = a9.spine := by
  intro a0 a1 a2 a3 a4 a5 a6 a7 a8 a9
  unfold recAdd
  repeat' (first | with_reducible rfl | with_reducible refine (recStage_spine _ _).trans ?_ | intro _ | split | (dsimp only; split))

theorem noteI_spine : ∀ a0 a1 a2 a3 a4 a5 a6 a7, (noteI a0 a1 a2 a3 a4 a5 a6 a7).spine = a7.spine := by
  intro a0 a1 a2 a3 a4 a5 a6 a7
  unfold noteI
  repeat' (first | with_reducible rfl | with_reducible refine (recAdd_spine _ _ _ _ _ _ _ _ _ _).trans ?_ | intro _)

theorem note_spine : ∀ a0 a1 a2 a3 a4 a5 a6, (note a0 a1 a2 a3 a4 a5 a6).spine = a6.spine := by
  intro a0 a1 a2 a3 a4 a5 a6
  unfold note
  repeat' (first | with_reducible rfl | with_reducible refine (noteI_spine _ _ _ _ _ _ _ _).trans ?_ | intro _)

theorem recSummary_spine : ∀ a0, (recSummary a0).spine = a0.spine := by
  intro a0
  unfold recSummary
  repeat' (first | with_reducible rfl | with_reducible refine spine_ite ?_ ?_ | with_reducible refine (recAdd_spine _ _ _ _ _ _ _ _ _ _).trans ?_ | intro _ | split | (dsimp only; split) | with_reducible refine spine_mk rfl rfl rfl rfl ?_)

theorem putHostReply_spine : ∀ a0 a1 a2, (putHostReply a0 a1 a2).spine = a2.spine := by
  intro a0 a1 a2
  unfold putHostReply
  repeat' (first | with_reducible rfl | with_reducible refine spine_ite ?_ ?_ | with_reducible refine (emit_spine _ _).trans ?_ | with_reducible refine (raiseVector_spine _ _).trans ?_ | with_reducible refine (setIrq_spine _ _).trans ?_ | intro _ | with_reducible refine spine_mk rfl rfl rfl rfl ?_)

theorem holdReply_spine : ∀ a0 a1 a2, (holdReply a0 a1 a2).spine = a2.spine := by
  intro a0 a1 a2
  unfold holdReply
  repeat' (first | with_reducible rfl | intro _ | with_reducible refine spine_mk rfl rfl rfl rfl ?_)

theorem postReply_spine : ∀ a0 a1 a2, (postReply a0 a1 a2).spine = a2.spine := by
  intro a0 a1 a2
  unfold postReply
  repeat' (first | with_reducible rfl | with_reducible refine spine_ite ?_ ?_ | with_reducible refine (emit_spine _ _).trans ?_ | with_reducible refine (holdReply_spine _ _ _).trans ?_ | with_reducible refine (putHostReply_spine _ _ _).trans ?_ | with_reducible refine (setAlert_spine _ _).trans ?_ | intro _ | split | (dsimp only; split) | with_reducible refine spine_mk rfl rfl rfl rfl ?_)

theorem finalReply_spine : ∀ a0 a1 a2, (finalReply a0 a1 a2).spine = a2.spine := by
  intro a0 a1 a2
  unfold finalReply
  repeat' (first | with_reducible rfl | with_reducible refine (postReply_spine _ _ _).trans ?_ | intro _)

theorem storeReply_spine : ∀ a0 a1, (storeReply a0 a1).spine = a1.spine := by
  intro a0 a1
  unfold storeReply
  repeat' (first | with_reducible rfl | intro _ | split | (dsimp only; split) | with_reducible refine spine_mk rfl rfl rfl rfl ?_)

theorem closeCommand_spine : ∀ a0 a1 a2 a3 a4 a5 a6 a7, (closeCommand a0 a1 a2 a3 a4 a5 a6 a7).spine = a7.spine := by
  intro a0 a1 a2 a3 a4 a5 a6 a7
  unfold closeCommand
  repeat' (first | with_reducible rfl | with_reducible refine spine_ite ?_ ?_ | with_reducible refine (count_spine _ _).trans ?_ | with_reducible refine (postReply_spine _ _ _).trans ?_ | with_reducible refine (recAdd_spine _ _ _ _ _ _ _ _ _ _).trans ?_ | with_reducible refine (storeReply_spine _ _).trans ?_ | intro _ | split | (dsimp only; split))

theorem drainReplies_spine : ∀ a0, (drainReplies a0).spine = a0.spine := by
  intro a0
  unfold drainReplies
  repeat' (first | with_reducible rfl | with_reducible refine (postReply_spine _ _ _).trans ?_ | with_reducible refine foldl_spine ?_ ?_ | intro _ | with_reducible refine spine_mk rfl rfl rfl rfl ?_)

end Sys2Proof.Machine
end

