-- ==== Sys2Proof/Laws/SpineFlags.lean ====
section
/-! SUPPORT. What each definition of Machine/Flags leaves as it was: the waiting commands, the power state and its rails
(`State.spine`). -/

namespace Sys2Proof.Machine

theorem useRefused_spine : ∀ a0, (useRefused a0).spine = a0.spine := by
  intro a0
  unfold useRefused
  repeat' (first | with_reducible rfl | with_reducible refine (count_spine _ _).trans ?_ | intro _)

end Sys2Proof.Machine
end

