-- ==== Sys2Proof/Laws/SpineTrace.lean ====
section
/-! SUPPORT. What each definition of Machine/Trace leaves as it was: the waiting commands, the power state and its rails
(`State.spine`). -/

namespace Sys2Proof.Machine

theorem tracePut_spine : ∀ a0 a1 a2, (tracePut a0 a1 a2).spine = a2.spine := by
  intro a0 a1 a2
  unfold tracePut
  repeat' (first | with_reducible rfl | with_reducible refine spine_ite ?_ ?_ | with_reducible refine (emit_spine _ _).trans ?_ | intro _ | with_reducible refine spine_mk rfl rfl rfl rfl ?_)

theorem traceMsg_spine : ∀ a0 a1 a2, (traceMsg a0 a1 a2).spine = a2.spine := by
  intro a0 a1 a2
  unfold traceMsg
  repeat' (first | with_reducible rfl | with_reducible refine spine_ite ?_ ?_ | with_reducible refine (tracePut_spine _ _ _).trans ?_ | intro _)

theorem traceSecond_spine : ∀ a0, (traceSecond a0).spine = a0.spine := by
  intro a0
  unfold traceSecond
  repeat' (first | with_reducible rfl | with_reducible refine (tracePut_spine _ _ _).trans ?_ | intro _)

theorem traceDispatch_spine : ∀ a0 a1 a2 a3 a4, (traceDispatch a0 a1 a2 a3 a4).spine = a4.spine := by
  intro a0 a1 a2 a3 a4
  unfold traceDispatch
  repeat' (first | with_reducible rfl | with_reducible refine spine_ite ?_ ?_ | with_reducible refine (traceMsg_spine _ _ _).trans ?_ | intro _)

theorem traceMatch_spine : ∀ a0 a1 a2 a3 a4, (traceMatch a0 a1 a2 a3 a4).spine = a4.spine := by
  intro a0 a1 a2 a3 a4
  unfold traceMatch
  repeat' (first | with_reducible rfl | with_reducible refine spine_ite ?_ ?_ | with_reducible refine (traceMsg_spine _ _ _).trans ?_ | intro _)

theorem traceDeadline_spine : ∀ a0 a1 a2, (traceDeadline a0 a1 a2).spine = a2.spine := by
  intro a0 a1 a2
  unfold traceDeadline
  repeat' (first | with_reducible rfl | with_reducible refine spine_ite ?_ ?_ | with_reducible refine (traceMsg_spine _ _ _).trans ?_ | intro _)

theorem traceCommit_spine : ∀ a0 a1 a2, (traceCommit a0 a1 a2).spine = a2.spine := by
  intro a0 a1 a2
  unfold traceCommit
  repeat' (first | with_reducible rfl | with_reducible refine (traceMsg_spine _ _ _).trans ?_ | intro _)

theorem traceOverrun_spine : ∀ a0 a1 a2 a3 a4, (traceOverrun a0 a1 a2 a3 a4).spine = a4.spine := by
  intro a0 a1 a2 a3 a4
  unfold traceOverrun
  repeat' (first | with_reducible rfl | with_reducible refine spine_ite ?_ ?_ | with_reducible refine (traceMsg_spine _ _ _).trans ?_ | intro _)

end Sys2Proof.Machine
end

