-- ==== Sys2Proof/Laws/SpineTransmit.lean ====
section
/-! SUPPORT. What each definition of Machine/Transmit leaves as it was: the waiting commands, the power state and its rails
(`State.spine`). -/

namespace Sys2Proof.Machine

theorem netIrq_spine : ∀ a0 a1 a2, (netIrq a0 a1 a2).spine = a2.spine := by
  intro a0 a1 a2
  unfold netIrq
  repeat' (first | with_reducible rfl | with_reducible refine (raiseVector_spine _ _).trans ?_ | with_reducible refine (setPort_spine _ _ _).trans ?_ | intro _)

theorem egressStamp_spine : ∀ a0 a1 a2 a3, (egressStamp a0 a1 a2 a3).spine = a3.spine := by
  intro a0 a1 a2 a3
  unfold egressStamp
  repeat' (first | with_reducible rfl | with_reducible refine spine_ite ?_ ?_ | with_reducible refine (countPort_spine _ _ _).trans ?_ | with_reducible refine (netIrq_spine _ _ _).trans ?_ | with_reducible refine (setPort_spine _ _ _).trans ?_ | intro _)

theorem txLeaves_spine : ∀ a0 a1 a2, (txLeaves a0 a1 a2).spine = a2.spine := by
  intro a0 a1 a2
  unfold txLeaves
  repeat' (first | with_reducible rfl | with_reducible refine (countPort_spine _ _ _).trans ?_ | with_reducible refine (egressStamp_spine _ _ _ _).trans ?_ | with_reducible refine (emit_spine _ _).trans ?_ | intro _ | split | (dsimp only; split) | with_reducible refine spine_mk rfl rfl rfl rfl ?_)

theorem txDrain_spine : ∀ a0 a1, (txDrain a0 a1).spine = a1.spine := by
  intro a0 a1
  unfold txDrain
  repeat' (first | with_reducible rfl | with_reducible refine spine_ite ?_ ?_ | with_reducible refine (txLeaves_spine _ _ _).trans ?_ | with_reducible refine foldl_spine ?_ ?_ | intro _ | with_reducible refine spine_mk rfl rfl rfl rfl ?_)

theorem txFrame_spine : ∀ a0 a1 a2 a3, (txFrame a0 a1 a2 a3).spine = a3.spine := by
  intro a0 a1 a2 a3
  unfold txFrame
  repeat' (first | with_reducible rfl | with_reducible refine spine_ite ?_ ?_ | with_reducible refine (countPort_spine _ _ _).trans ?_ | with_reducible refine (txDrain_spine _ _).trans ?_ | with_reducible refine (txLeaves_spine _ _ _).trans ?_ | intro _ | with_reducible refine spine_mk rfl rfl rfl rfl ?_)

theorem txOwn_spine : ∀ a0 a1 a2 a3 a4, (txOwn a0 a1 a2 a3 a4).spine = a4.spine := by
  intro a0 a1 a2 a3 a4
  unfold txOwn
  repeat' (first | with_reducible rfl | with_reducible refine (txFrame_spine _ _ _ _).trans ?_ | intro _)

end Sys2Proof.Machine
end

