-- ==== Sys2Proof/Laws/SpineTimeBase.lean ====
section
/-! SUPPORT. What each definition of Machine/TimeBase leaves as it was: the waiting commands, the power state and its rails
(`State.spine`). -/

namespace Sys2Proof.Machine

theorem noteTime_spine : ∀ a0 a1 a2, (noteTime a0 a1 a2).spine = a2.spine := by
  intro a0 a1 a2
  unfold noteTime
  repeat' (first | with_reducible rfl | with_reducible refine (note_spine _ _ _ _ _ _ _).trans ?_ | intro _)

theorem slewBy_spine : ∀ a0 a1, (slewBy a0 a1).spine = a1.spine := by
  intro a0 a1
  unfold slewBy
  repeat' (first | with_reducible rfl | with_reducible refine (drawFree_spine _).trans ?_ | intro _ | split | (dsimp only; split) | refine spine_snd (by assumption) ?_ | with_reducible refine spine_mk rfl rfl rfl rfl ?_)

theorem tbStep_spine : ∀ a0 a1, (tbStep a0 a1).spine = a1.spine := by
  intro a0 a1
  unfold tbStep
  repeat' (first | with_reducible rfl | with_reducible refine (count_spine _ _).trans ?_ | with_reducible refine (noteTime_spine _ _ _).trans ?_ | intro _ | with_reducible refine spine_mk rfl rfl rfl rfl ?_)

theorem enterHoldover_spine : ∀ a0, (enterHoldover a0).spine = a0.spine := by
  intro a0
  unfold enterHoldover
  repeat' (first | with_reducible rfl | with_reducible refine (noteTime_spine _ _ _).trans ?_ | with_reducible refine (raiseVector_spine _ _).trans ?_ | with_reducible refine (setIrq_spine _ _).trans ?_ | intro _ | with_reducible refine spine_mk rfl rfl rfl rfl ?_)

theorem stepWaits_spine : ∀ a0 a1, (stepWaits a0 a1).spine = a1.spine := by
  intro a0 a1
  unfold stepWaits
  repeat' (first | with_reducible rfl | with_reducible refine spine_ite ?_ ?_ | with_reducible refine (enterHoldover_spine _).trans ?_ | with_reducible refine (noteTime_spine _ _ _).trans ?_ | with_reducible refine (raiseVector_spine _ _).trans ?_ | intro _ | with_reducible refine spine_mk rfl rfl rfl rfl ?_)

theorem correct_spine : ∀ a0 a1, (correct a0 a1).spine = a1.spine := by
  intro a0 a1
  unfold correct
  repeat' (first | with_reducible rfl | with_reducible refine spine_ite ?_ ?_ | with_reducible refine (slewBy_spine _ _).trans ?_ | with_reducible refine (stepWaits_spine _ _).trans ?_ | with_reducible refine (tbStep_spine _ _).trans ?_ | intro _ | with_reducible refine spine_mk rfl rfl rfl rfl ?_)

theorem measured_spine : ∀ a0 a1, (measured a0 a1).spine = a1.spine := by
  intro a0 a1
  unfold measured
  repeat' (first | with_reducible rfl | with_reducible refine (correct_spine _ _).trans ?_ | intro _ | with_reducible refine spine_mk rfl rfl rfl rfl ?_)

theorem enterLocked_spine : ∀ a0, (enterLocked a0).spine = a0.spine := by
  intro a0
  unfold enterLocked
  repeat' (first | with_reducible rfl | with_reducible refine (noteTime_spine _ _ _).trans ?_ | with_reducible refine (raiseVector_spine _ _).trans ?_ | intro _ | with_reducible refine spine_mk rfl rfl rfl rfl ?_)

theorem utcInForce_spine : ∀ a0 a1 a2 a3 a4, (utcInForce a0 a1 a2 a3 a4).spine = a4.spine := by
  intro a0 a1 a2 a3 a4
  unfold utcInForce
  repeat' (first | with_reducible rfl | intro _ | with_reducible refine spine_mk rfl rfl rfl rfl ?_)

theorem execLeapSetEffect_spine : ∀ a0, Keeps (execLeapSetEffect a0) a0 := by
  intro a0
  unfold execLeapSetEffect
  repeat' (first | with_reducible rfl | with_reducible refine keeps_ite ?_ ?_ | with_reducible refine keeps_done ?_ | with_reducible refine (advanceTo_spine _ _).trans ?_ | with_reducible refine (utcInForce_spine _ _ _ _ _).trans ?_ | intro _ | with_reducible refine spine_mk rfl rfl rfl rfl ?_)

theorem rtcLeapAdd_spine : ∀ a0 a1 a2, (rtcLeapAdd a0 a1 a2).spine = a2.spine := by
  intro a0 a1 a2
  unfold rtcLeapAdd
  repeat' (first | with_reducible rfl | with_reducible refine spine_ite ?_ ?_ | with_reducible refine (note_spine _ _ _ _ _ _ _).trans ?_ | intro _ | with_reducible refine spine_mk rfl rfl rfl rfl ?_)

theorem execLeapApplied_spine : ∀ a0, Keeps (execLeapApplied a0) a0 := by
  intro a0
  unfold execLeapApplied
  repeat' (first | with_reducible rfl | with_reducible refine keeps_done ?_ | with_reducible refine (advanceTo_spine _ _).trans ?_ | with_reducible refine (raiseVector_spine _ _).trans ?_ | with_reducible refine (rtcLeapAdd_spine _ _ _).trans ?_ | intro _ | split | (dsimp only; split) | with_reducible refine spine_mk rfl rfl rfl rfl ?_)

theorem selectMaster_spine : ∀ a0, (selectMaster a0).spine = a0.spine := by
  intro a0
  unfold selectMaster
  repeat' (first | with_reducible rfl | intro _ | split | (dsimp only; split) | with_reducible refine spine_mk rfl rfl rfl rfl ?_)

theorem announceUtc_spine : ∀ a0 a1, (announceUtc a0 a1).spine = a1.spine := by
  intro a0 a1
  unfold announceUtc
  repeat' (first | with_reducible rfl | with_reducible refine spine_ite ?_ ?_ | with_reducible refine (utcInForce_spine _ _ _ _ _).trans ?_ | intro _ | with_reducible refine spine_mk rfl rfl rfl rfl ?_)

theorem execPtpAnnounceReceived_spine : ∀ a0 a1 a2 a3, Keeps (execPtpAnnounceReceived a0 a1 a2 a3) a3 := by
  intro a0 a1 a2 a3
  unfold execPtpAnnounceReceived
  repeat' (first | with_reducible rfl | with_reducible refine spine_ite ?_ ?_ | with_reducible refine keeps_ite ?_ ?_ | with_reducible refine keeps_done ?_ | with_reducible refine (advanceTo_spine _ _).trans ?_ | with_reducible refine (announceUtc_spine _ _).trans ?_ | with_reducible refine (countPort_spine _ _ _).trans ?_ | with_reducible refine (selectMaster_spine _).trans ?_ | intro _ | split | (dsimp only; split) | with_reducible refine spine_mk rfl rfl rfl rfl ?_)

theorem execAnnounceReceiptTimeout_spine : ∀ a0 a1, Keeps (execAnnounceReceiptTimeout a0 a1) a1 := by
  intro a0 a1
  unfold execAnnounceReceiptTimeout
  repeat' (first | with_reducible rfl | with_reducible refine keeps_done ?_ | with_reducible refine (advanceTo_spine _ _).trans ?_ | with_reducible refine (announceUtc_spine _ _).trans ?_ | with_reducible refine (selectMaster_spine _).trans ?_ | intro _ | split | (dsimp only; split) | with_reducible refine spine_mk rfl rfl rfl rfl ?_)

theorem execPtpSyncReceived_spine : ∀ a0 a1 a2 a3, Keeps (execPtpSyncReceived a0 a1 a2 a3) a3 := by
  intro a0 a1 a2 a3
  unfold execPtpSyncReceived
  repeat' (first | with_reducible rfl | with_reducible refine keeps_ite ?_ ?_ | with_reducible refine keeps_done ?_ | with_reducible refine (advanceTo_spine _ _).trans ?_ | with_reducible refine (countPort_spine _ _ _).trans ?_ | with_reducible refine (measured_spine _ _).trans ?_ | intro _ | split | (dsimp only; split) | with_reducible refine spine_mk rfl rfl rfl rfl ?_)

theorem execPtpPdelayReqReceived_spine : ∀ a0 a1 a2 a3 a4, Keeps (execPtpPdelayReqReceived a0 a1 a2 a3 a4) a4 := by
  intro a0 a1 a2 a3 a4
  unfold execPtpPdelayReqReceived
  repeat' (first | with_reducible rfl | with_reducible refine keeps_ite ?_ ?_ | with_reducible refine keeps_done ?_ | with_reducible refine (advanceTo_spine _ _).trans ?_ | with_reducible refine (countPort_spine _ _ _).trans ?_ | with_reducible refine (txOwn_spine _ _ _ _ _).trans ?_ | intro _)

theorem execPtpPdelayReqSend_spine : ∀ a0 a1, Keeps (execPtpPdelayReqSend a0 a1) a1 := by
  intro a0 a1
  unfold execPtpPdelayReqSend
  repeat' (first | with_reducible rfl | with_reducible refine keeps_ite ?_ ?_ | with_reducible refine keeps_done ?_ | with_reducible refine (advanceTo_spine _ _).trans ?_ | with_reducible refine (txOwn_spine _ _ _ _ _).trans ?_ | intro _ | split | (dsimp only; split) | with_reducible refine spine_mk rfl rfl rfl rfl ?_)

theorem execPtpPdelayRespReceived_spine : ∀ a0 a1 a2 a3, Keeps (execPtpPdelayRespReceived a0 a1 a2 a3) a3 := by
  intro a0 a1 a2 a3
  unfold execPtpPdelayRespReceived
  repeat' (first | with_reducible rfl | with_reducible refine keeps_ite ?_ ?_ | with_reducible refine keeps_done ?_ | with_reducible refine (advanceTo_spine _ _).trans ?_ | with_reducible refine (countPort_spine _ _ _).trans ?_ | intro _ | split | (dsimp only; split) | with_reducible refine spine_mk rfl rfl rfl rfl ?_)

theorem execPpsInEdge_spine : ∀ a0 a1, Keeps (execPpsInEdge a0 a1) a1 := by
  intro a0 a1
  unfold execPpsInEdge
  repeat' (first | with_reducible rfl | with_reducible refine spine_ite ?_ ?_ | with_reducible refine keeps_ite ?_ ?_ | with_reducible refine keeps_done ?_ | with_reducible refine (advanceTo_spine _ _).trans ?_ | with_reducible refine (measured_spine _ _).trans ?_ | intro _ | with_reducible refine spine_mk rfl rfl rfl rfl ?_)

theorem todCorrect_spine : ∀ a0 a1 a2, (todCorrect a0 a1 a2).spine = a2.spine := by
  intro a0 a1 a2
  unfold todCorrect
  repeat' (first | with_reducible rfl | with_reducible refine (correct_spine _ _).trans ?_ | intro _ | with_reducible refine spine_mk rfl rfl rfl rfl ?_)

theorem execZdaSentence_spine : ∀ a0 a1 a2, Keeps (execZdaSentence a0 a1 a2) a2 := by
  intro a0 a1 a2
  unfold execZdaSentence
  repeat' (first | with_reducible rfl | with_reducible refine keeps_ite ?_ ?_ | with_reducible refine keeps_done ?_ | with_reducible refine (todCorrect_spine _ _ _).trans ?_ | intro _ | split | (dsimp only; split) | with_reducible refine spine_mk rfl rfl rfl rfl ?_)

theorem execRef10mLost_spine : ∀ a0, Keeps (execRef10mLost a0) a0 := by
  intro a0
  unfold execRef10mLost
  repeat' (first | with_reducible rfl | with_reducible refine keeps_done ?_ | intro _ | with_reducible refine spine_mk rfl rfl rfl rfl ?_)

theorem execRef10mRestored_spine : ∀ a0, Keeps (execRef10mRestored a0) a0 := by
  intro a0
  unfold execRef10mRestored
  repeat' (first | with_reducible rfl | with_reducible refine keeps_done ?_ | intro _ | with_reducible refine spine_mk rfl rfl rfl rfl ?_)

theorem execTbLocked_spine : ∀ a0, Keeps (execTbLocked a0) a0 := by
  intro a0
  unfold execTbLocked
  repeat' (first | with_reducible rfl | with_reducible refine keeps_ite ?_ ?_ | with_reducible refine keeps_done ?_ | with_reducible refine (enterLocked_spine _).trans ?_ | intro _)

theorem execTbHoldoverEntry_spine : ∀ a0, Keeps (execTbHoldoverEntry a0) a0 := by
  intro a0
  unfold execTbHoldoverEntry
  repeat' (first | with_reducible rfl | with_reducible refine keeps_ite ?_ ?_ | with_reducible refine keeps_done ?_ | with_reducible refine (advanceTo_spine _ _).trans ?_ | with_reducible refine (enterHoldover_spine _).trans ?_ | intro _)

theorem rtcSteer_spine : ∀ a0 a1, (rtcSteer a0 a1).spine = a1.spine := by
  intro a0 a1
  unfold rtcSteer
  repeat' (first | with_reducible rfl | with_reducible refine spine_ite ?_ ?_ | with_reducible refine (noteTime_spine _ _ _).trans ?_ | intro _ | with_reducible refine spine_mk rfl rfl rfl rfl ?_)

theorem execSecondBoundary_spine : ∀ a0, Keeps (execSecondBoundary a0) a0 := by
  intro a0
  unfold execSecondBoundary
  repeat' (first | with_reducible rfl | with_reducible refine spine_ite ?_ ?_ | with_reducible refine keeps_ite ?_ ?_ | with_reducible refine keeps_done ?_ | with_reducible refine (advanceTo_spine _ _).trans ?_ | with_reducible refine (emit_spine _ _).trans ?_ | with_reducible refine (rtcSteer_spine _ _).trans ?_ | with_reducible refine (traceSecond_spine _).trans ?_ | intro _ | with_reducible refine spine_mk rfl rfl rfl rfl ?_)

theorem tbSnap_spine : ∀ a0, (tbSnap a0).spine = a0.spine := by
  intro a0
  unfold tbSnap
  repeat' (first | with_reducible rfl | intro _ | with_reducible refine spine_mk rfl rfl rfl rfl ?_)

theorem execTbSnapCapture_spine : ∀ a0, Keeps (execTbSnapCapture a0) a0 := by
  intro a0
  unfold execTbSnapCapture
  repeat' (first | with_reducible rfl | with_reducible refine spine_ite ?_ ?_ | with_reducible refine keeps_done ?_ | with_reducible refine (tbSnap_spine _).trans ?_ | intro _)

theorem addPhaseAt_spine : ∀ a0 a1 a2 a3 a4, (addPhaseAt a0 a1 a2 a3 a4).spine = a4.spine := by
  intro a0 a1 a2 a3 a4
  unfold addPhaseAt
  repeat' (first | with_reducible rfl | intro _ | with_reducible refine spine_mk rfl rfl rfl rfl ?_)

theorem addPhase_spine : ∀ a0 a1 a2 a3, (addPhase a0 a1 a2 a3).spine = a3.spine := by
  intro a0 a1 a2 a3
  unfold addPhase
  repeat' (first | with_reducible rfl | with_reducible refine (addPhaseAt_spine _ _ _ _ _).trans ?_ | intro _)

theorem refSample_spine : ∀ a0 a1, (refSample a0 a1).spine = a1.spine := by
  intro a0 a1
  unfold refSample
  repeat' (first | with_reducible rfl | intro _ | split | (dsimp only; split) | with_reducible refine spine_mk rfl rfl rfl rfl ?_)

theorem phaseOutcome_spine : ∀ a0 a1 a2, (phaseOutcome a0 a1 a2).spine = a2.spine := by
  intro a0 a1 a2
  unfold phaseOutcome
  repeat' (first | with_reducible rfl | intro _ | split | (dsimp only; split) | with_reducible refine spine_mk rfl rfl rfl rfl ?_)

theorem execPhaseTargetFix_spine : ∀ a0 a1, Keeps (execPhaseTargetFix a0 a1) a1 := by
  intro a0 a1
  unfold execPhaseTargetFix
  repeat' (first | with_reducible rfl | with_reducible refine keeps_ite ?_ ?_ | with_reducible refine keeps_done ?_ | with_reducible refine (advanceTo_spine _ _).trans ?_ | with_reducible refine (count_spine _ _).trans ?_ | with_reducible refine (phaseOutcome_spine _ _ _).trans ?_ | intro _ | split | (dsimp only; split) | with_reducible refine spine_mk rfl rfl rfl rfl ?_)

theorem tick_spine {s t : State} (h : tick s = .next t) : t.spine = s.spine := by
  unfold tick at h
  split at h <;> cases h
  exact elapse_spine _ _

end Sys2Proof.Machine
end

