-- ==== Sys2Proof/Laws/SpineRtcBlock.lean ====
section
/-! SUPPORT. What each definition of Machine/RtcBlock leaves as it was: the waiting commands, the power state and its rails
(`State.spine`). -/

namespace Sys2Proof.Machine

theorem setRtcPort_spine : ∀ a0 a1 a2, (setRtcPort a0 a1 a2).spine = a2.spine := by
  intro a0 a1 a2
  unfold setRtcPort
  repeat' (first | with_reducible rfl | intro _ | split | (dsimp only; split) | with_reducible refine spine_mk rfl rfl rfl rfl ?_)

theorem rtcFreeze_spine : ∀ a0 a1, (rtcFreeze a0 a1).spine = a1.spine := by
  intro a0 a1
  unfold rtcFreeze
  repeat' (first | with_reducible rfl | with_reducible refine (setRtcPort_spine _ _ _).trans ?_ | intro _)

theorem rtcRelease_spine : ∀ a0 a1, (rtcRelease a0 a1).spine = a1.spine := by
  intro a0 a1
  unfold rtcRelease
  repeat' (first | with_reducible rfl | with_reducible refine (setRtcPort_spine _ _ _).trans ?_ | intro _ | with_reducible refine spine_mk rfl rfl rfl rfl ?_)

theorem rtcReadT_spine : ∀ a0 a1, (rtcReadT a0 a1).spine = a1.spine := by
  intro a0 a1
  unfold rtcReadT
  repeat' (first | with_reducible rfl | with_reducible refine spine_ite ?_ ?_ | with_reducible refine (rtcFreeze_spine _ _).trans ?_ | intro _)

theorem execRtcTReadFreeze_spine : ∀ a0 a1 a2, Keeps (execRtcTReadFreeze a0 a1 a2) a2 := by
  intro a0 a1 a2
  unfold execRtcTReadFreeze
  repeat' (first | with_reducible rfl | with_reducible refine spine_ite ?_ ?_ | with_reducible refine keeps_ite ?_ ?_ | with_reducible refine keeps_done ?_ | with_reducible refine (emit_spine _ _).trans ?_ | with_reducible refine (rtcReadT_spine _ _).trans ?_ | with_reducible refine (rtcRelease_spine _ _).trans ?_ | intro _)

theorem execRtcT7ReadRelease_spine : ∀ a0 a1, Keeps (execRtcT7ReadRelease a0 a1) a1 := by
  intro a0 a1
  unfold execRtcT7ReadRelease
  repeat' (first | with_reducible rfl | with_reducible refine spine_ite ?_ ?_ | with_reducible refine keeps_ite ?_ ?_ | with_reducible refine keeps_done ?_ | with_reducible refine (emit_spine _ _).trans ?_ | with_reducible refine (rtcRelease_spine _ _).trans ?_ | intro _)

theorem execRtcFreezeTimeout_spine : ∀ a0 a1, Keeps (execRtcFreezeTimeout a0 a1) a1 := by
  intro a0 a1
  unfold execRtcFreezeTimeout
  repeat' (first | with_reducible rfl | with_reducible refine keeps_ite ?_ ?_ | with_reducible refine keeps_done ?_ | with_reducible refine (advanceTo_spine _ _).trans ?_ | with_reducible refine (setRtcPort_spine _ _ _).trans ?_ | intro _ | split | (dsimp only; split) | with_reducible refine spine_mk rfl rfl rfl rfl ?_)

theorem rtcCmdRecord_spine : ∀ a0 a1 a2 a3 a4, (rtcCmdRecord a0 a1 a2 a3 a4).spine = a4.spine := by
  intro a0 a1 a2 a3 a4
  unfold rtcCmdRecord
  repeat' (first | with_reducible rfl | with_reducible refine (recAdd_spine _ _ _ _ _ _ _ _ _ _).trans ?_ | intro _)

theorem rtcIgnored_spine : ∀ a0 a1 a2 a3, (rtcIgnored a0 a1 a2 a3).spine = a3.spine := by
  intro a0 a1 a2 a3
  unfold rtcIgnored
  repeat' (first | with_reducible rfl | with_reducible refine spine_ite ?_ ?_ | with_reducible refine (rtcCmdRecord_spine _ _ _ _ _).trans ?_ | intro _)

theorem rtcSet_spine : ∀ a0 a1 a2, (rtcSet a0 a1 a2).spine = a2.spine := by
  intro a0 a1 a2
  unfold rtcSet
  repeat' (first | with_reducible rfl | with_reducible refine spine_ite ?_ ?_ | with_reducible refine (rtcCmdRecord_spine _ _ _ _ _).trans ?_ | with_reducible refine (rtcIgnored_spine _ _ _ _).trans ?_ | intro _ | split | (dsimp only; split) | with_reducible refine spine_mk rfl rfl rfl rfl ?_)

theorem execRtcCmdSet_spine : ∀ a0 a1, Keeps (execRtcCmdSet a0 a1) a1 := by
  intro a0 a1
  unfold execRtcCmdSet
  repeat' (first | with_reducible rfl | with_reducible refine keeps_done ?_ | with_reducible refine (rtcSet_spine _ _ _).trans ?_ | intro _)

theorem execRtcSetCommit_spine : ∀ a0, Keeps (execRtcSetCommit a0) a0 := by
  intro a0
  unfold execRtcSetCommit
  repeat' (first | with_reducible rfl | with_reducible refine keeps_done ?_ | intro _ | split | (dsimp only; split) | with_reducible refine spine_mk rfl rfl rfl rfl ?_)

theorem rtcMode_spine : ∀ a0 a1 a2 a3, (rtcMode a0 a1 a2 a3).spine = a3.spine := by
  intro a0 a1 a2 a3
  unfold rtcMode
  repeat' (first | with_reducible rfl | with_reducible refine spine_ite ?_ ?_ | with_reducible refine (rtcCmdRecord_spine _ _ _ _ _).trans ?_ | with_reducible refine (rtcIgnored_spine _ _ _ _).trans ?_ | intro _ | with_reducible refine spine_mk rfl rfl rfl rfl ?_)

theorem execRtcCmdTobin_spine : ∀ a0 a1, Keeps (execRtcCmdTobin a0 a1) a1 := by
  intro a0 a1
  unfold execRtcCmdTobin
  repeat' (first | with_reducible rfl | with_reducible refine keeps_done ?_ | with_reducible refine (rtcMode_spine _ _ _ _).trans ?_ | intro _)

theorem execRtcCmdTocal_spine : ∀ a0 a1, Keeps (execRtcCmdTocal a0 a1) a1 := by
  intro a0 a1
  unfold execRtcCmdTocal
  repeat' (first | with_reducible rfl | with_reducible refine keeps_done ?_ | with_reducible refine (rtcMode_spine _ _ _ _).trans ?_ | intro _)

theorem execRtcSensorReading_spine : ∀ a0 a1, Keeps (execRtcSensorReading a0 a1) a1 := by
  intro a0 a1
  unfold execRtcSensorReading
  repeat' (first | with_reducible rfl | with_reducible refine keeps_done ?_ | intro _ | with_reducible refine spine_mk rfl rfl rfl rfl ?_)

theorem execRtcEndOfRange_spine : ∀ a0, Keeps (execRtcEndOfRange a0) a0 := by
  intro a0
  unfold execRtcEndOfRange
  repeat' (first | with_reducible rfl | with_reducible refine keeps_ite ?_ ?_ | with_reducible refine keeps_done ?_ | with_reducible refine (noteTime_spine _ _ _).trans ?_ | with_reducible refine (raiseVector_spine _ _).trans ?_ | intro _ | with_reducible refine spine_mk rfl rfl rfl rfl ?_)

theorem rtcLock_spine : ∀ a0, (rtcLock a0).spine = a0.spine := by
  intro a0
  unfold rtcLock
  repeat' (first | with_reducible rfl | with_reducible refine spine_ite ?_ ?_ | with_reducible refine (rtcFreeze_spine _ _).trans ?_ | intro _ | with_reducible refine spine_mk rfl rfl rfl rfl ?_)

theorem execRtcLockRelease_spine : ∀ a0, Keeps (execRtcLockRelease a0) a0 := by
  intro a0
  unfold execRtcLockRelease
  repeat' (first | with_reducible rfl | with_reducible refine keeps_done ?_ | with_reducible refine (advanceTo_spine _ _).trans ?_ | intro _ | split | (dsimp only; split) | with_reducible refine spine_mk rfl rfl rfl rfl ?_)

theorem execVrtcLow_spine : ∀ a0, Keeps (execVrtcLow a0) a0 := by
  intro a0
  unfold execVrtcLow
  repeat' (first | with_reducible rfl | with_reducible refine keeps_done ?_ | with_reducible refine (raiseVector_spine _ _).trans ?_ | intro _ | with_reducible refine spine_mk rfl rfl rfl rfl ?_)

end Sys2Proof.Machine
end

