-- ==== Sys2Proof/Laws/SpineRecorderBlock.lean ====
section
/-! SUPPORT. What each definition of Machine/RecorderBlock leaves as it was: the waiting commands, the power state and its rails
(`State.spine`). -/

namespace Sys2Proof.Machine

theorem setRecCursor_spine : ∀ a0 a1 a2, (setRecCursor a0 a1 a2).spine = a2.spine := by
  intro a0 a1 a2
  unfold setRecCursor
  repeat' (first | with_reducible rfl | intro _ | split | (dsimp only; split) | with_reducible refine spine_mk rfl rfl rfl rfl ?_)

theorem recMove_spine : ∀ a0 a1 a2, (recMove a0 a1 a2).spine = a2.spine := by
  intro a0 a1 a2
  unfold recMove
  repeat' (first | with_reducible rfl | with_reducible refine (setRecCursor_spine _ _ _).trans ?_ | intro _ | split | (dsimp only; split))

theorem execRecCmdNext_spine : ∀ a0 a1, Keeps (execRecCmdNext a0 a1) a1 := by
  intro a0 a1
  unfold execRecCmdNext
  repeat' (first | with_reducible rfl | with_reducible refine spine_ite ?_ ?_ | with_reducible refine keeps_done ?_ | with_reducible refine (recMove_spine _ _ _).trans ?_ | intro _)

theorem execRecCmdPrev_spine : ∀ a0 a1, Keeps (execRecCmdPrev a0 a1) a1 := by
  intro a0 a1
  unfold execRecCmdPrev
  repeat' (first | with_reducible rfl | with_reducible refine spine_ite ?_ ?_ | with_reducible refine keeps_done ?_ | with_reducible refine (recMove_spine _ _ _).trans ?_ | intro _)

theorem execRecCmdOldest_spine : ∀ a0 a1, Keeps (execRecCmdOldest a0 a1) a1 := by
  intro a0 a1
  unfold execRecCmdOldest
  repeat' (first | with_reducible rfl | with_reducible refine spine_ite ?_ ?_ | with_reducible refine keeps_done ?_ | with_reducible refine (recMove_spine _ _ _).trans ?_ | intro _)

theorem execRecCmdNewest_spine : ∀ a0 a1, Keeps (execRecCmdNewest a0 a1) a1 := by
  intro a0 a1
  unfold execRecCmdNewest
  repeat' (first | with_reducible rfl | with_reducible refine spine_ite ?_ ?_ | with_reducible refine keeps_done ?_ | with_reducible refine (recMove_spine _ _ _).trans ?_ | intro _)

theorem execRecCmdSeekSeq_spine : ∀ a0 a1, Keeps (execRecCmdSeekSeq a0 a1) a1 := by
  intro a0 a1
  unfold execRecCmdSeekSeq
  repeat' (first | with_reducible rfl | with_reducible refine spine_ite ?_ ?_ | with_reducible refine keeps_done ?_ | with_reducible refine (recMove_spine _ _ _).trans ?_ | intro _)

theorem clearStart_spine : ∀ a0 a1 a2, (clearStart a0 a1 a2).spine = a2.spine := by
  intro a0 a1 a2
  unfold clearStart
  repeat' (first | with_reducible rfl | with_reducible refine (recAdd_spine _ _ _ _ _ _ _ _ _ _).trans ?_ | with_reducible refine (recSummary_spine _).trans ?_ | intro _ | split | (dsimp only; split) | with_reducible refine spine_mk rfl rfl rfl rfl ?_)

theorem recClear_spine : ∀ a0 a1 a2, (recClear a0 a1 a2).spine = a2.spine := by
  intro a0 a1 a2
  unfold recClear
  repeat' (first | with_reducible rfl | with_reducible refine spine_ite ?_ ?_ | with_reducible refine (clearStart_spine _ _ _).trans ?_ | intro _ | with_reducible refine spine_mk rfl rfl rfl rfl ?_)

theorem execRecClear_spine : ∀ a0 a1 a2, Keeps (execRecClear a0 a1 a2) a2 := by
  intro a0 a1 a2
  unfold execRecClear
  repeat' (first | with_reducible rfl | with_reducible refine spine_ite ?_ ?_ | with_reducible refine keeps_done ?_ | with_reducible refine (recClear_spine _ _ _).trans ?_ | intro _)

theorem execRecClearComplete_spine : ∀ a0, Keeps (execRecClearComplete a0) a0 := by
  intro a0
  unfold execRecClearComplete
  repeat' (first | with_reducible rfl | with_reducible refine keeps_done ?_ | with_reducible refine (clearStart_spine _ _ _).trans ?_ | intro _ | split | (dsimp only; split) | with_reducible refine spine_mk rfl rfl rfl rfl ?_)

theorem execRecNorProgram_spine : ∀ a0, Keeps (execRecNorProgram a0) a0 := by
  intro a0
  unfold execRecNorProgram
  repeat' (first | with_reducible rfl | with_reducible refine keeps_done ?_ | intro _ | with_reducible refine spine_mk rfl rfl rfl rfl ?_)

theorem programAll_spine : ∀ a0, (programAll a0).spine = a0.spine := by
  intro a0
  unfold programAll
  repeat' (first | with_reducible rfl | intro _ | with_reducible refine spine_mk rfl rfl rfl rfl ?_)

theorem checkpoint_spine : ∀ a0, (checkpoint a0).spine = a0.spine := by
  intro a0
  unfold checkpoint
  repeat' (first | with_reducible rfl | intro _ | with_reducible refine spine_mk rfl rfl rfl rfl ?_)

theorem execOpTimeCheckpoint_spine : ∀ a0, Keeps (execOpTimeCheckpoint a0) a0 := by
  intro a0
  unfold execOpTimeCheckpoint
  repeat' (first | with_reducible rfl | with_reducible refine keeps_ite ?_ ?_ | with_reducible refine keeps_done ?_ | with_reducible refine (checkpoint_spine _).trans ?_ | with_reducible refine (elapse_spine _ _).trans ?_ | with_reducible refine (recSummary_spine _).trans ?_ | intro _)

theorem loseStaged_spine : ∀ a0, (loseStaged a0).spine = a0.spine := by
  intro a0
  unfold loseStaged
  repeat' (first | with_reducible rfl | intro _ | split | (dsimp only; split) | with_reducible refine spine_mk rfl rfl rfl rfl ?_)

end Sys2Proof.Machine
end

