-- ==== Sys2Proof/Laws/SpineQueues.lean ====
section
/-! SUPPORT. What each definition of Machine/Queues leaves as it was: the waiting commands, the power state and its rails
(`State.spine`). -/

namespace Sys2Proof.Machine

theorem setOq_spine : ∀ a0 a1 a2, (setOq a0 a1 a2).spine = a2.spine := by
  intro a0 a1 a2
  unfold setOq
  repeat' (first | with_reducible rfl | intro _ | with_reducible refine spine_mk rfl rfl rfl rfl ?_)

theorem setIq_spine : ∀ a0 a1 a2, (setIq a0 a1 a2).spine = a2.spine := by
  intro a0 a1 a2
  unfold setIq
  repeat' (first | with_reducible rfl | intro _ | with_reducible refine spine_mk rfl rfl rfl rfl ?_)

theorem oqVector_spine : ∀ a0 a1, (oqVector a0 a1).spine = a1.spine := by
  intro a0 a1
  unfold oqVector
  repeat' (first | with_reducible rfl | with_reducible refine (raiseVector_spine _ _).trans ?_ | with_reducible refine (setOq_spine _ _ _).trans ?_ | intro _)

theorem oqCommit_spine : ∀ a0 a1 a2, (oqCommit a0 a1 a2).spine = a2.spine := by
  intro a0 a1 a2
  unfold oqCommit
  repeat' (first | with_reducible rfl | with_reducible refine spine_ite ?_ ?_ | with_reducible refine (oqVector_spine _ _).trans ?_ | with_reducible refine (setOq_spine _ _ _).trans ?_ | intro _)

theorem oqDrop_spine : ∀ a0 a1 a2 a3, (oqDrop a0 a1 a2 a3).spine = a3.spine := by
  intro a0 a1 a2 a3
  unfold oqDrop
  repeat' (first | with_reducible rfl | with_reducible refine (countBy_spine _ _ _).trans ?_ | with_reducible refine (setOq_spine _ _ _).trans ?_ | intro _)

theorem oqOversize_spine : ∀ a0 a1 a2, (oqOversize a0 a1 a2).spine = a2.spine := by
  intro a0 a1 a2
  unfold oqOversize
  repeat' (first | with_reducible rfl | with_reducible refine spine_ite ?_ ?_ | with_reducible refine (noteI_spine _ _ _ _ _ _ _ _).trans ?_ | with_reducible refine (oqDrop_spine _ _ _ _).trans ?_ | with_reducible refine (setOq_spine _ _ _).trans ?_ | intro _)

theorem oqForget_spine : ∀ a0 a1, (oqForget a0 a1).spine = a1.spine := by
  intro a0 a1
  unfold oqForget
  repeat' (first | with_reducible rfl | intro _ | with_reducible refine spine_mk rfl rfl rfl rfl ?_)

theorem oqPut_spine : ∀ a0 a1 a2 a3, (oqPut a0 a1 a2 a3).spine = a3.spine := by
  intro a0 a1 a2 a3
  unfold oqPut
  repeat' (first | with_reducible rfl | with_reducible refine spine_ite ?_ ?_ | with_reducible refine (oqCommit_spine _ _ _).trans ?_ | with_reducible refine (oqDrop_spine _ _ _ _).trans ?_ | with_reducible refine (oqOversize_spine _ _ _).trans ?_ | intro _)

theorem oqWrite_spine : ∀ a0 a1 a2 a3, (oqWrite a0 a1 a2 a3).spine = a3.spine := by
  intro a0 a1 a2 a3
  unfold oqWrite
  repeat' (first | with_reducible rfl | with_reducible refine spine_ite ?_ ?_ | with_reducible refine (oqPut_spine _ _ _ _).trans ?_ | intro _)

theorem oqNoWait_spine : ∀ a0 a1 a2 a3, (oqNoWait a0 a1 a2 a3).spine = a3.spine := by
  intro a0 a1 a2 a3
  unfold oqNoWait
  repeat' (first | with_reducible rfl | with_reducible refine spine_ite ?_ ?_ | with_reducible refine (oqDrop_spine _ _ _ _).trans ?_ | with_reducible refine (oqPut_spine _ _ _ _).trans ?_ | intro _)

theorem oqStall_spine : ∀ a0 a1 a2 a3, (oqStall a0 a1 a2 a3).spine = a3.spine := by
  intro a0 a1 a2 a3
  unfold oqStall
  repeat' (first | with_reducible rfl | with_reducible refine spine_ite ?_ ?_ | with_reducible refine (count_spine _ _).trans ?_ | with_reducible refine (setOq_spine _ _ _).trans ?_ | intro _)

theorem oqDiscard_spine : ∀ a0 a1, (oqDiscard a0 a1).spine = a1.spine := by
  intro a0 a1
  unfold oqDiscard
  repeat' (first | with_reducible rfl | with_reducible refine spine_ite ?_ ?_ | with_reducible refine (oqDrop_spine _ _ _ _).trans ?_ | with_reducible refine (setOq_spine _ _ _).trans ?_ | intro _)

theorem oqBoundary_spine : ∀ a0 a1, (oqBoundary a0 a1).spine = a1.spine := by
  intro a0 a1
  unfold oqBoundary
  repeat' (first | with_reducible rfl | with_reducible refine spine_ite ?_ ?_ | with_reducible refine (oqDiscard_spine _ _).trans ?_ | with_reducible refine (setOq_spine _ _ _).trans ?_ | intro _ | refine spine_snd (by assumption) ?_ | refine spine_fst (by assumption) ?_ | refine spine_snd2 (by assumption) ?_ | refine spine_snd3 (by assumption) ?_ | with_reducible refine spine_mk rfl rfl rfl rfl ?_)

theorem execQpopRead_spine : ∀ a0 a1 a2, Keeps (execQpopRead a0 a1 a2) a2 := by
  intro a0 a1 a2
  unfold execQpopRead
  repeat' (first | with_reducible rfl | with_reducible refine spine_ite ?_ ?_ | with_reducible refine keeps_ite ?_ ?_ | with_reducible refine keeps_done ?_ | with_reducible refine (emit_spine _ _).trans ?_ | with_reducible refine (oqBoundary_spine _ _).trans ?_ | with_reducible refine (setOq_spine _ _ _).trans ?_ | intro _ | split | (dsimp only; split) | refine spine_snd (by assumption) ?_ | refine spine_fst (by assumption) ?_ | refine spine_snd2 (by assumption) ?_ | refine spine_snd3 (by assumption) ?_ | with_reducible refine spine_mk rfl rfl rfl rfl ?_)

theorem execDmaEntryWrite_spine : ∀ a0, Keeps (execDmaEntryWrite a0) a0 := by
  intro a0
  unfold execDmaEntryWrite
  repeat' (first | with_reducible rfl | with_reducible refine spine_ite ?_ ?_ | with_reducible refine keeps_ite ?_ ?_ | with_reducible refine keeps_done ?_ | with_reducible refine (emit_spine _ _).trans ?_ | with_reducible refine (oqBoundary_spine _ _).trans ?_ | with_reducible refine (oqVector_spine _ _).trans ?_ | with_reducible refine (setOq_spine _ _ _).trans ?_ | intro _ | split | (dsimp only; split) | refine spine_snd (by assumption) ?_ | refine spine_fst (by assumption) ?_ | refine spine_snd2 (by assumption) ?_ | refine spine_snd3 (by assumption) ?_ | with_reducible refine spine_mk rfl rfl rfl rfl ?_)

theorem oqHeadWrite_spine : ∀ a0 a1 a2, (oqHeadWrite a0 a1 a2).spine = a2.spine := by
  intro a0 a1 a2
  unfold oqHeadWrite
  repeat' (first | with_reducible rfl | with_reducible refine spine_ite ?_ ?_ | with_reducible refine (setOq_spine _ _ _).trans ?_ | intro _)

theorem execOqRingHeadWrite_spine : ∀ a0 a1 a2, Keeps (execOqRingHeadWrite a0 a1 a2) a2 := by
  intro a0 a1 a2
  unfold execOqRingHeadWrite
  repeat' (first | with_reducible rfl | with_reducible refine spine_ite ?_ ?_ | with_reducible refine keeps_done ?_ | with_reducible refine (oqHeadWrite_spine _ _ _).trans ?_ | intro _)

theorem oqFlush_spine : ∀ a0 a1, (oqFlush a0 a1).spine = a1.spine := by
  intro a0 a1
  unfold oqFlush
  repeat' (first | with_reducible rfl | with_reducible refine (oqDiscard_spine _ _).trans ?_ | with_reducible refine (setOq_spine _ _ _).trans ?_ | intro _)

theorem finalReplies_spine : ∀ a0 a1 a2, (finalReplies a0 a1 a2).spine = a2.spine := by
  intro a0 a1 a2
  unfold finalReplies
  repeat' (first | with_reducible rfl | with_reducible refine (finalReply_spine _ _ _).trans ?_ | with_reducible refine foldl_spine ?_ ?_ | intro _)

theorem oqFlushEnd_spine : ∀ a0 a1, (oqFlushEnd a0 a1).spine = a1.spine := by
  intro a0 a1
  unfold oqFlushEnd
  repeat' (first | with_reducible rfl | with_reducible refine spine_ite ?_ ?_ | with_reducible refine (finalReplies_spine _ _ _).trans ?_ | with_reducible refine (setOq_spine _ _ _).trans ?_ | intro _)

theorem execOqFlushDone_spine : ∀ a0 a1, Keeps (execOqFlushDone a0 a1) a1 := by
  intro a0 a1
  unfold execOqFlushDone
  repeat' (first | with_reducible rfl | with_reducible refine keeps_done ?_ | with_reducible refine (oqFlushEnd_spine _ _).trans ?_ | intro _)

theorem writeOqCtrl_spine : ∀ a0 a1 a2, (writeOqCtrl a0 a1 a2).spine = a2.spine := by
  intro a0 a1 a2
  unfold writeOqCtrl
  repeat' (first | with_reducible rfl | with_reducible refine spine_ite ?_ ?_ | with_reducible refine (oqBoundary_spine _ _).trans ?_ | with_reducible refine (oqFlush_spine _ _).trans ?_ | with_reducible refine (oqFlushEnd_spine _ _).trans ?_ | with_reducible refine (setOq_spine _ _ _).trans ?_ | intro _ | refine spine_snd (by assumption) ?_ | refine spine_fst (by assumption) ?_ | refine spine_snd2 (by assumption) ?_ | refine spine_snd3 (by assumption) ?_ | with_reducible refine spine_mk rfl rfl rfl rfl ?_)

theorem execOqCtrlEnSet_spine : ∀ a0 a1 a2, Keeps (execOqCtrlEnSet a0 a1 a2) a2 := by
  intro a0 a1 a2
  unfold execOqCtrlEnSet
  repeat' (first | with_reducible rfl | with_reducible refine spine_ite ?_ ?_ | with_reducible refine keeps_done ?_ | with_reducible refine (writeOqCtrl_spine _ _ _).trans ?_ | intro _)

theorem execOqCtrlEnClear_spine : ∀ a0 a1 a2, Keeps (execOqCtrlEnClear a0 a1 a2) a2 := by
  intro a0 a1 a2
  unfold execOqCtrlEnClear
  repeat' (first | with_reducible rfl | with_reducible refine spine_ite ?_ ?_ | with_reducible refine keeps_done ?_ | with_reducible refine (writeOqCtrl_spine _ _ _).trans ?_ | intro _)

theorem execOqCtrlFlush_spine : ∀ a0 a1 a2, Keeps (execOqCtrlFlush a0 a1 a2) a2 := by
  intro a0 a1 a2
  unfold execOqCtrlFlush
  repeat' (first | with_reducible rfl | with_reducible refine spine_ite ?_ ?_ | with_reducible refine keeps_done ?_ | with_reducible refine (writeOqCtrl_spine _ _ _).trans ?_ | intro _)

theorem execOqStaleTimer_spine : ∀ a0 a1, Keeps (execOqStaleTimer a0 a1) a1 := by
  intro a0 a1
  unfold execOqStaleTimer
  repeat' (first | with_reducible rfl | with_reducible refine keeps_ite ?_ ?_ | with_reducible refine keeps_done ?_ | with_reducible refine (advanceTo_spine _ _).trans ?_ | with_reducible refine (count_spine _ _).trans ?_ | with_reducible refine (oqVector_spine _ _).trans ?_ | with_reducible refine (setOq_spine _ _ _).trans ?_ | intro _ | split | (dsimp only; split))

theorem writeIqCtrl_spine : ∀ a0 a1 a2, (writeIqCtrl a0 a1 a2).spine = a2.spine := by
  intro a0 a1 a2
  unfold writeIqCtrl
  repeat' (first | with_reducible rfl | with_reducible refine (setIq_spine _ _ _).trans ?_ | intro _)

theorem execIqCtrlEnSet_spine : ∀ a0 a1 a2, Keeps (execIqCtrlEnSet a0 a1 a2) a2 := by
  intro a0 a1 a2
  unfold execIqCtrlEnSet
  repeat' (first | with_reducible rfl | with_reducible refine spine_ite ?_ ?_ | with_reducible refine keeps_done ?_ | with_reducible refine (writeIqCtrl_spine _ _ _).trans ?_ | intro _)

theorem execIqCtrlFlush_spine : ∀ a0 a1 a2, Keeps (execIqCtrlFlush a0 a1 a2) a2 := by
  intro a0 a1 a2
  unfold execIqCtrlFlush
  repeat' (first | with_reducible rfl | with_reducible refine spine_ite ?_ ?_ | with_reducible refine keeps_done ?_ | with_reducible refine (writeIqCtrl_spine _ _ _).trans ?_ | intro _)

theorem iqDrop_spine : ∀ a0 a1 a2, (iqDrop a0 a1 a2).spine = a2.spine := by
  intro a0 a1 a2
  unfold iqDrop
  repeat' (first | with_reducible rfl | with_reducible refine (count_spine _ _).trans ?_ | with_reducible refine (setIq_spine _ _ _).trans ?_ | intro _)

theorem iqDoorbell_spine : ∀ a0 a1 a2 a3, (iqDoorbell a0 a1 a2 a3).spine = a3.spine := by
  intro a0 a1 a2 a3
  unfold iqDoorbell
  repeat' (first | with_reducible rfl | with_reducible refine spine_ite ?_ ?_ | with_reducible refine (iqDrop_spine _ _ _).trans ?_ | with_reducible refine (setIq_spine _ _ _).trans ?_ | intro _)

theorem execIqRingTailDoorbell_spine : ∀ a0 a1 a2 a3, Keeps (execIqRingTailDoorbell a0 a1 a2 a3) a3 := by
  intro a0 a1 a2 a3
  unfold execIqRingTailDoorbell
  repeat' (first | with_reducible rfl | with_reducible refine spine_ite ?_ ?_ | with_reducible refine keeps_done ?_ | with_reducible refine (iqDoorbell_spine _ _ _ _).trans ?_ | intro _)

theorem iqTake_spine : ∀ a0 a1 a2, (iqTake a0 a1 a2).spine = a2.spine := by
  intro a0 a1 a2
  unfold iqTake
  repeat' (first | with_reducible rfl | with_reducible refine spine_ite ?_ ?_ | with_reducible refine (iqDrop_spine _ _ _).trans ?_ | with_reducible refine (setIq_spine _ _ _).trans ?_ | intro _ | split | (dsimp only; split))

theorem iqPullLoop_spine : ∀ a0 a1 a2, (iqPullLoop a0 a1 a2).spine = a2.spine := by
  intro a0 a1 a2
  fun_induction iqPullLoop a0 a1 a2
  all_goals repeat' (first | with_reducible rfl | refine Eq.trans (by assumption) ?_ | with_reducible refine (iqTake_spine _ _ _).trans ?_ | with_reducible refine (setIq_spine _ _ _).trans ?_ | intro _ | split | (dsimp only; split))

theorem execIqPull_spine : ∀ a0 a1, Keeps (execIqPull a0 a1) a1 := by
  intro a0 a1
  unfold execIqPull
  repeat' (first | with_reducible rfl | with_reducible refine keeps_ite ?_ ?_ | with_reducible refine keeps_done ?_ | with_reducible refine (iqPullLoop_spine _ _ _).trans ?_ | with_reducible refine (raiseVector_spine _ _).trans ?_ | with_reducible refine (setIq_spine _ _ _).trans ?_ | intro _ | split | (dsimp only; split))

theorem resetQueues_spine : ∀ a0, (resetQueues a0).spine = a0.spine := by
  intro a0
  unfold resetQueues
  repeat' (first | with_reducible rfl | intro _ | with_reducible refine spine_mk rfl rfl rfl rfl ?_)

theorem execTraceQlevel_spine : ∀ a0, Keeps (execTraceQlevel a0) a0 := by
  intro a0
  unfold execTraceQlevel
  repeat' (first | with_reducible rfl | with_reducible refine keeps_ite ?_ ?_ | with_reducible refine keeps_done ?_ | with_reducible refine (traceMsg_spine _ _ _).trans ?_ | intro _)

theorem clearPeaks_spine : ∀ a0, (clearPeaks a0).spine = a0.spine := by
  intro a0
  unfold clearPeaks
  repeat' (first | with_reducible rfl | intro _ | with_reducible refine spine_mk rfl rfl rfl rfl ?_)

end Sys2Proof.Machine
end

