-- ==== Sys2Proof/Laws/SpineStore.lean ====
section
/-! SUPPORT. What each definition of Machine/Store leaves as it was: the waiting commands, the power state and its rails
(`State.spine`). -/

namespace Sys2Proof.Machine

theorem setInst_spine : ∀ a0 a1, (setInst a0 a1).spine = a1.spine := by
  intro a0 a1
  unfold setInst
  repeat' (first | with_reducible rfl | intro _ | with_reducible refine spine_mk rfl rfl rfl rfl ?_)

theorem dropInst_spine : ∀ a0 a1 a2, (dropInst a0 a1 a2).spine = a2.spine := by
  intro a0 a1 a2
  unfold dropInst
  repeat' (first | with_reducible rfl | intro _ | with_reducible refine spine_mk rfl rfl rfl rfl ?_)

theorem fbAlloc_spine : ∀ a0 a1 a2 a3, ∀ t, fbAlloc a0 a1 a2 a3 = some t → t.2.spine = a3.spine := by
  intro a0 a1 a2 a3 t h
  unfold fbAlloc at h
  dsimp only at h
  split at h <;> cases h
  rfl

theorem fbSweep_spine : ∀ a0, (fbSweep a0).spine = a0.spine := by
  intro a0
  unfold fbSweep
  repeat' (first | with_reducible rfl | intro _ | with_reducible refine spine_mk rfl rfl rfl rfl ?_)

theorem cellSweep_spine : ∀ a0, (cellSweep a0).spine = a0.spine := by
  intro a0
  unfold cellSweep
  repeat' (first | with_reducible rfl | with_reducible refine (fbSweep_spine _).trans ?_ | intro _ | with_reducible refine spine_mk rfl rfl rfl rfl ?_)

theorem unreference_spine : ∀ a0 a1 a2, (unreference a0 a1 a2).spine = a2.spine := by
  intro a0 a1 a2
  unfold unreference
  repeat' (first | with_reducible rfl | with_reducible refine (cellSweep_spine _).trans ?_ | intro _ | with_reducible refine spine_mk rfl rfl rfl rfl ?_)

theorem cellsPeak_spine : ∀ a0, (cellsPeak a0).spine = a0.spine := by
  intro a0
  unfold cellsPeak
  repeat' (first | with_reducible rfl | with_reducible refine spine_ite ?_ ?_ | intro _ | with_reducible refine spine_mk rfl rfl rfl rfl ?_)

theorem takeCell_spine : ∀ a0 a1 a2 a3 a4, ∀ t, takeCell a0 a1 a2 a3 a4 = some t → t.spine = a4.spine := by
  intro a0 a1 a2 a3 a4 t h
  unfold takeCell at h
  split at h
  · cases h
  split at h
  · cases h
  next h1 => cases h; exact (cellsPeak_spine _).trans (fbAlloc_spine _ _ _ _ _ h1)

theorem setStream_spine : ∀ a0 a1 a2, (setStream a0 a1 a2).spine = a2.spine := by
  intro a0 a1 a2
  unfold setStream
  repeat' (first | with_reducible rfl | intro _ | with_reducible refine spine_mk rfl rfl rfl rfl ?_)

theorem countStream_spine : ∀ a0 a1 a2, (countStream a0 a1 a2).spine = a2.spine := by
  intro a0 a1 a2
  unfold countStream
  repeat' (first | with_reducible rfl | with_reducible refine (count_spine _ _).trans ?_ | with_reducible refine (setStream_spine _ _ _).trans ?_ | intro _)

theorem noteIngest_spine : ∀ a0 a1 a2 a3, (noteIngest a0 a1 a2 a3).spine = a3.spine := by
  intro a0 a1 a2 a3
  unfold noteIngest
  repeat' (first | with_reducible rfl | with_reducible refine (note_spine _ _ _ _ _ _ _).trans ?_ | intro _)

theorem histAdd_spine : ∀ a0 a1 a2 a3, (histAdd a0 a1 a2 a3).spine = a3.spine := by
  intro a0 a1 a2 a3
  unfold histAdd
  repeat' (first | with_reducible rfl | with_reducible refine (setStream_spine _ _ _).trans ?_ | intro _)

theorem streamDrop_spine : ∀ a0 a1, (streamDrop a0 a1).spine = a1.spine := by
  intro a0 a1
  unfold streamDrop
  repeat' (first | with_reducible rfl | with_reducible refine (count_spine _ _).trans ?_ | with_reducible refine (noteIngest_spine _ _ _ _).trans ?_ | with_reducible refine (setStream_spine _ _ _).trans ?_ | intro _)

theorem streamMiss_spine : ∀ a0 a1 a2 a3, (streamMiss a0 a1 a2 a3).spine = a3.spine := by
  intro a0 a1 a2 a3
  unfold streamMiss
  repeat' (first | with_reducible rfl | with_reducible refine spine_ite ?_ ?_ | with_reducible refine (histAdd_spine _ _ _ _).trans ?_ | with_reducible refine (setStream_spine _ _ _).trans ?_ | with_reducible refine (streamDrop_spine _ _).trans ?_ | intro _ | split | (dsimp only; split))

theorem streamGood_spine : ∀ a0 a1 a2, (streamGood a0 a1 a2).spine = a2.spine := by
  intro a0 a1 a2
  unfold streamGood
  repeat' (first | with_reducible rfl | with_reducible refine (histAdd_spine _ _ _ _).trans ?_ | with_reducible refine (noteIngest_spine _ _ _ _).trans ?_ | with_reducible refine (setStream_spine _ _ _).trans ?_ | intro _ | split | (dsimp only; split))

theorem streamAccept_spine : ∀ a0 a1 a2 a3, (streamAccept a0 a1 a2 a3).spine = a3.spine := by
  intro a0 a1 a2 a3
  unfold streamAccept
  repeat' (first | with_reducible rfl | with_reducible refine spine_ite ?_ ?_ | with_reducible refine (setStream_spine _ _ _).trans ?_ | with_reducible refine (streamGood_spine _ _ _).trans ?_ | with_reducible refine (streamMiss_spine _ _ _ _).trans ?_ | intro _)

theorem streamRefused_spine : ∀ a0 a1, (streamRefused a0 a1).spine = a1.spine := by
  intro a0 a1
  unfold streamRefused
  repeat' (first | with_reducible rfl | with_reducible refine spine_ite ?_ ?_ | with_reducible refine (countStream_spine _ _ _).trans ?_ | with_reducible refine (noteIngest_spine _ _ _ _).trans ?_ | intro _ | with_reducible refine spine_mk rfl rfl rfl rfl ?_)

theorem setTmplRun_spine : ∀ a0 a1 a2, (setTmplRun a0 a1 a2).spine = a2.spine := by
  intro a0 a1 a2
  unfold setTmplRun
  repeat' (first | with_reducible rfl | intro _ | with_reducible refine spine_mk rfl rfl rfl rfl ?_)

theorem noteData_spine : ∀ a0 a1 a2 a3 a4, (noteData a0 a1 a2 a3 a4).spine = a4.spine := by
  intro a0 a1 a2 a3 a4
  unfold noteData
  repeat' (first | with_reducible rfl | with_reducible refine (note_spine _ _ _ _ _ _ _).trans ?_ | intro _)

theorem instSettle_spine : ∀ a0 a1, (instSettle a0 a1).spine = a1.spine := by
  intro a0 a1
  unfold instSettle
  repeat' (first | with_reducible rfl | with_reducible refine spine_ite ?_ ?_ | with_reducible refine (dropInst_spine _ _ _).trans ?_ | with_reducible refine (fbSweep_spine _).trans ?_ | with_reducible refine (setInst_spine _ _).trans ?_ | intro _)

theorem instTaskEnd_spine : ∀ a0 a1 a2, (instTaskEnd a0 a1 a2).spine = a2.spine := by
  intro a0 a1 a2
  unfold instTaskEnd
  repeat' (first | with_reducible rfl | with_reducible refine (instSettle_spine _ _).trans ?_ | intro _ | split | (dsimp only; split))

theorem retryHeld_spine : ∀ a0, (retryHeld a0).spine = a0.spine := by
  intro a0
  unfold retryHeld
  repeat' (first | with_reducible rfl | intro _ | with_reducible refine spine_mk rfl rfl rfl rfl ?_)

theorem skipCycle_spine : ∀ a0 a1 a2 a3, (skipCycle a0 a1 a2 a3).spine = a3.spine := by
  intro a0 a1 a2 a3
  unfold skipCycle
  repeat' (first | with_reducible rfl | with_reducible refine spine_ite ?_ ?_ | with_reducible refine (count_spine _ _).trans ?_ | with_reducible refine (noteI_spine _ _ _ _ _ _ _ _).trans ?_ | intro _ | with_reducible refine spine_mk rfl rfl rfl rfl ?_)

theorem removeTask_spine : ∀ a0 a1, (removeTask a0 a1).spine = a1.spine := by
  intro a0 a1
  unfold removeTask
  repeat' (first | with_reducible rfl | with_reducible refine (setTmplRun_spine _ _ _).trans ?_ | intro _ | split | (dsimp only; split) | with_reducible refine spine_mk rfl rfl rfl rfl ?_)

theorem schemeSkipNext_spine : ∀ a0 a1, (schemeSkipNext a0 a1).spine = a1.spine := by
  intro a0 a1
  unfold schemeSkipNext
  repeat' (first | with_reducible rfl | with_reducible refine (instTaskEnd_spine _ _ _).trans ?_ | with_reducible refine (removeTask_spine _ _).trans ?_ | with_reducible refine (retryHeld_spine _).trans ?_ | with_reducible refine (skipCycle_spine _ _ _ _).trans ?_ | intro _ | split | (dsimp only; split) | with_reducible refine spine_mk rfl rfl rfl rfl ?_)

theorem releaseDropped_spine : ∀ a0 a1, (releaseDropped a0 a1).spine = a1.spine := by
  intro a0 a1
  unfold releaseDropped
  repeat' (first | with_reducible rfl | with_reducible refine spine_ite ?_ ?_ | with_reducible refine (instTaskEnd_spine _ _ _).trans ?_ | with_reducible refine (skipCycle_spine _ _ _ _).trans ?_ | intro _ | with_reducible refine spine_mk rfl rfl rfl rfl ?_)

theorem releaseTask_spine : ∀ a0 a1 a2 a3 a4 a5, (releaseTask a0 a1 a2 a3 a4 a5).spine = a5.spine := by
  intro a0 a1 a2 a3 a4 a5
  unfold releaseTask
  repeat' (first | with_reducible rfl | with_reducible refine spine_ite ?_ ?_ | with_reducible refine (count_spine _ _).trans ?_ | with_reducible refine (instTaskEnd_spine _ _ _).trans ?_ | with_reducible refine (noteData_spine _ _ _ _ _).trans ?_ | with_reducible refine (releaseDropped_spine _ _).trans ?_ | with_reducible refine (setTmplRun_spine _ _ _).trans ?_ | with_reducible refine (skipCycle_spine _ _ _ _).trans ?_ | intro _ | with_reducible refine spine_mk rfl rfl rfl rfl ?_)

theorem setHeld_spine : ∀ a0 a1 a2 a3, (setHeld a0 a1 a2 a3).spine = a3.spine := by
  intro a0 a1 a2 a3
  unfold setHeld
  repeat' (first | with_reducible rfl | intro _ | with_reducible refine spine_mk rfl rfl rfl rfl ?_)

theorem holdUpdate_spine : ∀ a0 a1 a2, (holdUpdate a0 a1 a2).spine = a2.spine := by
  intro a0 a1 a2
  unfold holdUpdate
  repeat' (first | with_reducible rfl | with_reducible refine spine_ite ?_ ?_ | with_reducible refine (setHeld_spine _ _ _ _).trans ?_ | with_reducible refine foldl_spine ?_ ?_ | intro _)

theorem takeOpened_spine : ∀ a0 a1 a2, (takeOpened a0 a1 a2).spine = a2.spine := by
  intro a0 a1 a2
  unfold takeOpened
  repeat' (first | with_reducible rfl | with_reducible refine spine_ite ?_ ?_ | intro _ | with_reducible refine spine_mk rfl rfl rfl rfl ?_)

theorem fireInst_spine : ∀ a0 a1 a2 a3 a4, (fireInst a0 a1 a2 a3 a4).spine = a4.spine := by
  intro a0 a1 a2 a3 a4
  unfold fireInst
  repeat' (first | with_reducible rfl | with_reducible refine (count_spine _ _).trans ?_ | with_reducible refine (countBy_spine _ _ _).trans ?_ | with_reducible refine (holdUpdate_spine _ _ _).trans ?_ | with_reducible refine (instSettle_spine _ _).trans ?_ | with_reducible refine (releaseTask_spine _ _ _ _ _ _).trans ?_ | with_reducible refine (takeOpened_spine _ _ _).trans ?_ | with_reducible refine (traceMatch_spine _ _ _ _ _).trans ?_ | with_reducible refine (unreference_spine _ _ _).trans ?_ | with_reducible refine foldl_spine ?_ ?_ | intro _ | with_reducible refine spine_mk rfl rfl rfl rfl ?_)

theorem fireWaiting_spine : ∀ a0 a1 a2 a3 a4, (fireWaiting a0 a1 a2 a3 a4).spine = a4.spine := by
  intro a0 a1 a2 a3 a4
  fun_induction fireWaiting a0 a1 a2 a3 a4
  all_goals repeat' (first | with_reducible rfl | refine Eq.trans (by assumption) ?_ | with_reducible refine (fireInst_spine _ _ _ _ _).trans ?_ | intro _ | split | (dsimp only; split))

theorem fire_spine : ∀ a0 a1 a2 a3 a4, (fire a0 a1 a2 a3 a4).spine = a4.spine := by
  intro a0 a1 a2 a3 a4
  unfold fire
  repeat' (first | with_reducible rfl | with_reducible refine (fireInst_spine _ _ _ _ _).trans ?_ | with_reducible refine (fireWaiting_spine _ _ _ _ _).trans ?_ | intro _)

theorem joinInst_spine : ∀ a0 a1 a2 a3 a4, (joinInst a0 a1 a2 a3 a4).spine = a4.spine := by
  intro a0 a1 a2 a3 a4
  unfold joinInst
  repeat' (first | with_reducible rfl | with_reducible refine spine_ite ?_ ?_ | with_reducible refine (count_spine _ _).trans ?_ | with_reducible refine (fire_spine _ _ _ _ _).trans ?_ | with_reducible refine (setInst_spine _ _).trans ?_ | with_reducible refine (traceMatch_spine _ _ _ _ _).trans ?_ | intro _)

theorem operandWritten_spine : ∀ a0 a1 a2 a3, (operandWritten a0 a1 a2 a3).spine = a3.spine := by
  intro a0 a1 a2 a3
  unfold operandWritten
  repeat' (first | with_reducible rfl | with_reducible refine (cellSweep_spine _).trans ?_ | with_reducible refine (joinInst_spine _ _ _ _ _).trans ?_ | with_reducible refine foldl_spine ?_ ?_ | intro _)

theorem limitPassed_spine : ∀ a0 a1 a2, (limitPassed a0 a1 a2).spine = a2.spine := by
  intro a0 a1 a2
  unfold limitPassed
  repeat' (first | with_reducible rfl | with_reducible refine (cellSweep_spine _).trans ?_ | intro _ | with_reducible refine spine_mk rfl rfl rfl rfl ?_)

theorem noteMissed_spine : ∀ a0 a1 a2, (noteMissed a0 a1 a2).spine = a2.spine := by
  intro a0 a1 a2
  unfold noteMissed
  repeat' (first | with_reducible rfl | with_reducible refine (setStream_spine _ _ _).trans ?_ | with_reducible refine (streamMiss_spine _ _ _ _).trans ?_ | intro _)

theorem judgeMissing_spine : ∀ a0 a1 a2 a3, (judgeMissing a0 a1 a2 a3).spine = a3.spine := by
  intro a0 a1 a2 a3
  unfold judgeMissing
  repeat' (first | with_reducible rfl | with_reducible refine spine_ite ?_ ?_ | with_reducible refine (noteMissed_spine _ _ _).trans ?_ | with_reducible refine foldl_spine ?_ ?_ | intro _ | split | (dsimp only; split))

theorem evaluateDeadline_spine : ∀ a0 a1 a2, (evaluateDeadline a0 a1 a2).spine = a2.spine := by
  intro a0 a1 a2
  unfold evaluateDeadline
  repeat' (first | with_reducible rfl | with_reducible refine spine_ite ?_ ?_ | with_reducible refine (fire_spine _ _ _ _ _).trans ?_ | with_reducible refine (judgeMissing_spine _ _ _ _).trans ?_ | with_reducible refine (traceDeadline_spine _ _ _).trans ?_ | intro _ | split | (dsimp only; split))

theorem deadlineIssue_spine : ∀ a0 a1 a2, (deadlineIssue a0 a1 a2).spine = a2.spine := by
  intro a0 a1 a2
  unfold deadlineIssue
  repeat' (first | with_reducible rfl | intro _ | split | (dsimp only; split) | with_reducible refine spine_mk rfl rfl rfl rfl ?_)

theorem rowDeadlineEvaluation_spine : ∀ a0 a1 a2, Keeps (rowDeadlineEvaluation a0 a1 a2) a2 := by
  intro a0 a1 a2
  unfold rowDeadlineEvaluation
  repeat' (first | with_reducible rfl | with_reducible refine keeps_ite ?_ ?_ | with_reducible refine keeps_done ?_ | with_reducible refine (advanceTo_spine _ _).trans ?_ | with_reducible refine (evaluateDeadline_spine _ _ _).trans ?_ | with_reducible refine foldl_spine ?_ ?_ | intro _ | split | (dsimp only; split) | with_reducible refine spine_mk rfl rfl rfl rfl ?_)

theorem setCore_spine : ∀ a0 a1 a2, (setCore a0 a1 a2).spine = a2.spine := by
  intro a0 a1 a2
  unfold setCore
  repeat' (first | with_reducible rfl | intro _ | with_reducible refine spine_mk rfl rfl rfl rfl ?_)

theorem execReadyHeldRetry_spine : ∀ a0, Keeps (execReadyHeldRetry a0) a0 := by
  intro a0
  unfold execReadyHeldRetry
  repeat' (first | with_reducible rfl | with_reducible refine keeps_done ?_ | with_reducible refine (retryHeld_spine _).trans ?_ | intro _)

theorem execTaskDispatch_spine : ∀ a0, Keeps (execTaskDispatch a0) a0 := by
  intro a0
  unfold execTaskDispatch
  repeat' (first | with_reducible rfl | with_reducible refine spine_ite ?_ ?_ | with_reducible refine keeps_done ?_ | with_reducible refine (count_spine _ _).trans ?_ | with_reducible refine (retryHeld_spine _).trans ?_ | with_reducible refine (setCore_spine _ _ _).trans ?_ | with_reducible refine (setTmplRun_spine _ _ _).trans ?_ | with_reducible refine (traceDispatch_spine _ _ _ _ _).trans ?_ | intro _ | split | (dsimp only; split) | with_reducible refine spine_mk rfl rfl rfl rfl ?_)

theorem execTaskStart_spine : ∀ a0 a1, Keeps (execTaskStart a0 a1) a1 := by
  intro a0 a1
  unfold execTaskStart
  repeat' (first | with_reducible rfl | with_reducible refine keeps_done ?_ | with_reducible refine (setCore_spine _ _ _).trans ?_ | intro _ | split | (dsimp only; split))

theorem taskEnd_spine : ∀ a0 a1 a2, (taskEnd a0 a1 a2).spine = a2.spine := by
  intro a0 a1 a2
  unfold taskEnd
  repeat' (first | with_reducible rfl | with_reducible refine spine_ite ?_ ?_ | with_reducible refine (instTaskEnd_spine _ _ _).trans ?_ | with_reducible refine (oqForget_spine _ _).trans ?_ | with_reducible refine (setCore_spine _ _ _).trans ?_ | with_reducible refine (setTmplRun_spine _ _ _).trans ?_ | intro _)

theorem execWcetBudgetReached_spine : ∀ a0 a1, Keeps (execWcetBudgetReached a0 a1) a1 := by
  intro a0 a1
  unfold execWcetBudgetReached
  repeat' (first | with_reducible rfl | with_reducible refine spine_ite ?_ ?_ | with_reducible refine keeps_ite ?_ ?_ | with_reducible refine keeps_done ?_ | with_reducible refine (advanceTo_spine _ _).trans ?_ | with_reducible refine (count_spine _ _).trans ?_ | with_reducible refine (schemeSkipNext_spine _ _).trans ?_ | with_reducible refine (setCore_spine _ _ _).trans ?_ | with_reducible refine (setIrq_spine _ _).trans ?_ | with_reducible refine (traceOverrun_spine _ _ _ _ _).trans ?_ | intro _ | split | (dsimp only; split))

theorem writeProduced_spine : ∀ a0 a1 a2 a3 a4, (writeProduced a0 a1 a2 a3 a4).spine = a4.spine := by
  intro a0 a1 a2 a3 a4
  unfold writeProduced
  repeat' (first | with_reducible rfl | with_reducible refine (count_spine _ _).trans ?_ | with_reducible refine (operandWritten_spine _ _ _ _).trans ?_ | refine (takeCell_spine _ _ _ _ _ _ (by assumption)).trans ?_ | intro _ | split | (dsimp only; split))

theorem writeOperandOf_spine : ∀ a0 a1 a2 a3, (writeOperandOf a0 a1 a2 a3).spine = a3.spine := by
  intro a0 a1 a2 a3
  unfold writeOperandOf
  repeat' (first | with_reducible rfl | with_reducible refine spine_ite ?_ ?_ | with_reducible refine (writeProduced_spine _ _ _ _ _).trans ?_ | intro _)

end Sys2Proof.Machine
end

