-- ==== Sys2Proof/Laws/SpineFilter.lean ====
section
/-! SUPPORT. What each definition of Machine/Filter leaves as it was: the waiting commands, the power state and its rails
(`State.spine`). -/

namespace Sys2Proof.Machine

theorem countIf_spine : ∀ a0 a1 a2, (countIf a0 a1 a2).spine = a2.spine := by
  intro a0 a1 a2
  unfold countIf
  repeat' (first | with_reducible rfl | with_reducible refine spine_ite ?_ ?_ | with_reducible refine (count_spine _ _).trans ?_ | intro _)

theorem fciOutput_spine : ∀ a0 a1 a2 a3 a4 a5 a6 a7 a8, (fciOutput a0 a1 a2 a3 a4 a5 a6 a7 a8).2.spine = a8.spine := by
  intro a0 a1 a2 a3 a4 a5 a6 a7 a8
  unfold fciOutput
  repeat' (first | with_reducible rfl | with_reducible refine spine_ite_snd ?_ ?_ | with_reducible refine (countIf_spine _ _ _).trans ?_ | intro _ | split | (dsimp only; split))

theorem setFilter_spine : ∀ a0 a1 a2, (setFilter a0 a1 a2).spine = a2.spine := by
  intro a0 a1 a2
  unfold setFilter
  repeat' (first | with_reducible rfl | intro _ | with_reducible refine spine_mk rfl rfl rfl rfl ?_)

theorem stepDetect_spine : ∀ a0 a1 a2 a3 a4 a5 a6, (stepDetect a0 a1 a2 a3 a4 a5 a6).spine = a6.spine := by
  intro a0 a1 a2 a3 a4 a5 a6
  unfold stepDetect
  repeat' (first | with_reducible rfl | with_reducible refine spine_ite ?_ ?_ | with_reducible refine (countBy_spine _ _ _).trans ?_ | with_reducible refine (setFilter_spine _ _ _).trans ?_ | with_reducible refine foldl_spine ?_ ?_ | intro _ | split | (dsimp only; split))

theorem consumeSample_spine : ∀ a0 a1 a2 a3 a4 a5, (consumeSample a0 a1 a2 a3 a4 a5).spine = a4.spine := by
  intro a0 a1 a2 a3 a4 a5
  unfold consumeSample
  repeat' (first | with_reducible rfl | with_reducible refine spine_ite ?_ ?_ | with_reducible refine (count_spine _ _).trans ?_ | with_reducible refine (countBy_spine _ _ _).trans ?_ | with_reducible refine (setFilter_spine _ _ _).trans ?_ | with_reducible refine (setStream_spine _ _ _).trans ?_ | with_reducible refine (streamGood_spine _ _ _).trans ?_ | with_reducible refine (streamMiss_spine _ _ _ _).trans ?_ | intro _ | split | (dsimp only; split))

theorem stagingCell_spine : ∀ a0 a1 a2 a3, ∀ t, stagingCell a0 a1 a2 a3 = some t → t.spine = a3.spine := by
  intro a0 a1 a2 a3 t h
  unfold stagingCell at h
  split at h
  · cases h; rfl
  · exact takeCell_spine _ _ _ _ _ _ h

theorem filterRelease_spine : ∀ a0 a1 a2 a3 a4 a5, (filterRelease a0 a1 a2 a3 a4 a5).spine = a5.spine := by
  intro a0 a1 a2 a3 a4 a5
  unfold filterRelease
  repeat' (first | with_reducible rfl | with_reducible refine (consumeSample_spine _ _ _ _ _ _).trans ?_ | with_reducible refine (releaseTask_spine _ _ _ _ _ _).trans ?_ | with_reducible refine (setFilter_spine _ _ _).trans ?_ | refine (stagingCell_spine _ _ _ _ _ (by assumption)).trans ?_ | with_reducible refine (streamRefused_spine _ _).trans ?_ | with_reducible refine foldl_spine ?_ ?_ | intro _ | split | (dsimp only; split))

theorem filterReady_spine : ∀ a0 a1 a2 a3 a4 a5, (filterReady a0 a1 a2 a3 a4 a5).spine = a5.spine := by
  intro a0 a1 a2 a3 a4 a5
  fun_induction filterReady a0 a1 a2 a3 a4 a5
  all_goals repeat' (first | with_reducible rfl | refine Eq.trans (by assumption) ?_ | with_reducible refine (filterRelease_spine _ _ _ _ _ _).trans ?_ | intro _)

theorem filterDrain_spine : ∀ a0 a1 a2 a3 a4, (filterDrain a0 a1 a2 a3 a4).spine = a4.spine := by
  intro a0 a1 a2 a3 a4
  unfold filterDrain
  repeat' (first | with_reducible rfl | with_reducible refine (filterReady_spine _ _ _ _ _ _).trans ?_ | intro _)

theorem filterUpTo_spine : ∀ a0 a1 a2 a3 a4 a5 a6 a7, (filterUpTo a0 a1 a2 a3 a4 a5 a6 a7).spine = a7.spine := by
  intro a0 a1 a2 a3 a4 a5 a6 a7
  fun_induction filterUpTo a0 a1 a2 a3 a4 a5 a6 a7
  all_goals repeat' (first | with_reducible rfl | refine Eq.trans (by assumption) ?_ | with_reducible refine (filterRelease_spine _ _ _ _ _ _).trans ?_ | intro _)

theorem releaseIssue_spine : ∀ a0 a1 a2 a3, (releaseIssue a0 a1 a2 a3).spine = a3.spine := by
  intro a0 a1 a2 a3
  unfold releaseIssue
  repeat' (first | with_reducible rfl | with_reducible refine (filterDrain_spine _ _ _ _ _).trans ?_ | with_reducible refine (filterUpTo_spine _ _ _ _ _ _ _ _).trans ?_ | intro _ | split | (dsimp only; split))

theorem filterEval_spine : ∀ a0 a1, (filterEval a0 a1).2.spine = a1.spine := by
  intro a0 a1
  unfold filterEval
  repeat' (first | with_reducible rfl | with_reducible refine (fciOutput_spine _ _ _ _ _ _ _ _ _).trans ?_ | with_reducible refine (stepDetect_spine _ _ _ _ _ _ _).trans ?_ | with_reducible refine foldl_spine2 ?_ ?_ | intro _ | split | (dsimp only; split))

theorem filterPut_spine : ∀ a0 a1 a2, (filterPut a0 a1 a2).spine = a2.spine := by
  intro a0 a1 a2
  unfold filterPut
  repeat' (first | with_reducible rfl | with_reducible refine spine_ite ?_ ?_ | with_reducible refine (operandWritten_spine _ _ _ _).trans ?_ | intro _ | split | (dsimp only; split) | with_reducible refine spine_mk rfl rfl rfl rfl ?_)

theorem filterWrite_spine : ∀ a0 a1, (filterWrite a0 a1).spine = a1.spine := by
  intro a0 a1
  unfold filterWrite
  repeat' (first | with_reducible rfl | with_reducible refine (filterEval_spine _ _).trans ?_ | with_reducible refine (filterPut_spine _ _ _).trans ?_ | intro _)

theorem filterDropped_spine : ∀ a0 a1, (filterDropped a0 a1).spine = a1.spine := by
  intro a0 a1
  unfold filterDropped
  repeat' (first | with_reducible rfl | with_reducible refine (cellSweep_spine _).trans ?_ | with_reducible refine (setFilter_spine _ _ _).trans ?_ | intro _ | split | (dsimp only; split) | with_reducible refine spine_mk rfl rfl rfl rfl ?_)

theorem refBusUpdate_spine : ∀ a0 a1 a2, (refBusUpdate a0 a1 a2).spine = a2.spine := by
  intro a0 a1 a2
  unfold refBusUpdate
  repeat' (first | with_reducible rfl | with_reducible refine spine_ite ?_ ?_ | with_reducible refine (count_spine _ _).trans ?_ | with_reducible refine (refSample_spine _ _).trans ?_ | intro _ | split | (dsimp only; split))

end Sys2Proof.Machine
end

