-- ==== Sys2Proof/Laws/SpineCapture.lean ====
section
/-! SUPPORT. What each definition of Machine/Capture leaves as it was: the waiting commands, the power state and its rails
(`State.spine`). -/

namespace Sys2Proof.Machine

theorem setCap_spine : ∀ a0 a1 a2, (setCap a0 a1 a2).spine = a2.spine := by
  intro a0 a1 a2
  unfold setCap
  repeat' (first | with_reducible rfl | intro _ | with_reducible refine spine_mk rfl rfl rfl rfl ?_)

theorem capDone_spine : ∀ a0 a1 a2, (capDone a0 a1 a2).spine = a2.spine := by
  intro a0 a1 a2
  unfold capDone
  repeat' (first | with_reducible rfl | with_reducible refine (setCap_spine _ _ _).trans ?_ | intro _ | split | (dsimp only; split))

theorem capDrain_spine : ∀ a0 a1 a2, (capDrain a0 a1 a2).spine = a2.spine := by
  intro a0 a1 a2
  fun_induction capDrain a0 a1 a2
  all_goals repeat' (first | with_reducible rfl | refine Eq.trans (by assumption) ?_ | with_reducible refine (capDone_spine _ _ _).trans ?_ | with_reducible refine (oqForget_spine _ _).trans ?_ | with_reducible refine (oqPut_spine _ _ _ _).trans ?_ | with_reducible refine (oqStall_spine _ _ _ _).trans ?_ | with_reducible refine (setCap_spine _ _ _).trans ?_ | intro _ | split | (dsimp only; split))

theorem capEmit_spine : ∀ a0 a1 a2 a3 a4, (capEmit a0 a1 a2 a3 a4).spine = a4.spine := by
  intro a0 a1 a2 a3 a4
  unfold capEmit
  repeat' (first | with_reducible rfl | with_reducible refine spine_ite ?_ ?_ | with_reducible refine (capDrain_spine _ _ _).trans ?_ | with_reducible refine (countBy_spine _ _ _).trans ?_ | with_reducible refine (setCap_spine _ _ _).trans ?_ | intro _ | split | (dsimp only; split))

theorem nextPkt_spine : ∀ a0 a1, (nextPkt a0 a1).2.spine = a1.spine := by
  intro a0 a1
  unfold nextPkt
  repeat' (first | with_reducible rfl | with_reducible refine (setCap_spine _ _ _).trans ?_ | intro _ | split | (dsimp only; split))

theorem capChained_spine : ∀ a0 a1 a2 a3, (capChained a0 a1 a2 a3).spine = a3.spine := by
  intro a0 a1 a2 a3
  unfold capChained
  repeat' (first | with_reducible rfl | with_reducible refine (capEmit_spine _ _ _ _ _).trans ?_ | with_reducible refine (setCap_spine _ _ _).trans ?_ | intro _ | split | (dsimp only; split))

theorem sealCap_spine : ∀ a0 a1, (sealCap a0 a1).spine = a1.spine := by
  intro a0 a1
  unfold sealCap
  repeat' (first | with_reducible rfl | with_reducible refine spine_ite ?_ ?_ | with_reducible refine (capEmit_spine _ _ _ _ _).trans ?_ | with_reducible refine (count_spine _ _).trans ?_ | with_reducible refine (nextPkt_spine _ _).trans ?_ | with_reducible refine (setCap_spine _ _ _).trans ?_ | with_reducible refine (useRefused_spine _).trans ?_ | intro _ | split | (dsimp only; split))

theorem execClassPSeal_spine : ∀ a0 a1, Keeps (execClassPSeal a0 a1) a1 := by
  intro a0 a1
  unfold execClassPSeal
  repeat' (first | with_reducible rfl | with_reducible refine keeps_ite ?_ ?_ | with_reducible refine keeps_done ?_ | with_reducible refine (advanceTo_spine _ _).trans ?_ | with_reducible refine (sealCap_spine _ _).trans ?_ | with_reducible refine (setCap_spine _ _ _).trans ?_ | intro _ | split | (dsimp only; split))

theorem ringSlotWrite_spine : ∀ a0 a1 a2, (ringSlotWrite a0 a1 a2).spine = a2.spine := by
  intro a0 a1 a2
  unfold ringSlotWrite
  repeat' (first | with_reducible rfl | intro _ | split | (dsimp only; split) | with_reducible refine spine_mk rfl rfl rfl rfl ?_)

theorem execCapRingMarker_spine : ∀ a0 a1 a2, Keeps (execCapRingMarker a0 a1 a2) a2 := by
  intro a0 a1 a2
  unfold execCapRingMarker
  repeat' (first | with_reducible rfl | with_reducible refine keeps_ite ?_ ?_ | with_reducible refine keeps_done ?_ | with_reducible refine (advanceTo_spine _ _).trans ?_ | with_reducible refine (ringSlotWrite_spine _ _ _).trans ?_ | intro _ | split | (dsimp only; split))

theorem ringTake_spine : ∀ a0 a1 a2 a3 a4 a5, (ringTake a0 a1 a2 a3 a4 a5).spine = a5.spine := by
  intro a0 a1 a2 a3 a4 a5
  unfold ringTake
  repeat' (first | with_reducible rfl | with_reducible refine spine_ite ?_ ?_ | with_reducible refine (count_spine _ _).trans ?_ | with_reducible refine (ringSlotWrite_spine _ _ _).trans ?_ | intro _ | split | (dsimp only; split))

theorem openRecord_spine : ∀ a0 a1 a2 a3, (openRecord a0 a1 a2 a3).spine = a3.spine := by
  intro a0 a1 a2 a3
  unfold openRecord
  repeat' (first | with_reducible rfl | with_reducible refine (setCap_spine _ _ _).trans ?_ | intro _ | split | (dsimp only; split))

theorem closeRecord_spine : ∀ a0 a1, (closeRecord a0 a1).spine = a1.spine := by
  intro a0 a1
  unfold closeRecord
  repeat' (first | with_reducible rfl | with_reducible refine spine_ite ?_ ?_ | with_reducible refine (capEmit_spine _ _ _ _ _).trans ?_ | with_reducible refine (count_spine _ _).trans ?_ | with_reducible refine (countBy_spine _ _ _).trans ?_ | with_reducible refine (setCap_spine _ _ _).trans ?_ | with_reducible refine (useRefused_spine _).trans ?_ | intro _ | split | (dsimp only; split))

theorem execCapRecordClose_spine : ∀ a0 a1, Keeps (execCapRecordClose a0 a1) a1 := by
  intro a0 a1
  unfold execCapRecordClose
  repeat' (first | with_reducible rfl | with_reducible refine spine_ite ?_ ?_ | with_reducible refine keeps_ite ?_ ?_ | with_reducible refine keeps_done ?_ | with_reducible refine (advanceTo_spine _ _).trans ?_ | with_reducible refine (closeRecord_spine _ _).trans ?_ | intro _ | split | (dsimp only; split))

theorem closeSegments_spine : ∀ a0 a1 a2, (closeSegments a0 a1 a2).spine = a2.spine := by
  intro a0 a1 a2
  unfold closeSegments
  repeat' (first | with_reducible rfl | with_reducible refine spine_ite ?_ ?_ | with_reducible refine (capChained_spine _ _ _ _).trans ?_ | with_reducible refine (countBy_spine _ _ _).trans ?_ | with_reducible refine (nextPkt_spine _ _).trans ?_ | with_reducible refine (setCap_spine _ _ _).trans ?_ | with_reducible refine foldl_spine ?_ ?_ | intro _ | split | (dsimp only; split))

theorem archiveWork_spine : ∀ a0 a1 a2, (archiveWork a0 a1 a2).spine = a2.spine := by
  intro a0 a1 a2
  unfold archiveWork
  repeat' (first | with_reducible rfl | with_reducible refine spine_ite ?_ ?_ | with_reducible refine (closeSegments_spine _ _ _).trans ?_ | with_reducible refine (setCap_spine _ _ _).trans ?_ | intro _ | split | (dsimp only; split))

theorem lateLane_spine : ∀ a0 a1 a2 a3 a4, (lateLane a0 a1 a2 a3 a4).spine = a4.spine := by
  intro a0 a1 a2 a3 a4
  unfold lateLane
  repeat' (first | with_reducible rfl | with_reducible refine spine_ite ?_ ?_ | with_reducible refine (count_spine _ _).trans ?_ | with_reducible refine (nextPkt_spine _ _).trans ?_ | with_reducible refine (oqNoWait_spine _ _ _ _).trans ?_ | with_reducible refine (setCap_spine _ _ _).trans ?_ | with_reducible refine foldl_spine ?_ ?_ | intro _ | split | (dsimp only; split))

theorem writeMark_spine : ∀ a0 a1 a2, (writeMark a0 a1 a2).spine = a2.spine := by
  intro a0 a1 a2
  unfold writeMark
  repeat' (first | with_reducible rfl | with_reducible refine (capChained_spine _ _ _ _).trans ?_ | with_reducible refine (nextPkt_spine _ _).trans ?_ | intro _ | split | (dsimp only; split))

theorem acceptTrigger_spine : ∀ a0 a1 a2 a3, (acceptTrigger a0 a1 a2 a3).spine = a3.spine := by
  intro a0 a1 a2 a3
  unfold acceptTrigger
  repeat' (first | with_reducible rfl | with_reducible refine spine_ite ?_ ?_ | with_reducible refine (addPhase_spine _ _ _ _).trans ?_ | with_reducible refine (count_spine _ _).trans ?_ | with_reducible refine (openRecord_spine _ _ _ _).trans ?_ | with_reducible refine (setCap_spine _ _ _).trans ?_ | with_reducible refine (writeMark_spine _ _ _).trans ?_ | intro _ | split | (dsimp only; split) | with_reducible refine spine_mk rfl rfl rfl rfl ?_)

theorem triggerCap_spine : ∀ a0 a1 a2 a3, (triggerCap a0 a1 a2 a3).1.spine = a3.spine := by
  intro a0 a1 a2 a3
  unfold triggerCap
  repeat' (first | with_reducible rfl | with_reducible refine spine_ite_fst ?_ ?_ | with_reducible refine (acceptTrigger_spine _ _ _ _).trans ?_ | with_reducible refine (count_spine _ _).trans ?_ | with_reducible refine (setCap_spine _ _ _).trans ?_ | intro _ | split | (dsimp only; split))

theorem triggerAll_spine : ∀ a0 a1 a2, (triggerAll a0 a1 a2).spine = a2.spine := by
  intro a0 a1 a2
  unfold triggerAll
  repeat' (first | with_reducible rfl | with_reducible refine spine_ite ?_ ?_ | with_reducible refine (triggerCap_spine _ _ _ _).trans ?_ | with_reducible refine foldl_spine ?_ ?_ | intro _)

theorem crossTrigger_spine : ∀ a0 a1 a2, (crossTrigger a0 a1 a2).spine = a2.spine := by
  intro a0 a1 a2
  unfold crossTrigger
  repeat' (first | with_reducible rfl | with_reducible refine spine_ite ?_ ?_ | with_reducible refine (addPhase_spine _ _ _ _).trans ?_ | with_reducible refine (openRecord_spine _ _ _ _).trans ?_ | with_reducible refine (setCap_spine _ _ _).trans ?_ | with_reducible refine (writeMark_spine _ _ _).trans ?_ | intro _ | split | (dsimp only; split))

theorem captureTaken_spine : ∀ a0 a1 a2 a3 a4 a5 a6 a7 a8, (captureTaken a0 a1 a2 a3 a4 a5 a6 a7 a8).spine = a8.spine := by
  intro a0 a1 a2 a3 a4 a5 a6 a7 a8
  unfold captureTaken
  repeat' (first | with_reducible rfl | with_reducible refine spine_ite ?_ ?_ | with_reducible refine (openRecord_spine _ _ _ _).trans ?_ | with_reducible refine (triggerCap_spine _ _ _ _).trans ?_ | intro _)

theorem armCap_spine : ∀ a0 a1 a2, (armCap a0 a1 a2).spine = a2.spine := by
  intro a0 a1 a2
  unfold armCap
  repeat' (first | with_reducible rfl | with_reducible refine spine_ite ?_ ?_ | with_reducible refine (closeSegments_spine _ _ _).trans ?_ | with_reducible refine (sealCap_spine _ _).trans ?_ | with_reducible refine (setCap_spine _ _ _).trans ?_ | intro _ | split | (dsimp only; split))

theorem deliverOne_spine : ∀ a0 a1 a2, (deliverOne a0 a1 a2).spine = a1.spine := by
  intro a0 a1 a2
  unfold deliverOne
  repeat' (first | with_reducible rfl | with_reducible refine spine_ite ?_ ?_ | with_reducible refine (capChained_spine _ _ _ _).trans ?_ | with_reducible refine (capEmit_spine _ _ _ _ _).trans ?_ | intro _ | split | (dsimp only; split))

theorem deliverShadow_spine : ∀ a0, (deliverShadow a0).spine = a0.spine := by
  intro a0
  unfold deliverShadow
  repeat' (first | with_reducible rfl | with_reducible refine (deliverOne_spine _ _ _).trans ?_ | with_reducible refine (setCap_spine _ _ _).trans ?_ | with_reducible refine foldl_spine ?_ ?_ | intro _ | split | (dsimp only; split))

theorem confirmShadow_spine : ∀ a0 a1 a2, (confirmShadow a0 a1 a2).spine = a2.spine := by
  intro a0 a1 a2
  unfold confirmShadow
  repeat' (first | with_reducible rfl | with_reducible refine (setCap_spine _ _ _).trans ?_ | intro _ | split | (dsimp only; split))

end Sys2Proof.Machine
end

