-- ==== Sys2Proof/Laws/SpineNet.lean ====
section
/-! SUPPORT. What each definition of Machine/Net leaves as it was: the waiting commands, the power state and its rails
(`State.spine`). -/

namespace Sys2Proof.Machine

theorem setRing_spine : ∀ a0 a1 a2 a3, (setRing a0 a1 a2 a3).spine = a3.spine := by
  intro a0 a1 a2 a3
  unfold setRing
  repeat' (first | with_reducible rfl | with_reducible refine (setPort_spine _ _ _).trans ?_ | intro _)

theorem pfcXoff_spine : ∀ a0 a1 a2, (pfcXoff a0 a1 a2).spine = a2.spine := by
  intro a0 a1 a2
  unfold pfcXoff
  repeat' (first | with_reducible rfl | with_reducible refine (countPort_spine _ _ _).trans ?_ | with_reducible refine (emit_spine _ _).trans ?_ | intro _)

theorem pauseFor_spine : ∀ a0 a1 a2 a3, (pauseFor a0 a1 a2 a3).spine = a3.spine := by
  intro a0 a1 a2 a3
  unfold pauseFor
  repeat' (first | with_reducible rfl | with_reducible refine spine_ite ?_ ?_ | with_reducible refine (pfcXoff_spine _ _ _).trans ?_ | with_reducible refine (setPort_spine _ _ _).trans ?_ | intro _)

theorem releaseFor_spine : ∀ a0 a1 a2 a3, (releaseFor a0 a1 a2 a3).spine = a3.spine := by
  intro a0 a1 a2 a3
  unfold releaseFor
  repeat' (first | with_reducible rfl | with_reducible refine spine_ite ?_ ?_ | with_reducible refine (emit_spine _ _).trans ?_ | with_reducible refine (setPort_spine _ _ _).trans ?_ | intro _)

theorem ringPause_spine : ∀ a0 a1 a2, (ringPause a0 a1 a2).spine = a2.spine := by
  intro a0 a1 a2
  unfold ringPause
  repeat' (first | with_reducible rfl | with_reducible refine spine_ite ?_ ?_ | with_reducible refine (pauseFor_spine _ _ _ _).trans ?_ | with_reducible refine (releaseFor_spine _ _ _ _).trans ?_ | with_reducible refine foldl_spine ?_ ?_ | intro _)

theorem rxDeliver_spine : ∀ a0 a1 a2 a3, (rxDeliver a0 a1 a2 a3).spine = a3.spine := by
  intro a0 a1 a2 a3
  unfold rxDeliver
  repeat' (first | with_reducible rfl | with_reducible refine spine_ite ?_ ?_ | with_reducible refine (countPort_spine _ _ _).trans ?_ | with_reducible refine (emit_spine _ _).trans ?_ | with_reducible refine (netIrq_spine _ _ _).trans ?_ | with_reducible refine (ringPause_spine _ _ _).trans ?_ | with_reducible refine (setRing_spine _ _ _ _).trans ?_ | intro _)

theorem prpTake_spine : ∀ a0 a1 a2 a3, (prpTake a0 a1 a2 a3).2.spine = a3.spine := by
  intro a0 a1 a2 a3
  unfold prpTake
  repeat' (first | with_reducible rfl | with_reducible refine spine_ite_snd ?_ ?_ | with_reducible refine (countPort_spine _ _ _).trans ?_ | with_reducible refine (setPort_spine _ _ _).trans ?_ | intro _ | split | (dsimp only; split))

theorem bufferXoff_spine : ∀ a0 a1 a2 a3, (bufferXoff a0 a1 a2 a3).spine = a3.spine := by
  intro a0 a1 a2 a3
  unfold bufferXoff
  repeat' (first | with_reducible rfl | with_reducible refine spine_ite ?_ ?_ | with_reducible refine (pauseFor_spine _ _ _ _).trans ?_ | intro _ | refine spine_snd (by assumption) ?_ | refine spine_fst (by assumption) ?_ | refine spine_snd2 (by assumption) ?_ | refine spine_snd3 (by assumption) ?_)

theorem macTake_spine : ∀ a0 a1 a2 a3 a4 a5 a6 a7, (macTake a0 a1 a2 a3 a4 a5 a6 a7).2.spine = a7.spine := by
  intro a0 a1 a2 a3 a4 a5 a6 a7
  unfold macTake
  repeat' (first | with_reducible rfl | with_reducible refine spine_ite ?_ ?_ | with_reducible refine spine_ite_snd ?_ ?_ | with_reducible refine (advanceTo_spine _ _).trans ?_ | with_reducible refine (bufferXoff_spine _ _ _ _).trans ?_ | with_reducible refine (countPort_spine _ _ _).trans ?_ | with_reducible refine (prpTake_spine _ _ _ _).trans ?_ | intro _ | split | (dsimp only; split) | refine spine_snd (by assumption) ?_ | refine spine_fst (by assumption) ?_ | refine spine_snd2 (by assumption) ?_ | refine spine_snd3 (by assumption) ?_)

theorem mirrorOut_spine : ∀ a0 a1 a2 a3 a4, (mirrorOut a0 a1 a2 a3 a4).spine = a4.spine := by
  intro a0 a1 a2 a3 a4
  unfold mirrorOut
  repeat' (first | with_reducible rfl | with_reducible refine spine_ite ?_ ?_ | with_reducible refine (count_spine _ _).trans ?_ | with_reducible refine (emit_spine _ _).trans ?_ | intro _ | with_reducible refine spine_mk rfl rfl rfl rfl ?_)

theorem svcInput_spine : ∀ a0 a1 a2 a3 a4 a5, (svcInput a0 a1 a2 a3 a4 a5).2.spine = a5.spine := by
  intro a0 a1 a2 a3 a4 a5
  unfold svcInput
  repeat' (first | with_reducible rfl | with_reducible refine spine_ite_snd ?_ ?_ | with_reducible refine (count_spine _ _).trans ?_ | with_reducible refine (mirrorOut_spine _ _ _ _ _).trans ?_ | intro _)

theorem neighLearn_spine : ∀ a0 a1 a2 a3, (neighLearn a0 a1 a2 a3).spine = a3.spine := by
  intro a0 a1 a2 a3
  unfold neighLearn
  repeat' (first | with_reducible rfl | with_reducible refine spine_ite ?_ ?_ | with_reducible refine (count_spine _ _).trans ?_ | with_reducible refine (setPort_spine _ _ _).trans ?_ | intro _)

theorem addressed_spine : ∀ a0 a1 a2, (addressed a0 a1 a2).2.spine = a2.spine := by
  intro a0 a1 a2
  unfold addressed
  repeat' (first | with_reducible rfl | with_reducible refine spine_ite_snd ?_ ?_ | with_reducible refine (setPort_spine _ _ _).trans ?_ | intro _ | split | (dsimp only; split))

theorem txIpFrame_spine : ∀ a0 a1 a2 a3 a4 a5, (txIpFrame a0 a1 a2 a3 a4 a5).spine = a5.spine := by
  intro a0 a1 a2 a3 a4 a5
  unfold txIpFrame
  repeat' (first | with_reducible rfl | with_reducible refine (addressed_spine _ _ _).trans ?_ | with_reducible refine (countPort_spine _ _ _).trans ?_ | with_reducible refine (txFrame_spine _ _ _ _).trans ?_ | intro _ | split | (dsimp only; split) | refine spine_snd (by assumption) ?_)

theorem txIp_spine : ∀ a0 a1 a2, (txIp a0 a1 a2).spine = a2.spine := by
  intro a0 a1 a2
  unfold txIp
  repeat' (first | with_reducible rfl | with_reducible refine (txIpFrame_spine _ _ _ _ _ _).trans ?_ | intro _)

theorem prpAdvance_spine : ∀ a0 a1, (prpAdvance a0 a1).spine = a1.spine := by
  intro a0 a1
  unfold prpAdvance
  repeat' (first | with_reducible rfl | with_reducible refine (setPort_spine _ _ _).trans ?_ | intro _)

theorem txOut_spine : ∀ a0 a1 a2 a3 a4 a5, (txOut a0 a1 a2 a3 a4 a5).spine = a5.spine := by
  intro a0 a1 a2 a3 a4 a5
  unfold txOut
  repeat' (first | with_reducible rfl | with_reducible refine spine_ite ?_ ?_ | with_reducible refine (prpAdvance_spine _ _).trans ?_ | with_reducible refine (txIpFrame_spine _ _ _ _ _ _).trans ?_ | intro _)

end Sys2Proof.Machine
end

