-- ==== Sys2Proof/Laws/SpineDetect.lean ====
section
/-! SUPPORT. What each definition of Machine/Detect leaves as it was: the waiting commands, the power state and its rails
(`State.spine`). -/

namespace Sys2Proof.Machine

theorem setDet_spine : ∀ a0 a1 a2, (setDet a0 a1 a2).spine = a2.spine := by
  intro a0 a1 a2
  unfold setDet
  repeat' (first | with_reducible rfl | intro _ | with_reducible refine spine_mk rfl rfl rfl rfl ?_)

theorem alarmPin_spine : ∀ a0, (alarmPin a0).spine = a0.spine := by
  intro a0
  unfold alarmPin
  repeat' (first | with_reducible rfl | with_reducible refine spine_ite ?_ ?_ | with_reducible refine (emit_spine _ _).trans ?_ | intro _ | with_reducible refine spine_mk rfl rfl rfl rfl ?_)

theorem detDatagram_spine : ∀ a0 a1 a2, (detDatagram a0 a1 a2).spine = a2.spine := by
  intro a0 a1 a2
  unfold detDatagram
  repeat' (first | with_reducible rfl | with_reducible refine spine_ite ?_ ?_ | with_reducible refine (count_spine _ _).trans ?_ | with_reducible refine (txIp_spine _ _ _).trans ?_ | with_reducible refine (useRefused_spine _).trans ?_ | intro _ | split | (dsimp only; split))

theorem detRecorder_spine : ∀ a0 a1 a2 a3 a4, (detRecorder a0 a1 a2 a3 a4).spine = a4.spine := by
  intro a0 a1 a2 a3 a4
  unfold detRecorder
  repeat' (first | with_reducible rfl | with_reducible refine spine_ite ?_ ?_ | with_reducible refine (count_spine _ _).trans ?_ | with_reducible refine (recAdd_spine _ _ _ _ _ _ _ _ _ _).trans ?_ | with_reducible refine (setDet_spine _ _ _).trans ?_ | intro _)

theorem issueRecord_spine : ∀ a0 a1 a2 a3 a4 a5, (issueRecord a0 a1 a2 a3 a4 a5).2.spine = a5.spine := by
  intro a0 a1 a2 a3 a4 a5
  unfold issueRecord
  repeat' (first | with_reducible rfl | with_reducible refine spine_ite ?_ ?_ | with_reducible refine spine_ite_snd ?_ ?_ | with_reducible refine (alarmPin_spine _).trans ?_ | with_reducible refine (count_spine _ _).trans ?_ | with_reducible refine (detDatagram_spine _ _ _).trans ?_ | with_reducible refine (detRecorder_spine _ _ _ _ _).trans ?_ | with_reducible refine (raiseVector_spine _ _).trans ?_ | with_reducible refine (setDet_spine _ _ _).trans ?_ | with_reducible refine (triggerAll_spine _ _ _).trans ?_ | intro _)

theorem issueAll_spine : ∀ a0 a1 a2 a3 a4 a5, (issueAll a0 a1 a2 a3 a4 a5).2.spine = a5.spine := by
  intro a0 a1 a2 a3 a4 a5
  unfold issueAll
  repeat' (first | with_reducible rfl | with_reducible refine (issueRecord_spine _ _ _ _ _ _).trans ?_ | with_reducible refine foldl_spine2 ?_ ?_ | intro _ | split | (dsimp only; split))

theorem detWork_spine : ∀ a0 a1, (detWork a0 a1).1.spine = a1.spine := by
  intro a0 a1
  unfold detWork
  repeat' (first | with_reducible rfl | with_reducible refine (count_spine _ _).trans ?_ | with_reducible refine (countBy_spine _ _ _).trans ?_ | with_reducible refine (issueAll_spine _ _ _ _ _ _).trans ?_ | with_reducible refine (setDet_spine _ _ _).trans ?_ | intro _ | split | (dsimp only; split))

theorem detDropped_spine : ∀ a0 a1, (detDropped a0 a1).spine = a1.spine := by
  intro a0 a1
  unfold detDropped
  repeat' (first | with_reducible rfl | with_reducible refine spine_ite ?_ ?_ | with_reducible refine (count_spine _ _).trans ?_ | with_reducible refine (issueAll_spine _ _ _ _ _ _).trans ?_ | with_reducible refine (oqNoWait_spine _ _ _ _).trans ?_ | with_reducible refine (setDet_spine _ _ _).trans ?_ | with_reducible refine foldl_spine ?_ ?_ | intro _ | split | (dsimp only; split))

theorem detAckLatch_spine : ∀ a0 a1, (detAckLatch a0 a1).spine = a1.spine := by
  intro a0 a1
  unfold detAckLatch
  repeat' (first | with_reducible rfl | with_reducible refine (alarmPin_spine _).trans ?_ | intro _ | with_reducible refine spine_mk rfl rfl rfl rfl ?_)

theorem detStop_spine : ∀ a0, (detStop a0).spine = a0.spine := by
  intro a0
  unfold detStop
  repeat' (first | with_reducible rfl | with_reducible refine spine_ite ?_ ?_ | with_reducible refine (detAckLatch_spine _ _).trans ?_ | with_reducible refine (note_spine _ _ _ _ _ _ _).trans ?_ | intro _)

end Sys2Proof.Machine
end

