-- ==== Sys2Proof/Laws/SpineOutputs.lean ====
section
/-! SUPPORT. What each definition of Machine/Outputs leaves as it was: the waiting commands, the power state and its rails
(`State.spine`). -/

namespace Sys2Proof.Machine

theorem setOutRun_spine : ∀ a0 a1 a2, (setOutRun a0 a1 a2).spine = a2.spine := by
  intro a0 a1 a2
  unfold setOutRun
  repeat' (first | with_reducible rfl | intro _ | with_reducible refine spine_mk rfl rfl rfl rfl ?_)

theorem outSend_spine : ∀ a0 a1 a2 a3 a4 a5 a6, (outSend a0 a1 a2 a3 a4 a5 a6).spine = a6.spine := by
  intro a0 a1 a2 a3 a4 a5 a6
  unfold outSend
  repeat' (first | with_reducible rfl | with_reducible refine (txOut_spine _ _ _ _ _ _).trans ?_ | intro _)

theorem outDrain_spine : ∀ a0 a1, (outDrain a0 a1).spine = a1.spine := by
  intro a0 a1
  unfold outDrain
  repeat' (first | with_reducible rfl | with_reducible refine spine_ite ?_ ?_ | with_reducible refine (txDrain_spine _ _).trans ?_ | intro _)

theorem sendData_spine : ∀ a0 a1 a2 a3, (sendData a0 a1 a2 a3).spine = a3.spine := by
  intro a0 a1 a2 a3
  unfold sendData
  repeat' (first | with_reducible rfl | with_reducible refine spine_ite ?_ ?_ | with_reducible refine (outSend_spine _ _ _ _ _ _ _).trans ?_ | intro _)

theorem setPub_spine : ∀ a0 a1 a2, (setPub a0 a1 a2).spine = a2.spine := by
  intro a0 a1 a2
  unfold setPub
  repeat' (first | with_reducible rfl | intro _ | with_reducible refine spine_mk rfl rfl rfl rfl ?_)

theorem sendGoose_spine : ∀ a0 a1 a2 a3 a4, (sendGoose a0 a1 a2 a3 a4).spine = a4.spine := by
  intro a0 a1 a2 a3 a4
  unfold sendGoose
  repeat' (first | with_reducible rfl | with_reducible refine spine_ite ?_ ?_ | with_reducible refine (count_spine _ _).trans ?_ | with_reducible refine (drawFree_spine _).trans ?_ | with_reducible refine (outSend_spine _ _ _ _ _ _ _).trans ?_ | with_reducible refine (setPub_spine _ _ _).trans ?_ | with_reducible refine (useRefused_spine _).trans ?_ | intro _ | split | (dsimp only; split))

theorem publishState_spine : ∀ a0 a1 a2 a3 a4, (publishState a0 a1 a2 a3 a4).spine = a4.spine := by
  intro a0 a1 a2 a3 a4
  unfold publishState
  repeat' (first | with_reducible rfl | with_reducible refine (sendGoose_spine _ _ _ _ _).trans ?_ | with_reducible refine (setPub_spine _ _ _).trans ?_ | intro _)

theorem execRGooseRetransmit_spine : ∀ a0 a1, Keeps (execRGooseRetransmit a0 a1) a1 := by
  intro a0 a1
  unfold execRGooseRetransmit
  repeat' (first | with_reducible rfl | with_reducible refine keeps_done ?_ | with_reducible refine (advanceTo_spine _ _).trans ?_ | with_reducible refine (sendGoose_spine _ _ _ _ _).trans ?_ | with_reducible refine (setPub_spine _ _ _).trans ?_ | intro _ | split | (dsimp only; split))

theorem memberValue_spine : ∀ a0 a1 a2, (memberValue a0 a1 a2).2.spine = a2.spine := by
  intro a0 a1 a2
  unfold memberValue
  repeat' (first | with_reducible rfl | with_reducible refine (drawFree_spine _).trans ?_ | intro _ | split | (dsimp only; split))

theorem frameDone_spine : ∀ a0 a1 a2 a3, (frameDone a0 a1 a2 a3).spine = a3.spine := by
  intro a0 a1 a2 a3
  unfold frameDone
  repeat' (first | with_reducible rfl | with_reducible refine spine_ite ?_ ?_ | with_reducible refine (countPort_spine _ _ _).trans ?_ | with_reducible refine (sendData_spine _ _ _ _).trans ?_ | with_reducible refine (setOutRun_spine _ _ _).trans ?_ | intro _)

theorem outWork_spine : ∀ a0 a1, (outWork a0 a1).spine = a1.spine := by
  intro a0 a1
  unfold outWork
  repeat' (first | with_reducible rfl | with_reducible refine spine_ite ?_ ?_ | with_reducible refine (countBy_spine _ _ _).trans ?_ | with_reducible refine (countPort_spine _ _ _).trans ?_ | with_reducible refine (frameDone_spine _ _ _ _).trans ?_ | with_reducible refine (memberValue_spine _ _ _).trans ?_ | with_reducible refine (publishState_spine _ _ _ _ _).trans ?_ | with_reducible refine (setPub_spine _ _ _).trans ?_ | with_reducible refine foldl_spine2 ?_ ?_ | intro _ | split | (dsimp only; split))

theorem outDropped_spine : ∀ a0 a1, (outDropped a0 a1).spine = a1.spine := by
  intro a0 a1
  unfold outDropped
  repeat' (first | with_reducible rfl | with_reducible refine spine_ite ?_ ?_ | with_reducible refine (count_spine _ _).trans ?_ | with_reducible refine (setOutRun_spine _ _ _).trans ?_ | with_reducible refine (setPub_spine _ _ _).trans ?_ | intro _)

theorem publishStream_spine : ∀ a0 a1 a2 a3 a4 a5 a6, (publishStream a0 a1 a2 a3 a4 a5 a6).spine = a6.spine := by
  intro a0 a1 a2 a3 a4 a5 a6
  unfold publishStream
  repeat' (first | with_reducible rfl | with_reducible refine spine_ite ?_ ?_ | with_reducible refine (count_spine _ _).trans ?_ | with_reducible refine (countPort_spine _ _ _).trans ?_ | with_reducible refine (sendData_spine _ _ _ _).trans ?_ | with_reducible refine (setOutRun_spine _ _ _).trans ?_ | intro _ | split | (dsimp only; split))

theorem publishGoose_spine : ∀ a0 a1 a2 a3 a4 a5 a6, (publishGoose a0 a1 a2 a3 a4 a5 a6).spine = a6.spine := by
  intro a0 a1 a2 a3 a4 a5 a6
  unfold publishGoose
  repeat' (first | with_reducible rfl | with_reducible refine spine_ite ?_ ?_ | with_reducible refine (countPort_spine _ _ _).trans ?_ | with_reducible refine (publishState_spine _ _ _ _ _).trans ?_ | with_reducible refine (setPub_spine _ _ _).trans ?_ | intro _ | split | (dsimp only; split))

theorem publishDue_spine : ∀ a0 a1 a2 a3 a4 a5 a6, (publishDue a0 a1 a2 a3 a4 a5 a6).spine = a6.spine := by
  intro a0 a1 a2 a3 a4 a5 a6
  unfold publishDue
  repeat' (first | with_reducible rfl | with_reducible refine spine_ite ?_ ?_ | with_reducible refine (publishGoose_spine _ _ _ _ _ _ _).trans ?_ | with_reducible refine (publishStream_spine _ _ _ _ _ _ _).trans ?_ | intro _ | split | (dsimp only; split))

theorem publishAt_spine : ∀ a0 a1 a2, (publishAt a0 a1 a2).spine = a2.spine := by
  intro a0 a1 a2
  unfold publishAt
  repeat' (first | with_reducible rfl | with_reducible refine (outDrain_spine _ _).trans ?_ | with_reducible refine (publishDue_spine _ _ _ _ _ _ _).trans ?_ | intro _ | split | (dsimp only; split))

end Sys2Proof.Machine
end

