-- ==== Sys2Proof/Laws/SpineScheme.lean ====
section
/-! SUPPORT. What each definition of Machine/Scheme leaves as it was: the waiting commands, the power state and its rails
(`State.spine`). -/

namespace Sys2Proof.Machine

theorem setSch_spine : ∀ a0 a1 a2, (setSch a0 a1 a2).spine = a2.spine := by
  intro a0 a1 a2
  unfold setSch
  repeat' (first | with_reducible rfl | intro _ | with_reducible refine spine_mk rfl rfl rfl rfl ?_)

theorem wasOutDrive_spine : ∀ a0 a1 a2, (wasOutDrive a0 a1 a2).spine = a2.spine := by
  intro a0 a1 a2
  unfold wasOutDrive
  repeat' (first | with_reducible rfl | with_reducible refine spine_ite ?_ ?_ | with_reducible refine (emit_spine _ _).trans ?_ | intro _ | with_reducible refine spine_mk rfl rfl rfl rfl ?_)

theorem cancelPin_spine : ∀ a0 a1 a2, (cancelPin a0 a1 a2).spine = a2.spine := by
  intro a0 a1 a2
  unfold cancelPin
  repeat' (first | with_reducible rfl | with_reducible refine (countBy_spine _ _ _).trans ?_ | intro _ | split | (dsimp only; split) | with_reducible refine spine_mk rfl rfl rfl rfl ?_)

theorem pinOutput_spine : ∀ a0 a1 a2 a3 a4, (pinOutput a0 a1 a2 a3 a4).spine = a4.spine := by
  intro a0 a1 a2 a3 a4
  unfold pinOutput
  repeat' (first | with_reducible rfl | with_reducible refine spine_ite ?_ ?_ | with_reducible refine (addPhase_spine _ _ _ _).trans ?_ | with_reducible refine (cancelPin_spine _ _ _).trans ?_ | with_reducible refine (wasOutDrive_spine _ _ _).trans ?_ | intro _ | split | (dsimp only; split) | with_reducible refine spine_mk rfl rfl rfl rfl ?_)

theorem commandOutput_spine : ∀ a0 a1, (commandOutput a0 a1).spine = a1.spine := by
  intro a0 a1
  unfold commandOutput
  repeat' (first | with_reducible rfl | with_reducible refine spine_ite ?_ ?_ | with_reducible refine (count_spine _ _).trans ?_ | with_reducible refine (txIp_spine _ _ _).trans ?_ | intro _ | split | (dsimp only; split))

theorem stationOutputs_spine : ∀ a0 a1 a2, (stationOutputs a0 a1 a2).spine = a2.spine := by
  intro a0 a1 a2
  unfold stationOutputs
  repeat' (first | with_reducible rfl | with_reducible refine spine_ite ?_ ?_ | with_reducible refine (count_spine _ _).trans ?_ | with_reducible refine (publishState_spine _ _ _ _ _).trans ?_ | with_reducible refine foldl_spine ?_ ?_ | intro _ | split | (dsimp only; split))

theorem dropForces_spine : ∀ a0 a1 a2, (dropForces a0 a1 a2).spine = a2.spine := by
  intro a0 a1 a2
  unfold dropForces
  repeat' (first | with_reducible rfl | with_reducible refine (noteI_spine _ _ _ _ _ _ _ _).trans ?_ | with_reducible refine foldl_spine ?_ ?_ | intro _)

theorem schemeExchange_spine : ∀ a0 a1 a2 a3, (schemeExchange a0 a1 a2 a3).spine = a3.spine := by
  intro a0 a1 a2 a3
  unfold schemeExchange
  repeat' (first | with_reducible rfl | with_reducible refine (dropForces_spine _ _ _).trans ?_ | with_reducible refine (noteI_spine _ _ _ _ _ _ _ _).trans ?_ | with_reducible refine (setSch_spine _ _ _).trans ?_ | with_reducible refine foldl_spine ?_ ?_ | intro _ | split | (dsimp only; split))

theorem exchangeDue_spine : ∀ a0 a1, (exchangeDue a0 a1).spine = a1.spine := by
  intro a0 a1
  unfold exchangeDue
  repeat' (first | with_reducible rfl | with_reducible refine spine_ite ?_ ?_ | with_reducible refine (schemeExchange_spine _ _ _ _).trans ?_ | intro _ | split | (dsimp only; split))

theorem schemeWork_spine : ∀ a0 a1 a2 a3, (schemeWork a0 a1 a2 a3).1.spine = a3.spine := by
  intro a0 a1 a2 a3
  unfold schemeWork
  repeat' (first | with_reducible rfl | with_reducible refine spine_ite ?_ ?_ | with_reducible refine spine_ite_fst ?_ ?_ | with_reducible refine (commandOutput_spine _ _).trans ?_ | with_reducible refine (count_spine _ _).trans ?_ | with_reducible refine (countBy_spine _ _ _).trans ?_ | with_reducible refine (finalReply_spine _ _ _).trans ?_ | with_reducible refine (pinOutput_spine _ _ _ _ _).trans ?_ | with_reducible refine (setSch_spine _ _ _).trans ?_ | with_reducible refine (stationOutputs_spine _ _ _).trans ?_ | with_reducible refine foldl_spine ?_ ?_ | intro _ | split | (dsimp only; split))

theorem copyImage_spine : ∀ a0 a1, (copyImage a0 a1).spine = a1.spine := by
  intro a0 a1
  unfold copyImage
  repeat' (first | with_reducible rfl | with_reducible refine spine_ite ?_ ?_ | with_reducible refine (noteI_spine _ _ _ _ _ _ _ _).trans ?_ | with_reducible refine (setInactive_spine _ _).trans ?_ | intro _ | split | (dsimp only; split))

theorem schemeStartAt_spine : ∀ a0 a1 a2 a3, (schemeStartAt a0 a1 a2 a3).spine = a3.spine := by
  intro a0 a1 a2 a3
  unfold schemeStartAt
  repeat' (first | with_reducible rfl | with_reducible refine (setSch_spine _ _ _).trans ?_ | intro _ | split | (dsimp only; split))

theorem schemeStart_spine : ∀ a0 a1, (schemeStart a0 a1).spine = a1.spine := by
  intro a0 a1
  unfold schemeStart
  repeat' (first | with_reducible rfl | with_reducible refine (copyImage_spine _ _).trans ?_ | with_reducible refine (schemeStartAt_spine _ _ _ _).trans ?_ | intro _)

theorem schemeStop_spine : ∀ a0 a1, (schemeStop a0 a1).spine = a1.spine := by
  intro a0 a1
  unfold schemeStop
  repeat' (first | with_reducible rfl | with_reducible refine spine_ite ?_ ?_ | with_reducible refine (cancelPin_spine _ _ _).trans ?_ | with_reducible refine (finalReplies_spine _ _ _).trans ?_ | with_reducible refine (publishState_spine _ _ _ _ _).trans ?_ | with_reducible refine (setPub_spine _ _ _).trans ?_ | with_reducible refine (setSch_spine _ _ _).trans ?_ | with_reducible refine (wasOutDrive_spine _ _ _).trans ?_ | with_reducible refine foldl_spine ?_ ?_ | intro _ | split | (dsimp only; split) | with_reducible refine spine_mk rfl rfl rfl rfl ?_)

theorem execProgStopEffect_spine : ∀ a0 a1, Keeps (execProgStopEffect a0 a1) a1 := by
  intro a0 a1
  unfold execProgStopEffect
  repeat' (first | with_reducible rfl | with_reducible refine spine_ite ?_ ?_ | with_reducible refine keeps_ite ?_ ?_ | with_reducible refine keeps_done ?_ | with_reducible refine (advanceTo_spine _ _).trans ?_ | with_reducible refine (schemeStop_spine _ _).trans ?_ | intro _)

theorem cycleOpen_spine : ∀ a0 a1 a2 a3 a4, (cycleOpen a0 a1 a2 a3 a4).spine = a4.spine := by
  intro a0 a1 a2 a3 a4
  unfold cycleOpen
  repeat' (first | with_reducible rfl | with_reducible refine spine_ite ?_ ?_ | with_reducible refine (releaseTask_spine _ _ _ _ _ _).trans ?_ | with_reducible refine (setInst_spine _ _).trans ?_ | with_reducible refine (setSch_spine _ _ _).trans ?_ | with_reducible refine (takeOpened_spine _ _ _).trans ?_ | intro _ | split | (dsimp only; split))

theorem cyclePassed_spine : ∀ a0 a1 a2 a3, (cyclePassed a0 a1 a2 a3).spine = a3.spine := by
  intro a0 a1 a2 a3
  unfold cyclePassed
  repeat' (first | with_reducible rfl | with_reducible refine spine_ite ?_ ?_ | with_reducible refine (instSettle_spine _ _).trans ?_ | intro _ | split | (dsimp only; split))

theorem cycleIssue_spine : ∀ a0 a1 a2, (cycleIssue a0 a1 a2).spine = a2.spine := by
  intro a0 a1 a2
  unfold cycleIssue
  repeat' (first | with_reducible rfl | with_reducible refine spine_ite ?_ ?_ | with_reducible refine (cycleOpen_spine _ _ _ _ _).trans ?_ | with_reducible refine (cyclePassed_spine _ _ _ _).trans ?_ | with_reducible refine (schemeStop_spine _ _).trans ?_ | with_reducible refine (setSch_spine _ _ _).trans ?_ | intro _ | split | (dsimp only; split))

theorem schemeReplaced_spine : ∀ a0 a1, (schemeReplaced a0 a1).spine = a1.spine := by
  intro a0 a1
  unfold schemeReplaced
  repeat' (first | with_reducible rfl | with_reducible refine (dropForces_spine _ _ _).trans ?_ | with_reducible refine (finalReplies_spine _ _ _).trans ?_ | with_reducible refine (setSch_spine _ _ _).trans ?_ | intro _ | split | (dsimp only; split))

theorem schemeSwap_spine : ∀ a0 a1 a2, (schemeSwap a0 a1 a2).spine = a2.spine := by
  intro a0 a1 a2
  unfold schemeSwap
  repeat' (first | with_reducible rfl | with_reducible refine spine_ite ?_ ?_ | with_reducible refine (schemeReplaced_spine _ _).trans ?_ | with_reducible refine (schemeStart_spine _ _).trans ?_ | with_reducible refine (setSch_spine _ _ _).trans ?_ | intro _ | split | (dsimp only; split))

end Sys2Proof.Machine
end

