-- ==== Sys2Proof/Laws/SpineVoice.lean ====
section
/-! SUPPORT. What each definition of Machine/Voice leaves as it was: the waiting commands, the power state and its rails
(`State.spine`). -/

namespace Sys2Proof.Machine

theorem setVch_spine : ∀ a0 a1 a2, (setVch a0 a1 a2).spine = a2.spine := by
  intro a0 a1 a2
  unfold setVch
  repeat' (first | with_reducible rfl | intro _ | with_reducible refine spine_mk rfl rfl rfl rfl ?_)

theorem setFlow_spine : ∀ a0 a1 a2, (setFlow a0 a1 a2).spine = a2.spine := by
  intro a0 a1 a2
  unfold setFlow
  repeat' (first | with_reducible rfl | intro _ | with_reducible refine spine_mk rfl rfl rfl rfl ?_)

theorem recMark_spine : ∀ a0 a1 a2 a3 a4 a5, (recMark a0 a1 a2 a3 a4 a5).spine = a5.spine := by
  intro a0 a1 a2 a3 a4 a5
  unfold recMark
  repeat' (first | with_reducible rfl | with_reducible refine spine_ite ?_ ?_ | with_reducible refine (setVch_spine _ _ _).trans ?_ | intro _ | split | (dsimp only; split))

theorem recSeal_spine : ∀ a0 a1, (recSeal a0 a1).spine = a1.spine := by
  intro a0 a1
  unfold recSeal
  repeat' (first | with_reducible rfl | with_reducible refine spine_ite ?_ ?_ | with_reducible refine (count_spine _ _).trans ?_ | with_reducible refine (setVch_spine _ _ _).trans ?_ | with_reducible refine (useRefused_spine _).trans ?_ | intro _ | split | (dsimp only; split))

theorem voiceEvent_spine : ∀ a0 a1 a2 a3 a4 a5, (voiceEvent a0 a1 a2 a3 a4 a5).spine = a5.spine := by
  intro a0 a1 a2 a3 a4 a5
  unfold voiceEvent
  repeat' (first | with_reducible rfl | with_reducible refine spine_ite ?_ ?_ | with_reducible refine (oqNoWait_spine _ _ _ _).trans ?_ | with_reducible refine (recMark_spine _ _ _ _ _ _).trans ?_ | intro _ | split | (dsimp only; split))

theorem pendEvent_spine : ∀ a0 a1 a2 a3 a4, (pendEvent a0 a1 a2 a3 a4).spine = a4.spine := by
  intro a0 a1 a2 a3 a4
  unfold pendEvent
  repeat' (first | with_reducible rfl | intro _ | with_reducible refine spine_mk rfl rfl rfl rfl ?_)

theorem closeBlock_spine : ∀ a0 a1, (closeBlock a0 a1).spine = a1.spine := by
  intro a0 a1
  unfold closeBlock
  repeat' (first | with_reducible rfl | with_reducible refine spine_ite ?_ ?_ | with_reducible refine (count_spine _ _).trans ?_ | with_reducible refine (recMark_spine _ _ _ _ _ _).trans ?_ | with_reducible refine (recSeal_spine _ _).trans ?_ | with_reducible refine (setVch_spine _ _ _).trans ?_ | intro _ | split | (dsimp only; split))

theorem recordIssue_spine : ∀ a0 a1 a2 a3 a4 a5 a6, (recordIssue a0 a1 a2 a3 a4 a5 a6).spine = a6.spine := by
  intro a0 a1 a2 a3 a4 a5 a6
  unfold recordIssue
  repeat' (first | with_reducible rfl | with_reducible refine spine_ite ?_ ?_ | with_reducible refine (closeBlock_spine _ _).trans ?_ | with_reducible refine (setVch_spine _ _ _).trans ?_ | intro _ | split | (dsimp only; split))

theorem execRecBlockTransfer_spine : ∀ a0 a1, Keeps (execRecBlockTransfer a0 a1) a1 := by
  intro a0 a1
  unfold execRecBlockTransfer
  repeat' (first | with_reducible rfl | with_reducible refine spine_ite ?_ ?_ | with_reducible refine keeps_ite ?_ ?_ | with_reducible refine keeps_done ?_ | with_reducible refine (oqForget_spine _ _).trans ?_ | with_reducible refine (oqPut_spine _ _ _ _).trans ?_ | with_reducible refine (oqStall_spine _ _ _ _).trans ?_ | with_reducible refine (setVch_spine _ _ _).trans ?_ | intro _ | split | (dsimp only; split) | with_reducible refine spine_mk rfl rfl rfl rfl ?_)

theorem keyLostEvent_spine : ∀ a0 a1, (keyLostEvent a0 a1).spine = a1.spine := by
  intro a0 a1
  unfold keyLostEvent
  repeat' (first | with_reducible rfl | with_reducible refine spine_ite ?_ ?_ | with_reducible refine (pendEvent_spine _ _ _ _ _).trans ?_ | with_reducible refine (setFlow_spine _ _ _).trans ?_ | intro _ | split | (dsimp only; split))

theorem keyFound_spine : ∀ a0 a1, (keyFound a0 a1).spine = a1.spine := by
  intro a0 a1
  unfold keyFound
  repeat' (first | with_reducible rfl | intro _ | with_reducible refine spine_mk rfl rfl rfl rfl ?_)

theorem breakRun_spine : ∀ a0 a1 a2, (breakRun a0 a1 a2).spine = a2.spine := by
  intro a0 a1 a2
  unfold breakRun
  repeat' (first | with_reducible rfl | intro _ | with_reducible refine spine_mk rfl rfl rfl rfl ?_)

theorem dropPkt_spine : ∀ a0 a1 a2 a3, (dropPkt a0 a1 a2 a3).spine = a3.spine := by
  intro a0 a1 a2 a3
  unfold dropPkt
  repeat' (first | with_reducible rfl | with_reducible refine (breakRun_spine _ _ _).trans ?_ | with_reducible refine (count_spine _ _).trans ?_ | intro _)

theorem anchorLeg_spine : ∀ a0 a1 a2 a3 a4 a5 a6, (anchorLeg a0 a1 a2 a3 a4 a5 a6).spine = a6.spine := by
  intro a0 a1 a2 a3 a4 a5 a6
  unfold anchorLeg
  repeat' (first | with_reducible rfl | with_reducible refine (count_spine _ _).trans ?_ | with_reducible refine (pendEvent_spine _ _ _ _ _).trans ?_ | with_reducible refine (setVch_spine _ _ _).trans ?_ | intro _ | split | (dsimp only; split))

theorem checkFail_spine : ∀ a0 a1 a2 a3, (checkFail a0 a1 a2 a3).spine = a3.spine := by
  intro a0 a1 a2 a3
  unfold checkFail
  repeat' (first | with_reducible rfl | with_reducible refine (count_spine _ _).trans ?_ | with_reducible refine (setVch_spine _ _ _).trans ?_ | intro _ | split | (dsimp only; split))

theorem lateGrow_spine : ∀ a0 a1 a2 a3 a4, (lateGrow a0 a1 a2 a3 a4).spine = a4.spine := by
  intro a0 a1 a2 a3 a4
  unfold lateGrow
  repeat' (first | with_reducible rfl | with_reducible refine spine_ite ?_ ?_ | with_reducible refine (count_spine _ _).trans ?_ | with_reducible refine (setVch_spine _ _ _).trans ?_ | intro _ | split | (dsimp only; split))

theorem mappedPkt_spine : ∀ a0 a1 a2 a3 a4 a5, (mappedPkt a0 a1 a2 a3 a4 a5).spine = a5.spine := by
  intro a0 a1 a2 a3 a4 a5
  unfold mappedPkt
  repeat' (first | with_reducible rfl | with_reducible refine spine_ite ?_ ?_ | with_reducible refine (checkFail_spine _ _ _ _).trans ?_ | with_reducible refine (count_spine _ _).trans ?_ | with_reducible refine (dropPkt_spine _ _ _ _).trans ?_ | with_reducible refine (lateGrow_spine _ _ _ _ _).trans ?_ | with_reducible refine (setVch_spine _ _ _).trans ?_ | intro _ | split | (dsimp only; split))

theorem checkedPkt_spine : ∀ a0 a1 a2 a3 a4, (checkedPkt a0 a1 a2 a3 a4).spine = a4.spine := by
  intro a0 a1 a2 a3 a4
  unfold checkedPkt
  repeat' (first | with_reducible rfl | with_reducible refine spine_ite ?_ ?_ | with_reducible refine (anchorLeg_spine _ _ _ _ _ _ _).trans ?_ | with_reducible refine (mappedPkt_spine _ _ _ _ _ _).trans ?_ | with_reducible refine (pendEvent_spine _ _ _ _ _).trans ?_ | with_reducible refine (setVch_spine _ _ _).trans ?_ | intro _ | split | (dsimp only; split))

theorem foreignSsrc_spine : ∀ a0 a1 a2 a3 a4 a5 a6 a7, (foreignSsrc a0 a1 a2 a3 a4 a5 a6 a7).2.spine = a7.spine := by
  intro a0 a1 a2 a3 a4 a5 a6 a7
  unfold foreignSsrc
  repeat' (first | with_reducible rfl | with_reducible refine spine_ite_snd ?_ ?_ | with_reducible refine (pendEvent_spine _ _ _ _ _).trans ?_ | with_reducible refine (setFlow_spine _ _ _).trans ?_ | intro _ | split | (dsimp only; split) | with_reducible refine spine_mk rfl rfl rfl rfl ?_)

theorem ssrcCheck_spine : ∀ a0 a1 a2 a3 a4 a5, (ssrcCheck a0 a1 a2 a3 a4 a5).2.spine = a5.spine := by
  intro a0 a1 a2 a3 a4 a5
  unfold ssrcCheck
  repeat' (first | with_reducible rfl | with_reducible refine spine_ite_snd ?_ ?_ | with_reducible refine (foreignSsrc_spine _ _ _ _ _ _ _ _).trans ?_ | with_reducible refine (setVch_spine _ _ _).trans ?_ | intro _ | split | (dsimp only; split))

theorem openedPkt_spine : ∀ a0 a1 a2 a3 a4 a5 a6, (openedPkt a0 a1 a2 a3 a4 a5 a6).spine = a6.spine := by
  intro a0 a1 a2 a3 a4 a5 a6
  unfold openedPkt
  repeat' (first | with_reducible rfl | with_reducible refine spine_ite ?_ ?_ | with_reducible refine (checkedPkt_spine _ _ _ _ _).trans ?_ | with_reducible refine (dropPkt_spine _ _ _ _).trans ?_ | with_reducible refine (ssrcCheck_spine _ _ _ _ _ _).trans ?_ | intro _ | split | (dsimp only; split))

theorem takeIndex_spine : ∀ a0 a1 a2 a3 a4, (takeIndex a0 a1 a2 a3 a4).spine = a4.spine := by
  intro a0 a1 a2 a3 a4
  unfold takeIndex
  repeat' (first | with_reducible rfl | with_reducible refine spine_ite ?_ ?_ | with_reducible refine (setFlow_spine _ _ _).trans ?_ | intro _)

theorem flowPkt_spine : ∀ a0 a1 a2 a3 a4, (flowPkt a0 a1 a2 a3 a4).spine = a4.spine := by
  intro a0 a1 a2 a3 a4
  unfold flowPkt
  repeat' (first | with_reducible rfl | with_reducible refine spine_ite ?_ ?_ | with_reducible refine (dropPkt_spine _ _ _ _).trans ?_ | with_reducible refine (keyFound_spine _ _).trans ?_ | with_reducible refine (keyLostEvent_spine _ _).trans ?_ | with_reducible refine (openedPkt_spine _ _ _ _ _ _ _).trans ?_ | with_reducible refine (takeIndex_spine _ _ _ _ _).trans ?_ | with_reducible refine (useRefused_spine _).trans ?_ | intro _ | split | (dsimp only; split))

theorem voicePkt_spine : ∀ a0 a1, (voicePkt a0 a1).spine = a1.spine := by
  intro a0 a1
  unfold voicePkt
  repeat' (first | with_reducible rfl | with_reducible refine (flowPkt_spine _ _ _ _ _).trans ?_ | intro _ | split | (dsimp only; split))

theorem execVoicePacketReceived_spine : ∀ a0 a1, Keeps (execVoicePacketReceived a0 a1) a1 := by
  intro a0 a1
  unfold execVoicePacketReceived
  repeat' (first | with_reducible rfl | with_reducible refine spine_ite ?_ ?_ | with_reducible refine keeps_ite ?_ ?_ | with_reducible refine keeps_done ?_ | with_reducible refine (macTake_spine _ _ _ _ _ _ _ _).trans ?_ | with_reducible refine (svcInput_spine _ _ _ _ _ _).trans ?_ | with_reducible refine (voicePkt_spine _ _).trans ?_ | intro _ | split | (dsimp only; split) | refine spine_snd (by assumption) ?_ | refine spine_fst (by assumption) ?_ | refine spine_snd2 (by assumption) ?_ | refine spine_snd3 (by assumption) ?_)

theorem execLegSilent_spine : ∀ a0 a1 a2, Keeps (execLegSilent a0 a1 a2) a2 := by
  intro a0 a1 a2
  unfold execLegSilent
  repeat' (first | with_reducible rfl | with_reducible refine keeps_ite ?_ ?_ | with_reducible refine keeps_done ?_ | with_reducible refine (advanceTo_spine _ _).trans ?_ | with_reducible refine (pendEvent_spine _ _ _ _ _).trans ?_ | with_reducible refine (setVch_spine _ _ _).trans ?_ | intro _ | split | (dsimp only; split))

end Sys2Proof.Machine
end

