-- ==== Sys2Proof/Laws/SpineRtcp.lean ====
section
/-! SUPPORT. What each definition of Machine/Rtcp leaves as it was: the waiting commands, the power state and its rails
(`State.spine`). -/

namespace Sys2Proof.Machine

theorem rtcpReport_spine : ∀ a0 a1 a2 a3 a4 a5, (rtcpReport a0 a1 a2 a3 a4 a5).spine = a5.spine := by
  intro a0 a1 a2 a3 a4 a5
  unfold rtcpReport
  repeat' (first | with_reducible rfl | with_reducible refine spine_ite ?_ ?_ | with_reducible refine (setFlow_spine _ _ _).trans ?_ | with_reducible refine (setVch_spine _ _ _).trans ?_ | with_reducible refine (txIp_spine _ _ _).trans ?_ | intro _)

theorem execRtcpSend_spine : ∀ a0 a1 a2, Keeps (execRtcpSend a0 a1 a2) a2 := by
  intro a0 a1 a2
  unfold execRtcpSend
  repeat' (first | with_reducible rfl | with_reducible refine keeps_ite ?_ ?_ | with_reducible refine keeps_done ?_ | with_reducible refine (advanceTo_spine _ _).trans ?_ | with_reducible refine (count_spine _ _).trans ?_ | with_reducible refine (drawFree_spine _).trans ?_ | with_reducible refine (keyLostEvent_spine _ _).trans ?_ | with_reducible refine (rtcpReport_spine _ _ _ _ _ _).trans ?_ | with_reducible refine (setVch_spine _ _ _).trans ?_ | with_reducible refine (useRefused_spine _).trans ?_ | intro _ | split | (dsimp only; split))

theorem rtcpTaken_spine : ∀ a0 a1 a2 a3 a4 a5 a6, (rtcpTaken a0 a1 a2 a3 a4 a5 a6).spine = a6.spine := by
  intro a0 a1 a2 a3 a4 a5 a6
  unfold rtcpTaken
  repeat' (first | with_reducible rfl | with_reducible refine (pendEvent_spine _ _ _ _ _).trans ?_ | with_reducible refine (setVch_spine _ _ _).trans ?_ | intro _ | split | (dsimp only; split))

theorem flowRtcp_spine : ∀ a0 a1 a2 a3 a4, (flowRtcp a0 a1 a2 a3 a4).spine = a4.spine := by
  intro a0 a1 a2 a3 a4
  unfold flowRtcp
  repeat' (first | with_reducible rfl | with_reducible refine spine_ite ?_ ?_ | with_reducible refine (count_spine _ _).trans ?_ | with_reducible refine (keyFound_spine _ _).trans ?_ | with_reducible refine (keyLostEvent_spine _ _).trans ?_ | with_reducible refine (rtcpTaken_spine _ _ _ _ _ _ _).trans ?_ | with_reducible refine (setFlow_spine _ _ _).trans ?_ | with_reducible refine (useRefused_spine _).trans ?_ | intro _ | split | (dsimp only; split))

theorem rtcpPkt_spine : ∀ a0 a1, (rtcpPkt a0 a1).spine = a1.spine := by
  intro a0 a1
  unfold rtcpPkt
  repeat' (first | with_reducible rfl | with_reducible refine (flowRtcp_spine _ _ _ _ _).trans ?_ | intro _ | split | (dsimp only; split))

theorem execRtcpPacketReceived_spine : ∀ a0 a1, Keeps (execRtcpPacketReceived a0 a1) a1 := by
  intro a0 a1
  unfold execRtcpPacketReceived
  repeat' (first | with_reducible rfl | with_reducible refine spine_ite ?_ ?_ | with_reducible refine keeps_ite ?_ ?_ | with_reducible refine keeps_done ?_ | with_reducible refine (macTake_spine _ _ _ _ _ _ _ _).trans ?_ | with_reducible refine (rtcpPkt_spine _ _).trans ?_ | with_reducible refine (svcInput_spine _ _ _ _ _ _).trans ?_ | intro _ | split | (dsimp only; split) | refine spine_snd (by assumption) ?_ | refine spine_fst (by assumption) ?_ | refine spine_snd2 (by assumption) ?_ | refine spine_snd3 (by assumption) ?_)

end Sys2Proof.Machine
end

