-- ==== Sys2Proof/Laws/SpinePlayout.lean ====
section
/-! SUPPORT. What each definition of Machine/Playout leaves as it was: the waiting commands, the power state and its rails
(`State.spine`). -/

namespace Sys2Proof.Machine

theorem txIssue_spine : ∀ a0 a1 a2 a3 a4 a5, (txIssue a0 a1 a2 a3 a4 a5).spine = a5.spine := by
  intro a0 a1 a2 a3 a4 a5
  unfold txIssue
  repeat' (first | with_reducible rfl | with_reducible refine spine_ite ?_ ?_ | with_reducible refine (count_spine _ _).trans ?_ | with_reducible refine (keyLostEvent_spine _ _).trans ?_ | with_reducible refine (setFlow_spine _ _ _).trans ?_ | with_reducible refine (txIp_spine _ _ _).trans ?_ | with_reducible refine (useRefused_spine _).trans ?_ | intro _ | split | (dsimp only; split))

theorem issueEvent_spine : ∀ a0 a1 a2 a3, (issueEvent a0 a1 a2 a3).spine = a3.spine := by
  intro a0 a1 a2 a3
  unfold issueEvent
  repeat' (first | with_reducible rfl | with_reducible refine spine_ite ?_ ?_ | with_reducible refine (count_spine _ _).trans ?_ | with_reducible refine (voiceEvent_spine _ _ _ _ _ _).trans ?_ | intro _)

theorem noteIssue_spine : ∀ a0 a1 a2, (noteIssue a0 a1 a2).spine = a2.spine := by
  intro a0 a1 a2
  unfold noteIssue
  repeat' (first | with_reducible rfl | with_reducible refine spine_ite ?_ ?_ | intro _ | with_reducible refine spine_mk rfl rfl rfl rfl ?_)

theorem voiceTask_spine : ∀ a0 a1, (voiceTask a0 a1).spine = a1.spine := by
  intro a0 a1
  unfold voiceTask
  repeat' (first | with_reducible rfl | with_reducible refine (count_spine _ _).trans ?_ | with_reducible refine (issueEvent_spine _ _ _ _).trans ?_ | with_reducible refine (noteIssue_spine _ _ _).trans ?_ | with_reducible refine (recordIssue_spine _ _ _ _ _ _ _).trans ?_ | with_reducible refine (setVch_spine _ _ _).trans ?_ | with_reducible refine (txIssue_spine _ _ _ _ _ _).trans ?_ | with_reducible refine foldl_spine ?_ ?_ | intro _ | split | (dsimp only; split))

theorem txSkip_spine : ∀ a0 a1 a2 a3, (txSkip a0 a1 a2 a3).spine = a3.spine := by
  intro a0 a1 a2 a3
  unfold txSkip
  repeat' (first | with_reducible rfl | with_reducible refine spine_ite ?_ ?_ | with_reducible refine (setFlow_spine _ _ _).trans ?_ | intro _ | split | (dsimp only; split))

theorem voiceSilent_spine : ∀ a0 a1 a2 a3, (voiceSilent a0 a1 a2 a3).spine = a3.spine := by
  intro a0 a1 a2 a3
  unfold voiceSilent
  repeat' (first | with_reducible rfl | with_reducible refine (noteIssue_spine _ _ _).trans ?_ | with_reducible refine (recordIssue_spine _ _ _ _ _ _ _).trans ?_ | with_reducible refine (txSkip_spine _ _ _ _).trans ?_ | intro _)

theorem voiceDropped_spine : ∀ a0 a1, (voiceDropped a0 a1).spine = a1.spine := by
  intro a0 a1
  unfold voiceDropped
  repeat' (first | with_reducible rfl | with_reducible refine (setVch_spine _ _ _).trans ?_ | with_reducible refine (voiceSilent_spine _ _ _ _).trans ?_ | intro _ | split | (dsimp only; split))

theorem voiceAborted_spine : ∀ a0 a1, (voiceAborted a0 a1).spine = a1.spine := by
  intro a0 a1
  unfold voiceAborted
  repeat' (first | with_reducible rfl | with_reducible refine (voiceSilent_spine _ _ _ _).trans ?_ | intro _ | split | (dsimp only; split))

theorem applyModify_spine : ∀ a0 a1 a2 a3, (applyModify a0 a1 a2 a3).spine = a3.spine := by
  intro a0 a1 a2 a3
  unfold applyModify
  repeat' (first | with_reducible rfl | with_reducible refine (closeBlock_spine _ _).trans ?_ | with_reducible refine (recMark_spine _ _ _ _ _ _).trans ?_ | with_reducible refine (voiceEvent_spine _ _ _ _ _ _).trans ?_ | intro _ | split | (dsimp only; split) | with_reducible refine spine_mk rfl rfl rfl rfl ?_)

theorem vchEnd_spine : ∀ a0 a1 a2 a3, (vchEnd a0 a1 a2 a3).spine = a3.spine := by
  intro a0 a1 a2 a3
  unfold vchEnd
  repeat' (first | with_reducible rfl | with_reducible refine spine_ite ?_ ?_ | with_reducible refine (closeBlock_spine _ _).trans ?_ | with_reducible refine (recSeal_spine _ _).trans ?_ | with_reducible refine (setVch_spine _ _ _).trans ?_ | with_reducible refine (voiceEvent_spine _ _ _ _ _ _).trans ?_ | intro _ | split | (dsimp only; split) | with_reducible refine spine_mk rfl rfl rfl rfl ?_)

theorem vchStarts_spine : ∀ a0 a1 a2 a3, (vchStarts a0 a1 a2 a3).spine = a3.spine := by
  intro a0 a1 a2 a3
  unfold vchStarts
  repeat' (first | with_reducible rfl | with_reducible refine (setVch_spine _ _ _).trans ?_ | with_reducible refine (voiceEvent_spine _ _ _ _ _ _).trans ?_ | intro _)

theorem issueEdge_spine : ∀ a0 a1 a2 a3, (issueEdge a0 a1 a2 a3).2.spine = a3.spine := by
  intro a0 a1 a2 a3
  unfold issueEdge
  repeat' (first | with_reducible rfl | with_reducible refine spine_ite ?_ ?_ | with_reducible refine spine_ite_snd ?_ ?_ | with_reducible refine (applyModify_spine _ _ _ _).trans ?_ | with_reducible refine (vchEnd_spine _ _ _ _).trans ?_ | with_reducible refine (vchStarts_spine _ _ _ _).trans ?_ | intro _ | split | (dsimp only; split))

theorem playoutIssue_spine : ∀ a0 a1 a2 a3, (playoutIssue a0 a1 a2 a3).spine = a3.spine := by
  intro a0 a1 a2 a3
  unfold playoutIssue
  repeat' (first | with_reducible rfl | with_reducible refine spine_ite ?_ ?_ | with_reducible refine (issueEdge_spine _ _ _ _).trans ?_ | with_reducible refine (releaseTask_spine _ _ _ _ _ _).trans ?_ | intro _ | split | (dsimp only; split))

theorem voiceStop_spine : ∀ a0, (voiceStop a0).spine = a0.spine := by
  intro a0
  unfold voiceStop
  repeat' (first | with_reducible rfl | with_reducible refine (vchEnd_spine _ _ _ _).trans ?_ | with_reducible refine foldl_spine ?_ ?_ | intro _)

theorem voiceSwap_spine : ∀ a0 a1 a2, (voiceSwap a0 a1 a2).spine = a2.spine := by
  intro a0 a1 a2
  unfold voiceSwap
  repeat' (first | with_reducible rfl | intro _ | split | (dsimp only; split) | with_reducible refine spine_mk rfl rfl rfl rfl ?_)

theorem voiceTakeover_spine : ∀ a0, (voiceTakeover a0).spine = a0.spine := by
  intro a0
  unfold voiceTakeover
  repeat' (first | with_reducible rfl | with_reducible refine spine_ite ?_ ?_ | with_reducible refine (recMark_spine _ _ _ _ _ _).trans ?_ | with_reducible refine foldl_spine ?_ ?_ | intro _ | split | (dsimp only; split) | with_reducible refine spine_mk rfl rfl rfl rfl ?_)

end Sys2Proof.Machine
end

