-- ==== Sys2Proof/Laws/SpineCastling.lean ====
section
/-! SUPPORT. What each definition of Machine/Castling leaves as it was: the waiting commands, the power state and its rails
(`State.spine`). -/

namespace Sys2Proof.Machine

theorem noteCas_spine : ∀ a0 a1 a2, (noteCas a0 a1 a2).spine = a2.spine := by
  intro a0 a1 a2
  unfold noteCas
  repeat' (first | with_reducible rfl | with_reducible refine (note_spine _ _ _ _ _ _ _).trans ?_ | intro _)

theorem roleTo_spine : ∀ a0 a1 a2 a3, (roleTo a0 a1 a2 a3).spine = a3.spine := by
  intro a0 a1 a2 a3
  unfold roleTo
  repeat' (first | with_reducible rfl | with_reducible refine spine_ite ?_ ?_ | with_reducible refine (noteCas_spine _ _ _).trans ?_ | with_reducible refine (setCasIrq_spine _ _).trans ?_ | intro _ | with_reducible refine spine_mk rfl rfl rfl rfl ?_)

theorem pinsOff_spine : ∀ a0, (pinsOff a0).spine = a0.spine := by
  intro a0
  unfold pinsOff
  repeat' (first | with_reducible rfl | with_reducible refine spine_ite ?_ ?_ | with_reducible refine (alarmPin_spine _).trans ?_ | with_reducible refine (emit_spine _ _).trans ?_ | with_reducible refine foldl_spine ?_ ?_ | intro _ | with_reducible refine spine_mk rfl rfl rfl rfl ?_)

theorem pinsOn_spine : ∀ a0, (pinsOn a0).spine = a0.spine := by
  intro a0
  unfold pinsOn
  repeat' (first | with_reducible rfl | with_reducible refine (alarmPin_spine _).trans ?_ | with_reducible refine (wasOutDrive_spine _ _ _).trans ?_ | with_reducible refine foldl_spine ?_ ?_ | intro _)

theorem dropExchange_spine : ∀ a0, (dropExchange a0).spine = a0.spine := by
  intro a0
  unfold dropExchange
  repeat' (first | with_reducible rfl | intro _ | with_reducible refine spine_mk rfl rfl rfl rfl ?_)

theorem toStalemate_spine : ∀ a0 a1 a2, (toStalemate a0 a1 a2).spine = a2.spine := by
  intro a0 a1 a2
  unfold toStalemate
  repeat' (first | with_reducible rfl | with_reducible refine spine_ite ?_ ?_ | with_reducible refine (dropExchange_spine _).trans ?_ | with_reducible refine (pinsOff_spine _).trans ?_ | with_reducible refine (roleTo_spine _ _ _ _).trans ?_ | intro _ | with_reducible refine spine_mk rfl rfl rfl rfl ?_)

theorem toActive_spine : ∀ a0 a1 a2, (toActive a0 a1 a2).spine = a2.spine := by
  intro a0 a1 a2
  unfold toActive
  repeat' (first | with_reducible rfl | with_reducible refine (roleTo_spine _ _ _ _).trans ?_ | intro _ | with_reducible refine spine_mk rfl rfl rfl rfl ?_)

theorem casRunBegin_spine : ∀ a0 a1, (casRunBegin a0 a1).spine = a1.spine := by
  intro a0 a1
  unfold casRunBegin
  repeat' (first | with_reducible rfl | with_reducible refine spine_ite ?_ ?_ | with_reducible refine (pinsOff_spine _).trans ?_ | with_reducible refine (roleTo_spine _ _ _ _).trans ?_ | intro _ | with_reducible refine spine_mk rfl rfl rfl rfl ?_)

theorem casRunEnd_spine : ∀ a0, (casRunEnd a0).spine = a0.spine := by
  intro a0
  unfold casRunEnd
  repeat' (first | with_reducible rfl | intro _ | with_reducible refine spine_mk rfl rfl rfl rfl ?_)

theorem execHbInEdge_spine : ∀ a0 a1, Keeps (execHbInEdge a0 a1) a1 := by
  intro a0 a1
  unfold execHbInEdge
  repeat' (first | with_reducible rfl | with_reducible refine keeps_ite ?_ ?_ | with_reducible refine keeps_done ?_ | with_reducible refine (advanceTo_spine _ _).trans ?_ | intro _ | split | (dsimp only; split) | with_reducible refine spine_mk rfl rfl rfl rfl ?_)

theorem execHbTimeout_spine : ∀ a0, Keeps (execHbTimeout a0) a0 := by
  intro a0
  unfold execHbTimeout
  repeat' (first | with_reducible rfl | with_reducible refine keeps_ite ?_ ?_ | with_reducible refine keeps_done ?_ | with_reducible refine (advanceTo_spine _ _).trans ?_ | with_reducible refine (count_spine _ _).trans ?_ | with_reducible refine (noteCas_spine _ _ _).trans ?_ | with_reducible refine (setCasIrq_spine _ _).trans ?_ | intro _ | split | (dsimp only; split) | with_reducible refine spine_mk rfl rfl rfl rfl ?_)

theorem execPresenceFrameSend_spine : ∀ a0 a1, Keeps (execPresenceFrameSend a0 a1) a1 := by
  intro a0 a1
  unfold execPresenceFrameSend
  repeat' (first | with_reducible rfl | with_reducible refine keeps_ite ?_ ?_ | with_reducible refine keeps_done ?_ | with_reducible refine (advanceTo_spine _ _).trans ?_ | with_reducible refine (txOwn_spine _ _ _ _ _).trans ?_ | with_reducible refine (useRefused_spine _).trans ?_ | intro _ | split | (dsimp only; split))

theorem yieldCheck_spine : ∀ a0 a1 a2, (yieldCheck a0 a1 a2).spine = a2.spine := by
  intro a0 a1 a2
  unfold yieldCheck
  repeat' (first | with_reducible rfl | with_reducible refine spine_ite ?_ ?_ | intro _ | with_reducible refine spine_mk rfl rfl rfl rfl ?_)

theorem execPresenceFrameReceived_spine : ∀ a0 a1 a2, Keeps (execPresenceFrameReceived a0 a1 a2) a2 := by
  intro a0 a1 a2
  unfold execPresenceFrameReceived
  repeat' (first | with_reducible rfl | with_reducible refine spine_ite ?_ ?_ | with_reducible refine keeps_ite ?_ ?_ | with_reducible refine keeps_done ?_ | with_reducible refine (count_spine _ _).trans ?_ | with_reducible refine (countPort_spine _ _ _).trans ?_ | with_reducible refine (yieldCheck_spine _ _ _).trans ?_ | intro _ | split | (dsimp only; split) | with_reducible refine spine_mk rfl rfl rfl rfl ?_)

theorem twinTake_spine : ∀ a0 a1, (twinTake a0 a1).2.spine = a1.spine := by
  intro a0 a1
  unfold twinTake
  repeat' (first | with_reducible rfl | with_reducible refine spine_ite_snd ?_ ?_ | with_reducible refine (count_spine _ _).trans ?_ | intro _ | with_reducible refine spine_mk rfl rfl rfl rfl ?_)

theorem execLinkbeatSend_spine : ∀ a0, Keeps (execLinkbeatSend a0) a0 := by
  intro a0
  unfold execLinkbeatSend
  repeat' (first | with_reducible rfl | with_reducible refine keeps_ite ?_ ?_ | with_reducible refine keeps_done ?_ | with_reducible refine (emit_spine _ _).trans ?_ | intro _ | split | (dsimp only; split))

theorem commitsStop_spine : ∀ a0, (commitsStop a0).spine = a0.spine := by
  intro a0
  unfold commitsStop
  repeat' (first | with_reducible rfl | with_reducible refine (noteCas_spine _ _ _).trans ?_ | intro _ | with_reducible refine spine_mk rfl rfl rfl rfl ?_)

theorem commitBuild_spine : ∀ a0 a1, (commitBuild a0 a1).spine = a1.spine := by
  intro a0 a1
  unfold commitBuild
  repeat' (first | with_reducible rfl | with_reducible refine spine_ite ?_ ?_ | with_reducible refine (commitsStop_spine _).trans ?_ | with_reducible refine (count_spine _ _).trans ?_ | with_reducible refine (drawFree_spine _).trans ?_ | with_reducible refine (emit_spine _ _).trans ?_ | with_reducible refine (traceCommit_spine _ _ _).trans ?_ | intro _ | split | (dsimp only; split) | with_reducible refine spine_mk rfl rfl rfl rfl ?_)

theorem commitFold_spine : ∀ a0, (commitFold a0).spine = a0.spine := by
  intro a0
  unfold commitFold
  repeat' (first | with_reducible rfl | with_reducible refine spine_ite ?_ ?_ | with_reducible refine (count_spine _ _).trans ?_ | intro _ | with_reducible refine spine_mk rfl rfl rfl rfl ?_)

theorem copyDropped_spine : ∀ a0, (copyDropped a0).spine = a0.spine := by
  intro a0
  unfold copyDropped
  repeat' (first | with_reducible rfl | with_reducible refine spine_ite ?_ ?_ | with_reducible refine (count_spine _ _).trans ?_ | intro _)

theorem copyRelease_spine : ∀ a0 a1 a2, (copyRelease a0 a1 a2).spine = a2.spine := by
  intro a0 a1 a2
  unfold copyRelease
  repeat' (first | with_reducible rfl | with_reducible refine (commitFold_spine _).trans ?_ | with_reducible refine (releaseTask_spine _ _ _ _ _ _).trans ?_ | intro _ | split | (dsimp only; split) | refine spine_snd (by assumption) ?_ | refine spine_fst (by assumption) ?_ | refine spine_snd2 (by assumption) ?_ | refine spine_snd3 (by assumption) ?_ | with_reducible refine spine_mk rfl rfl rfl rfl ?_)

theorem execAckReceived_spine : ∀ a0 a1 a2, Keeps (execAckReceived a0 a1 a2) a2 := by
  intro a0 a1 a2
  unfold execAckReceived
  repeat' (first | with_reducible rfl | with_reducible refine keeps_ite ?_ ?_ | with_reducible refine keeps_done ?_ | with_reducible refine (twinTake_spine _ _).trans ?_ | intro _ | split | (dsimp only; split) | with_reducible refine spine_mk rfl rfl rfl rfl ?_)

theorem resyncStart_spine : ∀ a0, (resyncStart a0).spine = a0.spine := by
  intro a0
  unfold resyncStart
  repeat' (first | with_reducible rfl | with_reducible refine spine_ite ?_ ?_ | with_reducible refine (count_spine _ _).trans ?_ | with_reducible refine (emit_spine _ _).trans ?_ | intro _ | with_reducible refine spine_mk rfl rfl rfl rfl ?_)

theorem resyncReply_spine : ∀ a0, (resyncReply a0).spine = a0.spine := by
  intro a0
  unfold resyncReply
  repeat' (first | with_reducible rfl | with_reducible refine (finalReplies_spine _ _ _).trans ?_ | intro _ | with_reducible refine spine_mk rfl rfl rfl rfl ?_)

theorem startedActive_spine : ∀ a0, (startedActive a0).spine = a0.spine := by
  intro a0
  unfold startedActive
  repeat' (first | with_reducible rfl | with_reducible refine spine_ite ?_ ?_ | with_reducible refine (resyncStart_spine _).trans ?_ | intro _ | refine spine_snd (by assumption) ?_ | refine spine_fst (by assumption) ?_ | refine spine_snd2 (by assumption) ?_ | refine spine_snd3 (by assumption) ?_)

theorem execListenWindowEnd_spine : ∀ a0 a1, Keeps (execListenWindowEnd a0 a1) a1 := by
  intro a0 a1
  unfold execListenWindowEnd
  repeat' (first | with_reducible rfl | with_reducible refine spine_ite ?_ ?_ | with_reducible refine keeps_ite ?_ ?_ | with_reducible refine keeps_done ?_ | with_reducible refine (advanceTo_spine _ _).trans ?_ | with_reducible refine (noteCas_spine _ _ _).trans ?_ | with_reducible refine (pinsOn_spine _).trans ?_ | with_reducible refine (startedActive_spine _).trans ?_ | with_reducible refine (toActive_spine _ _ _).trans ?_ | intro _ | split | (dsimp only; split) | refine spine_snd (by assumption) ?_ | refine spine_fst (by assumption) ?_ | refine spine_snd2 (by assumption) ?_ | refine spine_snd3 (by assumption) ?_ | with_reducible refine spine_mk rfl rfl rfl rfl ?_)

theorem linkHeard_spine : ∀ a0 a1, (linkHeard a0 a1).spine = a1.spine := by
  intro a0 a1
  unfold linkHeard
  repeat' (first | with_reducible rfl | intro _ | split | (dsimp only; split) | with_reducible refine spine_mk rfl rfl rfl rfl ?_)

theorem partnerAsks_spine : ∀ a0 a1 a2, (partnerAsks a0 a1 a2).spine = a2.spine := by
  intro a0 a1 a2
  unfold partnerAsks
  repeat' (first | with_reducible rfl | with_reducible refine spine_ite ?_ ?_ | with_reducible refine (dropExchange_spine _).trans ?_ | with_reducible refine (resyncReply_spine _).trans ?_ | with_reducible refine (resyncStart_spine _).trans ?_ | intro _)

theorem execLinkbeatReceived_spine : ∀ a0 a1 a2, Keeps (execLinkbeatReceived a0 a1 a2) a2 := by
  intro a0 a1 a2
  unfold execLinkbeatReceived
  repeat' (first | with_reducible rfl | with_reducible refine spine_ite ?_ ?_ | with_reducible refine keeps_ite ?_ ?_ | with_reducible refine keeps_done ?_ | with_reducible refine (linkHeard_spine _ _).trans ?_ | with_reducible refine (noteCas_spine _ _ _).trans ?_ | with_reducible refine (partnerAsks_spine _ _ _).trans ?_ | with_reducible refine (toStalemate_spine _ _ _).trans ?_ | with_reducible refine (twinTake_spine _ _).trans ?_ | with_reducible refine (yieldCheck_spine _ _ _).trans ?_ | intro _ | split | (dsimp only; split) | with_reducible refine spine_mk rfl rfl rfl rfl ?_)

theorem execTwinLinkTimeout_spine : ∀ a0, Keeps (execTwinLinkTimeout a0) a0 := by
  intro a0
  unfold execTwinLinkTimeout
  repeat' (first | with_reducible rfl | with_reducible refine keeps_ite ?_ ?_ | with_reducible refine keeps_done ?_ | with_reducible refine (advanceTo_spine _ _).trans ?_ | with_reducible refine (count_spine _ _).trans ?_ | with_reducible refine (setCasIrq_spine _ _).trans ?_ | intro _ | with_reducible refine spine_mk rfl rfl rfl rfl ?_)

theorem execTwinLossDecision_spine : ∀ a0, Keeps (execTwinLossDecision a0) a0 := by
  intro a0
  unfold execTwinLossDecision
  repeat' (first | with_reducible rfl | with_reducible refine spine_ite ?_ ?_ | with_reducible refine keeps_ite ?_ ?_ | with_reducible refine keeps_done ?_ | with_reducible refine (advanceTo_spine _ _).trans ?_ | with_reducible refine (noteCas_spine _ _ _).trans ?_ | with_reducible refine (toStalemate_spine _ _ _).trans ?_ | intro _ | split | (dsimp only; split) | with_reducible refine spine_mk rfl rfl rfl rfl ?_)

theorem execPartnerOutputsAbsent_spine : ∀ a0, Keeps (execPartnerOutputsAbsent a0) a0 := by
  intro a0
  unfold execPartnerOutputsAbsent
  repeat' (first | with_reducible rfl | with_reducible refine spine_ite ?_ ?_ | with_reducible refine keeps_ite ?_ ?_ | with_reducible refine keeps_done ?_ | intro _ | with_reducible refine spine_mk rfl rfl rfl rfl ?_)

theorem diverge_spine : ∀ a0 a1 a2 a3 a4 a5, (diverge a0 a1 a2 a3 a4 a5).spine = a5.spine := by
  intro a0 a1 a2 a3 a4 a5
  unfold diverge
  repeat' (first | with_reducible rfl | with_reducible refine spine_ite ?_ ?_ | with_reducible refine (count_spine _ _).trans ?_ | with_reducible refine (noteCas_spine _ _ _).trans ?_ | with_reducible refine (setCasIrq_spine _ _).trans ?_ | intro _ | with_reducible refine spine_mk rfl rfl rfl rfl ?_)

theorem compareDigest_spine : ∀ a0 a1 a2 a3 a4, (compareDigest a0 a1 a2 a3 a4).2.spine = a4.spine := by
  intro a0 a1 a2 a3 a4
  unfold compareDigest
  repeat' (first | with_reducible rfl | with_reducible refine spine_ite_snd ?_ ?_ | with_reducible refine (diverge_spine _ _ _ _ _ _).trans ?_ | intro _)

theorem commitDone_spine : ∀ a0 a1, (commitDone a0 a1).spine = a1.spine := by
  intro a0 a1
  unfold commitDone
  repeat' (first | with_reducible rfl | with_reducible refine spine_ite ?_ ?_ | with_reducible refine (resyncReply_spine _).trans ?_ | with_reducible refine (roleTo_spine _ _ _ _).trans ?_ | intro _ | with_reducible refine spine_mk rfl rfl rfl rfl ?_)

theorem settleWaits_spine : ∀ a0 a1, (settleWaits a0 a1).spine = a1.spine := by
  intro a0 a1
  fun_induction settleWaits a0 a1
  all_goals repeat' (first | with_reducible rfl | refine Eq.trans (by assumption) ?_ | with_reducible refine (commitDone_spine _ _).trans ?_ | intro _ | with_reducible refine spine_mk rfl rfl rfl rfl ?_)

theorem applyHome_spine : ∀ a0 a1, (applyHome a0 a1).spine = a1.spine := by
  intro a0 a1
  unfold applyHome
  repeat' (first | with_reducible rfl | with_reducible refine (setDet_spine _ _ _).trans ?_ | with_reducible refine (setFilter_spine _ _ _).trans ?_ | with_reducible refine (setSch_spine _ _ _).trans ?_ | with_reducible refine (setVch_spine _ _ _).trans ?_ | intro _ | split | (dsimp only; split) | with_reducible refine spine_mk rfl rfl rfl rfl ?_)

theorem applyLine_spine : ∀ a0 a1 a2 a3 a4, (applyLine a0 a1 a2 a3 a4).2.spine = a4.spine := by
  intro a0 a1 a2 a3 a4
  unfold applyLine
  repeat' (first | with_reducible rfl | with_reducible refine spine_ite ?_ ?_ | with_reducible refine spine_ite_snd ?_ ?_ | with_reducible refine (applyHome_spine _ _).trans ?_ | with_reducible refine (diverge_spine _ _ _ _ _ _).trans ?_ | with_reducible refine (dropInst_spine _ _ _).trans ?_ | with_reducible refine (setHeld_spine _ _ _ _).trans ?_ | with_reducible refine (setInst_spine _ _).trans ?_ | intro _ | split | (dsimp only; split) | with_reducible refine spine_mk rfl rfl rfl rfl ?_)

theorem applyEngine_spine : ∀ a0 a1, (applyEngine a0 a1).spine = a1.spine := by
  intro a0 a1
  unfold applyEngine
  repeat' (first | with_reducible rfl | with_reducible refine spine_ite ?_ ?_ | with_reducible refine (confirmShadow_spine _ _ _).trans ?_ | with_reducible refine (crossTrigger_spine _ _ _).trans ?_ | with_reducible refine (setPub_spine _ _ _).trans ?_ | with_reducible refine foldl_spine ?_ ?_ | intro _ | split | (dsimp only; split) | with_reducible refine spine_mk rfl rfl rfl rfl ?_)

theorem placeHome_spine : ∀ a0 a1 a2 a3, (placeHome a0 a1 a2 a3).spine = a3.spine := by
  intro a0 a1 a2 a3
  unfold placeHome
  repeat' (first | with_reducible rfl | with_reducible refine spine_ite ?_ ?_ | with_reducible refine (applyHome_spine _ _).trans ?_ | intro _ | with_reducible refine spine_mk rfl rfl rfl rfl ?_)

theorem compareAll_spine : ∀ a0 a1 a2 a3, (compareAll a0 a1 a2 a3).2.2.spine = a3.spine := by
  intro a0 a1 a2 a3
  unfold compareAll
  refine foldl_spine3 ?_ rfl
  intro s d
  obtain ⟨left, bad, s⟩ := s
  dsimp only
  split
  · next e _ => exact Eq.trans (b := (compareDigest a1 a0 d e.2 s).2.spine) rfl (compareDigest_spine _ _ _ _ _)
  · rfl

theorem applyCommit_spine : ∀ a0 a1, (applyCommit a0 a1).spine = a1.spine := by
  intro a0 a1
  unfold applyCommit
  repeat' (first | with_reducible rfl | with_reducible refine (applyEngine_spine _ _).trans ?_ | with_reducible refine (applyLine_spine _ _ _ _ _).trans ?_ | with_reducible refine (compareAll_spine _ _ _ _).trans ?_ | with_reducible refine (placeHome_spine _ _ _ _).trans ?_ | with_reducible refine (settleWaits_spine _ _).trans ?_ | with_reducible refine foldl_spine ?_ ?_ | with_reducible refine foldl_spine2 ?_ ?_ | intro _ | split | (dsimp only; split))

theorem execCommitReceived_spine : ∀ a0 a1 a2, Keeps (execCommitReceived a0 a1 a2) a2 := by
  intro a0 a1 a2
  unfold execCommitReceived
  repeat' (first | with_reducible rfl | with_reducible refine spine_ite ?_ ?_ | with_reducible refine keeps_ite ?_ ?_ | with_reducible refine keeps_done ?_ | with_reducible refine (applyCommit_spine _ _).trans ?_ | with_reducible refine (count_spine _ _).trans ?_ | with_reducible refine (emit_spine _ _).trans ?_ | with_reducible refine (pinsOn_spine _).trans ?_ | with_reducible refine (traceCommit_spine _ _ _).trans ?_ | with_reducible refine (twinTake_spine _ _).trans ?_ | intro _ | split | (dsimp only; split) | with_reducible refine spine_mk rfl rfl rfl rfl ?_)

theorem shadowDone_spine : ∀ a0 a1, (shadowDone a0 a1).spine = a1.spine := by
  intro a0 a1
  unfold shadowDone
  repeat' (first | with_reducible rfl | with_reducible refine (applyHome_spine _ _).trans ?_ | with_reducible refine (compareDigest_spine _ _ _ _ _).trans ?_ | with_reducible refine (settleWaits_spine _ _).trans ?_ | with_reducible refine foldl_spine ?_ ?_ | with_reducible refine foldl_spine2 ?_ ?_ | intro _ | split | (dsimp only; split) | refine spine_snd (by assumption) ?_ | with_reducible refine spine_mk rfl rfl rfl rfl ?_)

theorem digestTask_spine : ∀ a0 a1 a2, (digestTask a0 a1 a2).spine = a2.spine := by
  intro a0 a1 a2
  unfold digestTask
  repeat' (first | with_reducible rfl | with_reducible refine spine_ite ?_ ?_ | with_reducible refine (shadowDone_spine _ _).trans ?_ | intro _ | split | (dsimp only; split) | with_reducible refine spine_mk rfl rfl rfl rfl ?_)

theorem lateWait_spine : ∀ a0 a1 a2, (lateWait a0 a1 a2).2.spine = a2.spine := by
  intro a0 a1 a2
  unfold lateWait
  repeat' (first | with_reducible rfl | with_reducible refine spine_ite_snd ?_ ?_ | with_reducible refine (diverge_spine _ _ _ _ _ _).trans ?_ | with_reducible refine foldl_spine ?_ ?_ | intro _ | split | (dsimp only; split))

theorem overdueBy_spine : ∀ a0 a1 a2, (overdueBy a0 a1 a2).spine = a2.spine := by
  intro a0 a1 a2
  unfold overdueBy
  repeat' (first | with_reducible rfl | with_reducible refine spine_ite ?_ ?_ | with_reducible refine (diverge_spine _ _ _ _ _ _).trans ?_ | with_reducible refine (lateWait_spine _ _ _).trans ?_ | with_reducible refine (settleWaits_spine _ _).trans ?_ | with_reducible refine foldl_spine ?_ ?_ | with_reducible refine foldl_spine2 ?_ ?_ | intro _ | split | (dsimp only; split) | with_reducible refine spine_mk rfl rfl rfl rfl ?_)

theorem overdue_spine : ∀ a0 a1, (overdue a0 a1).spine = a1.spine := by
  intro a0 a1
  unfold overdue
  repeat' (first | with_reducible rfl | with_reducible refine (overdueBy_spine _ _ _).trans ?_ | intro _)

theorem execStandbyCommitLoss_spine : ∀ a0, Keeps (execStandbyCommitLoss a0) a0 := by
  intro a0
  unfold execStandbyCommitLoss
  repeat' (first | with_reducible rfl | with_reducible refine keeps_ite ?_ ?_ | with_reducible refine keeps_done ?_ | with_reducible refine (toStalemate_spine _ _ _).trans ?_ | intro _ | split | (dsimp only; split))

theorem execResyncStartReceived_spine : ∀ a0 a1, Keeps (execResyncStartReceived a0 a1) a1 := by
  intro a0 a1
  unfold execResyncStartReceived
  repeat' (first | with_reducible rfl | with_reducible refine keeps_ite ?_ ?_ | with_reducible refine keeps_done ?_ | with_reducible refine (twinTake_spine _ _).trans ?_ | intro _ | split | (dsimp only; split) | with_reducible refine spine_mk rfl rfl rfl rfl ?_)

theorem execResyncDataReceived_spine : ∀ a0 a1, Keeps (execResyncDataReceived a0 a1) a1 := by
  intro a0 a1
  unfold execResyncDataReceived
  repeat' (first | with_reducible rfl | with_reducible refine spine_ite ?_ ?_ | with_reducible refine keeps_done ?_ | with_reducible refine (twinTake_spine _ _).trans ?_ | intro _ | split | (dsimp only; split) | with_reducible refine spine_mk rfl rfl rfl rfl ?_)

theorem applyCopy_spine : ∀ a0 a1, (applyCopy a0 a1).spine = a1.spine := by
  intro a0 a1
  unfold applyCopy
  repeat' (first | with_reducible rfl | with_reducible refine (applyLine_spine _ _ _ _ _).trans ?_ | with_reducible refine (setSch_spine _ _ _).trans ?_ | with_reducible refine foldl_spine ?_ ?_ | intro _ | with_reducible refine spine_mk rfl rfl rfl rfl ?_)

theorem execResyncEndReceived_spine : ∀ a0 a1, Keeps (execResyncEndReceived a0 a1) a1 := by
  intro a0 a1
  unfold execResyncEndReceived
  repeat' (first | with_reducible rfl | with_reducible refine keeps_ite ?_ ?_ | with_reducible refine keeps_done ?_ | with_reducible refine (applyCopy_spine _ _).trans ?_ | with_reducible refine (count_spine _ _).trans ?_ | with_reducible refine (dropExchange_spine _).trans ?_ | with_reducible refine (twinTake_spine _ _).trans ?_ | with_reducible refine foldl_spine ?_ ?_ | intro _ | split | (dsimp only; split) | with_reducible refine spine_mk rfl rfl rfl rfl ?_)

theorem execResyncTimeout_spine : ∀ a0, Keeps (execResyncTimeout a0) a0 := by
  intro a0
  unfold execResyncTimeout
  repeat' (first | with_reducible rfl | with_reducible refine keeps_ite ?_ ?_ | with_reducible refine keeps_done ?_ | with_reducible refine (advanceTo_spine _ _).trans ?_ | with_reducible refine (noteCas_spine _ _ _).trans ?_ | intro _ | with_reducible refine spine_mk rfl rfl rfl rfl ?_)

theorem execResyncRetry_spine : ∀ a0, Keeps (execResyncRetry a0) a0 := by
  intro a0
  unfold execResyncRetry
  repeat' (first | with_reducible rfl | with_reducible refine keeps_ite ?_ ?_ | with_reducible refine keeps_done ?_ | with_reducible refine (advanceTo_spine _ _).trans ?_ | with_reducible refine (resyncStart_spine _).trans ?_ | intro _ | split | (dsimp only; split) | with_reducible refine spine_mk rfl rfl rfl rfl ?_)

theorem announceAll_spine : ∀ a0, (announceAll a0).spine = a0.spine := by
  intro a0
  unfold announceAll
  repeat' (first | with_reducible rfl | with_reducible refine (emit_spine _ _).trans ?_ | with_reducible refine foldl_spine ?_ ?_ | intro _)

theorem republish_spine : ∀ a0, (republish a0).spine = a0.spine := by
  intro a0
  unfold republish
  repeat' (first | with_reducible rfl | with_reducible refine spine_ite ?_ ?_ | with_reducible refine (setPub_spine _ _ _).trans ?_ | with_reducible refine foldl_spine ?_ ?_ | intro _)

theorem emitFromNow_spine : ∀ a0, (emitFromNow a0).spine = a0.spine := by
  intro a0
  unfold emitFromNow
  repeat' (first | with_reducible rfl | with_reducible refine (announceAll_spine _).trans ?_ | with_reducible refine (deliverShadow_spine _).trans ?_ | with_reducible refine (pinsOn_spine _).trans ?_ | with_reducible refine (republish_spine _).trans ?_ | with_reducible refine (voiceTakeover_spine _).trans ?_ | intro _ | with_reducible refine spine_mk rfl rfl rfl rfl ?_)

theorem execTakeover_spine : ∀ a0, Keeps (execTakeover a0) a0 := by
  intro a0
  unfold execTakeover
  repeat' (first | with_reducible rfl | with_reducible refine keeps_ite ?_ ?_ | with_reducible refine keeps_done ?_ | with_reducible refine (advanceTo_spine _ _).trans ?_ | with_reducible refine (count_spine _ _).trans ?_ | with_reducible refine (dropExchange_spine _).trans ?_ | with_reducible refine (emitFromNow_spine _).trans ?_ | with_reducible refine (setCasIrq_spine _ _).trans ?_ | with_reducible refine (toActive_spine _ _ _).trans ?_ | intro _ | split | (dsimp only; split) | with_reducible refine spine_mk rfl rfl rfl rfl ?_)

theorem execPromoteEffect_spine : ∀ a0, Keeps (execPromoteEffect a0) a0 := by
  intro a0
  unfold execPromoteEffect
  repeat' (first | with_reducible rfl | with_reducible refine keeps_ite ?_ ?_ | with_reducible refine keeps_done ?_ | with_reducible refine (advanceTo_spine _ _).trans ?_ | with_reducible refine (dropExchange_spine _).trans ?_ | with_reducible refine (emitFromNow_spine _).trans ?_ | with_reducible refine (toActive_spine _ _ _).trans ?_ | intro _ | split | (dsimp only; split) | with_reducible refine spine_mk rfl rfl rfl rfl ?_)

theorem execAddressAnnounceRepeat_spine : ∀ a0, Keeps (execAddressAnnounceRepeat a0) a0 := by
  intro a0
  unfold execAddressAnnounceRepeat
  repeat' (first | with_reducible rfl | with_reducible refine spine_ite ?_ ?_ | with_reducible refine keeps_done ?_ | with_reducible refine (advanceTo_spine _ _).trans ?_ | with_reducible refine (announceAll_spine _).trans ?_ | intro _ | split | (dsimp only; split) | with_reducible refine spine_mk rfl rfl rfl rfl ?_)

theorem execFaultReceived_spine : ∀ a0 a1 a2, Keeps (execFaultReceived a0 a1 a2) a2 := by
  intro a0 a1 a2
  unfold execFaultReceived
  repeat' (first | with_reducible rfl | with_reducible refine spine_ite ?_ ?_ | with_reducible refine keeps_ite ?_ ?_ | with_reducible refine keeps_done ?_ | with_reducible refine (twinTake_spine _ _).trans ?_ | intro _ | split | (dsimp only; split) | with_reducible refine spine_mk rfl rfl rfl rfl ?_)

theorem declareFault_spine : ∀ a0 a1, (declareFault a0 a1).spine = a1.spine := by
  intro a0 a1
  unfold declareFault
  repeat' (first | with_reducible rfl | with_reducible refine spine_ite ?_ ?_ | with_reducible refine (emit_spine _ _).trans ?_ | with_reducible refine (noteCas_spine _ _ _).trans ?_ | with_reducible refine (toStalemate_spine _ _ _).trans ?_ | intro _ | with_reducible refine spine_mk rfl rfl rfl rfl ?_)

theorem execFaultDeclare_spine : ∀ a0 a1, Keeps (execFaultDeclare a0 a1) a1 := by
  intro a0 a1
  unfold execFaultDeclare
  repeat' (first | with_reducible rfl | with_reducible refine keeps_done ?_ | with_reducible refine (advanceTo_spine _ _).trans ?_ | with_reducible refine (declareFault_spine _ _).trans ?_ | intro _ | split | (dsimp only; split))

theorem exchangeOne_spine : ∀ a0 a1 a2, (exchangeOne a0 a1 a2).spine = a2.spine := by
  intro a0 a1 a2
  unfold exchangeOne
  repeat' (first | with_reducible rfl | with_reducible refine (exchangeDue_spine _ _).trans ?_ | with_reducible refine (setSch_spine _ _ _).trans ?_ | intro _ | split | (dsimp only; split) | with_reducible refine spine_mk rfl rfl rfl rfl ?_)

theorem exchangeAll_spine : ∀ a0 a1, (exchangeAll a0 a1).spine = a1.spine := by
  intro a0 a1
  unfold exchangeAll
  repeat' (first | with_reducible rfl | with_reducible refine (exchangeOne_spine _ _ _).trans ?_ | with_reducible refine foldl_spine ?_ ?_ | intro _)

theorem execSwitchoverHandover_spine : ∀ a0, Keeps (execSwitchoverHandover a0) a0 := by
  intro a0
  unfold execSwitchoverHandover
  repeat' (first | with_reducible rfl | with_reducible refine keeps_ite ?_ ?_ | with_reducible refine keeps_done ?_ | with_reducible refine (advanceTo_spine _ _).trans ?_ | with_reducible refine (count_spine _ _).trans ?_ | with_reducible refine (emitFromNow_spine _).trans ?_ | with_reducible refine (exchangeAll_spine _ _).trans ?_ | with_reducible refine (finalReply_spine _ _ _).trans ?_ | with_reducible refine (pinsOff_spine _).trans ?_ | with_reducible refine (roleTo_spine _ _ _ _).trans ?_ | with_reducible refine (setCasIrq_spine _ _).trans ?_ | with_reducible refine (toActive_spine _ _ _).trans ?_ | intro _ | split | (dsimp only; split) | with_reducible refine spine_mk rfl rfl rfl rfl ?_)

theorem watchSlot_spine : ∀ a0 a1, (watchSlot a0 a1).spine = a1.spine := by
  intro a0 a1
  unfold watchSlot
  repeat' (first | with_reducible rfl | with_reducible refine spine_ite ?_ ?_ | with_reducible refine (toStalemate_spine _ _ _).trans ?_ | intro _ | split | (dsimp only; split) | with_reducible refine spine_mk rfl rfl rfl rfl ?_)

theorem slotHealth_spine : ∀ a0 a1 a2, (slotHealth a0 a1 a2).spine = a2.spine := by
  intro a0 a1 a2
  unfold slotHealth
  repeat' (first | with_reducible rfl | with_reducible refine spine_ite ?_ ?_ | with_reducible refine (overdue_spine _ _).trans ?_ | intro _ | with_reducible refine spine_mk rfl rfl rfl rfl ?_)

theorem execSlotBoundary_spine : ∀ a0 a1, Keeps (execSlotBoundary a0 a1) a1 := by
  intro a0 a1
  unfold execSlotBoundary
  repeat' (first | with_reducible rfl | with_reducible refine spine_ite ?_ ?_ | with_reducible refine keeps_ite ?_ ?_ | with_reducible refine keeps_done ?_ | with_reducible refine (advanceTo_spine _ _).trans ?_ | with_reducible refine (slotHealth_spine _ _ _).trans ?_ | with_reducible refine (toStalemate_spine _ _ _).trans ?_ | with_reducible refine (watchSlot_spine _ _).trans ?_ | intro _ | split | (dsimp only; split) | with_reducible refine spine_mk rfl rfl rfl rfl ?_)

theorem execEyeMeasure_spine : ∀ a0 a1, Keeps (execEyeMeasure a0 a1) a1 := by
  intro a0 a1
  unfold execEyeMeasure
  repeat' (first | with_reducible rfl | with_reducible refine spine_ite ?_ ?_ | with_reducible refine keeps_done ?_ | intro _ | with_reducible refine spine_mk rfl rfl rfl rfl ?_)

end Sys2Proof.Machine
end

