-- ==== Sys2Proof/Laws/SpineIngest.lean ====
section
/-! SUPPORT. What each definition of Machine/Ingest leaves as it was: the waiting commands, the power state and its rails
(`State.spine`). -/

namespace Sys2Proof.Machine

theorem countTqBad_spine : ∀ a0 a1, (countTqBad a0 a1).spine = a1.spine := by
  intro a0 a1
  unfold countTqBad
  repeat' (first | with_reducible rfl | with_reducible refine (count_spine _ _).trans ?_ | with_reducible refine (setStream_spine _ _ _).trans ?_ | intro _)

theorem enterMismatch_spine : ∀ a0 a1 a2, (enterMismatch a0 a1 a2).spine = a2.spine := by
  intro a0 a1 a2
  unfold enterMismatch
  repeat' (first | with_reducible rfl | with_reducible refine spine_ite ?_ ?_ | with_reducible refine (histAdd_spine _ _ _ _).trans ?_ | with_reducible refine (noteIngest_spine _ _ _ _).trans ?_ | with_reducible refine (raiseVector_spine _ _).trans ?_ | with_reducible refine (setStream_spine _ _ _).trans ?_ | intro _ | split | (dsimp only; split))

theorem leaveMismatch_spine : ∀ a0 a1 a2 a3, (leaveMismatch a0 a1 a2 a3).spine = a3.spine := by
  intro a0 a1 a2 a3
  unfold leaveMismatch
  repeat' (first | with_reducible rfl | with_reducible refine spine_ite ?_ ?_ | with_reducible refine (histAdd_spine _ _ _ _).trans ?_ | with_reducible refine (noteIngest_spine _ _ _ _).trans ?_ | with_reducible refine (setStream_spine _ _ _).trans ?_ | with_reducible refine (streamDrop_spine _ _).trans ?_ | intro _ | split | (dsimp only; split))

theorem prpSeen_spine : ∀ a0 a1 a2 a3 a4, (prpSeen a0 a1 a2 a3 a4).spine = a4.spine := by
  intro a0 a1 a2 a3 a4
  unfold prpSeen
  repeat' (first | with_reducible rfl | with_reducible refine spine_ite ?_ ?_ | with_reducible refine (setStream_spine _ _ _).trans ?_ | intro _)

theorem authFail_spine : ∀ a0 a1 a2, (authFail a0 a1 a2).spine = a2.spine := by
  intro a0 a1 a2
  unfold authFail
  repeat' (first | with_reducible rfl | with_reducible refine spine_ite ?_ ?_ | with_reducible refine (countStream_spine _ _ _).trans ?_ | with_reducible refine (useRefused_spine _).trans ?_ | intro _)

theorem c37Accept_spine : ∀ a0 a1 a2 a3 a4 a5, (c37Accept a0 a1 a2 a3 a4 a5).spine = a5.spine := by
  intro a0 a1 a2 a3 a4 a5
  unfold c37Accept
  repeat' (first | with_reducible rfl | with_reducible refine spine_ite ?_ ?_ | with_reducible refine (countStream_spine _ _ _).trans ?_ | with_reducible refine (countTqBad_spine _ _).trans ?_ | with_reducible refine (lateLane_spine _ _ _ _ _).trans ?_ | with_reducible refine (operandWritten_spine _ _ _ _).trans ?_ | with_reducible refine (setStream_spine _ _ _).trans ?_ | with_reducible refine (streamAccept_spine _ _ _ _).trans ?_ | with_reducible refine (streamRefused_spine _ _).trans ?_ | refine (takeCell_spine _ _ _ _ _ _ (by assumption)).trans ?_ | intro _ | split | (dsimp only; split))

theorem c37Ingest_spine : ∀ a0 a1 a2 a3 a4, (c37Ingest a0 a1 a2 a3 a4).spine = a4.spine := by
  intro a0 a1 a2 a3 a4
  unfold c37Ingest
  repeat' (first | with_reducible rfl | with_reducible refine spine_ite ?_ ?_ | with_reducible refine (c37Accept_spine _ _ _ _ _ _).trans ?_ | with_reducible refine (countStream_spine _ _ _).trans ?_ | intro _ | split | (dsimp only; split))

theorem c37Frame_spine : ∀ a0 a1, (c37Frame a0 a1).spine = a1.spine := by
  intro a0 a1
  unfold c37Frame
  repeat' (first | with_reducible rfl | with_reducible refine spine_ite ?_ ?_ | with_reducible refine (c37Ingest_spine _ _ _ _ _).trans ?_ | with_reducible refine (prpSeen_spine _ _ _ _ _).trans ?_ | with_reducible refine (setStream_spine _ _ _).trans ?_ | intro _ | split | (dsimp only; split))

theorem rowC37118FrameReceived_spine : ∀ a0 a1, Keeps (rowC37118FrameReceived a0 a1) a1 := by
  intro a0 a1
  unfold rowC37118FrameReceived
  repeat' (first | with_reducible rfl | with_reducible refine spine_ite ?_ ?_ | with_reducible refine keeps_ite ?_ ?_ | with_reducible refine keeps_done ?_ | with_reducible refine (c37Frame_spine _ _).trans ?_ | with_reducible refine (macTake_spine _ _ _ _ _ _ _ _).trans ?_ | with_reducible refine (svcInput_spine _ _ _ _ _ _).trans ?_ | intro _ | split | (dsimp only; split) | refine spine_snd (by assumption) ?_ | refine spine_fst (by assumption) ?_ | refine spine_snd2 (by assumption) ?_ | refine spine_snd3 (by assumption) ?_)

theorem recordIngest_spine : ∀ a0 a1 a2 a3, (recordIngest a0 a1 a2 a3).spine = a3.spine := by
  intro a0 a1 a2 a3
  unfold recordIngest
  repeat' (first | with_reducible rfl | with_reducible refine spine_ite ?_ ?_ | with_reducible refine (c37Ingest_spine _ _ _ _ _).trans ?_ | intro _ | split | (dsimp only; split))

theorem rowInjectionRecordTaken_spine : ∀ a0 a1, Keeps (rowInjectionRecordTaken a0 a1) a1 := by
  intro a0 a1
  unfold rowInjectionRecordTaken
  repeat' (first | with_reducible rfl | with_reducible refine keeps_ite ?_ ?_ | with_reducible refine keeps_done ?_ | with_reducible refine (count_spine _ _).trans ?_ | with_reducible refine (mirrorOut_spine _ _ _ _ _).trans ?_ | with_reducible refine (recordIngest_spine _ _ _ _).trans ?_ | with_reducible refine (setIq_spine _ _ _).trans ?_ | intro _ | split | (dsimp only; split))

theorem svFeed_spine : ∀ a0 a1 a2 a3 a4 a5 a6 a7, (svFeed a0 a1 a2 a3 a4 a5 a6 a7).spine = a7.spine := by
  intro a0 a1 a2 a3 a4 a5 a6 a7
  unfold svFeed
  repeat' (first | with_reducible rfl | with_reducible refine spine_ite ?_ ?_ | with_reducible refine (filterDrain_spine _ _ _ _ _).trans ?_ | with_reducible refine (refBusUpdate_spine _ _ _).trans ?_ | with_reducible refine (setFilter_spine _ _ _).trans ?_ | intro _)

theorem svHeard_spine : ∀ a0 a1 a2 a3, (svHeard a0 a1 a2 a3).spine = a3.spine := by
  intro a0 a1 a2 a3
  unfold svHeard
  repeat' (first | with_reducible rfl | with_reducible refine (setStream_spine _ _ _).trans ?_ | intro _)

theorem svAccept_spine : ∀ a0 a1 a2 a3 a4 a5, (svAccept a0 a1 a2 a3 a4 a5).spine = a5.spine := by
  intro a0 a1 a2 a3 a4 a5
  unfold svAccept
  repeat' (first | with_reducible rfl | with_reducible refine spine_ite ?_ ?_ | with_reducible refine (countStream_spine _ _ _).trans ?_ | with_reducible refine (countTqBad_spine _ _).trans ?_ | refine (stagingCell_spine _ _ _ _ _ (by assumption)).trans ?_ | with_reducible refine (streamAccept_spine _ _ _ _).trans ?_ | with_reducible refine (streamRefused_spine _ _).trans ?_ | with_reducible refine (svFeed_spine _ _ _ _ _ _ _ _).trans ?_ | with_reducible refine (svHeard_spine _ _ _ _).trans ?_ | intro _ | split | (dsimp only; split))

theorem svAsdu_spine : ∀ a0 a1 a2 a3 a4, (svAsdu a0 a1 a2 a3 a4).spine = a3.spine := by
  intro a0 a1 a2 a3 a4
  unfold svAsdu
  repeat' (first | with_reducible rfl | with_reducible refine spine_ite ?_ ?_ | with_reducible refine (countStream_spine _ _ _).trans ?_ | with_reducible refine (ringTake_spine _ _ _ _ _ _).trans ?_ | with_reducible refine (svAccept_spine _ _ _ _ _ _).trans ?_ | intro _)

theorem svFrame_spine : ∀ a0 a1, (svFrame a0 a1).spine = a1.spine := by
  intro a0 a1
  unfold svFrame
  repeat' (first | with_reducible rfl | with_reducible refine spine_ite ?_ ?_ | with_reducible refine (authFail_spine _ _ _).trans ?_ | with_reducible refine (countStream_spine _ _ _).trans ?_ | with_reducible refine (enterMismatch_spine _ _ _).trans ?_ | with_reducible refine (leaveMismatch_spine _ _ _ _).trans ?_ | with_reducible refine (prpSeen_spine _ _ _ _ _).trans ?_ | with_reducible refine (svAsdu_spine _ _ _ _ _).trans ?_ | with_reducible refine foldl_spine ?_ ?_ | intro _ | split | (dsimp only; split))

theorem rowSvFrameReceived_spine : ∀ a0 a1, Keeps (rowSvFrameReceived a0 a1) a1 := by
  intro a0 a1
  unfold rowSvFrameReceived
  repeat' (first | with_reducible rfl | with_reducible refine spine_ite ?_ ?_ | with_reducible refine keeps_ite ?_ ?_ | with_reducible refine keeps_done ?_ | with_reducible refine (macTake_spine _ _ _ _ _ _ _ _).trans ?_ | with_reducible refine (svFrame_spine _ _).trans ?_ | with_reducible refine (svcInput_spine _ _ _ _ _ _).trans ?_ | intro _ | split | (dsimp only; split) | refine spine_snd (by assumption) ?_ | refine spine_fst (by assumption) ?_ | refine spine_snd2 (by assumption) ?_ | refine spine_snd3 (by assumption) ?_)

theorem goosePub_spine : ∀ a0 a1, (goosePub a0 a1).spine = a1.spine := by
  intro a0 a1
  unfold goosePub
  repeat' (first | with_reducible rfl | with_reducible refine spine_ite ?_ ?_ | with_reducible refine (authFail_spine _ _ _).trans ?_ | with_reducible refine (countStream_spine _ _ _).trans ?_ | with_reducible refine (enterMismatch_spine _ _ _).trans ?_ | with_reducible refine (leaveMismatch_spine _ _ _ _).trans ?_ | with_reducible refine (prpSeen_spine _ _ _ _ _).trans ?_ | with_reducible refine (setStream_spine _ _ _).trans ?_ | intro _ | split | (dsimp only; split))

theorem execGooseRPublicationReceived_spine : ∀ a0 a1, Keeps (execGooseRPublicationReceived a0 a1) a1 := by
  intro a0 a1
  unfold execGooseRPublicationReceived
  repeat' (first | with_reducible rfl | with_reducible refine spine_ite ?_ ?_ | with_reducible refine keeps_ite ?_ ?_ | with_reducible refine keeps_done ?_ | with_reducible refine (goosePub_spine _ _).trans ?_ | with_reducible refine (macTake_spine _ _ _ _ _ _ _ _).trans ?_ | with_reducible refine (svcInput_spine _ _ _ _ _ _).trans ?_ | intro _ | split | (dsimp only; split) | refine spine_snd (by assumption) ?_ | refine spine_fst (by assumption) ?_ | refine spine_snd2 (by assumption) ?_ | refine spine_snd3 (by assumption) ?_)

theorem gooseOperand_spine : ∀ a0 a1 a2 a3, (gooseOperand a0 a1 a2 a3).spine = a3.spine := by
  intro a0 a1 a2 a3
  unfold gooseOperand
  repeat' (first | with_reducible rfl | with_reducible refine spine_ite ?_ ?_ | with_reducible refine (countTqBad_spine _ _).trans ?_ | with_reducible refine (operandWritten_spine _ _ _ _).trans ?_ | with_reducible refine (setStream_spine _ _ _).trans ?_ | with_reducible refine (streamAccept_spine _ _ _ _).trans ?_ | with_reducible refine (streamRefused_spine _ _).trans ?_ | refine (takeCell_spine _ _ _ _ _ _ (by assumption)).trans ?_ | intro _ | split | (dsimp only; split))

theorem rowGooseOperandInstant_spine : ∀ a0 a1 a2, Keeps (rowGooseOperandInstant a0 a1 a2) a2 := by
  intro a0 a1 a2
  unfold rowGooseOperandInstant
  repeat' (first | with_reducible rfl | with_reducible refine keeps_ite ?_ ?_ | with_reducible refine keeps_done ?_ | with_reducible refine (advanceTo_spine _ _).trans ?_ | with_reducible refine (gooseOperand_spine _ _ _ _).trans ?_ | intro _ | split | (dsimp only; split))

theorem cfgToRing_spine : ∀ a0 a1 a2, (cfgToRing a0 a1 a2).spine = a2.spine := by
  intro a0 a1 a2
  unfold cfgToRing
  repeat' (first | with_reducible rfl | with_reducible refine (rxDeliver_spine _ _ _ _).trans ?_ | intro _)

theorem cfgFrame_spine : ∀ a0 a1 a2, (cfgFrame a0 a1 a2).spine = a2.spine := by
  intro a0 a1 a2
  unfold cfgFrame
  repeat' (first | with_reducible rfl | with_reducible refine spine_ite ?_ ?_ | with_reducible refine (cfgToRing_spine _ _ _).trans ?_ | with_reducible refine (countStream_spine _ _ _).trans ?_ | with_reducible refine (enterMismatch_spine _ _ _).trans ?_ | with_reducible refine (leaveMismatch_spine _ _ _ _).trans ?_ | with_reducible refine (prpSeen_spine _ _ _ _ _).trans ?_ | intro _ | split | (dsimp only; split))

theorem execCfgFrameReceived_spine : ∀ a0 a1, Keeps (execCfgFrameReceived a0 a1) a1 := by
  intro a0 a1
  unfold execCfgFrameReceived
  repeat' (first | with_reducible rfl | with_reducible refine spine_ite ?_ ?_ | with_reducible refine keeps_ite ?_ ?_ | with_reducible refine keeps_done ?_ | with_reducible refine (cfgFrame_spine _ _ _).trans ?_ | with_reducible refine (macTake_spine _ _ _ _ _ _ _ _).trans ?_ | with_reducible refine (svcInput_spine _ _ _ _ _ _).trans ?_ | intro _ | split | (dsimp only; split) | refine spine_snd (by assumption) ?_ | refine spine_fst (by assumption) ?_ | refine spine_snd2 (by assumption) ?_ | refine spine_snd3 (by assumption) ?_)

theorem execStreamMissingLimit_spine : ∀ a0 a1 a2, Keeps (execStreamMissingLimit a0 a1 a2) a2 := by
  intro a0 a1 a2
  unfold execStreamMissingLimit
  repeat' (first | with_reducible rfl | with_reducible refine spine_ite ?_ ?_ | with_reducible refine keeps_ite ?_ ?_ | with_reducible refine keeps_done ?_ | with_reducible refine (advanceTo_spine _ _).trans ?_ | with_reducible refine (limitPassed_spine _ _ _).trans ?_ | with_reducible refine (noteMissed_spine _ _ _).trans ?_ | with_reducible refine (setStream_spine _ _ _).trans ?_ | intro _ | split | (dsimp only; split))

end Sys2Proof.Machine
end

