-- ==== Sys2Proof/Laws/SpineTasks.lean ====
section
/-! SUPPORT. What each definition of Machine/Tasks leaves as it was: the waiting commands, the power state and its rails
(`State.spine`). -/

namespace Sys2Proof.Machine

theorem viewOld_spine : ∀ a0 a1, (viewOld a0 a1).spine = a1.spine := by
  intro a0 a1
  unfold viewOld
  repeat' (first | with_reducible rfl | with_reducible refine (setActive_spine _ _).trans ?_ | with_reducible refine (setFilter_spine _ _ _).trans ?_ | intro _ | split | (dsimp only; split))

theorem unviewOld_spine : ∀ a0 a1 a2, (unviewOld a0 a1 a2).spine = a2.spine := by
  intro a0 a1 a2
  unfold unviewOld
  repeat' (first | with_reducible rfl | with_reducible refine spine_ite ?_ ?_ | with_reducible refine (setActive_spine _ _).trans ?_ | intro _ | split | (dsimp only; split) | with_reducible refine spine_mk rfl rfl rfl rfl ?_)

theorem underOld_spine (k : TaskInst) (f : State → State) (h : ∀ s, (f s).spine = s.spine) : ∀ s, (underOld k f s).spine = s.spine := by
  intro s
  exact (unviewOld_spine _ _ _).trans ((h _).trans (viewOld_spine _ _))

theorem detRenew_spine : ∀ a0 a1, (detRenew a0 a1).spine = a1.spine := by
  intro a0 a1
  unfold detRenew
  repeat' (first | with_reducible rfl | with_reducible refine spine_ite ?_ ?_ | with_reducible refine (alarmPin_spine _).trans ?_ | intro _ | split | (dsimp only; split) | with_reducible refine spine_mk rfl rfl rfl rfl ?_)

theorem lostWork_spine : ∀ a0 a1, (lostWork a0 a1).spine = a1.spine := by
  intro a0 a1
  unfold lostWork
  split
  · exact (detRenew_spine _ _).trans (underOld_spine _ _ (detDropped_spine _) _)
  · exact underOld_spine _ _ (outDropped_spine _) _
  · exact underOld_spine _ _ (filterDropped_spine _) _
  · exact voiceDropped_spine _ _
  · exact copyDropped_spine _
  · rfl

theorem settle_spine : ∀ a0, (settle a0).spine = a0.spine := by
  intro a0
  unfold settle
  repeat' (first | with_reducible rfl | with_reducible refine (exchangeDue_spine _ _).trans ?_ | with_reducible refine (lostWork_spine _ _).trans ?_ | with_reducible refine foldl_spine ?_ ?_ | intro _ | with_reducible refine spine_mk rfl rfl rfl rfl ?_)

theorem settled_spine {o : Host.Outcome State Fault Refusal} {s : State} (h : Keeps o s) : Keeps (settled o) s := by
  obtain ⟨x, rfl⟩ := h.ends
  exact keeps_done ((settle_spine _).trans (h.next x rfl))

theorem execDeadlineEvaluation_spine : ∀ a0 a1 s, Keeps (execDeadlineEvaluation a0 a1 s) s := by
  intro a0 a1 s
  exact settled_spine (rowDeadlineEvaluation_spine a0 a1 s)

theorem execC37118FrameReceived_spine : ∀ a0 s, Keeps (execC37118FrameReceived a0 s) s := by
  intro a0 s
  exact settled_spine (rowC37118FrameReceived_spine a0 s)

theorem execInjectionRecordTaken_spine : ∀ a0 s, Keeps (execInjectionRecordTaken a0 s) s := by
  intro a0 s
  exact settled_spine (rowInjectionRecordTaken_spine a0 s)

theorem execSvFrameReceived_spine : ∀ a0 s, Keeps (execSvFrameReceived a0 s) s := by
  intro a0 s
  exact settled_spine (rowSvFrameReceived_spine a0 s)

theorem execGooseOperandInstant_spine : ∀ a0 a1 s, Keeps (execGooseOperandInstant a0 a1 s) s := by
  intro a0 a1 s
  exact settled_spine (rowGooseOperandInstant_spine a0 a1 s)

theorem tickIssue_spine : ∀ a0 a1 a2, (tickIssue a0 a1 a2).spine = a2.spine := by
  intro a0 a1 a2
  unfold tickIssue
  repeat' (first | with_reducible rfl | with_reducible refine spine_ite ?_ ?_ | with_reducible refine (addPhaseAt_spine _ _ _ _ _).trans ?_ | with_reducible refine (triggerCap_spine _ _ _ _).trans ?_ | intro _ | split | (dsimp only; split))

theorem issueAct_spine : ∀ a0 a1 a2, (issueAct a0 a1 a2).spine = a2.spine := by
  intro a0 a1 a2
  unfold issueAct
  repeat' (first | with_reducible rfl | with_reducible refine (copyRelease_spine _ _ _).trans ?_ | with_reducible refine (cycleIssue_spine _ _ _).trans ?_ | with_reducible refine (deadlineIssue_spine _ _ _).trans ?_ | with_reducible refine (playoutIssue_spine _ _ _ _).trans ?_ | with_reducible refine (publishAt_spine _ _ _).trans ?_ | with_reducible refine (releaseIssue_spine _ _ _ _).trans ?_ | with_reducible refine (tickIssue_spine _ _ _).trans ?_ | intro _ | split | (dsimp only; split))

theorem takeIssue_spine : ∀ a0 a1 a2, (takeIssue a0 a1 a2).spine = a1.spine := by
  intro a0 a1 a2
  unfold takeIssue
  repeat' (first | with_reducible rfl | with_reducible refine (issueAct_spine _ _ _).trans ?_ | with_reducible refine (settle_spine _).trans ?_ | intro _ | with_reducible refine spine_mk rfl rfl rfl rfl ?_)

theorem sequence_spine : ∀ a0 a1 a2 a3, Keeps (sequence a0 a1 a2 a3) a3 := by
  intro a0 a1 a2 a3
  unfold sequence
  repeat' (first | with_reducible rfl | with_reducible refine keeps_ite ?_ ?_ | with_reducible refine keeps_done ?_ | with_reducible refine (advanceTo_spine _ _).trans ?_ | with_reducible refine (takeIssue_spine _ _ _).trans ?_ | with_reducible refine foldl_spine ?_ ?_ | intro _ | split | (dsimp only; split))

theorem execDeadlineIssue_spine : ∀ a0 a1 a2, Keeps (execDeadlineIssue a0 a1 a2) a2 := by
  intro a0 a1 a2
  unfold execDeadlineIssue
  repeat' (first | with_reducible rfl | with_reducible refine keeps_trans (sequence_spine _ _ _ _) ?_ | intro _)

theorem execReleaseIssue_spine : ∀ a0 a1 a2, Keeps (execReleaseIssue a0 a1 a2) a2 := by
  intro a0 a1 a2
  unfold execReleaseIssue
  repeat' (first | with_reducible rfl | with_reducible refine keeps_trans (sequence_spine _ _ _ _) ?_ | intro _)

theorem execPlayoutIssue_spine : ∀ a0 a1 a2, Keeps (execPlayoutIssue a0 a1 a2) a2 := by
  intro a0 a1 a2
  unfold execPlayoutIssue
  repeat' (first | with_reducible rfl | with_reducible refine keeps_trans (sequence_spine _ _ _ _) ?_ | intro _)

theorem execCycleIssue_spine : ∀ a0 a1 a2, Keeps (execCycleIssue a0 a1 a2) a2 := by
  intro a0 a1 a2
  unfold execCycleIssue
  repeat' (first | with_reducible rfl | with_reducible refine keeps_trans (sequence_spine _ _ _ _) ?_ | intro _)

theorem execCopyIssue_spine : ∀ a0 a1 a2, Keeps (execCopyIssue a0 a1 a2) a2 := by
  intro a0 a1 a2
  unfold execCopyIssue
  repeat' (first | with_reducible rfl | with_reducible refine keeps_trans (sequence_spine _ _ _ _) ?_ | intro _)

theorem execTickIssue_spine : ∀ a0 a1 a2, Keeps (execTickIssue a0 a1 a2) a2 := by
  intro a0 a1 a2
  unfold execTickIssue
  repeat' (first | with_reducible rfl | with_reducible refine keeps_trans (sequence_spine _ _ _ _) ?_ | intro _)

theorem execPublishIssue_spine : ∀ a0 a1 a2, Keeps (execPublishIssue a0 a1 a2) a2 := by
  intro a0 a1 a2
  unfold execPublishIssue
  repeat' (first | with_reducible rfl | with_reducible refine keeps_trans (sequence_spine _ _ _ _) ?_ | intro _)

theorem execPhaseActionTaken_spine : ∀ a0 a1, Keeps (execPhaseActionTaken a0 a1) a1 := by
  intro a0 a1
  unfold execPhaseActionTaken
  repeat' (first | with_reducible rfl | with_reducible refine keeps_done ?_ | with_reducible refine (advanceTo_spine _ _).trans ?_ | with_reducible refine (captureTaken_spine _ _ _ _ _ _ _ _ _).trans ?_ | with_reducible refine (phaseOutcome_spine _ _ _).trans ?_ | with_reducible refine (wasOutDrive_spine _ _ _).trans ?_ | intro _ | split | (dsimp only; split) | with_reducible refine spine_mk rfl rfl rfl rfl ?_)

theorem execWasInEdgeAccepted_spine : ∀ a0 a1 a2 a3, Keeps (execWasInEdgeAccepted a0 a1 a2 a3) a3 := by
  intro a0 a1 a2 a3
  unfold execWasInEdgeAccepted
  repeat' (first | with_reducible rfl | with_reducible refine keeps_ite ?_ ?_ | with_reducible refine keeps_done ?_ | with_reducible refine (advanceTo_spine _ _).trans ?_ | with_reducible refine (triggerAll_spine _ _ _).trans ?_ | intro _ | with_reducible refine spine_mk rfl rfl rfl rfl ?_)

theorem putAll_spine : ∀ k a0 a1, ∀ t, putAll k a0 a1 = some t → t.spine = a1.spine := by
  intro k a0 a1 t
  induction a0 generalizing a1 with
  | nil => intro h; cases h; rfl
  | cons x xs ih =>
    obtain ⟨q, p, d⟩ := x
    intro h
    unfold putAll at h
    split at h
    · cases h; rfl
    split at h
    · exact (ih _ h).trans (oqPut_spine _ _ _ _)
    · cases h

theorem taskWork_spine : ∀ a0 a1 a2, (taskWork a0 a1 a2).1.spine = a2.spine := by
  intro a0 a1 a2
  unfold taskWork
  repeat' (first | with_reducible rfl | with_reducible refine spine_ite ?_ ?_ | with_reducible refine (archiveWork_spine _ _ _).trans ?_ | with_reducible refine (commitBuild_spine _ _).trans ?_ | with_reducible refine (detWork_spine _ _).trans ?_ | with_reducible refine (filterWrite_spine _ _).trans ?_ | with_reducible refine (outWork_spine _ _).trans ?_ | with_reducible refine (schemeWork_spine _ _ _ _).trans ?_ | with_reducible refine (triggerAll_spine _ _ _).trans ?_ | with_reducible refine (voiceTask_spine _ _).trans ?_ | with_reducible refine foldl_spine ?_ ?_ | intro _ | split | (dsimp only; split))

theorem execTaskComplete_spine : ∀ a0 a1 a2, Keeps (execTaskComplete a0 a1 a2) a2 := by
  intro a0 a1 a2
  unfold execTaskComplete
  repeat' (first | with_reducible rfl | with_reducible refine keeps_done ?_ | with_reducible refine (detRenew_spine _ _).trans ?_ | with_reducible refine (digestTask_spine _ _ _).trans ?_ | with_reducible refine (oqStall_spine _ _ _ _).trans ?_ | refine (putAll_spine _ _ _ _ (by assumption)).trans ?_ | with_reducible refine (settle_spine _).trans ?_ | with_reducible refine (taskEnd_spine _ _ _).trans ?_ | with_reducible refine (taskWork_spine _ _ _).trans ?_ | with_reducible refine (unviewOld_spine _ _ _).trans ?_ | with_reducible refine (viewOld_spine _ _).trans ?_ | with_reducible refine (writeOperandOf_spine _ _ _ _).trans ?_ | intro _ | split | (dsimp only; split) | refine spine_fst (by assumption) ?_)

theorem execTaskAbort_spine : ∀ a0 a1, Keeps (execTaskAbort a0 a1) a1 := by
  intro a0 a1
  unfold execTaskAbort
  repeat' (first | with_reducible rfl | with_reducible refine spine_ite ?_ ?_ | with_reducible refine keeps_done ?_ | with_reducible refine (advanceTo_spine _ _).trans ?_ | with_reducible refine (count_spine _ _).trans ?_ | with_reducible refine (lostWork_spine _ _).trans ?_ | with_reducible refine (noteData_spine _ _ _ _ _).trans ?_ | with_reducible refine (setTmplRun_spine _ _ _).trans ?_ | with_reducible refine (settle_spine _).trans ?_ | with_reducible refine (taskEnd_spine _ _ _).trans ?_ | with_reducible refine (traceOverrun_spine _ _ _ _ _).trans ?_ | with_reducible refine (voiceAborted_spine _ _).trans ?_ | intro _ | split | (dsimp only; split))

theorem execSchemeRuntimeFault_spine : ∀ a0 a1, Keeps (execSchemeRuntimeFault a0 a1) a1 := by
  intro a0 a1
  unfold execSchemeRuntimeFault
  repeat' (first | with_reducible rfl | with_reducible refine spine_ite ?_ ?_ | with_reducible refine keeps_ite ?_ ?_ | with_reducible refine keeps_done ?_ | with_reducible refine (count_spine _ _).trans ?_ | with_reducible refine (noteData_spine _ _ _ _ _).trans ?_ | with_reducible refine (setSch_spine _ _ _).trans ?_ | with_reducible refine (settle_spine _).trans ?_ | with_reducible refine (taskEnd_spine _ _ _).trans ?_ | intro _ | split | (dsimp only; split))

theorem execHoldLimitExpiry_spine : ∀ a0 a1, Keeps (execHoldLimitExpiry a0 a1) a1 := by
  intro a0 a1
  unfold execHoldLimitExpiry
  repeat' (first | with_reducible rfl | with_reducible refine spine_ite ?_ ?_ | with_reducible refine keeps_done ?_ | with_reducible refine (advanceTo_spine _ _).trans ?_ | with_reducible refine (count_spine _ _).trans ?_ | with_reducible refine (noteData_spine _ _ _ _ _).trans ?_ | with_reducible refine (releaseDropped_spine _ _).trans ?_ | with_reducible refine (removeTask_spine _ _).trans ?_ | with_reducible refine (settle_spine _).trans ?_ | intro _ | split | (dsimp only; split) | with_reducible refine spine_mk rfl rfl rfl rfl ?_)

theorem execOqStallResume_spine : ∀ a0 a1, Keeps (execOqStallResume a0 a1) a1 := by
  intro a0 a1
  unfold execOqStallResume
  repeat' (first | with_reducible rfl | with_reducible refine spine_ite ?_ ?_ | with_reducible refine keeps_ite ?_ ?_ | with_reducible refine keeps_done ?_ | with_reducible refine (capDrain_spine _ _ _).trans ?_ | with_reducible refine (setOq_spine _ _ _).trans ?_ | with_reducible refine foldl_spine ?_ ?_ | intro _)

end Sys2Proof.Machine
end

