-- ==== Sys2Proof/Laws/SpineRunCtl.lean ====
section
/-! SUPPORT. What each definition of Machine/RunCtl leaves as it was: the waiting commands, the power state and its rails
(`State.spine`). -/

namespace Sys2Proof.Machine

theorem startFilters_spine : ∀ a0 a1, (startFilters a0 a1).spine = a1.spine := by
  intro a0 a1
  unfold startFilters
  repeat' (first | with_reducible rfl | with_reducible refine (countBy_spine _ _ _).trans ?_ | with_reducible refine (setFilter_spine _ _ _).trans ?_ | with_reducible refine foldl_spine ?_ ?_ | intro _ | split | (dsimp only; split) | with_reducible refine spine_mk rfl rfl rfl rfl ?_)

theorem swapFilters_spine : ∀ a0 a1 a2, (swapFilters a0 a1 a2).spine = a2.spine := by
  intro a0 a1 a2
  unfold swapFilters
  repeat' (first | with_reducible rfl | with_reducible refine spine_ite ?_ ?_ | with_reducible refine (countBy_spine _ _ _).trans ?_ | with_reducible refine (setFilter_spine _ _ _).trans ?_ | with_reducible refine foldl_spine ?_ ?_ | intro _ | split | (dsimp only; split) | with_reducible refine spine_mk rfl rfl rfl rfl ?_)

theorem startStreams_spine : ∀ a0, (startStreams a0).spine = a0.spine := by
  intro a0
  unfold startStreams
  repeat' (first | with_reducible rfl | intro _ | with_reducible refine spine_mk rfl rfl rfl rfl ?_)

theorem swapStreams_spine : ∀ a0 a1 a2, (swapStreams a0 a1 a2).spine = a2.spine := by
  intro a0 a1 a2
  unfold swapStreams
  repeat' (first | with_reducible rfl | intro _ | with_reducible refine spine_mk rfl rfl rfl rfl ?_)

theorem retireInst_spine : ∀ a0 a1 a2 a3, (retireInst a0 a1 a2 a3).spine = a3.spine := by
  intro a0 a1 a2 a3
  unfold retireInst
  repeat' (first | with_reducible rfl | with_reducible refine (count_spine _ _).trans ?_ | with_reducible refine (dropInst_spine _ _ _).trans ?_ | with_reducible refine (traceMatch_spine _ _ _ _ _).trans ?_ | with_reducible refine (unreference_spine _ _ _).trans ?_ | intro _ | split | (dsimp only; split) | refine spine_snd (by assumption) ?_ | refine spine_fst (by assumption) ?_ | refine spine_snd2 (by assumption) ?_ | refine spine_snd3 (by assumption) ?_)

theorem carryMembers_spine : ∀ a0 a1 a2, (carryMembers a0 a1 a2).spine = a2.spine := by
  intro a0 a1 a2
  unfold carryMembers
  repeat' (first | with_reducible rfl | with_reducible refine (setInst_spine _ _).trans ?_ | with_reducible refine foldl_spine ?_ ?_ | intro _ | split | (dsimp only; split) | with_reducible refine spine_mk rfl rfl rfl rfl ?_)

theorem carryComplete_spine : ∀ a0 a1 a2 a3 a4, (carryComplete a0 a1 a2 a3 a4).spine = a4.spine := by
  intro a0 a1 a2 a3 a4
  unfold carryComplete
  repeat' (first | with_reducible rfl | with_reducible refine spine_ite ?_ ?_ | with_reducible refine (count_spine _ _).trans ?_ | with_reducible refine (fire_spine _ _ _ _ _).trans ?_ | with_reducible refine (setInst_spine _ _).trans ?_ | with_reducible refine (traceMatch_spine _ _ _ _ _).trans ?_ | intro _ | split | (dsimp only; split))

theorem keepCycles_spine : ∀ a0, (keepCycles a0).spine = a0.spine := by
  intro a0
  unfold keepCycles
  repeat' (first | with_reducible rfl | with_reducible refine (instSettle_spine _ _).trans ?_ | with_reducible refine foldl_spine ?_ ?_ | intro _)

theorem swapGroups_spine : ∀ a0 a1 a2, (swapGroups a0 a1 a2).spine = a2.spine := by
  intro a0 a1 a2
  unfold swapGroups
  repeat' (first | with_reducible rfl | with_reducible refine spine_ite ?_ ?_ | with_reducible refine (carryComplete_spine _ _ _ _ _).trans ?_ | with_reducible refine (carryMembers_spine _ _ _).trans ?_ | with_reducible refine (keepCycles_spine _).trans ?_ | with_reducible refine (retireInst_spine _ _ _ _).trans ?_ | with_reducible refine foldl_spine ?_ ?_ | with_reducible refine foldl_spine2 ?_ ?_ | with_reducible refine foldl_spine1 ?_ ?_ | intro _ | split | (dsimp only; split) | refine spine_snd (by assumption) ?_ | refine spine_fst (by assumption) ?_ | refine spine_snd2 (by assumption) ?_ | refine spine_snd3 (by assumption) ?_ | with_reducible refine spine_mk rfl rfl rfl rfl ?_)

theorem swapCells_spine : ∀ a0 a1, (swapCells a0 a1).spine = a1.spine := by
  intro a0 a1
  unfold swapCells
  repeat' (first | with_reducible rfl | with_reducible refine (cellSweep_spine _).trans ?_ | intro _ | split | (dsimp only; split) | with_reducible refine spine_mk rfl rfl rfl rfl ?_)

theorem replaceCap_spine : ∀ a0 a1 a2 a3, (replaceCap a0 a1 a2 a3).spine = a3.spine := by
  intro a0 a1 a2 a3
  unfold replaceCap
  repeat' (first | with_reducible rfl | with_reducible refine spine_ite ?_ ?_ | with_reducible refine (closeSegments_spine _ _ _).trans ?_ | with_reducible refine (sealCap_spine _ _).trans ?_ | with_reducible refine (setCap_spine _ _ _).trans ?_ | intro _ | split | (dsimp only; split) | with_reducible refine spine_mk rfl rfl rfl rfl ?_)

theorem swapCaps_spine : ∀ a0 a1 a2, (swapCaps a0 a1 a2).spine = a2.spine := by
  intro a0 a1 a2
  unfold swapCaps
  repeat' (first | with_reducible rfl | with_reducible refine spine_ite ?_ ?_ | with_reducible refine (replaceCap_spine _ _ _ _).trans ?_ | with_reducible refine foldl_spine ?_ ?_ | intro _ | split | (dsimp only; split))

theorem swapQueues_spine : ∀ a0 a1, (swapQueues a0 a1).spine = a1.spine := by
  intro a0 a1
  unfold swapQueues
  repeat' (first | with_reducible rfl | intro _ | with_reducible refine spine_mk rfl rfl rfl rfl ?_)

theorem swapDets_spine : ∀ a0 a1, (swapDets a0 a1).spine = a1.spine := by
  intro a0 a1
  unfold swapDets
  repeat' (first | with_reducible rfl | with_reducible refine (alarmPin_spine _).trans ?_ | intro _ | split | (dsimp only; split) | with_reducible refine spine_mk rfl rfl rfl rfl ?_)

theorem swapTasks_spine : ∀ a0 a1 a2, (swapTasks a0 a1 a2).spine = a2.spine := by
  intro a0 a1 a2
  unfold swapTasks
  repeat' (first | with_reducible rfl | intro _ | split | (dsimp only; split) | with_reducible refine spine_mk rfl rfl rfl rfl ?_)

theorem stopLostSchemes_spine : ∀ a0 a1, (stopLostSchemes a0 a1).spine = a1.spine := by
  intro a0 a1
  unfold stopLostSchemes
  repeat' (first | with_reducible rfl | with_reducible refine spine_ite ?_ ?_ | with_reducible refine (noteI_spine _ _ _ _ _ _ _ _).trans ?_ | with_reducible refine (schemeStop_spine _ _).trans ?_ | with_reducible refine foldl_spine ?_ ?_ | intro _ | split | (dsimp only; split))

theorem swapTmpls_spine : ∀ a0 a1, (swapTmpls a0 a1).spine = a1.spine := by
  intro a0 a1
  unfold swapTmpls
  repeat' (first | with_reducible rfl | intro _ | split | (dsimp only; split) | with_reducible refine spine_mk rfl rfl rfl rfl ?_)

theorem swapPairing_spine : ∀ a0, (swapPairing a0).spine = a0.spine := by
  intro a0
  unfold swapPairing
  repeat' (first | with_reducible rfl | with_reducible refine spine_ite ?_ ?_ | with_reducible refine (pinsOn_spine _).trans ?_ | with_reducible refine (roleTo_spine _ _ _ _).trans ?_ | intro _)

theorem cancelTicks_spine : ∀ a0, (cancelTicks a0).spine = a0.spine := by
  intro a0
  unfold cancelTicks
  repeat' (first | with_reducible rfl | with_reducible refine (countBy_spine _ _ _).trans ?_ | intro _ | split | (dsimp only; split) | with_reducible refine spine_mk rfl rfl rfl rfl ?_)

theorem swapRefBus_spine : ∀ a0 a1, (swapRefBus a0 a1).spine = a1.spine := by
  intro a0 a1
  unfold swapRefBus
  repeat' (first | with_reducible rfl | with_reducible refine spine_ite ?_ ?_ | intro _ | with_reducible refine spine_mk rfl rfl rfl rfl ?_)

theorem bankSwap_spine : ∀ a0 a1, (bankSwap a0 a1).spine = a1.spine := by
  intro a0 a1
  unfold bankSwap
  repeat' (first | with_reducible rfl | with_reducible refine spine_ite ?_ ?_ | with_reducible refine (cancelTicks_spine _).trans ?_ | with_reducible refine (finalReply_spine _ _ _).trans ?_ | with_reducible refine (schemeSwap_spine _ _ _).trans ?_ | with_reducible refine (setIrq_spine _ _).trans ?_ | with_reducible refine (stopLostSchemes_spine _ _).trans ?_ | with_reducible refine (swapCaps_spine _ _ _).trans ?_ | with_reducible refine (swapCells_spine _ _).trans ?_ | with_reducible refine (swapDets_spine _ _).trans ?_ | with_reducible refine (swapFilters_spine _ _ _).trans ?_ | with_reducible refine (swapGroups_spine _ _ _).trans ?_ | with_reducible refine (swapPairing_spine _).trans ?_ | with_reducible refine (swapQueues_spine _ _).trans ?_ | with_reducible refine (swapRefBus_spine _ _).trans ?_ | with_reducible refine (swapStreams_spine _ _ _).trans ?_ | with_reducible refine (swapTasks_spine _ _ _).trans ?_ | with_reducible refine (swapTmpls_spine _ _).trans ?_ | with_reducible refine (voiceSwap_spine _ _ _).trans ?_ | with_reducible refine foldl_spine ?_ ?_ | with_reducible refine foldl_spine2 ?_ ?_ | with_reducible refine foldl_spine1 ?_ ?_ | intro _ | split | (dsimp only; split) | refine spine_snd (by assumption) ?_ | refine spine_fst (by assumption) ?_ | refine spine_snd2 (by assumption) ?_ | refine spine_snd3 (by assumption) ?_ | with_reducible refine spine_mk rfl rfl rfl rfl ?_)

theorem replyTo_spine : ∀ a0 a1 a2, (replyTo a0 a1 a2).spine = a2.spine := by
  intro a0 a1 a2
  unfold replyTo
  repeat' (first | with_reducible rfl | with_reducible refine (finalReply_spine _ _ _).trans ?_ | intro _ | split | (dsimp only; split))

theorem discardReady_spine : ∀ a0, (discardReady a0).spine = a0.spine := by
  intro a0
  unfold discardReady
  repeat' (first | with_reducible rfl | with_reducible refine spine_ite ?_ ?_ | with_reducible refine (cellSweep_spine _).trans ?_ | with_reducible refine (instTaskEnd_spine _ _ _).trans ?_ | with_reducible refine (removeTask_spine _ _).trans ?_ | with_reducible refine foldl_spine ?_ ?_ | intro _ | split | (dsimp only; split) | with_reducible refine spine_mk rfl rfl rfl rfl ?_)

theorem stopCells_spine : ∀ a0, (stopCells a0).spine = a0.spine := by
  intro a0
  unfold stopCells
  repeat' (first | with_reducible rfl | with_reducible refine (cellSweep_spine _).trans ?_ | intro _ | split | (dsimp only; split) | with_reducible refine spine_mk rfl rfl rfl rfl ?_)

theorem stopData_spine : ∀ a0, (stopData a0).spine = a0.spine := by
  intro a0
  unfold stopData
  repeat' (first | with_reducible rfl | with_reducible refine spine_ite ?_ ?_ | with_reducible refine (closeSegments_spine _ _ _).trans ?_ | with_reducible refine (detStop_spine _).trans ?_ | with_reducible refine (discardReady_spine _).trans ?_ | with_reducible refine (retireInst_spine _ _ _ _).trans ?_ | with_reducible refine (schemeStop_spine _ _).trans ?_ | with_reducible refine (sealCap_spine _ _).trans ?_ | with_reducible refine (stopCells_spine _).trans ?_ | with_reducible refine (tbStep_spine _ _).trans ?_ | with_reducible refine (voiceStop_spine _).trans ?_ | with_reducible refine foldl_spine ?_ ?_ | with_reducible refine foldl_spine2 ?_ ?_ | with_reducible refine foldl_spine1 ?_ ?_ | intro _ | split | (dsimp only; split) | refine spine_snd (by assumption) ?_ | refine spine_fst (by assumption) ?_ | refine spine_snd2 (by assumption) ?_ | refine spine_snd3 (by assumption) ?_)

end Sys2Proof.Machine
end

