-- ==== Sys2Proof/Laws/SpineNetEvents.lean ====
section
/-! SUPPORT. What each definition of Machine/NetEvents leaves as it was: the waiting commands, the power state and its rails
(`State.spine`). -/

namespace Sys2Proof.Machine

theorem rxRoute_spine : ∀ a0 a1, (rxRoute a0 a1).spine = a1.spine := by
  intro a0 a1
  unfold rxRoute
  repeat' (first | with_reducible rfl | with_reducible refine spine_ite ?_ ?_ | with_reducible refine (count_spine _ _).trans ?_ | with_reducible refine (countPort_spine _ _ _).trans ?_ | with_reducible refine (neighLearn_spine _ _ _ _).trans ?_ | with_reducible refine (rxDeliver_spine _ _ _ _).trans ?_ | intro _ | split | (dsimp only; split))

theorem execRxFrameReceived_spine : ∀ a0 a1, Keeps (execRxFrameReceived a0 a1) a1 := by
  intro a0 a1
  unfold execRxFrameReceived
  repeat' (first | with_reducible rfl | with_reducible refine spine_ite ?_ ?_ | with_reducible refine keeps_ite ?_ ?_ | with_reducible refine keeps_done ?_ | with_reducible refine (advanceTo_spine _ _).trans ?_ | with_reducible refine (bufferXoff_spine _ _ _ _).trans ?_ | with_reducible refine (countPort_spine _ _ _).trans ?_ | with_reducible refine (prpTake_spine _ _ _ _).trans ?_ | with_reducible refine (rxRoute_spine _ _).trans ?_ | intro _ | split | (dsimp only; split) | refine spine_snd (by assumption) ?_ | refine spine_fst (by assumption) ?_ | refine spine_snd2 (by assumption) ?_ | refine spine_snd3 (by assumption) ?_)

theorem execPrpSourceForget_spine : ∀ a0 a1 a2, Keeps (execPrpSourceForget a0 a1 a2) a2 := by
  intro a0 a1 a2
  unfold execPrpSourceForget
  repeat' (first | with_reducible rfl | with_reducible refine keeps_done ?_ | with_reducible refine (advanceTo_spine _ _).trans ?_ | with_reducible refine (setPort_spine _ _ _).trans ?_ | intro _ | split | (dsimp only; split))

theorem execPrpSupervisionSend_spine : ∀ a0 a1, Keeps (execPrpSupervisionSend a0 a1) a1 := by
  intro a0 a1
  unfold execPrpSupervisionSend
  repeat' (first | with_reducible rfl | with_reducible refine keeps_ite ?_ ?_ | with_reducible refine keeps_done ?_ | with_reducible refine (txOwn_spine _ _ _ _ _).trans ?_ | intro _ | split | (dsimp only; split))

theorem execPfcFrameReceived_spine : ∀ a0 a1 a2 a3, Keeps (execPfcFrameReceived a0 a1 a2 a3) a3 := by
  intro a0 a1 a2 a3
  unfold execPfcFrameReceived
  repeat' (first | with_reducible rfl | with_reducible refine spine_ite ?_ ?_ | with_reducible refine keeps_ite ?_ ?_ | with_reducible refine keeps_done ?_ | with_reducible refine (advanceTo_spine _ _).trans ?_ | with_reducible refine (countPort_spine _ _ _).trans ?_ | with_reducible refine (setPort_spine _ _ _).trans ?_ | with_reducible refine (txDrain_spine _ _).trans ?_ | intro _ | split | (dsimp only; split))

theorem execPfcPauseExpiry_spine : ∀ a0 a1 a2, Keeps (execPfcPauseExpiry a0 a1 a2) a2 := by
  intro a0 a1 a2
  unfold execPfcPauseExpiry
  repeat' (first | with_reducible rfl | with_reducible refine keeps_done ?_ | with_reducible refine (advanceTo_spine _ _).trans ?_ | with_reducible refine (setPort_spine _ _ _).trans ?_ | with_reducible refine (txDrain_spine _ _).trans ?_ | intro _ | split | (dsimp only; split))

theorem execPfcXoffRepeat_spine : ∀ a0 a1 a2, Keeps (execPfcXoffRepeat a0 a1 a2) a2 := by
  intro a0 a1 a2
  unfold execPfcXoffRepeat
  repeat' (first | with_reducible rfl | with_reducible refine spine_ite ?_ ?_ | with_reducible refine keeps_done ?_ | with_reducible refine (pfcXoff_spine _ _ _).trans ?_ | intro _)

theorem execPfcXonSend_spine : ∀ a0 a1 a2, Keeps (execPfcXonSend a0 a1 a2) a2 := by
  intro a0 a1 a2
  unfold execPfcXonSend
  repeat' (first | with_reducible rfl | with_reducible refine spine_ite ?_ ?_ | with_reducible refine keeps_done ?_ | with_reducible refine (releaseFor_spine _ _ _ _).trans ?_ | intro _)

theorem hostOut_spine : ∀ a0 a1 a2 a3 a4, (hostOut a0 a1 a2 a3 a4).spine = a4.spine := by
  intro a0 a1 a2 a3 a4
  unfold hostOut
  repeat' (first | with_reducible rfl | with_reducible refine spine_ite ?_ ?_ | with_reducible refine (countPort_spine _ _ _).trans ?_ | with_reducible refine (egressStamp_spine _ _ _ _).trans ?_ | with_reducible refine (emit_spine _ _).trans ?_ | intro _)

theorem execHostTxFrame_spine : ∀ a0 a1 a2, Keeps (execHostTxFrame a0 a1 a2) a2 := by
  intro a0 a1 a2
  unfold execHostTxFrame
  repeat' (first | with_reducible rfl | with_reducible refine spine_ite ?_ ?_ | with_reducible refine keeps_ite ?_ ?_ | with_reducible refine keeps_done ?_ | with_reducible refine (countPort_spine _ _ _).trans ?_ | with_reducible refine (emit_spine _ _).trans ?_ | with_reducible refine (hostOut_spine _ _ _ _ _).trans ?_ | with_reducible refine (netIrq_spine _ _ _).trans ?_ | with_reducible refine (prpAdvance_spine _ _).trans ?_ | with_reducible refine (setRing_spine _ _ _ _).trans ?_ | intro _ | split | (dsimp only; split))

theorem writeNetTail_spine : ∀ a0 a1 a2 a3 a4, (writeNetTail a0 a1 a2 a3 a4).spine = a4.spine := by
  intro a0 a1 a2 a3 a4
  unfold writeNetTail
  repeat' (first | with_reducible rfl | with_reducible refine spine_ite ?_ ?_ | with_reducible refine (ringPause_spine _ _ _).trans ?_ | with_reducible refine (setRing_spine _ _ _ _).trans ?_ | intro _)

theorem execNetRingTailWrite_spine : ∀ a0 a1 a2 a3 a4, Keeps (execNetRingTailWrite a0 a1 a2 a3 a4) a4 := by
  intro a0 a1 a2 a3 a4
  unfold execNetRingTailWrite
  repeat' (first | with_reducible rfl | with_reducible refine spine_ite ?_ ?_ | with_reducible refine keeps_done ?_ | with_reducible refine (writeNetTail_spine _ _ _ _ _).trans ?_ | intro _)

theorem popTsq_spine : ∀ a0 a1, (popTsq a0 a1).2.spine = a1.spine := by
  intro a0 a1
  unfold popTsq
  repeat' (first | with_reducible rfl | with_reducible refine (setPort_spine _ _ _).trans ?_ | intro _ | split | (dsimp only; split))

theorem execNetTsqPopRead_spine : ∀ a0 a1, Keeps (execNetTsqPopRead a0 a1) a1 := by
  intro a0 a1
  unfold execNetTsqPopRead
  repeat' (first | with_reducible rfl | with_reducible refine keeps_ite ?_ ?_ | with_reducible refine keeps_done ?_ | with_reducible refine (emit_spine _ _).trans ?_ | with_reducible refine (popTsq_spine _ _).trans ?_ | intro _ | split | (dsimp only; split))

theorem clearTsqOvf_spine : ∀ a0 a1, (clearTsqOvf a0 a1).spine = a1.spine := by
  intro a0 a1
  unfold clearTsqOvf
  repeat' (first | with_reducible rfl | with_reducible refine (setPort_spine _ _ _).trans ?_ | intro _)

theorem execNetTsqOvfClear_spine : ∀ a0 a1, Keeps (execNetTsqOvfClear a0 a1) a1 := by
  intro a0 a1
  unfold execNetTsqOvfClear
  repeat' (first | with_reducible rfl | with_reducible refine spine_ite ?_ ?_ | with_reducible refine keeps_done ?_ | with_reducible refine (clearTsqOvf_spine _ _).trans ?_ | intro _)

theorem execLinkChange_spine : ∀ a0 a1 a2 a3, Keeps (execLinkChange a0 a1 a2 a3) a3 := by
  intro a0 a1 a2 a3
  unfold execLinkChange
  repeat' (first | with_reducible rfl | with_reducible refine keeps_done ?_ | with_reducible refine (setPort_spine _ _ _).trans ?_ | intro _)

theorem execMirrorReceived_spine : ∀ a0 a1 a2, Keeps (execMirrorReceived a0 a1 a2) a2 := by
  intro a0 a1 a2
  unfold execMirrorReceived
  repeat' (first | with_reducible rfl | with_reducible refine keeps_ite ?_ ?_ | with_reducible refine keeps_done ?_ | with_reducible refine (c37Frame_spine _ _).trans ?_ | with_reducible refine (cfgFrame_spine _ _ _).trans ?_ | with_reducible refine (goosePub_spine _ _).trans ?_ | with_reducible refine (recordIngest_spine _ _ _ _).trans ?_ | with_reducible refine (rtcpPkt_spine _ _).trans ?_ | with_reducible refine (settle_spine _).trans ?_ | with_reducible refine (svFrame_spine _ _).trans ?_ | with_reducible refine (twinTake_spine _ _).trans ?_ | with_reducible refine (voicePkt_spine _ _).trans ?_ | intro _ | split | (dsimp only; split))

end Sys2Proof.Machine
end

