-- ==== Sys2Proof/Laws/SpineKeys.lean ====
section
/-! SUPPORT. What each definition of Machine/Keys leaves as it was: the waiting commands, the power state and its rails
(`State.spine`). -/

namespace Sys2Proof.Machine

theorem setLocker_spine : ∀ a0 a1 a2, (setLocker a0 a1 a2).spine = a2.spine := by
  intro a0 a1 a2
  unfold setLocker
  repeat' (first | with_reducible rfl | intro _ | with_reducible refine spine_mk rfl rfl rfl rfl ?_)

theorem unwrap_spine : ∀ a0 a1 a2, (unwrap a0 a1 a2).2.spine = a2.spine := by
  intro a0 a1 a2
  unfold unwrap
  repeat' (first | with_reducible rfl | with_reducible refine spine_ite_snd ?_ ?_ | with_reducible refine (count_spine _ _).trans ?_ | intro _ | split | (dsimp only; split))

theorem randomBytes_spine : ∀ a0 a1, (randomBytes a0 a1).2.spine = a1.spine := by
  intro a0 a1
  unfold randomBytes
  repeat' (first | with_reducible rfl | with_reducible refine (drawFree_spine _).trans ?_ | intro _ | split | (dsimp only; split))

theorem noteGate_spine : ∀ a0 a1 a2 a3 a4 a5, (noteGate a0 a1 a2 a3 a4 a5).spine = a5.spine := by
  intro a0 a1 a2 a3 a4 a5
  unfold noteGate
  repeat' (first | with_reducible rfl | with_reducible refine (recAdd_spine _ _ _ _ _ _ _ _ _ _).trans ?_ | intro _)

theorem zeroise_spine : ∀ a0 a1, (zeroise a0 a1).spine = a1.spine := by
  intro a0 a1
  unfold zeroise
  repeat' (first | with_reducible rfl | with_reducible refine spine_ite ?_ ?_ | with_reducible refine (countBy_spine _ _ _).trans ?_ | with_reducible refine (noteGate_spine _ _ _ _ _ _).trans ?_ | intro _ | with_reducible refine spine_mk rfl rfl rfl rfl ?_)

theorem emptyLockers_spine : ∀ a0, (emptyLockers a0).spine = a0.spine := by
  intro a0
  unfold emptyLockers
  repeat' (first | with_reducible rfl | intro _ | with_reducible refine spine_mk rfl rfl rfl rfl ?_)

theorem keyLoadRun_spine : ∀ a0 a1, (keyLoadRun a0 a1).1.spine = a0.spine := by
  intro a0 a1
  unfold keyLoadRun
  repeat' (first | with_reducible rfl | with_reducible refine spine_ite_fst ?_ ?_ | with_reducible refine (setLocker_spine _ _ _).trans ?_ | with_reducible refine (unwrap_spine _ _ _).trans ?_ | with_reducible refine (zeroise_spine _ _).trans ?_ | intro _ | split | (dsimp only; split))

theorem keyGenRun_spine : ∀ a0 a1, (keyGenRun a0 a1).1.spine = a0.spine := by
  intro a0 a1
  unfold keyGenRun
  repeat' (first | with_reducible rfl | with_reducible refine spine_ite_fst ?_ ?_ | with_reducible refine (drawFree_spine _).trans ?_ | with_reducible refine (randomBytes_spine _ _).trans ?_ | intro _ | split | (dsimp only; split))

theorem keyRewrapRun_spine : ∀ a0 a1, (keyRewrapRun a0 a1).1.spine = a0.spine := by
  intro a0 a1
  unfold keyRewrapRun
  repeat' (first | with_reducible rfl | with_reducible refine spine_ite_fst ?_ ?_ | with_reducible refine (drawFree_spine _).trans ?_ | with_reducible refine (randomBytes_spine _ _).trans ?_ | with_reducible refine (unwrap_spine _ _ _).trans ?_ | intro _ | split | (dsimp only; split))

theorem keyClearRun_spine : ∀ a0 a1, (keyClearRun a0 a1).1.spine = a0.spine := by
  intro a0 a1
  unfold keyClearRun
  repeat' (first | with_reducible rfl | with_reducible refine (zeroise_spine _ _).trans ?_ | intro _)

theorem marginRead_spine : ∀ a0, (marginRead a0).2.spine = a0.spine := by
  intro a0
  unfold marginRead
  repeat' (first | with_reducible rfl | with_reducible refine (drawFree_spine _).trans ?_ | intro _ | split | (dsimp only; split))

theorem marginReads_spine : ∀ a0, (marginReads a0).2.spine = a0.spine := by
  intro a0
  unfold marginReads
  repeat' (first | with_reducible rfl | with_reducible refine (marginRead_spine _).trans ?_ | intro _ | split | (dsimp only; split))

theorem burnVerify_spine : ∀ a0 a1, (burnVerify a0 a1).2.spine = a1.spine := by
  intro a0 a1
  fun_induction burnVerify a0 a1
  all_goals repeat' (first | with_reducible rfl | refine Eq.trans (by assumption) ?_ | with_reducible refine (count_spine _ _).trans ?_ | with_reducible refine (marginReads_spine _).trans ?_ | intro _ | split | (dsimp only; split) | refine spine_snd (by assumption) ?_)

theorem intentDone_spine : ∀ a0 a1, (intentDone a0 a1).spine = a1.spine := by
  intro a0 a1
  unfold intentDone
  repeat' (first | with_reducible rfl | intro _ | with_reducible refine spine_mk rfl rfl rfl rfl ?_)

theorem driveIntent_spine : ∀ a0 a1 a2, (driveIntent a0 a1 a2).2.spine = a2.spine := by
  intro a0 a1 a2
  unfold driveIntent
  repeat' (first | with_reducible rfl | with_reducible refine spine_ite_snd ?_ ?_ | with_reducible refine (burnVerify_spine _ _).trans ?_ | with_reducible refine (intentDone_spine _ _).trans ?_ | with_reducible refine (marginReads_spine _).trans ?_ | intro _ | split | (dsimp only; split))

theorem driveIntents_spine : ∀ a0, (driveIntents a0).2.spine = a0.spine := by
  intro a0
  unfold driveIntents
  repeat' (first | with_reducible rfl | with_reducible refine (driveIntent_spine _ _ _).trans ?_ | with_reducible refine foldl_spine2 ?_ ?_ | intro _ | split | (dsimp only; split))

theorem orphan_spine : ∀ a0 a1, (orphan a0 a1).spine = a1.spine := by
  intro a0 a1
  unfold orphan
  repeat' (first | with_reducible rfl | with_reducible refine (countBy_spine _ _ _).trans ?_ | intro _ | with_reducible refine spine_mk rfl rfl rfl rfl ?_)

theorem invalidateEnd_spine : ∀ a0 a1 a2 a3 a4 a5 a6, (invalidateEnd a0 a1 a2 a3 a4 a5 a6).spine = a6.spine := by
  intro a0 a1 a2 a3 a4 a5 a6
  unfold invalidateEnd
  repeat' (first | with_reducible rfl | with_reducible refine (closeCommand_spine _ _ _ _ _ _ _ _).trans ?_ | with_reducible refine (noteGate_spine _ _ _ _ _ _).trans ?_ | intro _)

theorem invalidateRun_spine : ∀ a0 a1 a2, (invalidateRun a0 a1 a2).1.spine = a0.spine := by
  intro a0 a1 a2
  unfold invalidateRun
  repeat' (first | with_reducible rfl | with_reducible refine spine_ite_fst ?_ ?_ | with_reducible refine (driveIntent_spine _ _ _).trans ?_ | with_reducible refine (driveIntents_spine _).trans ?_ | with_reducible refine (invalidateEnd_spine _ _ _ _ _ _ _).trans ?_ | with_reducible refine (orphan_spine _ _).trans ?_ | intro _ | split | (dsimp only; split) | with_reducible refine spine_mk rfl rfl rfl rfl ?_)

theorem bootIntents_spine : ∀ a0, (bootIntents a0).spine = a0.spine := by
  intro a0
  unfold bootIntents
  repeat' (first | with_reducible rfl | with_reducible refine spine_ite ?_ ?_ | with_reducible refine (driveIntent_spine _ _ _).trans ?_ | with_reducible refine (noteGate_spine _ _ _ _ _ _).trans ?_ | with_reducible refine foldl_spine ?_ ?_ | intro _ | split | (dsimp only; split))

theorem loadPairKey_spine : ∀ a0, (loadPairKey a0).spine = a0.spine := by
  intro a0
  unfold loadPairKey
  repeat' (first | with_reducible rfl | with_reducible refine (noteGate_spine _ _ _ _ _ _).trans ?_ | with_reducible refine (setLocker_spine _ _ _).trans ?_ | intro _ | split | (dsimp only; split))

theorem casPairRun_spine : ∀ a0 a1, (casPairRun a0 a1).1.spine = a0.spine := by
  intro a0 a1
  unfold casPairRun
  repeat' (first | with_reducible rfl | with_reducible refine spine_ite_fst ?_ ?_ | with_reducible refine (drawFree_spine _).trans ?_ | with_reducible refine (emit_spine _ _).trans ?_ | with_reducible refine (randomBytes_spine _ _).trans ?_ | intro _ | split | (dsimp only; split) | with_reducible refine spine_mk rfl rfl rfl rfl ?_)

theorem execPairingFrameReceived_spine : ∀ a0 a1 a2 a3 a4 a5, Keeps (execPairingFrameReceived a0 a1 a2 a3 a4 a5) a5 := by
  intro a0 a1 a2 a3 a4 a5
  unfold execPairingFrameReceived
  repeat' (first | with_reducible rfl | with_reducible refine keeps_ite ?_ ?_ | with_reducible refine keeps_done ?_ | with_reducible refine (closeCommand_spine _ _ _ _ _ _ _ _).trans ?_ | with_reducible refine (randomBytes_spine _ _).trans ?_ | with_reducible refine (setLocker_spine _ _ _).trans ?_ | with_reducible refine (zeroise_spine _ _).trans ?_ | intro _ | split | (dsimp only; split) | with_reducible refine spine_mk rfl rfl rfl rfl ?_)

end Sys2Proof.Machine
end

