-- ==== Sys2Proof/Laws/SpinePower.lean ====
section
/-! SUPPORT. What each definition of Machine/Power leaves as it was: the waiting commands, the power state and its rails
(`State.spine`). -/

namespace Sys2Proof.Machine

theorem notePower_spine : ∀ a0 a1 a2 a3, (notePower a0 a1 a2 a3).spine = a3.spine := by
  intro a0 a1 a2 a3
  unfold notePower
  repeat' (first | with_reducible rfl | with_reducible refine (note_spine _ _ _ _ _ _ _).trans ?_ | intro _)

theorem resetMain_spine : ∀ a0 a1 a2, (resetMain a0 a1 a2).spine = a2.spine := by
  intro a0 a1 a2
  unfold resetMain
  repeat' (first | with_reducible rfl | with_reducible refine (alarmPin_spine _).trans ?_ | with_reducible refine (emptyLockers_spine _).trans ?_ | with_reducible refine (pinsOff_spine _).trans ?_ | intro _ | with_reducible refine spine_mk rfl rfl rfl rfl ?_)

theorem setAttempts_spine : ∀ a0 a1 a2, (setAttempts a0 a1 a2).spine = a2.spine := by
  intro a0 a1 a2
  unfold setAttempts
  repeat' (first | with_reducible rfl | with_reducible refine spine_ite ?_ ?_ | intro _ | with_reducible refine spine_mk rfl rfl rfl rfl ?_)

theorem startImage_spine : ∀ a0, (startImage a0).spine = a0.spine := by
  intro a0
  unfold startImage
  repeat' (first | with_reducible rfl | with_reducible refine (setAttempts_spine _ _ _).trans ?_ | intro _ | split | (dsimp only; split) | with_reducible refine spine_mk rfl rfl rfl rfl ?_)

theorem powerCycle_spine : ∀ a0, (powerCycle a0).spine = a0.spine := by
  intro a0
  unfold powerCycle
  repeat' (first | with_reducible rfl | intro _ | with_reducible refine spine_mk rfl rfl rfl rfl ?_)

theorem loadConfig_spine : ∀ a0, (loadConfig a0).spine = a0.spine := by
  intro a0
  unfold loadConfig
  repeat' (first | with_reducible rfl | with_reducible refine (notePower_spine _ _ _ _).trans ?_ | intro _ | split | (dsimp only; split) | with_reducible refine spine_mk rfl rfl rfl rfl ?_)

theorem startTimeBase_spine : ∀ a0, (startTimeBase a0).spine = a0.spine := by
  intro a0
  unfold startTimeBase
  repeat' (first | with_reducible rfl | with_reducible refine spine_ite ?_ ?_ | with_reducible refine (noteTime_spine _ _ _).trans ?_ | with_reducible refine (raiseVector_spine _ _).trans ?_ | intro _ | with_reducible refine spine_mk rfl rfl rfl rfl ?_)

theorem restoreRtc_spine : ∀ a0, (restoreRtc a0).spine = a0.spine := by
  intro a0
  unfold restoreRtc
  repeat' (first | with_reducible rfl | with_reducible refine spine_ite ?_ ?_ | intro _ | with_reducible refine spine_mk rfl rfl rfl rfl ?_)

theorem bootTrained_spine : ∀ a0 a1, (bootTrained a0 a1).spine = a1.spine := by
  intro a0 a1
  unfold bootTrained
  repeat' (first | with_reducible rfl | with_reducible refine spine_ite ?_ ?_ | with_reducible refine (notePower_spine _ _ _ _).trans ?_ | intro _ | refine spine_snd (by assumption) ?_ | refine spine_fst (by assumption) ?_ | refine spine_snd2 (by assumption) ?_ | refine spine_snd3 (by assumption) ?_ | with_reducible refine spine_mk rfl rfl rfl rfl ?_)

theorem bootCert_spine : ∀ a0 a1, (bootCert a0 a1).spine = a1.spine := by
  intro a0 a1
  unfold bootCert
  repeat' (first | with_reducible rfl | with_reducible refine spine_ite ?_ ?_ | with_reducible refine (noteGate_spine _ _ _ _ _ _).trans ?_ | intro _ | refine spine_snd (by assumption) ?_ | refine spine_fst (by assumption) ?_ | refine spine_snd2 (by assumption) ?_ | refine spine_snd3 (by assumption) ?_ | with_reducible refine spine_mk rfl rfl rfl rfl ?_)

theorem bootNotes_spine : ∀ a0 a1, (bootNotes a0 a1).spine = a1.spine := by
  intro a0 a1
  unfold bootNotes
  repeat' (first | with_reducible rfl | with_reducible refine spine_ite ?_ ?_ | with_reducible refine (notePower_spine _ _ _ _).trans ?_ | intro _ | refine spine_snd (by assumption) ?_ | refine spine_fst (by assumption) ?_ | refine spine_snd2 (by assumption) ?_ | refine spine_snd3 (by assumption) ?_ | with_reducible refine spine_mk rfl rfl rfl rfl ?_)

theorem loseRetained_spine : ∀ a0, (loseRetained a0).spine = a0.spine := by
  intro a0
  unfold loseRetained
  repeat' (first | with_reducible rfl | intro _ | with_reducible refine spine_mk rfl rfl rfl rfl ?_)

theorem execVbatOkChange_spine : ∀ a0 a1, Keeps (execVbatOkChange a0 a1) a1 := by
  intro a0 a1
  unfold execVbatOkChange
  repeat' (first | with_reducible rfl | with_reducible refine spine_ite ?_ ?_ | with_reducible refine keeps_done ?_ | with_reducible refine (loseRetained_spine _).trans ?_ | intro _ | with_reducible refine spine_mk rfl rfl rfl rfl ?_)

theorem setPd_spine : ∀ a0 a1 a2, (setPd a0 a1 a2).spine = a2.spine := by
  intro a0 a1 a2
  unfold setPd
  repeat' (first | with_reducible rfl | with_reducible refine spine_ite ?_ ?_ | intro _ | with_reducible refine spine_mk rfl rfl rfl rfl ?_)

theorem budgetLost_spine : ∀ a0, (budgetLost a0).spine = a0.spine := by
  intro a0
  unfold budgetLost
  repeat' (first | with_reducible rfl | with_reducible refine (declareFault_spine _ _).trans ?_ | with_reducible refine (notePower_spine _ _ _ _).trans ?_ | with_reducible refine (setIrq_spine _ _).trans ?_ | intro _ | with_reducible refine spine_mk rfl rfl rfl rfl ?_)

theorem execPdPowerChange_spine : ∀ a0 a1 a2, Keeps (execPdPowerChange a0 a1 a2) a2 := by
  intro a0 a1 a2
  unfold execPdPowerChange
  repeat' (first | with_reducible rfl | with_reducible refine spine_ite ?_ ?_ | with_reducible refine keeps_ite ?_ ?_ | with_reducible refine keeps_done ?_ | with_reducible refine (budgetLost_spine _).trans ?_ | with_reducible refine (notePower_spine _ _ _ _).trans ?_ | with_reducible refine (setIrq_spine _ _).trans ?_ | with_reducible refine (setPd_spine _ _ _).trans ?_ | intro _)

theorem execPdClassification_spine : ∀ a0 a1 a2, Keeps (execPdClassification a0 a1 a2) a2 := by
  intro a0 a1 a2
  unfold execPdClassification
  repeat' (first | with_reducible rfl | with_reducible refine spine_ite ?_ ?_ | with_reducible refine keeps_done ?_ | with_reducible refine (budgetLost_spine _).trans ?_ | with_reducible refine (setPd_spine _ _ _).trans ?_ | intro _)

theorem execThermAssert_spine : ∀ a0 a1, Keeps (execThermAssert a0 a1) a1 := by
  intro a0 a1
  unfold execThermAssert
  repeat' (first | with_reducible rfl | with_reducible refine keeps_ite ?_ ?_ | with_reducible refine keeps_done ?_ | with_reducible refine (setAlert_spine _ _).trans ?_ | with_reducible refine (setIrq_spine _ _).trans ?_ | intro _ | with_reducible refine spine_mk rfl rfl rfl rfl ?_)

theorem execThermRelease_spine : ∀ a0 a1, Keeps (execThermRelease a0 a1) a1 := by
  intro a0 a1
  unfold execThermRelease
  repeat' (first | with_reducible rfl | with_reducible refine keeps_ite ?_ ?_ | with_reducible refine keeps_done ?_ | intro _ | with_reducible refine spine_mk rfl rfl rfl rfl ?_)

theorem aonRecord_spine : ∀ a0 a1 a2 a3, (aonRecord a0 a1 a2 a3).spine = a3.spine := by
  intro a0 a1 a2 a3
  unfold aonRecord
  repeat' (first | with_reducible rfl | with_reducible refine (recAdd_spine _ _ _ _ _ _ _ _ _ _).trans ?_ | intro _)

theorem execPerstN_spine : ∀ a0, Keeps (execPerstN a0) a0 := by
  intro a0
  unfold execPerstN
  repeat' (first | with_reducible rfl | with_reducible refine keeps_done ?_ | with_reducible refine (resetQueues_spine _).trans ?_ | intro _ | with_reducible refine spine_mk rfl rfl rfl rfl ?_)

theorem handoverFirst_spine : ∀ a0, (handoverFirst a0).spine = a0.spine := by
  intro a0
  unfold handoverFirst
  repeat' (first | with_reducible rfl | with_reducible refine spine_ite ?_ ?_ | with_reducible refine (emit_spine _ _).trans ?_ | intro _ | with_reducible refine spine_mk rfl rfl rfl rfl ?_)

theorem warmRequest_spine : ∀ a0, (warmRequest a0).spine = a0.spine := by
  intro a0
  unfold warmRequest
  repeat' (first | with_reducible rfl | with_reducible refine (handoverFirst_spine _).trans ?_ | intro _ | with_reducible refine spine_mk rfl rfl rfl rfl ?_)

theorem mainOff_spine : ∀ a0, (mainOff a0).spine = a0.spine := by
  intro a0
  unfold mainOff
  repeat' (first | with_reducible rfl | with_reducible refine spine_ite ?_ ?_ | intro _ | with_reducible refine spine_mk rfl rfl rfl rfl ?_)

theorem dormantRequest_spine : ∀ a0 a1, (dormantRequest a0 a1).spine = a1.spine := by
  intro a0 a1
  unfold dormantRequest
  repeat' (first | with_reducible rfl | with_reducible refine (handoverFirst_spine _).trans ?_ | intro _ | with_reducible refine spine_mk rfl rfl rfl rfl ?_)

theorem execControlFwFault_spine : ∀ a0, Keeps (execControlFwFault a0) a0 := by
  intro a0
  unfold execControlFwFault
  repeat' (first | with_reducible rfl | with_reducible refine spine_ite ?_ ?_ | with_reducible refine keeps_ite ?_ ?_ | with_reducible refine keeps_done ?_ | with_reducible refine (enterHoldover_spine _).trans ?_ | with_reducible refine (notePower_spine _ _ _ _).trans ?_ | with_reducible refine (setIrq_spine _ _).trans ?_ | intro _ | with_reducible refine spine_mk rfl rfl rfl rfl ?_)

theorem execPeerDetChange_spine : ∀ a0 a1, Keeps (execPeerDetChange a0 a1) a1 := by
  intro a0 a1
  unfold execPeerDetChange
  repeat' (first | with_reducible rfl | with_reducible refine keeps_ite ?_ ?_ | with_reducible refine keeps_done ?_ | with_reducible refine (swapPairing_spine _).trans ?_ | intro _ | with_reducible refine spine_mk rfl rfl rfl rfl ?_)

theorem execTapInstruction_spine : ∀ a0 a1, Keeps (execTapInstruction a0 a1) a1 := by
  intro a0 a1
  unfold execTapInstruction
  repeat' (first | with_reducible rfl | with_reducible refine keeps_ite ?_ ?_ | with_reducible refine keeps_done ?_ | with_reducible refine (drawFree_spine _).trans ?_ | with_reducible refine (emit_spine _ _).trans ?_ | intro _ | split | (dsimp only; split) | with_reducible refine spine_mk rfl rfl rfl rfl ?_)

end Sys2Proof.Machine
end

