-- ==== Sys2Proof/Laws/SpineCommand.lean ====
section
/-! SUPPORT. What each definition of Machine/Command leaves as it was: the waiting commands, the power state and its rails
(`State.spine`). -/

namespace Sys2Proof.Machine

theorem dropChunk_spine : ∀ a0 a1 a2 a3, (dropChunk a0 a1 a2 a3).spine = a3.spine := by
  intro a0 a1 a2 a3
  unfold dropChunk
  repeat' (first | with_reducible rfl | intro _ | with_reducible refine spine_mk rfl rfl rfl rfl ?_)

theorem chunkTake_bad {o op p} {s t : State} {st} (h : chunkTake o op p s = .bad st t) : t.spine = s.spine := by
  unfold chunkTake at h
  dsimp only at h
  split at h
  · cases h; rfl
  split at h <;> cases h

theorem chunkTake_more {o op p} {s t : State} (h : chunkTake o op p s = .more t) : t.spine = s.spine := by
  unfold chunkTake at h
  dsimp only at h
  split at h
  · cases h
  split at h <;> cases h
  exact Eq.trans rfl (dropChunk_spine o op (fld p 0 4) s)

theorem chunkTake_whole {o op p d} {s t : State} (h : chunkTake o op p s = .whole d t) : t.spine = s.spine := by
  unfold chunkTake at h
  dsimp only at h
  split at h
  · cases h
  split at h <;> cases h
  exact dropChunk_spine o op (fld p 0 4) s

theorem takeHost_spine : ∀ a0, (takeHost a0).spine = a0.spine := by
  intro a0
  unfold takeHost
  repeat' (first | with_reducible rfl | intro _ | with_reducible refine spine_mk rfl rfl rfl rfl ?_)

theorem takeMail_spine : ∀ a0, (takeMail a0).spine = a0.spine := by
  intro a0
  unfold takeMail
  repeat' (first | with_reducible rfl | intro _ | with_reducible refine spine_mk rfl rfl rfl rfl ?_)

theorem taken_spine : ∀ a0 a1 a2, ∀ t, taken a0 a1 a2 = some t → t.spine = a2.spine := by
  intro a0 a1 a2 t h
  unfold taken at h
  split at h
  · split at h <;> cases h; rfl
  · split at h <;> cases h; rfl
  · cases h

theorem notTaken_spine : ∀ a0 a1, (notTaken a0 a1).spine = a1.spine := by
  intro a0 a1
  unfold notTaken
  repeat' (first | with_reducible rfl | with_reducible refine spine_ite ?_ ?_ | with_reducible refine (setIrq_spine _ _).trans ?_ | intro _)

theorem endPairing_spine : ∀ a0, (endPairing a0).spine = a0.spine := by
  intro a0
  unfold endPairing
  repeat' (first | with_reducible rfl | with_reducible refine (closeCommand_spine _ _ _ _ _ _ _ _).trans ?_ | intro _ | split | (dsimp only; split) | with_reducible refine spine_mk rfl rfl rfl rfl ?_)

theorem forwardCmd_spine : ∀ a0 a1 a2 a3, (forwardCmd a0 a1 a2 a3).spine = a3.spine := by
  intro a0 a1 a2 a3
  unfold forwardCmd
  repeat' (first | with_reducible rfl | with_reducible refine spine_ite ?_ ?_ | with_reducible refine (emit_spine _ _).trans ?_ | intro _)

/-- A command whose run leaves the spine alone. -/
def Cmd.Calm (c : Cmd) : Prop := ∀ s w p e, (c.run s w p e).1.spine = s.spine

theorem runCommand_spine {c : Cmd} (h : c.Calm) : ∀ pk e s, (runCommand c pk e s).1.spine = s.spine := by
  intro pk e s
  unfold runCommand
  dsimp only
  split
  · exact (closeCommand_spine _ _ _ _ _ _ _ _).trans (spine_ite (fun _ => dropChunk_spine _ _ _ _) (fun _ => rfl))
  split
  · exact closeCommand_spine _ _ _ _ _ _ _ _
  refine spine_ite_fst (fun _ => closeCommand_spine _ _ _ _ _ _ _ _) (fun _ => ?_)
  refine spine_ite_fst (fun _ => h _ _ _ _) (fun _ => ?_)
  refine spine_ite_fst (fun _ => ?_) (fun _ => ?_)
  · exact (closeCommand_spine _ _ _ _ _ _ _ _).trans ((forwardCmd_spine _ _ _ _).trans (h _ _ _ _))
  · exact (closeCommand_spine _ _ _ _ _ _ _ _).trans (h _ _ _ _)

theorem badOpcode_spine : ∀ a0 a1 a2, (badOpcode a0 a1 a2).spine = a2.spine := by
  intro a0 a1 a2
  unfold badOpcode
  repeat' (first | with_reducible rfl | with_reducible refine (closeCommand_spine _ _ _ _ _ _ _ _).trans ?_ | with_reducible refine (endPairing_spine _).trans ?_ | with_reducible refine (postReply_spine _ _ _).trans ?_ | intro _ | split | (dsimp only; split))

theorem unknownNext_spine : ∀ a0, ∀ t, unknownNext a0 = some t → t.2.spine = a0.spine := by
  intro s t h
  unfold unknownNext at h
  split at h
  · cases h; exact takeHost_spine _
  · dsimp only at h
    split at h
    · cases h; exact takeMail_spine _
    · cases h

theorem serveUnknown_spine : ∀ a0 a1, (serveUnknown a0 a1).spine = a1.spine := by
  intro a0 a1
  fun_induction serveUnknown a0 a1
  all_goals repeat' (first | with_reducible rfl | refine Eq.trans (by assumption) ?_ | with_reducible refine (badOpcode_spine _ _ _).trans ?_ | refine (unknownNext_spine _ _ (by assumption)).trans ?_ | intro _ | split | (dsimp only; split))

theorem serve_spine : ∀ a0, (serve a0).spine = a0.spine := by
  intro a0
  unfold serve
  repeat' (first | with_reducible rfl | with_reducible refine (serveUnknown_spine _ _).trans ?_ | intro _)

theorem command_spine {c : Cmd} (h : c.Calm) : ∀ pk s, Keeps (command c pk s) s := by
  intro pk s
  unfold command
  split
  · exact keeps_done (notTaken_spine _ _)
  next h1 =>
    dsimp only
    split
    · exact keeps_done ((serve_spine _).trans ((postReply_spine _ _ _).trans ((endPairing_spine _).trans (taken_spine _ _ _ _ h1))))
    · exact keeps_done ((serve_spine _).trans ((runCommand_spine h _ _ _).trans ((endPairing_spine _).trans (taken_spine _ _ _ _ h1))))

theorem execChunkLoadTimeout_spine : ∀ a0 a1 a2 a3, Keeps (execChunkLoadTimeout a0 a1 a2 a3) a3 := by
  intro a0 a1 a2 a3
  unfold execChunkLoadTimeout
  repeat' (first | with_reducible rfl | with_reducible refine keeps_done ?_ | with_reducible refine (advanceTo_spine _ _).trans ?_ | with_reducible refine (dropChunk_spine _ _ _ _).trans ?_ | intro _ | split | (dsimp only; split))

end Sys2Proof.Machine
end

