-- ==== Sys2Proof/Laws/SpineCmdSystem.lean ====
section
/-! SUPPORT. What each definition of Machine/CmdSystem leaves as it was: the waiting commands, the power state and its rails
(`State.spine`). -/

namespace Sys2Proof.Machine

theorem getInfoCmd_calm : getInfoCmd.Calm := by
  intro s w p e
  dsimp only [getInfoCmd]
  repeat' (first | with_reducible rfl | intro _)

theorem execGetInfo_spine : ∀ a0 a1, Keeps (execGetInfo a0 a1) a1 := command_spine getInfoCmd_calm

theorem getStateCmd_calm : getStateCmd.Calm := by
  intro s w p e
  dsimp only [getStateCmd]
  repeat' (first | with_reducible rfl | intro _)

theorem execGetState_spine : ∀ a0 a1, Keeps (execGetState a0 a1) a1 := command_spine getStateCmd_calm

theorem startCmd_calm : startCmd.Calm := by
  intro s w p e
  dsimp only [startCmd]
  repeat' (first | with_reducible refine spine_ite_fst ?_ ?_ | with_reducible rfl | intro _ | with_reducible refine spine_mk rfl rfl rfl rfl ?_)

theorem execStart_spine : ∀ a0 a1, Keeps (execStart a0 a1) a1 := command_spine startCmd_calm

theorem stopCmd_calm : stopCmd.Calm := by
  intro s w p e
  dsimp only [stopCmd]
  repeat' (first | with_reducible rfl | intro _ | with_reducible refine spine_mk rfl rfl rfl rfl ?_)

theorem execStop_spine : ∀ a0 a1, Keeps (execStop a0 a1) a1 := command_spine stopCmd_calm

theorem warmResetCmd_calm : warmResetCmd.Calm := by
  intro s w p e
  dsimp only [warmResetCmd]
  repeat' (first | with_reducible rfl | with_reducible refine (warmRequest_spine _).trans ?_ | intro _)

theorem execWarmReset_spine : ∀ a0 a1, Keeps (execWarmReset a0 a1) a1 := command_spine warmResetCmd_calm

theorem setFw_spine : ∀ a0 a1 a2, (setFw a0 a1 a2).spine = a2.spine := by
  intro a0 a1 a2
  unfold setFw
  repeat' (first | with_reducible rfl | with_reducible refine spine_ite ?_ ?_ | intro _ | with_reducible refine spine_mk rfl rfl rfl rfl ?_)

theorem fwLoadCmd_calm : fwLoadCmd.Calm := by
  intro s w p e
  dsimp only [fwLoadCmd]
  repeat' (first | with_reducible refine spine_ite_fst ?_ ?_ | with_reducible rfl | with_reducible refine (drawFree_spine _).trans ?_ | with_reducible refine (setAttempts_spine _ _ _).trans ?_ | with_reducible refine (setFw_spine _ _ _).trans ?_ | refine (chunkTake_bad (by assumption)).trans ?_ | refine (chunkTake_more (by assumption)).trans ?_ | refine (chunkTake_whole (by assumption)).trans ?_ | intro _ | split | (dsimp only; split))

theorem execFwLoad_spine : ∀ a0 a1, Keeps (execFwLoad a0 a1) a1 := command_spine fwLoadCmd_calm

theorem fwCommitCmd_calm : fwCommitCmd.Calm := by
  intro s w p e
  dsimp only [fwCommitCmd]
  repeat' (first | with_reducible rfl | with_reducible refine (setAttempts_spine _ _ _).trans ?_ | with_reducible refine (setFw_spine _ _ _).trans ?_ | intro _ | split | (dsimp only; split))

theorem execFwCommit_spine : ∀ a0 a1, Keeps (execFwCommit a0 a1) a1 := command_spine fwCommitCmd_calm

theorem cfgSave_spine : ∀ a0, (cfgSave a0).spine = a0.spine := by
  intro a0
  unfold cfgSave
  repeat' (first | with_reducible rfl | with_reducible refine spine_ite ?_ ?_ | intro _ | split | (dsimp only; split) | with_reducible refine spine_mk rfl rfl rfl rfl ?_)

theorem cfgSaveCmd_calm : cfgSaveCmd.Calm := by
  intro s w p e
  dsimp only [cfgSaveCmd]
  repeat' (first | with_reducible rfl | with_reducible refine (cfgSave_spine _).trans ?_ | intro _)

theorem execCfgSave_spine : ∀ a0 a1, Keeps (execCfgSave a0 a1) a1 := command_spine cfgSaveCmd_calm

theorem timeConfig_spine : ∀ a0 a1, (timeConfig a0 a1).spine = a1.spine := by
  intro a0 a1
  unfold timeConfig
  repeat' (first | with_reducible rfl | with_reducible refine spine_ite ?_ ?_ | with_reducible refine (enterHoldover_spine _).trans ?_ | intro _ | with_reducible refine spine_mk rfl rfl rfl rfl ?_)

theorem timeConfigCmd_calm : timeConfigCmd.Calm := by
  intro s w p e
  dsimp only [timeConfigCmd]
  repeat' (first | with_reducible rfl | with_reducible refine (timeConfig_spine _ _).trans ?_ | intro _)

theorem execTimeConfig_spine : ∀ a0 a1, Keeps (execTimeConfig a0 a1) a1 := command_spine timeConfigCmd_calm

theorem timeSet_spine : ∀ a0 a1 a2, (timeSet a0 a1 a2).1.spine = a2.spine := by
  intro a0 a1 a2
  unfold timeSet
  repeat' (first | with_reducible rfl | with_reducible refine spine_ite_fst ?_ ?_ | with_reducible refine (slewBy_spine _ _).trans ?_ | intro _ | with_reducible refine spine_mk rfl rfl rfl rfl ?_)

theorem timeSetCmd_calm : timeSetCmd.Calm := by
  intro s w p e
  dsimp only [timeSetCmd]
  repeat' (first | with_reducible rfl | with_reducible refine (timeSet_spine _ _ _).trans ?_ | intro _ | split | (dsimp only; split))

theorem execTimeSet_spine : ∀ a0 a1, Keeps (execTimeSet a0 a1) a1 := command_spine timeSetCmd_calm

theorem leapSetCmd_calm : leapSetCmd.Calm := by
  intro s w p e
  dsimp only [leapSetCmd]
  repeat' (first | with_reducible rfl | intro _ | with_reducible refine spine_mk rfl rfl rfl rfl ?_)

theorem execLeapSet_spine : ∀ a0 a1, Keeps (execLeapSet a0 a1) a1 := command_spine leapSetCmd_calm

theorem timeStatusCmd_calm : timeStatusCmd.Calm := by
  intro s w p e
  dsimp only [timeStatusCmd]
  repeat' (first | with_reducible rfl | intro _)

theorem execTimeStatus_spine : ∀ a0 a1, Keeps (execTimeStatus a0 a1) a1 := command_spine timeStatusCmd_calm

theorem rtcCurveLoadCmd_calm : rtcCurveLoadCmd.Calm := by
  intro s w p e
  dsimp only [rtcCurveLoadCmd]
  repeat' (first | with_reducible rfl | intro _ | with_reducible refine spine_mk rfl rfl rfl rfl ?_)

theorem execRtcCurveLoad_spine : ∀ a0 a1, Keeps (execRtcCurveLoad a0 a1) a1 := command_spine rtcCurveLoadCmd_calm

theorem rtcLeapTableCmd_calm : rtcLeapTableCmd.Calm := by
  intro s w p e
  dsimp only [rtcLeapTableCmd]
  repeat' (first | with_reducible rfl | intro _ | with_reducible refine spine_mk rfl rfl rfl rfl ?_)

theorem execRtcLeapTable_spine : ∀ a0 a1, Keeps (execRtcLeapTable a0 a1) a1 := command_spine rtcLeapTableCmd_calm

theorem recExport_spine : ∀ a0 a1 a2, (recExport a0 a1 a2).1.spine = a2.spine := by
  intro a0 a1 a2
  unfold recExport
  repeat' (first | with_reducible rfl | intro _ | split | (dsimp only; split))

theorem recExportCmd_calm : recExportCmd.Calm := by
  intro s w p e
  dsimp only [recExportCmd]
  repeat' (first | with_reducible rfl | with_reducible refine (recExport_spine _ _ _).trans ?_ | intro _ | split | (dsimp only; split))

theorem execRecExport_spine : ∀ a0 a1, Keeps (execRecExport a0 a1) a1 := command_spine recExportCmd_calm

theorem recNoteCmd_calm : recNoteCmd.Calm := by
  intro s w p e
  dsimp only [recNoteCmd]
  repeat' (first | with_reducible rfl | with_reducible refine (drawFree_spine _).trans ?_ | with_reducible refine (recAdd_spine _ _ _ _ _ _ _ _ _ _).trans ?_ | intro _ | split | (dsimp only; split))

theorem execRecNote_spine : ∀ a0 a1, Keeps (execRecNote a0 a1) a1 := command_spine recNoteCmd_calm

end Sys2Proof.Machine
end

