-- ==== Sys2Proof/Laws/SpineCmdTables.lean ====
section
/-! SUPPORT. What each definition of Machine/CmdTables leaves as it was: the waiting commands, the power state and its rails
(`State.spine`). -/

namespace Sys2Proof.Machine

theorem streamDefineRun_spine : ∀ a0 a1, (streamDefineRun a0 a1).1.spine = a0.spine := by
  intro a0 a1
  unfold streamDefineRun
  repeat' (first | with_reducible rfl | with_reducible refine spine_ite_fst ?_ ?_ | with_reducible refine (setInactive_spine _ _).trans ?_ | intro _)

theorem streamDefineCmd_calm : streamDefineCmd.Calm := by
  intro s w p e
  dsimp only [streamDefineCmd, tableCmd]
  repeat' (first | with_reducible rfl | with_reducible refine (streamDefineRun_spine _ _).trans ?_ | intro _)

theorem execStreamDefine_spine : ∀ a0 a1, Keeps (execStreamDefine a0 a1) a1 := command_spine streamDefineCmd_calm

theorem tableCmd_calm {op : Nat} {l : Bytes → Nat → Bool} {f : Bank → Bytes → Bool} {u : Bytes → Bank → Bank} :
    (tableCmd op l f u).Calm := fun _ _ _ _ => setInactive_spine _ _

theorem streamDeleteCmd_calm : streamDeleteCmd.Calm := tableCmd_calm

theorem execStreamDelete_spine : ∀ a0 a1, Keeps (execStreamDelete a0 a1) a1 := command_spine streamDeleteCmd_calm

theorem channelDefineCmd_calm : channelDefineCmd.Calm := tableCmd_calm

theorem execChannelDefine_spine : ∀ a0 a1, Keeps (execChannelDefine a0 a1) a1 := command_spine channelDefineCmd_calm

theorem groupDefineCmd_calm : groupDefineCmd.Calm := tableCmd_calm

theorem execGroupDefine_spine : ∀ a0 a1, Keeps (execGroupDefine a0 a1) a1 := command_spine groupDefineCmd_calm

theorem templateDefineCmd_calm : templateDefineCmd.Calm := tableCmd_calm

theorem execTemplateDefine_spine : ∀ a0 a1, Keeps (execTemplateDefine a0 a1) a1 := command_spine templateDefineCmd_calm

theorem streamStatusCmd_calm : streamStatusCmd.Calm := by
  intro s w p e
  dsimp only [streamStatusCmd]
  repeat' (first | with_reducible rfl | intro _)

theorem execStreamStatus_spine : ∀ a0 a1, Keeps (execStreamStatus a0 a1) a1 := command_spine streamStatusCmd_calm

theorem detDefineCmd_calm : detDefineCmd.Calm := tableCmd_calm

theorem execDetDefine_spine : ∀ a0 a1, Keeps (execDetDefine a0 a1) a1 := command_spine detDefineCmd_calm

theorem capDefineCmd_calm : capDefineCmd.Calm := tableCmd_calm

theorem execCapDefine_spine : ∀ a0 a1, Keeps (execCapDefine a0 a1) a1 := command_spine capDefineCmd_calm

theorem outDefineCmd_calm : outDefineCmd.Calm := tableCmd_calm

theorem execOutDefine_spine : ∀ a0 a1, Keeps (execOutDefine a0 a1) a1 := command_spine outDefineCmd_calm

end Sys2Proof.Machine
end

