-- ==== Sys2Proof/Laws/SpineCmdSched.lean ====
section
/-! SUPPORT. What each definition of Machine/CmdSched leaves as it was: the waiting commands, the power state and its rails
(`State.spine`). -/

namespace Sys2Proof.Machine

theorem schedLoadCmd_calm : schedLoadCmd.Calm := by
  intro s w p e
  dsimp only [schedLoadCmd]
  repeat' (first | with_reducible rfl | with_reducible refine (setInactive_spine _ _).trans ?_ | refine (chunkTake_bad (by assumption)).trans ?_ | refine (chunkTake_more (by assumption)).trans ?_ | refine (chunkTake_whole (by assumption)).trans ?_ | intro _ | split | (dsimp only; split))

theorem execSchedLoad_spine : ∀ a0 a1, Keeps (execSchedLoad a0 a1) a1 := command_spine schedLoadCmd_calm

theorem schedSwapCmd_calm : schedSwapCmd.Calm := by
  intro s w p e
  dsimp only [schedSwapCmd]
  repeat' (first | with_reducible rfl | intro _ | split | (dsimp only; split) | with_reducible refine spine_mk rfl rfl rfl rfl ?_)

theorem execSchedSwap_spine : ∀ a0 a1, Keeps (execSchedSwap a0 a1) a1 := command_spine schedSwapCmd_calm

theorem schedStatusCmd_calm : schedStatusCmd.Calm := by
  intro s w p e
  dsimp only [schedStatusCmd]
  repeat' (first | with_reducible rfl | intro _)

theorem execSchedStatus_spine : ∀ a0 a1, Keeps (execSchedStatus a0 a1) a1 := command_spine schedStatusCmd_calm

end Sys2Proof.Machine
end

