-- ==== Sys2Proof/Laws/SpineCmdScheme.lean ====
section
/-! SUPPORT. What each definition of Machine/CmdScheme leaves as it was: the waiting commands, the power state and its rails
(`State.spine`). -/

namespace Sys2Proof.Machine

theorem detStatusCmd_calm : detStatusCmd.Calm := by
  intro s w p e
  dsimp only [detStatusCmd]
  repeat' (first | with_reducible rfl | intro _)

theorem execDetStatus_spine : ∀ a0 a1, Keeps (execDetStatus a0 a1) a1 := command_spine detStatusCmd_calm

theorem detAckCmd_calm : detAckCmd.Calm := by
  intro s w p e
  dsimp only [detAckCmd]
  repeat' (first | with_reducible rfl | with_reducible refine (detAckLatch_spine _ _).trans ?_ | intro _)

theorem execDetAck_spine : ∀ a0 a1, Keeps (execDetAck a0 a1) a1 := command_spine detAckCmd_calm

theorem progLoadRun_spine : ∀ a0 a1 a2, (progLoadRun a0 a1 a2).1.spine = a0.spine := by
  intro a0 a1 a2
  unfold progLoadRun
  dsimp only
  refine spine_ite_fst (fun _ => rfl) (fun _ => spine_ite_fst (fun _ => rfl) (fun _ => ?_))
  split
  · next h => exact chunkTake_bad h
  · next h => exact chunkTake_more h
  · next h =>
    refine Eq.trans ?_ (chunkTake_whole h)
    exact spine_ite_fst (fun _ => setSch_spine _ _ _) (fun _ => setInactive_spine _ _)

theorem progLoadCmd_calm : progLoadCmd.Calm := by
  intro s w p e
  dsimp only [progLoadCmd]
  repeat' (first | with_reducible rfl | with_reducible refine (progLoadRun_spine _ _ _).trans ?_ | refine (chunkTake_bad (by assumption)).trans ?_ | refine (chunkTake_more (by assumption)).trans ?_ | refine (chunkTake_whole (by assumption)).trans ?_ | intro _)

theorem execProgLoad_spine : ∀ a0 a1, Keeps (execProgLoad a0 a1) a1 := command_spine progLoadCmd_calm

theorem progStartRun_spine : ∀ a0 a1 a2 a3, (progStartRun a0 a1 a2 a3).1.spine = a0.spine := by
  intro a0 a1 a2 a3
  unfold progStartRun
  repeat' (first | with_reducible rfl | with_reducible refine spine_ite ?_ ?_ | with_reducible refine spine_ite_fst ?_ ?_ | with_reducible refine (copyImage_spine _ _).trans ?_ | with_reducible refine (schemeStartAt_spine _ _ _ _).trans ?_ | intro _ | split | (dsimp only; split))

theorem progStartCmd_calm : progStartCmd.Calm := by
  intro s w p e
  dsimp only [progStartCmd]
  repeat' (first | with_reducible rfl | with_reducible refine (progStartRun_spine _ _ _ _).trans ?_ | intro _)

theorem execProgStart_spine : ∀ a0 a1, Keeps (execProgStart a0 a1) a1 := command_spine progStartCmd_calm

theorem progStopRun_spine : ∀ a0 a1 a2 a3, (progStopRun a0 a1 a2 a3).1.spine = a0.spine := by
  intro a0 a1 a2 a3
  unfold progStopRun
  repeat' (first | with_reducible rfl | with_reducible refine spine_ite_fst ?_ ?_ | with_reducible refine (setSch_spine _ _ _).trans ?_ | intro _ | split | (dsimp only; split))

theorem progStopCmd_calm : progStopCmd.Calm := by
  intro s w p e
  dsimp only [progStopCmd]
  repeat' (first | with_reducible rfl | with_reducible refine (progStopRun_spine _ _ _ _).trans ?_ | intro _)

theorem execProgStop_spine : ∀ a0 a1, Keeps (execProgStop a0 a1) a1 := command_spine progStopCmd_calm

theorem progSetRun_spine : ∀ a0 a1 a2 a3, (progSetRun a0 a1 a2 a3).1.spine = a0.spine := by
  intro a0 a1 a2 a3
  unfold progSetRun
  repeat' (first | with_reducible rfl | with_reducible refine spine_ite_fst ?_ ?_ | with_reducible refine (setSch_spine _ _ _).trans ?_ | intro _ | split | (dsimp only; split))

theorem progSetValuesCmd_calm : progSetValuesCmd.Calm := by
  intro s w p e
  dsimp only [progSetValuesCmd]
  repeat' (first | with_reducible rfl | with_reducible refine (progSetRun_spine _ _ _ _).trans ?_ | intro _)

theorem execProgSetValues_spine : ∀ a0 a1, Keeps (execProgSetValues a0 a1) a1 := command_spine progSetValuesCmd_calm

theorem progForceRun_spine : ∀ a0 a1 a2 a3, (progForceRun a0 a1 a2 a3).1.spine = a0.spine := by
  intro a0 a1 a2 a3
  unfold progForceRun
  repeat' (first | with_reducible rfl | with_reducible refine spine_ite_fst ?_ ?_ | with_reducible refine (setSch_spine _ _ _).trans ?_ | intro _ | split | (dsimp only; split))

theorem progForceCmd_calm : progForceCmd.Calm := by
  intro s w p e
  dsimp only [progForceCmd]
  repeat' (first | with_reducible rfl | with_reducible refine (progForceRun_spine _ _ _ _).trans ?_ | intro _)

theorem execProgForce_spine : ∀ a0 a1, Keeps (execProgForce a0 a1) a1 := command_spine progForceCmd_calm

theorem progReadCmd_calm : progReadCmd.Calm := by
  intro s w p e
  dsimp only [progReadCmd]
  repeat' (first | with_reducible rfl | intro _)

theorem execProgRead_spine : ∀ a0 a1, Keeps (execProgRead a0 a1) a1 := command_spine progReadCmd_calm

end Sys2Proof.Machine
end

