-- ==== Sys2Proof/Laws/SpineCmdVoice.lean ====
section
/-! SUPPORT. What each definition of Machine/CmdVoice leaves as it was: the waiting commands, the power state and its rails
(`State.spine`). -/

namespace Sys2Proof.Machine

theorem vchOpen_spine : ∀ a0 a1 a2 a3, (vchOpen a0 a1 a2 a3).spine = a3.spine := by
  intro a0 a1 a2 a3
  unfold vchOpen
  repeat' (first | with_reducible rfl | with_reducible refine spine_ite ?_ ?_ | with_reducible refine (setVch_spine _ _ _).trans ?_ | with_reducible refine (vchEnd_spine _ _ _ _).trans ?_ | intro _ | split | (dsimp only; split))

theorem vchOpenCmd_calm : vchOpenCmd.Calm := by
  intro s w p e
  dsimp only [vchOpenCmd]
  repeat' (first | with_reducible refine spine_ite_fst ?_ ?_ | with_reducible rfl | with_reducible refine (vchOpen_spine _ _ _ _).trans ?_ | intro _)

theorem execVchOpen_spine : ∀ a0 a1, Keeps (execVchOpen a0 a1) a1 := command_spine vchOpenCmd_calm

theorem vchModify_spine : ∀ a0 a1 a2 a3, (vchModify a0 a1 a2 a3).spine = a3.spine := by
  intro a0 a1 a2 a3
  unfold vchModify
  repeat' (first | with_reducible rfl | with_reducible refine (setVch_spine _ _ _).trans ?_ | intro _ | split | (dsimp only; split))

theorem vchModifyCmd_calm : vchModifyCmd.Calm := by
  intro s w p e
  dsimp only [vchModifyCmd]
  repeat' (first | with_reducible refine spine_ite_fst ?_ ?_ | with_reducible rfl | with_reducible refine (vchModify_spine _ _ _ _).trans ?_ | intro _)

theorem execVchModify_spine : ∀ a0 a1, Keeps (execVchModify a0 a1) a1 := command_spine vchModifyCmd_calm

theorem vchCloseCmd_calm : vchCloseCmd.Calm := by
  intro s w p e
  dsimp only [vchCloseCmd]
  repeat' (first | with_reducible refine spine_ite_fst ?_ ?_ | with_reducible rfl | intro _ | with_reducible refine spine_mk rfl rfl rfl rfl ?_)

theorem execVchClose_spine : ∀ a0 a1, Keeps (execVchClose a0 a1) a1 := command_spine vchCloseCmd_calm

theorem flowFresh_spine : ∀ a0 a1, (flowFresh a0 a1).spine = a1.spine := by
  intro a0 a1
  unfold flowFresh
  repeat' (first | with_reducible rfl | with_reducible refine spine_ite ?_ ?_ | intro _ | with_reducible refine spine_mk rfl rfl rfl rfl ?_)

theorem flowSet_spine : ∀ a0 a1 a2, (flowSet a0 a1 a2).spine = a2.spine := by
  intro a0 a1 a2
  unfold flowSet
  repeat' (first | with_reducible rfl | with_reducible refine spine_ite ?_ ?_ | with_reducible refine (flowFresh_spine _ _).trans ?_ | with_reducible refine (setFlow_spine _ _ _).trans ?_ | intro _ | split | (dsimp only; split))

theorem flowDelete_spine : ∀ a0 a1, (flowDelete a0 a1).spine = a1.spine := by
  intro a0 a1
  unfold flowDelete
  repeat' (first | with_reducible rfl | with_reducible refine (flowFresh_spine _ _).trans ?_ | intro _ | split | (dsimp only; split) | with_reducible refine spine_mk rfl rfl rfl rfl ?_)

theorem flowSetCmd_calm : flowSetCmd.Calm := by
  intro s w p e
  dsimp only [flowSetCmd]
  repeat' (first | with_reducible refine spine_ite_fst ?_ ?_ | with_reducible rfl | with_reducible refine spine_ite ?_ ?_ | with_reducible refine (flowDelete_spine _ _).trans ?_ | with_reducible refine (flowSet_spine _ _ _).trans ?_ | intro _)

theorem execFlowSet_spine : ∀ a0 a1, Keeps (execFlowSet a0 a1) a1 := command_spine flowSetCmd_calm

theorem vchStatusCmd_calm : vchStatusCmd.Calm := by
  intro s w p e
  dsimp only [vchStatusCmd]
  repeat' (first | with_reducible rfl | intro _)

theorem execVchStatus_spine : ∀ a0 a1, Keeps (execVchStatus a0 a1) a1 := command_spine vchStatusCmd_calm

end Sys2Proof.Machine
end

