-- ==== Sys2Proof/Laws/SpineCmdCapture.lean ====
section
/-! SUPPORT. What each definition of Machine/CmdCapture leaves as it was: the waiting commands, the power state and its rails
(`State.spine`). -/

namespace Sys2Proof.Machine

theorem capArmCmd_calm : capArmCmd.Calm := by
  intro s w p e
  dsimp only [capArmCmd]
  repeat' (first | with_reducible rfl | with_reducible refine (armCap_spine _ _ _).trans ?_ | intro _)

theorem execCapArm_spine : ∀ a0 a1, Keeps (execCapArm a0 a1) a1 := command_spine capArmCmd_calm

theorem capTriggerRun_spine : ∀ a0 a1 a2, (capTriggerRun a0 a1 a2).1.spine = a0.spine := by
  intro a0 a1 a2
  unfold capTriggerRun
  repeat' (first | with_reducible rfl | with_reducible refine spine_ite_fst ?_ ?_ | with_reducible refine (triggerCap_spine _ _ _ _).trans ?_ | intro _ | split | (dsimp only; split))

theorem capTriggerCmd_calm : capTriggerCmd.Calm := by
  intro s w p e
  dsimp only [capTriggerCmd]
  repeat' (first | with_reducible rfl | with_reducible refine (capTriggerRun_spine _ _ _).trans ?_ | intro _)

theorem execCapTrigger_spine : ∀ a0 a1, Keeps (execCapTrigger a0 a1) a1 := command_spine capTriggerCmd_calm

theorem oqFlushCmd_calm : oqFlushCmd.Calm := by
  intro s w p e
  dsimp only [oqFlushCmd]
  repeat' (first | with_reducible rfl | with_reducible refine (oqFlush_spine _ _).trans ?_ | with_reducible refine (setOq_spine _ _ _).trans ?_ | intro _)

theorem execOqFlush_spine : ∀ a0 a1, Keeps (execOqFlush a0 a1) a1 := command_spine oqFlushCmd_calm

theorem queueStatusCmd_calm : queueStatusCmd.Calm := by
  intro s w p e
  dsimp only [queueStatusCmd]
  repeat' (first | with_reducible rfl | intro _)

theorem execQueueStatus_spine : ∀ a0 a1, Keeps (execQueueStatus a0 a1) a1 := command_spine queueStatusCmd_calm

theorem fwPacket_spine : ∀ a0 a1 a2 a3, (fwPacket a0 a1 a2 a3).1.spine = a3.spine := by
  intro a0 a1 a2 a3
  unfold fwPacket
  repeat' (first | with_reducible rfl | with_reducible refine spine_ite_fst ?_ ?_ | with_reducible refine (oqPut_spine _ _ _ _).trans ?_ | intro _)

theorem prcEncodeImage_spine : ∀ a0 a1 a2, (prcEncodeImage a0 a1 a2).1.spine = a2.spine := by
  intro a0 a1 a2
  unfold prcEncodeImage
  repeat' (first | with_reducible rfl | with_reducible refine (fwPacket_spine _ _ _ _).trans ?_ | intro _ | split | (dsimp only; split))

theorem prcEncodeCmd_calm : prcEncodeCmd.Calm := by
  intro s w p e
  dsimp only [prcEncodeCmd]
  repeat' (first | with_reducible rfl | with_reducible refine (prcEncodeImage_spine _ _ _).trans ?_ | refine (chunkTake_bad (by assumption)).trans ?_ | refine (chunkTake_more (by assumption)).trans ?_ | refine (chunkTake_whole (by assumption)).trans ?_ | intro _ | split | (dsimp only; split))

theorem execPrcEncode_spine : ∀ a0 a1, Keeps (execPrcEncode a0 a1) a1 := command_spine prcEncodeCmd_calm

theorem prcDecodeImage_spine : ∀ a0 a1 a2, (prcDecodeImage a0 a1 a2).1.spine = a2.spine := by
  intro a0 a1 a2
  unfold prcDecodeImage
  repeat' (first | with_reducible rfl | with_reducible refine (count_spine _ _).trans ?_ | with_reducible refine (fwPacket_spine _ _ _ _).trans ?_ | intro _ | split | (dsimp only; split))

theorem prcDecodeCmd_calm : prcDecodeCmd.Calm := by
  intro s w p e
  dsimp only [prcDecodeCmd]
  repeat' (first | with_reducible rfl | with_reducible refine (prcDecodeImage_spine _ _ _).trans ?_ | refine (chunkTake_bad (by assumption)).trans ?_ | refine (chunkTake_more (by assumption)).trans ?_ | refine (chunkTake_whole (by assumption)).trans ?_ | intro _ | split | (dsimp only; split))

theorem execPrcDecode_spine : ∀ a0 a1, Keeps (execPrcDecode a0 a1) a1 := command_spine prcDecodeCmd_calm

end Sys2Proof.Machine
end

