-- ==== Sys2Proof/Laws/SpineCmdKeys.lean ====
section
/-! SUPPORT. What each definition of Machine/CmdKeys leaves as it was: the waiting commands, the power state and its rails
(`State.spine`). -/

namespace Sys2Proof.Machine

theorem keyLoadCmd_calm : keyLoadCmd.Calm := by
  intro s w p e
  dsimp only [keyLoadCmd]
  repeat' (first | with_reducible rfl | with_reducible refine (keyLoadRun_spine _ _).trans ?_ | intro _)

theorem execKeyLoad_spine : ∀ a0 a1, Keeps (execKeyLoad a0 a1) a1 := command_spine keyLoadCmd_calm

theorem keyClearCmd_calm : keyClearCmd.Calm := by
  intro s w p e
  dsimp only [keyClearCmd]
  repeat' (first | with_reducible rfl | with_reducible refine (keyClearRun_spine _ _).trans ?_ | intro _)

theorem execKeyClear_spine : ∀ a0 a1, Keeps (execKeyClear a0 a1) a1 := command_spine keyClearCmd_calm

theorem keyGenerateCmd_calm : keyGenerateCmd.Calm := by
  intro s w p e
  dsimp only [keyGenerateCmd]
  repeat' (first | with_reducible rfl | with_reducible refine (keyGenRun_spine _ _).trans ?_ | intro _)

theorem execKeyGenerate_spine : ∀ a0 a1, Keeps (execKeyGenerate a0 a1) a1 := command_spine keyGenerateCmd_calm

theorem keyRewrapCmd_calm : keyRewrapCmd.Calm := by
  intro s w p e
  dsimp only [keyRewrapCmd]
  repeat' (first | with_reducible rfl | with_reducible refine (keyRewrapRun_spine _ _).trans ?_ | intro _)

theorem execKeyRewrap_spine : ∀ a0 a1, Keeps (execKeyRewrap a0 a1) a1 := command_spine keyRewrapCmd_calm

theorem domainInvalidateCmd_calm : domainInvalidateCmd.Calm := by
  intro s w p e
  dsimp only [domainInvalidateCmd]
  repeat' (first | with_reducible rfl | with_reducible refine (invalidateRun_spine _ _ _).trans ?_ | intro _)

theorem execDomainInvalidate_spine : ∀ a0 a1, Keeps (execDomainInvalidate a0 a1) a1 := command_spine domainInvalidateCmd_calm

theorem keyStatusCmd_calm : keyStatusCmd.Calm := by
  intro s w p e
  dsimp only [keyStatusCmd]
  repeat' (first | with_reducible rfl | intro _)

theorem execKeyStatus_spine : ∀ a0 a1, Keeps (execKeyStatus a0 a1) a1 := command_spine keyStatusCmd_calm

theorem idCertCmd_calm : idCertCmd.Calm := by
  intro s w p e
  dsimp only [idCertCmd]
  repeat' (first | with_reducible rfl | intro _)

theorem execIdCert_spine : ∀ a0 a1, Keeps (execIdCert a0 a1) a1 := command_spine idCertCmd_calm

end Sys2Proof.Machine
end

