-- ==== Sys2Proof/Laws/SpineCmdCas.lean ====
section
/-! SUPPORT. What each definition of Machine/CmdCas leaves as it was: the waiting commands, the power state and its rails
(`State.spine`). -/

namespace Sys2Proof.Machine

theorem casConfigCmd_calm : casConfigCmd.Calm := by
  intro s w p e
  dsimp only [casConfigCmd]
  repeat' (first | with_reducible refine spine_ite_fst ?_ ?_ | with_reducible rfl | intro _ | with_reducible refine spine_mk rfl rfl rfl rfl ?_)

theorem execCasConfig_spine : ∀ a0 a1, Keeps (execCasConfig a0 a1) a1 := command_spine casConfigCmd_calm

theorem casPairCmd_calm : casPairCmd.Calm := by
  intro s w p e
  dsimp only [casPairCmd]
  repeat' (first | with_reducible rfl | with_reducible refine (casPairRun_spine _ _).trans ?_ | intro _)

theorem execCasPair_spine : ∀ a0 a1, Keeps (execCasPair a0 a1) a1 := command_spine casPairCmd_calm

theorem casSwitchoverRun_spine : ∀ a0 a1 a2, (casSwitchoverRun a0 a1 a2).1.spine = a0.spine := by
  intro a0 a1 a2
  unfold casSwitchoverRun
  repeat' (first | with_reducible rfl | with_reducible refine spine_ite_fst ?_ ?_ | intro _ | with_reducible refine spine_mk rfl rfl rfl rfl ?_)

theorem casSwitchoverCmd_calm : casSwitchoverCmd.Calm := by
  intro s w p e
  dsimp only [casSwitchoverCmd]
  repeat' (first | with_reducible rfl | with_reducible refine (casSwitchoverRun_spine _ _ _).trans ?_ | intro _)

theorem execCasSwitchover_spine : ∀ a0 a1, Keeps (execCasSwitchover a0 a1) a1 := command_spine casSwitchoverCmd_calm

theorem casResyncRun_spine : ∀ a0 a1, (casResyncRun a0 a1).1.spine = a0.spine := by
  intro a0 a1
  unfold casResyncRun
  repeat' (first | with_reducible rfl | with_reducible refine spine_ite ?_ ?_ | with_reducible refine spine_ite_fst ?_ ?_ | with_reducible refine (dropExchange_spine _).trans ?_ | with_reducible refine (resyncStart_spine _).trans ?_ | intro _ | with_reducible refine spine_mk rfl rfl rfl rfl ?_)

theorem casResyncCmd_calm : casResyncCmd.Calm := by
  intro s w p e
  dsimp only [casResyncCmd]
  repeat' (first | with_reducible rfl | with_reducible refine (casResyncRun_spine _ _).trans ?_ | intro _)

theorem execCasResync_spine : ∀ a0 a1, Keeps (execCasResync a0 a1) a1 := command_spine casResyncCmd_calm

theorem casStatusCmd_calm : casStatusCmd.Calm := by
  intro s w p e
  dsimp only [casStatusCmd]
  repeat' (first | with_reducible rfl | intro _)

theorem execCasStatus_spine : ∀ a0 a1, Keeps (execCasStatus a0 a1) a1 := command_spine casStatusCmd_calm

end Sys2Proof.Machine
end

