-- ==== Sys2Proof/Laws/SpineCmdNet.lean ====
section
/-! SUPPORT. What each definition of Machine/CmdNet leaves as it was: the waiting commands, the power state and its rails
(`State.spine`). -/

namespace Sys2Proof.Machine

theorem portConfig_spine : ∀ a0 a1 a2, (portConfig a0 a1 a2).spine = a2.spine := by
  intro a0 a1 a2
  unfold portConfig
  repeat' (first | with_reducible rfl | with_reducible refine (setPort_spine _ _ _).trans ?_ | intro _ | split | (dsimp only; split))

theorem portConfigCmd_calm : portConfigCmd.Calm := by
  intro s w p e
  dsimp only [portConfigCmd]
  repeat' (first | with_reducible rfl | with_reducible refine (portConfig_spine _ _ _).trans ?_ | intro _)

theorem execPortConfig_spine : ∀ a0 a1, Keeps (execPortConfig a0 a1) a1 := command_spine portConfigCmd_calm

theorem wakeSetCmd_calm : wakeSetCmd.Calm := by
  intro s w p e
  dsimp only [wakeSetCmd]
  repeat' (first | with_reducible rfl | intro _ | with_reducible refine spine_mk rfl rfl rfl rfl ?_)

theorem execWakeSet_spine : ∀ a0 a1, Keeps (execWakeSet a0 a1) a1 := command_spine wakeSetCmd_calm

theorem portStatusCmd_calm : portStatusCmd.Calm := by
  intro s w p e
  dsimp only [portStatusCmd]
  repeat' (first | with_reducible rfl | intro _)

theorem execPortStatus_spine : ∀ a0 a1, Keeps (execPortStatus a0 a1) a1 := command_spine portStatusCmd_calm

theorem actCmd_calm {op : Nat} {c : Cmd} (h : actCmd op = some c) : c.Calm := by
  have h := List.mem_of_find?_eq_some h
  simp only [List.mem_cons, List.not_mem_nil, or_false] at h
  rcases h with rfl | rfl | rfl | rfl | rfl | rfl | rfl | rfl | rfl | rfl | rfl | rfl | rfl | rfl | rfl | rfl | rfl | rfl | rfl | rfl | rfl | rfl | rfl
  exacts [streamDefineCmd_calm, streamDeleteCmd_calm, channelDefineCmd_calm, groupDefineCmd_calm, templateDefineCmd_calm, schedLoadCmd_calm, schedSwapCmd_calm, detDefineCmd_calm, detAckCmd_calm, progLoadCmd_calm, progStartCmd_calm, progStopCmd_calm, progSetValuesCmd_calm, progForceCmd_calm, vchOpenCmd_calm, vchModifyCmd_calm, vchCloseCmd_calm, flowSetCmd_calm, capDefineCmd_calm, capArmCmd_calm, capTriggerCmd_calm, casSwitchoverCmd_calm, outDefineCmd_calm]

theorem runForwarded_spine : ∀ a0 a1 a2 a3, (runForwarded a0 a1 a2 a3).spine = a3.spine := by
  intro a0 a1 a2 a3
  unfold runForwarded
  dsimp only
  split
  · exact count_spine _ _
  next h =>
    have h2 := fun pk => (runCommand_spine (actCmd_calm h) pk a2 (count 230 a3)).trans (count_spine _ _)
    exact spine_ite (fun _ => (diverge_spine _ _ _ _ _ _).trans (h2 _)) (fun _ => h2 _)

theorem execTwinCmdReceived_spine : ∀ a0 a1 a2 a3 a4, Keeps (execTwinCmdReceived a0 a1 a2 a3 a4) a4 := by
  intro a0 a1 a2 a3 a4
  unfold execTwinCmdReceived
  split
  next e =>
  have h1 := spine_snd e (twinTake_spine a3 a4)
  refine keeps_ite (fun _ => keeps_done h1) (fun _ => keeps_ite (fun _ => keeps_done ?_) (fun _ => keeps_done ?_))
  · exact Eq.trans (spine_mk rfl rfl rfl rfl rfl) h1
  · exact (runForwarded_spine _ _ _ _).trans h1

theorem execControlFwRecovery_spine : ∀ a0, Keeps (execControlFwRecovery a0) a0 := by
  intro a0
  unfold execControlFwRecovery
  repeat' (first | with_reducible rfl | with_reducible refine keeps_ite ?_ ?_ | with_reducible refine keeps_done ?_ | with_reducible refine (drainReplies_spine _).trans ?_ | with_reducible refine (runForwarded_spine _ _ _ _).trans ?_ | with_reducible refine (serve_spine _).trans ?_ | with_reducible refine foldl_spine ?_ ?_ | intro _ | with_reducible refine spine_mk rfl rfl rfl rfl ?_)

end Sys2Proof.Machine
end

