-- ==== Sys2Proof/Laws/SpineRegisters.lean ====
section
/-! SUPPORT. What each definition of Machine/Registers leaves as it was: the waiting commands, the power state and its rails
(`State.spine`). -/

namespace Sys2Proof.Machine

theorem setCntLatch_spine : ∀ a0 a1 a2, (setCntLatch a0 a1 a2).spine = a2.spine := by
  intro a0 a1 a2
  unfold setCntLatch
  repeat' (first | with_reducible rfl | intro _ | split | (dsimp only; split) | with_reducible refine spine_mk rfl rfl rfl rfl ?_)

theorem readCnt_spine : ∀ a0 a1 a2, (readCnt a0 a1 a2).2.spine = a2.spine := by
  intro a0 a1 a2
  unfold readCnt
  repeat' (first | with_reducible rfl | with_reducible refine spine_ite_snd ?_ ?_ | with_reducible refine (setCntLatch_spine _ _ _).trans ?_ | intro _)

theorem readRtc_spine : ∀ a0 a1 a2, (readRtc a0 a1 a2).2.spine = a2.spine := by
  intro a0 a1 a2
  unfold readRtc
  repeat' (first | with_reducible rfl | with_reducible refine spine_ite ?_ ?_ | with_reducible refine spine_ite_snd ?_ ?_ | with_reducible refine (rtcReadT_spine _ _).trans ?_ | with_reducible refine (rtcRelease_spine _ _).trans ?_ | intro _)

theorem readReg_spine : ∀ a0 a1 a2, (readReg a0 a1 a2).2.spine = a2.spine := by
  intro a0 a1 a2
  unfold readReg
  repeat' (first | with_reducible rfl | with_reducible refine spine_ite_snd ?_ ?_ | with_reducible refine (popTsq_spine _ _).trans ?_ | with_reducible refine (readCnt_spine _ _ _).trans ?_ | with_reducible refine (readRtc_spine _ _ _).trans ?_ | intro _ | split | (dsimp only; split))

theorem writeVec_spine : ∀ a0 a1 a2, (writeVec a0 a1 a2).spine = a2.spine := by
  intro a0 a1 a2
  unfold writeVec
  repeat' (first | with_reducible rfl | with_reducible refine spine_ite ?_ ?_ | intro _ | with_reducible refine spine_mk rfl rfl rfl rfl ?_)

theorem writeIrqEnable_spine : ∀ a0 a1, (writeIrqEnable a0 a1).spine = a1.spine := by
  intro a0 a1
  unfold writeIrqEnable
  repeat' (first | with_reducible rfl | with_reducible refine spine_ite ?_ ?_ | with_reducible refine (raiseVector_spine _ _).trans ?_ | intro _ | with_reducible refine spine_mk rfl rfl rfl rfl ?_)

theorem writeGlb_spine : ∀ a0 a1 a2, (writeGlb a0 a1 a2).spine = a2.spine := by
  intro a0 a1 a2
  unfold writeGlb
  repeat' (first | with_reducible rfl | with_reducible refine spine_ite ?_ ?_ | with_reducible refine (writeIrqEnable_spine _ _).trans ?_ | with_reducible refine (writeVec_spine _ _ _).trans ?_ | intro _ | split | (dsimp only; split) | with_reducible refine spine_mk rfl rfl rfl rfl ?_)

theorem startReplyRing_spine : ∀ a0, (startReplyRing a0).spine = a0.spine := by
  intro a0
  unfold startReplyRing
  repeat' (first | with_reducible rfl | with_reducible refine (drainReplies_spine _).trans ?_ | with_reducible refine (serve_spine _).trans ?_ | intro _ | refine spine_snd (by assumption) ?_ | refine spine_fst (by assumption) ?_ | refine spine_snd2 (by assumption) ?_ | refine spine_snd3 (by assumption) ?_ | with_reducible refine spine_mk rfl rfl rfl rfl ?_)

theorem startCmdRing_spine : ∀ a0, (startCmdRing a0).spine = a0.spine := by
  intro a0
  unfold startCmdRing
  repeat' (first | with_reducible rfl | intro _ | refine spine_snd (by assumption) ?_ | refine spine_fst (by assumption) ?_ | refine spine_snd2 (by assumption) ?_ | refine spine_snd3 (by assumption) ?_ | with_reducible refine spine_mk rfl rfl rfl rfl ?_)

theorem writeRingCtrl_spine : ∀ a0 a1 a2, (writeRingCtrl a0 a1 a2).spine = a2.spine := by
  intro a0 a1 a2
  unfold writeRingCtrl
  repeat' (first | with_reducible rfl | with_reducible refine spine_ite ?_ ?_ | with_reducible refine (setIrq_spine _ _).trans ?_ | with_reducible refine (startCmdRing_spine _).trans ?_ | with_reducible refine (startReplyRing_spine _).trans ?_ | intro _ | refine spine_snd (by assumption) ?_ | refine spine_fst (by assumption) ?_ | refine spine_snd2 (by assumption) ?_ | refine spine_snd3 (by assumption) ?_ | with_reducible refine spine_mk rfl rfl rfl rfl ?_)

theorem writeCmdqTail_spine : ∀ a0 a1, (writeCmdqTail a0 a1).spine = a1.spine := by
  intro a0 a1
  unfold writeCmdqTail
  repeat' (first | with_reducible rfl | with_reducible refine spine_ite ?_ ?_ | with_reducible refine (setIrq_spine _ _).trans ?_ | intro _ | with_reducible refine spine_mk rfl rfl rfl rfl ?_)

theorem writeRplqHead_spine : ∀ a0 a1, (writeRplqHead a0 a1).spine = a1.spine := by
  intro a0 a1
  unfold writeRplqHead
  repeat' (first | with_reducible rfl | with_reducible refine spine_ite ?_ ?_ | with_reducible refine (drainReplies_spine _).trans ?_ | with_reducible refine (serve_spine _).trans ?_ | intro _ | with_reducible refine spine_mk rfl rfl rfl rfl ?_)

theorem writeCmdq_spine : ∀ a0 a1 a2, (writeCmdq a0 a1 a2).spine = a2.spine := by
  intro a0 a1 a2
  unfold writeCmdq
  repeat' (first | with_reducible rfl | with_reducible refine spine_ite ?_ ?_ | with_reducible refine (writeCmdqTail_spine _ _).trans ?_ | with_reducible refine (writeRingCtrl_spine _ _ _).trans ?_ | with_reducible refine (writeRplqHead_spine _ _).trans ?_ | intro _ | split | (dsimp only; split) | with_reducible refine spine_mk rfl rfl rfl rfl ?_)

theorem writeOq_spine : ∀ a0 a1 a2 a3, (writeOq a0 a1 a2 a3).spine = a3.spine := by
  intro a0 a1 a2 a3
  unfold writeOq
  repeat' (first | with_reducible rfl | with_reducible refine spine_ite ?_ ?_ | with_reducible refine (oqHeadWrite_spine _ _ _).trans ?_ | with_reducible refine (setOq_spine _ _ _).trans ?_ | with_reducible refine (writeOqCtrl_spine _ _ _).trans ?_ | intro _ | split | (dsimp only; split))

theorem writeIq_spine : ∀ a0 a1 a2 a3, (writeIq a0 a1 a2 a3).spine = a3.spine := by
  intro a0 a1 a2 a3
  unfold writeIq
  repeat' (first | with_reducible rfl | with_reducible refine spine_ite ?_ ?_ | with_reducible refine (iqDoorbell_spine _ _ _ _).trans ?_ | with_reducible refine (setIq_spine _ _ _).trans ?_ | with_reducible refine (writeIqCtrl_spine _ _ _).trans ?_ | intro _ | split | (dsimp only; split))

theorem writeNetRing_spine : ∀ a0 a1 a2 a3 a4, (writeNetRing a0 a1 a2 a3 a4).spine = a4.spine := by
  intro a0 a1 a2 a3 a4
  unfold writeNetRing
  repeat' (first | with_reducible rfl | with_reducible refine (setRing_spine _ _ _ _).trans ?_ | with_reducible refine (writeNetTail_spine _ _ _ _ _).trans ?_ | intro _ | split | (dsimp only; split))

theorem writeNetPort_spine : ∀ a0 a1 a2 a3, (writeNetPort a0 a1 a2 a3).spine = a3.spine := by
  intro a0 a1 a2 a3
  unfold writeNetPort
  repeat' (first | with_reducible rfl | with_reducible refine spine_ite ?_ ?_ | with_reducible refine (clearTsqOvf_spine _ _).trans ?_ | with_reducible refine (setPort_spine _ _ _).trans ?_ | intro _ | split | (dsimp only; split))

theorem writeRtcCmd_spine : ∀ a0 a1 a2, (writeRtcCmd a0 a1 a2).spine = a2.spine := by
  intro a0 a1 a2
  unfold writeRtcCmd
  repeat' (first | with_reducible rfl | with_reducible refine (rtcIgnored_spine _ _ _ _).trans ?_ | with_reducible refine (rtcMode_spine _ _ _ _).trans ?_ | with_reducible refine (rtcSet_spine _ _ _).trans ?_ | intro _ | split | (dsimp only; split))

theorem writeRtc_spine : ∀ a0 a1 a2 a3, (writeRtc a0 a1 a2 a3).spine = a3.spine := by
  intro a0 a1 a2 a3
  unfold writeRtc
  repeat' (first | with_reducible rfl | with_reducible refine spine_ite ?_ ?_ | with_reducible refine (setRtcPort_spine _ _ _).trans ?_ | with_reducible refine (writeRtcCmd_spine _ _ _).trans ?_ | intro _ | with_reducible refine spine_mk rfl rfl rfl rfl ?_)

theorem writeRecCmd_spine : ∀ a0 a1 a2, (writeRecCmd a0 a1 a2).spine = a2.spine := by
  intro a0 a1 a2
  unfold writeRecCmd
  repeat' (first | with_reducible rfl | with_reducible refine (recMove_spine _ _ _).trans ?_ | intro _ | split | (dsimp only; split))

theorem writeRec_spine : ∀ a0 a1 a2 a3, (writeRec a0 a1 a2 a3).spine = a3.spine := by
  intro a0 a1 a2 a3
  unfold writeRec
  repeat' (first | with_reducible rfl | with_reducible refine (recClear_spine _ _ _).trans ?_ | with_reducible refine (setRecCursor_spine _ _ _).trans ?_ | with_reducible refine (writeRecCmd_spine _ _ _).trans ?_ | intro _ | split | (dsimp only; split))

theorem writeCas_spine : ∀ a0 a1 a2, (writeCas a0 a1 a2).spine = a2.spine := by
  intro a0 a1 a2
  unfold writeCas
  repeat' (first | with_reducible rfl | with_reducible refine spine_ite ?_ ?_ | intro _ | split | (dsimp only; split) | with_reducible refine spine_mk rfl rfl rfl rfl ?_)

theorem execCmdqDoorbell_spine : ∀ a0 a1 a2, Keeps (execCmdqDoorbell a0 a1 a2) a2 := by
  intro a0 a1 a2
  unfold execCmdqDoorbell
  repeat' (first | with_reducible rfl | with_reducible refine keeps_ite ?_ ?_ | with_reducible refine keeps_done ?_ | with_reducible refine (serve_spine _).trans ?_ | with_reducible refine (writeCmdqTail_spine _ _).trans ?_ | intro _ | with_reducible refine spine_mk rfl rfl rfl rfl ?_)

theorem execRplqHeadWrite_spine : ∀ a0 a1, Keeps (execRplqHeadWrite a0 a1) a1 := by
  intro a0 a1
  unfold execRplqHeadWrite
  repeat' (first | with_reducible rfl | with_reducible refine spine_ite ?_ ?_ | with_reducible refine keeps_done ?_ | with_reducible refine (writeRplqHead_spine _ _).trans ?_ | intro _)

theorem execCmdqCtrlEnSet_spine : ∀ a0 a1, Keeps (execCmdqCtrlEnSet a0 a1) a1 := by
  intro a0 a1
  unfold execCmdqCtrlEnSet
  repeat' (first | with_reducible rfl | with_reducible refine spine_ite ?_ ?_ | with_reducible refine keeps_done ?_ | with_reducible refine (writeRingCtrl_spine _ _ _).trans ?_ | intro _)

theorem execCmdqCtrlEnClear_spine : ∀ a0 a1, Keeps (execCmdqCtrlEnClear a0 a1) a1 := by
  intro a0 a1
  unfold execCmdqCtrlEnClear
  repeat' (first | with_reducible rfl | with_reducible refine spine_ite ?_ ?_ | with_reducible refine keeps_done ?_ | with_reducible refine (writeRingCtrl_spine _ _ _).trans ?_ | intro _)

theorem execCntLowWordRead_spine : ∀ a0 a1 a2, Keeps (execCntLowWordRead a0 a1 a2) a2 := by
  intro a0 a1 a2
  unfold execCntLowWordRead
  repeat' (first | with_reducible rfl | with_reducible refine keeps_ite ?_ ?_ | with_reducible refine keeps_done ?_ | with_reducible refine (emit_spine _ _).trans ?_ | with_reducible refine (readCnt_spine _ _ _).trans ?_ | intro _ | split | (dsimp only; split))

theorem mgpAnswer_spine : ∀ a0 a1 a2, Keeps (mgpAnswer a0 a1 a2) a2 := by
  intro a0 a1 a2
  unfold mgpAnswer
  repeat' (first | with_reducible rfl | with_reducible refine keeps_done ?_ | with_reducible refine (emit_spine _ _).trans ?_ | intro _)

theorem execMgpRead32_spine : ∀ a0 a1 a2, Keeps (execMgpRead32 a0 a1 a2) a2 := by
  intro a0 a1 a2
  unfold execMgpRead32
  repeat' (first | with_reducible rfl | with_reducible refine keeps_ite ?_ ?_ | with_reducible refine keeps_done ?_ | with_reducible refine keeps_trans (mgpAnswer_spine _ _ _) ?_ | with_reducible refine (readReg_spine _ _ _).trans ?_ | intro _ | split | (dsimp only; split))

theorem mgpOddCount_spine : ∀ a0, Keeps (mgpOddCount a0) a0 := by
  intro a0
  unfold mgpOddCount
  repeat' (first | with_reducible rfl | with_reducible refine (drawFree_spine _).trans ?_ | with_reducible refine keeps_trans (mgpAnswer_spine _ _ _) ?_ | intro _ | split | (dsimp only; split))

theorem mgpReadWords_spine : ∀ a0 a1, (mgpReadWords a0 a1).2.spine = a1.spine := by
  intro a0 a1
  fun_induction mgpReadWords a0 a1
  all_goals repeat' (first | with_reducible rfl | refine Eq.trans (by assumption) ?_ | with_reducible refine (readReg_spine _ _ _).trans ?_ | intro _ | split | (dsimp only; split) | refine spine_snd (by assumption) ?_)

theorem execMgpReadBurst_spine : ∀ a0 a1 a2 a3, Keeps (execMgpReadBurst a0 a1 a2 a3) a3 := by
  intro a0 a1 a2 a3
  unfold execMgpReadBurst
  repeat' (first | with_reducible rfl | with_reducible refine keeps_ite ?_ ?_ | with_reducible refine keeps_done ?_ | with_reducible refine keeps_trans (mgpAnswer_spine _ _ _) ?_ | with_reducible refine keeps_trans (mgpOddCount_spine _) ?_ | with_reducible refine (mgpReadWords_spine _ _).trans ?_ | intro _ | split | (dsimp only; split))

theorem mailWrite_spine : ∀ a0 a1 a2, (mailWrite a0 a1 a2).spine = a2.spine := by
  intro a0 a1 a2
  unfold mailWrite
  repeat' (first | with_reducible rfl | intro _ | with_reducible refine spine_mk rfl rfl rfl rfl ?_)

theorem mailSubmit_spine : ∀ a0, (mailSubmit a0).spine = a0.spine := by
  intro a0
  unfold mailSubmit
  repeat' (first | with_reducible rfl | with_reducible refine (serve_spine _).trans ?_ | intro _ | with_reducible refine spine_mk rfl rfl rfl rfl ?_)

theorem execMgpCmdPush_spine : ∀ a0 a1 a2 a3 a4, Keeps (execMgpCmdPush a0 a1 a2 a3 a4) a4 := by
  intro a0 a1 a2 a3 a4
  unfold execMgpCmdPush
  repeat' (first | with_reducible rfl | with_reducible refine spine_ite ?_ ?_ | with_reducible refine keeps_ite ?_ ?_ | with_reducible refine keeps_done ?_ | with_reducible refine (mailSubmit_spine _).trans ?_ | with_reducible refine (mailWrite_spine _ _ _).trans ?_ | with_reducible refine keeps_trans (mgpAnswer_spine _ _ _) ?_ | with_reducible refine keeps_trans (mgpOddCount_spine _) ?_ | intro _)

theorem execMgpCmdPop_spine : ∀ a0 a1 a2 a3, Keeps (execMgpCmdPop a0 a1 a2 a3) a3 := by
  intro a0 a1 a2 a3
  unfold execMgpCmdPop
  repeat' (first | with_reducible rfl | with_reducible refine keeps_ite ?_ ?_ | with_reducible refine keeps_done ?_ | with_reducible refine keeps_trans (mgpAnswer_spine _ _ _) ?_ | with_reducible refine keeps_trans (mgpOddCount_spine _) ?_ | intro _ | split | (dsimp only; split))

end Sys2Proof.Machine
end

