-- ==== Sys2Proof/Laws/Rails.lean ====
section
/-! SUPPORT. What the power commands do to the waiting commands, the power state and the rails, and that every one of them
keeps the queue and the agreement of the rails. -/

namespace Sys2Proof.Machine

/-- The queue is the same, and rails that agreed still do. -/
def Steady (t s : State) : Prop := t.pending = s.pending ∧ (s.Rails → t.Rails)

/-- An outcome is a next state, and one for which the same holds. -/
structure Steadies (o : Host.Outcome State Fault Refusal) (s : State) : Prop where
  ends : ∃ t, o = .next t
  next : ∀ t, o = .next t → Steady t s

theorem Steady.refl (s : State) : Steady s s := ⟨rfl, id⟩

theorem Steady.trans {a b c : State} (h : Steady a b) (g : Steady b c) : Steady a c := ⟨h.1.trans g.1, fun r => h.2 (g.2 r)⟩

theorem spine_rails {s t : State} (h : t.spine = s.spine) : s.Rails → t.Rails := by
  simp only [State.spine, Prod.mk.injEq] at h
  obtain ⟨-, h1, h2, h3, h4⟩ := h
  simp [State.Rails, mainUp, h1, h2, h3, h4]

theorem Steady.of_spine {s t : State} (h : t.spine = s.spine) : Steady t s := ⟨congrArg (·.1) h, spine_rails h⟩

theorem Steady.over {a b c : State} (h : a.spine = b.spine) (g : Steady b c) : Steady a c := (Steady.of_spine h).trans g

theorem Steady.after {a b c : State} (h : Steady a b) (g : b.spine = c.spine) : Steady a c := h.trans (Steady.of_spine g)

theorem Steady.ite {c : Prop} [Decidable c] {a b s : State} (ha : c → Steady a s) (hb : ¬c → Steady b s) :
    Steady (if c then a else b) s := by split <;> simp_all

theorem steadies_done {x s : State} (h : Steady x s) : Steadies (done x) s :=
  ⟨⟨x, rfl⟩, fun t e => by cases e; exact h⟩

theorem steadies_ite {c : Prop} [Decidable c] {a b : Host.Outcome State Fault Refusal} {s : State}
    (ha : c → Steadies a s) (hb : ¬c → Steadies b s) : Steadies (if c then a else b) s := by split <;> simp_all

theorem Keeps.steadies {o : Host.Outcome State Fault Refusal} {s : State} (h : Keeps o s) : Steadies o s :=
  ⟨h.ends, fun t e => Steady.of_spine (h.next t e)⟩

theorem Steadies.after {o : Host.Outcome State Fault Refusal} {s u : State} (h : Steadies o s) (g : s.spine = u.spine) : Steadies o u :=
  ⟨h.ends, fun t e => (h.next t e).after g⟩

/-! ## The rails themselves -/

theorem readyPin_spine (s : State) :
    (readyPin s).spine = (s.pending, s.pwr.ps, s.pwr.mainUp, s.pwr.pwrFail, mainUp s && !s.pwr.pwrFail) := by
  unfold readyPin
  dsimp only
  split
  · next h => rw [← h]; rfl
  · rfl

theorem mainRail_spine (on : Bool) (s : State) :
    (mainRail on s).spine = (s.pending, s.pwr.ps, on, s.pwr.pwrFail, s.pins.modReady) := by
  unfold mainRail
  split
  · next h => rw [← h]; rfl
  · exact (setAlert_spine _ _).trans rfl

/-- readyPin gives agreeing rails as soon as MAIN_UP is right. -/
theorem readyPin_steady {s u : State} (hp : s.pending = u.pending) (h : u.Rails → s.pwr.mainUp = powered s.pwr.ps) :
    Steady (readyPin s) u := by
  have e := readyPin_spine s
  simp only [State.spine, Prod.mk.injEq] at e
  obtain ⟨e0, e1, e2, e3, e4⟩ := e
  refine ⟨e0.trans hp, fun r => ⟨by rw [e1, e2, h r], ?_⟩⟩
  rw [e4]; simp [mainUp, e1, e3]

/-- The parts of a spine. -/
theorem spine_parts {t : State} {x} (h : t.spine = x) :
    t.pending = x.1 ∧ t.pwr.ps = x.2.1 ∧ t.pwr.mainUp = x.2.2.1 ∧ t.pwr.pwrFail = x.2.2.2.1 ∧ t.pins.modReady = x.2.2.2.2 := by
  subst h; exact ⟨rfl, rfl, rfl, rfl, rfl⟩

theorem spine_pending {s t : State} (h : t.spine = s.spine) : t.pending = s.pending := (spine_parts h).1
theorem spine_ps {s t : State} (h : t.spine = s.spine) : t.pwr.ps = s.pwr.ps := (spine_parts h).2.1
theorem spine_inRun {s t : State} (h : t.spine = s.spine) : inRun t = inRun s := by simp [inRun, spine_ps h]
theorem spine_inIdle {s t : State} (h : t.spine = s.spine) : inIdle t = inIdle s := by simp [inIdle, spine_ps h]

/-- The main side goes down and up again through readyPin, with MAIN_UP put right. -/
theorem rail_steady {on : Bool} {s u : State} (hp : s.pending = u.pending) (h : powered s.pwr.ps = on) :
    Steady (readyPin (mainRail on s)) u := by
  obtain ⟨e0, e1, e2, -, -⟩ := spine_parts (mainRail_spine on s)
  exact readyPin_steady (e0.trans hp) (fun _ => by rw [e2, e1, h])

theorem mainCut_steady {to_ : PState} (h : powered to_ = false) (s : State) : Steady (mainCut to_ s) s := by
  have a : (alarmPin (pinsOff { s with dets := [] })).spine = s.spine := (alarmPin_spine _).trans ((pinsOff_spine _).trans rfl)
  unfold mainCut
  refine rail_steady ?_ ?_
  · exact (spine_parts (emptyLockers_spine _)).1.trans (spine_pending a)
  · rw [(spine_parts (emptyLockers_spine _)).2.1]; exact h

theorem mainCut_ps (to_ : PState) (s : State) : (mainCut to_ s).pwr.ps = to_ := by
  unfold mainCut
  rw [(spine_parts (readyPin_spine _)).2.1]; dsimp only
  rw [(spine_parts (mainRail_spine _ _)).2.1]; dsimp only
  rw [(spine_parts (emptyLockers_spine _)).2.1]; rfl

theorem startBoot_steady (k : Nat) (s : State) : Steady (startBoot k s) s := by
  unfold startBoot
  dsimp only
  refine Steady.over (startImage_spine _) ?_
  have a : (if k = 1 ∨ k = 2 then powerCycle (resetMain (decide (k = 3)) (decide (k = 2)) s)
      else resetMain (decide (k = 3)) (decide (k = 2)) s).spine = s.spine :=
    spine_ite (fun _ => (powerCycle_spine _).trans (resetMain_spine _ _ _)) (fun _ => resetMain_spine _ _ _)
  refine Steady.ite (fun _ => Steady.over (bootIntents_spine _) ?_) (fun _ => ?_)
  all_goals exact rail_steady (by exact (spine_parts a).1) rfl

theorem tryBoot_steady (k : Nat) (s : State) : Steady (tryBoot k s) s := by
  unfold tryBoot
  exact Steady.ite (fun _ => Steady.of_spine (notePower_spine _ _ _ _)) (fun _ => startBoot_steady _ _)

/-! ## Boot and supplies -/

/-- The state with another power state and no other change that the spine shows. -/
def withPs (p : PState) (s : State) : State := { s with pwr := { s.pwr with ps := p } }

theorem ps_spine {u s : State} {p : PState} (h : u.spine = s.spine) : (withPs p u).spine = (withPs p s).spine := by
  obtain ⟨h0, -, h2, h3, h4⟩ := spine_parts h
  simp_all [withPs, State.spine]

theorem boot_base {u s : State} (h : u.spine = s.spine) :
    ({ u with pins := { u.pins with phyRst := false }, pwr := { u.pwr with ps := .idle } } : State).spine = (withPs .idle s).spine :=
  Eq.trans rfl (ps_spine h)

theorem execBootComplete_steady (res : BootResult) (s : State) : Steadies (execBootComplete res s) s := by
  unfold execBootComplete
  refine steadies_ite (fun _ => steadies_done (Steady.refl s)) (fun h => ?_)
  have hb : s.pwr.ps = .boot := Decidable.of_not_not h
  have key : ∀ t : State, t.spine = (withPs .idle s).spine → Steady (readyPin t) s := by
    intro t e
    obtain ⟨e0, e1, e2, -, -⟩ := spine_parts e
    exact readyPin_steady e0 (fun r => by rw [e1, e2]; exact r.1.trans (by rw [hb]; rfl))
  split
  · exact steadies_done (Steady.over (drainReplies_spine _) (key _ ((notePower_spine _ _ _ _).trans ((startTimeBase_spine _).trans rfl))))
  · refine steadies_done (Steady.over (drainReplies_spine _) (key _ ?_))
    refine (bootTrained_spine _ _).trans ((bootCert_spine _ _).trans ((bootNotes_spine _ _).trans ?_))
    repeat' (first
      | with_reducible refine spine_ite (fun _ => ?_) (fun _ => ?_)
      | with_reducible refine (notePower_spine _ _ _ _).trans ?_
      | with_reducible refine (recSummary_spine _).trans ?_
      | with_reducible refine boot_base ?_
      | with_reducible refine (startTimeBase_spine _).trans ?_
      | with_reducible refine (restoreRtc_spine _).trans ?_
      | with_reducible refine (loadPairKey_spine _).trans ?_
      | with_reducible refine (loadConfig_spine _).trans ?_
      | with_reducible exact setAttempts_spine _ _ _
      | with_reducible refine spine_mk rfl rfl rfl rfl ?_)

theorem execBootWatchdog_steady (s : State) : Steadies (execBootWatchdog s) s :=
  steadies_done (Steady.ite (fun _ => startBoot_steady _ _) (fun _ => Steady.refl s))

theorem execVinBelow9v_steady (s : State) : Steadies (execVinBelow9v s) s := by
  unfold execVinBelow9v
  split
  · exact steadies_done (Steady.refl s)
  · exact steadies_done ((mainCut_steady rfl _).after rfl)
  · exact steadies_done ((mainCut_steady rfl _).after rfl)

theorem execVinBelow7v_steady (s : State) : Steadies (execVinBelow7v s) s := by
  unfold execVinBelow7v
  refine steadies_ite (fun _ => steadies_done (Steady.refl s)) (fun _ => steadies_done ?_)
  dsimp only
  have a : (loseStaged { mainCut .off { s with pwr := { s.pwr with vinOk := false, keptFuses := false } } with
      pwr := { (mainCut .off { s with pwr := { s.pwr with vinOk := false, keptFuses := false } }).pwr with aonAlert := 0 } }).spine
      = (mainCut .off { s with pwr := { s.pwr with vinOk := false, keptFuses := false } }).spine := (loseStaged_spine _).trans rfl
  exact Steady.over (spine_ite (fun _ => a) (fun _ => (loseRetained_spine _).trans a)) ((mainCut_steady rfl _).after rfl)

theorem vinGood_rails {u s v : State} (h : u.spine = s.spine) (hu : u.pending = v.pending) (hs : v.spine = ({ u with pwr := { u.pwr with ps := .aonOnly, mainUp := false, pwrFail := false } } : State).spine) :
    Steady (readyPin v) s := by
  obtain ⟨e0, e1, e2, -, -⟩ := spine_parts hs
  exact readyPin_steady (hu.symm.trans (spine_pending h)) (fun _ => by rw [e1, e2]; rfl)

theorem execVinGood_steady (st : BootStraps) (s : State) : Steadies (execVinGood st s) s := by
  unfold execVinGood
  refine steadies_ite (fun _ => steadies_done (Steady.refl s)) (fun _ => steadies_done ?_)
  dsimp only
  have a : Steady (recSummary (readyPin (powerCycle { resetMain false false s with
      rcd := { (resetMain false false s).rcd with
        opTime := (resetMain false false s).rcd.checkpoint, opPhase := 0, suspended := false, clearing := [], mgp := {} }
      pwr := { (resetMain false false s).pwr with
        ps := .aonOnly, vinOk := true, mainUp := false, pwrFail := false, aonAlert := 0, aonAlertEn := 1
        strapHold := st.hold, tripped := false, keptFuses := false, bistFail := false }
      pins := { (resetMain false false s).pins with bootSel0 := st.hold, pwrFail := false }
      rtc := if (resetMain false false s).rtc.locked then
          { (resetMain false false s).rtc with unlockAt := some (now (resetMain false false s) + msU 5) }
        else (resetMain false false s).rtc }))) s := by
    refine Steady.over (recSummary_spine _) (vinGood_rails (resetMain_spine false false s) ?_ ?_)
    · exact (spine_pending (powerCycle_spine _)).symm
    · exact (powerCycle_spine _).trans rfl
  exact Steady.ite (fun _ => a) (fun _ => (tryBoot_steady _ _).trans a)

theorem execThermalTrip_steady (temp : BitVec 16) (s : State) : Steadies (execThermalTrip temp s) s := by
  unfold execThermalTrip
  dsimp only
  exact steadies_ite (fun _ => steadies_done (Steady.over (notePower_spine _ _ _ _) ((mainCut_steady rfl _).after rfl)))
    (fun _ => steadies_done (Steady.of_spine rfl))

/-! ## Warnings, resets and power requests -/

theorem execEarlyWarning_steady (pin : Bool) (s : State) : Steadies (execEarlyWarning pin s) s := by
  unfold execEarlyWarning
  refine steadies_ite (fun _ => steadies_done (Steady.refl s)) (fun _ => steadies_done ?_)
  with_reducible refine Steady.over (spine_mk rfl rfl rfl rfl rfl) ?_
  with_reducible refine Steady.over (checkpoint_spine _) ?_
  with_reducible refine Steady.over (spine_mk rfl rfl rfl rfl rfl) ?_
  with_reducible refine Steady.over (declareFault_spine _ _) ?_
  obtain ⟨e0, e1, e2, -, -⟩ := spine_parts ((setAlert_spine 2 (setIrq 2 (rtcLock { s with
    pwr := { s.pwr with pwrFail := true }, pins := { s.pins with pwrFail := pin } }))).trans ((setIrq_spine _ _).trans (rtcLock_spine _)))
  exact readyPin_steady e0 (fun r => by rw [e1, e2]; exact r.1)

theorem execWarningPassed_steady (s : State) : Steadies (execWarningPassed s) s := by
  unfold execWarningPassed
  refine steadies_ite (fun _ => steadies_done ?_) (fun _ => steadies_done (Steady.refl s))
  exact Steady.over (notePower_spine _ _ _ _) (readyPin_steady rfl (fun r => r.1))

theorem execModRstNAssert_steady (s : State) : Steadies (execModRstNAssert s) s := by
  unfold execModRstNAssert
  refine steadies_ite (fun _ => steadies_done (Steady.refl s)) (fun _ => steadies_done ?_)
  exact Steady.over rfl (Steady.ite (fun _ => Steady.refl s) (fun _ => mainCut_steady rfl s))

theorem execModRstNRelease_steady (s : State) : Steadies (execModRstNRelease s) s := by
  unfold execModRstNRelease
  refine steadies_ite (fun _ => steadies_done (Steady.refl s)) (fun _ => steadies_done ?_)
  exact Steady.ite (fun _ => (tryBoot_steady _ _).after rfl) (fun _ => Steady.of_spine rfl)

theorem aonCold_steady (v : Nat) (s : State) : Steady (aonCold v s) s := by
  unfold aonCold
  refine Steady.ite (fun _ => Steady.refl s) (fun _ => ?_)
  have a := Steady.of_spine (aonRecord_spine 0xF004 v 0 s)
  exact Steady.ite (fun _ => a) (fun _ => (tryBoot_steady _ _).trans
    (Steady.ite (fun _ => a) (fun _ => (mainCut_steady rfl _).trans a)))

theorem aonWarm_steady (v : Nat) (s : State) : Steady (aonWarm v s) s := by
  unfold aonWarm
  refine Steady.ite (fun _ => Steady.refl s) (fun _ => ?_)
  have a := Steady.of_spine (aonRecord_spine 0xF004 v 0 s)
  exact Steady.ite (fun _ => (startBoot_steady _ _).trans a)
    (fun _ => Steady.ite (fun _ => Steady.over (warmRequest_spine _) a) (fun _ => a))

theorem execAonResetCold_steady (s : State) : Steadies (execAonResetCold s) s := steadies_done (aonCold_steady _ _)
theorem execAonResetWarm_steady (s : State) : Steadies (execAonResetWarm s) s := steadies_done (aonWarm_steady _ _)

theorem execWarmResetExecute_steady (s : State) : Steadies (execWarmResetExecute s) s :=
  steadies_done (Steady.ite (fun _ => startBoot_steady _ _) (fun _ => Steady.refl s))

theorem mainOn_steady (s : State) : Steady (mainOn s).2 s := by
  unfold mainOn
  split
  · exact Steady.refl s
  split
  · exact startBoot_steady _ _
  split
  · exact startBoot_steady _ _
  · exact Steady.refl s

theorem aonPwr_steady (v r : Nat) (s : State) : Steady (aonPwr v r s) s := by
  unfold aonPwr
  refine Steady.ite (fun _ => Steady.refl s) (fun _ => ?_)
  have a := fun st => Steady.of_spine (aonRecord_spine 0xF003 v st s)
  refine Steady.ite (fun _ => a _) (fun _ => ?_)
  split
  · split
    next e =>
    have m := mainOn_steady (aonRecord 0xF003 v (if budget s = 0 then 0x0302 else 0) s)
    rw [e] at m
    exact Steady.ite (fun _ => m.trans (a _)) (fun _ => a _)
  · exact Steady.over (mainOff_spine _) (a _)
  · exact Steady.ite (fun _ => a _) (fun _ => Steady.over (dormantRequest_spine _ _) (a _))
  · exact a _

theorem execAonPwrMainOn_steady (s : State) : Steadies (execAonPwrMainOn s) s := steadies_done (aonPwr_steady _ _ _)
theorem execAonPwrMainOff_steady (s : State) : Steadies (execAonPwrMainOff s) s := steadies_done (aonPwr_steady _ _ _)
theorem execAonPwrDormant_steady (s : State) : Steadies (execAonPwrDormant s) s := steadies_done (aonPwr_steady _ _ _)

theorem writeAon_steady (off v : Nat) (s : State) : Steady (writeAon off v s) s := by
  unfold writeAon
  split
  · exact aonPwr_steady _ _ _
  · exact Steady.ite (fun _ => aonCold_steady _ _) (fun _ => Steady.ite (fun _ => aonWarm_steady _ _)
      (fun _ => Steady.of_spine (aonRecord_spine _ _ _ _)))
  · exact Steady.of_spine rfl
  · exact Steady.of_spine rfl
  · exact Steady.refl s

theorem writeReg_steady (m : Master) (addr v : Nat) (s : State) : Steady (writeReg m addr v s) s := by
  unfold writeReg
  refine Steady.ite (fun _ => Steady.refl s) (fun _ => ?_)
  split
  · exact Steady.of_spine (writeGlb_spine _ _ _)
  · exact Steady.of_spine (writeCmdq_spine _ _ _)
  · exact Steady.of_spine (spine_ite (fun _ => writeOq_spine _ _ _ _) (fun _ => rfl))
  · exact Steady.of_spine (spine_ite (fun _ => writeIq_spine _ _ _ _) (fun _ => rfl))
  · exact Steady.of_spine (spine_ite (fun _ => rfl) (fun _ => spine_ite (fun _ => writeNetRing_spine _ _ _ _ _)
      (fun _ => writeNetPort_spine _ _ _ _)))
  · exact Steady.of_spine (spine_ite (fun _ => spine_ite (fun _ => tbSnap_spine _) (fun _ => rfl)) (fun _ => writeRtc_spine _ _ _ _))
  · exact Steady.of_spine (writeRec_spine _ _ _ _)
  · exact Steady.of_spine (writeCas_spine _ _ _)
  · exact Steady.ite (fun _ => writeAon_steady _ _ _) (fun _ => Steady.refl s)
  · exact Steady.refl s

theorem execRegisterWrite_steady (m : Master) (addr : Nat) (value : Word32) (s : State) : Steadies (execRegisterWrite m addr value s) s :=
  steadies_ite (fun _ => steadies_done (writeReg_steady _ _ _ _)) (fun _ => steadies_done (Steady.refl s))

theorem execMgpWrite32_steady (addr : Nat) (value : Word32) (crc : Nat) (s : State) : Steadies (execMgpWrite32 addr value crc s) s := by
  unfold execMgpWrite32
  refine steadies_ite (fun _ => steadies_done (Steady.refl s)) (fun _ => ?_)
  refine steadies_ite (fun _ => (mgpAnswer_spine _ _ _).steadies) (fun _ => ?_)
  refine steadies_ite (fun _ => (mgpAnswer_spine _ _ _).steadies) (fun _ => ?_)
  exact ⟨(mgpAnswer_spine _ _ _).ends, fun t e => ((mgpAnswer_spine _ _ _).steadies.next t e).trans (writeReg_steady _ _ _ _)⟩

theorem execWakeFrame_steady (p : Fin 6) (bytes : Bytes) (s : State) : Steadies (execWakeFrame p bytes s) s := by
  unfold execWakeFrame
  refine steadies_ite (fun _ => ?_) (fun _ => steadies_done (Steady.refl s))
  dsimp only
  split
  · refine steadies_ite (fun _ => steadies_done (Steady.refl s)) (fun _ => steadies_done ?_)
    exact Steady.over (noteI_spine _ _ _ _ _ _ _ _) (startBoot_steady _ _)
  · exact steadies_done (Steady.refl s)

/-! ## RUN begins and ends -/

/-- IDLE and RUN have the same rails. -/
theorem run_steady {t s : State} {p : PState} (h : t.spine = (withPs p s).spine) (hp : p = .idle ∨ p = .run) (hs : mainUp s = true) :
    Steady t s := by
  refine (Steady.of_spine h).trans ⟨rfl, fun r => ?_⟩
  have hs' : s.pwr.ps = .idle ∨ s.pwr.ps = .run := by simpa [mainUp] using hs
  obtain ⟨r1, r2⟩ := r
  rcases hp with rfl | rfl <;> rcases hs' with h' | h' <;>
    simp_all [State.Rails, withPs, mainUp, powered]

theorem beginRun_spine (b : Instant) (s : State) : (beginRun b s).spine = (withPs .run s).spine := by
  unfold beginRun
  refine foldl_spine (fun _ _ => spine_ite (fun _ => schemeStart_spine _ _) (fun _ => rfl)) ?_
  exact (casRunBegin_spine _ _).trans ((clearPeaks_spine _).trans ((startFilters_spine _ _).trans ((startStreams_spine _).trans rfl)))

theorem endRun_spine (s : State) : (endRun s).spine = (withPs .idle s).spine := by
  have h := ps_spine (p := .idle) (stopData_spine s)
  unfold endRun
  dsimp only
  split
  · refine (replyTo_spine _ _ _).trans ((finalReplies_spine _ _ _).trans (Eq.trans ?_ h))
    with_reducible refine spine_mk rfl rfl rfl rfl ?_
    exact (casRunEnd_spine _).trans rfl
  · refine (finalReplies_spine _ _ _).trans (Eq.trans ?_ h)
    with_reducible refine spine_mk rfl rfl rfl rfl ?_
    exact (casRunEnd_spine _).trans rfl

theorem beginRun_steady (b : Instant) {s u : State} (h : Steady s u) (hs : mainUp s = true) : Steady (beginRun b s) u :=
  (run_steady (beginRun_spine b s) (.inr rfl) hs).trans h

theorem endRun_steady {s u : State} (h : Steady s u) (hs : mainUp s = true) : Steady (endRun s) u :=
  (run_steady (endRun_spine s) (.inl rfl) hs).trans h

theorem spine_mainUp {s t : State} (h : t.spine = s.spine) : mainUp t = mainUp s := by simp [mainUp, spine_ps h]

theorem inRun_up {s : State} (h : inRun s = true) : mainUp s = true := by simp_all [inRun, mainUp]
theorem inIdle_up {s : State} (h : inIdle s = true) : mainUp s = true := by simp_all [inIdle, mainUp]

theorem execRunBegin_steady (s : State) : Steadies (execRunBegin s) s := by
  unfold execRunBegin
  split
  · exact steadies_done (Steady.refl s)
  refine steadies_ite (fun h => steadies_done ?_) (fun _ => steadies_done (Steady.refl s))
  have a : (if swapAt (secCeil (now s)) (advanceTo (secCeil (now s)) s) then
      bankSwap (secCeil (now s)) (advanceTo (secCeil (now s)) s) else advanceTo (secCeil (now s)) s).spine = s.spine :=
    spine_ite (fun _ => (bankSwap_spine _ _).trans (advanceTo_spine _ _)) (fun _ => advanceTo_spine _ _)
  exact Steady.over (finalReplies_spine _ _ _)
    (beginRun_steady _ (Steady.of_spine a) ((spine_mainUp a).trans (inIdle_up h)))

theorem stopAt_steady {b : Instant} {s : State} (h : inRun s = true) : Steady (endRun (advanceTo b s)) s :=
  endRun_steady (Steady.of_spine (advanceTo_spine _ _)) ((spine_mainUp (advanceTo_spine _ _)).trans (inRun_up h))

theorem execRunEnd_steady (s : State) : Steadies (execRunEnd s) s := by
  unfold execRunEnd
  split
  · exact steadies_done (Steady.refl s)
  refine steadies_ite (fun h => steadies_done ?_) (fun _ => steadies_done (Steady.refl s))
  have a := fun w => Steady.over (finalReplies_spine w 0 _) (stopAt_steady (b := secCeil (now s)) h)
  exact Steady.over (settle_spine _) (Steady.ite (fun _ => Steady.over (bankSwap_spine _ _) (a _)) (fun _ => a _))

theorem execBankSwap_steady (s : State) : Steadies (execBankSwap s) s := by
  unfold execBankSwap
  split
  · exact steadies_done (Steady.refl s)
  next b _ _ =>
  refine steadies_ite (fun _ => steadies_done ?_) (fun _ => steadies_done (Steady.refl s))
  refine Steady.over (settle_spine _) (Steady.over (bankSwap_spine _ _) ?_)
  split
  · refine Steady.ite (fun h => ?_) (fun _ => Steady.of_spine (advanceTo_spine _ _))
    simp only [Bool.and_eq_true] at h
    exact Steady.over (finalReplies_spine _ _ _) (stopAt_steady h.2)
  · exact Steady.of_spine (advanceTo_spine _ _)

theorem endRun_up (s : State) : mainUp (endRun s) = true := by
  simp [mainUp, (spine_parts (endRun_spine s)).2.1, State.spine, withPs]

theorem execStepInRunRestart_steady (s : State) : Steadies (execStepInRunRestart s) s := by
  unfold execStepInRunRestart
  split
  · exact steadies_done (Steady.refl s)
  refine steadies_ite (fun _ => steadies_done (Steady.of_spine ((correct_spine _ _).trans rfl))) (fun _ => ?_)
  refine steadies_ite (fun h => steadies_done ?_) (fun _ => steadies_done (Steady.of_spine ((tbStep_spine _ _).trans rfl)))
  refine Steady.over (settle_spine _) ?_
  refine beginRun_steady _ ?_ ?_
  · exact Steady.over ((advanceTo_spine _ _).trans (tbStep_spine _ _)) ((stopAt_steady h).after rfl)
  · exact (spine_mainUp ((advanceTo_spine _ _).trans (tbStep_spine _ _))).trans (endRun_up _)

theorem stopFirst_steady (s : State) : Steady (stopFirst s) s := by
  unfold stopFirst
  refine Steady.ite (fun h => ?_) (fun _ => Steady.refl s)
  dsimp only
  split
  · exact Steady.over (finalReplies_spine _ _ _) (stopAt_steady h)
  · exact stopAt_steady h

theorem execMainOffEffect_steady (s : State) : Steadies (execMainOffEffect s) s :=
  steadies_ite (fun _ => steadies_done ((mainCut_steady rfl _).trans (stopFirst_steady s))) (fun _ => steadies_done (Steady.refl s))

theorem execDormantEntry_steady (s : State) : Steadies (execDormantEntry s) s := by
  unfold execDormantEntry
  split
  · exact steadies_done (Steady.refl s)
  refine steadies_ite (fun _ => steadies_done ?_) (fun _ => steadies_done (Steady.refl s))
  refine (mainCut_steady rfl _).trans ?_
  with_reducible refine Steady.over (spine_mk rfl rfl rfl rfl rfl) ?_
  refine Steady.over ((programAll_spine _).trans (checkpoint_spine _)) ?_
  split
  · exact Steady.over (closeCommand_spine _ _ _ _ _ _ _ _) (stopFirst_steady s)
  · exact stopFirst_steady s

/-! ## POWER_CTRL -/

theorem powerCtrlCmd_steady (s : State) (w : Waiter) (p : Bytes) (e : Instant) : Steady (powerCtrlCmd.run s w p e).1 s := by
  dsimp only [powerCtrlCmd]
  split
  · split
    · exact Steady.refl s
    · exact mainOn_steady s
  · exact Steady.of_spine (mainOff_spine s)
  · split
    · exact Steady.refl s
    split
    · exact Steady.of_spine (dormantRequest_spine _ _)
    · exact Steady.refl s

theorem Steady.ite_fst {α : Type} {c : Prop} [Decidable c] {a b : State × α} {s : State} (ha : c → Steady a.1 s)
    (hb : ¬c → Steady b.1 s) : Steady (if c then a else b).1 s := by split <;> simp_all

theorem runCommand_steady {c : Cmd} (h : ∀ s w p e, Steady (c.run s w p e).1 s) (pk : Packet) (e : Instant) (s : State) :
    Steady (runCommand c pk e s).1 s := by
  unfold runCommand
  dsimp only
  have r := h s (waiterOf c.opcode pk) (pkBytes pk) e
  split
  · exact Steady.of_spine ((closeCommand_spine _ _ _ _ _ _ _ _).trans (spine_ite (fun _ => dropChunk_spine _ _ _ _) (fun _ => rfl)))
  split
  · exact Steady.of_spine (closeCommand_spine _ _ _ _ _ _ _ _)
  refine Steady.ite_fst (fun _ => Steady.of_spine (closeCommand_spine _ _ _ _ _ _ _ _)) (fun _ => ?_)
  refine Steady.ite_fst (fun _ => r) (fun _ => ?_)
  refine Steady.ite_fst (fun _ => ?_) (fun _ => ?_)
  · exact Steady.over ((closeCommand_spine _ _ _ _ _ _ _ _).trans (forwardCmd_spine _ _ _ _)) r
  · exact Steady.over (closeCommand_spine _ _ _ _ _ _ _ _) r

theorem execPowerCtrl_steady (pk : Packet) (s : State) : Steadies (execPowerCtrl pk s) s := by
  unfold execPowerCtrl command
  split
  · exact steadies_done (Steady.of_spine (notTaken_spine _ _))
  next h1 =>
    have e := (endPairing_spine _).trans (taken_spine _ _ _ _ h1)
    dsimp only
    split
    · exact steadies_done (Steady.of_spine ((serve_spine _).trans ((postReply_spine _ _ _).trans e)))
    · exact steadies_done (Steady.over (serve_spine _) <| (runCommand_steady powerCtrlCmd_steady _ _ _).trans (Steady.of_spine e))

end Sys2Proof.Machine
end

