-- ==== Sys2Proof/Laws/State.lean ====
section
/-! SUPPORT. What each shared operation leaves of the state: one lemma for each part that it does not write. -/

namespace Sys2Proof.Machine

variable (s : State)

/-! ### emit -/

@[simp] theorem emit_glb (e : Emission) : (emit e s).glb = s.glb := rfl
@[simp] theorem emit_pins (e : Emission) : (emit e s).pins = s.pins := rfl
@[simp] theorem emit_cmd (e : Emission) : (emit e s).cmd = s.cmd := rfl
@[simp] theorem emit_tb (e : Emission) : (emit e s).tb = s.tb := rfl
@[simp] theorem emit_refBus (e : Emission) : (emit e s).refBus = s.refBus := rfl
@[simp] theorem emit_phases (e : Emission) : (emit e s).phases = s.phases := rfl
@[simp] theorem emit_phaseNext (e : Emission) : (emit e s).phaseNext = s.phaseNext := rfl
@[simp] theorem emit_bank0 (e : Emission) : (emit e s).bank0 = s.bank0 := rfl
@[simp] theorem emit_bank1 (e : Emission) : (emit e s).bank1 = s.bank1 := rfl
@[simp] theorem emit_active (e : Emission) : (emit e s).active = s.active := rfl
@[simp] theorem emit_streams (e : Emission) : (emit e s).streams = s.streams := rfl
@[simp] theorem emit_filters (e : Emission) : (emit e s).filters = s.filters := rfl
@[simp] theorem emit_mst (e : Emission) : (emit e s).mst = s.mst := rfl
@[simp] theorem emit_disp (e : Emission) : (emit e s).disp = s.disp := rfl
@[simp] theorem emit_dets (e : Emission) : (emit e s).dets = s.dets := rfl
@[simp] theorem emit_schs (e : Emission) : (emit e s).schs = s.schs := rfl
@[simp] theorem emit_pubs (e : Emission) : (emit e s).pubs = s.pubs := rfl
@[simp] theorem emit_outRuns (e : Emission) : (emit e s).outRuns = s.outRuns := rfl
@[simp] theorem emit_vchs (e : Emission) : (emit e s).vchs = s.vchs := rfl
@[simp] theorem emit_flows (e : Emission) : (emit e s).flows = s.flows := rfl
@[simp] theorem emit_caps (e : Emission) : (emit e s).caps = s.caps := rfl
@[simp] theorem emit_oqs (e : Emission) : (emit e s).oqs = s.oqs := rfl
@[simp] theorem emit_iqs (e : Emission) : (emit e s).iqs = s.iqs := rfl
@[simp] theorem emit_dmaPtr (e : Emission) : (emit e s).dmaPtr = s.dmaPtr := rfl
@[simp] theorem emit_ports (e : Emission) : (emit e s).ports = s.ports := rfl
@[simp] theorem emit_txWait (e : Emission) : (emit e s).txWait = s.txWait := rfl
@[simp] theorem emit_wake (e : Emission) : (emit e s).wake = s.wake := rfl
@[simp] theorem emit_gh (e : Emission) : (emit e s).gh = s.gh := rfl
@[simp] theorem emit_cas (e : Emission) : (emit e s).cas = s.cas := rfl
@[simp] theorem emit_rtc (e : Emission) : (emit e s).rtc = s.rtc := rfl
@[simp] theorem emit_rcd (e : Emission) : (emit e s).rcd = s.rcd := rfl
@[simp] theorem emit_cnt (e : Emission) : (emit e s).cnt = s.cnt := rfl
@[simp] theorem emit_cntHost (e : Emission) : (emit e s).cntHost = s.cntHost := rfl
@[simp] theorem emit_cntMgp (e : Emission) : (emit e s).cntMgp = s.cntMgp := rfl
@[simp] theorem emit_pwr (e : Emission) : (emit e s).pwr = s.pwr := rfl
@[simp] theorem emit_nor (e : Emission) : (emit e s).nor = s.nor := rfl
@[simp] theorem emit_tapIr (e : Emission) : (emit e s).tapIr = s.tapIr := rfl
@[simp] theorem emit_pending (e : Emission) : (emit e s).pending = s.pending := rfl
@[simp] theorem emit_free (e : Emission) : (emit e s).free = s.free := rfl

/-! ### countBy -/

@[simp] theorem countBy_glb (n k : Nat) : (countBy n k s).glb = s.glb := rfl
@[simp] theorem countBy_pins (n k : Nat) : (countBy n k s).pins = s.pins := rfl
@[simp] theorem countBy_cmd (n k : Nat) : (countBy n k s).cmd = s.cmd := rfl
@[simp] theorem countBy_tb (n k : Nat) : (countBy n k s).tb = s.tb := rfl
@[simp] theorem countBy_refBus (n k : Nat) : (countBy n k s).refBus = s.refBus := rfl
@[simp] theorem countBy_phases (n k : Nat) : (countBy n k s).phases = s.phases := rfl
@[simp] theorem countBy_phaseNext (n k : Nat) : (countBy n k s).phaseNext = s.phaseNext := rfl
@[simp] theorem countBy_bank0 (n k : Nat) : (countBy n k s).bank0 = s.bank0 := rfl
@[simp] theorem countBy_bank1 (n k : Nat) : (countBy n k s).bank1 = s.bank1 := rfl
@[simp] theorem countBy_active (n k : Nat) : (countBy n k s).active = s.active := rfl
@[simp] theorem countBy_streams (n k : Nat) : (countBy n k s).streams = s.streams := rfl
@[simp] theorem countBy_filters (n k : Nat) : (countBy n k s).filters = s.filters := rfl
@[simp] theorem countBy_mst (n k : Nat) : (countBy n k s).mst = s.mst := rfl
@[simp] theorem countBy_disp (n k : Nat) : (countBy n k s).disp = s.disp := rfl
@[simp] theorem countBy_dets (n k : Nat) : (countBy n k s).dets = s.dets := rfl
@[simp] theorem countBy_schs (n k : Nat) : (countBy n k s).schs = s.schs := rfl
@[simp] theorem countBy_pubs (n k : Nat) : (countBy n k s).pubs = s.pubs := rfl
@[simp] theorem countBy_outRuns (n k : Nat) : (countBy n k s).outRuns = s.outRuns := rfl
@[simp] theorem countBy_vchs (n k : Nat) : (countBy n k s).vchs = s.vchs := rfl
@[simp] theorem countBy_flows (n k : Nat) : (countBy n k s).flows = s.flows := rfl
@[simp] theorem countBy_caps (n k : Nat) : (countBy n k s).caps = s.caps := rfl
@[simp] theorem countBy_oqs (n k : Nat) : (countBy n k s).oqs = s.oqs := rfl
@[simp] theorem countBy_iqs (n k : Nat) : (countBy n k s).iqs = s.iqs := rfl
@[simp] theorem countBy_dmaPtr (n k : Nat) : (countBy n k s).dmaPtr = s.dmaPtr := rfl
@[simp] theorem countBy_ports (n k : Nat) : (countBy n k s).ports = s.ports := rfl
@[simp] theorem countBy_txWait (n k : Nat) : (countBy n k s).txWait = s.txWait := rfl
@[simp] theorem countBy_wake (n k : Nat) : (countBy n k s).wake = s.wake := rfl
@[simp] theorem countBy_gh (n k : Nat) : (countBy n k s).gh = s.gh := rfl
@[simp] theorem countBy_cas (n k : Nat) : (countBy n k s).cas = s.cas := rfl
@[simp] theorem countBy_rtc (n k : Nat) : (countBy n k s).rtc = s.rtc := rfl
@[simp] theorem countBy_rcd (n k : Nat) : (countBy n k s).rcd = s.rcd := rfl
@[simp] theorem countBy_cntHost (n k : Nat) : (countBy n k s).cntHost = s.cntHost := rfl
@[simp] theorem countBy_cntMgp (n k : Nat) : (countBy n k s).cntMgp = s.cntMgp := rfl
@[simp] theorem countBy_pwr (n k : Nat) : (countBy n k s).pwr = s.pwr := rfl
@[simp] theorem countBy_nor (n k : Nat) : (countBy n k s).nor = s.nor := rfl
@[simp] theorem countBy_tapIr (n k : Nat) : (countBy n k s).tapIr = s.tapIr := rfl
@[simp] theorem countBy_pending (n k : Nat) : (countBy n k s).pending = s.pending := rfl
@[simp] theorem countBy_emitted (n k : Nat) : (countBy n k s).emitted = s.emitted := rfl
@[simp] theorem countBy_free (n k : Nat) : (countBy n k s).free = s.free := rfl

/-! ### count -/

@[simp] theorem count_glb (n : Nat) : (count n s).glb = s.glb := rfl
@[simp] theorem count_pins (n : Nat) : (count n s).pins = s.pins := rfl
@[simp] theorem count_cmd (n : Nat) : (count n s).cmd = s.cmd := rfl
@[simp] theorem count_tb (n : Nat) : (count n s).tb = s.tb := rfl
@[simp] theorem count_refBus (n : Nat) : (count n s).refBus = s.refBus := rfl
@[simp] theorem count_phases (n : Nat) : (count n s).phases = s.phases := rfl
@[simp] theorem count_phaseNext (n : Nat) : (count n s).phaseNext = s.phaseNext := rfl
@[simp] theorem count_bank0 (n : Nat) : (count n s).bank0 = s.bank0 := rfl
@[simp] theorem count_bank1 (n : Nat) : (count n s).bank1 = s.bank1 := rfl
@[simp] theorem count_active (n : Nat) : (count n s).active = s.active := rfl
@[simp] theorem count_streams (n : Nat) : (count n s).streams = s.streams := rfl
@[simp] theorem count_filters (n : Nat) : (count n s).filters = s.filters := rfl
@[simp] theorem count_mst (n : Nat) : (count n s).mst = s.mst := rfl
@[simp] theorem count_disp (n : Nat) : (count n s).disp = s.disp := rfl
@[simp] theorem count_dets (n : Nat) : (count n s).dets = s.dets := rfl
@[simp] theorem count_schs (n : Nat) : (count n s).schs = s.schs := rfl
@[simp] theorem count_pubs (n : Nat) : (count n s).pubs = s.pubs := rfl
@[simp] theorem count_outRuns (n : Nat) : (count n s).outRuns = s.outRuns := rfl
@[simp] theorem count_vchs (n : Nat) : (count n s).vchs = s.vchs := rfl
@[simp] theorem count_flows (n : Nat) : (count n s).flows = s.flows := rfl
@[simp] theorem count_caps (n : Nat) : (count n s).caps = s.caps := rfl
@[simp] theorem count_oqs (n : Nat) : (count n s).oqs = s.oqs := rfl
@[simp] theorem count_iqs (n : Nat) : (count n s).iqs = s.iqs := rfl
@[simp] theorem count_dmaPtr (n : Nat) : (count n s).dmaPtr = s.dmaPtr := rfl
@[simp] theorem count_ports (n : Nat) : (count n s).ports = s.ports := rfl
@[simp] theorem count_txWait (n : Nat) : (count n s).txWait = s.txWait := rfl
@[simp] theorem count_wake (n : Nat) : (count n s).wake = s.wake := rfl
@[simp] theorem count_gh (n : Nat) : (count n s).gh = s.gh := rfl
@[simp] theorem count_cas (n : Nat) : (count n s).cas = s.cas := rfl
@[simp] theorem count_rtc (n : Nat) : (count n s).rtc = s.rtc := rfl
@[simp] theorem count_rcd (n : Nat) : (count n s).rcd = s.rcd := rfl
@[simp] theorem count_cntHost (n : Nat) : (count n s).cntHost = s.cntHost := rfl
@[simp] theorem count_cntMgp (n : Nat) : (count n s).cntMgp = s.cntMgp := rfl
@[simp] theorem count_pwr (n : Nat) : (count n s).pwr = s.pwr := rfl
@[simp] theorem count_nor (n : Nat) : (count n s).nor = s.nor := rfl
@[simp] theorem count_tapIr (n : Nat) : (count n s).tapIr = s.tapIr := rfl
@[simp] theorem count_pending (n : Nat) : (count n s).pending = s.pending := rfl
@[simp] theorem count_emitted (n : Nat) : (count n s).emitted = s.emitted := rfl
@[simp] theorem count_free (n : Nat) : (count n s).free = s.free := rfl

/-! ### drawFree -/

@[simp] theorem drawFree_glb : ((drawFree s).2).glb = s.glb := rfl
@[simp] theorem drawFree_pins : ((drawFree s).2).pins = s.pins := rfl
@[simp] theorem drawFree_cmd : ((drawFree s).2).cmd = s.cmd := rfl
@[simp] theorem drawFree_tb : ((drawFree s).2).tb = s.tb := rfl
@[simp] theorem drawFree_refBus : ((drawFree s).2).refBus = s.refBus := rfl
@[simp] theorem drawFree_phases : ((drawFree s).2).phases = s.phases := rfl
@[simp] theorem drawFree_phaseNext : ((drawFree s).2).phaseNext = s.phaseNext := rfl
@[simp] theorem drawFree_bank0 : ((drawFree s).2).bank0 = s.bank0 := rfl
@[simp] theorem drawFree_bank1 : ((drawFree s).2).bank1 = s.bank1 := rfl
@[simp] theorem drawFree_active : ((drawFree s).2).active = s.active := rfl
@[simp] theorem drawFree_streams : ((drawFree s).2).streams = s.streams := rfl
@[simp] theorem drawFree_filters : ((drawFree s).2).filters = s.filters := rfl
@[simp] theorem drawFree_mst : ((drawFree s).2).mst = s.mst := rfl
@[simp] theorem drawFree_disp : ((drawFree s).2).disp = s.disp := rfl
@[simp] theorem drawFree_dets : ((drawFree s).2).dets = s.dets := rfl
@[simp] theorem drawFree_schs : ((drawFree s).2).schs = s.schs := rfl
@[simp] theorem drawFree_pubs : ((drawFree s).2).pubs = s.pubs := rfl
@[simp] theorem drawFree_outRuns : ((drawFree s).2).outRuns = s.outRuns := rfl
@[simp] theorem drawFree_vchs : ((drawFree s).2).vchs = s.vchs := rfl
@[simp] theorem drawFree_flows : ((drawFree s).2).flows = s.flows := rfl
@[simp] theorem drawFree_caps : ((drawFree s).2).caps = s.caps := rfl
@[simp] theorem drawFree_oqs : ((drawFree s).2).oqs = s.oqs := rfl
@[simp] theorem drawFree_iqs : ((drawFree s).2).iqs = s.iqs := rfl
@[simp] theorem drawFree_dmaPtr : ((drawFree s).2).dmaPtr = s.dmaPtr := rfl
@[simp] theorem drawFree_ports : ((drawFree s).2).ports = s.ports := rfl
@[simp] theorem drawFree_txWait : ((drawFree s).2).txWait = s.txWait := rfl
@[simp] theorem drawFree_wake : ((drawFree s).2).wake = s.wake := rfl
@[simp] theorem drawFree_gh : ((drawFree s).2).gh = s.gh := rfl
@[simp] theorem drawFree_cas : ((drawFree s).2).cas = s.cas := rfl
@[simp] theorem drawFree_rtc : ((drawFree s).2).rtc = s.rtc := rfl
@[simp] theorem drawFree_rcd : ((drawFree s).2).rcd = s.rcd := rfl
@[simp] theorem drawFree_cnt : ((drawFree s).2).cnt = s.cnt := rfl
@[simp] theorem drawFree_cntHost : ((drawFree s).2).cntHost = s.cntHost := rfl
@[simp] theorem drawFree_cntMgp : ((drawFree s).2).cntMgp = s.cntMgp := rfl
@[simp] theorem drawFree_pwr : ((drawFree s).2).pwr = s.pwr := rfl
@[simp] theorem drawFree_nor : ((drawFree s).2).nor = s.nor := rfl
@[simp] theorem drawFree_tapIr : ((drawFree s).2).tapIr = s.tapIr := rfl
@[simp] theorem drawFree_pending : ((drawFree s).2).pending = s.pending := rfl
@[simp] theorem drawFree_emitted : ((drawFree s).2).emitted = s.emitted := rfl

/-! ### setPort -/

@[simp] theorem setPort_glb (p : Nat) (r : Port) : (setPort p r s).glb = s.glb := rfl
@[simp] theorem setPort_pins (p : Nat) (r : Port) : (setPort p r s).pins = s.pins := rfl
@[simp] theorem setPort_cmd (p : Nat) (r : Port) : (setPort p r s).cmd = s.cmd := rfl
@[simp] theorem setPort_tb (p : Nat) (r : Port) : (setPort p r s).tb = s.tb := rfl
@[simp] theorem setPort_refBus (p : Nat) (r : Port) : (setPort p r s).refBus = s.refBus := rfl
@[simp] theorem setPort_phases (p : Nat) (r : Port) : (setPort p r s).phases = s.phases := rfl
@[simp] theorem setPort_phaseNext (p : Nat) (r : Port) : (setPort p r s).phaseNext = s.phaseNext := rfl
@[simp] theorem setPort_bank0 (p : Nat) (r : Port) : (setPort p r s).bank0 = s.bank0 := rfl
@[simp] theorem setPort_bank1 (p : Nat) (r : Port) : (setPort p r s).bank1 = s.bank1 := rfl
@[simp] theorem setPort_active (p : Nat) (r : Port) : (setPort p r s).active = s.active := rfl
@[simp] theorem setPort_streams (p : Nat) (r : Port) : (setPort p r s).streams = s.streams := rfl
@[simp] theorem setPort_filters (p : Nat) (r : Port) : (setPort p r s).filters = s.filters := rfl
@[simp] theorem setPort_mst (p : Nat) (r : Port) : (setPort p r s).mst = s.mst := rfl
@[simp] theorem setPort_disp (p : Nat) (r : Port) : (setPort p r s).disp = s.disp := rfl
@[simp] theorem setPort_dets (p : Nat) (r : Port) : (setPort p r s).dets = s.dets := rfl
@[simp] theorem setPort_schs (p : Nat) (r : Port) : (setPort p r s).schs = s.schs := rfl
@[simp] theorem setPort_pubs (p : Nat) (r : Port) : (setPort p r s).pubs = s.pubs := rfl
@[simp] theorem setPort_outRuns (p : Nat) (r : Port) : (setPort p r s).outRuns = s.outRuns := rfl
@[simp] theorem setPort_vchs (p : Nat) (r : Port) : (setPort p r s).vchs = s.vchs := rfl
@[simp] theorem setPort_flows (p : Nat) (r : Port) : (setPort p r s).flows = s.flows := rfl
@[simp] theorem setPort_caps (p : Nat) (r : Port) : (setPort p r s).caps = s.caps := rfl
@[simp] theorem setPort_oqs (p : Nat) (r : Port) : (setPort p r s).oqs = s.oqs := rfl
@[simp] theorem setPort_iqs (p : Nat) (r : Port) : (setPort p r s).iqs = s.iqs := rfl
@[simp] theorem setPort_dmaPtr (p : Nat) (r : Port) : (setPort p r s).dmaPtr = s.dmaPtr := rfl
@[simp] theorem setPort_txWait (p : Nat) (r : Port) : (setPort p r s).txWait = s.txWait := rfl
@[simp] theorem setPort_wake (p : Nat) (r : Port) : (setPort p r s).wake = s.wake := rfl
@[simp] theorem setPort_gh (p : Nat) (r : Port) : (setPort p r s).gh = s.gh := rfl
@[simp] theorem setPort_cas (p : Nat) (r : Port) : (setPort p r s).cas = s.cas := rfl
@[simp] theorem setPort_rtc (p : Nat) (r : Port) : (setPort p r s).rtc = s.rtc := rfl
@[simp] theorem setPort_rcd (p : Nat) (r : Port) : (setPort p r s).rcd = s.rcd := rfl
@[simp] theorem setPort_cnt (p : Nat) (r : Port) : (setPort p r s).cnt = s.cnt := rfl
@[simp] theorem setPort_cntHost (p : Nat) (r : Port) : (setPort p r s).cntHost = s.cntHost := rfl
@[simp] theorem setPort_cntMgp (p : Nat) (r : Port) : (setPort p r s).cntMgp = s.cntMgp := rfl
@[simp] theorem setPort_pwr (p : Nat) (r : Port) : (setPort p r s).pwr = s.pwr := rfl
@[simp] theorem setPort_nor (p : Nat) (r : Port) : (setPort p r s).nor = s.nor := rfl
@[simp] theorem setPort_tapIr (p : Nat) (r : Port) : (setPort p r s).tapIr = s.tapIr := rfl
@[simp] theorem setPort_pending (p : Nat) (r : Port) : (setPort p r s).pending = s.pending := rfl
@[simp] theorem setPort_emitted (p : Nat) (r : Port) : (setPort p r s).emitted = s.emitted := rfl
@[simp] theorem setPort_free (p : Nat) (r : Port) : (setPort p r s).free = s.free := rfl

/-! ### countPort -/

@[simp] theorem countPort_glb (p i : Nat) : (countPort p i s).glb = s.glb := rfl
@[simp] theorem countPort_pins (p i : Nat) : (countPort p i s).pins = s.pins := rfl
@[simp] theorem countPort_cmd (p i : Nat) : (countPort p i s).cmd = s.cmd := rfl
@[simp] theorem countPort_tb (p i : Nat) : (countPort p i s).tb = s.tb := rfl
@[simp] theorem countPort_refBus (p i : Nat) : (countPort p i s).refBus = s.refBus := rfl
@[simp] theorem countPort_phases (p i : Nat) : (countPort p i s).phases = s.phases := rfl
@[simp] theorem countPort_phaseNext (p i : Nat) : (countPort p i s).phaseNext = s.phaseNext := rfl
@[simp] theorem countPort_bank0 (p i : Nat) : (countPort p i s).bank0 = s.bank0 := rfl
@[simp] theorem countPort_bank1 (p i : Nat) : (countPort p i s).bank1 = s.bank1 := rfl
@[simp] theorem countPort_active (p i : Nat) : (countPort p i s).active = s.active := rfl
@[simp] theorem countPort_streams (p i : Nat) : (countPort p i s).streams = s.streams := rfl
@[simp] theorem countPort_filters (p i : Nat) : (countPort p i s).filters = s.filters := rfl
@[simp] theorem countPort_mst (p i : Nat) : (countPort p i s).mst = s.mst := rfl
@[simp] theorem countPort_disp (p i : Nat) : (countPort p i s).disp = s.disp := rfl
@[simp] theorem countPort_dets (p i : Nat) : (countPort p i s).dets = s.dets := rfl
@[simp] theorem countPort_schs (p i : Nat) : (countPort p i s).schs = s.schs := rfl
@[simp] theorem countPort_pubs (p i : Nat) : (countPort p i s).pubs = s.pubs := rfl
@[simp] theorem countPort_outRuns (p i : Nat) : (countPort p i s).outRuns = s.outRuns := rfl
@[simp] theorem countPort_vchs (p i : Nat) : (countPort p i s).vchs = s.vchs := rfl
@[simp] theorem countPort_flows (p i : Nat) : (countPort p i s).flows = s.flows := rfl
@[simp] theorem countPort_caps (p i : Nat) : (countPort p i s).caps = s.caps := rfl
@[simp] theorem countPort_oqs (p i : Nat) : (countPort p i s).oqs = s.oqs := rfl
@[simp] theorem countPort_iqs (p i : Nat) : (countPort p i s).iqs = s.iqs := rfl
@[simp] theorem countPort_dmaPtr (p i : Nat) : (countPort p i s).dmaPtr = s.dmaPtr := rfl
@[simp] theorem countPort_txWait (p i : Nat) : (countPort p i s).txWait = s.txWait := rfl
@[simp] theorem countPort_wake (p i : Nat) : (countPort p i s).wake = s.wake := rfl
@[simp] theorem countPort_gh (p i : Nat) : (countPort p i s).gh = s.gh := rfl
@[simp] theorem countPort_cas (p i : Nat) : (countPort p i s).cas = s.cas := rfl
@[simp] theorem countPort_rtc (p i : Nat) : (countPort p i s).rtc = s.rtc := rfl
@[simp] theorem countPort_rcd (p i : Nat) : (countPort p i s).rcd = s.rcd := rfl
@[simp] theorem countPort_cntHost (p i : Nat) : (countPort p i s).cntHost = s.cntHost := rfl
@[simp] theorem countPort_cntMgp (p i : Nat) : (countPort p i s).cntMgp = s.cntMgp := rfl
@[simp] theorem countPort_pwr (p i : Nat) : (countPort p i s).pwr = s.pwr := rfl
@[simp] theorem countPort_nor (p i : Nat) : (countPort p i s).nor = s.nor := rfl
@[simp] theorem countPort_tapIr (p i : Nat) : (countPort p i s).tapIr = s.tapIr := rfl
@[simp] theorem countPort_pending (p i : Nat) : (countPort p i s).pending = s.pending := rfl
@[simp] theorem countPort_emitted (p i : Nat) : (countPort p i s).emitted = s.emitted := rfl
@[simp] theorem countPort_free (p i : Nat) : (countPort p i s).free = s.free := rfl

/-! ### elapse -/

@[simp] theorem elapse_glb (d : Nat) : (elapse d s).glb = s.glb := by simp only [elapse]
@[simp] theorem elapse_pins (d : Nat) : (elapse d s).pins = s.pins := by simp only [elapse]
@[simp] theorem elapse_cmd (d : Nat) : (elapse d s).cmd = s.cmd := by simp only [elapse]
@[simp] theorem elapse_refBus (d : Nat) : (elapse d s).refBus = s.refBus := by simp only [elapse]
@[simp] theorem elapse_phases (d : Nat) : (elapse d s).phases = s.phases := by simp only [elapse]
@[simp] theorem elapse_phaseNext (d : Nat) : (elapse d s).phaseNext = s.phaseNext := by simp only [elapse]
@[simp] theorem elapse_bank0 (d : Nat) : (elapse d s).bank0 = s.bank0 := by simp only [elapse]
@[simp] theorem elapse_bank1 (d : Nat) : (elapse d s).bank1 = s.bank1 := by simp only [elapse]
@[simp] theorem elapse_active (d : Nat) : (elapse d s).active = s.active := by simp only [elapse]
@[simp] theorem elapse_streams (d : Nat) : (elapse d s).streams = s.streams := by simp only [elapse]
@[simp] theorem elapse_filters (d : Nat) : (elapse d s).filters = s.filters := by simp only [elapse]
@[simp] theorem elapse_mst (d : Nat) : (elapse d s).mst = s.mst := by simp only [elapse]
@[simp] theorem elapse_disp (d : Nat) : (elapse d s).disp = s.disp := by simp only [elapse]
@[simp] theorem elapse_dets (d : Nat) : (elapse d s).dets = s.dets := by simp only [elapse]
@[simp] theorem elapse_schs (d : Nat) : (elapse d s).schs = s.schs := by simp only [elapse]
@[simp] theorem elapse_pubs (d : Nat) : (elapse d s).pubs = s.pubs := by simp only [elapse]
@[simp] theorem elapse_outRuns (d : Nat) : (elapse d s).outRuns = s.outRuns := by simp only [elapse]
@[simp] theorem elapse_vchs (d : Nat) : (elapse d s).vchs = s.vchs := by simp only [elapse]
@[simp] theorem elapse_flows (d : Nat) : (elapse d s).flows = s.flows := by simp only [elapse]
@[simp] theorem elapse_caps (d : Nat) : (elapse d s).caps = s.caps := by simp only [elapse]
@[simp] theorem elapse_oqs (d : Nat) : (elapse d s).oqs = s.oqs := by simp only [elapse]
@[simp] theorem elapse_iqs (d : Nat) : (elapse d s).iqs = s.iqs := by simp only [elapse]
@[simp] theorem elapse_dmaPtr (d : Nat) : (elapse d s).dmaPtr = s.dmaPtr := by simp only [elapse]
@[simp] theorem elapse_ports (d : Nat) : (elapse d s).ports = s.ports := by simp only [elapse]
@[simp] theorem elapse_txWait (d : Nat) : (elapse d s).txWait = s.txWait := by simp only [elapse]
@[simp] theorem elapse_wake (d : Nat) : (elapse d s).wake = s.wake := by simp only [elapse]
@[simp] theorem elapse_gh (d : Nat) : (elapse d s).gh = s.gh := by simp only [elapse]
@[simp] theorem elapse_cas (d : Nat) : (elapse d s).cas = s.cas := by simp only [elapse]
@[simp] theorem elapse_cnt (d : Nat) : (elapse d s).cnt = s.cnt := by simp only [elapse]
@[simp] theorem elapse_cntHost (d : Nat) : (elapse d s).cntHost = s.cntHost := by simp only [elapse]
@[simp] theorem elapse_cntMgp (d : Nat) : (elapse d s).cntMgp = s.cntMgp := by simp only [elapse]
@[simp] theorem elapse_pwr (d : Nat) : (elapse d s).pwr = s.pwr := by simp only [elapse]
@[simp] theorem elapse_nor (d : Nat) : (elapse d s).nor = s.nor := by simp only [elapse]
@[simp] theorem elapse_tapIr (d : Nat) : (elapse d s).tapIr = s.tapIr := by simp only [elapse]
@[simp] theorem elapse_pending (d : Nat) : (elapse d s).pending = s.pending := by simp only [elapse]
@[simp] theorem elapse_emitted (d : Nat) : (elapse d s).emitted = s.emitted := by simp only [elapse]
@[simp] theorem elapse_free (d : Nat) : (elapse d s).free = s.free := by simp only [elapse]

/-! ### advanceTo -/

@[simp] theorem advanceTo_glb (t : Instant) : (advanceTo t s).glb = s.glb := elapse_glb _ _
@[simp] theorem advanceTo_pins (t : Instant) : (advanceTo t s).pins = s.pins := elapse_pins _ _
@[simp] theorem advanceTo_cmd (t : Instant) : (advanceTo t s).cmd = s.cmd := elapse_cmd _ _
@[simp] theorem advanceTo_refBus (t : Instant) : (advanceTo t s).refBus = s.refBus := elapse_refBus _ _
@[simp] theorem advanceTo_phases (t : Instant) : (advanceTo t s).phases = s.phases := elapse_phases _ _
@[simp] theorem advanceTo_phaseNext (t : Instant) : (advanceTo t s).phaseNext = s.phaseNext := elapse_phaseNext _ _
@[simp] theorem advanceTo_bank0 (t : Instant) : (advanceTo t s).bank0 = s.bank0 := elapse_bank0 _ _
@[simp] theorem advanceTo_bank1 (t : Instant) : (advanceTo t s).bank1 = s.bank1 := elapse_bank1 _ _
@[simp] theorem advanceTo_active (t : Instant) : (advanceTo t s).active = s.active := elapse_active _ _
@[simp] theorem advanceTo_streams (t : Instant) : (advanceTo t s).streams = s.streams := elapse_streams _ _
@[simp] theorem advanceTo_filters (t : Instant) : (advanceTo t s).filters = s.filters := elapse_filters _ _
@[simp] theorem advanceTo_mst (t : Instant) : (advanceTo t s).mst = s.mst := elapse_mst _ _
@[simp] theorem advanceTo_disp (t : Instant) : (advanceTo t s).disp = s.disp := elapse_disp _ _
@[simp] theorem advanceTo_dets (t : Instant) : (advanceTo t s).dets = s.dets := elapse_dets _ _
@[simp] theorem advanceTo_schs (t : Instant) : (advanceTo t s).schs = s.schs := elapse_schs _ _
@[simp] theorem advanceTo_pubs (t : Instant) : (advanceTo t s).pubs = s.pubs := elapse_pubs _ _
@[simp] theorem advanceTo_outRuns (t : Instant) : (advanceTo t s).outRuns = s.outRuns := elapse_outRuns _ _
@[simp] theorem advanceTo_vchs (t : Instant) : (advanceTo t s).vchs = s.vchs := elapse_vchs _ _
@[simp] theorem advanceTo_flows (t : Instant) : (advanceTo t s).flows = s.flows := elapse_flows _ _
@[simp] theorem advanceTo_caps (t : Instant) : (advanceTo t s).caps = s.caps := elapse_caps _ _
@[simp] theorem advanceTo_oqs (t : Instant) : (advanceTo t s).oqs = s.oqs := elapse_oqs _ _
@[simp] theorem advanceTo_iqs (t : Instant) : (advanceTo t s).iqs = s.iqs := elapse_iqs _ _
@[simp] theorem advanceTo_dmaPtr (t : Instant) : (advanceTo t s).dmaPtr = s.dmaPtr := elapse_dmaPtr _ _
@[simp] theorem advanceTo_ports (t : Instant) : (advanceTo t s).ports = s.ports := elapse_ports _ _
@[simp] theorem advanceTo_txWait (t : Instant) : (advanceTo t s).txWait = s.txWait := elapse_txWait _ _
@[simp] theorem advanceTo_wake (t : Instant) : (advanceTo t s).wake = s.wake := elapse_wake _ _
@[simp] theorem advanceTo_gh (t : Instant) : (advanceTo t s).gh = s.gh := elapse_gh _ _
@[simp] theorem advanceTo_cas (t : Instant) : (advanceTo t s).cas = s.cas := elapse_cas _ _
@[simp] theorem advanceTo_cnt (t : Instant) : (advanceTo t s).cnt = s.cnt := elapse_cnt _ _
@[simp] theorem advanceTo_cntHost (t : Instant) : (advanceTo t s).cntHost = s.cntHost := elapse_cntHost _ _
@[simp] theorem advanceTo_cntMgp (t : Instant) : (advanceTo t s).cntMgp = s.cntMgp := elapse_cntMgp _ _
@[simp] theorem advanceTo_pwr (t : Instant) : (advanceTo t s).pwr = s.pwr := elapse_pwr _ _
@[simp] theorem advanceTo_nor (t : Instant) : (advanceTo t s).nor = s.nor := elapse_nor _ _
@[simp] theorem advanceTo_tapIr (t : Instant) : (advanceTo t s).tapIr = s.tapIr := elapse_tapIr _ _
@[simp] theorem advanceTo_pending (t : Instant) : (advanceTo t s).pending = s.pending := elapse_pending _ _
@[simp] theorem advanceTo_emitted (t : Instant) : (advanceTo t s).emitted = s.emitted := elapse_emitted _ _
@[simp] theorem advanceTo_free (t : Instant) : (advanceTo t s).free = s.free := elapse_free _ _

/-! ### raiseVector -/

theorem raiseVector_only (n : Nat) : raiseVector n s = { s with glb := (raiseVector n s).glb, emitted := (raiseVector n s).emitted } := by unfold raiseVector; dsimp only; split <;> rfl

@[simp] theorem raiseVector_pins (n : Nat) : (raiseVector n s).pins = s.pins := by rw [raiseVector_only]
@[simp] theorem raiseVector_cmd (n : Nat) : (raiseVector n s).cmd = s.cmd := by rw [raiseVector_only]
@[simp] theorem raiseVector_tb (n : Nat) : (raiseVector n s).tb = s.tb := by rw [raiseVector_only]
@[simp] theorem raiseVector_refBus (n : Nat) : (raiseVector n s).refBus = s.refBus := by rw [raiseVector_only]
@[simp] theorem raiseVector_phases (n : Nat) : (raiseVector n s).phases = s.phases := by rw [raiseVector_only]
@[simp] theorem raiseVector_phaseNext (n : Nat) : (raiseVector n s).phaseNext = s.phaseNext := by rw [raiseVector_only]
@[simp] theorem raiseVector_bank0 (n : Nat) : (raiseVector n s).bank0 = s.bank0 := by rw [raiseVector_only]
@[simp] theorem raiseVector_bank1 (n : Nat) : (raiseVector n s).bank1 = s.bank1 := by rw [raiseVector_only]
@[simp] theorem raiseVector_active (n : Nat) : (raiseVector n s).active = s.active := by rw [raiseVector_only]
@[simp] theorem raiseVector_streams (n : Nat) : (raiseVector n s).streams = s.streams := by rw [raiseVector_only]
@[simp] theorem raiseVector_filters (n : Nat) : (raiseVector n s).filters = s.filters := by rw [raiseVector_only]
@[simp] theorem raiseVector_mst (n : Nat) : (raiseVector n s).mst = s.mst := by rw [raiseVector_only]
@[simp] theorem raiseVector_disp (n : Nat) : (raiseVector n s).disp = s.disp := by rw [raiseVector_only]
@[simp] theorem raiseVector_dets (n : Nat) : (raiseVector n s).dets = s.dets := by rw [raiseVector_only]
@[simp] theorem raiseVector_schs (n : Nat) : (raiseVector n s).schs = s.schs := by rw [raiseVector_only]
@[simp] theorem raiseVector_pubs (n : Nat) : (raiseVector n s).pubs = s.pubs := by rw [raiseVector_only]
@[simp] theorem raiseVector_outRuns (n : Nat) : (raiseVector n s).outRuns = s.outRuns := by rw [raiseVector_only]
@[simp] theorem raiseVector_vchs (n : Nat) : (raiseVector n s).vchs = s.vchs := by rw [raiseVector_only]
@[simp] theorem raiseVector_flows (n : Nat) : (raiseVector n s).flows = s.flows := by rw [raiseVector_only]
@[simp] theorem raiseVector_caps (n : Nat) : (raiseVector n s).caps = s.caps := by rw [raiseVector_only]
@[simp] theorem raiseVector_oqs (n : Nat) : (raiseVector n s).oqs = s.oqs := by rw [raiseVector_only]
@[simp] theorem raiseVector_iqs (n : Nat) : (raiseVector n s).iqs = s.iqs := by rw [raiseVector_only]
@[simp] theorem raiseVector_dmaPtr (n : Nat) : (raiseVector n s).dmaPtr = s.dmaPtr := by rw [raiseVector_only]
@[simp] theorem raiseVector_ports (n : Nat) : (raiseVector n s).ports = s.ports := by rw [raiseVector_only]
@[simp] theorem raiseVector_txWait (n : Nat) : (raiseVector n s).txWait = s.txWait := by rw [raiseVector_only]
@[simp] theorem raiseVector_wake (n : Nat) : (raiseVector n s).wake = s.wake := by rw [raiseVector_only]
@[simp] theorem raiseVector_gh (n : Nat) : (raiseVector n s).gh = s.gh := by rw [raiseVector_only]
@[simp] theorem raiseVector_cas (n : Nat) : (raiseVector n s).cas = s.cas := by rw [raiseVector_only]
@[simp] theorem raiseVector_rtc (n : Nat) : (raiseVector n s).rtc = s.rtc := by rw [raiseVector_only]
@[simp] theorem raiseVector_rcd (n : Nat) : (raiseVector n s).rcd = s.rcd := by rw [raiseVector_only]
@[simp] theorem raiseVector_cnt (n : Nat) : (raiseVector n s).cnt = s.cnt := by rw [raiseVector_only]
@[simp] theorem raiseVector_cntHost (n : Nat) : (raiseVector n s).cntHost = s.cntHost := by rw [raiseVector_only]
@[simp] theorem raiseVector_cntMgp (n : Nat) : (raiseVector n s).cntMgp = s.cntMgp := by rw [raiseVector_only]
@[simp] theorem raiseVector_pwr (n : Nat) : (raiseVector n s).pwr = s.pwr := by rw [raiseVector_only]
@[simp] theorem raiseVector_nor (n : Nat) : (raiseVector n s).nor = s.nor := by rw [raiseVector_only]
@[simp] theorem raiseVector_tapIr (n : Nat) : (raiseVector n s).tapIr = s.tapIr := by rw [raiseVector_only]
@[simp] theorem raiseVector_pending (n : Nat) : (raiseVector n s).pending = s.pending := by rw [raiseVector_only]
@[simp] theorem raiseVector_free (n : Nat) : (raiseVector n s).free = s.free := by rw [raiseVector_only]

/-! ### setIrq -/

theorem setIrq_only (b : Nat) : setIrq b s = { s with glb := (setIrq b s).glb, emitted := (setIrq b s).emitted } := by unfold setIrq; dsimp only; split <;> first | rfl | rw [raiseVector_only]

@[simp] theorem setIrq_pins (b : Nat) : (setIrq b s).pins = s.pins := by rw [setIrq_only]
@[simp] theorem setIrq_cmd (b : Nat) : (setIrq b s).cmd = s.cmd := by rw [setIrq_only]
@[simp] theorem setIrq_tb (b : Nat) : (setIrq b s).tb = s.tb := by rw [setIrq_only]
@[simp] theorem setIrq_refBus (b : Nat) : (setIrq b s).refBus = s.refBus := by rw [setIrq_only]
@[simp] theorem setIrq_phases (b : Nat) : (setIrq b s).phases = s.phases := by rw [setIrq_only]
@[simp] theorem setIrq_phaseNext (b : Nat) : (setIrq b s).phaseNext = s.phaseNext := by rw [setIrq_only]
@[simp] theorem setIrq_bank0 (b : Nat) : (setIrq b s).bank0 = s.bank0 := by rw [setIrq_only]
@[simp] theorem setIrq_bank1 (b : Nat) : (setIrq b s).bank1 = s.bank1 := by rw [setIrq_only]
@[simp] theorem setIrq_active (b : Nat) : (setIrq b s).active = s.active := by rw [setIrq_only]
@[simp] theorem setIrq_streams (b : Nat) : (setIrq b s).streams = s.streams := by rw [setIrq_only]
@[simp] theorem setIrq_filters (b : Nat) : (setIrq b s).filters = s.filters := by rw [setIrq_only]
@[simp] theorem setIrq_mst (b : Nat) : (setIrq b s).mst = s.mst := by rw [setIrq_only]
@[simp] theorem setIrq_disp (b : Nat) : (setIrq b s).disp = s.disp := by rw [setIrq_only]
@[simp] theorem setIrq_dets (b : Nat) : (setIrq b s).dets = s.dets := by rw [setIrq_only]
@[simp] theorem setIrq_schs (b : Nat) : (setIrq b s).schs = s.schs := by rw [setIrq_only]
@[simp] theorem setIrq_pubs (b : Nat) : (setIrq b s).pubs = s.pubs := by rw [setIrq_only]
@[simp] theorem setIrq_outRuns (b : Nat) : (setIrq b s).outRuns = s.outRuns := by rw [setIrq_only]
@[simp] theorem setIrq_vchs (b : Nat) : (setIrq b s).vchs = s.vchs := by rw [setIrq_only]
@[simp] theorem setIrq_flows (b : Nat) : (setIrq b s).flows = s.flows := by rw [setIrq_only]
@[simp] theorem setIrq_caps (b : Nat) : (setIrq b s).caps = s.caps := by rw [setIrq_only]
@[simp] theorem setIrq_oqs (b : Nat) : (setIrq b s).oqs = s.oqs := by rw [setIrq_only]
@[simp] theorem setIrq_iqs (b : Nat) : (setIrq b s).iqs = s.iqs := by rw [setIrq_only]
@[simp] theorem setIrq_dmaPtr (b : Nat) : (setIrq b s).dmaPtr = s.dmaPtr := by rw [setIrq_only]
@[simp] theorem setIrq_ports (b : Nat) : (setIrq b s).ports = s.ports := by rw [setIrq_only]
@[simp] theorem setIrq_txWait (b : Nat) : (setIrq b s).txWait = s.txWait := by rw [setIrq_only]
@[simp] theorem setIrq_wake (b : Nat) : (setIrq b s).wake = s.wake := by rw [setIrq_only]
@[simp] theorem setIrq_gh (b : Nat) : (setIrq b s).gh = s.gh := by rw [setIrq_only]
@[simp] theorem setIrq_cas (b : Nat) : (setIrq b s).cas = s.cas := by rw [setIrq_only]
@[simp] theorem setIrq_rtc (b : Nat) : (setIrq b s).rtc = s.rtc := by rw [setIrq_only]
@[simp] theorem setIrq_rcd (b : Nat) : (setIrq b s).rcd = s.rcd := by rw [setIrq_only]
@[simp] theorem setIrq_cnt (b : Nat) : (setIrq b s).cnt = s.cnt := by rw [setIrq_only]
@[simp] theorem setIrq_cntHost (b : Nat) : (setIrq b s).cntHost = s.cntHost := by rw [setIrq_only]
@[simp] theorem setIrq_cntMgp (b : Nat) : (setIrq b s).cntMgp = s.cntMgp := by rw [setIrq_only]
@[simp] theorem setIrq_pwr (b : Nat) : (setIrq b s).pwr = s.pwr := by rw [setIrq_only]
@[simp] theorem setIrq_nor (b : Nat) : (setIrq b s).nor = s.nor := by rw [setIrq_only]
@[simp] theorem setIrq_tapIr (b : Nat) : (setIrq b s).tapIr = s.tapIr := by rw [setIrq_only]
@[simp] theorem setIrq_pending (b : Nat) : (setIrq b s).pending = s.pending := by rw [setIrq_only]
@[simp] theorem setIrq_free (b : Nat) : (setIrq b s).free = s.free := by rw [setIrq_only]

/-! ### setAlert -/

@[simp] theorem setAlert_glb (b : Nat) : (setAlert b s).glb = s.glb := rfl
@[simp] theorem setAlert_pins (b : Nat) : (setAlert b s).pins = s.pins := rfl
@[simp] theorem setAlert_cmd (b : Nat) : (setAlert b s).cmd = s.cmd := rfl
@[simp] theorem setAlert_tb (b : Nat) : (setAlert b s).tb = s.tb := rfl
@[simp] theorem setAlert_refBus (b : Nat) : (setAlert b s).refBus = s.refBus := rfl
@[simp] theorem setAlert_phases (b : Nat) : (setAlert b s).phases = s.phases := rfl
@[simp] theorem setAlert_phaseNext (b : Nat) : (setAlert b s).phaseNext = s.phaseNext := rfl
@[simp] theorem setAlert_bank0 (b : Nat) : (setAlert b s).bank0 = s.bank0 := rfl
@[simp] theorem setAlert_bank1 (b : Nat) : (setAlert b s).bank1 = s.bank1 := rfl
@[simp] theorem setAlert_active (b : Nat) : (setAlert b s).active = s.active := rfl
@[simp] theorem setAlert_streams (b : Nat) : (setAlert b s).streams = s.streams := rfl
@[simp] theorem setAlert_filters (b : Nat) : (setAlert b s).filters = s.filters := rfl
@[simp] theorem setAlert_mst (b : Nat) : (setAlert b s).mst = s.mst := rfl
@[simp] theorem setAlert_disp (b : Nat) : (setAlert b s).disp = s.disp := rfl
@[simp] theorem setAlert_dets (b : Nat) : (setAlert b s).dets = s.dets := rfl
@[simp] theorem setAlert_schs (b : Nat) : (setAlert b s).schs = s.schs := rfl
@[simp] theorem setAlert_pubs (b : Nat) : (setAlert b s).pubs = s.pubs := rfl
@[simp] theorem setAlert_outRuns (b : Nat) : (setAlert b s).outRuns = s.outRuns := rfl
@[simp] theorem setAlert_vchs (b : Nat) : (setAlert b s).vchs = s.vchs := rfl
@[simp] theorem setAlert_flows (b : Nat) : (setAlert b s).flows = s.flows := rfl
@[simp] theorem setAlert_caps (b : Nat) : (setAlert b s).caps = s.caps := rfl
@[simp] theorem setAlert_oqs (b : Nat) : (setAlert b s).oqs = s.oqs := rfl
@[simp] theorem setAlert_iqs (b : Nat) : (setAlert b s).iqs = s.iqs := rfl
@[simp] theorem setAlert_dmaPtr (b : Nat) : (setAlert b s).dmaPtr = s.dmaPtr := rfl
@[simp] theorem setAlert_ports (b : Nat) : (setAlert b s).ports = s.ports := rfl
@[simp] theorem setAlert_txWait (b : Nat) : (setAlert b s).txWait = s.txWait := rfl
@[simp] theorem setAlert_wake (b : Nat) : (setAlert b s).wake = s.wake := rfl
@[simp] theorem setAlert_gh (b : Nat) : (setAlert b s).gh = s.gh := rfl
@[simp] theorem setAlert_cas (b : Nat) : (setAlert b s).cas = s.cas := rfl
@[simp] theorem setAlert_rtc (b : Nat) : (setAlert b s).rtc = s.rtc := rfl
@[simp] theorem setAlert_rcd (b : Nat) : (setAlert b s).rcd = s.rcd := rfl
@[simp] theorem setAlert_cnt (b : Nat) : (setAlert b s).cnt = s.cnt := rfl
@[simp] theorem setAlert_cntHost (b : Nat) : (setAlert b s).cntHost = s.cntHost := rfl
@[simp] theorem setAlert_cntMgp (b : Nat) : (setAlert b s).cntMgp = s.cntMgp := rfl
@[simp] theorem setAlert_nor (b : Nat) : (setAlert b s).nor = s.nor := rfl
@[simp] theorem setAlert_tapIr (b : Nat) : (setAlert b s).tapIr = s.tapIr := rfl
@[simp] theorem setAlert_pending (b : Nat) : (setAlert b s).pending = s.pending := rfl
@[simp] theorem setAlert_emitted (b : Nat) : (setAlert b s).emitted = s.emitted := rfl
@[simp] theorem setAlert_free (b : Nat) : (setAlert b s).free = s.free := rfl

/-! ### setCasIrq -/

theorem setCasIrq_only (b : Nat) : setCasIrq b s = { s with cas := (setCasIrq b s).cas, glb := (setCasIrq b s).glb, emitted := (setCasIrq b s).emitted } := by unfold setCasIrq; rw [raiseVector_only]

@[simp] theorem setCasIrq_pins (b : Nat) : (setCasIrq b s).pins = s.pins := by rw [setCasIrq_only]
@[simp] theorem setCasIrq_cmd (b : Nat) : (setCasIrq b s).cmd = s.cmd := by rw [setCasIrq_only]
@[simp] theorem setCasIrq_tb (b : Nat) : (setCasIrq b s).tb = s.tb := by rw [setCasIrq_only]
@[simp] theorem setCasIrq_refBus (b : Nat) : (setCasIrq b s).refBus = s.refBus := by rw [setCasIrq_only]
@[simp] theorem setCasIrq_phases (b : Nat) : (setCasIrq b s).phases = s.phases := by rw [setCasIrq_only]
@[simp] theorem setCasIrq_phaseNext (b : Nat) : (setCasIrq b s).phaseNext = s.phaseNext := by rw [setCasIrq_only]
@[simp] theorem setCasIrq_bank0 (b : Nat) : (setCasIrq b s).bank0 = s.bank0 := by rw [setCasIrq_only]
@[simp] theorem setCasIrq_bank1 (b : Nat) : (setCasIrq b s).bank1 = s.bank1 := by rw [setCasIrq_only]
@[simp] theorem setCasIrq_active (b : Nat) : (setCasIrq b s).active = s.active := by rw [setCasIrq_only]
@[simp] theorem setCasIrq_streams (b : Nat) : (setCasIrq b s).streams = s.streams := by rw [setCasIrq_only]
@[simp] theorem setCasIrq_filters (b : Nat) : (setCasIrq b s).filters = s.filters := by rw [setCasIrq_only]
@[simp] theorem setCasIrq_mst (b : Nat) : (setCasIrq b s).mst = s.mst := by rw [setCasIrq_only]
@[simp] theorem setCasIrq_disp (b : Nat) : (setCasIrq b s).disp = s.disp := by rw [setCasIrq_only]
@[simp] theorem setCasIrq_dets (b : Nat) : (setCasIrq b s).dets = s.dets := by rw [setCasIrq_only]
@[simp] theorem setCasIrq_schs (b : Nat) : (setCasIrq b s).schs = s.schs := by rw [setCasIrq_only]
@[simp] theorem setCasIrq_pubs (b : Nat) : (setCasIrq b s).pubs = s.pubs := by rw [setCasIrq_only]
@[simp] theorem setCasIrq_outRuns (b : Nat) : (setCasIrq b s).outRuns = s.outRuns := by rw [setCasIrq_only]
@[simp] theorem setCasIrq_vchs (b : Nat) : (setCasIrq b s).vchs = s.vchs := by rw [setCasIrq_only]
@[simp] theorem setCasIrq_flows (b : Nat) : (setCasIrq b s).flows = s.flows := by rw [setCasIrq_only]
@[simp] theorem setCasIrq_caps (b : Nat) : (setCasIrq b s).caps = s.caps := by rw [setCasIrq_only]
@[simp] theorem setCasIrq_oqs (b : Nat) : (setCasIrq b s).oqs = s.oqs := by rw [setCasIrq_only]
@[simp] theorem setCasIrq_iqs (b : Nat) : (setCasIrq b s).iqs = s.iqs := by rw [setCasIrq_only]
@[simp] theorem setCasIrq_dmaPtr (b : Nat) : (setCasIrq b s).dmaPtr = s.dmaPtr := by rw [setCasIrq_only]
@[simp] theorem setCasIrq_ports (b : Nat) : (setCasIrq b s).ports = s.ports := by rw [setCasIrq_only]
@[simp] theorem setCasIrq_txWait (b : Nat) : (setCasIrq b s).txWait = s.txWait := by rw [setCasIrq_only]
@[simp] theorem setCasIrq_wake (b : Nat) : (setCasIrq b s).wake = s.wake := by rw [setCasIrq_only]
@[simp] theorem setCasIrq_gh (b : Nat) : (setCasIrq b s).gh = s.gh := by rw [setCasIrq_only]
@[simp] theorem setCasIrq_rtc (b : Nat) : (setCasIrq b s).rtc = s.rtc := by rw [setCasIrq_only]
@[simp] theorem setCasIrq_rcd (b : Nat) : (setCasIrq b s).rcd = s.rcd := by rw [setCasIrq_only]
@[simp] theorem setCasIrq_cnt (b : Nat) : (setCasIrq b s).cnt = s.cnt := by rw [setCasIrq_only]
@[simp] theorem setCasIrq_cntHost (b : Nat) : (setCasIrq b s).cntHost = s.cntHost := by rw [setCasIrq_only]
@[simp] theorem setCasIrq_cntMgp (b : Nat) : (setCasIrq b s).cntMgp = s.cntMgp := by rw [setCasIrq_only]
@[simp] theorem setCasIrq_pwr (b : Nat) : (setCasIrq b s).pwr = s.pwr := by rw [setCasIrq_only]
@[simp] theorem setCasIrq_nor (b : Nat) : (setCasIrq b s).nor = s.nor := by rw [setCasIrq_only]
@[simp] theorem setCasIrq_tapIr (b : Nat) : (setCasIrq b s).tapIr = s.tapIr := by rw [setCasIrq_only]
@[simp] theorem setCasIrq_pending (b : Nat) : (setCasIrq b s).pending = s.pending := by rw [setCasIrq_only]
@[simp] theorem setCasIrq_free (b : Nat) : (setCasIrq b s).free = s.free := by rw [setCasIrq_only]

/-! ### recStage -/

theorem recStage_only (r : Record) : recStage r s = { s with glb := (recStage r s).glb, emitted := (recStage r s).emitted, rcd := (recStage r s).rcd } := by
  have hv (n : Nat) (c : Recorder) : raiseVector n { s with rcd := c } =
      { s with glb := (raiseVector n { s with rcd := c }).glb, emitted := (raiseVector n { s with rcd := c }).emitted, rcd := (raiseVector n { s with rcd := c }).rcd } := by
    unfold raiseVector; dsimp only; split <;> rfl
  unfold recStage; dsimp only
  repeat' split
  all_goals first | exact hv _ _ | rfl

@[simp] theorem recStage_pins (r : Record) : (recStage r s).pins = s.pins := by rw [recStage_only]
@[simp] theorem recStage_cmd (r : Record) : (recStage r s).cmd = s.cmd := by rw [recStage_only]
@[simp] theorem recStage_tb (r : Record) : (recStage r s).tb = s.tb := by rw [recStage_only]
@[simp] theorem recStage_refBus (r : Record) : (recStage r s).refBus = s.refBus := by rw [recStage_only]
@[simp] theorem recStage_phases (r : Record) : (recStage r s).phases = s.phases := by rw [recStage_only]
@[simp] theorem recStage_phaseNext (r : Record) : (recStage r s).phaseNext = s.phaseNext := by rw [recStage_only]
@[simp] theorem recStage_bank0 (r : Record) : (recStage r s).bank0 = s.bank0 := by rw [recStage_only]
@[simp] theorem recStage_bank1 (r : Record) : (recStage r s).bank1 = s.bank1 := by rw [recStage_only]
@[simp] theorem recStage_active (r : Record) : (recStage r s).active = s.active := by rw [recStage_only]
@[simp] theorem recStage_streams (r : Record) : (recStage r s).streams = s.streams := by rw [recStage_only]
@[simp] theorem recStage_filters (r : Record) : (recStage r s).filters = s.filters := by rw [recStage_only]
@[simp] theorem recStage_mst (r : Record) : (recStage r s).mst = s.mst := by rw [recStage_only]
@[simp] theorem recStage_disp (r : Record) : (recStage r s).disp = s.disp := by rw [recStage_only]
@[simp] theorem recStage_dets (r : Record) : (recStage r s).dets = s.dets := by rw [recStage_only]
@[simp] theorem recStage_schs (r : Record) : (recStage r s).schs = s.schs := by rw [recStage_only]
@[simp] theorem recStage_pubs (r : Record) : (recStage r s).pubs = s.pubs := by rw [recStage_only]
@[simp] theorem recStage_outRuns (r : Record) : (recStage r s).outRuns = s.outRuns := by rw [recStage_only]
@[simp] theorem recStage_vchs (r : Record) : (recStage r s).vchs = s.vchs := by rw [recStage_only]
@[simp] theorem recStage_flows (r : Record) : (recStage r s).flows = s.flows := by rw [recStage_only]
@[simp] theorem recStage_caps (r : Record) : (recStage r s).caps = s.caps := by rw [recStage_only]
@[simp] theorem recStage_oqs (r : Record) : (recStage r s).oqs = s.oqs := by rw [recStage_only]
@[simp] theorem recStage_iqs (r : Record) : (recStage r s).iqs = s.iqs := by rw [recStage_only]
@[simp] theorem recStage_dmaPtr (r : Record) : (recStage r s).dmaPtr = s.dmaPtr := by rw [recStage_only]
@[simp] theorem recStage_ports (r : Record) : (recStage r s).ports = s.ports := by rw [recStage_only]
@[simp] theorem recStage_txWait (r : Record) : (recStage r s).txWait = s.txWait := by rw [recStage_only]
@[simp] theorem recStage_wake (r : Record) : (recStage r s).wake = s.wake := by rw [recStage_only]
@[simp] theorem recStage_gh (r : Record) : (recStage r s).gh = s.gh := by rw [recStage_only]
@[simp] theorem recStage_cas (r : Record) : (recStage r s).cas = s.cas := by rw [recStage_only]
@[simp] theorem recStage_rtc (r : Record) : (recStage r s).rtc = s.rtc := by rw [recStage_only]
@[simp] theorem recStage_cnt (r : Record) : (recStage r s).cnt = s.cnt := by rw [recStage_only]
@[simp] theorem recStage_cntHost (r : Record) : (recStage r s).cntHost = s.cntHost := by rw [recStage_only]
@[simp] theorem recStage_cntMgp (r : Record) : (recStage r s).cntMgp = s.cntMgp := by rw [recStage_only]
@[simp] theorem recStage_pwr (r : Record) : (recStage r s).pwr = s.pwr := by rw [recStage_only]
@[simp] theorem recStage_nor (r : Record) : (recStage r s).nor = s.nor := by rw [recStage_only]
@[simp] theorem recStage_tapIr (r : Record) : (recStage r s).tapIr = s.tapIr := by rw [recStage_only]
@[simp] theorem recStage_pending (r : Record) : (recStage r s).pending = s.pending := by rw [recStage_only]
@[simp] theorem recStage_free (r : Record) : (recStage r s).free = s.free := by rw [recStage_only]

/-! ### recAdd -/

@[simp] theorem recAdd_pins (a b c d e f g h : Nat) (x : Bytes) : (recAdd a b c d e f g h x s).pins = s.pins := recStage_pins _ _
@[simp] theorem recAdd_cmd (a b c d e f g h : Nat) (x : Bytes) : (recAdd a b c d e f g h x s).cmd = s.cmd := recStage_cmd _ _
@[simp] theorem recAdd_tb (a b c d e f g h : Nat) (x : Bytes) : (recAdd a b c d e f g h x s).tb = s.tb := recStage_tb _ _
@[simp] theorem recAdd_refBus (a b c d e f g h : Nat) (x : Bytes) : (recAdd a b c d e f g h x s).refBus = s.refBus := recStage_refBus _ _
@[simp] theorem recAdd_phases (a b c d e f g h : Nat) (x : Bytes) : (recAdd a b c d e f g h x s).phases = s.phases := recStage_phases _ _
@[simp] theorem recAdd_phaseNext (a b c d e f g h : Nat) (x : Bytes) : (recAdd a b c d e f g h x s).phaseNext = s.phaseNext := recStage_phaseNext _ _
@[simp] theorem recAdd_bank0 (a b c d e f g h : Nat) (x : Bytes) : (recAdd a b c d e f g h x s).bank0 = s.bank0 := recStage_bank0 _ _
@[simp] theorem recAdd_bank1 (a b c d e f g h : Nat) (x : Bytes) : (recAdd a b c d e f g h x s).bank1 = s.bank1 := recStage_bank1 _ _
@[simp] theorem recAdd_active (a b c d e f g h : Nat) (x : Bytes) : (recAdd a b c d e f g h x s).active = s.active := recStage_active _ _
@[simp] theorem recAdd_streams (a b c d e f g h : Nat) (x : Bytes) : (recAdd a b c d e f g h x s).streams = s.streams := recStage_streams _ _
@[simp] theorem recAdd_filters (a b c d e f g h : Nat) (x : Bytes) : (recAdd a b c d e f g h x s).filters = s.filters := recStage_filters _ _
@[simp] theorem recAdd_mst (a b c d e f g h : Nat) (x : Bytes) : (recAdd a b c d e f g h x s).mst = s.mst := recStage_mst _ _
@[simp] theorem recAdd_disp (a b c d e f g h : Nat) (x : Bytes) : (recAdd a b c d e f g h x s).disp = s.disp := recStage_disp _ _
@[simp] theorem recAdd_dets (a b c d e f g h : Nat) (x : Bytes) : (recAdd a b c d e f g h x s).dets = s.dets := recStage_dets _ _
@[simp] theorem recAdd_schs (a b c d e f g h : Nat) (x : Bytes) : (recAdd a b c d e f g h x s).schs = s.schs := recStage_schs _ _
@[simp] theorem recAdd_pubs (a b c d e f g h : Nat) (x : Bytes) : (recAdd a b c d e f g h x s).pubs = s.pubs := recStage_pubs _ _
@[simp] theorem recAdd_outRuns (a b c d e f g h : Nat) (x : Bytes) : (recAdd a b c d e f g h x s).outRuns = s.outRuns := recStage_outRuns _ _
@[simp] theorem recAdd_vchs (a b c d e f g h : Nat) (x : Bytes) : (recAdd a b c d e f g h x s).vchs = s.vchs := recStage_vchs _ _
@[simp] theorem recAdd_flows (a b c d e f g h : Nat) (x : Bytes) : (recAdd a b c d e f g h x s).flows = s.flows := recStage_flows _ _
@[simp] theorem recAdd_caps (a b c d e f g h : Nat) (x : Bytes) : (recAdd a b c d e f g h x s).caps = s.caps := recStage_caps _ _
@[simp] theorem recAdd_oqs (a b c d e f g h : Nat) (x : Bytes) : (recAdd a b c d e f g h x s).oqs = s.oqs := recStage_oqs _ _
@[simp] theorem recAdd_iqs (a b c d e f g h : Nat) (x : Bytes) : (recAdd a b c d e f g h x s).iqs = s.iqs := recStage_iqs _ _
@[simp] theorem recAdd_dmaPtr (a b c d e f g h : Nat) (x : Bytes) : (recAdd a b c d e f g h x s).dmaPtr = s.dmaPtr := recStage_dmaPtr _ _
@[simp] theorem recAdd_ports (a b c d e f g h : Nat) (x : Bytes) : (recAdd a b c d e f g h x s).ports = s.ports := recStage_ports _ _
@[simp] theorem recAdd_txWait (a b c d e f g h : Nat) (x : Bytes) : (recAdd a b c d e f g h x s).txWait = s.txWait := recStage_txWait _ _
@[simp] theorem recAdd_wake (a b c d e f g h : Nat) (x : Bytes) : (recAdd a b c d e f g h x s).wake = s.wake := recStage_wake _ _
@[simp] theorem recAdd_gh (a b c d e f g h : Nat) (x : Bytes) : (recAdd a b c d e f g h x s).gh = s.gh := recStage_gh _ _
@[simp] theorem recAdd_cas (a b c d e f g h : Nat) (x : Bytes) : (recAdd a b c d e f g h x s).cas = s.cas := recStage_cas _ _
@[simp] theorem recAdd_rtc (a b c d e f g h : Nat) (x : Bytes) : (recAdd a b c d e f g h x s).rtc = s.rtc := recStage_rtc _ _
@[simp] theorem recAdd_cnt (a b c d e f g h : Nat) (x : Bytes) : (recAdd a b c d e f g h x s).cnt = s.cnt := recStage_cnt _ _
@[simp] theorem recAdd_cntHost (a b c d e f g h : Nat) (x : Bytes) : (recAdd a b c d e f g h x s).cntHost = s.cntHost := recStage_cntHost _ _
@[simp] theorem recAdd_cntMgp (a b c d e f g h : Nat) (x : Bytes) : (recAdd a b c d e f g h x s).cntMgp = s.cntMgp := recStage_cntMgp _ _
@[simp] theorem recAdd_pwr (a b c d e f g h : Nat) (x : Bytes) : (recAdd a b c d e f g h x s).pwr = s.pwr := recStage_pwr _ _
@[simp] theorem recAdd_nor (a b c d e f g h : Nat) (x : Bytes) : (recAdd a b c d e f g h x s).nor = s.nor := recStage_nor _ _
@[simp] theorem recAdd_tapIr (a b c d e f g h : Nat) (x : Bytes) : (recAdd a b c d e f g h x s).tapIr = s.tapIr := recStage_tapIr _ _
@[simp] theorem recAdd_pending (a b c d e f g h : Nat) (x : Bytes) : (recAdd a b c d e f g h x s).pending = s.pending := recStage_pending _ _
@[simp] theorem recAdd_free (a b c d e f g h : Nat) (x : Bytes) : (recAdd a b c d e f g h x s).free = s.free := recStage_free _ _

/-! ### noteI -/

@[simp] theorem noteI_pins (a b : Nat) (x y : Bytes) (c d e : Nat) : (noteI a b x y c d e s).pins = s.pins := recStage_pins _ _
@[simp] theorem noteI_cmd (a b : Nat) (x y : Bytes) (c d e : Nat) : (noteI a b x y c d e s).cmd = s.cmd := recStage_cmd _ _
@[simp] theorem noteI_tb (a b : Nat) (x y : Bytes) (c d e : Nat) : (noteI a b x y c d e s).tb = s.tb := recStage_tb _ _
@[simp] theorem noteI_refBus (a b : Nat) (x y : Bytes) (c d e : Nat) : (noteI a b x y c d e s).refBus = s.refBus := recStage_refBus _ _
@[simp] theorem noteI_phases (a b : Nat) (x y : Bytes) (c d e : Nat) : (noteI a b x y c d e s).phases = s.phases := recStage_phases _ _
@[simp] theorem noteI_phaseNext (a b : Nat) (x y : Bytes) (c d e : Nat) : (noteI a b x y c d e s).phaseNext = s.phaseNext := recStage_phaseNext _ _
@[simp] theorem noteI_bank0 (a b : Nat) (x y : Bytes) (c d e : Nat) : (noteI a b x y c d e s).bank0 = s.bank0 := recStage_bank0 _ _
@[simp] theorem noteI_bank1 (a b : Nat) (x y : Bytes) (c d e : Nat) : (noteI a b x y c d e s).bank1 = s.bank1 := recStage_bank1 _ _
@[simp] theorem noteI_active (a b : Nat) (x y : Bytes) (c d e : Nat) : (noteI a b x y c d e s).active = s.active := recStage_active _ _
@[simp] theorem noteI_streams (a b : Nat) (x y : Bytes) (c d e : Nat) : (noteI a b x y c d e s).streams = s.streams := recStage_streams _ _
@[simp] theorem noteI_filters (a b : Nat) (x y : Bytes) (c d e : Nat) : (noteI a b x y c d e s).filters = s.filters := recStage_filters _ _
@[simp] theorem noteI_mst (a b : Nat) (x y : Bytes) (c d e : Nat) : (noteI a b x y c d e s).mst = s.mst := recStage_mst _ _
@[simp] theorem noteI_disp (a b : Nat) (x y : Bytes) (c d e : Nat) : (noteI a b x y c d e s).disp = s.disp := recStage_disp _ _
@[simp] theorem noteI_dets (a b : Nat) (x y : Bytes) (c d e : Nat) : (noteI a b x y c d e s).dets = s.dets := recStage_dets _ _
@[simp] theorem noteI_schs (a b : Nat) (x y : Bytes) (c d e : Nat) : (noteI a b x y c d e s).schs = s.schs := recStage_schs _ _
@[simp] theorem noteI_pubs (a b : Nat) (x y : Bytes) (c d e : Nat) : (noteI a b x y c d e s).pubs = s.pubs := recStage_pubs _ _
@[simp] theorem noteI_outRuns (a b : Nat) (x y : Bytes) (c d e : Nat) : (noteI a b x y c d e s).outRuns = s.outRuns := recStage_outRuns _ _
@[simp] theorem noteI_vchs (a b : Nat) (x y : Bytes) (c d e : Nat) : (noteI a b x y c d e s).vchs = s.vchs := recStage_vchs _ _
@[simp] theorem noteI_flows (a b : Nat) (x y : Bytes) (c d e : Nat) : (noteI a b x y c d e s).flows = s.flows := recStage_flows _ _
@[simp] theorem noteI_caps (a b : Nat) (x y : Bytes) (c d e : Nat) : (noteI a b x y c d e s).caps = s.caps := recStage_caps _ _
@[simp] theorem noteI_oqs (a b : Nat) (x y : Bytes) (c d e : Nat) : (noteI a b x y c d e s).oqs = s.oqs := recStage_oqs _ _
@[simp] theorem noteI_iqs (a b : Nat) (x y : Bytes) (c d e : Nat) : (noteI a b x y c d e s).iqs = s.iqs := recStage_iqs _ _
@[simp] theorem noteI_dmaPtr (a b : Nat) (x y : Bytes) (c d e : Nat) : (noteI a b x y c d e s).dmaPtr = s.dmaPtr := recStage_dmaPtr _ _
@[simp] theorem noteI_ports (a b : Nat) (x y : Bytes) (c d e : Nat) : (noteI a b x y c d e s).ports = s.ports := recStage_ports _ _
@[simp] theorem noteI_txWait (a b : Nat) (x y : Bytes) (c d e : Nat) : (noteI a b x y c d e s).txWait = s.txWait := recStage_txWait _ _
@[simp] theorem noteI_wake (a b : Nat) (x y : Bytes) (c d e : Nat) : (noteI a b x y c d e s).wake = s.wake := recStage_wake _ _
@[simp] theorem noteI_gh (a b : Nat) (x y : Bytes) (c d e : Nat) : (noteI a b x y c d e s).gh = s.gh := recStage_gh _ _
@[simp] theorem noteI_cas (a b : Nat) (x y : Bytes) (c d e : Nat) : (noteI a b x y c d e s).cas = s.cas := recStage_cas _ _
@[simp] theorem noteI_rtc (a b : Nat) (x y : Bytes) (c d e : Nat) : (noteI a b x y c d e s).rtc = s.rtc := recStage_rtc _ _
@[simp] theorem noteI_cnt (a b : Nat) (x y : Bytes) (c d e : Nat) : (noteI a b x y c d e s).cnt = s.cnt := recStage_cnt _ _
@[simp] theorem noteI_cntHost (a b : Nat) (x y : Bytes) (c d e : Nat) : (noteI a b x y c d e s).cntHost = s.cntHost := recStage_cntHost _ _
@[simp] theorem noteI_cntMgp (a b : Nat) (x y : Bytes) (c d e : Nat) : (noteI a b x y c d e s).cntMgp = s.cntMgp := recStage_cntMgp _ _
@[simp] theorem noteI_pwr (a b : Nat) (x y : Bytes) (c d e : Nat) : (noteI a b x y c d e s).pwr = s.pwr := recStage_pwr _ _
@[simp] theorem noteI_nor (a b : Nat) (x y : Bytes) (c d e : Nat) : (noteI a b x y c d e s).nor = s.nor := recStage_nor _ _
@[simp] theorem noteI_tapIr (a b : Nat) (x y : Bytes) (c d e : Nat) : (noteI a b x y c d e s).tapIr = s.tapIr := recStage_tapIr _ _
@[simp] theorem noteI_pending (a b : Nat) (x y : Bytes) (c d e : Nat) : (noteI a b x y c d e s).pending = s.pending := recStage_pending _ _
@[simp] theorem noteI_free (a b : Nat) (x y : Bytes) (c d e : Nat) : (noteI a b x y c d e s).free = s.free := recStage_free _ _

/-! ### note -/

@[simp] theorem note_pins (a b : Nat) (x : Bytes) (c d e : Nat) : (note a b x c d e s).pins = s.pins := recStage_pins _ _
@[simp] theorem note_cmd (a b : Nat) (x : Bytes) (c d e : Nat) : (note a b x c d e s).cmd = s.cmd := recStage_cmd _ _
@[simp] theorem note_tb (a b : Nat) (x : Bytes) (c d e : Nat) : (note a b x c d e s).tb = s.tb := recStage_tb _ _
@[simp] theorem note_refBus (a b : Nat) (x : Bytes) (c d e : Nat) : (note a b x c d e s).refBus = s.refBus := recStage_refBus _ _
@[simp] theorem note_phases (a b : Nat) (x : Bytes) (c d e : Nat) : (note a b x c d e s).phases = s.phases := recStage_phases _ _
@[simp] theorem note_phaseNext (a b : Nat) (x : Bytes) (c d e : Nat) : (note a b x c d e s).phaseNext = s.phaseNext := recStage_phaseNext _ _
@[simp] theorem note_bank0 (a b : Nat) (x : Bytes) (c d e : Nat) : (note a b x c d e s).bank0 = s.bank0 := recStage_bank0 _ _
@[simp] theorem note_bank1 (a b : Nat) (x : Bytes) (c d e : Nat) : (note a b x c d e s).bank1 = s.bank1 := recStage_bank1 _ _
@[simp] theorem note_active (a b : Nat) (x : Bytes) (c d e : Nat) : (note a b x c d e s).active = s.active := recStage_active _ _
@[simp] theorem note_streams (a b : Nat) (x : Bytes) (c d e : Nat) : (note a b x c d e s).streams = s.streams := recStage_streams _ _
@[simp] theorem note_filters (a b : Nat) (x : Bytes) (c d e : Nat) : (note a b x c d e s).filters = s.filters := recStage_filters _ _
@[simp] theorem note_mst (a b : Nat) (x : Bytes) (c d e : Nat) : (note a b x c d e s).mst = s.mst := recStage_mst _ _
@[simp] theorem note_disp (a b : Nat) (x : Bytes) (c d e : Nat) : (note a b x c d e s).disp = s.disp := recStage_disp _ _
@[simp] theorem note_dets (a b : Nat) (x : Bytes) (c d e : Nat) : (note a b x c d e s).dets = s.dets := recStage_dets _ _
@[simp] theorem note_schs (a b : Nat) (x : Bytes) (c d e : Nat) : (note a b x c d e s).schs = s.schs := recStage_schs _ _
@[simp] theorem note_pubs (a b : Nat) (x : Bytes) (c d e : Nat) : (note a b x c d e s).pubs = s.pubs := recStage_pubs _ _
@[simp] theorem note_outRuns (a b : Nat) (x : Bytes) (c d e : Nat) : (note a b x c d e s).outRuns = s.outRuns := recStage_outRuns _ _
@[simp] theorem note_vchs (a b : Nat) (x : Bytes) (c d e : Nat) : (note a b x c d e s).vchs = s.vchs := recStage_vchs _ _
@[simp] theorem note_flows (a b : Nat) (x : Bytes) (c d e : Nat) : (note a b x c d e s).flows = s.flows := recStage_flows _ _
@[simp] theorem note_caps (a b : Nat) (x : Bytes) (c d e : Nat) : (note a b x c d e s).caps = s.caps := recStage_caps _ _
@[simp] theorem note_oqs (a b : Nat) (x : Bytes) (c d e : Nat) : (note a b x c d e s).oqs = s.oqs := recStage_oqs _ _
@[simp] theorem note_iqs (a b : Nat) (x : Bytes) (c d e : Nat) : (note a b x c d e s).iqs = s.iqs := recStage_iqs _ _
@[simp] theorem note_dmaPtr (a b : Nat) (x : Bytes) (c d e : Nat) : (note a b x c d e s).dmaPtr = s.dmaPtr := recStage_dmaPtr _ _
@[simp] theorem note_ports (a b : Nat) (x : Bytes) (c d e : Nat) : (note a b x c d e s).ports = s.ports := recStage_ports _ _
@[simp] theorem note_txWait (a b : Nat) (x : Bytes) (c d e : Nat) : (note a b x c d e s).txWait = s.txWait := recStage_txWait _ _
@[simp] theorem note_wake (a b : Nat) (x : Bytes) (c d e : Nat) : (note a b x c d e s).wake = s.wake := recStage_wake _ _
@[simp] theorem note_gh (a b : Nat) (x : Bytes) (c d e : Nat) : (note a b x c d e s).gh = s.gh := recStage_gh _ _
@[simp] theorem note_cas (a b : Nat) (x : Bytes) (c d e : Nat) : (note a b x c d e s).cas = s.cas := recStage_cas _ _
@[simp] theorem note_rtc (a b : Nat) (x : Bytes) (c d e : Nat) : (note a b x c d e s).rtc = s.rtc := recStage_rtc _ _
@[simp] theorem note_cnt (a b : Nat) (x : Bytes) (c d e : Nat) : (note a b x c d e s).cnt = s.cnt := recStage_cnt _ _
@[simp] theorem note_cntHost (a b : Nat) (x : Bytes) (c d e : Nat) : (note a b x c d e s).cntHost = s.cntHost := recStage_cntHost _ _
@[simp] theorem note_cntMgp (a b : Nat) (x : Bytes) (c d e : Nat) : (note a b x c d e s).cntMgp = s.cntMgp := recStage_cntMgp _ _
@[simp] theorem note_pwr (a b : Nat) (x : Bytes) (c d e : Nat) : (note a b x c d e s).pwr = s.pwr := recStage_pwr _ _
@[simp] theorem note_nor (a b : Nat) (x : Bytes) (c d e : Nat) : (note a b x c d e s).nor = s.nor := recStage_nor _ _
@[simp] theorem note_tapIr (a b : Nat) (x : Bytes) (c d e : Nat) : (note a b x c d e s).tapIr = s.tapIr := recStage_tapIr _ _
@[simp] theorem note_pending (a b : Nat) (x : Bytes) (c d e : Nat) : (note a b x c d e s).pending = s.pending := recStage_pending _ _
@[simp] theorem note_free (a b : Nat) (x : Bytes) (c d e : Nat) : (note a b x c d e s).free = s.free := recStage_free _ _

/-! ### holdReply -/

@[simp] theorem holdReply_glb (r : Reply) (q : Bool) : (holdReply r q s).glb = s.glb := rfl
@[simp] theorem holdReply_pins (r : Reply) (q : Bool) : (holdReply r q s).pins = s.pins := rfl
@[simp] theorem holdReply_tb (r : Reply) (q : Bool) : (holdReply r q s).tb = s.tb := rfl
@[simp] theorem holdReply_refBus (r : Reply) (q : Bool) : (holdReply r q s).refBus = s.refBus := rfl
@[simp] theorem holdReply_phases (r : Reply) (q : Bool) : (holdReply r q s).phases = s.phases := rfl
@[simp] theorem holdReply_phaseNext (r : Reply) (q : Bool) : (holdReply r q s).phaseNext = s.phaseNext := rfl
@[simp] theorem holdReply_bank0 (r : Reply) (q : Bool) : (holdReply r q s).bank0 = s.bank0 := rfl
@[simp] theorem holdReply_bank1 (r : Reply) (q : Bool) : (holdReply r q s).bank1 = s.bank1 := rfl
@[simp] theorem holdReply_active (r : Reply) (q : Bool) : (holdReply r q s).active = s.active := rfl
@[simp] theorem holdReply_streams (r : Reply) (q : Bool) : (holdReply r q s).streams = s.streams := rfl
@[simp] theorem holdReply_filters (r : Reply) (q : Bool) : (holdReply r q s).filters = s.filters := rfl
@[simp] theorem holdReply_mst (r : Reply) (q : Bool) : (holdReply r q s).mst = s.mst := rfl
@[simp] theorem holdReply_disp (r : Reply) (q : Bool) : (holdReply r q s).disp = s.disp := rfl
@[simp] theorem holdReply_dets (r : Reply) (q : Bool) : (holdReply r q s).dets = s.dets := rfl
@[simp] theorem holdReply_schs (r : Reply) (q : Bool) : (holdReply r q s).schs = s.schs := rfl
@[simp] theorem holdReply_pubs (r : Reply) (q : Bool) : (holdReply r q s).pubs = s.pubs := rfl
@[simp] theorem holdReply_outRuns (r : Reply) (q : Bool) : (holdReply r q s).outRuns = s.outRuns := rfl
@[simp] theorem holdReply_vchs (r : Reply) (q : Bool) : (holdReply r q s).vchs = s.vchs := rfl
@[simp] theorem holdReply_flows (r : Reply) (q : Bool) : (holdReply r q s).flows = s.flows := rfl
@[simp] theorem holdReply_caps (r : Reply) (q : Bool) : (holdReply r q s).caps = s.caps := rfl
@[simp] theorem holdReply_oqs (r : Reply) (q : Bool) : (holdReply r q s).oqs = s.oqs := rfl
@[simp] theorem holdReply_iqs (r : Reply) (q : Bool) : (holdReply r q s).iqs = s.iqs := rfl
@[simp] theorem holdReply_dmaPtr (r : Reply) (q : Bool) : (holdReply r q s).dmaPtr = s.dmaPtr := rfl
@[simp] theorem holdReply_ports (r : Reply) (q : Bool) : (holdReply r q s).ports = s.ports := rfl
@[simp] theorem holdReply_txWait (r : Reply) (q : Bool) : (holdReply r q s).txWait = s.txWait := rfl
@[simp] theorem holdReply_wake (r : Reply) (q : Bool) : (holdReply r q s).wake = s.wake := rfl
@[simp] theorem holdReply_gh (r : Reply) (q : Bool) : (holdReply r q s).gh = s.gh := rfl
@[simp] theorem holdReply_cas (r : Reply) (q : Bool) : (holdReply r q s).cas = s.cas := rfl
@[simp] theorem holdReply_rtc (r : Reply) (q : Bool) : (holdReply r q s).rtc = s.rtc := rfl
@[simp] theorem holdReply_rcd (r : Reply) (q : Bool) : (holdReply r q s).rcd = s.rcd := rfl
@[simp] theorem holdReply_cnt (r : Reply) (q : Bool) : (holdReply r q s).cnt = s.cnt := rfl
@[simp] theorem holdReply_cntHost (r : Reply) (q : Bool) : (holdReply r q s).cntHost = s.cntHost := rfl
@[simp] theorem holdReply_cntMgp (r : Reply) (q : Bool) : (holdReply r q s).cntMgp = s.cntMgp := rfl
@[simp] theorem holdReply_pwr (r : Reply) (q : Bool) : (holdReply r q s).pwr = s.pwr := rfl
@[simp] theorem holdReply_nor (r : Reply) (q : Bool) : (holdReply r q s).nor = s.nor := rfl
@[simp] theorem holdReply_tapIr (r : Reply) (q : Bool) : (holdReply r q s).tapIr = s.tapIr := rfl
@[simp] theorem holdReply_pending (r : Reply) (q : Bool) : (holdReply r q s).pending = s.pending := rfl
@[simp] theorem holdReply_emitted (r : Reply) (q : Bool) : (holdReply r q s).emitted = s.emitted := rfl
@[simp] theorem holdReply_free (r : Reply) (q : Bool) : (holdReply r q s).free = s.free := rfl

/-! ### putHostReply -/

theorem putHostReply_only (r : Reply) (q : Bool) : putHostReply r q s = { s with cmd := (putHostReply r q s).cmd, glb := (putHostReply r q s).glb, emitted := (putHostReply r q s).emitted } := by
  unfold putHostReply; dsimp only
  repeat' split
  all_goals first | rfl | (rw [setIrq_only]; rfl) | (rw [raiseVector_only]; rfl) | (rw [raiseVector_only, setIrq_only]; rfl)

@[simp] theorem putHostReply_pins (r : Reply) (q : Bool) : (putHostReply r q s).pins = s.pins := by rw [putHostReply_only]
@[simp] theorem putHostReply_tb (r : Reply) (q : Bool) : (putHostReply r q s).tb = s.tb := by rw [putHostReply_only]
@[simp] theorem putHostReply_refBus (r : Reply) (q : Bool) : (putHostReply r q s).refBus = s.refBus := by rw [putHostReply_only]
@[simp] theorem putHostReply_phases (r : Reply) (q : Bool) : (putHostReply r q s).phases = s.phases := by rw [putHostReply_only]
@[simp] theorem putHostReply_phaseNext (r : Reply) (q : Bool) : (putHostReply r q s).phaseNext = s.phaseNext := by rw [putHostReply_only]
@[simp] theorem putHostReply_bank0 (r : Reply) (q : Bool) : (putHostReply r q s).bank0 = s.bank0 := by rw [putHostReply_only]
@[simp] theorem putHostReply_bank1 (r : Reply) (q : Bool) : (putHostReply r q s).bank1 = s.bank1 := by rw [putHostReply_only]
@[simp] theorem putHostReply_active (r : Reply) (q : Bool) : (putHostReply r q s).active = s.active := by rw [putHostReply_only]
@[simp] theorem putHostReply_streams (r : Reply) (q : Bool) : (putHostReply r q s).streams = s.streams := by rw [putHostReply_only]
@[simp] theorem putHostReply_filters (r : Reply) (q : Bool) : (putHostReply r q s).filters = s.filters := by rw [putHostReply_only]
@[simp] theorem putHostReply_mst (r : Reply) (q : Bool) : (putHostReply r q s).mst = s.mst := by rw [putHostReply_only]
@[simp] theorem putHostReply_disp (r : Reply) (q : Bool) : (putHostReply r q s).disp = s.disp := by rw [putHostReply_only]
@[simp] theorem putHostReply_dets (r : Reply) (q : Bool) : (putHostReply r q s).dets = s.dets := by rw [putHostReply_only]
@[simp] theorem putHostReply_schs (r : Reply) (q : Bool) : (putHostReply r q s).schs = s.schs := by rw [putHostReply_only]
@[simp] theorem putHostReply_pubs (r : Reply) (q : Bool) : (putHostReply r q s).pubs = s.pubs := by rw [putHostReply_only]
@[simp] theorem putHostReply_outRuns (r : Reply) (q : Bool) : (putHostReply r q s).outRuns = s.outRuns := by rw [putHostReply_only]
@[simp] theorem putHostReply_vchs (r : Reply) (q : Bool) : (putHostReply r q s).vchs = s.vchs := by rw [putHostReply_only]
@[simp] theorem putHostReply_flows (r : Reply) (q : Bool) : (putHostReply r q s).flows = s.flows := by rw [putHostReply_only]
@[simp] theorem putHostReply_caps (r : Reply) (q : Bool) : (putHostReply r q s).caps = s.caps := by rw [putHostReply_only]
@[simp] theorem putHostReply_oqs (r : Reply) (q : Bool) : (putHostReply r q s).oqs = s.oqs := by rw [putHostReply_only]
@[simp] theorem putHostReply_iqs (r : Reply) (q : Bool) : (putHostReply r q s).iqs = s.iqs := by rw [putHostReply_only]
@[simp] theorem putHostReply_dmaPtr (r : Reply) (q : Bool) : (putHostReply r q s).dmaPtr = s.dmaPtr := by rw [putHostReply_only]
@[simp] theorem putHostReply_ports (r : Reply) (q : Bool) : (putHostReply r q s).ports = s.ports := by rw [putHostReply_only]
@[simp] theorem putHostReply_txWait (r : Reply) (q : Bool) : (putHostReply r q s).txWait = s.txWait := by rw [putHostReply_only]
@[simp] theorem putHostReply_wake (r : Reply) (q : Bool) : (putHostReply r q s).wake = s.wake := by rw [putHostReply_only]
@[simp] theorem putHostReply_gh (r : Reply) (q : Bool) : (putHostReply r q s).gh = s.gh := by rw [putHostReply_only]
@[simp] theorem putHostReply_cas (r : Reply) (q : Bool) : (putHostReply r q s).cas = s.cas := by rw [putHostReply_only]
@[simp] theorem putHostReply_rtc (r : Reply) (q : Bool) : (putHostReply r q s).rtc = s.rtc := by rw [putHostReply_only]
@[simp] theorem putHostReply_rcd (r : Reply) (q : Bool) : (putHostReply r q s).rcd = s.rcd := by rw [putHostReply_only]
@[simp] theorem putHostReply_cnt (r : Reply) (q : Bool) : (putHostReply r q s).cnt = s.cnt := by rw [putHostReply_only]
@[simp] theorem putHostReply_cntHost (r : Reply) (q : Bool) : (putHostReply r q s).cntHost = s.cntHost := by rw [putHostReply_only]
@[simp] theorem putHostReply_cntMgp (r : Reply) (q : Bool) : (putHostReply r q s).cntMgp = s.cntMgp := by rw [putHostReply_only]
@[simp] theorem putHostReply_pwr (r : Reply) (q : Bool) : (putHostReply r q s).pwr = s.pwr := by rw [putHostReply_only]
@[simp] theorem putHostReply_nor (r : Reply) (q : Bool) : (putHostReply r q s).nor = s.nor := by rw [putHostReply_only]
@[simp] theorem putHostReply_tapIr (r : Reply) (q : Bool) : (putHostReply r q s).tapIr = s.tapIr := by rw [putHostReply_only]
@[simp] theorem putHostReply_pending (r : Reply) (q : Bool) : (putHostReply r q s).pending = s.pending := by rw [putHostReply_only]
@[simp] theorem putHostReply_free (r : Reply) (q : Bool) : (putHostReply r q s).free = s.free := by rw [putHostReply_only]

/-! ### postReply -/

theorem postReply_only (r : Reply) (q : Bool) : postReply r q s = { s with cmd := (postReply r q s).cmd, glb := (postReply r q s).glb, emitted := (postReply r q s).emitted, pwr := (postReply r q s).pwr } := by
  unfold postReply
  repeat' split
  all_goals first | rfl | rw [putHostReply_only]

@[simp] theorem postReply_pins (r : Reply) (q : Bool) : (postReply r q s).pins = s.pins := by rw [postReply_only]
@[simp] theorem postReply_tb (r : Reply) (q : Bool) : (postReply r q s).tb = s.tb := by rw [postReply_only]
@[simp] theorem postReply_refBus (r : Reply) (q : Bool) : (postReply r q s).refBus = s.refBus := by rw [postReply_only]
@[simp] theorem postReply_phases (r : Reply) (q : Bool) : (postReply r q s).phases = s.phases := by rw [postReply_only]
@[simp] theorem postReply_phaseNext (r : Reply) (q : Bool) : (postReply r q s).phaseNext = s.phaseNext := by rw [postReply_only]
@[simp] theorem postReply_bank0 (r : Reply) (q : Bool) : (postReply r q s).bank0 = s.bank0 := by rw [postReply_only]
@[simp] theorem postReply_bank1 (r : Reply) (q : Bool) : (postReply r q s).bank1 = s.bank1 := by rw [postReply_only]
@[simp] theorem postReply_active (r : Reply) (q : Bool) : (postReply r q s).active = s.active := by rw [postReply_only]
@[simp] theorem postReply_streams (r : Reply) (q : Bool) : (postReply r q s).streams = s.streams := by rw [postReply_only]
@[simp] theorem postReply_filters (r : Reply) (q : Bool) : (postReply r q s).filters = s.filters := by rw [postReply_only]
@[simp] theorem postReply_mst (r : Reply) (q : Bool) : (postReply r q s).mst = s.mst := by rw [postReply_only]
@[simp] theorem postReply_disp (r : Reply) (q : Bool) : (postReply r q s).disp = s.disp := by rw [postReply_only]
@[simp] theorem postReply_dets (r : Reply) (q : Bool) : (postReply r q s).dets = s.dets := by rw [postReply_only]
@[simp] theorem postReply_schs (r : Reply) (q : Bool) : (postReply r q s).schs = s.schs := by rw [postReply_only]
@[simp] theorem postReply_pubs (r : Reply) (q : Bool) : (postReply r q s).pubs = s.pubs := by rw [postReply_only]
@[simp] theorem postReply_outRuns (r : Reply) (q : Bool) : (postReply r q s).outRuns = s.outRuns := by rw [postReply_only]
@[simp] theorem postReply_vchs (r : Reply) (q : Bool) : (postReply r q s).vchs = s.vchs := by rw [postReply_only]
@[simp] theorem postReply_flows (r : Reply) (q : Bool) : (postReply r q s).flows = s.flows := by rw [postReply_only]
@[simp] theorem postReply_caps (r : Reply) (q : Bool) : (postReply r q s).caps = s.caps := by rw [postReply_only]
@[simp] theorem postReply_oqs (r : Reply) (q : Bool) : (postReply r q s).oqs = s.oqs := by rw [postReply_only]
@[simp] theorem postReply_iqs (r : Reply) (q : Bool) : (postReply r q s).iqs = s.iqs := by rw [postReply_only]
@[simp] theorem postReply_dmaPtr (r : Reply) (q : Bool) : (postReply r q s).dmaPtr = s.dmaPtr := by rw [postReply_only]
@[simp] theorem postReply_ports (r : Reply) (q : Bool) : (postReply r q s).ports = s.ports := by rw [postReply_only]
@[simp] theorem postReply_txWait (r : Reply) (q : Bool) : (postReply r q s).txWait = s.txWait := by rw [postReply_only]
@[simp] theorem postReply_wake (r : Reply) (q : Bool) : (postReply r q s).wake = s.wake := by rw [postReply_only]
@[simp] theorem postReply_gh (r : Reply) (q : Bool) : (postReply r q s).gh = s.gh := by rw [postReply_only]
@[simp] theorem postReply_cas (r : Reply) (q : Bool) : (postReply r q s).cas = s.cas := by rw [postReply_only]
@[simp] theorem postReply_rtc (r : Reply) (q : Bool) : (postReply r q s).rtc = s.rtc := by rw [postReply_only]
@[simp] theorem postReply_rcd (r : Reply) (q : Bool) : (postReply r q s).rcd = s.rcd := by rw [postReply_only]
@[simp] theorem postReply_cnt (r : Reply) (q : Bool) : (postReply r q s).cnt = s.cnt := by rw [postReply_only]
@[simp] theorem postReply_cntHost (r : Reply) (q : Bool) : (postReply r q s).cntHost = s.cntHost := by rw [postReply_only]
@[simp] theorem postReply_cntMgp (r : Reply) (q : Bool) : (postReply r q s).cntMgp = s.cntMgp := by rw [postReply_only]
@[simp] theorem postReply_nor (r : Reply) (q : Bool) : (postReply r q s).nor = s.nor := by rw [postReply_only]
@[simp] theorem postReply_tapIr (r : Reply) (q : Bool) : (postReply r q s).tapIr = s.tapIr := by rw [postReply_only]
@[simp] theorem postReply_pending (r : Reply) (q : Bool) : (postReply r q s).pending = s.pending := by rw [postReply_only]
@[simp] theorem postReply_free (r : Reply) (q : Bool) : (postReply r q s).free = s.free := by rw [postReply_only]

/-! ### finalReply -/

@[simp] theorem finalReply_pins (w : Waiter) (st : Nat) : (finalReply w st s).pins = s.pins := postReply_pins _ _ _
@[simp] theorem finalReply_tb (w : Waiter) (st : Nat) : (finalReply w st s).tb = s.tb := postReply_tb _ _ _
@[simp] theorem finalReply_refBus (w : Waiter) (st : Nat) : (finalReply w st s).refBus = s.refBus := postReply_refBus _ _ _
@[simp] theorem finalReply_phases (w : Waiter) (st : Nat) : (finalReply w st s).phases = s.phases := postReply_phases _ _ _
@[simp] theorem finalReply_phaseNext (w : Waiter) (st : Nat) : (finalReply w st s).phaseNext = s.phaseNext := postReply_phaseNext _ _ _
@[simp] theorem finalReply_bank0 (w : Waiter) (st : Nat) : (finalReply w st s).bank0 = s.bank0 := postReply_bank0 _ _ _
@[simp] theorem finalReply_bank1 (w : Waiter) (st : Nat) : (finalReply w st s).bank1 = s.bank1 := postReply_bank1 _ _ _
@[simp] theorem finalReply_active (w : Waiter) (st : Nat) : (finalReply w st s).active = s.active := postReply_active _ _ _
@[simp] theorem finalReply_streams (w : Waiter) (st : Nat) : (finalReply w st s).streams = s.streams := postReply_streams _ _ _
@[simp] theorem finalReply_filters (w : Waiter) (st : Nat) : (finalReply w st s).filters = s.filters := postReply_filters _ _ _
@[simp] theorem finalReply_mst (w : Waiter) (st : Nat) : (finalReply w st s).mst = s.mst := postReply_mst _ _ _
@[simp] theorem finalReply_disp (w : Waiter) (st : Nat) : (finalReply w st s).disp = s.disp := postReply_disp _ _ _
@[simp] theorem finalReply_dets (w : Waiter) (st : Nat) : (finalReply w st s).dets = s.dets := postReply_dets _ _ _
@[simp] theorem finalReply_schs (w : Waiter) (st : Nat) : (finalReply w st s).schs = s.schs := postReply_schs _ _ _
@[simp] theorem finalReply_pubs (w : Waiter) (st : Nat) : (finalReply w st s).pubs = s.pubs := postReply_pubs _ _ _
@[simp] theorem finalReply_outRuns (w : Waiter) (st : Nat) : (finalReply w st s).outRuns = s.outRuns := postReply_outRuns _ _ _
@[simp] theorem finalReply_vchs (w : Waiter) (st : Nat) : (finalReply w st s).vchs = s.vchs := postReply_vchs _ _ _
@[simp] theorem finalReply_flows (w : Waiter) (st : Nat) : (finalReply w st s).flows = s.flows := postReply_flows _ _ _
@[simp] theorem finalReply_caps (w : Waiter) (st : Nat) : (finalReply w st s).caps = s.caps := postReply_caps _ _ _
@[simp] theorem finalReply_oqs (w : Waiter) (st : Nat) : (finalReply w st s).oqs = s.oqs := postReply_oqs _ _ _
@[simp] theorem finalReply_iqs (w : Waiter) (st : Nat) : (finalReply w st s).iqs = s.iqs := postReply_iqs _ _ _
@[simp] theorem finalReply_dmaPtr (w : Waiter) (st : Nat) : (finalReply w st s).dmaPtr = s.dmaPtr := postReply_dmaPtr _ _ _
@[simp] theorem finalReply_ports (w : Waiter) (st : Nat) : (finalReply w st s).ports = s.ports := postReply_ports _ _ _
@[simp] theorem finalReply_txWait (w : Waiter) (st : Nat) : (finalReply w st s).txWait = s.txWait := postReply_txWait _ _ _
@[simp] theorem finalReply_wake (w : Waiter) (st : Nat) : (finalReply w st s).wake = s.wake := postReply_wake _ _ _
@[simp] theorem finalReply_gh (w : Waiter) (st : Nat) : (finalReply w st s).gh = s.gh := postReply_gh _ _ _
@[simp] theorem finalReply_cas (w : Waiter) (st : Nat) : (finalReply w st s).cas = s.cas := postReply_cas _ _ _
@[simp] theorem finalReply_rtc (w : Waiter) (st : Nat) : (finalReply w st s).rtc = s.rtc := postReply_rtc _ _ _
@[simp] theorem finalReply_rcd (w : Waiter) (st : Nat) : (finalReply w st s).rcd = s.rcd := postReply_rcd _ _ _
@[simp] theorem finalReply_cnt (w : Waiter) (st : Nat) : (finalReply w st s).cnt = s.cnt := postReply_cnt _ _ _
@[simp] theorem finalReply_cntHost (w : Waiter) (st : Nat) : (finalReply w st s).cntHost = s.cntHost := postReply_cntHost _ _ _
@[simp] theorem finalReply_cntMgp (w : Waiter) (st : Nat) : (finalReply w st s).cntMgp = s.cntMgp := postReply_cntMgp _ _ _
@[simp] theorem finalReply_nor (w : Waiter) (st : Nat) : (finalReply w st s).nor = s.nor := postReply_nor _ _ _
@[simp] theorem finalReply_tapIr (w : Waiter) (st : Nat) : (finalReply w st s).tapIr = s.tapIr := postReply_tapIr _ _ _
@[simp] theorem finalReply_pending (w : Waiter) (st : Nat) : (finalReply w st s).pending = s.pending := postReply_pending _ _ _
@[simp] theorem finalReply_free (w : Waiter) (st : Nat) : (finalReply w st s).free = s.free := postReply_free _ _ _

/-! ### setActive -/

theorem setActive_only (b : Bank) : setActive b s = { s with bank0 := (setActive b s).bank0, bank1 := (setActive b s).bank1 } := by unfold setActive; split <;> rfl

@[simp] theorem setActive_glb (b : Bank) : (setActive b s).glb = s.glb := by rw [setActive_only]
@[simp] theorem setActive_pins (b : Bank) : (setActive b s).pins = s.pins := by rw [setActive_only]
@[simp] theorem setActive_cmd (b : Bank) : (setActive b s).cmd = s.cmd := by rw [setActive_only]
@[simp] theorem setActive_tb (b : Bank) : (setActive b s).tb = s.tb := by rw [setActive_only]
@[simp] theorem setActive_refBus (b : Bank) : (setActive b s).refBus = s.refBus := by rw [setActive_only]
@[simp] theorem setActive_phases (b : Bank) : (setActive b s).phases = s.phases := by rw [setActive_only]
@[simp] theorem setActive_phaseNext (b : Bank) : (setActive b s).phaseNext = s.phaseNext := by rw [setActive_only]
@[simp] theorem setActive_active (b : Bank) : (setActive b s).active = s.active := by rw [setActive_only]
@[simp] theorem setActive_streams (b : Bank) : (setActive b s).streams = s.streams := by rw [setActive_only]
@[simp] theorem setActive_filters (b : Bank) : (setActive b s).filters = s.filters := by rw [setActive_only]
@[simp] theorem setActive_mst (b : Bank) : (setActive b s).mst = s.mst := by rw [setActive_only]
@[simp] theorem setActive_disp (b : Bank) : (setActive b s).disp = s.disp := by rw [setActive_only]
@[simp] theorem setActive_dets (b : Bank) : (setActive b s).dets = s.dets := by rw [setActive_only]
@[simp] theorem setActive_schs (b : Bank) : (setActive b s).schs = s.schs := by rw [setActive_only]
@[simp] theorem setActive_pubs (b : Bank) : (setActive b s).pubs = s.pubs := by rw [setActive_only]
@[simp] theorem setActive_outRuns (b : Bank) : (setActive b s).outRuns = s.outRuns := by rw [setActive_only]
@[simp] theorem setActive_vchs (b : Bank) : (setActive b s).vchs = s.vchs := by rw [setActive_only]
@[simp] theorem setActive_flows (b : Bank) : (setActive b s).flows = s.flows := by rw [setActive_only]
@[simp] theorem setActive_caps (b : Bank) : (setActive b s).caps = s.caps := by rw [setActive_only]
@[simp] theorem setActive_oqs (b : Bank) : (setActive b s).oqs = s.oqs := by rw [setActive_only]
@[simp] theorem setActive_iqs (b : Bank) : (setActive b s).iqs = s.iqs := by rw [setActive_only]
@[simp] theorem setActive_dmaPtr (b : Bank) : (setActive b s).dmaPtr = s.dmaPtr := by rw [setActive_only]
@[simp] theorem setActive_ports (b : Bank) : (setActive b s).ports = s.ports := by rw [setActive_only]
@[simp] theorem setActive_txWait (b : Bank) : (setActive b s).txWait = s.txWait := by rw [setActive_only]
@[simp] theorem setActive_wake (b : Bank) : (setActive b s).wake = s.wake := by rw [setActive_only]
@[simp] theorem setActive_gh (b : Bank) : (setActive b s).gh = s.gh := by rw [setActive_only]
@[simp] theorem setActive_cas (b : Bank) : (setActive b s).cas = s.cas := by rw [setActive_only]
@[simp] theorem setActive_rtc (b : Bank) : (setActive b s).rtc = s.rtc := by rw [setActive_only]
@[simp] theorem setActive_rcd (b : Bank) : (setActive b s).rcd = s.rcd := by rw [setActive_only]
@[simp] theorem setActive_cnt (b : Bank) : (setActive b s).cnt = s.cnt := by rw [setActive_only]
@[simp] theorem setActive_cntHost (b : Bank) : (setActive b s).cntHost = s.cntHost := by rw [setActive_only]
@[simp] theorem setActive_cntMgp (b : Bank) : (setActive b s).cntMgp = s.cntMgp := by rw [setActive_only]
@[simp] theorem setActive_pwr (b : Bank) : (setActive b s).pwr = s.pwr := by rw [setActive_only]
@[simp] theorem setActive_nor (b : Bank) : (setActive b s).nor = s.nor := by rw [setActive_only]
@[simp] theorem setActive_tapIr (b : Bank) : (setActive b s).tapIr = s.tapIr := by rw [setActive_only]
@[simp] theorem setActive_pending (b : Bank) : (setActive b s).pending = s.pending := by rw [setActive_only]
@[simp] theorem setActive_emitted (b : Bank) : (setActive b s).emitted = s.emitted := by rw [setActive_only]
@[simp] theorem setActive_free (b : Bank) : (setActive b s).free = s.free := by rw [setActive_only]

/-! ### setInactive -/

theorem setInactive_only (b : Bank) : setInactive b s = { s with bank0 := (setInactive b s).bank0, bank1 := (setInactive b s).bank1 } := by unfold setInactive; split <;> rfl

@[simp] theorem setInactive_glb (b : Bank) : (setInactive b s).glb = s.glb := by rw [setInactive_only]
@[simp] theorem setInactive_pins (b : Bank) : (setInactive b s).pins = s.pins := by rw [setInactive_only]
@[simp] theorem setInactive_cmd (b : Bank) : (setInactive b s).cmd = s.cmd := by rw [setInactive_only]
@[simp] theorem setInactive_tb (b : Bank) : (setInactive b s).tb = s.tb := by rw [setInactive_only]
@[simp] theorem setInactive_refBus (b : Bank) : (setInactive b s).refBus = s.refBus := by rw [setInactive_only]
@[simp] theorem setInactive_phases (b : Bank) : (setInactive b s).phases = s.phases := by rw [setInactive_only]
@[simp] theorem setInactive_phaseNext (b : Bank) : (setInactive b s).phaseNext = s.phaseNext := by rw [setInactive_only]
@[simp] theorem setInactive_active (b : Bank) : (setInactive b s).active = s.active := by rw [setInactive_only]
@[simp] theorem setInactive_streams (b : Bank) : (setInactive b s).streams = s.streams := by rw [setInactive_only]
@[simp] theorem setInactive_filters (b : Bank) : (setInactive b s).filters = s.filters := by rw [setInactive_only]
@[simp] theorem setInactive_mst (b : Bank) : (setInactive b s).mst = s.mst := by rw [setInactive_only]
@[simp] theorem setInactive_disp (b : Bank) : (setInactive b s).disp = s.disp := by rw [setInactive_only]
@[simp] theorem setInactive_dets (b : Bank) : (setInactive b s).dets = s.dets := by rw [setInactive_only]
@[simp] theorem setInactive_schs (b : Bank) : (setInactive b s).schs = s.schs := by rw [setInactive_only]
@[simp] theorem setInactive_pubs (b : Bank) : (setInactive b s).pubs = s.pubs := by rw [setInactive_only]
@[simp] theorem setInactive_outRuns (b : Bank) : (setInactive b s).outRuns = s.outRuns := by rw [setInactive_only]
@[simp] theorem setInactive_vchs (b : Bank) : (setInactive b s).vchs = s.vchs := by rw [setInactive_only]
@[simp] theorem setInactive_flows (b : Bank) : (setInactive b s).flows = s.flows := by rw [setInactive_only]
@[simp] theorem setInactive_caps (b : Bank) : (setInactive b s).caps = s.caps := by rw [setInactive_only]
@[simp] theorem setInactive_oqs (b : Bank) : (setInactive b s).oqs = s.oqs := by rw [setInactive_only]
@[simp] theorem setInactive_iqs (b : Bank) : (setInactive b s).iqs = s.iqs := by rw [setInactive_only]
@[simp] theorem setInactive_dmaPtr (b : Bank) : (setInactive b s).dmaPtr = s.dmaPtr := by rw [setInactive_only]
@[simp] theorem setInactive_ports (b : Bank) : (setInactive b s).ports = s.ports := by rw [setInactive_only]
@[simp] theorem setInactive_txWait (b : Bank) : (setInactive b s).txWait = s.txWait := by rw [setInactive_only]
@[simp] theorem setInactive_wake (b : Bank) : (setInactive b s).wake = s.wake := by rw [setInactive_only]
@[simp] theorem setInactive_gh (b : Bank) : (setInactive b s).gh = s.gh := by rw [setInactive_only]
@[simp] theorem setInactive_cas (b : Bank) : (setInactive b s).cas = s.cas := by rw [setInactive_only]
@[simp] theorem setInactive_rtc (b : Bank) : (setInactive b s).rtc = s.rtc := by rw [setInactive_only]
@[simp] theorem setInactive_rcd (b : Bank) : (setInactive b s).rcd = s.rcd := by rw [setInactive_only]
@[simp] theorem setInactive_cnt (b : Bank) : (setInactive b s).cnt = s.cnt := by rw [setInactive_only]
@[simp] theorem setInactive_cntHost (b : Bank) : (setInactive b s).cntHost = s.cntHost := by rw [setInactive_only]
@[simp] theorem setInactive_cntMgp (b : Bank) : (setInactive b s).cntMgp = s.cntMgp := by rw [setInactive_only]
@[simp] theorem setInactive_pwr (b : Bank) : (setInactive b s).pwr = s.pwr := by rw [setInactive_only]
@[simp] theorem setInactive_nor (b : Bank) : (setInactive b s).nor = s.nor := by rw [setInactive_only]
@[simp] theorem setInactive_tapIr (b : Bank) : (setInactive b s).tapIr = s.tapIr := by rw [setInactive_only]
@[simp] theorem setInactive_pending (b : Bank) : (setInactive b s).pending = s.pending := by rw [setInactive_only]
@[simp] theorem setInactive_emitted (b : Bank) : (setInactive b s).emitted = s.emitted := by rw [setInactive_only]
@[simp] theorem setInactive_free (b : Bank) : (setInactive b s).free = s.free := by rw [setInactive_only]

/-! ### setOq -/

@[simp] theorem setOq_glb (n : Nat) (q : Oq) : (setOq n q s).glb = s.glb := rfl
@[simp] theorem setOq_pins (n : Nat) (q : Oq) : (setOq n q s).pins = s.pins := rfl
@[simp] theorem setOq_cmd (n : Nat) (q : Oq) : (setOq n q s).cmd = s.cmd := rfl
@[simp] theorem setOq_tb (n : Nat) (q : Oq) : (setOq n q s).tb = s.tb := rfl
@[simp] theorem setOq_refBus (n : Nat) (q : Oq) : (setOq n q s).refBus = s.refBus := rfl
@[simp] theorem setOq_phases (n : Nat) (q : Oq) : (setOq n q s).phases = s.phases := rfl
@[simp] theorem setOq_phaseNext (n : Nat) (q : Oq) : (setOq n q s).phaseNext = s.phaseNext := rfl
@[simp] theorem setOq_bank0 (n : Nat) (q : Oq) : (setOq n q s).bank0 = s.bank0 := rfl
@[simp] theorem setOq_bank1 (n : Nat) (q : Oq) : (setOq n q s).bank1 = s.bank1 := rfl
@[simp] theorem setOq_active (n : Nat) (q : Oq) : (setOq n q s).active = s.active := rfl
@[simp] theorem setOq_streams (n : Nat) (q : Oq) : (setOq n q s).streams = s.streams := rfl
@[simp] theorem setOq_filters (n : Nat) (q : Oq) : (setOq n q s).filters = s.filters := rfl
@[simp] theorem setOq_mst (n : Nat) (q : Oq) : (setOq n q s).mst = s.mst := rfl
@[simp] theorem setOq_disp (n : Nat) (q : Oq) : (setOq n q s).disp = s.disp := rfl
@[simp] theorem setOq_dets (n : Nat) (q : Oq) : (setOq n q s).dets = s.dets := rfl
@[simp] theorem setOq_schs (n : Nat) (q : Oq) : (setOq n q s).schs = s.schs := rfl
@[simp] theorem setOq_pubs (n : Nat) (q : Oq) : (setOq n q s).pubs = s.pubs := rfl
@[simp] theorem setOq_outRuns (n : Nat) (q : Oq) : (setOq n q s).outRuns = s.outRuns := rfl
@[simp] theorem setOq_vchs (n : Nat) (q : Oq) : (setOq n q s).vchs = s.vchs := rfl
@[simp] theorem setOq_flows (n : Nat) (q : Oq) : (setOq n q s).flows = s.flows := rfl
@[simp] theorem setOq_caps (n : Nat) (q : Oq) : (setOq n q s).caps = s.caps := rfl
@[simp] theorem setOq_iqs (n : Nat) (q : Oq) : (setOq n q s).iqs = s.iqs := rfl
@[simp] theorem setOq_dmaPtr (n : Nat) (q : Oq) : (setOq n q s).dmaPtr = s.dmaPtr := rfl
@[simp] theorem setOq_ports (n : Nat) (q : Oq) : (setOq n q s).ports = s.ports := rfl
@[simp] theorem setOq_txWait (n : Nat) (q : Oq) : (setOq n q s).txWait = s.txWait := rfl
@[simp] theorem setOq_wake (n : Nat) (q : Oq) : (setOq n q s).wake = s.wake := rfl
@[simp] theorem setOq_gh (n : Nat) (q : Oq) : (setOq n q s).gh = s.gh := rfl
@[simp] theorem setOq_cas (n : Nat) (q : Oq) : (setOq n q s).cas = s.cas := rfl
@[simp] theorem setOq_rtc (n : Nat) (q : Oq) : (setOq n q s).rtc = s.rtc := rfl
@[simp] theorem setOq_rcd (n : Nat) (q : Oq) : (setOq n q s).rcd = s.rcd := rfl
@[simp] theorem setOq_cnt (n : Nat) (q : Oq) : (setOq n q s).cnt = s.cnt := rfl
@[simp] theorem setOq_cntHost (n : Nat) (q : Oq) : (setOq n q s).cntHost = s.cntHost := rfl
@[simp] theorem setOq_cntMgp (n : Nat) (q : Oq) : (setOq n q s).cntMgp = s.cntMgp := rfl
@[simp] theorem setOq_pwr (n : Nat) (q : Oq) : (setOq n q s).pwr = s.pwr := rfl
@[simp] theorem setOq_nor (n : Nat) (q : Oq) : (setOq n q s).nor = s.nor := rfl
@[simp] theorem setOq_tapIr (n : Nat) (q : Oq) : (setOq n q s).tapIr = s.tapIr := rfl
@[simp] theorem setOq_pending (n : Nat) (q : Oq) : (setOq n q s).pending = s.pending := rfl
@[simp] theorem setOq_emitted (n : Nat) (q : Oq) : (setOq n q s).emitted = s.emitted := rfl
@[simp] theorem setOq_free (n : Nat) (q : Oq) : (setOq n q s).free = s.free := rfl

/-! ### setIq -/

@[simp] theorem setIq_glb (n : Nat) (q : Iq) : (setIq n q s).glb = s.glb := rfl
@[simp] theorem setIq_pins (n : Nat) (q : Iq) : (setIq n q s).pins = s.pins := rfl
@[simp] theorem setIq_cmd (n : Nat) (q : Iq) : (setIq n q s).cmd = s.cmd := rfl
@[simp] theorem setIq_tb (n : Nat) (q : Iq) : (setIq n q s).tb = s.tb := rfl
@[simp] theorem setIq_refBus (n : Nat) (q : Iq) : (setIq n q s).refBus = s.refBus := rfl
@[simp] theorem setIq_phases (n : Nat) (q : Iq) : (setIq n q s).phases = s.phases := rfl
@[simp] theorem setIq_phaseNext (n : Nat) (q : Iq) : (setIq n q s).phaseNext = s.phaseNext := rfl
@[simp] theorem setIq_bank0 (n : Nat) (q : Iq) : (setIq n q s).bank0 = s.bank0 := rfl
@[simp] theorem setIq_bank1 (n : Nat) (q : Iq) : (setIq n q s).bank1 = s.bank1 := rfl
@[simp] theorem setIq_active (n : Nat) (q : Iq) : (setIq n q s).active = s.active := rfl
@[simp] theorem setIq_streams (n : Nat) (q : Iq) : (setIq n q s).streams = s.streams := rfl
@[simp] theorem setIq_filters (n : Nat) (q : Iq) : (setIq n q s).filters = s.filters := rfl
@[simp] theorem setIq_mst (n : Nat) (q : Iq) : (setIq n q s).mst = s.mst := rfl
@[simp] theorem setIq_disp (n : Nat) (q : Iq) : (setIq n q s).disp = s.disp := rfl
@[simp] theorem setIq_dets (n : Nat) (q : Iq) : (setIq n q s).dets = s.dets := rfl
@[simp] theorem setIq_schs (n : Nat) (q : Iq) : (setIq n q s).schs = s.schs := rfl
@[simp] theorem setIq_pubs (n : Nat) (q : Iq) : (setIq n q s).pubs = s.pubs := rfl
@[simp] theorem setIq_outRuns (n : Nat) (q : Iq) : (setIq n q s).outRuns = s.outRuns := rfl
@[simp] theorem setIq_vchs (n : Nat) (q : Iq) : (setIq n q s).vchs = s.vchs := rfl
@[simp] theorem setIq_flows (n : Nat) (q : Iq) : (setIq n q s).flows = s.flows := rfl
@[simp] theorem setIq_caps (n : Nat) (q : Iq) : (setIq n q s).caps = s.caps := rfl
@[simp] theorem setIq_oqs (n : Nat) (q : Iq) : (setIq n q s).oqs = s.oqs := rfl
@[simp] theorem setIq_dmaPtr (n : Nat) (q : Iq) : (setIq n q s).dmaPtr = s.dmaPtr := rfl
@[simp] theorem setIq_ports (n : Nat) (q : Iq) : (setIq n q s).ports = s.ports := rfl
@[simp] theorem setIq_txWait (n : Nat) (q : Iq) : (setIq n q s).txWait = s.txWait := rfl
@[simp] theorem setIq_wake (n : Nat) (q : Iq) : (setIq n q s).wake = s.wake := rfl
@[simp] theorem setIq_gh (n : Nat) (q : Iq) : (setIq n q s).gh = s.gh := rfl
@[simp] theorem setIq_cas (n : Nat) (q : Iq) : (setIq n q s).cas = s.cas := rfl
@[simp] theorem setIq_rtc (n : Nat) (q : Iq) : (setIq n q s).rtc = s.rtc := rfl
@[simp] theorem setIq_rcd (n : Nat) (q : Iq) : (setIq n q s).rcd = s.rcd := rfl
@[simp] theorem setIq_cnt (n : Nat) (q : Iq) : (setIq n q s).cnt = s.cnt := rfl
@[simp] theorem setIq_cntHost (n : Nat) (q : Iq) : (setIq n q s).cntHost = s.cntHost := rfl
@[simp] theorem setIq_cntMgp (n : Nat) (q : Iq) : (setIq n q s).cntMgp = s.cntMgp := rfl
@[simp] theorem setIq_pwr (n : Nat) (q : Iq) : (setIq n q s).pwr = s.pwr := rfl
@[simp] theorem setIq_nor (n : Nat) (q : Iq) : (setIq n q s).nor = s.nor := rfl
@[simp] theorem setIq_tapIr (n : Nat) (q : Iq) : (setIq n q s).tapIr = s.tapIr := rfl
@[simp] theorem setIq_pending (n : Nat) (q : Iq) : (setIq n q s).pending = s.pending := rfl
@[simp] theorem setIq_emitted (n : Nat) (q : Iq) : (setIq n q s).emitted = s.emitted := rfl
@[simp] theorem setIq_free (n : Nat) (q : Iq) : (setIq n q s).free = s.free := rfl

/-! ### oqVector -/

@[simp] theorem oqVector_pins (n : Nat) : (oqVector n s).pins = s.pins := (raiseVector_pins _ _)
@[simp] theorem oqVector_cmd (n : Nat) : (oqVector n s).cmd = s.cmd := (raiseVector_cmd _ _)
@[simp] theorem oqVector_tb (n : Nat) : (oqVector n s).tb = s.tb := (raiseVector_tb _ _)
@[simp] theorem oqVector_refBus (n : Nat) : (oqVector n s).refBus = s.refBus := (raiseVector_refBus _ _)
@[simp] theorem oqVector_phases (n : Nat) : (oqVector n s).phases = s.phases := (raiseVector_phases _ _)
@[simp] theorem oqVector_phaseNext (n : Nat) : (oqVector n s).phaseNext = s.phaseNext := (raiseVector_phaseNext _ _)
@[simp] theorem oqVector_bank0 (n : Nat) : (oqVector n s).bank0 = s.bank0 := (raiseVector_bank0 _ _)
@[simp] theorem oqVector_bank1 (n : Nat) : (oqVector n s).bank1 = s.bank1 := (raiseVector_bank1 _ _)
@[simp] theorem oqVector_active (n : Nat) : (oqVector n s).active = s.active := (raiseVector_active _ _)
@[simp] theorem oqVector_streams (n : Nat) : (oqVector n s).streams = s.streams := (raiseVector_streams _ _)
@[simp] theorem oqVector_filters (n : Nat) : (oqVector n s).filters = s.filters := (raiseVector_filters _ _)
@[simp] theorem oqVector_mst (n : Nat) : (oqVector n s).mst = s.mst := (raiseVector_mst _ _)
@[simp] theorem oqVector_disp (n : Nat) : (oqVector n s).disp = s.disp := (raiseVector_disp _ _)
@[simp] theorem oqVector_dets (n : Nat) : (oqVector n s).dets = s.dets := (raiseVector_dets _ _)
@[simp] theorem oqVector_schs (n : Nat) : (oqVector n s).schs = s.schs := (raiseVector_schs _ _)
@[simp] theorem oqVector_pubs (n : Nat) : (oqVector n s).pubs = s.pubs := (raiseVector_pubs _ _)
@[simp] theorem oqVector_outRuns (n : Nat) : (oqVector n s).outRuns = s.outRuns := (raiseVector_outRuns _ _)
@[simp] theorem oqVector_vchs (n : Nat) : (oqVector n s).vchs = s.vchs := (raiseVector_vchs _ _)
@[simp] theorem oqVector_flows (n : Nat) : (oqVector n s).flows = s.flows := (raiseVector_flows _ _)
@[simp] theorem oqVector_caps (n : Nat) : (oqVector n s).caps = s.caps := (raiseVector_caps _ _)
@[simp] theorem oqVector_iqs (n : Nat) : (oqVector n s).iqs = s.iqs := (raiseVector_iqs _ _)
@[simp] theorem oqVector_dmaPtr (n : Nat) : (oqVector n s).dmaPtr = s.dmaPtr := (raiseVector_dmaPtr _ _)
@[simp] theorem oqVector_ports (n : Nat) : (oqVector n s).ports = s.ports := (raiseVector_ports _ _)
@[simp] theorem oqVector_txWait (n : Nat) : (oqVector n s).txWait = s.txWait := (raiseVector_txWait _ _)
@[simp] theorem oqVector_wake (n : Nat) : (oqVector n s).wake = s.wake := (raiseVector_wake _ _)
@[simp] theorem oqVector_gh (n : Nat) : (oqVector n s).gh = s.gh := (raiseVector_gh _ _)
@[simp] theorem oqVector_cas (n : Nat) : (oqVector n s).cas = s.cas := (raiseVector_cas _ _)
@[simp] theorem oqVector_rtc (n : Nat) : (oqVector n s).rtc = s.rtc := (raiseVector_rtc _ _)
@[simp] theorem oqVector_rcd (n : Nat) : (oqVector n s).rcd = s.rcd := (raiseVector_rcd _ _)
@[simp] theorem oqVector_cnt (n : Nat) : (oqVector n s).cnt = s.cnt := (raiseVector_cnt _ _)
@[simp] theorem oqVector_cntHost (n : Nat) : (oqVector n s).cntHost = s.cntHost := (raiseVector_cntHost _ _)
@[simp] theorem oqVector_cntMgp (n : Nat) : (oqVector n s).cntMgp = s.cntMgp := (raiseVector_cntMgp _ _)
@[simp] theorem oqVector_pwr (n : Nat) : (oqVector n s).pwr = s.pwr := (raiseVector_pwr _ _)
@[simp] theorem oqVector_nor (n : Nat) : (oqVector n s).nor = s.nor := (raiseVector_nor _ _)
@[simp] theorem oqVector_tapIr (n : Nat) : (oqVector n s).tapIr = s.tapIr := (raiseVector_tapIr _ _)
@[simp] theorem oqVector_pending (n : Nat) : (oqVector n s).pending = s.pending := (raiseVector_pending _ _)
@[simp] theorem oqVector_free (n : Nat) : (oqVector n s).free = s.free := (raiseVector_free _ _)

/-! ### oqDrop -/

@[simp] theorem oqDrop_glb (n c k : Nat) : (oqDrop n c k s).glb = s.glb := rfl
@[simp] theorem oqDrop_pins (n c k : Nat) : (oqDrop n c k s).pins = s.pins := rfl
@[simp] theorem oqDrop_cmd (n c k : Nat) : (oqDrop n c k s).cmd = s.cmd := rfl
@[simp] theorem oqDrop_tb (n c k : Nat) : (oqDrop n c k s).tb = s.tb := rfl
@[simp] theorem oqDrop_refBus (n c k : Nat) : (oqDrop n c k s).refBus = s.refBus := rfl
@[simp] theorem oqDrop_phases (n c k : Nat) : (oqDrop n c k s).phases = s.phases := rfl
@[simp] theorem oqDrop_phaseNext (n c k : Nat) : (oqDrop n c k s).phaseNext = s.phaseNext := rfl
@[simp] theorem oqDrop_bank0 (n c k : Nat) : (oqDrop n c k s).bank0 = s.bank0 := rfl
@[simp] theorem oqDrop_bank1 (n c k : Nat) : (oqDrop n c k s).bank1 = s.bank1 := rfl
@[simp] theorem oqDrop_active (n c k : Nat) : (oqDrop n c k s).active = s.active := rfl
@[simp] theorem oqDrop_streams (n c k : Nat) : (oqDrop n c k s).streams = s.streams := rfl
@[simp] theorem oqDrop_filters (n c k : Nat) : (oqDrop n c k s).filters = s.filters := rfl
@[simp] theorem oqDrop_mst (n c k : Nat) : (oqDrop n c k s).mst = s.mst := rfl
@[simp] theorem oqDrop_disp (n c k : Nat) : (oqDrop n c k s).disp = s.disp := rfl
@[simp] theorem oqDrop_dets (n c k : Nat) : (oqDrop n c k s).dets = s.dets := rfl
@[simp] theorem oqDrop_schs (n c k : Nat) : (oqDrop n c k s).schs = s.schs := rfl
@[simp] theorem oqDrop_pubs (n c k : Nat) : (oqDrop n c k s).pubs = s.pubs := rfl
@[simp] theorem oqDrop_outRuns (n c k : Nat) : (oqDrop n c k s).outRuns = s.outRuns := rfl
@[simp] theorem oqDrop_vchs (n c k : Nat) : (oqDrop n c k s).vchs = s.vchs := rfl
@[simp] theorem oqDrop_flows (n c k : Nat) : (oqDrop n c k s).flows = s.flows := rfl
@[simp] theorem oqDrop_caps (n c k : Nat) : (oqDrop n c k s).caps = s.caps := rfl
@[simp] theorem oqDrop_iqs (n c k : Nat) : (oqDrop n c k s).iqs = s.iqs := rfl
@[simp] theorem oqDrop_dmaPtr (n c k : Nat) : (oqDrop n c k s).dmaPtr = s.dmaPtr := rfl
@[simp] theorem oqDrop_ports (n c k : Nat) : (oqDrop n c k s).ports = s.ports := rfl
@[simp] theorem oqDrop_txWait (n c k : Nat) : (oqDrop n c k s).txWait = s.txWait := rfl
@[simp] theorem oqDrop_wake (n c k : Nat) : (oqDrop n c k s).wake = s.wake := rfl
@[simp] theorem oqDrop_gh (n c k : Nat) : (oqDrop n c k s).gh = s.gh := rfl
@[simp] theorem oqDrop_cas (n c k : Nat) : (oqDrop n c k s).cas = s.cas := rfl
@[simp] theorem oqDrop_rtc (n c k : Nat) : (oqDrop n c k s).rtc = s.rtc := rfl
@[simp] theorem oqDrop_rcd (n c k : Nat) : (oqDrop n c k s).rcd = s.rcd := rfl
@[simp] theorem oqDrop_cntHost (n c k : Nat) : (oqDrop n c k s).cntHost = s.cntHost := rfl
@[simp] theorem oqDrop_cntMgp (n c k : Nat) : (oqDrop n c k s).cntMgp = s.cntMgp := rfl
@[simp] theorem oqDrop_pwr (n c k : Nat) : (oqDrop n c k s).pwr = s.pwr := rfl
@[simp] theorem oqDrop_nor (n c k : Nat) : (oqDrop n c k s).nor = s.nor := rfl
@[simp] theorem oqDrop_tapIr (n c k : Nat) : (oqDrop n c k s).tapIr = s.tapIr := rfl
@[simp] theorem oqDrop_pending (n c k : Nat) : (oqDrop n c k s).pending = s.pending := rfl
@[simp] theorem oqDrop_emitted (n c k : Nat) : (oqDrop n c k s).emitted = s.emitted := rfl
@[simp] theorem oqDrop_free (n c k : Nat) : (oqDrop n c k s).free = s.free := rfl

/-! ### netIrq -/

@[simp] theorem netIrq_pins (p b : Nat) : (netIrq p b s).pins = s.pins := (raiseVector_pins _ _)
@[simp] theorem netIrq_cmd (p b : Nat) : (netIrq p b s).cmd = s.cmd := (raiseVector_cmd _ _)
@[simp] theorem netIrq_tb (p b : Nat) : (netIrq p b s).tb = s.tb := (raiseVector_tb _ _)
@[simp] theorem netIrq_refBus (p b : Nat) : (netIrq p b s).refBus = s.refBus := (raiseVector_refBus _ _)
@[simp] theorem netIrq_phases (p b : Nat) : (netIrq p b s).phases = s.phases := (raiseVector_phases _ _)
@[simp] theorem netIrq_phaseNext (p b : Nat) : (netIrq p b s).phaseNext = s.phaseNext := (raiseVector_phaseNext _ _)
@[simp] theorem netIrq_bank0 (p b : Nat) : (netIrq p b s).bank0 = s.bank0 := (raiseVector_bank0 _ _)
@[simp] theorem netIrq_bank1 (p b : Nat) : (netIrq p b s).bank1 = s.bank1 := (raiseVector_bank1 _ _)
@[simp] theorem netIrq_active (p b : Nat) : (netIrq p b s).active = s.active := (raiseVector_active _ _)
@[simp] theorem netIrq_streams (p b : Nat) : (netIrq p b s).streams = s.streams := (raiseVector_streams _ _)
@[simp] theorem netIrq_filters (p b : Nat) : (netIrq p b s).filters = s.filters := (raiseVector_filters _ _)
@[simp] theorem netIrq_mst (p b : Nat) : (netIrq p b s).mst = s.mst := (raiseVector_mst _ _)
@[simp] theorem netIrq_disp (p b : Nat) : (netIrq p b s).disp = s.disp := (raiseVector_disp _ _)
@[simp] theorem netIrq_dets (p b : Nat) : (netIrq p b s).dets = s.dets := (raiseVector_dets _ _)
@[simp] theorem netIrq_schs (p b : Nat) : (netIrq p b s).schs = s.schs := (raiseVector_schs _ _)
@[simp] theorem netIrq_pubs (p b : Nat) : (netIrq p b s).pubs = s.pubs := (raiseVector_pubs _ _)
@[simp] theorem netIrq_outRuns (p b : Nat) : (netIrq p b s).outRuns = s.outRuns := (raiseVector_outRuns _ _)
@[simp] theorem netIrq_vchs (p b : Nat) : (netIrq p b s).vchs = s.vchs := (raiseVector_vchs _ _)
@[simp] theorem netIrq_flows (p b : Nat) : (netIrq p b s).flows = s.flows := (raiseVector_flows _ _)
@[simp] theorem netIrq_caps (p b : Nat) : (netIrq p b s).caps = s.caps := (raiseVector_caps _ _)
@[simp] theorem netIrq_oqs (p b : Nat) : (netIrq p b s).oqs = s.oqs := (raiseVector_oqs _ _)
@[simp] theorem netIrq_iqs (p b : Nat) : (netIrq p b s).iqs = s.iqs := (raiseVector_iqs _ _)
@[simp] theorem netIrq_dmaPtr (p b : Nat) : (netIrq p b s).dmaPtr = s.dmaPtr := (raiseVector_dmaPtr _ _)
@[simp] theorem netIrq_txWait (p b : Nat) : (netIrq p b s).txWait = s.txWait := (raiseVector_txWait _ _)
@[simp] theorem netIrq_wake (p b : Nat) : (netIrq p b s).wake = s.wake := (raiseVector_wake _ _)
@[simp] theorem netIrq_gh (p b : Nat) : (netIrq p b s).gh = s.gh := (raiseVector_gh _ _)
@[simp] theorem netIrq_cas (p b : Nat) : (netIrq p b s).cas = s.cas := (raiseVector_cas _ _)
@[simp] theorem netIrq_rtc (p b : Nat) : (netIrq p b s).rtc = s.rtc := (raiseVector_rtc _ _)
@[simp] theorem netIrq_rcd (p b : Nat) : (netIrq p b s).rcd = s.rcd := (raiseVector_rcd _ _)
@[simp] theorem netIrq_cnt (p b : Nat) : (netIrq p b s).cnt = s.cnt := (raiseVector_cnt _ _)
@[simp] theorem netIrq_cntHost (p b : Nat) : (netIrq p b s).cntHost = s.cntHost := (raiseVector_cntHost _ _)
@[simp] theorem netIrq_cntMgp (p b : Nat) : (netIrq p b s).cntMgp = s.cntMgp := (raiseVector_cntMgp _ _)
@[simp] theorem netIrq_pwr (p b : Nat) : (netIrq p b s).pwr = s.pwr := (raiseVector_pwr _ _)
@[simp] theorem netIrq_nor (p b : Nat) : (netIrq p b s).nor = s.nor := (raiseVector_nor _ _)
@[simp] theorem netIrq_tapIr (p b : Nat) : (netIrq p b s).tapIr = s.tapIr := (raiseVector_tapIr _ _)
@[simp] theorem netIrq_pending (p b : Nat) : (netIrq p b s).pending = s.pending := (raiseVector_pending _ _)
@[simp] theorem netIrq_free (p b : Nat) : (netIrq p b s).free = s.free := (raiseVector_free _ _)

/-! ### setRing -/

@[simp] theorem setRing_glb (p r : Nat) (g : NetRing) : (setRing p r g s).glb = s.glb := rfl
@[simp] theorem setRing_pins (p r : Nat) (g : NetRing) : (setRing p r g s).pins = s.pins := rfl
@[simp] theorem setRing_cmd (p r : Nat) (g : NetRing) : (setRing p r g s).cmd = s.cmd := rfl
@[simp] theorem setRing_tb (p r : Nat) (g : NetRing) : (setRing p r g s).tb = s.tb := rfl
@[simp] theorem setRing_refBus (p r : Nat) (g : NetRing) : (setRing p r g s).refBus = s.refBus := rfl
@[simp] theorem setRing_phases (p r : Nat) (g : NetRing) : (setRing p r g s).phases = s.phases := rfl
@[simp] theorem setRing_phaseNext (p r : Nat) (g : NetRing) : (setRing p r g s).phaseNext = s.phaseNext := rfl
@[simp] theorem setRing_bank0 (p r : Nat) (g : NetRing) : (setRing p r g s).bank0 = s.bank0 := rfl
@[simp] theorem setRing_bank1 (p r : Nat) (g : NetRing) : (setRing p r g s).bank1 = s.bank1 := rfl
@[simp] theorem setRing_active (p r : Nat) (g : NetRing) : (setRing p r g s).active = s.active := rfl
@[simp] theorem setRing_streams (p r : Nat) (g : NetRing) : (setRing p r g s).streams = s.streams := rfl
@[simp] theorem setRing_filters (p r : Nat) (g : NetRing) : (setRing p r g s).filters = s.filters := rfl
@[simp] theorem setRing_mst (p r : Nat) (g : NetRing) : (setRing p r g s).mst = s.mst := rfl
@[simp] theorem setRing_disp (p r : Nat) (g : NetRing) : (setRing p r g s).disp = s.disp := rfl
@[simp] theorem setRing_dets (p r : Nat) (g : NetRing) : (setRing p r g s).dets = s.dets := rfl
@[simp] theorem setRing_schs (p r : Nat) (g : NetRing) : (setRing p r g s).schs = s.schs := rfl
@[simp] theorem setRing_pubs (p r : Nat) (g : NetRing) : (setRing p r g s).pubs = s.pubs := rfl
@[simp] theorem setRing_outRuns (p r : Nat) (g : NetRing) : (setRing p r g s).outRuns = s.outRuns := rfl
@[simp] theorem setRing_vchs (p r : Nat) (g : NetRing) : (setRing p r g s).vchs = s.vchs := rfl
@[simp] theorem setRing_flows (p r : Nat) (g : NetRing) : (setRing p r g s).flows = s.flows := rfl
@[simp] theorem setRing_caps (p r : Nat) (g : NetRing) : (setRing p r g s).caps = s.caps := rfl
@[simp] theorem setRing_oqs (p r : Nat) (g : NetRing) : (setRing p r g s).oqs = s.oqs := rfl
@[simp] theorem setRing_iqs (p r : Nat) (g : NetRing) : (setRing p r g s).iqs = s.iqs := rfl
@[simp] theorem setRing_dmaPtr (p r : Nat) (g : NetRing) : (setRing p r g s).dmaPtr = s.dmaPtr := rfl
@[simp] theorem setRing_txWait (p r : Nat) (g : NetRing) : (setRing p r g s).txWait = s.txWait := rfl
@[simp] theorem setRing_wake (p r : Nat) (g : NetRing) : (setRing p r g s).wake = s.wake := rfl
@[simp] theorem setRing_gh (p r : Nat) (g : NetRing) : (setRing p r g s).gh = s.gh := rfl
@[simp] theorem setRing_cas (p r : Nat) (g : NetRing) : (setRing p r g s).cas = s.cas := rfl
@[simp] theorem setRing_rtc (p r : Nat) (g : NetRing) : (setRing p r g s).rtc = s.rtc := rfl
@[simp] theorem setRing_rcd (p r : Nat) (g : NetRing) : (setRing p r g s).rcd = s.rcd := rfl
@[simp] theorem setRing_cnt (p r : Nat) (g : NetRing) : (setRing p r g s).cnt = s.cnt := rfl
@[simp] theorem setRing_cntHost (p r : Nat) (g : NetRing) : (setRing p r g s).cntHost = s.cntHost := rfl
@[simp] theorem setRing_cntMgp (p r : Nat) (g : NetRing) : (setRing p r g s).cntMgp = s.cntMgp := rfl
@[simp] theorem setRing_pwr (p r : Nat) (g : NetRing) : (setRing p r g s).pwr = s.pwr := rfl
@[simp] theorem setRing_nor (p r : Nat) (g : NetRing) : (setRing p r g s).nor = s.nor := rfl
@[simp] theorem setRing_tapIr (p r : Nat) (g : NetRing) : (setRing p r g s).tapIr = s.tapIr := rfl
@[simp] theorem setRing_pending (p r : Nat) (g : NetRing) : (setRing p r g s).pending = s.pending := rfl
@[simp] theorem setRing_emitted (p r : Nat) (g : NetRing) : (setRing p r g s).emitted = s.emitted := rfl
@[simp] theorem setRing_free (p r : Nat) (g : NetRing) : (setRing p r g s).free = s.free := rfl

/-! ### setRecCursor -/

theorem setRecCursor_only (m : Master) (c : RecCursor) : setRecCursor m c s = { s with rcd := (setRecCursor m c s).rcd } := by cases m <;> rfl

@[simp] theorem setRecCursor_glb (m : Master) (c : RecCursor) : (setRecCursor m c s).glb = s.glb := by rw [setRecCursor_only]
@[simp] theorem setRecCursor_pins (m : Master) (c : RecCursor) : (setRecCursor m c s).pins = s.pins := by rw [setRecCursor_only]
@[simp] theorem setRecCursor_cmd (m : Master) (c : RecCursor) : (setRecCursor m c s).cmd = s.cmd := by rw [setRecCursor_only]
@[simp] theorem setRecCursor_tb (m : Master) (c : RecCursor) : (setRecCursor m c s).tb = s.tb := by rw [setRecCursor_only]
@[simp] theorem setRecCursor_refBus (m : Master) (c : RecCursor) : (setRecCursor m c s).refBus = s.refBus := by rw [setRecCursor_only]
@[simp] theorem setRecCursor_phases (m : Master) (c : RecCursor) : (setRecCursor m c s).phases = s.phases := by rw [setRecCursor_only]
@[simp] theorem setRecCursor_phaseNext (m : Master) (c : RecCursor) : (setRecCursor m c s).phaseNext = s.phaseNext := by rw [setRecCursor_only]
@[simp] theorem setRecCursor_bank0 (m : Master) (c : RecCursor) : (setRecCursor m c s).bank0 = s.bank0 := by rw [setRecCursor_only]
@[simp] theorem setRecCursor_bank1 (m : Master) (c : RecCursor) : (setRecCursor m c s).bank1 = s.bank1 := by rw [setRecCursor_only]
@[simp] theorem setRecCursor_active (m : Master) (c : RecCursor) : (setRecCursor m c s).active = s.active := by rw [setRecCursor_only]
@[simp] theorem setRecCursor_streams (m : Master) (c : RecCursor) : (setRecCursor m c s).streams = s.streams := by rw [setRecCursor_only]
@[simp] theorem setRecCursor_filters (m : Master) (c : RecCursor) : (setRecCursor m c s).filters = s.filters := by rw [setRecCursor_only]
@[simp] theorem setRecCursor_mst (m : Master) (c : RecCursor) : (setRecCursor m c s).mst = s.mst := by rw [setRecCursor_only]
@[simp] theorem setRecCursor_disp (m : Master) (c : RecCursor) : (setRecCursor m c s).disp = s.disp := by rw [setRecCursor_only]
@[simp] theorem setRecCursor_dets (m : Master) (c : RecCursor) : (setRecCursor m c s).dets = s.dets := by rw [setRecCursor_only]
@[simp] theorem setRecCursor_schs (m : Master) (c : RecCursor) : (setRecCursor m c s).schs = s.schs := by rw [setRecCursor_only]
@[simp] theorem setRecCursor_pubs (m : Master) (c : RecCursor) : (setRecCursor m c s).pubs = s.pubs := by rw [setRecCursor_only]
@[simp] theorem setRecCursor_outRuns (m : Master) (c : RecCursor) : (setRecCursor m c s).outRuns = s.outRuns := by rw [setRecCursor_only]
@[simp] theorem setRecCursor_vchs (m : Master) (c : RecCursor) : (setRecCursor m c s).vchs = s.vchs := by rw [setRecCursor_only]
@[simp] theorem setRecCursor_flows (m : Master) (c : RecCursor) : (setRecCursor m c s).flows = s.flows := by rw [setRecCursor_only]
@[simp] theorem setRecCursor_caps (m : Master) (c : RecCursor) : (setRecCursor m c s).caps = s.caps := by rw [setRecCursor_only]
@[simp] theorem setRecCursor_oqs (m : Master) (c : RecCursor) : (setRecCursor m c s).oqs = s.oqs := by rw [setRecCursor_only]
@[simp] theorem setRecCursor_iqs (m : Master) (c : RecCursor) : (setRecCursor m c s).iqs = s.iqs := by rw [setRecCursor_only]
@[simp] theorem setRecCursor_dmaPtr (m : Master) (c : RecCursor) : (setRecCursor m c s).dmaPtr = s.dmaPtr := by rw [setRecCursor_only]
@[simp] theorem setRecCursor_ports (m : Master) (c : RecCursor) : (setRecCursor m c s).ports = s.ports := by rw [setRecCursor_only]
@[simp] theorem setRecCursor_txWait (m : Master) (c : RecCursor) : (setRecCursor m c s).txWait = s.txWait := by rw [setRecCursor_only]
@[simp] theorem setRecCursor_wake (m : Master) (c : RecCursor) : (setRecCursor m c s).wake = s.wake := by rw [setRecCursor_only]
@[simp] theorem setRecCursor_gh (m : Master) (c : RecCursor) : (setRecCursor m c s).gh = s.gh := by rw [setRecCursor_only]
@[simp] theorem setRecCursor_cas (m : Master) (c : RecCursor) : (setRecCursor m c s).cas = s.cas := by rw [setRecCursor_only]
@[simp] theorem setRecCursor_rtc (m : Master) (c : RecCursor) : (setRecCursor m c s).rtc = s.rtc := by rw [setRecCursor_only]
@[simp] theorem setRecCursor_cnt (m : Master) (c : RecCursor) : (setRecCursor m c s).cnt = s.cnt := by rw [setRecCursor_only]
@[simp] theorem setRecCursor_cntHost (m : Master) (c : RecCursor) : (setRecCursor m c s).cntHost = s.cntHost := by rw [setRecCursor_only]
@[simp] theorem setRecCursor_cntMgp (m : Master) (c : RecCursor) : (setRecCursor m c s).cntMgp = s.cntMgp := by rw [setRecCursor_only]
@[simp] theorem setRecCursor_pwr (m : Master) (c : RecCursor) : (setRecCursor m c s).pwr = s.pwr := by rw [setRecCursor_only]
@[simp] theorem setRecCursor_nor (m : Master) (c : RecCursor) : (setRecCursor m c s).nor = s.nor := by rw [setRecCursor_only]
@[simp] theorem setRecCursor_tapIr (m : Master) (c : RecCursor) : (setRecCursor m c s).tapIr = s.tapIr := by rw [setRecCursor_only]
@[simp] theorem setRecCursor_pending (m : Master) (c : RecCursor) : (setRecCursor m c s).pending = s.pending := by rw [setRecCursor_only]
@[simp] theorem setRecCursor_emitted (m : Master) (c : RecCursor) : (setRecCursor m c s).emitted = s.emitted := by rw [setRecCursor_only]
@[simp] theorem setRecCursor_free (m : Master) (c : RecCursor) : (setRecCursor m c s).free = s.free := by rw [setRecCursor_only]

/-! ### setRtcPort -/

theorem setRtcPort_only (m : Master) (p : RtcPort) : setRtcPort m p s = { s with rtc := (setRtcPort m p s).rtc } := by cases m <;> rfl

@[simp] theorem setRtcPort_glb (m : Master) (p : RtcPort) : (setRtcPort m p s).glb = s.glb := by rw [setRtcPort_only]
@[simp] theorem setRtcPort_pins (m : Master) (p : RtcPort) : (setRtcPort m p s).pins = s.pins := by rw [setRtcPort_only]
@[simp] theorem setRtcPort_cmd (m : Master) (p : RtcPort) : (setRtcPort m p s).cmd = s.cmd := by rw [setRtcPort_only]
@[simp] theorem setRtcPort_tb (m : Master) (p : RtcPort) : (setRtcPort m p s).tb = s.tb := by rw [setRtcPort_only]
@[simp] theorem setRtcPort_refBus (m : Master) (p : RtcPort) : (setRtcPort m p s).refBus = s.refBus := by rw [setRtcPort_only]
@[simp] theorem setRtcPort_phases (m : Master) (p : RtcPort) : (setRtcPort m p s).phases = s.phases := by rw [setRtcPort_only]
@[simp] theorem setRtcPort_phaseNext (m : Master) (p : RtcPort) : (setRtcPort m p s).phaseNext = s.phaseNext := by rw [setRtcPort_only]
@[simp] theorem setRtcPort_bank0 (m : Master) (p : RtcPort) : (setRtcPort m p s).bank0 = s.bank0 := by rw [setRtcPort_only]
@[simp] theorem setRtcPort_bank1 (m : Master) (p : RtcPort) : (setRtcPort m p s).bank1 = s.bank1 := by rw [setRtcPort_only]
@[simp] theorem setRtcPort_active (m : Master) (p : RtcPort) : (setRtcPort m p s).active = s.active := by rw [setRtcPort_only]
@[simp] theorem setRtcPort_streams (m : Master) (p : RtcPort) : (setRtcPort m p s).streams = s.streams := by rw [setRtcPort_only]
@[simp] theorem setRtcPort_filters (m : Master) (p : RtcPort) : (setRtcPort m p s).filters = s.filters := by rw [setRtcPort_only]
@[simp] theorem setRtcPort_mst (m : Master) (p : RtcPort) : (setRtcPort m p s).mst = s.mst := by rw [setRtcPort_only]
@[simp] theorem setRtcPort_disp (m : Master) (p : RtcPort) : (setRtcPort m p s).disp = s.disp := by rw [setRtcPort_only]
@[simp] theorem setRtcPort_dets (m : Master) (p : RtcPort) : (setRtcPort m p s).dets = s.dets := by rw [setRtcPort_only]
@[simp] theorem setRtcPort_schs (m : Master) (p : RtcPort) : (setRtcPort m p s).schs = s.schs := by rw [setRtcPort_only]
@[simp] theorem setRtcPort_pubs (m : Master) (p : RtcPort) : (setRtcPort m p s).pubs = s.pubs := by rw [setRtcPort_only]
@[simp] theorem setRtcPort_outRuns (m : Master) (p : RtcPort) : (setRtcPort m p s).outRuns = s.outRuns := by rw [setRtcPort_only]
@[simp] theorem setRtcPort_vchs (m : Master) (p : RtcPort) : (setRtcPort m p s).vchs = s.vchs := by rw [setRtcPort_only]
@[simp] theorem setRtcPort_flows (m : Master) (p : RtcPort) : (setRtcPort m p s).flows = s.flows := by rw [setRtcPort_only]
@[simp] theorem setRtcPort_caps (m : Master) (p : RtcPort) : (setRtcPort m p s).caps = s.caps := by rw [setRtcPort_only]
@[simp] theorem setRtcPort_oqs (m : Master) (p : RtcPort) : (setRtcPort m p s).oqs = s.oqs := by rw [setRtcPort_only]
@[simp] theorem setRtcPort_iqs (m : Master) (p : RtcPort) : (setRtcPort m p s).iqs = s.iqs := by rw [setRtcPort_only]
@[simp] theorem setRtcPort_dmaPtr (m : Master) (p : RtcPort) : (setRtcPort m p s).dmaPtr = s.dmaPtr := by rw [setRtcPort_only]
@[simp] theorem setRtcPort_ports (m : Master) (p : RtcPort) : (setRtcPort m p s).ports = s.ports := by rw [setRtcPort_only]
@[simp] theorem setRtcPort_txWait (m : Master) (p : RtcPort) : (setRtcPort m p s).txWait = s.txWait := by rw [setRtcPort_only]
@[simp] theorem setRtcPort_wake (m : Master) (p : RtcPort) : (setRtcPort m p s).wake = s.wake := by rw [setRtcPort_only]
@[simp] theorem setRtcPort_gh (m : Master) (p : RtcPort) : (setRtcPort m p s).gh = s.gh := by rw [setRtcPort_only]
@[simp] theorem setRtcPort_cas (m : Master) (p : RtcPort) : (setRtcPort m p s).cas = s.cas := by rw [setRtcPort_only]
@[simp] theorem setRtcPort_rcd (m : Master) (p : RtcPort) : (setRtcPort m p s).rcd = s.rcd := by rw [setRtcPort_only]
@[simp] theorem setRtcPort_cnt (m : Master) (p : RtcPort) : (setRtcPort m p s).cnt = s.cnt := by rw [setRtcPort_only]
@[simp] theorem setRtcPort_cntHost (m : Master) (p : RtcPort) : (setRtcPort m p s).cntHost = s.cntHost := by rw [setRtcPort_only]
@[simp] theorem setRtcPort_cntMgp (m : Master) (p : RtcPort) : (setRtcPort m p s).cntMgp = s.cntMgp := by rw [setRtcPort_only]
@[simp] theorem setRtcPort_pwr (m : Master) (p : RtcPort) : (setRtcPort m p s).pwr = s.pwr := by rw [setRtcPort_only]
@[simp] theorem setRtcPort_nor (m : Master) (p : RtcPort) : (setRtcPort m p s).nor = s.nor := by rw [setRtcPort_only]
@[simp] theorem setRtcPort_tapIr (m : Master) (p : RtcPort) : (setRtcPort m p s).tapIr = s.tapIr := by rw [setRtcPort_only]
@[simp] theorem setRtcPort_pending (m : Master) (p : RtcPort) : (setRtcPort m p s).pending = s.pending := by rw [setRtcPort_only]
@[simp] theorem setRtcPort_emitted (m : Master) (p : RtcPort) : (setRtcPort m p s).emitted = s.emitted := by rw [setRtcPort_only]
@[simp] theorem setRtcPort_free (m : Master) (p : RtcPort) : (setRtcPort m p s).free = s.free := by rw [setRtcPort_only]

/-! ### setCap -/

@[simp] theorem setCap_glb (n : Nat) (r : CapRun) : (setCap n r s).glb = s.glb := rfl
@[simp] theorem setCap_pins (n : Nat) (r : CapRun) : (setCap n r s).pins = s.pins := rfl
@[simp] theorem setCap_cmd (n : Nat) (r : CapRun) : (setCap n r s).cmd = s.cmd := rfl
@[simp] theorem setCap_tb (n : Nat) (r : CapRun) : (setCap n r s).tb = s.tb := rfl
@[simp] theorem setCap_refBus (n : Nat) (r : CapRun) : (setCap n r s).refBus = s.refBus := rfl
@[simp] theorem setCap_phases (n : Nat) (r : CapRun) : (setCap n r s).phases = s.phases := rfl
@[simp] theorem setCap_phaseNext (n : Nat) (r : CapRun) : (setCap n r s).phaseNext = s.phaseNext := rfl
@[simp] theorem setCap_bank0 (n : Nat) (r : CapRun) : (setCap n r s).bank0 = s.bank0 := rfl
@[simp] theorem setCap_bank1 (n : Nat) (r : CapRun) : (setCap n r s).bank1 = s.bank1 := rfl
@[simp] theorem setCap_active (n : Nat) (r : CapRun) : (setCap n r s).active = s.active := rfl
@[simp] theorem setCap_streams (n : Nat) (r : CapRun) : (setCap n r s).streams = s.streams := rfl
@[simp] theorem setCap_filters (n : Nat) (r : CapRun) : (setCap n r s).filters = s.filters := rfl
@[simp] theorem setCap_mst (n : Nat) (r : CapRun) : (setCap n r s).mst = s.mst := rfl
@[simp] theorem setCap_disp (n : Nat) (r : CapRun) : (setCap n r s).disp = s.disp := rfl
@[simp] theorem setCap_dets (n : Nat) (r : CapRun) : (setCap n r s).dets = s.dets := rfl
@[simp] theorem setCap_schs (n : Nat) (r : CapRun) : (setCap n r s).schs = s.schs := rfl
@[simp] theorem setCap_pubs (n : Nat) (r : CapRun) : (setCap n r s).pubs = s.pubs := rfl
@[simp] theorem setCap_outRuns (n : Nat) (r : CapRun) : (setCap n r s).outRuns = s.outRuns := rfl
@[simp] theorem setCap_vchs (n : Nat) (r : CapRun) : (setCap n r s).vchs = s.vchs := rfl
@[simp] theorem setCap_flows (n : Nat) (r : CapRun) : (setCap n r s).flows = s.flows := rfl
@[simp] theorem setCap_oqs (n : Nat) (r : CapRun) : (setCap n r s).oqs = s.oqs := rfl
@[simp] theorem setCap_iqs (n : Nat) (r : CapRun) : (setCap n r s).iqs = s.iqs := rfl
@[simp] theorem setCap_dmaPtr (n : Nat) (r : CapRun) : (setCap n r s).dmaPtr = s.dmaPtr := rfl
@[simp] theorem setCap_ports (n : Nat) (r : CapRun) : (setCap n r s).ports = s.ports := rfl
@[simp] theorem setCap_txWait (n : Nat) (r : CapRun) : (setCap n r s).txWait = s.txWait := rfl
@[simp] theorem setCap_wake (n : Nat) (r : CapRun) : (setCap n r s).wake = s.wake := rfl
@[simp] theorem setCap_gh (n : Nat) (r : CapRun) : (setCap n r s).gh = s.gh := rfl
@[simp] theorem setCap_cas (n : Nat) (r : CapRun) : (setCap n r s).cas = s.cas := rfl
@[simp] theorem setCap_rtc (n : Nat) (r : CapRun) : (setCap n r s).rtc = s.rtc := rfl
@[simp] theorem setCap_rcd (n : Nat) (r : CapRun) : (setCap n r s).rcd = s.rcd := rfl
@[simp] theorem setCap_cnt (n : Nat) (r : CapRun) : (setCap n r s).cnt = s.cnt := rfl
@[simp] theorem setCap_cntHost (n : Nat) (r : CapRun) : (setCap n r s).cntHost = s.cntHost := rfl
@[simp] theorem setCap_cntMgp (n : Nat) (r : CapRun) : (setCap n r s).cntMgp = s.cntMgp := rfl
@[simp] theorem setCap_pwr (n : Nat) (r : CapRun) : (setCap n r s).pwr = s.pwr := rfl
@[simp] theorem setCap_nor (n : Nat) (r : CapRun) : (setCap n r s).nor = s.nor := rfl
@[simp] theorem setCap_tapIr (n : Nat) (r : CapRun) : (setCap n r s).tapIr = s.tapIr := rfl
@[simp] theorem setCap_pending (n : Nat) (r : CapRun) : (setCap n r s).pending = s.pending := rfl
@[simp] theorem setCap_emitted (n : Nat) (r : CapRun) : (setCap n r s).emitted = s.emitted := rfl
@[simp] theorem setCap_free (n : Nat) (r : CapRun) : (setCap n r s).free = s.free := rfl

/-! ### setSch -/

@[simp] theorem setSch_glb (n : Nat) (r : SchRun) : (setSch n r s).glb = s.glb := rfl
@[simp] theorem setSch_pins (n : Nat) (r : SchRun) : (setSch n r s).pins = s.pins := rfl
@[simp] theorem setSch_cmd (n : Nat) (r : SchRun) : (setSch n r s).cmd = s.cmd := rfl
@[simp] theorem setSch_tb (n : Nat) (r : SchRun) : (setSch n r s).tb = s.tb := rfl
@[simp] theorem setSch_refBus (n : Nat) (r : SchRun) : (setSch n r s).refBus = s.refBus := rfl
@[simp] theorem setSch_phases (n : Nat) (r : SchRun) : (setSch n r s).phases = s.phases := rfl
@[simp] theorem setSch_phaseNext (n : Nat) (r : SchRun) : (setSch n r s).phaseNext = s.phaseNext := rfl
@[simp] theorem setSch_bank0 (n : Nat) (r : SchRun) : (setSch n r s).bank0 = s.bank0 := rfl
@[simp] theorem setSch_bank1 (n : Nat) (r : SchRun) : (setSch n r s).bank1 = s.bank1 := rfl
@[simp] theorem setSch_active (n : Nat) (r : SchRun) : (setSch n r s).active = s.active := rfl
@[simp] theorem setSch_streams (n : Nat) (r : SchRun) : (setSch n r s).streams = s.streams := rfl
@[simp] theorem setSch_filters (n : Nat) (r : SchRun) : (setSch n r s).filters = s.filters := rfl
@[simp] theorem setSch_mst (n : Nat) (r : SchRun) : (setSch n r s).mst = s.mst := rfl
@[simp] theorem setSch_disp (n : Nat) (r : SchRun) : (setSch n r s).disp = s.disp := rfl
@[simp] theorem setSch_dets (n : Nat) (r : SchRun) : (setSch n r s).dets = s.dets := rfl
@[simp] theorem setSch_pubs (n : Nat) (r : SchRun) : (setSch n r s).pubs = s.pubs := rfl
@[simp] theorem setSch_outRuns (n : Nat) (r : SchRun) : (setSch n r s).outRuns = s.outRuns := rfl
@[simp] theorem setSch_vchs (n : Nat) (r : SchRun) : (setSch n r s).vchs = s.vchs := rfl
@[simp] theorem setSch_flows (n : Nat) (r : SchRun) : (setSch n r s).flows = s.flows := rfl
@[simp] theorem setSch_caps (n : Nat) (r : SchRun) : (setSch n r s).caps = s.caps := rfl
@[simp] theorem setSch_oqs (n : Nat) (r : SchRun) : (setSch n r s).oqs = s.oqs := rfl
@[simp] theorem setSch_iqs (n : Nat) (r : SchRun) : (setSch n r s).iqs = s.iqs := rfl
@[simp] theorem setSch_dmaPtr (n : Nat) (r : SchRun) : (setSch n r s).dmaPtr = s.dmaPtr := rfl
@[simp] theorem setSch_ports (n : Nat) (r : SchRun) : (setSch n r s).ports = s.ports := rfl
@[simp] theorem setSch_txWait (n : Nat) (r : SchRun) : (setSch n r s).txWait = s.txWait := rfl
@[simp] theorem setSch_wake (n : Nat) (r : SchRun) : (setSch n r s).wake = s.wake := rfl
@[simp] theorem setSch_gh (n : Nat) (r : SchRun) : (setSch n r s).gh = s.gh := rfl
@[simp] theorem setSch_cas (n : Nat) (r : SchRun) : (setSch n r s).cas = s.cas := rfl
@[simp] theorem setSch_rtc (n : Nat) (r : SchRun) : (setSch n r s).rtc = s.rtc := rfl
@[simp] theorem setSch_rcd (n : Nat) (r : SchRun) : (setSch n r s).rcd = s.rcd := rfl
@[simp] theorem setSch_cnt (n : Nat) (r : SchRun) : (setSch n r s).cnt = s.cnt := rfl
@[simp] theorem setSch_cntHost (n : Nat) (r : SchRun) : (setSch n r s).cntHost = s.cntHost := rfl
@[simp] theorem setSch_cntMgp (n : Nat) (r : SchRun) : (setSch n r s).cntMgp = s.cntMgp := rfl
@[simp] theorem setSch_pwr (n : Nat) (r : SchRun) : (setSch n r s).pwr = s.pwr := rfl
@[simp] theorem setSch_nor (n : Nat) (r : SchRun) : (setSch n r s).nor = s.nor := rfl
@[simp] theorem setSch_tapIr (n : Nat) (r : SchRun) : (setSch n r s).tapIr = s.tapIr := rfl
@[simp] theorem setSch_pending (n : Nat) (r : SchRun) : (setSch n r s).pending = s.pending := rfl
@[simp] theorem setSch_emitted (n : Nat) (r : SchRun) : (setSch n r s).emitted = s.emitted := rfl
@[simp] theorem setSch_free (n : Nat) (r : SchRun) : (setSch n r s).free = s.free := rfl

/-! ### setVch -/

@[simp] theorem setVch_glb (n : Nat) (r : VchRun) : (setVch n r s).glb = s.glb := rfl
@[simp] theorem setVch_pins (n : Nat) (r : VchRun) : (setVch n r s).pins = s.pins := rfl
@[simp] theorem setVch_cmd (n : Nat) (r : VchRun) : (setVch n r s).cmd = s.cmd := rfl
@[simp] theorem setVch_tb (n : Nat) (r : VchRun) : (setVch n r s).tb = s.tb := rfl
@[simp] theorem setVch_refBus (n : Nat) (r : VchRun) : (setVch n r s).refBus = s.refBus := rfl
@[simp] theorem setVch_phases (n : Nat) (r : VchRun) : (setVch n r s).phases = s.phases := rfl
@[simp] theorem setVch_phaseNext (n : Nat) (r : VchRun) : (setVch n r s).phaseNext = s.phaseNext := rfl
@[simp] theorem setVch_bank0 (n : Nat) (r : VchRun) : (setVch n r s).bank0 = s.bank0 := rfl
@[simp] theorem setVch_bank1 (n : Nat) (r : VchRun) : (setVch n r s).bank1 = s.bank1 := rfl
@[simp] theorem setVch_active (n : Nat) (r : VchRun) : (setVch n r s).active = s.active := rfl
@[simp] theorem setVch_streams (n : Nat) (r : VchRun) : (setVch n r s).streams = s.streams := rfl
@[simp] theorem setVch_filters (n : Nat) (r : VchRun) : (setVch n r s).filters = s.filters := rfl
@[simp] theorem setVch_mst (n : Nat) (r : VchRun) : (setVch n r s).mst = s.mst := rfl
@[simp] theorem setVch_disp (n : Nat) (r : VchRun) : (setVch n r s).disp = s.disp := rfl
@[simp] theorem setVch_dets (n : Nat) (r : VchRun) : (setVch n r s).dets = s.dets := rfl
@[simp] theorem setVch_schs (n : Nat) (r : VchRun) : (setVch n r s).schs = s.schs := rfl
@[simp] theorem setVch_pubs (n : Nat) (r : VchRun) : (setVch n r s).pubs = s.pubs := rfl
@[simp] theorem setVch_outRuns (n : Nat) (r : VchRun) : (setVch n r s).outRuns = s.outRuns := rfl
@[simp] theorem setVch_flows (n : Nat) (r : VchRun) : (setVch n r s).flows = s.flows := rfl
@[simp] theorem setVch_caps (n : Nat) (r : VchRun) : (setVch n r s).caps = s.caps := rfl
@[simp] theorem setVch_oqs (n : Nat) (r : VchRun) : (setVch n r s).oqs = s.oqs := rfl
@[simp] theorem setVch_iqs (n : Nat) (r : VchRun) : (setVch n r s).iqs = s.iqs := rfl
@[simp] theorem setVch_dmaPtr (n : Nat) (r : VchRun) : (setVch n r s).dmaPtr = s.dmaPtr := rfl
@[simp] theorem setVch_ports (n : Nat) (r : VchRun) : (setVch n r s).ports = s.ports := rfl
@[simp] theorem setVch_txWait (n : Nat) (r : VchRun) : (setVch n r s).txWait = s.txWait := rfl
@[simp] theorem setVch_wake (n : Nat) (r : VchRun) : (setVch n r s).wake = s.wake := rfl
@[simp] theorem setVch_gh (n : Nat) (r : VchRun) : (setVch n r s).gh = s.gh := rfl
@[simp] theorem setVch_cas (n : Nat) (r : VchRun) : (setVch n r s).cas = s.cas := rfl
@[simp] theorem setVch_rtc (n : Nat) (r : VchRun) : (setVch n r s).rtc = s.rtc := rfl
@[simp] theorem setVch_rcd (n : Nat) (r : VchRun) : (setVch n r s).rcd = s.rcd := rfl
@[simp] theorem setVch_cnt (n : Nat) (r : VchRun) : (setVch n r s).cnt = s.cnt := rfl
@[simp] theorem setVch_cntHost (n : Nat) (r : VchRun) : (setVch n r s).cntHost = s.cntHost := rfl
@[simp] theorem setVch_cntMgp (n : Nat) (r : VchRun) : (setVch n r s).cntMgp = s.cntMgp := rfl
@[simp] theorem setVch_pwr (n : Nat) (r : VchRun) : (setVch n r s).pwr = s.pwr := rfl
@[simp] theorem setVch_nor (n : Nat) (r : VchRun) : (setVch n r s).nor = s.nor := rfl
@[simp] theorem setVch_tapIr (n : Nat) (r : VchRun) : (setVch n r s).tapIr = s.tapIr := rfl
@[simp] theorem setVch_pending (n : Nat) (r : VchRun) : (setVch n r s).pending = s.pending := rfl
@[simp] theorem setVch_emitted (n : Nat) (r : VchRun) : (setVch n r s).emitted = s.emitted := rfl
@[simp] theorem setVch_free (n : Nat) (r : VchRun) : (setVch n r s).free = s.free := rfl

/-! ### setFlow -/

@[simp] theorem setFlow_glb (n : Nat) (f : FlowRun) : (setFlow n f s).glb = s.glb := rfl
@[simp] theorem setFlow_pins (n : Nat) (f : FlowRun) : (setFlow n f s).pins = s.pins := rfl
@[simp] theorem setFlow_cmd (n : Nat) (f : FlowRun) : (setFlow n f s).cmd = s.cmd := rfl
@[simp] theorem setFlow_tb (n : Nat) (f : FlowRun) : (setFlow n f s).tb = s.tb := rfl
@[simp] theorem setFlow_refBus (n : Nat) (f : FlowRun) : (setFlow n f s).refBus = s.refBus := rfl
@[simp] theorem setFlow_phases (n : Nat) (f : FlowRun) : (setFlow n f s).phases = s.phases := rfl
@[simp] theorem setFlow_phaseNext (n : Nat) (f : FlowRun) : (setFlow n f s).phaseNext = s.phaseNext := rfl
@[simp] theorem setFlow_bank0 (n : Nat) (f : FlowRun) : (setFlow n f s).bank0 = s.bank0 := rfl
@[simp] theorem setFlow_bank1 (n : Nat) (f : FlowRun) : (setFlow n f s).bank1 = s.bank1 := rfl
@[simp] theorem setFlow_active (n : Nat) (f : FlowRun) : (setFlow n f s).active = s.active := rfl
@[simp] theorem setFlow_streams (n : Nat) (f : FlowRun) : (setFlow n f s).streams = s.streams := rfl
@[simp] theorem setFlow_filters (n : Nat) (f : FlowRun) : (setFlow n f s).filters = s.filters := rfl
@[simp] theorem setFlow_mst (n : Nat) (f : FlowRun) : (setFlow n f s).mst = s.mst := rfl
@[simp] theorem setFlow_disp (n : Nat) (f : FlowRun) : (setFlow n f s).disp = s.disp := rfl
@[simp] theorem setFlow_dets (n : Nat) (f : FlowRun) : (setFlow n f s).dets = s.dets := rfl
@[simp] theorem setFlow_schs (n : Nat) (f : FlowRun) : (setFlow n f s).schs = s.schs := rfl
@[simp] theorem setFlow_pubs (n : Nat) (f : FlowRun) : (setFlow n f s).pubs = s.pubs := rfl
@[simp] theorem setFlow_outRuns (n : Nat) (f : FlowRun) : (setFlow n f s).outRuns = s.outRuns := rfl
@[simp] theorem setFlow_vchs (n : Nat) (f : FlowRun) : (setFlow n f s).vchs = s.vchs := rfl
@[simp] theorem setFlow_caps (n : Nat) (f : FlowRun) : (setFlow n f s).caps = s.caps := rfl
@[simp] theorem setFlow_oqs (n : Nat) (f : FlowRun) : (setFlow n f s).oqs = s.oqs := rfl
@[simp] theorem setFlow_iqs (n : Nat) (f : FlowRun) : (setFlow n f s).iqs = s.iqs := rfl
@[simp] theorem setFlow_dmaPtr (n : Nat) (f : FlowRun) : (setFlow n f s).dmaPtr = s.dmaPtr := rfl
@[simp] theorem setFlow_ports (n : Nat) (f : FlowRun) : (setFlow n f s).ports = s.ports := rfl
@[simp] theorem setFlow_txWait (n : Nat) (f : FlowRun) : (setFlow n f s).txWait = s.txWait := rfl
@[simp] theorem setFlow_wake (n : Nat) (f : FlowRun) : (setFlow n f s).wake = s.wake := rfl
@[simp] theorem setFlow_gh (n : Nat) (f : FlowRun) : (setFlow n f s).gh = s.gh := rfl
@[simp] theorem setFlow_cas (n : Nat) (f : FlowRun) : (setFlow n f s).cas = s.cas := rfl
@[simp] theorem setFlow_rtc (n : Nat) (f : FlowRun) : (setFlow n f s).rtc = s.rtc := rfl
@[simp] theorem setFlow_rcd (n : Nat) (f : FlowRun) : (setFlow n f s).rcd = s.rcd := rfl
@[simp] theorem setFlow_cnt (n : Nat) (f : FlowRun) : (setFlow n f s).cnt = s.cnt := rfl
@[simp] theorem setFlow_cntHost (n : Nat) (f : FlowRun) : (setFlow n f s).cntHost = s.cntHost := rfl
@[simp] theorem setFlow_cntMgp (n : Nat) (f : FlowRun) : (setFlow n f s).cntMgp = s.cntMgp := rfl
@[simp] theorem setFlow_pwr (n : Nat) (f : FlowRun) : (setFlow n f s).pwr = s.pwr := rfl
@[simp] theorem setFlow_nor (n : Nat) (f : FlowRun) : (setFlow n f s).nor = s.nor := rfl
@[simp] theorem setFlow_tapIr (n : Nat) (f : FlowRun) : (setFlow n f s).tapIr = s.tapIr := rfl
@[simp] theorem setFlow_pending (n : Nat) (f : FlowRun) : (setFlow n f s).pending = s.pending := rfl
@[simp] theorem setFlow_emitted (n : Nat) (f : FlowRun) : (setFlow n f s).emitted = s.emitted := rfl
@[simp] theorem setFlow_free (n : Nat) (f : FlowRun) : (setFlow n f s).free = s.free := rfl

/-! ### setStream -/

@[simp] theorem setStream_glb (n : Nat) (r : StreamRun) : (setStream n r s).glb = s.glb := rfl
@[simp] theorem setStream_pins (n : Nat) (r : StreamRun) : (setStream n r s).pins = s.pins := rfl
@[simp] theorem setStream_cmd (n : Nat) (r : StreamRun) : (setStream n r s).cmd = s.cmd := rfl
@[simp] theorem setStream_tb (n : Nat) (r : StreamRun) : (setStream n r s).tb = s.tb := rfl
@[simp] theorem setStream_refBus (n : Nat) (r : StreamRun) : (setStream n r s).refBus = s.refBus := rfl
@[simp] theorem setStream_phases (n : Nat) (r : StreamRun) : (setStream n r s).phases = s.phases := rfl
@[simp] theorem setStream_phaseNext (n : Nat) (r : StreamRun) : (setStream n r s).phaseNext = s.phaseNext := rfl
@[simp] theorem setStream_bank0 (n : Nat) (r : StreamRun) : (setStream n r s).bank0 = s.bank0 := rfl
@[simp] theorem setStream_bank1 (n : Nat) (r : StreamRun) : (setStream n r s).bank1 = s.bank1 := rfl
@[simp] theorem setStream_active (n : Nat) (r : StreamRun) : (setStream n r s).active = s.active := rfl
@[simp] theorem setStream_filters (n : Nat) (r : StreamRun) : (setStream n r s).filters = s.filters := rfl
@[simp] theorem setStream_mst (n : Nat) (r : StreamRun) : (setStream n r s).mst = s.mst := rfl
@[simp] theorem setStream_disp (n : Nat) (r : StreamRun) : (setStream n r s).disp = s.disp := rfl
@[simp] theorem setStream_dets (n : Nat) (r : StreamRun) : (setStream n r s).dets = s.dets := rfl
@[simp] theorem setStream_schs (n : Nat) (r : StreamRun) : (setStream n r s).schs = s.schs := rfl
@[simp] theorem setStream_pubs (n : Nat) (r : StreamRun) : (setStream n r s).pubs = s.pubs := rfl
@[simp] theorem setStream_outRuns (n : Nat) (r : StreamRun) : (setStream n r s).outRuns = s.outRuns := rfl
@[simp] theorem setStream_vchs (n : Nat) (r : StreamRun) : (setStream n r s).vchs = s.vchs := rfl
@[simp] theorem setStream_flows (n : Nat) (r : StreamRun) : (setStream n r s).flows = s.flows := rfl
@[simp] theorem setStream_caps (n : Nat) (r : StreamRun) : (setStream n r s).caps = s.caps := rfl
@[simp] theorem setStream_oqs (n : Nat) (r : StreamRun) : (setStream n r s).oqs = s.oqs := rfl
@[simp] theorem setStream_iqs (n : Nat) (r : StreamRun) : (setStream n r s).iqs = s.iqs := rfl
@[simp] theorem setStream_dmaPtr (n : Nat) (r : StreamRun) : (setStream n r s).dmaPtr = s.dmaPtr := rfl
@[simp] theorem setStream_ports (n : Nat) (r : StreamRun) : (setStream n r s).ports = s.ports := rfl
@[simp] theorem setStream_txWait (n : Nat) (r : StreamRun) : (setStream n r s).txWait = s.txWait := rfl
@[simp] theorem setStream_wake (n : Nat) (r : StreamRun) : (setStream n r s).wake = s.wake := rfl
@[simp] theorem setStream_gh (n : Nat) (r : StreamRun) : (setStream n r s).gh = s.gh := rfl
@[simp] theorem setStream_cas (n : Nat) (r : StreamRun) : (setStream n r s).cas = s.cas := rfl
@[simp] theorem setStream_rtc (n : Nat) (r : StreamRun) : (setStream n r s).rtc = s.rtc := rfl
@[simp] theorem setStream_rcd (n : Nat) (r : StreamRun) : (setStream n r s).rcd = s.rcd := rfl
@[simp] theorem setStream_cnt (n : Nat) (r : StreamRun) : (setStream n r s).cnt = s.cnt := rfl
@[simp] theorem setStream_cntHost (n : Nat) (r : StreamRun) : (setStream n r s).cntHost = s.cntHost := rfl
@[simp] theorem setStream_cntMgp (n : Nat) (r : StreamRun) : (setStream n r s).cntMgp = s.cntMgp := rfl
@[simp] theorem setStream_pwr (n : Nat) (r : StreamRun) : (setStream n r s).pwr = s.pwr := rfl
@[simp] theorem setStream_nor (n : Nat) (r : StreamRun) : (setStream n r s).nor = s.nor := rfl
@[simp] theorem setStream_tapIr (n : Nat) (r : StreamRun) : (setStream n r s).tapIr = s.tapIr := rfl
@[simp] theorem setStream_pending (n : Nat) (r : StreamRun) : (setStream n r s).pending = s.pending := rfl
@[simp] theorem setStream_emitted (n : Nat) (r : StreamRun) : (setStream n r s).emitted = s.emitted := rfl
@[simp] theorem setStream_free (n : Nat) (r : StreamRun) : (setStream n r s).free = s.free := rfl

/-! ### setFilter -/

@[simp] theorem setFilter_glb (n : Nat) (r : FilterRun) : (setFilter n r s).glb = s.glb := rfl
@[simp] theorem setFilter_pins (n : Nat) (r : FilterRun) : (setFilter n r s).pins = s.pins := rfl
@[simp] theorem setFilter_cmd (n : Nat) (r : FilterRun) : (setFilter n r s).cmd = s.cmd := rfl
@[simp] theorem setFilter_tb (n : Nat) (r : FilterRun) : (setFilter n r s).tb = s.tb := rfl
@[simp] theorem setFilter_refBus (n : Nat) (r : FilterRun) : (setFilter n r s).refBus = s.refBus := rfl
@[simp] theorem setFilter_phases (n : Nat) (r : FilterRun) : (setFilter n r s).phases = s.phases := rfl
@[simp] theorem setFilter_phaseNext (n : Nat) (r : FilterRun) : (setFilter n r s).phaseNext = s.phaseNext := rfl
@[simp] theorem setFilter_bank0 (n : Nat) (r : FilterRun) : (setFilter n r s).bank0 = s.bank0 := rfl
@[simp] theorem setFilter_bank1 (n : Nat) (r : FilterRun) : (setFilter n r s).bank1 = s.bank1 := rfl
@[simp] theorem setFilter_active (n : Nat) (r : FilterRun) : (setFilter n r s).active = s.active := rfl
@[simp] theorem setFilter_streams (n : Nat) (r : FilterRun) : (setFilter n r s).streams = s.streams := rfl
@[simp] theorem setFilter_mst (n : Nat) (r : FilterRun) : (setFilter n r s).mst = s.mst := rfl
@[simp] theorem setFilter_disp (n : Nat) (r : FilterRun) : (setFilter n r s).disp = s.disp := rfl
@[simp] theorem setFilter_dets (n : Nat) (r : FilterRun) : (setFilter n r s).dets = s.dets := rfl
@[simp] theorem setFilter_schs (n : Nat) (r : FilterRun) : (setFilter n r s).schs = s.schs := rfl
@[simp] theorem setFilter_pubs (n : Nat) (r : FilterRun) : (setFilter n r s).pubs = s.pubs := rfl
@[simp] theorem setFilter_outRuns (n : Nat) (r : FilterRun) : (setFilter n r s).outRuns = s.outRuns := rfl
@[simp] theorem setFilter_vchs (n : Nat) (r : FilterRun) : (setFilter n r s).vchs = s.vchs := rfl
@[simp] theorem setFilter_flows (n : Nat) (r : FilterRun) : (setFilter n r s).flows = s.flows := rfl
@[simp] theorem setFilter_caps (n : Nat) (r : FilterRun) : (setFilter n r s).caps = s.caps := rfl
@[simp] theorem setFilter_oqs (n : Nat) (r : FilterRun) : (setFilter n r s).oqs = s.oqs := rfl
@[simp] theorem setFilter_iqs (n : Nat) (r : FilterRun) : (setFilter n r s).iqs = s.iqs := rfl
@[simp] theorem setFilter_dmaPtr (n : Nat) (r : FilterRun) : (setFilter n r s).dmaPtr = s.dmaPtr := rfl
@[simp] theorem setFilter_ports (n : Nat) (r : FilterRun) : (setFilter n r s).ports = s.ports := rfl
@[simp] theorem setFilter_txWait (n : Nat) (r : FilterRun) : (setFilter n r s).txWait = s.txWait := rfl
@[simp] theorem setFilter_wake (n : Nat) (r : FilterRun) : (setFilter n r s).wake = s.wake := rfl
@[simp] theorem setFilter_gh (n : Nat) (r : FilterRun) : (setFilter n r s).gh = s.gh := rfl
@[simp] theorem setFilter_cas (n : Nat) (r : FilterRun) : (setFilter n r s).cas = s.cas := rfl
@[simp] theorem setFilter_rtc (n : Nat) (r : FilterRun) : (setFilter n r s).rtc = s.rtc := rfl
@[simp] theorem setFilter_rcd (n : Nat) (r : FilterRun) : (setFilter n r s).rcd = s.rcd := rfl
@[simp] theorem setFilter_cnt (n : Nat) (r : FilterRun) : (setFilter n r s).cnt = s.cnt := rfl
@[simp] theorem setFilter_cntHost (n : Nat) (r : FilterRun) : (setFilter n r s).cntHost = s.cntHost := rfl
@[simp] theorem setFilter_cntMgp (n : Nat) (r : FilterRun) : (setFilter n r s).cntMgp = s.cntMgp := rfl
@[simp] theorem setFilter_pwr (n : Nat) (r : FilterRun) : (setFilter n r s).pwr = s.pwr := rfl
@[simp] theorem setFilter_nor (n : Nat) (r : FilterRun) : (setFilter n r s).nor = s.nor := rfl
@[simp] theorem setFilter_tapIr (n : Nat) (r : FilterRun) : (setFilter n r s).tapIr = s.tapIr := rfl
@[simp] theorem setFilter_pending (n : Nat) (r : FilterRun) : (setFilter n r s).pending = s.pending := rfl
@[simp] theorem setFilter_emitted (n : Nat) (r : FilterRun) : (setFilter n r s).emitted = s.emitted := rfl
@[simp] theorem setFilter_free (n : Nat) (r : FilterRun) : (setFilter n r s).free = s.free := rfl

/-! ### setTmplRun -/

@[simp] theorem setTmplRun_glb (n : Nat) (r : TmplRun) : (setTmplRun n r s).glb = s.glb := rfl
@[simp] theorem setTmplRun_pins (n : Nat) (r : TmplRun) : (setTmplRun n r s).pins = s.pins := rfl
@[simp] theorem setTmplRun_cmd (n : Nat) (r : TmplRun) : (setTmplRun n r s).cmd = s.cmd := rfl
@[simp] theorem setTmplRun_tb (n : Nat) (r : TmplRun) : (setTmplRun n r s).tb = s.tb := rfl
@[simp] theorem setTmplRun_refBus (n : Nat) (r : TmplRun) : (setTmplRun n r s).refBus = s.refBus := rfl
@[simp] theorem setTmplRun_phases (n : Nat) (r : TmplRun) : (setTmplRun n r s).phases = s.phases := rfl
@[simp] theorem setTmplRun_phaseNext (n : Nat) (r : TmplRun) : (setTmplRun n r s).phaseNext = s.phaseNext := rfl
@[simp] theorem setTmplRun_bank0 (n : Nat) (r : TmplRun) : (setTmplRun n r s).bank0 = s.bank0 := rfl
@[simp] theorem setTmplRun_bank1 (n : Nat) (r : TmplRun) : (setTmplRun n r s).bank1 = s.bank1 := rfl
@[simp] theorem setTmplRun_active (n : Nat) (r : TmplRun) : (setTmplRun n r s).active = s.active := rfl
@[simp] theorem setTmplRun_streams (n : Nat) (r : TmplRun) : (setTmplRun n r s).streams = s.streams := rfl
@[simp] theorem setTmplRun_filters (n : Nat) (r : TmplRun) : (setTmplRun n r s).filters = s.filters := rfl
@[simp] theorem setTmplRun_mst (n : Nat) (r : TmplRun) : (setTmplRun n r s).mst = s.mst := rfl
@[simp] theorem setTmplRun_dets (n : Nat) (r : TmplRun) : (setTmplRun n r s).dets = s.dets := rfl
@[simp] theorem setTmplRun_schs (n : Nat) (r : TmplRun) : (setTmplRun n r s).schs = s.schs := rfl
@[simp] theorem setTmplRun_pubs (n : Nat) (r : TmplRun) : (setTmplRun n r s).pubs = s.pubs := rfl
@[simp] theorem setTmplRun_outRuns (n : Nat) (r : TmplRun) : (setTmplRun n r s).outRuns = s.outRuns := rfl
@[simp] theorem setTmplRun_vchs (n : Nat) (r : TmplRun) : (setTmplRun n r s).vchs = s.vchs := rfl
@[simp] theorem setTmplRun_flows (n : Nat) (r : TmplRun) : (setTmplRun n r s).flows = s.flows := rfl
@[simp] theorem setTmplRun_caps (n : Nat) (r : TmplRun) : (setTmplRun n r s).caps = s.caps := rfl
@[simp] theorem setTmplRun_oqs (n : Nat) (r : TmplRun) : (setTmplRun n r s).oqs = s.oqs := rfl
@[simp] theorem setTmplRun_iqs (n : Nat) (r : TmplRun) : (setTmplRun n r s).iqs = s.iqs := rfl
@[simp] theorem setTmplRun_dmaPtr (n : Nat) (r : TmplRun) : (setTmplRun n r s).dmaPtr = s.dmaPtr := rfl
@[simp] theorem setTmplRun_ports (n : Nat) (r : TmplRun) : (setTmplRun n r s).ports = s.ports := rfl
@[simp] theorem setTmplRun_txWait (n : Nat) (r : TmplRun) : (setTmplRun n r s).txWait = s.txWait := rfl
@[simp] theorem setTmplRun_wake (n : Nat) (r : TmplRun) : (setTmplRun n r s).wake = s.wake := rfl
@[simp] theorem setTmplRun_gh (n : Nat) (r : TmplRun) : (setTmplRun n r s).gh = s.gh := rfl
@[simp] theorem setTmplRun_cas (n : Nat) (r : TmplRun) : (setTmplRun n r s).cas = s.cas := rfl
@[simp] theorem setTmplRun_rtc (n : Nat) (r : TmplRun) : (setTmplRun n r s).rtc = s.rtc := rfl
@[simp] theorem setTmplRun_rcd (n : Nat) (r : TmplRun) : (setTmplRun n r s).rcd = s.rcd := rfl
@[simp] theorem setTmplRun_cnt (n : Nat) (r : TmplRun) : (setTmplRun n r s).cnt = s.cnt := rfl
@[simp] theorem setTmplRun_cntHost (n : Nat) (r : TmplRun) : (setTmplRun n r s).cntHost = s.cntHost := rfl
@[simp] theorem setTmplRun_cntMgp (n : Nat) (r : TmplRun) : (setTmplRun n r s).cntMgp = s.cntMgp := rfl
@[simp] theorem setTmplRun_pwr (n : Nat) (r : TmplRun) : (setTmplRun n r s).pwr = s.pwr := rfl
@[simp] theorem setTmplRun_nor (n : Nat) (r : TmplRun) : (setTmplRun n r s).nor = s.nor := rfl
@[simp] theorem setTmplRun_tapIr (n : Nat) (r : TmplRun) : (setTmplRun n r s).tapIr = s.tapIr := rfl
@[simp] theorem setTmplRun_pending (n : Nat) (r : TmplRun) : (setTmplRun n r s).pending = s.pending := rfl
@[simp] theorem setTmplRun_emitted (n : Nat) (r : TmplRun) : (setTmplRun n r s).emitted = s.emitted := rfl
@[simp] theorem setTmplRun_free (n : Nat) (r : TmplRun) : (setTmplRun n r s).free = s.free := rfl

/-! ### setCore -/

@[simp] theorem setCore_glb (n : Nat) (r : CoreRun) : (setCore n r s).glb = s.glb := rfl
@[simp] theorem setCore_pins (n : Nat) (r : CoreRun) : (setCore n r s).pins = s.pins := rfl
@[simp] theorem setCore_cmd (n : Nat) (r : CoreRun) : (setCore n r s).cmd = s.cmd := rfl
@[simp] theorem setCore_tb (n : Nat) (r : CoreRun) : (setCore n r s).tb = s.tb := rfl
@[simp] theorem setCore_refBus (n : Nat) (r : CoreRun) : (setCore n r s).refBus = s.refBus := rfl
@[simp] theorem setCore_phases (n : Nat) (r : CoreRun) : (setCore n r s).phases = s.phases := rfl
@[simp] theorem setCore_phaseNext (n : Nat) (r : CoreRun) : (setCore n r s).phaseNext = s.phaseNext := rfl
@[simp] theorem setCore_bank0 (n : Nat) (r : CoreRun) : (setCore n r s).bank0 = s.bank0 := rfl
@[simp] theorem setCore_bank1 (n : Nat) (r : CoreRun) : (setCore n r s).bank1 = s.bank1 := rfl
@[simp] theorem setCore_active (n : Nat) (r : CoreRun) : (setCore n r s).active = s.active := rfl
@[simp] theorem setCore_streams (n : Nat) (r : CoreRun) : (setCore n r s).streams = s.streams := rfl
@[simp] theorem setCore_filters (n : Nat) (r : CoreRun) : (setCore n r s).filters = s.filters := rfl
@[simp] theorem setCore_mst (n : Nat) (r : CoreRun) : (setCore n r s).mst = s.mst := rfl
@[simp] theorem setCore_dets (n : Nat) (r : CoreRun) : (setCore n r s).dets = s.dets := rfl
@[simp] theorem setCore_schs (n : Nat) (r : CoreRun) : (setCore n r s).schs = s.schs := rfl
@[simp] theorem setCore_pubs (n : Nat) (r : CoreRun) : (setCore n r s).pubs = s.pubs := rfl
@[simp] theorem setCore_outRuns (n : Nat) (r : CoreRun) : (setCore n r s).outRuns = s.outRuns := rfl
@[simp] theorem setCore_vchs (n : Nat) (r : CoreRun) : (setCore n r s).vchs = s.vchs := rfl
@[simp] theorem setCore_flows (n : Nat) (r : CoreRun) : (setCore n r s).flows = s.flows := rfl
@[simp] theorem setCore_caps (n : Nat) (r : CoreRun) : (setCore n r s).caps = s.caps := rfl
@[simp] theorem setCore_oqs (n : Nat) (r : CoreRun) : (setCore n r s).oqs = s.oqs := rfl
@[simp] theorem setCore_iqs (n : Nat) (r : CoreRun) : (setCore n r s).iqs = s.iqs := rfl
@[simp] theorem setCore_dmaPtr (n : Nat) (r : CoreRun) : (setCore n r s).dmaPtr = s.dmaPtr := rfl
@[simp] theorem setCore_ports (n : Nat) (r : CoreRun) : (setCore n r s).ports = s.ports := rfl
@[simp] theorem setCore_txWait (n : Nat) (r : CoreRun) : (setCore n r s).txWait = s.txWait := rfl
@[simp] theorem setCore_wake (n : Nat) (r : CoreRun) : (setCore n r s).wake = s.wake := rfl
@[simp] theorem setCore_gh (n : Nat) (r : CoreRun) : (setCore n r s).gh = s.gh := rfl
@[simp] theorem setCore_cas (n : Nat) (r : CoreRun) : (setCore n r s).cas = s.cas := rfl
@[simp] theorem setCore_rtc (n : Nat) (r : CoreRun) : (setCore n r s).rtc = s.rtc := rfl
@[simp] theorem setCore_rcd (n : Nat) (r : CoreRun) : (setCore n r s).rcd = s.rcd := rfl
@[simp] theorem setCore_cnt (n : Nat) (r : CoreRun) : (setCore n r s).cnt = s.cnt := rfl
@[simp] theorem setCore_cntHost (n : Nat) (r : CoreRun) : (setCore n r s).cntHost = s.cntHost := rfl
@[simp] theorem setCore_cntMgp (n : Nat) (r : CoreRun) : (setCore n r s).cntMgp = s.cntMgp := rfl
@[simp] theorem setCore_pwr (n : Nat) (r : CoreRun) : (setCore n r s).pwr = s.pwr := rfl
@[simp] theorem setCore_nor (n : Nat) (r : CoreRun) : (setCore n r s).nor = s.nor := rfl
@[simp] theorem setCore_tapIr (n : Nat) (r : CoreRun) : (setCore n r s).tapIr = s.tapIr := rfl
@[simp] theorem setCore_pending (n : Nat) (r : CoreRun) : (setCore n r s).pending = s.pending := rfl
@[simp] theorem setCore_emitted (n : Nat) (r : CoreRun) : (setCore n r s).emitted = s.emitted := rfl
@[simp] theorem setCore_free (n : Nat) (r : CoreRun) : (setCore n r s).free = s.free := rfl

/-! ### setOutRun -/

@[simp] theorem setOutRun_glb (n : Nat) (r : OutRun) : (setOutRun n r s).glb = s.glb := rfl
@[simp] theorem setOutRun_pins (n : Nat) (r : OutRun) : (setOutRun n r s).pins = s.pins := rfl
@[simp] theorem setOutRun_cmd (n : Nat) (r : OutRun) : (setOutRun n r s).cmd = s.cmd := rfl
@[simp] theorem setOutRun_tb (n : Nat) (r : OutRun) : (setOutRun n r s).tb = s.tb := rfl
@[simp] theorem setOutRun_refBus (n : Nat) (r : OutRun) : (setOutRun n r s).refBus = s.refBus := rfl
@[simp] theorem setOutRun_phases (n : Nat) (r : OutRun) : (setOutRun n r s).phases = s.phases := rfl
@[simp] theorem setOutRun_phaseNext (n : Nat) (r : OutRun) : (setOutRun n r s).phaseNext = s.phaseNext := rfl
@[simp] theorem setOutRun_bank0 (n : Nat) (r : OutRun) : (setOutRun n r s).bank0 = s.bank0 := rfl
@[simp] theorem setOutRun_bank1 (n : Nat) (r : OutRun) : (setOutRun n r s).bank1 = s.bank1 := rfl
@[simp] theorem setOutRun_active (n : Nat) (r : OutRun) : (setOutRun n r s).active = s.active := rfl
@[simp] theorem setOutRun_streams (n : Nat) (r : OutRun) : (setOutRun n r s).streams = s.streams := rfl
@[simp] theorem setOutRun_filters (n : Nat) (r : OutRun) : (setOutRun n r s).filters = s.filters := rfl
@[simp] theorem setOutRun_mst (n : Nat) (r : OutRun) : (setOutRun n r s).mst = s.mst := rfl
@[simp] theorem setOutRun_disp (n : Nat) (r : OutRun) : (setOutRun n r s).disp = s.disp := rfl
@[simp] theorem setOutRun_dets (n : Nat) (r : OutRun) : (setOutRun n r s).dets = s.dets := rfl
@[simp] theorem setOutRun_schs (n : Nat) (r : OutRun) : (setOutRun n r s).schs = s.schs := rfl
@[simp] theorem setOutRun_pubs (n : Nat) (r : OutRun) : (setOutRun n r s).pubs = s.pubs := rfl
@[simp] theorem setOutRun_vchs (n : Nat) (r : OutRun) : (setOutRun n r s).vchs = s.vchs := rfl
@[simp] theorem setOutRun_flows (n : Nat) (r : OutRun) : (setOutRun n r s).flows = s.flows := rfl
@[simp] theorem setOutRun_caps (n : Nat) (r : OutRun) : (setOutRun n r s).caps = s.caps := rfl
@[simp] theorem setOutRun_oqs (n : Nat) (r : OutRun) : (setOutRun n r s).oqs = s.oqs := rfl
@[simp] theorem setOutRun_iqs (n : Nat) (r : OutRun) : (setOutRun n r s).iqs = s.iqs := rfl
@[simp] theorem setOutRun_dmaPtr (n : Nat) (r : OutRun) : (setOutRun n r s).dmaPtr = s.dmaPtr := rfl
@[simp] theorem setOutRun_ports (n : Nat) (r : OutRun) : (setOutRun n r s).ports = s.ports := rfl
@[simp] theorem setOutRun_txWait (n : Nat) (r : OutRun) : (setOutRun n r s).txWait = s.txWait := rfl
@[simp] theorem setOutRun_wake (n : Nat) (r : OutRun) : (setOutRun n r s).wake = s.wake := rfl
@[simp] theorem setOutRun_gh (n : Nat) (r : OutRun) : (setOutRun n r s).gh = s.gh := rfl
@[simp] theorem setOutRun_cas (n : Nat) (r : OutRun) : (setOutRun n r s).cas = s.cas := rfl
@[simp] theorem setOutRun_rtc (n : Nat) (r : OutRun) : (setOutRun n r s).rtc = s.rtc := rfl
@[simp] theorem setOutRun_rcd (n : Nat) (r : OutRun) : (setOutRun n r s).rcd = s.rcd := rfl
@[simp] theorem setOutRun_cnt (n : Nat) (r : OutRun) : (setOutRun n r s).cnt = s.cnt := rfl
@[simp] theorem setOutRun_cntHost (n : Nat) (r : OutRun) : (setOutRun n r s).cntHost = s.cntHost := rfl
@[simp] theorem setOutRun_cntMgp (n : Nat) (r : OutRun) : (setOutRun n r s).cntMgp = s.cntMgp := rfl
@[simp] theorem setOutRun_pwr (n : Nat) (r : OutRun) : (setOutRun n r s).pwr = s.pwr := rfl
@[simp] theorem setOutRun_nor (n : Nat) (r : OutRun) : (setOutRun n r s).nor = s.nor := rfl
@[simp] theorem setOutRun_tapIr (n : Nat) (r : OutRun) : (setOutRun n r s).tapIr = s.tapIr := rfl
@[simp] theorem setOutRun_pending (n : Nat) (r : OutRun) : (setOutRun n r s).pending = s.pending := rfl
@[simp] theorem setOutRun_emitted (n : Nat) (r : OutRun) : (setOutRun n r s).emitted = s.emitted := rfl
@[simp] theorem setOutRun_free (n : Nat) (r : OutRun) : (setOutRun n r s).free = s.free := rfl

/-! ### setDet -/

@[simp] theorem setDet_glb (n : Nat) (r : DetRun) : (setDet n r s).glb = s.glb := rfl
@[simp] theorem setDet_pins (n : Nat) (r : DetRun) : (setDet n r s).pins = s.pins := rfl
@[simp] theorem setDet_cmd (n : Nat) (r : DetRun) : (setDet n r s).cmd = s.cmd := rfl
@[simp] theorem setDet_tb (n : Nat) (r : DetRun) : (setDet n r s).tb = s.tb := rfl
@[simp] theorem setDet_refBus (n : Nat) (r : DetRun) : (setDet n r s).refBus = s.refBus := rfl
@[simp] theorem setDet_phases (n : Nat) (r : DetRun) : (setDet n r s).phases = s.phases := rfl
@[simp] theorem setDet_phaseNext (n : Nat) (r : DetRun) : (setDet n r s).phaseNext = s.phaseNext := rfl
@[simp] theorem setDet_bank0 (n : Nat) (r : DetRun) : (setDet n r s).bank0 = s.bank0 := rfl
@[simp] theorem setDet_bank1 (n : Nat) (r : DetRun) : (setDet n r s).bank1 = s.bank1 := rfl
@[simp] theorem setDet_active (n : Nat) (r : DetRun) : (setDet n r s).active = s.active := rfl
@[simp] theorem setDet_streams (n : Nat) (r : DetRun) : (setDet n r s).streams = s.streams := rfl
@[simp] theorem setDet_filters (n : Nat) (r : DetRun) : (setDet n r s).filters = s.filters := rfl
@[simp] theorem setDet_mst (n : Nat) (r : DetRun) : (setDet n r s).mst = s.mst := rfl
@[simp] theorem setDet_disp (n : Nat) (r : DetRun) : (setDet n r s).disp = s.disp := rfl
@[simp] theorem setDet_schs (n : Nat) (r : DetRun) : (setDet n r s).schs = s.schs := rfl
@[simp] theorem setDet_pubs (n : Nat) (r : DetRun) : (setDet n r s).pubs = s.pubs := rfl
@[simp] theorem setDet_outRuns (n : Nat) (r : DetRun) : (setDet n r s).outRuns = s.outRuns := rfl
@[simp] theorem setDet_vchs (n : Nat) (r : DetRun) : (setDet n r s).vchs = s.vchs := rfl
@[simp] theorem setDet_flows (n : Nat) (r : DetRun) : (setDet n r s).flows = s.flows := rfl
@[simp] theorem setDet_caps (n : Nat) (r : DetRun) : (setDet n r s).caps = s.caps := rfl
@[simp] theorem setDet_oqs (n : Nat) (r : DetRun) : (setDet n r s).oqs = s.oqs := rfl
@[simp] theorem setDet_iqs (n : Nat) (r : DetRun) : (setDet n r s).iqs = s.iqs := rfl
@[simp] theorem setDet_dmaPtr (n : Nat) (r : DetRun) : (setDet n r s).dmaPtr = s.dmaPtr := rfl
@[simp] theorem setDet_ports (n : Nat) (r : DetRun) : (setDet n r s).ports = s.ports := rfl
@[simp] theorem setDet_txWait (n : Nat) (r : DetRun) : (setDet n r s).txWait = s.txWait := rfl
@[simp] theorem setDet_wake (n : Nat) (r : DetRun) : (setDet n r s).wake = s.wake := rfl
@[simp] theorem setDet_gh (n : Nat) (r : DetRun) : (setDet n r s).gh = s.gh := rfl
@[simp] theorem setDet_cas (n : Nat) (r : DetRun) : (setDet n r s).cas = s.cas := rfl
@[simp] theorem setDet_rtc (n : Nat) (r : DetRun) : (setDet n r s).rtc = s.rtc := rfl
@[simp] theorem setDet_rcd (n : Nat) (r : DetRun) : (setDet n r s).rcd = s.rcd := rfl
@[simp] theorem setDet_cnt (n : Nat) (r : DetRun) : (setDet n r s).cnt = s.cnt := rfl
@[simp] theorem setDet_cntHost (n : Nat) (r : DetRun) : (setDet n r s).cntHost = s.cntHost := rfl
@[simp] theorem setDet_cntMgp (n : Nat) (r : DetRun) : (setDet n r s).cntMgp = s.cntMgp := rfl
@[simp] theorem setDet_pwr (n : Nat) (r : DetRun) : (setDet n r s).pwr = s.pwr := rfl
@[simp] theorem setDet_nor (n : Nat) (r : DetRun) : (setDet n r s).nor = s.nor := rfl
@[simp] theorem setDet_tapIr (n : Nat) (r : DetRun) : (setDet n r s).tapIr = s.tapIr := rfl
@[simp] theorem setDet_pending (n : Nat) (r : DetRun) : (setDet n r s).pending = s.pending := rfl
@[simp] theorem setDet_emitted (n : Nat) (r : DetRun) : (setDet n r s).emitted = s.emitted := rfl
@[simp] theorem setDet_free (n : Nat) (r : DetRun) : (setDet n r s).free = s.free := rfl

/-! ### setLocker -/

@[simp] theorem setLocker_glb (n : Nat) (l : Locker) : (setLocker n l s).glb = s.glb := rfl
@[simp] theorem setLocker_pins (n : Nat) (l : Locker) : (setLocker n l s).pins = s.pins := rfl
@[simp] theorem setLocker_cmd (n : Nat) (l : Locker) : (setLocker n l s).cmd = s.cmd := rfl
@[simp] theorem setLocker_tb (n : Nat) (l : Locker) : (setLocker n l s).tb = s.tb := rfl
@[simp] theorem setLocker_refBus (n : Nat) (l : Locker) : (setLocker n l s).refBus = s.refBus := rfl
@[simp] theorem setLocker_phases (n : Nat) (l : Locker) : (setLocker n l s).phases = s.phases := rfl
@[simp] theorem setLocker_phaseNext (n : Nat) (l : Locker) : (setLocker n l s).phaseNext = s.phaseNext := rfl
@[simp] theorem setLocker_bank0 (n : Nat) (l : Locker) : (setLocker n l s).bank0 = s.bank0 := rfl
@[simp] theorem setLocker_bank1 (n : Nat) (l : Locker) : (setLocker n l s).bank1 = s.bank1 := rfl
@[simp] theorem setLocker_active (n : Nat) (l : Locker) : (setLocker n l s).active = s.active := rfl
@[simp] theorem setLocker_streams (n : Nat) (l : Locker) : (setLocker n l s).streams = s.streams := rfl
@[simp] theorem setLocker_filters (n : Nat) (l : Locker) : (setLocker n l s).filters = s.filters := rfl
@[simp] theorem setLocker_mst (n : Nat) (l : Locker) : (setLocker n l s).mst = s.mst := rfl
@[simp] theorem setLocker_disp (n : Nat) (l : Locker) : (setLocker n l s).disp = s.disp := rfl
@[simp] theorem setLocker_dets (n : Nat) (l : Locker) : (setLocker n l s).dets = s.dets := rfl
@[simp] theorem setLocker_schs (n : Nat) (l : Locker) : (setLocker n l s).schs = s.schs := rfl
@[simp] theorem setLocker_pubs (n : Nat) (l : Locker) : (setLocker n l s).pubs = s.pubs := rfl
@[simp] theorem setLocker_outRuns (n : Nat) (l : Locker) : (setLocker n l s).outRuns = s.outRuns := rfl
@[simp] theorem setLocker_vchs (n : Nat) (l : Locker) : (setLocker n l s).vchs = s.vchs := rfl
@[simp] theorem setLocker_flows (n : Nat) (l : Locker) : (setLocker n l s).flows = s.flows := rfl
@[simp] theorem setLocker_caps (n : Nat) (l : Locker) : (setLocker n l s).caps = s.caps := rfl
@[simp] theorem setLocker_oqs (n : Nat) (l : Locker) : (setLocker n l s).oqs = s.oqs := rfl
@[simp] theorem setLocker_iqs (n : Nat) (l : Locker) : (setLocker n l s).iqs = s.iqs := rfl
@[simp] theorem setLocker_dmaPtr (n : Nat) (l : Locker) : (setLocker n l s).dmaPtr = s.dmaPtr := rfl
@[simp] theorem setLocker_ports (n : Nat) (l : Locker) : (setLocker n l s).ports = s.ports := rfl
@[simp] theorem setLocker_txWait (n : Nat) (l : Locker) : (setLocker n l s).txWait = s.txWait := rfl
@[simp] theorem setLocker_wake (n : Nat) (l : Locker) : (setLocker n l s).wake = s.wake := rfl
@[simp] theorem setLocker_cas (n : Nat) (l : Locker) : (setLocker n l s).cas = s.cas := rfl
@[simp] theorem setLocker_rtc (n : Nat) (l : Locker) : (setLocker n l s).rtc = s.rtc := rfl
@[simp] theorem setLocker_rcd (n : Nat) (l : Locker) : (setLocker n l s).rcd = s.rcd := rfl
@[simp] theorem setLocker_cnt (n : Nat) (l : Locker) : (setLocker n l s).cnt = s.cnt := rfl
@[simp] theorem setLocker_cntHost (n : Nat) (l : Locker) : (setLocker n l s).cntHost = s.cntHost := rfl
@[simp] theorem setLocker_cntMgp (n : Nat) (l : Locker) : (setLocker n l s).cntMgp = s.cntMgp := rfl
@[simp] theorem setLocker_pwr (n : Nat) (l : Locker) : (setLocker n l s).pwr = s.pwr := rfl
@[simp] theorem setLocker_nor (n : Nat) (l : Locker) : (setLocker n l s).nor = s.nor := rfl
@[simp] theorem setLocker_tapIr (n : Nat) (l : Locker) : (setLocker n l s).tapIr = s.tapIr := rfl
@[simp] theorem setLocker_pending (n : Nat) (l : Locker) : (setLocker n l s).pending = s.pending := rfl
@[simp] theorem setLocker_emitted (n : Nat) (l : Locker) : (setLocker n l s).emitted = s.emitted := rfl
@[simp] theorem setLocker_free (n : Nat) (l : Locker) : (setLocker n l s).free = s.free := rfl

/-! ### setHeld -/

@[simp] theorem setHeld_glb (g c : Nat) (v : ChanVal) : (setHeld g c v s).glb = s.glb := rfl
@[simp] theorem setHeld_pins (g c : Nat) (v : ChanVal) : (setHeld g c v s).pins = s.pins := rfl
@[simp] theorem setHeld_cmd (g c : Nat) (v : ChanVal) : (setHeld g c v s).cmd = s.cmd := rfl
@[simp] theorem setHeld_tb (g c : Nat) (v : ChanVal) : (setHeld g c v s).tb = s.tb := rfl
@[simp] theorem setHeld_refBus (g c : Nat) (v : ChanVal) : (setHeld g c v s).refBus = s.refBus := rfl
@[simp] theorem setHeld_phases (g c : Nat) (v : ChanVal) : (setHeld g c v s).phases = s.phases := rfl
@[simp] theorem setHeld_phaseNext (g c : Nat) (v : ChanVal) : (setHeld g c v s).phaseNext = s.phaseNext := rfl
@[simp] theorem setHeld_bank0 (g c : Nat) (v : ChanVal) : (setHeld g c v s).bank0 = s.bank0 := rfl
@[simp] theorem setHeld_bank1 (g c : Nat) (v : ChanVal) : (setHeld g c v s).bank1 = s.bank1 := rfl
@[simp] theorem setHeld_active (g c : Nat) (v : ChanVal) : (setHeld g c v s).active = s.active := rfl
@[simp] theorem setHeld_streams (g c : Nat) (v : ChanVal) : (setHeld g c v s).streams = s.streams := rfl
@[simp] theorem setHeld_filters (g c : Nat) (v : ChanVal) : (setHeld g c v s).filters = s.filters := rfl
@[simp] theorem setHeld_disp (g c : Nat) (v : ChanVal) : (setHeld g c v s).disp = s.disp := rfl
@[simp] theorem setHeld_dets (g c : Nat) (v : ChanVal) : (setHeld g c v s).dets = s.dets := rfl
@[simp] theorem setHeld_schs (g c : Nat) (v : ChanVal) : (setHeld g c v s).schs = s.schs := rfl
@[simp] theorem setHeld_pubs (g c : Nat) (v : ChanVal) : (setHeld g c v s).pubs = s.pubs := rfl
@[simp] theorem setHeld_outRuns (g c : Nat) (v : ChanVal) : (setHeld g c v s).outRuns = s.outRuns := rfl
@[simp] theorem setHeld_vchs (g c : Nat) (v : ChanVal) : (setHeld g c v s).vchs = s.vchs := rfl
@[simp] theorem setHeld_flows (g c : Nat) (v : ChanVal) : (setHeld g c v s).flows = s.flows := rfl
@[simp] theorem setHeld_caps (g c : Nat) (v : ChanVal) : (setHeld g c v s).caps = s.caps := rfl
@[simp] theorem setHeld_oqs (g c : Nat) (v : ChanVal) : (setHeld g c v s).oqs = s.oqs := rfl
@[simp] theorem setHeld_iqs (g c : Nat) (v : ChanVal) : (setHeld g c v s).iqs = s.iqs := rfl
@[simp] theorem setHeld_dmaPtr (g c : Nat) (v : ChanVal) : (setHeld g c v s).dmaPtr = s.dmaPtr := rfl
@[simp] theorem setHeld_ports (g c : Nat) (v : ChanVal) : (setHeld g c v s).ports = s.ports := rfl
@[simp] theorem setHeld_txWait (g c : Nat) (v : ChanVal) : (setHeld g c v s).txWait = s.txWait := rfl
@[simp] theorem setHeld_wake (g c : Nat) (v : ChanVal) : (setHeld g c v s).wake = s.wake := rfl
@[simp] theorem setHeld_gh (g c : Nat) (v : ChanVal) : (setHeld g c v s).gh = s.gh := rfl
@[simp] theorem setHeld_cas (g c : Nat) (v : ChanVal) : (setHeld g c v s).cas = s.cas := rfl
@[simp] theorem setHeld_rtc (g c : Nat) (v : ChanVal) : (setHeld g c v s).rtc = s.rtc := rfl
@[simp] theorem setHeld_rcd (g c : Nat) (v : ChanVal) : (setHeld g c v s).rcd = s.rcd := rfl
@[simp] theorem setHeld_cnt (g c : Nat) (v : ChanVal) : (setHeld g c v s).cnt = s.cnt := rfl
@[simp] theorem setHeld_cntHost (g c : Nat) (v : ChanVal) : (setHeld g c v s).cntHost = s.cntHost := rfl
@[simp] theorem setHeld_cntMgp (g c : Nat) (v : ChanVal) : (setHeld g c v s).cntMgp = s.cntMgp := rfl
@[simp] theorem setHeld_pwr (g c : Nat) (v : ChanVal) : (setHeld g c v s).pwr = s.pwr := rfl
@[simp] theorem setHeld_nor (g c : Nat) (v : ChanVal) : (setHeld g c v s).nor = s.nor := rfl
@[simp] theorem setHeld_tapIr (g c : Nat) (v : ChanVal) : (setHeld g c v s).tapIr = s.tapIr := rfl
@[simp] theorem setHeld_pending (g c : Nat) (v : ChanVal) : (setHeld g c v s).pending = s.pending := rfl
@[simp] theorem setHeld_emitted (g c : Nat) (v : ChanVal) : (setHeld g c v s).emitted = s.emitted := rfl
@[simp] theorem setHeld_free (g c : Nat) (v : ChanVal) : (setHeld g c v s).free = s.free := rfl

/-! ### prpAdvance -/

@[simp] theorem prpAdvance_glb (p : Nat) : (prpAdvance p s).glb = s.glb := rfl
@[simp] theorem prpAdvance_pins (p : Nat) : (prpAdvance p s).pins = s.pins := rfl
@[simp] theorem prpAdvance_cmd (p : Nat) : (prpAdvance p s).cmd = s.cmd := rfl
@[simp] theorem prpAdvance_tb (p : Nat) : (prpAdvance p s).tb = s.tb := rfl
@[simp] theorem prpAdvance_refBus (p : Nat) : (prpAdvance p s).refBus = s.refBus := rfl
@[simp] theorem prpAdvance_phases (p : Nat) : (prpAdvance p s).phases = s.phases := rfl
@[simp] theorem prpAdvance_phaseNext (p : Nat) : (prpAdvance p s).phaseNext = s.phaseNext := rfl
@[simp] theorem prpAdvance_bank0 (p : Nat) : (prpAdvance p s).bank0 = s.bank0 := rfl
@[simp] theorem prpAdvance_bank1 (p : Nat) : (prpAdvance p s).bank1 = s.bank1 := rfl
@[simp] theorem prpAdvance_active (p : Nat) : (prpAdvance p s).active = s.active := rfl
@[simp] theorem prpAdvance_streams (p : Nat) : (prpAdvance p s).streams = s.streams := rfl
@[simp] theorem prpAdvance_filters (p : Nat) : (prpAdvance p s).filters = s.filters := rfl
@[simp] theorem prpAdvance_mst (p : Nat) : (prpAdvance p s).mst = s.mst := rfl
@[simp] theorem prpAdvance_disp (p : Nat) : (prpAdvance p s).disp = s.disp := rfl
@[simp] theorem prpAdvance_dets (p : Nat) : (prpAdvance p s).dets = s.dets := rfl
@[simp] theorem prpAdvance_schs (p : Nat) : (prpAdvance p s).schs = s.schs := rfl
@[simp] theorem prpAdvance_pubs (p : Nat) : (prpAdvance p s).pubs = s.pubs := rfl
@[simp] theorem prpAdvance_outRuns (p : Nat) : (prpAdvance p s).outRuns = s.outRuns := rfl
@[simp] theorem prpAdvance_vchs (p : Nat) : (prpAdvance p s).vchs = s.vchs := rfl
@[simp] theorem prpAdvance_flows (p : Nat) : (prpAdvance p s).flows = s.flows := rfl
@[simp] theorem prpAdvance_caps (p : Nat) : (prpAdvance p s).caps = s.caps := rfl
@[simp] theorem prpAdvance_oqs (p : Nat) : (prpAdvance p s).oqs = s.oqs := rfl
@[simp] theorem prpAdvance_iqs (p : Nat) : (prpAdvance p s).iqs = s.iqs := rfl
@[simp] theorem prpAdvance_dmaPtr (p : Nat) : (prpAdvance p s).dmaPtr = s.dmaPtr := rfl
@[simp] theorem prpAdvance_txWait (p : Nat) : (prpAdvance p s).txWait = s.txWait := rfl
@[simp] theorem prpAdvance_wake (p : Nat) : (prpAdvance p s).wake = s.wake := rfl
@[simp] theorem prpAdvance_gh (p : Nat) : (prpAdvance p s).gh = s.gh := rfl
@[simp] theorem prpAdvance_cas (p : Nat) : (prpAdvance p s).cas = s.cas := rfl
@[simp] theorem prpAdvance_rtc (p : Nat) : (prpAdvance p s).rtc = s.rtc := rfl
@[simp] theorem prpAdvance_rcd (p : Nat) : (prpAdvance p s).rcd = s.rcd := rfl
@[simp] theorem prpAdvance_cnt (p : Nat) : (prpAdvance p s).cnt = s.cnt := rfl
@[simp] theorem prpAdvance_cntHost (p : Nat) : (prpAdvance p s).cntHost = s.cntHost := rfl
@[simp] theorem prpAdvance_cntMgp (p : Nat) : (prpAdvance p s).cntMgp = s.cntMgp := rfl
@[simp] theorem prpAdvance_pwr (p : Nat) : (prpAdvance p s).pwr = s.pwr := rfl
@[simp] theorem prpAdvance_nor (p : Nat) : (prpAdvance p s).nor = s.nor := rfl
@[simp] theorem prpAdvance_tapIr (p : Nat) : (prpAdvance p s).tapIr = s.tapIr := rfl
@[simp] theorem prpAdvance_pending (p : Nat) : (prpAdvance p s).pending = s.pending := rfl
@[simp] theorem prpAdvance_emitted (p : Nat) : (prpAdvance p s).emitted = s.emitted := rfl
@[simp] theorem prpAdvance_free (p : Nat) : (prpAdvance p s).free = s.free := rfl

/-! ### setPub -/

@[simp] theorem setPub_glb (n : Nat) (r : PubRun) : (setPub n r s).glb = s.glb := rfl
@[simp] theorem setPub_pins (n : Nat) (r : PubRun) : (setPub n r s).pins = s.pins := rfl
@[simp] theorem setPub_cmd (n : Nat) (r : PubRun) : (setPub n r s).cmd = s.cmd := rfl
@[simp] theorem setPub_tb (n : Nat) (r : PubRun) : (setPub n r s).tb = s.tb := rfl
@[simp] theorem setPub_refBus (n : Nat) (r : PubRun) : (setPub n r s).refBus = s.refBus := rfl
@[simp] theorem setPub_phases (n : Nat) (r : PubRun) : (setPub n r s).phases = s.phases := rfl
@[simp] theorem setPub_phaseNext (n : Nat) (r : PubRun) : (setPub n r s).phaseNext = s.phaseNext := rfl
@[simp] theorem setPub_bank0 (n : Nat) (r : PubRun) : (setPub n r s).bank0 = s.bank0 := rfl
@[simp] theorem setPub_bank1 (n : Nat) (r : PubRun) : (setPub n r s).bank1 = s.bank1 := rfl
@[simp] theorem setPub_active (n : Nat) (r : PubRun) : (setPub n r s).active = s.active := rfl
@[simp] theorem setPub_streams (n : Nat) (r : PubRun) : (setPub n r s).streams = s.streams := rfl
@[simp] theorem setPub_filters (n : Nat) (r : PubRun) : (setPub n r s).filters = s.filters := rfl
@[simp] theorem setPub_mst (n : Nat) (r : PubRun) : (setPub n r s).mst = s.mst := rfl
@[simp] theorem setPub_disp (n : Nat) (r : PubRun) : (setPub n r s).disp = s.disp := rfl
@[simp] theorem setPub_dets (n : Nat) (r : PubRun) : (setPub n r s).dets = s.dets := rfl
@[simp] theorem setPub_schs (n : Nat) (r : PubRun) : (setPub n r s).schs = s.schs := rfl
@[simp] theorem setPub_outRuns (n : Nat) (r : PubRun) : (setPub n r s).outRuns = s.outRuns := rfl
@[simp] theorem setPub_vchs (n : Nat) (r : PubRun) : (setPub n r s).vchs = s.vchs := rfl
@[simp] theorem setPub_flows (n : Nat) (r : PubRun) : (setPub n r s).flows = s.flows := rfl
@[simp] theorem setPub_caps (n : Nat) (r : PubRun) : (setPub n r s).caps = s.caps := rfl
@[simp] theorem setPub_oqs (n : Nat) (r : PubRun) : (setPub n r s).oqs = s.oqs := rfl
@[simp] theorem setPub_iqs (n : Nat) (r : PubRun) : (setPub n r s).iqs = s.iqs := rfl
@[simp] theorem setPub_dmaPtr (n : Nat) (r : PubRun) : (setPub n r s).dmaPtr = s.dmaPtr := rfl
@[simp] theorem setPub_ports (n : Nat) (r : PubRun) : (setPub n r s).ports = s.ports := rfl
@[simp] theorem setPub_txWait (n : Nat) (r : PubRun) : (setPub n r s).txWait = s.txWait := rfl
@[simp] theorem setPub_wake (n : Nat) (r : PubRun) : (setPub n r s).wake = s.wake := rfl
@[simp] theorem setPub_gh (n : Nat) (r : PubRun) : (setPub n r s).gh = s.gh := rfl
@[simp] theorem setPub_cas (n : Nat) (r : PubRun) : (setPub n r s).cas = s.cas := rfl
@[simp] theorem setPub_rtc (n : Nat) (r : PubRun) : (setPub n r s).rtc = s.rtc := rfl
@[simp] theorem setPub_rcd (n : Nat) (r : PubRun) : (setPub n r s).rcd = s.rcd := rfl
@[simp] theorem setPub_cnt (n : Nat) (r : PubRun) : (setPub n r s).cnt = s.cnt := rfl
@[simp] theorem setPub_cntHost (n : Nat) (r : PubRun) : (setPub n r s).cntHost = s.cntHost := rfl
@[simp] theorem setPub_cntMgp (n : Nat) (r : PubRun) : (setPub n r s).cntMgp = s.cntMgp := rfl
@[simp] theorem setPub_pwr (n : Nat) (r : PubRun) : (setPub n r s).pwr = s.pwr := rfl
@[simp] theorem setPub_nor (n : Nat) (r : PubRun) : (setPub n r s).nor = s.nor := rfl
@[simp] theorem setPub_tapIr (n : Nat) (r : PubRun) : (setPub n r s).tapIr = s.tapIr := rfl
@[simp] theorem setPub_pending (n : Nat) (r : PubRun) : (setPub n r s).pending = s.pending := rfl
@[simp] theorem setPub_emitted (n : Nat) (r : PubRun) : (setPub n r s).emitted = s.emitted := rfl
@[simp] theorem setPub_free (n : Nat) (r : PubRun) : (setPub n r s).free = s.free := rfl

/-! ### setInst -/

@[simp] theorem setInst_glb (i : GroupInst) : (setInst i s).glb = s.glb := rfl
@[simp] theorem setInst_pins (i : GroupInst) : (setInst i s).pins = s.pins := rfl
@[simp] theorem setInst_cmd (i : GroupInst) : (setInst i s).cmd = s.cmd := rfl
@[simp] theorem setInst_tb (i : GroupInst) : (setInst i s).tb = s.tb := rfl
@[simp] theorem setInst_refBus (i : GroupInst) : (setInst i s).refBus = s.refBus := rfl
@[simp] theorem setInst_phases (i : GroupInst) : (setInst i s).phases = s.phases := rfl
@[simp] theorem setInst_phaseNext (i : GroupInst) : (setInst i s).phaseNext = s.phaseNext := rfl
@[simp] theorem setInst_bank0 (i : GroupInst) : (setInst i s).bank0 = s.bank0 := rfl
@[simp] theorem setInst_bank1 (i : GroupInst) : (setInst i s).bank1 = s.bank1 := rfl
@[simp] theorem setInst_active (i : GroupInst) : (setInst i s).active = s.active := rfl
@[simp] theorem setInst_streams (i : GroupInst) : (setInst i s).streams = s.streams := rfl
@[simp] theorem setInst_filters (i : GroupInst) : (setInst i s).filters = s.filters := rfl
@[simp] theorem setInst_disp (i : GroupInst) : (setInst i s).disp = s.disp := rfl
@[simp] theorem setInst_dets (i : GroupInst) : (setInst i s).dets = s.dets := rfl
@[simp] theorem setInst_schs (i : GroupInst) : (setInst i s).schs = s.schs := rfl
@[simp] theorem setInst_pubs (i : GroupInst) : (setInst i s).pubs = s.pubs := rfl
@[simp] theorem setInst_outRuns (i : GroupInst) : (setInst i s).outRuns = s.outRuns := rfl
@[simp] theorem setInst_vchs (i : GroupInst) : (setInst i s).vchs = s.vchs := rfl
@[simp] theorem setInst_flows (i : GroupInst) : (setInst i s).flows = s.flows := rfl
@[simp] theorem setInst_caps (i : GroupInst) : (setInst i s).caps = s.caps := rfl
@[simp] theorem setInst_oqs (i : GroupInst) : (setInst i s).oqs = s.oqs := rfl
@[simp] theorem setInst_iqs (i : GroupInst) : (setInst i s).iqs = s.iqs := rfl
@[simp] theorem setInst_dmaPtr (i : GroupInst) : (setInst i s).dmaPtr = s.dmaPtr := rfl
@[simp] theorem setInst_ports (i : GroupInst) : (setInst i s).ports = s.ports := rfl
@[simp] theorem setInst_txWait (i : GroupInst) : (setInst i s).txWait = s.txWait := rfl
@[simp] theorem setInst_wake (i : GroupInst) : (setInst i s).wake = s.wake := rfl
@[simp] theorem setInst_gh (i : GroupInst) : (setInst i s).gh = s.gh := rfl
@[simp] theorem setInst_cas (i : GroupInst) : (setInst i s).cas = s.cas := rfl
@[simp] theorem setInst_rtc (i : GroupInst) : (setInst i s).rtc = s.rtc := rfl
@[simp] theorem setInst_rcd (i : GroupInst) : (setInst i s).rcd = s.rcd := rfl
@[simp] theorem setInst_cnt (i : GroupInst) : (setInst i s).cnt = s.cnt := rfl
@[simp] theorem setInst_cntHost (i : GroupInst) : (setInst i s).cntHost = s.cntHost := rfl
@[simp] theorem setInst_cntMgp (i : GroupInst) : (setInst i s).cntMgp = s.cntMgp := rfl
@[simp] theorem setInst_pwr (i : GroupInst) : (setInst i s).pwr = s.pwr := rfl
@[simp] theorem setInst_nor (i : GroupInst) : (setInst i s).nor = s.nor := rfl
@[simp] theorem setInst_tapIr (i : GroupInst) : (setInst i s).tapIr = s.tapIr := rfl
@[simp] theorem setInst_pending (i : GroupInst) : (setInst i s).pending = s.pending := rfl
@[simp] theorem setInst_emitted (i : GroupInst) : (setInst i s).emitted = s.emitted := rfl
@[simp] theorem setInst_free (i : GroupInst) : (setInst i s).free = s.free := rfl

/-! ### dropInst -/

@[simp] theorem dropInst_glb (g : Nat) (t : Instant) : (dropInst g t s).glb = s.glb := rfl
@[simp] theorem dropInst_pins (g : Nat) (t : Instant) : (dropInst g t s).pins = s.pins := rfl
@[simp] theorem dropInst_cmd (g : Nat) (t : Instant) : (dropInst g t s).cmd = s.cmd := rfl
@[simp] theorem dropInst_tb (g : Nat) (t : Instant) : (dropInst g t s).tb = s.tb := rfl
@[simp] theorem dropInst_refBus (g : Nat) (t : Instant) : (dropInst g t s).refBus = s.refBus := rfl
@[simp] theorem dropInst_phases (g : Nat) (t : Instant) : (dropInst g t s).phases = s.phases := rfl
@[simp] theorem dropInst_phaseNext (g : Nat) (t : Instant) : (dropInst g t s).phaseNext = s.phaseNext := rfl
@[simp] theorem dropInst_bank0 (g : Nat) (t : Instant) : (dropInst g t s).bank0 = s.bank0 := rfl
@[simp] theorem dropInst_bank1 (g : Nat) (t : Instant) : (dropInst g t s).bank1 = s.bank1 := rfl
@[simp] theorem dropInst_active (g : Nat) (t : Instant) : (dropInst g t s).active = s.active := rfl
@[simp] theorem dropInst_streams (g : Nat) (t : Instant) : (dropInst g t s).streams = s.streams := rfl
@[simp] theorem dropInst_filters (g : Nat) (t : Instant) : (dropInst g t s).filters = s.filters := rfl
@[simp] theorem dropInst_disp (g : Nat) (t : Instant) : (dropInst g t s).disp = s.disp := rfl
@[simp] theorem dropInst_dets (g : Nat) (t : Instant) : (dropInst g t s).dets = s.dets := rfl
@[simp] theorem dropInst_schs (g : Nat) (t : Instant) : (dropInst g t s).schs = s.schs := rfl
@[simp] theorem dropInst_pubs (g : Nat) (t : Instant) : (dropInst g t s).pubs = s.pubs := rfl
@[simp] theorem dropInst_outRuns (g : Nat) (t : Instant) : (dropInst g t s).outRuns = s.outRuns := rfl
@[simp] theorem dropInst_vchs (g : Nat) (t : Instant) : (dropInst g t s).vchs = s.vchs := rfl
@[simp] theorem dropInst_flows (g : Nat) (t : Instant) : (dropInst g t s).flows = s.flows := rfl
@[simp] theorem dropInst_caps (g : Nat) (t : Instant) : (dropInst g t s).caps = s.caps := rfl
@[simp] theorem dropInst_oqs (g : Nat) (t : Instant) : (dropInst g t s).oqs = s.oqs := rfl
@[simp] theorem dropInst_iqs (g : Nat) (t : Instant) : (dropInst g t s).iqs = s.iqs := rfl
@[simp] theorem dropInst_dmaPtr (g : Nat) (t : Instant) : (dropInst g t s).dmaPtr = s.dmaPtr := rfl
@[simp] theorem dropInst_ports (g : Nat) (t : Instant) : (dropInst g t s).ports = s.ports := rfl
@[simp] theorem dropInst_txWait (g : Nat) (t : Instant) : (dropInst g t s).txWait = s.txWait := rfl
@[simp] theorem dropInst_wake (g : Nat) (t : Instant) : (dropInst g t s).wake = s.wake := rfl
@[simp] theorem dropInst_gh (g : Nat) (t : Instant) : (dropInst g t s).gh = s.gh := rfl
@[simp] theorem dropInst_cas (g : Nat) (t : Instant) : (dropInst g t s).cas = s.cas := rfl
@[simp] theorem dropInst_rtc (g : Nat) (t : Instant) : (dropInst g t s).rtc = s.rtc := rfl
@[simp] theorem dropInst_rcd (g : Nat) (t : Instant) : (dropInst g t s).rcd = s.rcd := rfl
@[simp] theorem dropInst_cnt (g : Nat) (t : Instant) : (dropInst g t s).cnt = s.cnt := rfl
@[simp] theorem dropInst_cntHost (g : Nat) (t : Instant) : (dropInst g t s).cntHost = s.cntHost := rfl
@[simp] theorem dropInst_cntMgp (g : Nat) (t : Instant) : (dropInst g t s).cntMgp = s.cntMgp := rfl
@[simp] theorem dropInst_pwr (g : Nat) (t : Instant) : (dropInst g t s).pwr = s.pwr := rfl
@[simp] theorem dropInst_nor (g : Nat) (t : Instant) : (dropInst g t s).nor = s.nor := rfl
@[simp] theorem dropInst_tapIr (g : Nat) (t : Instant) : (dropInst g t s).tapIr = s.tapIr := rfl
@[simp] theorem dropInst_pending (g : Nat) (t : Instant) : (dropInst g t s).pending = s.pending := rfl
@[simp] theorem dropInst_emitted (g : Nat) (t : Instant) : (dropInst g t s).emitted = s.emitted := rfl
@[simp] theorem dropInst_free (g : Nat) (t : Instant) : (dropInst g t s).free = s.free := rfl

/-! ### cellSweep -/

@[simp] theorem cellSweep_glb : (cellSweep s).glb = s.glb := rfl
@[simp] theorem cellSweep_pins : (cellSweep s).pins = s.pins := rfl
@[simp] theorem cellSweep_cmd : (cellSweep s).cmd = s.cmd := rfl
@[simp] theorem cellSweep_tb : (cellSweep s).tb = s.tb := rfl
@[simp] theorem cellSweep_refBus : (cellSweep s).refBus = s.refBus := rfl
@[simp] theorem cellSweep_phases : (cellSweep s).phases = s.phases := rfl
@[simp] theorem cellSweep_phaseNext : (cellSweep s).phaseNext = s.phaseNext := rfl
@[simp] theorem cellSweep_bank0 : (cellSweep s).bank0 = s.bank0 := rfl
@[simp] theorem cellSweep_bank1 : (cellSweep s).bank1 = s.bank1 := rfl
@[simp] theorem cellSweep_active : (cellSweep s).active = s.active := rfl
@[simp] theorem cellSweep_streams : (cellSweep s).streams = s.streams := rfl
@[simp] theorem cellSweep_filters : (cellSweep s).filters = s.filters := rfl
@[simp] theorem cellSweep_disp : (cellSweep s).disp = s.disp := rfl
@[simp] theorem cellSweep_dets : (cellSweep s).dets = s.dets := rfl
@[simp] theorem cellSweep_schs : (cellSweep s).schs = s.schs := rfl
@[simp] theorem cellSweep_pubs : (cellSweep s).pubs = s.pubs := rfl
@[simp] theorem cellSweep_outRuns : (cellSweep s).outRuns = s.outRuns := rfl
@[simp] theorem cellSweep_vchs : (cellSweep s).vchs = s.vchs := rfl
@[simp] theorem cellSweep_flows : (cellSweep s).flows = s.flows := rfl
@[simp] theorem cellSweep_caps : (cellSweep s).caps = s.caps := rfl
@[simp] theorem cellSweep_oqs : (cellSweep s).oqs = s.oqs := rfl
@[simp] theorem cellSweep_iqs : (cellSweep s).iqs = s.iqs := rfl
@[simp] theorem cellSweep_dmaPtr : (cellSweep s).dmaPtr = s.dmaPtr := rfl
@[simp] theorem cellSweep_ports : (cellSweep s).ports = s.ports := rfl
@[simp] theorem cellSweep_txWait : (cellSweep s).txWait = s.txWait := rfl
@[simp] theorem cellSweep_wake : (cellSweep s).wake = s.wake := rfl
@[simp] theorem cellSweep_gh : (cellSweep s).gh = s.gh := rfl
@[simp] theorem cellSweep_cas : (cellSweep s).cas = s.cas := rfl
@[simp] theorem cellSweep_rtc : (cellSweep s).rtc = s.rtc := rfl
@[simp] theorem cellSweep_rcd : (cellSweep s).rcd = s.rcd := rfl
@[simp] theorem cellSweep_cnt : (cellSweep s).cnt = s.cnt := rfl
@[simp] theorem cellSweep_cntHost : (cellSweep s).cntHost = s.cntHost := rfl
@[simp] theorem cellSweep_cntMgp : (cellSweep s).cntMgp = s.cntMgp := rfl
@[simp] theorem cellSweep_pwr : (cellSweep s).pwr = s.pwr := rfl
@[simp] theorem cellSweep_nor : (cellSweep s).nor = s.nor := rfl
@[simp] theorem cellSweep_tapIr : (cellSweep s).tapIr = s.tapIr := rfl
@[simp] theorem cellSweep_pending : (cellSweep s).pending = s.pending := rfl
@[simp] theorem cellSweep_emitted : (cellSweep s).emitted = s.emitted := rfl
@[simp] theorem cellSweep_free : (cellSweep s).free = s.free := rfl

/-! ### unreference -/

@[simp] theorem unreference_glb (g : Nat) (t : Instant) : (unreference g t s).glb = s.glb := rfl
@[simp] theorem unreference_pins (g : Nat) (t : Instant) : (unreference g t s).pins = s.pins := rfl
@[simp] theorem unreference_cmd (g : Nat) (t : Instant) : (unreference g t s).cmd = s.cmd := rfl
@[simp] theorem unreference_tb (g : Nat) (t : Instant) : (unreference g t s).tb = s.tb := rfl
@[simp] theorem unreference_refBus (g : Nat) (t : Instant) : (unreference g t s).refBus = s.refBus := rfl
@[simp] theorem unreference_phases (g : Nat) (t : Instant) : (unreference g t s).phases = s.phases := rfl
@[simp] theorem unreference_phaseNext (g : Nat) (t : Instant) : (unreference g t s).phaseNext = s.phaseNext := rfl
@[simp] theorem unreference_bank0 (g : Nat) (t : Instant) : (unreference g t s).bank0 = s.bank0 := rfl
@[simp] theorem unreference_bank1 (g : Nat) (t : Instant) : (unreference g t s).bank1 = s.bank1 := rfl
@[simp] theorem unreference_active (g : Nat) (t : Instant) : (unreference g t s).active = s.active := rfl
@[simp] theorem unreference_streams (g : Nat) (t : Instant) : (unreference g t s).streams = s.streams := rfl
@[simp] theorem unreference_filters (g : Nat) (t : Instant) : (unreference g t s).filters = s.filters := rfl
@[simp] theorem unreference_disp (g : Nat) (t : Instant) : (unreference g t s).disp = s.disp := rfl
@[simp] theorem unreference_dets (g : Nat) (t : Instant) : (unreference g t s).dets = s.dets := rfl
@[simp] theorem unreference_schs (g : Nat) (t : Instant) : (unreference g t s).schs = s.schs := rfl
@[simp] theorem unreference_pubs (g : Nat) (t : Instant) : (unreference g t s).pubs = s.pubs := rfl
@[simp] theorem unreference_outRuns (g : Nat) (t : Instant) : (unreference g t s).outRuns = s.outRuns := rfl
@[simp] theorem unreference_vchs (g : Nat) (t : Instant) : (unreference g t s).vchs = s.vchs := rfl
@[simp] theorem unreference_flows (g : Nat) (t : Instant) : (unreference g t s).flows = s.flows := rfl
@[simp] theorem unreference_caps (g : Nat) (t : Instant) : (unreference g t s).caps = s.caps := rfl
@[simp] theorem unreference_oqs (g : Nat) (t : Instant) : (unreference g t s).oqs = s.oqs := rfl
@[simp] theorem unreference_iqs (g : Nat) (t : Instant) : (unreference g t s).iqs = s.iqs := rfl
@[simp] theorem unreference_dmaPtr (g : Nat) (t : Instant) : (unreference g t s).dmaPtr = s.dmaPtr := rfl
@[simp] theorem unreference_ports (g : Nat) (t : Instant) : (unreference g t s).ports = s.ports := rfl
@[simp] theorem unreference_txWait (g : Nat) (t : Instant) : (unreference g t s).txWait = s.txWait := rfl
@[simp] theorem unreference_wake (g : Nat) (t : Instant) : (unreference g t s).wake = s.wake := rfl
@[simp] theorem unreference_gh (g : Nat) (t : Instant) : (unreference g t s).gh = s.gh := rfl
@[simp] theorem unreference_cas (g : Nat) (t : Instant) : (unreference g t s).cas = s.cas := rfl
@[simp] theorem unreference_rtc (g : Nat) (t : Instant) : (unreference g t s).rtc = s.rtc := rfl
@[simp] theorem unreference_rcd (g : Nat) (t : Instant) : (unreference g t s).rcd = s.rcd := rfl
@[simp] theorem unreference_cnt (g : Nat) (t : Instant) : (unreference g t s).cnt = s.cnt := rfl
@[simp] theorem unreference_cntHost (g : Nat) (t : Instant) : (unreference g t s).cntHost = s.cntHost := rfl
@[simp] theorem unreference_cntMgp (g : Nat) (t : Instant) : (unreference g t s).cntMgp = s.cntMgp := rfl
@[simp] theorem unreference_pwr (g : Nat) (t : Instant) : (unreference g t s).pwr = s.pwr := rfl
@[simp] theorem unreference_nor (g : Nat) (t : Instant) : (unreference g t s).nor = s.nor := rfl
@[simp] theorem unreference_tapIr (g : Nat) (t : Instant) : (unreference g t s).tapIr = s.tapIr := rfl
@[simp] theorem unreference_pending (g : Nat) (t : Instant) : (unreference g t s).pending = s.pending := rfl
@[simp] theorem unreference_emitted (g : Nat) (t : Instant) : (unreference g t s).emitted = s.emitted := rfl
@[simp] theorem unreference_free (g : Nat) (t : Instant) : (unreference g t s).free = s.free := rfl

/-! ### countStream -/

@[simp] theorem countStream_glb (n i : Nat) : (countStream n i s).glb = s.glb := rfl
@[simp] theorem countStream_pins (n i : Nat) : (countStream n i s).pins = s.pins := rfl
@[simp] theorem countStream_cmd (n i : Nat) : (countStream n i s).cmd = s.cmd := rfl
@[simp] theorem countStream_tb (n i : Nat) : (countStream n i s).tb = s.tb := rfl
@[simp] theorem countStream_refBus (n i : Nat) : (countStream n i s).refBus = s.refBus := rfl
@[simp] theorem countStream_phases (n i : Nat) : (countStream n i s).phases = s.phases := rfl
@[simp] theorem countStream_phaseNext (n i : Nat) : (countStream n i s).phaseNext = s.phaseNext := rfl
@[simp] theorem countStream_bank0 (n i : Nat) : (countStream n i s).bank0 = s.bank0 := rfl
@[simp] theorem countStream_bank1 (n i : Nat) : (countStream n i s).bank1 = s.bank1 := rfl
@[simp] theorem countStream_active (n i : Nat) : (countStream n i s).active = s.active := rfl
@[simp] theorem countStream_filters (n i : Nat) : (countStream n i s).filters = s.filters := rfl
@[simp] theorem countStream_mst (n i : Nat) : (countStream n i s).mst = s.mst := rfl
@[simp] theorem countStream_disp (n i : Nat) : (countStream n i s).disp = s.disp := rfl
@[simp] theorem countStream_dets (n i : Nat) : (countStream n i s).dets = s.dets := rfl
@[simp] theorem countStream_schs (n i : Nat) : (countStream n i s).schs = s.schs := rfl
@[simp] theorem countStream_pubs (n i : Nat) : (countStream n i s).pubs = s.pubs := rfl
@[simp] theorem countStream_outRuns (n i : Nat) : (countStream n i s).outRuns = s.outRuns := rfl
@[simp] theorem countStream_vchs (n i : Nat) : (countStream n i s).vchs = s.vchs := rfl
@[simp] theorem countStream_flows (n i : Nat) : (countStream n i s).flows = s.flows := rfl
@[simp] theorem countStream_caps (n i : Nat) : (countStream n i s).caps = s.caps := rfl
@[simp] theorem countStream_oqs (n i : Nat) : (countStream n i s).oqs = s.oqs := rfl
@[simp] theorem countStream_iqs (n i : Nat) : (countStream n i s).iqs = s.iqs := rfl
@[simp] theorem countStream_dmaPtr (n i : Nat) : (countStream n i s).dmaPtr = s.dmaPtr := rfl
@[simp] theorem countStream_ports (n i : Nat) : (countStream n i s).ports = s.ports := rfl
@[simp] theorem countStream_txWait (n i : Nat) : (countStream n i s).txWait = s.txWait := rfl
@[simp] theorem countStream_wake (n i : Nat) : (countStream n i s).wake = s.wake := rfl
@[simp] theorem countStream_gh (n i : Nat) : (countStream n i s).gh = s.gh := rfl
@[simp] theorem countStream_cas (n i : Nat) : (countStream n i s).cas = s.cas := rfl
@[simp] theorem countStream_rtc (n i : Nat) : (countStream n i s).rtc = s.rtc := rfl
@[simp] theorem countStream_rcd (n i : Nat) : (countStream n i s).rcd = s.rcd := rfl
@[simp] theorem countStream_cntHost (n i : Nat) : (countStream n i s).cntHost = s.cntHost := rfl
@[simp] theorem countStream_cntMgp (n i : Nat) : (countStream n i s).cntMgp = s.cntMgp := rfl
@[simp] theorem countStream_pwr (n i : Nat) : (countStream n i s).pwr = s.pwr := rfl
@[simp] theorem countStream_nor (n i : Nat) : (countStream n i s).nor = s.nor := rfl
@[simp] theorem countStream_tapIr (n i : Nat) : (countStream n i s).tapIr = s.tapIr := rfl
@[simp] theorem countStream_pending (n i : Nat) : (countStream n i s).pending = s.pending := rfl
@[simp] theorem countStream_emitted (n i : Nat) : (countStream n i s).emitted = s.emitted := rfl
@[simp] theorem countStream_free (n i : Nat) : (countStream n i s).free = s.free := rfl

/-! ### alarmPin -/

theorem alarmPin_only : alarmPin s = { s with pins := (alarmPin s).pins, emitted := (alarmPin s).emitted } := by unfold alarmPin; dsimp only; split <;> rfl

@[simp] theorem alarmPin_glb : (alarmPin s).glb = s.glb := by rw [alarmPin_only]
@[simp] theorem alarmPin_cmd : (alarmPin s).cmd = s.cmd := by rw [alarmPin_only]
@[simp] theorem alarmPin_tb : (alarmPin s).tb = s.tb := by rw [alarmPin_only]
@[simp] theorem alarmPin_refBus : (alarmPin s).refBus = s.refBus := by rw [alarmPin_only]
@[simp] theorem alarmPin_phases : (alarmPin s).phases = s.phases := by rw [alarmPin_only]
@[simp] theorem alarmPin_phaseNext : (alarmPin s).phaseNext = s.phaseNext := by rw [alarmPin_only]
@[simp] theorem alarmPin_bank0 : (alarmPin s).bank0 = s.bank0 := by rw [alarmPin_only]
@[simp] theorem alarmPin_bank1 : (alarmPin s).bank1 = s.bank1 := by rw [alarmPin_only]
@[simp] theorem alarmPin_active : (alarmPin s).active = s.active := by rw [alarmPin_only]
@[simp] theorem alarmPin_streams : (alarmPin s).streams = s.streams := by rw [alarmPin_only]
@[simp] theorem alarmPin_filters : (alarmPin s).filters = s.filters := by rw [alarmPin_only]
@[simp] theorem alarmPin_mst : (alarmPin s).mst = s.mst := by rw [alarmPin_only]
@[simp] theorem alarmPin_disp : (alarmPin s).disp = s.disp := by rw [alarmPin_only]
@[simp] theorem alarmPin_dets : (alarmPin s).dets = s.dets := by rw [alarmPin_only]
@[simp] theorem alarmPin_schs : (alarmPin s).schs = s.schs := by rw [alarmPin_only]
@[simp] theorem alarmPin_pubs : (alarmPin s).pubs = s.pubs := by rw [alarmPin_only]
@[simp] theorem alarmPin_outRuns : (alarmPin s).outRuns = s.outRuns := by rw [alarmPin_only]
@[simp] theorem alarmPin_vchs : (alarmPin s).vchs = s.vchs := by rw [alarmPin_only]
@[simp] theorem alarmPin_flows : (alarmPin s).flows = s.flows := by rw [alarmPin_only]
@[simp] theorem alarmPin_caps : (alarmPin s).caps = s.caps := by rw [alarmPin_only]
@[simp] theorem alarmPin_oqs : (alarmPin s).oqs = s.oqs := by rw [alarmPin_only]
@[simp] theorem alarmPin_iqs : (alarmPin s).iqs = s.iqs := by rw [alarmPin_only]
@[simp] theorem alarmPin_dmaPtr : (alarmPin s).dmaPtr = s.dmaPtr := by rw [alarmPin_only]
@[simp] theorem alarmPin_ports : (alarmPin s).ports = s.ports := by rw [alarmPin_only]
@[simp] theorem alarmPin_txWait : (alarmPin s).txWait = s.txWait := by rw [alarmPin_only]
@[simp] theorem alarmPin_wake : (alarmPin s).wake = s.wake := by rw [alarmPin_only]
@[simp] theorem alarmPin_gh : (alarmPin s).gh = s.gh := by rw [alarmPin_only]
@[simp] theorem alarmPin_cas : (alarmPin s).cas = s.cas := by rw [alarmPin_only]
@[simp] theorem alarmPin_rtc : (alarmPin s).rtc = s.rtc := by rw [alarmPin_only]
@[simp] theorem alarmPin_rcd : (alarmPin s).rcd = s.rcd := by rw [alarmPin_only]
@[simp] theorem alarmPin_cnt : (alarmPin s).cnt = s.cnt := by rw [alarmPin_only]
@[simp] theorem alarmPin_cntHost : (alarmPin s).cntHost = s.cntHost := by rw [alarmPin_only]
@[simp] theorem alarmPin_cntMgp : (alarmPin s).cntMgp = s.cntMgp := by rw [alarmPin_only]
@[simp] theorem alarmPin_pwr : (alarmPin s).pwr = s.pwr := by rw [alarmPin_only]
@[simp] theorem alarmPin_nor : (alarmPin s).nor = s.nor := by rw [alarmPin_only]
@[simp] theorem alarmPin_tapIr : (alarmPin s).tapIr = s.tapIr := by rw [alarmPin_only]
@[simp] theorem alarmPin_pending : (alarmPin s).pending = s.pending := by rw [alarmPin_only]
@[simp] theorem alarmPin_free : (alarmPin s).free = s.free := by rw [alarmPin_only]

/-! ### wasOutDrive -/

theorem wasOutDrive_only (n : Nat) (b : Bool) : wasOutDrive n b s = { s with pins := (wasOutDrive n b s).pins, emitted := (wasOutDrive n b s).emitted } := by unfold wasOutDrive; split <;> rfl

@[simp] theorem wasOutDrive_glb (n : Nat) (b : Bool) : (wasOutDrive n b s).glb = s.glb := by rw [wasOutDrive_only]
@[simp] theorem wasOutDrive_cmd (n : Nat) (b : Bool) : (wasOutDrive n b s).cmd = s.cmd := by rw [wasOutDrive_only]
@[simp] theorem wasOutDrive_tb (n : Nat) (b : Bool) : (wasOutDrive n b s).tb = s.tb := by rw [wasOutDrive_only]
@[simp] theorem wasOutDrive_refBus (n : Nat) (b : Bool) : (wasOutDrive n b s).refBus = s.refBus := by rw [wasOutDrive_only]
@[simp] theorem wasOutDrive_phases (n : Nat) (b : Bool) : (wasOutDrive n b s).phases = s.phases := by rw [wasOutDrive_only]
@[simp] theorem wasOutDrive_phaseNext (n : Nat) (b : Bool) : (wasOutDrive n b s).phaseNext = s.phaseNext := by rw [wasOutDrive_only]
@[simp] theorem wasOutDrive_bank0 (n : Nat) (b : Bool) : (wasOutDrive n b s).bank0 = s.bank0 := by rw [wasOutDrive_only]
@[simp] theorem wasOutDrive_bank1 (n : Nat) (b : Bool) : (wasOutDrive n b s).bank1 = s.bank1 := by rw [wasOutDrive_only]
@[simp] theorem wasOutDrive_active (n : Nat) (b : Bool) : (wasOutDrive n b s).active = s.active := by rw [wasOutDrive_only]
@[simp] theorem wasOutDrive_streams (n : Nat) (b : Bool) : (wasOutDrive n b s).streams = s.streams := by rw [wasOutDrive_only]
@[simp] theorem wasOutDrive_filters (n : Nat) (b : Bool) : (wasOutDrive n b s).filters = s.filters := by rw [wasOutDrive_only]
@[simp] theorem wasOutDrive_mst (n : Nat) (b : Bool) : (wasOutDrive n b s).mst = s.mst := by rw [wasOutDrive_only]
@[simp] theorem wasOutDrive_disp (n : Nat) (b : Bool) : (wasOutDrive n b s).disp = s.disp := by rw [wasOutDrive_only]
@[simp] theorem wasOutDrive_dets (n : Nat) (b : Bool) : (wasOutDrive n b s).dets = s.dets := by rw [wasOutDrive_only]
@[simp] theorem wasOutDrive_schs (n : Nat) (b : Bool) : (wasOutDrive n b s).schs = s.schs := by rw [wasOutDrive_only]
@[simp] theorem wasOutDrive_pubs (n : Nat) (b : Bool) : (wasOutDrive n b s).pubs = s.pubs := by rw [wasOutDrive_only]
@[simp] theorem wasOutDrive_outRuns (n : Nat) (b : Bool) : (wasOutDrive n b s).outRuns = s.outRuns := by rw [wasOutDrive_only]
@[simp] theorem wasOutDrive_vchs (n : Nat) (b : Bool) : (wasOutDrive n b s).vchs = s.vchs := by rw [wasOutDrive_only]
@[simp] theorem wasOutDrive_flows (n : Nat) (b : Bool) : (wasOutDrive n b s).flows = s.flows := by rw [wasOutDrive_only]
@[simp] theorem wasOutDrive_caps (n : Nat) (b : Bool) : (wasOutDrive n b s).caps = s.caps := by rw [wasOutDrive_only]
@[simp] theorem wasOutDrive_oqs (n : Nat) (b : Bool) : (wasOutDrive n b s).oqs = s.oqs := by rw [wasOutDrive_only]
@[simp] theorem wasOutDrive_iqs (n : Nat) (b : Bool) : (wasOutDrive n b s).iqs = s.iqs := by rw [wasOutDrive_only]
@[simp] theorem wasOutDrive_dmaPtr (n : Nat) (b : Bool) : (wasOutDrive n b s).dmaPtr = s.dmaPtr := by rw [wasOutDrive_only]
@[simp] theorem wasOutDrive_ports (n : Nat) (b : Bool) : (wasOutDrive n b s).ports = s.ports := by rw [wasOutDrive_only]
@[simp] theorem wasOutDrive_txWait (n : Nat) (b : Bool) : (wasOutDrive n b s).txWait = s.txWait := by rw [wasOutDrive_only]
@[simp] theorem wasOutDrive_wake (n : Nat) (b : Bool) : (wasOutDrive n b s).wake = s.wake := by rw [wasOutDrive_only]
@[simp] theorem wasOutDrive_gh (n : Nat) (b : Bool) : (wasOutDrive n b s).gh = s.gh := by rw [wasOutDrive_only]
@[simp] theorem wasOutDrive_cas (n : Nat) (b : Bool) : (wasOutDrive n b s).cas = s.cas := by rw [wasOutDrive_only]
@[simp] theorem wasOutDrive_rtc (n : Nat) (b : Bool) : (wasOutDrive n b s).rtc = s.rtc := by rw [wasOutDrive_only]
@[simp] theorem wasOutDrive_rcd (n : Nat) (b : Bool) : (wasOutDrive n b s).rcd = s.rcd := by rw [wasOutDrive_only]
@[simp] theorem wasOutDrive_cnt (n : Nat) (b : Bool) : (wasOutDrive n b s).cnt = s.cnt := by rw [wasOutDrive_only]
@[simp] theorem wasOutDrive_cntHost (n : Nat) (b : Bool) : (wasOutDrive n b s).cntHost = s.cntHost := by rw [wasOutDrive_only]
@[simp] theorem wasOutDrive_cntMgp (n : Nat) (b : Bool) : (wasOutDrive n b s).cntMgp = s.cntMgp := by rw [wasOutDrive_only]
@[simp] theorem wasOutDrive_pwr (n : Nat) (b : Bool) : (wasOutDrive n b s).pwr = s.pwr := by rw [wasOutDrive_only]
@[simp] theorem wasOutDrive_nor (n : Nat) (b : Bool) : (wasOutDrive n b s).nor = s.nor := by rw [wasOutDrive_only]
@[simp] theorem wasOutDrive_tapIr (n : Nat) (b : Bool) : (wasOutDrive n b s).tapIr = s.tapIr := by rw [wasOutDrive_only]
@[simp] theorem wasOutDrive_pending (n : Nat) (b : Bool) : (wasOutDrive n b s).pending = s.pending := by rw [wasOutDrive_only]
@[simp] theorem wasOutDrive_free (n : Nat) (b : Bool) : (wasOutDrive n b s).free = s.free := by rw [wasOutDrive_only]

/-! ### Parts -/

theorem elapse_tb (d : Nat) : (elapse d s).tb = tbElapse d s.tb := rfl

theorem advanceTo_tb (t : Instant) : (advanceTo t s).tb = tbElapse (t * 2 ^ 32 - s.tb.count) s.tb := rfl

/-- Only the count and the slew move with time. -/
theorem tbElapse_only (d : Nat) (b : TimeBase) : tbElapse d b =
    { b with count := b.count + d, slew := (tbElapse d b).slew, incr := (tbElapse d b).incr } := by
  unfold tbElapse; dsimp only; split <;> rfl

@[simp] theorem advanceTo_tb_state (t : Instant) : (advanceTo t s).tb.state = s.tb.state := by rw [advanceTo_tb, tbElapse_only]
@[simp] theorem advanceTo_tb_cfg (t : Instant) : (advanceTo t s).tb.cfg = s.tb.cfg := by rw [advanceTo_tb, tbElapse_only]
@[simp] theorem advanceTo_tb_offsetNs (t : Instant) : (advanceTo t s).tb.offsetNs = s.tb.offsetNs := by rw [advanceTo_tb, tbElapse_only]
@[simp] theorem advanceTo_tb_goodRun (t : Instant) : (advanceTo t s).tb.goodRun = s.tb.goodRun := by rw [advanceTo_tb, tbElapse_only]
@[simp] theorem advanceTo_tb_holdFrom (t : Instant) : (advanceTo t s).tb.holdFrom = s.tb.holdFrom := by rw [advanceTo_tb, tbElapse_only]
@[simp] theorem advanceTo_tb_stepPending (t : Instant) : (advanceTo t s).tb.stepPending = s.tb.stepPending := by rw [advanceTo_tb, tbElapse_only]
@[simp] theorem advanceTo_tb_lockSrc (t : Instant) : (advanceTo t s).tb.lockSrc = s.tb.lockSrc := by rw [advanceTo_tb, tbElapse_only]
@[simp] theorem advanceTo_tb_todErr (t : Instant) : (advanceTo t s).tb.todErr = s.tb.todErr := by rw [advanceTo_tb, tbElapse_only]
@[simp] theorem advanceTo_tb_zdaEdge (t : Instant) : (advanceTo t s).tb.zdaEdge = s.tb.zdaEdge := by rw [advanceTo_tb, tbElapse_only]
@[simp] theorem advanceTo_tb_seqPos (t : Instant) : (advanceTo t s).tb.seqPos = s.tb.seqPos := by rw [advanceTo_tb, tbElapse_only]
@[simp] theorem advanceTo_tb_sourceSeen (t : Instant) : (advanceTo t s).tb.sourceSeen = s.tb.sourceSeen := by rw [advanceTo_tb, tbElapse_only]
@[simp] theorem advanceTo_tb_refPresent (t : Instant) : (advanceTo t s).tb.refPresent = s.tb.refPresent := by rw [advanceTo_tb, tbElapse_only]
@[simp] theorem advanceTo_tb_ppsEdge (t : Instant) : (advanceTo t s).tb.ppsEdge = s.tb.ppsEdge := by rw [advanceTo_tb, tbElapse_only]
@[simp] theorem advanceTo_tb_ppsDisagree (t : Instant) : (advanceTo t s).tb.ppsDisagree = s.tb.ppsDisagree := by rw [advanceTo_tb, tbElapse_only]
@[simp] theorem advanceTo_tb_todSet (t : Instant) : (advanceTo t s).tb.todSet = s.tb.todSet := by rw [advanceTo_tb, tbElapse_only]
@[simp] theorem advanceTo_tb_utcOffset (t : Instant) : (advanceTo t s).tb.utcOffset = s.tb.utcOffset := by rw [advanceTo_tb, tbElapse_only]
@[simp] theorem advanceTo_tb_leap (t : Instant) : (advanceTo t s).tb.leap = s.tb.leap := by rw [advanceTo_tb, tbElapse_only]
@[simp] theorem advanceTo_tb_leapEnd (t : Instant) : (advanceTo t s).tb.leapEnd = s.tb.leapEnd := by rw [advanceTo_tb, tbElapse_only]
@[simp] theorem advanceTo_tb_utcFromPtp (t : Instant) : (advanceTo t s).tb.utcFromPtp = s.tb.utcFromPtp := by rw [advanceTo_tb, tbElapse_only]
@[simp] theorem advanceTo_tb_lastLeap (t : Instant) : (advanceTo t s).tb.lastLeap = s.tb.lastLeap := by rw [advanceTo_tb, tbElapse_only]
@[simp] theorem advanceTo_tb_storedOffset (t : Instant) : (advanceTo t s).tb.storedOffset = s.tb.storedOffset := by rw [advanceTo_tb, tbElapse_only]
@[simp] theorem advanceTo_tb_storedFlags (t : Instant) : (advanceTo t s).tb.storedFlags = s.tb.storedFlags := by rw [advanceTo_tb, tbElapse_only]
@[simp] theorem advanceTo_tb_storedWaiting (t : Instant) : (advanceTo t s).tb.storedWaiting = s.tb.storedWaiting := by rw [advanceTo_tb, tbElapse_only]
@[simp] theorem advanceTo_tb_masters (t : Instant) : (advanceTo t s).tb.masters = s.tb.masters := by rw [advanceTo_tb, tbElapse_only]
@[simp] theorem advanceTo_tb_gmPort (t : Instant) : (advanceTo t s).tb.gmPort = s.tb.gmPort := by rw [advanceTo_tb, tbElapse_only]
@[simp] theorem advanceTo_tb_syncStamps (t : Instant) : (advanceTo t s).tb.syncStamps = s.tb.syncStamps := by rw [advanceTo_tb, tbElapse_only]
@[simp] theorem advanceTo_tb_pdelaySent (t : Instant) : (advanceTo t s).tb.pdelaySent = s.tb.pdelaySent := by rw [advanceTo_tb, tbElapse_only]
@[simp] theorem advanceTo_tb_pdelay (t : Instant) : (advanceTo t s).tb.pdelay = s.tb.pdelay := by rw [advanceTo_tb, tbElapse_only]
@[simp] theorem advanceTo_tb_lastSync (t : Instant) : (advanceTo t s).tb.lastSync = s.tb.lastSync := by rw [advanceTo_tb, tbElapse_only]
@[simp] theorem advanceTo_tb_snapSec (t : Instant) : (advanceTo t s).tb.snapSec = s.tb.snapSec := by rw [advanceTo_tb, tbElapse_only]
@[simp] theorem advanceTo_tb_snapFrac (t : Instant) : (advanceTo t s).tb.snapFrac = s.tb.snapFrac := by rw [advanceTo_tb, tbElapse_only]
@[simp] theorem advanceTo_tb_stepRestart (t : Instant) : (advanceTo t s).tb.stepRestart = s.tb.stepRestart := by rw [advanceTo_tb, tbElapse_only]
@[simp] theorem advanceTo_tb_announceAt (t : Instant) : (advanceTo t s).tb.announceAt = s.tb.announceAt := by rw [advanceTo_tb, tbElapse_only]
@[simp] theorem advanceTo_tb_pdelayGot (t : Instant) : (advanceTo t s).tb.pdelayGot = s.tb.pdelayGot := by rw [advanceTo_tb, tbElapse_only]
@[simp] theorem advanceTo_tb_pdelaySeq (t : Instant) : (advanceTo t s).tb.pdelaySeq = s.tb.pdelaySeq := by rw [advanceTo_tb, tbElapse_only]
@[simp] theorem advanceTo_tb_secDone (t : Instant) : (advanceTo t s).tb.secDone = s.tb.secDone := by rw [advanceTo_tb, tbElapse_only]
@[simp] theorem advanceTo_tb_slotDone (t : Instant) : (advanceTo t s).tb.slotDone = s.tb.slotDone := by rw [advanceTo_tb, tbElapse_only]

@[simp] theorem postReply_ps (r : Reply) (q : Bool) : (postReply r q s).pwr.ps = s.pwr.ps := by
  unfold postReply; repeat' split
  all_goals first | rfl | simp [setAlert]

@[simp] theorem mainUp_advanceTo (t : Instant) : mainUp (advanceTo t s) = mainUp s := by
  simp only [mainUp, advanceTo_pwr]
@[simp] theorem inRun_advanceTo (t : Instant) : inRun (advanceTo t s) = inRun s := by
  simp only [inRun, advanceTo_pwr]
@[simp] theorem inIdle_advanceTo (t : Instant) : inIdle (advanceTo t s) = inIdle s := by
  simp only [inIdle, advanceTo_pwr]

theorem advanceTo_tb_count (t : Instant) : (advanceTo t s).tb.count = s.tb.count + (t * 2 ^ 32 - s.tb.count) := by
  rw [advanceTo_tb, tbElapse_only]

/-- The time base reaches the instant. -/
theorem le_now_advanceTo (t : Instant) : t ≤ now (advanceTo t s) := by
  unfold now; rw [advanceTo_tb_count, Nat.le_div_iff_mul_le (Nat.two_pow_pos 32)]; omega

/-- It never goes back. -/
theorem now_le_advanceTo (t : Instant) : now s ≤ now (advanceTo t s) := by
  unfold now; rw [advanceTo_tb_count]; exact Nat.div_le_div_right (Nat.le_add_right _ _)

/-- Advancing to an instant that has passed changes the time by nothing. -/
theorem now_advanceTo_of_le (t : Instant) (h : t ≤ now s) : now (advanceTo t s) = now s := by
  unfold now at *; rw [advanceTo_tb_count]
  rw [Nat.le_div_iff_mul_le (Nat.two_pow_pos 32)] at h
  rw [Nat.sub_eq_zero_of_le h, Nat.add_zero]

/-! ### What a write of a keyed part reads as -/

@[simp] theorem counter_countBy_same (n k : Nat) : counter (countBy n k s) n = satAdd (2 ^ 64 - 1) (counter s n) k := mgetD_mput_same _ _ _ _
theorem counter_countBy_other {n m : Nat} (k : Nat) (h : m ≠ n) : counter (countBy n k s) m = counter s m := mgetD_mput_other _ _ _ h
@[simp] theorem counter_count_same (n : Nat) : counter (count n s) n = satAdd (2 ^ 64 - 1) (counter s n) 1 := mgetD_mput_same _ _ _ _
theorem counter_count_other {n m : Nat} (h : m ≠ n) : counter (count n s) m = counter s m := mgetD_mput_other _ _ _ h
@[simp] theorem oq_setOq_same (n : Nat) (q : Oq) : oq (setOq n q s) n = q := mgetD_mput_same _ _ _ _
theorem oq_setOq_other {n m : Nat} (q : Oq) (h : m ≠ n) : oq (setOq n q s) m = oq s m := mgetD_mput_other _ _ _ h
@[simp] theorem iq_setIq_same (n : Nat) (q : Iq) : iq (setIq n q s) n = q := mgetD_mput_same _ _ _ _
theorem iq_setIq_other {n m : Nat} (q : Iq) (h : m ≠ n) : iq (setIq n q s) m = iq s m := mgetD_mput_other _ _ _ h
@[simp] theorem port_setPort_same (p : Nat) (r : Port) : port (setPort p r s) p = r := mgetD_mput_same _ _ _ _
theorem port_setPort_other {p n : Nat} (r : Port) (h : n ≠ p) : port (setPort p r s) n = port s n := mgetD_mput_other _ _ _ h
@[simp] theorem capRun_setCap_same (n : Nat) (r : CapRun) : capRun (setCap n r s) n = some r := mget_mput_same _ _ _
@[simp] theorem schRun_setSch_same (n : Nat) (r : SchRun) : schRun (setSch n r s) n = r := mgetD_mput_same _ _ _ _
@[simp] theorem vch_setVch_same (n : Nat) (r : VchRun) : vch (setVch n r s) n = some r := mget_mput_same _ _ _
@[simp] theorem stream_setStream_same (n : Nat) (r : StreamRun) : stream (setStream n r s) n = r := mgetD_mput_same _ _ _ _
@[simp] theorem core_setCore_same (n : Nat) (r : CoreRun) : core (setCore n r s) n = r := mgetD_mput_same _ _ _ _
@[simp] theorem tmplRun_setTmplRun_same (n : Nat) (r : TmplRun) : tmplRun (setTmplRun n r s) n = r := mgetD_mput_same _ _ _ _
@[simp] theorem outRun_setOutRun_same (n : Nat) (r : OutRun) : outRun (setOutRun n r s) n = r := mgetD_mput_same _ _ _ _
@[simp] theorem detRun_setDet_same (n : Nat) (r : DetRun) : detRun (setDet n r s) n = r := mgetD_mput_same _ _ _ _
@[simp] theorem locker_setLocker_same (n : Nat) (l : Locker) : locker (setLocker n l s) n = l := mgetD_mput_same _ _ _ _
theorem locker_setLocker_other {n m : Nat} (l : Locker) (h : m ≠ n) : locker (setLocker n l s) m = locker s m := mgetD_mput_other _ _ _ h
@[simp] theorem filter_setFilter_same (n : Nat) (r : FilterRun) : filter (setFilter n r s) n = r := mgetD_mput_same _ _ _ _
@[simp] theorem pub_setPub_same (n : Nat) (r : PubRun) : pub (setPub n r s) n = r := mgetD_mput_same _ _ _ _

end Sys2Proof.Machine
end

