-- ==== Sys2Proof/WellFormed.lean ====
section
/-! DEFINITION. The operands that a row can carry: every field within the width that the spec gives it. -/

namespace Sys2Proof

/-- A command's header fields within their widths, and parameters that fit a slot (02 R27, R32). -/
def Packet.wf (k : Packet) : Bool :=
  decide (k.flags < 2 ^ 8) && decide (k.hdrver < 2 ^ 8) && decide (k.tag < 2 ^ 16) && decide (k.seq < 2 ^ 32)
    && decide (k.plen < 2 ^ 16) && decide (k.crc < 2 ^ 32) && decide (k.params.length ≤ 4080)

def UnknownCmd.wf (u : UnknownCmd) : Bool := decide (u.slot < 1024) && decide (u.opcode < 2 ^ 16) && u.pk.wf

/-- A ring entry of an injection queue (11 R301): 64 bytes with 48 of payload. -/
def IqEntry.wf (e : IqEntry) : Bool :=
  decide (e.len < 2 ^ 16) && decide (e.flags < 2 ^ 8) && decide (e.queue < 2 ^ 8) && decide (e.pseq < 2 ^ 32)
    && decide (e.offset < 2 ^ 32) && decide (e.plen < 2 ^ 32) && decide (e.data.length ≤ 48)

/-- A transmit descriptor (12 R321). -/
def TxDesc.wf (d : TxDesc) : Bool :=
  decide (d.addr < 2 ^ 64) && decide (d.len < 2 ^ 16) && decide (d.flags < 2 ^ 16) && decide (d.cls < 8) && decide (d.tag < 2 ^ 16)

/-- The redundancy trailer (12 R330). -/
def Rct.wf (r : Rct) : Bool := decide (r.mac < 2 ^ 48) && decide (r.seq < 2 ^ 16) && decide (r.lan < 16)

def rctWf (r : Option Rct) : Bool := match r with
  | none => true
  | some r => r.wf

/-- A frame's port, addresses and VLAN. -/
def pathWf (port dst src : Nat) (vlan : Option Nat) : Bool :=
  decide (port < 6) && decide (dst < 2 ^ 128) && decide (src < 2 ^ 128) && (match vlan with
    | none => true
    | some v => decide (v < 4096))

def UdpFrame.wf (f : UdpFrame) : Bool :=
  pathWf f.port f.dst f.src f.vlan && rctWf f.rct && decide (f.pcp < 8) && decide (f.srcUdp < 2 ^ 16) && decide (f.dstUdp < 2 ^ 16)
    && decide (f.bytes.length ≤ f.len)

/-- An ASDU's samples are 32-bit values with 32-bit qualities (04 R87, R94). -/
def Asdu.wf (a : Asdu) : Bool :=
  decide (a.smpCnt < 2 ^ 16) && decide (a.confRev < 2 ^ 32) && decide (a.smpSynch < 2 ^ 8)
    && a.vals.all fun v => decide (-(2 ^ 31) ≤ v.1) && decide (v.1 < 2 ^ 31) && decide (v.2 < 2 ^ 32)

def SvFrame.wf (f : SvFrame) : Bool :=
  pathWf f.port f.dst f.src f.vlan && rctWf f.rct && decide (f.pcp < 8) && decide (f.dstMac < 2 ^ 48) && decide (f.dstUdp < 2 ^ 16)
    && decide (f.appid < 2 ^ 16) && f.asdus.all Asdu.wf

def GooseFrame.wf (f : GooseFrame) : Bool :=
  pathWf f.port f.dst f.src f.vlan && rctWf f.rct && decide (f.pcp < 8) && decide (f.dstUdp < 2 ^ 16) && decide (f.appid < 2 ^ 16)
    && decide (f.confRev < 2 ^ 32) && decide (f.stNum < 2 ^ 32) && decide (f.sqNum < 2 ^ 32)

def CfgFrame.wf (f : CfgFrame) : Bool :=
  pathWf f.port f.dst f.src f.vlan && rctWf f.rct && decide (f.pcp < 8) && decide (f.dstUdp < 2 ^ 16) && decide (f.kind ≤ 4) && decide (f.idcode < 2 ^ 16)

def EthFrame.wf (f : EthFrame) : Bool :=
  decide (f.port < 6) && decide (f.dstMac < 2 ^ 48) && decide (f.pcp < 8) && rctWf f.rct && (match f.vlan with
    | none => true
    | some v => decide (v < 4096))

def Linkbeat.wf (b : Linkbeat) : Bool := decide (b.health < 2 ^ 8) && decide (b.term < 2 ^ 32) && decide (b.lane < 2)

/-- A presence frame's TAG is 16 bytes (14 R377). -/
def Presence.wf (f : Presence) : Bool := decide (f.magic < 2 ^ 32) && decide (f.term < 2 ^ 32) && f.tag.length == 16

def MirrorItem.wf (i : MirrorItem) : Bool := match i with
  | .udp f => f.wf
  | .sv f => f.wf
  | .goose f => f.wf
  | .cfg f => f.wf
  | .record sid _ _ => decide (sid < 4096)
  | .voice f => f.wf
  | .rtcp f => f.wf

/-- A row whose operands the hardware can carry. -/
def Instr.wf (i : Instr) : Bool := match i with
  | .getInfo k | .getState k | .start k | .stop k | .warmReset k | .powerCtrl k | .fwLoad k | .fwCommit k | .cfgSave k
  | .streamDefine k | .streamDelete k | .channelDefine k | .groupDefine k | .templateDefine k | .streamStatus k | .schedLoad k
  | .schedSwap k | .schedStatus k | .detDefine k | .detStatus k | .detAck k | .progLoad k | .progStart k | .progStop k
  | .progSetValues k | .progForce k | .progRead k | .vchOpen k | .vchModify k | .vchClose k | .flowSet k | .vchStatus k
  | .capDefine k | .capArm k | .capTrigger k | .oqFlush k | .queueStatus k | .keyLoad k | .keyClear k | .keyGenerate k
  | .keyRewrap k | .domainInvalidate k | .keyStatus k | .idCert k | .timeConfig k | .timeSet k | .leapSet k | .timeStatus k
  | .rtcCurveLoad k | .rtcLeapTable k | .casConfig k | .casPair k | .casSwitchover k | .casResync k | .casStatus k
  | .recExport k | .recNote k | .prcDecode k | .prcEncode k | .portConfig k | .outDefine k | .wakeSet k | .portStatus k => k.wf
  | .chunkLoadTimeout _ opcode target => decide (opcode < 2 ^ 16) && decide (target < 2 ^ 32)
  | .cmdqDoorbell value unknown => decide (value < 2 ^ 32) && unknown.all UnknownCmd.wf
  | .rplqHeadWrite value => decide (value < 2 ^ 32)
  | .oqRingHeadWrite _ value => decide (value < 2 ^ 32)
  | .iqRingTailDoorbell _ value entries => decide (value < 2 ^ 32) && entries.all IqEntry.wf
  | .netRingTailWrite _ _ value descs => decide (value < 2 ^ 32) && descs.all TxDesc.wf
  | .registerWrite _ addr _ => decide (addr < 2 ^ 24)
  | .mgpRead32 h crc =>
    decide (h.op < 2 ^ 8) && (h.op == 1 || h.op == 0 || decide (5 < h.op)) && decide (h.addr < 2 ^ 24) && decide (crc < 2 ^ 8)
  | .mgpWrite32 addr _ crc => decide (addr < 2 ^ 24) && decide (crc < 2 ^ 8)
  | .mgpReadBurst addr count crc => decide (addr < 2 ^ 24) && decide (count < 2 ^ 8) && decide (crc < 2 ^ 8)
  | .mgpCmdPush addr count words crc => decide (addr < 2 ^ 24) && decide (count < 2 ^ 8) && words.length == count && decide (crc < 2 ^ 8)
  | .mgpCmdPop addr count crc => decide (addr < 2 ^ 24) && decide (count < 2 ^ 8) && decide (crc < 2 ^ 8)
  | .progStopEffect scheme => decide (scheme < 64)
  | .ptpPdelayReqReceived _ seq domain _ => decide (seq < 2 ^ 16) && decide (domain < 2 ^ 8)
  | .zdaSentence _ utc => decide (utc < 2 ^ 48)
  | .c37118FrameReceived f => f.wf
  | .svFrameReceived f => f.wf
  | .gooseRPublicationReceived f => f.wf
  | .cfgFrameReceived f => f.wf
  | .gooseOperandInstant sid _ | .streamMissingLimit sid _ | .capRingMarker sid _ => decide (sid < 4096)
  | .deadlineEvaluation gid _ => decide (gid < 1024)
  | .rGooseRetransmit pub => decide (pub < 256)
  | .voicePacketReceived k => k.wf
  | .rtcpPacketReceived k => k.wf
  | .rtcpSend vch _ | .legSilent vch _ | .recBlockTransfer vch => decide (vch < 1024)
  | .capRecordClose cap | .classPSeal cap => decide (cap < 256)
  | .rxFrameReceived f => f.wf
  | .prpSourceForget _ mac => decide (mac < 2 ^ 48)
  | .pfcFrameReceived _ classes _ => classes.all fun c => decide (c.1 < 8) && decide (c.2 < 2 ^ 16)
  | .linkbeatReceived b _ => b.wf
  | .presenceFrameReceived _ f => f.wf
  | .mirrorReceived item _ => item.wf
  | .twinCmdReceived opcode k _ _ => decide (opcode < 2 ^ 16) && k.wf
  | .faultDeclare cause => decide (cause < 2 ^ 8)
  | .faultReceived term cause => decide (term < 2 ^ 32) && decide (cause < 2 ^ 8)
  | .ackReceived _ health => decide (health < 2 ^ 8)
  | .pairingFrameReceived _ _ peerId nonce q => decide (peerId < 2 ^ 128) && decide (nonce.length ≤ 32) && decide (q < 2 ^ 512)
  | .rtcSensorReading temp => decide (-(2 ^ 15) ≤ temp) && decide (temp < 2 ^ 15)
  | .pdClassification _ cls => decide (cls ≤ 8)
  | .tapInstruction ir => decide (ir < 2 ^ 4)
  | .cmdqCtrlEnSet .. | .cmdqCtrlEnClear .. | .tbSnapCapture | .oqCtrlEnSet .. | .oqCtrlEnClear .. | .oqCtrlFlush ..
  | .qpopRead .. | .iqCtrlEnSet .. | .iqCtrlFlush .. | .netTsqPopRead .. | .netTsqOvfClear .. | .cntLowWordRead ..
  | .rtcTReadFreeze .. | .rtcT7ReadRelease .. | .rtcCmdSet .. | .rtcCmdTobin .. | .rtcCmdTocal .. | .recCmdNext ..
  | .recCmdPrev .. | .recCmdOldest .. | .recCmdNewest .. | .recCmdSeekSeq .. | .recClear .. | .recClearComplete
  | .aonPwrMainOn | .aonPwrMainOff | .aonPwrDormant | .aonResetCold | .aonResetWarm | .secondBoundary
  | .slotBoundary .. | .runBegin | .runEnd | .bankSwap | .ptpSyncReceived .. | .ptpAnnounceReceived ..
  | .ptpPdelayRespReceived .. | .ptpPdelayReqSend .. | .announceReceiptTimeout .. | .ppsInEdge .. | .ref10mLost
  | .ref10mRestored | .tbLocked | .tbHoldoverEntry | .stepInRunRestart | .leapSetEffect | .leapApplied
  | .phaseTargetFix .. | .phaseActionTaken .. | .deadlineIssue .. | .releaseIssue .. | .playoutIssue ..
  | .cycleIssue .. | .copyIssue .. | .tickIssue .. | .publishIssue .. | .injectionRecordTaken .. | .readyHeldRetry
  | .holdLimitExpiry .. | .taskDispatch | .taskStart .. | .taskComplete .. | .wcetBudgetReached .. | .taskAbort ..
  | .schemeRuntimeFault .. | .oqStallResume .. | .dmaEntryWrite | .oqStaleTimer .. | .oqFlushDone .. | .iqPull ..
  | .prpSupervisionSend .. | .pfcPauseExpiry .. | .pfcXoffRepeat .. | .pfcXonSend .. | .hostTxFrame ..
  | .linkChange .. | .wakeFrame .. | .wasInEdgeAccepted .. | .hbInEdge .. | .hbTimeout | .listenWindowEnd ..
  | .linkbeatSend | .twinLinkTimeout | .twinLossDecision | .presenceFrameSend .. | .partnerOutputsAbsent
  | .commitReceived .. | .standbyCommitLoss | .resyncStartReceived .. | .resyncDataReceived ..
  | .resyncEndReceived .. | .resyncTimeout | .resyncRetry | .takeover | .addressAnnounceRepeat | .switchoverHandover
  | .promoteEffect | .eyeMeasure .. | .controlFwFault | .rtcFreezeTimeout .. | .rtcSetCommit | .rtcEndOfRange
  | .rtcLockRelease | .vrtcLow | .recNorProgram | .opTimeCheckpoint | .traceQlevel | .vinGood .. | .bootComplete ..
  | .bootWatchdog | .earlyWarning .. | .warningPassed | .vinBelow9v | .vinBelow7v | .pdPowerChange ..
  | .thermAssert .. | .thermRelease .. | .thermalTrip .. | .modRstNAssert | .modRstNRelease | .perstN
  | .mainOffEffect | .warmResetExecute | .dormantEntry | .controlFwRecovery | .vbatOkChange .. | .peerDetChange .. => true

end Sys2Proof
end

