-- ==== Sys2Proof/Tests/Slice0.lean ====
section
/-! SUPPORT. Tests: operands that do not fit are refused by `Instr.wf`; each statement's hypotheses are met by a concrete state
and operands, clause by clause; and a few single steps whose results the spec's own words give. -/

namespace Sys2Proof.Machine

set_option Elab.async false

/-! ## Small states and packets -/

/-- Fields of the given widths in bytes, low byte first, one after the other. -/
def packed (fs : List (Nat × Nat)) : Bytes := (fs.map fun f => le f.1 f.2).flatten

/-- A host command with its parameters, in order. -/
def hostPk (params : Bytes) : Packet :=
  { origin := .host, flags := 0, hdrver := 1, tag := 7, seq := 3, plen := params.length / 4
    crc := if params.isEmpty then 0 else crc32c params, params := params }

def instant (s : Nat) (half : Nat := 0) : Instant := s * 2 ^ 32 + half * 2 ^ 31

/-- The block in a power state, 100 s after the epoch, a command waiting in the host's ring. -/
def at_ (ps : PState) : State :=
  { State.reset with
    pwr := { ({} : Power) with ps := ps, vinOk := decide (ps ≠ .off), vbatOk := true, mainUp := powered ps }
    pins := { ({} : Pins) with modReady := ps = .idle || ps = .run, phyRst := !powered ps }
    tb := { ({} : TimeBase) with count := 100 * 2 ^ 64 }
    cmd := { ({} : CmdIf) with cqEn := true, cqTail := 1, rqEn := true } }

def sIdle : State := at_ .idle
def sRun : State := at_ .run

/-- The state in which an accepted command runs. -/
def acceptedAs (c : Cmd) (pk : Packet) (s : State) : Option State := match (taken c.opcode pk s).map endPairing with
  | some u => if (repeated c.opcode pk u).isNone && (class01 c pk u).isNone && (class02 c pk.origin u).isNone && !bit pk.flags 1
              then some u else none
  | none => none

theorem accepts_of_acceptedAs {c pk s u} (h : acceptedAs c pk s = some u) : Accepts c pk s u := by
  unfold acceptedAs at h
  split at h
  · rename_i v hv
    split at h
    · rename_i hc
      simp only [Bool.and_eq_true, Option.isNone_iff_eq_none, Bool.not_eq_true'] at hc
      cases h
      exact ⟨hv, hc.1.1.1, hc.1.1.2, hc.1.2, hc.2⟩
    · cases h
  · cases h

/-- A check of one state that a packet is accepted and that the state it runs in has P. -/
def meets (c : Cmd) (pk : Packet) (s : State) (P : State → Bool) : Bool := (acceptedAs c pk s).any P

theorem witness {c pk s} {P : State → Bool} (h : meets c pk s P = true) : ∃ u, Accepts c pk s u ∧ P u = true := by
  unfold meets at h
  obtain ⟨u, hu, hp⟩ := (Option.any_eq_true _ _).mp h
  exact ⟨u, accepts_of_acceptedAs hu, hp⟩

/-- The packet is accepted, and the state it runs in has P. -/
abbrev Shown (c : Cmd) (pk : Packet) (s : State) (P : State → Bool) : Prop := ∃ u, Accepts c pk s u ∧ P u = true

/-- A check that a command is taken, is no repetition, and leaves a state with P. -/
def takes (opcode : Nat) (pk : Packet) (s : State) (P : State → Bool) : Bool :=
  ((taken opcode pk s).map endPairing).any fun u => (repeated opcode pk u).isNone && P u

def any_ : State → Bool := fun _ => true

/-- A check of the next state. -/
def next_ (o : Host.Outcome State Fault Refusal) (P : State → Bool) : Bool := match o with
  | .next t => P t
  | _ => false

/-- A command of the management port, and the state in which its mailbox holds it. -/
def mgpPk (params : Bytes) : Packet := { hostPk params with origin := .mgp }

def mailed (opcode : Nat) (pk : Packet) (s : State) : State :=
  let b := packed [(2, opcode), (1, pk.flags), (1, pk.hdrver), (2, pk.tag), (2, pk.plen), (4, pk.seq), (4, pk.crc)] ++ pk.params
  { s with cmd := { s.cmd with mailSubmitted := true, mailbox := (List.range b.length).map fun i => (i, b.getD i 0) } }

def runAs (r : Role) : State := { sRun with cas := { ({} : Castling) with role := r } }

/-- An instance of a schedule entry that lies once a second. -/
def entry (action target : Nat) (arg : Nat := 0) (flags : Nat := 0) : SchedEntry :=
  { q := 1, a := 0, m := 1, n := 1, action := action, flags := flags, target := target, arg := arg }

def image (es : List SchedEntry) : SchedImg :=
  { fnom := 50, voicePav := 1, imageId := 9, powerMw := 1000, refbusCid := 0xFFFFFFFF, ssRate := 4000, cuRate := 100
    voiceUnits := 10, omap := [{ kind := 1, index := 0, base := 0, length := 64 }], entries := es }

def bankWith (es : List SchedEntry) : Bank := { sched := some (image es) }

def withBank (b : Bank) (s : State) : State := { s with bank0 := b }

/-! ## The rows' operands -/

theorem test_wf_refuses :
    Instr.wf (.getInfo { hostPk [] with flags := 256 }) = false ∧ Instr.wf (.getInfo { hostPk [] with tag := 65536 }) = false ∧
    Instr.wf (.getInfo { hostPk [] with hdrver := 256 }) = false ∧ Instr.wf (.getInfo { hostPk [] with seq := 2 ^ 32 }) = false ∧
    Instr.wf (.getInfo { hostPk [] with plen := 65536 }) = false ∧ Instr.wf (.getInfo { hostPk [] with crc := 2 ^ 32 }) = false ∧
    Instr.wf (.registerWrite .host (2 ^ 24) 0) = false ∧ Instr.wf (.mgpRead32 ⟨1, 0⟩ 256) = false ∧ Instr.wf (.mgpRead32 ⟨2, 0⟩ 0) = false ∧
    Instr.wf (.mgpWrite32 (2 ^ 24) 0 0) = false ∧ Instr.wf (.mgpReadBurst 0 256 0) = false ∧
    Instr.wf (.mgpCmdPush 0 2 [0] 0) = false ∧ Instr.wf (.mgpCmdPop 0 1 256) = false ∧
    Instr.wf (.cmdqDoorbell (2 ^ 32) []) = false ∧ Instr.wf (.rplqHeadWrite (2 ^ 32)) = false ∧
    Instr.wf (.oqRingHeadWrite 0 (2 ^ 32)) = false ∧ Instr.wf (.iqRingTailDoorbell 0 (2 ^ 32) []) = false ∧
    Instr.wf (.netRingTailWrite 0 0 (2 ^ 32) []) = false ∧ Instr.wf (.chunkLoadTimeout .host 65536 0) = false ∧
    Instr.wf (.progStopEffect 64) = false ∧ Instr.wf (.rGooseRetransmit 256) = false ∧ Instr.wf (.capRecordClose 256) = false ∧
    Instr.wf (.deadlineEvaluation 1024 0) = false ∧ Instr.wf (.streamMissingLimit 4096 0) = false ∧
    Instr.wf (.rtcpSend 1024 true) = false ∧ Instr.wf (.prpSourceForget 0 (2 ^ 48)) = false ∧
    Instr.wf (.pfcFrameReceived 0 [(8, 0)] 0) = false ∧ Instr.wf (.faultDeclare 256) = false ∧
    Instr.wf (.faultReceived (2 ^ 32) 0) = false ∧ Instr.wf (.ackReceived 0 256) = false ∧
    Instr.wf (.pairingFrameReceived true true (2 ^ 128) [] 0) = false ∧
    Instr.wf (.pairingFrameReceived true true 0 [] (2 ^ 512)) = false ∧ Instr.wf (.rtcSensorReading 32768) = false ∧
    Instr.wf (.pdClassification true 9) = false ∧ Instr.wf (.tapInstruction 16) = false ∧
    Instr.wf (.zdaSentence true (2 ^ 48)) = false ∧ Instr.wf (.ptpPdelayReqReceived 0 65536 0 0) = false := by decide +kernel

/-- A frame of each kind that is well-formed, and the same frame with one operand out of range. -/
def udp : UdpFrame :=
  { port := 2, rct := none, len := 100, dst := 1, src := 2, srcUdp := 4712, dstUdp := 4713, vlan := none, pcp := 0, held := 0, bytes := [], stamp := instant 100 }
def svf : SvFrame :=
  { port := 2, rct := none, dst := 0, l2 := true, dstMac := 5, src := 6, vlan := none, pcp := 0, held := 0, dstUdp := 102, appid := 0x4000, ident := 7, sig := none
    wellFormed := true, sim := false, len := 200, asdus := [], stamp := instant 100 }
def goo : GooseFrame :=
  { port := 2, rct := none, dst := 1, src := 2, vlan := none, pcp := 0, held := 0, dstUdp := 102, appid := 3, ident := 4, sig := none, wellFormed := true, sim := false
    test := false, tUnc := false, len := 200, confRev := 1, stNum := 5, sqNum := 0, ttlMs := 1000, members := [1], stamp := instant 100 }
def cfgf : CfgFrame :=
  { port := 2, pcp := 5, rct := none, dst := 1, src := 2, dstUdp := 4713, vlan := none, held := 0, kind := 2, len := 64, frameSize := 64
    chkOk := true, readable := true, idcode := 1, blocks := [], timeBase := 1000000, dataRate := 50, stamp := instant 100 }
/-- An RTP packet of 20 ms of G.711 and a receiver report. -/
def rtp : UdpFrame :=
  { port := 2, rct := none, len := 218, dst := 1, src := 2, srcUdp := 6000, dstUdp := 5000, vlan := none, pcp := 0, held := 0
    bytes := [0x80, 0] ++ be 2 1 ++ be 4 160 ++ be 4 9 ++ zeros 160, stamp := instant 100 }
def rtcpf : UdpFrame :=
  { port := 2, rct := none, len := 78, dst := 1, src := 2, srcUdp := 6001, dstUdp := 5001, vlan := none, pcp := 0, held := 0
    bytes := [0x81, 201] ++ be 2 7 ++ be 4 9 ++ be 4 9 ++ [3] ++ be 3 1 ++ be 4 1 ++ be 4 4 ++ zeros 8, stamp := instant 100 }
def eth : EthFrame :=
  { port := 2, fcsOk := true, len := 64, dstMac := 0, vlan := none, pcp := 0, kind := .other, dst := 0, rct := none, held := 0
    neigh := none, stamp := instant 100 }
def beat : Linkbeat :=
  { role := .active, term := 4, health := 200, version := Config.twinVersion, cfgCrc := 0, peerId := 5, listening := false, lane := 0
    request := false, discard := false }
def pres : Presence := { magic := 0x5343, role := 2, score := 100, term := 4, id := 5, frac := 0, sec := 100, tag := zeros 16 }

theorem test_wf_frames :
    (udp.wf = true ∧ ({ udp with port := 6 } : UdpFrame).wf = false ∧ ({ udp with dst := 2 ^ 128 } : UdpFrame).wf = false ∧
      ({ udp with src := 2 ^ 128 } : UdpFrame).wf = false ∧ ({ udp with vlan := some 4096 } : UdpFrame).wf = false ∧
      ({ udp with srcUdp := 65536 } : UdpFrame).wf = false ∧ ({ udp with dstUdp := 65536 } : UdpFrame).wf = false ∧
      ({ udp with bytes := zeros 101 } : UdpFrame).wf = false ∧
      ({ udp with rct := some { mac := 2 ^ 48, seq := 0, lan := 10 } } : UdpFrame).wf = false) ∧
    (svf.wf = true ∧ ({ svf with dstMac := 2 ^ 48 } : SvFrame).wf = false ∧ ({ svf with appid := 65536 } : SvFrame).wf = false ∧
      ({ svf with asdus := [{ smpCnt := 65536, confRev := 0, smpSynch := 0, vals := [] }] } : SvFrame).wf = false ∧
      ({ svf with asdus := [{ smpCnt := 0, confRev := 0, smpSynch := 0, vals := [(2 ^ 31, 0)] }] } : SvFrame).wf = false) ∧
    (goo.wf = true ∧ ({ goo with stNum := 2 ^ 32 } : GooseFrame).wf = false ∧ ({ goo with sqNum := 2 ^ 32 } : GooseFrame).wf = false) ∧
    (cfgf.wf = true ∧ ({ cfgf with kind := 5 } : CfgFrame).wf = false ∧ ({ cfgf with idcode := 65536 } : CfgFrame).wf = false) ∧
    (rtp.wf = true ∧ rtcpf.wf = true ∧ ({ svf with dstUdp := 65536 } : SvFrame).wf = false ∧
      ({ goo with dstUdp := 65536 } : GooseFrame).wf = false ∧ ({ rtp with pcp := 8 } : UdpFrame).wf = false ∧ ({ cfgf with pcp := 8 } : CfgFrame).wf = false) ∧
    (eth.wf = true ∧ ({ eth with pcp := 8 } : EthFrame).wf = false ∧ ({ eth with dstMac := 2 ^ 48 } : EthFrame).wf = false) ∧
    (beat.wf = true ∧ ({ beat with lane := 2 } : Linkbeat).wf = false ∧ ({ beat with health := 256 } : Linkbeat).wf = false) ∧
    (pres.wf = true ∧ ({ pres with tag := [] } : Presence).wf = false ∧ ({ pres with magic := 2 ^ 32 } : Presence).wf = false) ∧
    Instr.wf (.iqRingTailDoorbell 0 1 [{ len := 0, flags := 0, queue := 0, pseq := 0, offset := 0, plen := 0, data := zeros 49 }]) = false ∧
    Instr.wf (.netRingTailWrite 0 2 1 [{ addr := 0, len := 0, flags := 0, cls := 8, tag := 0, data := [] }]) = false ∧
    Instr.wf (.cmdqDoorbell 1 [{ slot := 0, opcode := 65536, pk := hostPk [] }]) = false ∧
    Instr.wf (.mirrorReceived (.record 4096 0 []) true) = false := by decide +kernel

/-! ## The statements' hypotheses: steps and the protocol -/

theorem test_steps :
    ({ State.reset with pending := [.tbLocked, .vrtcLow] } : State).pending = Instr.tbLocked :: [.vrtcLow] ∧
    (State.reset.pending = [] ∧ State.reset.tb.count + State.reset.tb.incr < 2 ^ 112) ∧
    next_ (step State.reset) (fun t => t.pwr.ps == .aonOnly) = true ∧
    next_ (exec .tbLocked State.reset) (fun t => t.tb.state == .freerun) = true := by decide +kernel

theorem test_rails : State.reset.Rails ∧ sIdle.Rails ∧ sRun.Rails :=
  ⟨⟨by decide, by decide⟩, ⟨by decide, by decide⟩, ⟨by decide, by decide⟩⟩

theorem test_refused_commands :
    takes 0x0103 { hostPk [] with plen := 1 } sIdle (fun _ => true) = true ∧
    takes 0x0103 { hostPk [] with flags := 4 } sIdle (fun _ => true) = true ∧
    takes 0x0103 { hostPk [] with hdrver := 2 } sIdle (fun _ => true) = true ∧
    takes 0x0103 { hostPk [] with crc := 1 } sIdle (fun _ => true) = true ∧
    takes 0x0104 (mgpPk []) (mailed 0x0104 (mgpPk []) (at_ .boot)) (fun u => (class01 stopCmd (mgpPk []) u).isNone && u.pwr.ps == .boot) = true ∧
    takes 0x0104 (mgpPk []) (mailed 0x0104 (mgpPk []) (at_ .aonOnly)) (fun u => (class01 stopCmd (mgpPk []) u).isNone && u.pwr.ps == .aonOnly) = true ∧
    takes 0x0104 (mgpPk []) (mailed 0x0104 (mgpPk []) (at_ .dormant)) (fun u => (class01 stopCmd (mgpPk []) u).isNone && u.pwr.ps == .dormant) = true ∧
    takes 0x0104 (hostPk []) sIdle (fun u => (class01 stopCmd (hostPk []) u).isNone && u.pwr.ps == .idle) = true ∧
    [Role.standby, .stalemate].all (fun r => takes 0x0503 (hostPk (packed [(4, 63)])) (runAs r) fun u =>
      (class01 progStopCmd (hostPk (packed [(4, 63)])) u).isNone && u.pwr.ps == .run && !u.pwr.recovery && u.cas.role == r) = true := by
  decide +kernel

theorem test_repeated_command :
    let r : Reply := { origin := .host, status := 0, opcode := 0x0202, tag := 7, final := true, result := [] }
    let s : State := { sIdle with cmd := { sIdle.cmd with lastHost := some { opcode := 0x0202, seq := 3, crc := 0, reply := r } } }
    ((taken 0x0202 (hostPk []) s).map endPairing).any (fun u => repeated 0x0202 (hostPk []) u == some r) = true := by decide +kernel

theorem test_reply_rings :
    (sIdle.cmd.rqEn = true ∧ rplqFull sIdle = false) ∧
    (let s : State := { sIdle with cmd := { sIdle.cmd with rqTail := 15 } }
     s.cmd.rqEn = true ∧ rplqFull s = true) ∧
    (fwDown sIdle = false ∧ fwDown { sIdle with pwr := { sIdle.pwr with fwFault := true } } = true ∧
      (let s : State := { sIdle with cmd := { sIdle.cmd with rqTail := 14 } }
       rplqFull s = false ∧ (s.cmd.rqTail + 2) % 2 ^ s.cmd.rqSize = s.cmd.rqHead)) := by decide +kernel

/-! ## Commands that read, and the tables -/

theorem test_status_commands :
    Shown getInfoCmd (hostPk []) sIdle any_ ∧ Shown getStateCmd (mgpPk []) (mailed 0x0102 (mgpPk []) (at_ .aonOnly)) any_ ∧
    Shown timeStatusCmd (hostPk []) sRun any_ ∧ Shown schedStatusCmd (hostPk []) sIdle any_ ∧ Shown casStatusCmd (hostPk []) sIdle any_ ∧
    Shown keyStatusCmd (hostPk []) sIdle any_ ∧ Shown idCertCmd (hostPk []) sIdle any_ ∧
    Shown streamStatusCmd (hostPk (packed [(2, 4032), (1, 64), (1, 0)])) sIdle any_ ∧
    Shown detStatusCmd (hostPk (packed [(4, 255)])) sRun any_ ∧
    Shown progReadCmd (hostPk (packed [(1, 63), (1, 1), (2, 0), (2, 5), (1, 1), (1, 0)])) sRun any_ ∧
    Shown vchStatusCmd (hostPk (packed [(4, 1023)])) sRun any_ ∧ Shown queueStatusCmd (hostPk (packed [(1, 79), (1, 1), (2, 0)])) sIdle any_ ∧
    Shown portStatusCmd (hostPk (packed [(4, 5)])) sIdle any_ :=
  ⟨witness (by decide +kernel), witness (by decide +kernel), witness (by decide +kernel), witness (by decide +kernel),
   witness (by decide +kernel), witness (by decide +kernel), witness (by decide +kernel), witness (by decide +kernel),
   witness (by decide +kernel), witness (by decide +kernel), witness (by decide +kernel), witness (by decide +kernel),
   witness (by decide +kernel)⟩

def streamParams : Bytes :=
  packed [(2, 4095), (1, 1), (1, 0x3F), (2, 50), (1, 0), (1, 0), (1, 0), (1, 0), (2, 0xFFFF), (2, 0xFFFF), (2, 4713), (4, 1)] ++
  zeros 22 ++ packed [(2, 0xFFFF)] ++ zeros 32 ++ packed [(2, 0), (1, 1), (1, 0), (4, 1000000), (1, 3), (1, 1), (1, 0), (1, 0)]

/-- The inactive bank with that stream in it. -/
def streamBank : State := { sIdle with bank1 := { sIdle.bank1 with streams := [(4095, streamOf streamParams)] } }

/-- The bank that STREAM_DEFINE makes holds so many SV streams. -/
def svAfter (few : Bool) (u : State) : Bool :=
  few == decide (svStreams (withStream 4095 (streamOf streamParams) (inactiveBank u)) ≤ 1024)

set_option maxRecDepth 100000 in
theorem test_table_commands :
    (let s : State := { sIdle with bank1 := { sIdle.bank1 with
       streams := (List.range 1025).map fun i => (i, { streamOf streamParams with type := 3 }) } }
     Shown streamDefineCmd (hostPk streamParams) s (svAfter false)) ∧
    Shown streamDefineCmd (hostPk streamParams) sIdle (svAfter true) ∧ Shown streamDeleteCmd (hostPk (packed [(4, 4095)])) streamBank any_ ∧
    Shown channelDefineCmd (hostPk (packed [(2, 65535), (1, 1), (1, 0), (2, 4095), (1, 0), (1, 0), (1, 0), (1, 4), (1, 0), (1, 0),
      (4, 0x3F800000)] ++ zeros 12 ++ packed [(2, 0xFFFF), (6, 0)])) streamBank any_ ∧
    Shown groupDefineCmd (hostPk (packed [(2, 1023), (2, 50), (4, 1280000), (1, 1), (1, 0), (2, 0), (1, 1)] ++ zeros 511)) sIdle any_ ∧
    Shown templateDefineCmd (hostPk (packed [(2, 16383), (1, 1), (1, 15), (1, 1), (1, 16), (2, 0xFFFF), (2, 255), (2, 0), (4, 500), (4, 64),
      (4, 0)])) sIdle any_ ∧
    Shown detDefineCmd (hostPk (packed [(2, 255), (1, 5), (1, 0), (1, 0), (1, 0xFF), (24, 0), (2, 20), (4, 0), (4, 0x3F800000), (12, 0)]))
      sIdle any_ ∧
    Shown capDefineCmd (hostPk (packed [(2, 255), (1, 1), (1, 63), (1, 0), (1, 0), (1, 0xFF), (1, 0xFF), (4, 143999), (4, 1)] ++ zeros 568))
      sIdle any_ ∧
    Shown outDefineCmd (hostPk (packed [(2, 63), (1, 5), (1, 0), (1, 0), (1, 0xFF), (2, 0xFFFF), (16, 1), (2, 1), (2, 1), (2, 1), (2, 1),
      (2, 0), (4, 0), (2, 0), (4, 1)] ++ zeros 160 ++ packed [(2, 4095), (1, 0), (1, 0), (1, 0), (3, 0)])) sIdle any_ :=
  ⟨witness (by decide +kernel), witness (by decide +kernel), witness (by decide +kernel), witness (by decide +kernel), witness (by decide +kernel),
   witness (by decide +kernel), witness (by decide +kernel), witness (by decide +kernel), witness (by decide +kernel)⟩
/-! ## Run, power, configuration and images -/

theorem test_run_and_power_commands :
    Shown startCmd (hostPk []) (withBank (bankWith []) sIdle) (fun u => (startSched u).isSome && !u.pwr.bistFail) ∧
    Shown stopCmd (hostPk []) sRun any_ ∧ Shown warmResetCmd (hostPk []) sIdle (fun u => u.cas.role == .solo) ∧
    Shown powerCtrlCmd (hostPk (le 4 2)) sRun mainUp ∧
    Shown schedSwapCmd (hostPk []) { sIdle with bank1 := bankWith [] } (fun u => swapRefusal u == 1) :=
  ⟨witness (by decide +kernel), witness (by decide +kernel), witness (by decide +kernel), witness (by decide +kernel),
   witness (by decide +kernel)⟩

def stored (a b : Nat) : State :=
  { sIdle with nor := { ({} : Nor) with
      fwA := some { ver := 1, commit := a, valid := true, image := [] }, fwB := some { ver := 2, commit := b, valid := true, image := [] }
      cfgA := some { bank := {}, commit := a, consts := [] }, cfgB := some { bank := {}, commit := b, consts := [] } } }

theorem test_commit_commands :
    Shown fwCommitCmd (hostPk (le 4 0)) (stored 1 2) (fun u => u.nor.fwA.isSome) ∧
    Shown fwCommitCmd (hostPk (le 4 1)) (stored 1 2) (fun u => u.nor.fwB.isSome) ∧
    Shown cfgSaveCmd (hostPk []) (stored 1 2) any_ ∧ Shown cfgSaveCmd (hostPk []) (stored 2 2) any_ :=
  ⟨witness (by decide +kernel), witness (by decide +kernel), witness (by decide +kernel), witness (by decide +kernel)⟩

/-- A load of one chunk: the target, the image and the chunk's flags (bit 0 first, bit 1 last). -/
def chunk (target flags : Nat) (d : Bytes) : Bytes :=
  packed [(4, target), (4, d.length), (4, 0), (2, d.length), (1, flags), (1, 0)] ++ d

def sealed (d : Bytes) : Bytes := d ++ le 4 (crc32c d)

def schedImage : Bytes := sealed (packed [(4, 0x4B535156), (2, 1), (1, 50), (1, 1), (8, 9), (4, 1000), (4, 1), (4, 0xFFFFFFFF), (4, 0), (4, 0),
  (4, 0), (4, 0), (4, 0), (4, 64), (12, 0), (4, 1), (4, 0), (4, 1), (2, 1), (1, 1), (1, 0), (4, 5), (4, 0)])

def schemeImage : Bytes := sealed (packed [(4, 0x50535156), (2, 1), (1, 1), (1, 3), (8, 9), (4, 1000), (4, 64), (1, 50), (1, 0), (2, 0), (2, 0),
  (1, 0), (1, 0), (2, 0), (2, 1), (2, 0), (2, 0), (4, 0), (4, 0xFFFFFFFF), (4, 4), (12, 0), (1, 1), (1, 0), (2, 0), (4, 7), (8, 1), (4, 0)])

/-- The chunk completes its image, and the image has P. -/
def whole (op : Nat) (pk : Packet) (u : State) (P : Bytes → State → Bool) : Bool := match chunkTake pk.origin op (pkBytes pk) u with
  | .whole d v => P d v
  | _ => false

def withGroup : State := { sIdle with bank1 := { ({} : Bank) with groups := [(5, { rate := 1, wUs := 1000000, policy := 0, sids := [], prods := [] })] } }

/-- Of FW_LOAD one image is shown; whether it verifies is a constant of the part, so that one clause or the other holds of it. -/
theorem test_image_loads :
    ((liveLoads sIdle).any (fun c => decide (c.origin ≠ .mgp) && c.opcode == 0x0301 && c.target == fld (chunk 0 1 (zeros 8)) 0 4) = false ∧
      bit (fld (chunk 0 1 (zeros 8)) 14 1) 1 = false) ∧
    Shown schedLoadCmd (hostPk (chunk 0 3 schedImage)) withGroup (fun u =>
      whole 0x0301 (hostPk (chunk 0 3 schedImage)) u fun d v => schedStatus (schedOf d) v == 0) ∧
    Shown progLoadCmd (hostPk (chunk 63 3 schemeImage)) sIdle (fun u => !(schRun u 63).running &&
      whole 0x0501 (hostPk (chunk 63 3 schemeImage)) u fun d _ => d == schemeImage) ∧
    Shown fwLoadCmd (hostPk (chunk 0 3 [1, 2, 3, 4])) sIdle (fun u =>
      whole 0x0107 (hostPk (chunk 0 3 [1, 2, 3, 4])) u fun d _ => d == [1, 2, 3, 4]) :=
  ⟨by decide +kernel, witness (by decide +kernel), witness (by decide +kernel), witness (by decide +kernel)⟩

def encImage : Bytes := packed [(1, 1), (1, 16), (2, 64), (1, 0), (3, 0)] ++ zeros 128
def encBlock : Bytes := (prcEncode 16 0 (samplesOf 1 16 64 (encImage.drop 8))).getD []
def withQueue : State := { withBank (bankWith []) sIdle with oqs := [(0, { ({} : Oq) with en := true })] }

def roomFor (n : Nat) (v : State) : Bool :=
  (oq v 0).en && decide (oqLevel (oq v 0) + heldWords (oq v 0).held + pktWords n ≤ oqCapacity v 0)

theorem test_codec_commands :
    Shown prcEncodeCmd (hostPk (chunk 0 3 encImage)) withQueue (fun u => whole 0x0C02 (hostPk (chunk 0 3 encImage)) u fun d v =>
      match prcEncode (fld d 1 1) (fld d 4 1) (samplesOf (fld d 0 1) (fld d 1 1) (fld d 2 2) (d.drop 8)) with
      | some b => roomFor b.length v
      | none => false) ∧
    Shown prcDecodeCmd (hostPk (chunk 0 3 encBlock)) withQueue (fun u => whole 0x0C01 (hostPk (chunk 0 3 encBlock)) u fun d v =>
      match prcDecode d with
      | .ok c => roomFor (slice d 4 5 ++ zeros 3 ++ rawSamples (fld d 5 1) c).length v
      | .error _ => false) ∧
    Shown prcDecodeCmd (hostPk (chunk 0 3 (zeros 16))) withQueue (fun u => whole 0x0C01 (hostPk (chunk 0 3 (zeros 16))) u fun d v =>
      (oq v 0).en && match prcDecode d with
      | .ok _ => false
      | .error _ => true) :=
  ⟨witness (by decide +kernel), witness (by decide +kernel), witness (by decide +kernel)⟩

/-! ## Time, clock, recorder, detectors and schemes -/

def timeParams (source : Nat) : Bytes := packed [(4, source), (1, 0), (1, 0), (1, 1), (1, 0), (4, 0), (4, 1)] ++ zeros 24
def lockedIn (ps : PState) : State := { at_ ps with tb := { (at_ ps).tb with state := .locked } }

theorem test_time_commands :
    Shown timeConfigCmd (hostPk (timeParams 2)) (lockedIn .idle) any_ ∧ Shown timeConfigCmd (hostPk (timeParams 0)) sIdle any_ ∧
    Shown timeSetCmd (hostPk (packed [(8, 2 ^ 48 - 1), (4, 0)])) sIdle (fun u => u.tb.state != .locked && inIdle u) ∧
    Shown timeSetCmd (hostPk (packed [(8, 100), (4, 1)])) sRun (fun u => u.tb.state != .locked && !inIdle u &&
      decide (((u.tb.count : Int) - ((100 * 2 ^ 32 + 1) * 2 ^ 32 : Nat)).natAbs * 1000 < 2 ^ 64)) ∧
    Shown timeSetCmd (hostPk (packed [(8, 5), (4, 0)])) (lockedIn .run) (fun u => u.tb.state == .locked) ∧
    Shown leapSetCmd (hostPk (packed [(2, 1000), (1, 2), (1, 0)])) sIdle any_ ∧
    Shown rtcCurveLoadCmd (hostPk (zeros 68)) sIdle mainUp ∧
    Shown rtcCurveLoadCmd (mgpPk (zeros 68)) (mailed 0x0905 (mgpPk (zeros 68)) (at_ .aonOnly)) (fun u => !mainUp u) ∧
    Shown rtcLeapTableCmd (hostPk (zeros 64)) sIdle mainUp ∧
    Shown rtcLeapTableCmd (mgpPk (zeros 64)) (mailed 0x0906 (mgpPk (zeros 64)) (at_ .dormant)) (fun u => !mainUp u) :=
  ⟨witness (by decide +kernel), witness (by decide +kernel), witness (by decide +kernel), witness (by decide +kernel),
   witness (by decide +kernel), witness (by decide +kernel), witness (by decide +kernel), witness (by decide +kernel),
   witness (by decide +kernel), witness (by decide +kernel)⟩

theorem test_recorder_commands :
    Shown recNoteCmd (hostPk (packed [(1, 5), (1, 0), (2, 1), (4, 65)])) sIdle (fun u =>
      decide ((u.rcd.live.filter (·.staged)).length < Config.stagingRoom) && decide (recLive u.rcd.live + 1040 ≤ Config.recorderRoom)) ∧
    Shown recExportCmd (hostPk (packed [(4, 0), (2, 1024), (2, 0)])) sIdle any_ :=
  ⟨witness (by decide +kernel), witness (by decide +kernel)⟩

def scheme63 : SchemeImg := { schemeOf schemeImage with vars := [{ type := 1, cls := 1, ident := 7, init := 1 }, { type := 1, cls := 2, ident := 8, init := 0 }] }
def withScheme (r : SchRun) : State := { withBank { ({} : Bank) with schemes := [(63, scheme63)] } sRun with schs := [(63, r)] }
def cold : State := withScheme {}
def warm : State := withScheme { running := true }
def setOne : Bytes := packed [(1, 63), (1, 1), (2, 0), (2, 1), (1, 0), (1, 1), (8, 1), (4, 0)]
def forceOne (act : Nat) : Bytes := packed [(1, 63), (1, act), (2, 1), (1, 1), (3, 0), (8, 1)]

theorem test_scheme_commands :
    Shown detAckCmd (hostPk (packed [(4, 255)])) sRun any_ ∧ Shown detAckCmd (hostPk (packed [(2, 0xFFFF), (2, 0)])) sRun any_ ∧
    Shown progStartCmd (hostPk (packed [(4, 63)])) cold (fun u => (schImg (activeBank u) 63).isSome && !(schRun u 63).running) ∧
    Shown progStopCmd (hostPk (packed [(4, 63)])) warm (fun u => (schRun u 63).running && (schRun u 63).stopWait.isNone) ∧
    Shown progStopCmd (hostPk (packed [(4, 63)])) cold (fun u => !(schRun u 63).running) ∧
    Shown progSetValuesCmd (hostPk setOne) warm (fun u => (schRun u 63).running && decide (pendingSets (schRun u 63) < 4) &&
      !(cellsOf setOne).any fun c => c.space == 0 && mhas (schRun u 63).forces c.id) ∧
    Shown progSetValuesCmd (hostPk setOne) (withScheme { running := true, forces := [(1, 0)] }) (fun u => (schRun u 63).running &&
      (cellsOf setOne).any fun c => c.space == 0 && mhas (schRun u 63).forces c.id) ∧
    Shown progForceCmd (hostPk (forceOne 1)) warm (fun u => decide (forceCount u < Config.maxForces)) ∧
    Shown progForceCmd (hostPk (forceOne 2)) warm any_ ∧ Shown progForceCmd (hostPk (forceOne 3)) warm any_ :=
  ⟨witness (by decide +kernel), witness (by decide +kernel), witness (by decide +kernel), witness (by decide +kernel),
   witness (by decide +kernel), witness (by decide +kernel), witness (by decide +kernel), witness (by decide +kernel),
   witness (by decide +kernel), witness (by decide +kernel)⟩
/-! ## Voice, captures, queues, keys and Castling: their commands -/

def playout : SchedEntry := { q := 50, a := 0, m := 1, n := 50, action := 3, flags := 0, target := 1023, arg := 0 }
def voiceT : Template :=
  { type := 6, prio := 0, pavset := 1, affDepth := 4, gid := 0xFFFF, object := 1023, tflags := 0, wcet := 1000, stateSize := 64
    blk := [6, 0, 0, 0] }
def sVoice : State := withBank { bankWith [playout] with templates := [(1, voiceT)] } sRun
def callParams : Bytes := packed [(2, 1023), (1, 6), (1, 1), (1, 20), (1, 0), (2, 10), (2, 300), (2, 300), (6, 0), (2, 0), (2, 0), (1, 0), (1, 0xFF),
  (2, 0), (1, 0xFF), (1, 0), (4, 0)]
def open1 : VchRun := { par := vchParamsOf callParams }
def withCall (r : VchRun) : State := { sVoice with vchs := [(1023, r)] }

theorem test_call_commands :
    Shown vchOpenCmd (hostPk callParams) sVoice (fun u => !vchOpenNow u 1023 && vchUnits u 1023 (vchParamsOf callParams)) ∧
    Shown vchModifyCmd (hostPk callParams) (withCall open1) (fun u => vch u 1023 == some open1 && vchUnits u 1023 (vchParamsOf callParams)) ∧
    Shown vchModifyCmd (hostPk callParams) (withCall { open1 with openAt := some (instant 101) }) (fun u =>
      vch u 1023 == some { open1 with openAt := some (instant 101) } && vchUnits u 1023 (vchParamsOf callParams)) ∧
    Shown vchCloseCmd (hostPk (packed [(4, 1023)])) (withCall open1) (fun u => vchOpenNow u 1023) ∧
    Shown vchOpenCmd (hostPk callParams) (withCall open1) (fun u => vchOpenNow u 1023) ∧
    Shown vchModifyCmd (hostPk callParams) sVoice (fun u => !vchOpenNow u 1023) ∧
    Shown vchCloseCmd (hostPk (packed [(4, 1023)])) sVoice (fun u => !vchOpenNow u 1023) :=
  ⟨witness (by decide +kernel), witness (by decide +kernel), witness (by decide +kernel), witness (by decide +kernel),
   witness (by decide +kernel), witness (by decide +kernel), witness (by decide +kernel)⟩

def flowParams (role : Nat) : Bytes := packed [(2, 4095), (2, 1023), (1, role), (1, 2), (2, 0xFFFF)] ++ be 16 1 ++ be 16 2 ++
  packed [(2, 1024), (2, 6000), (4, 9), (1, 0), (1, 0xFF), (1, 0), (1, 0), (2, 3), (2, 0), (4, 4), (4, 5)]
def flow1 : FlowRun := { def_ := flowDefOf (flowParams 5), seq := 3, ts := 4, roc := 5 }
def withFlow (fs : Map FlowRun) : State :=
  { withCall open1 with flows := fs, ports := [(2, { ({} : Port) with up := true, cfg := { ({} : PortCfg) with addrs := [(1, 0xFFFF, 24)] } })] }

theorem test_flow_command :
    Shown flowSetCmd (hostPk (flowParams 5)) (withFlow []) (fun u => vchOpenNow u 1023 && !sameFlow u 4095 (flowDefOf (flowParams 5))) ∧
    Shown flowSetCmd (hostPk (flowParams 5)) (withFlow [(4095, flow1)]) (fun u => vchOpenNow u 1023 && mget u.flows 4095 == some flow1 &&
      sameFlow u 4095 (flowDefOf (flowParams 5)) && bit (flowDefOf (flowParams 5)).role 2 && !bit (flowDefOf (flowParams 5)).role 4) ∧
    Shown flowSetCmd (hostPk (flowParams 0)) (withFlow [(4095, flow1)]) (fun u => vchOpenNow u 1023 && !bit (flowDefOf (flowParams 0)).role 2) :=
  ⟨witness (by decide +kernel), witness (by decide +kernel), witness (by decide +kernel)⟩

def capDef1 (cls trig : Nat) : CapDef :=
  { cls := cls, oq := 0, e := 0, opts := 0, sign := 0, lateOq := 0xFF, pre := 2, post := 2, hold := 0, decim := 0, blockN := 0, phase := 0
    sealS := 0, wasRise := 0, wasFall := 0, trig := trig, dets := [], schs := [], sids := [4095] }
def withCap (r : CapRun) : State := { sRun with caps := [(255, r)] }
def ring1 (trig : Nat) (armed : Bool) : CapRun := { ({ def_ := capDef1 1 trig } : CapRun) with armed := armed }

theorem test_capture_commands :
    Shown capArmCmd (hostPk (packed [(2, 255), (1, 1), (1, 0)])) (withCap (ring1 1 false)) (fun u => capRun u 255 == some (ring1 1 false)) ∧
    Shown capArmCmd (hostPk (packed [(2, 255), (1, 1), (1, 0)])) (withCap (ring1 1 true)) (fun u => capRun u 255 == some (ring1 1 true)) ∧
    Shown capTriggerCmd (hostPk (packed [(4, 255)] ++ zeros 16)) (withCap (ring1 1 true)) (fun u =>
      capRun u 255 == some (ring1 1 true) && emits u && trigOpen (ring1 1 true) (now u) && decide (openRecords u 255 (ring1 1 true) < 2)) ∧
    Shown capTriggerCmd (hostPk (packed [(4, 255)] ++ zeros 16)) (withCap (ring1 2 true)) (fun u => capRun u 255 == some (ring1 2 true)) ∧
    Shown oqFlushCmd (hostPk (packed [(4, 63)])) sIdle any_ ∧
    Shown portConfigCmd (hostPk (packed [(1, 5), (1, 0), (2, 1522)] ++ be 6 2 ++ packed [(2, 0), (1, 0), (1, 0), (1, 0), (1, 1)] ++
      List.replicate 8 48 ++ List.replicate 8 47 ++ zeros 36 ++ be 16 1 ++ packed [(2, 0xFFFF), (1, 32), (1, 0)])) sIdle any_ ∧
    Shown wakeSetCmd (hostPk (packed [(1, 7), (1, 3), (2, 0)] ++ zeros 144)) sIdle any_ :=
  ⟨witness (by decide +kernel), witness (by decide +kernel), witness (by decide +kernel), witness (by decide +kernel),
   witness (by decide +kernel), witness (by decide +kernel), witness (by decide +kernel)⟩

def parent0 : Locker := { state := .loaded, key := zeros 32, type := 1, usage := 1, kid := 5, keyId := 0, depth := 0, parent := 128, rootDom := 0, rootGen := 0 }
def withKeys : State := { sIdle with gh := { sIdle.gh with lockers := [(0, parent0)] } }
/-- A clear blob of 16 zero bytes as a key of type 6 under domain 0 (13 R349, R351). -/
def blob0 : Bytes := packed [(2, 0x4B47), (1, 2), (1, 6), (2, 4), (1, 0), (1, 0), (8, 0), (8, 0), (4, 0), (2, 16), (1, 0), (1, 0)] ++ zeros 44
def opens (u : State) : Bool := (unwrap 128 blob0 u).1.1 == 0

theorem test_key_commands :
    Shown keyLoadCmd (hostPk (packed [(1, 62), (1, 128), (2, 76)] ++ blob0)) withKeys opens ∧
    Shown keyClearCmd (hostPk (packed [(4, 62)])) withKeys any_ ∧
    Shown keyGenerateCmd (hostPk (packed [(1, 0), (1, 8), (2, 16), (4, 0)])) withKeys (fun u => parentStatus u 0 none == 0) ∧
    Shown keyRewrapCmd (hostPk (packed [(1, 128), (1, 0), (2, 76)] ++ blob0)) withKeys (fun u => opens u && parentStatus u 0 none == 0) ∧
    Shown domainInvalidateCmd (hostPk (packed [(1, 14), (1, 0), (2, 0x5A17)])) withKeys (fun u => intents u == [] && generation u 14 == 0) :=
  ⟨witness (by decide +kernel), witness (by decide +kernel), witness (by decide +kernel), witness (by decide +kernel),
   witness (by decide +kernel)⟩

def copyEntry : SchedEntry := { q := 50, a := 0, m := 1, n := 50, action := 5, flags := 0, target := 0, arg := 0 }
def pairKey0 : Locker := { parent0 with type := 9, usage := 33 }
/-- A unit in RUN with a partner, in a role. -/
def twin (r : Role) : State := { withBank (bankWith [copyEntry]) (runAs r) with
  pins := { sRun.pins with peerDet := true }, gh := { sRun.gh with lockers := [(63, pairKey0)] } }
def linked (r : Role) : State := { twin r with cas := { (twin r).cas with
  twinUp := true, peerRole := some .standby, peerHealth := 200, peerHealthAt := some (instant 100), peerCrc := some 0, peerId := 5 } }
def casParams (opts : Nat) : Bytes := packed [(1, 1), (1, opts), (1, 0), (1, 63), (2, 20000), (2, 0xFFFF), (8, 0), (1, 2), (1, 24), (2, 0xFFFF)] ++ be 16 1

theorem test_castling_commands :
    Shown casConfigCmd (hostPk (casParams 0)) sIdle any_ ∧
    Shown casConfigCmd (hostPk (casParams 2)) (twin .standby) (fun u => canPromote u && !heardActive u) ∧
    Shown casPairCmd (hostPk []) (withBank (bankWith [copyEntry]) { sIdle with pins := { sIdle.pins with peerDet := true } }) (fun u => paired u && u.gh.idOk) ∧
    Shown casSwitchoverCmd (hostPk []) (linked .active) (fun u => casActs u && peerEligible u && u.cas.switchAt.isNone) ∧
    Shown casResyncCmd (hostPk []) (linked .standby) (fun u => casActs u && u.cas.twinUp && u.cas.role != .active) ∧
    Shown casResyncCmd (hostPk []) (linked .active) (fun u => casActs u && u.cas.role == .active && hasPartner u && !u.cas.resync) :=
  ⟨witness (by decide +kernel), witness (by decide +kernel), witness (by decide +kernel), witness (by decide +kernel),
   witness (by decide +kernel), witness (by decide +kernel)⟩
/-! ## Registers, queues and ports -/

def rep0 : Reply := { origin := .host, status := 0, opcode := 0x0101, tag := 1, final := true, result := [] }
def cmdWith (f : CmdIf → CmdIf) : State := { sIdle with cmd := f sIdle.cmd }

theorem test_ring_registers :
    (mainUp sIdle = true ∧ tailOk sIdle (15 % 1024) = true ∧ ∀ u ∈ [({ slot := 0, opcode := 0x0D04, pk := hostPk [] } : UnknownCmd)], opcodes.contains u.opcode = true) ∧
    tailOk sIdle (16 % 1024) = false ∧ sIdle.cmd.replyWait = [] ∧
    (let u : UnknownCmd := { slot := 1, opcode := 0x0E00, pk := hostPk [] }
     tailOk sIdle (2 % 1024) = true ∧ opcodes.contains u.opcode = false ∧ u.pk.origin = .host ∧ u.slot = sIdle.cmd.cqTail ∧
     u.slot + 1 = 2 % 1024 ∧ 2 % 1024 < 2 ^ sIdle.cmd.cqSize) ∧
    (let s := cmdWith fun c => { c with replyWait := [(rep0, false)] }
     s.cmd.replyWait = [(rep0, false)] ∧ rep0.origin = .host ∧ s.pwr.fwFault = false ∧ s.cmd.rqEn = true ∧ (s.cmd.rqTail + 1) % 2 ^ s.cmd.rqSize ≠ 0 % 1024) ∧
    (let s := cmdWith fun c => { c with cqEn := false, cqSize := 2 }
     s.cmd.cqEn = false ∧ 2 ≤ s.cmd.cqSize ∧ s.cmd.cqSize ≤ 10) ∧
    (let s := cmdWith fun c => { c with rqEn := false, rqSize := 10 }
     s.cmd.rqEn = false ∧ 2 ≤ s.cmd.rqSize ∧ s.cmd.rqSize ≤ 10 ∧ s.cmd.replyWait = []) ∧
    (let s := cmdWith fun c => { c with cqEn := false, cqSize := 11 }
     s.cmd.cqEn = false ∧ (s.cmd.cqSize < 2 ∨ 10 < s.cmd.cqSize)) := by decide +kernel

theorem test_management_port :
    sIdle.pwr.ps ≠ .off ∧ crc8 (mgpBytes 1 0x30 []) ≠ 0 ∧ mgpStatus sIdle 0xFFFFFF ≠ 0 ∧ mgpStatus sIdle 0x30 = 0 ∧
    mgpStatus sIdle 0x2C = 0 ∧ (mailBusy sIdle = false ∧ bit 0 23 = false ∧ bit 0x800000 23 = true) ∧
    crc8 (mgpBytes 1 0x30 []) = crc8 (mgpBytes 1 0x30 []) ∧
    mailBusy (cmdWith fun c => { c with mailSubmitted := true }) = true ∧
    ((cmdWith fun c => { c with replyBox := some rep0 }).cmd.replyBox = some rep0 ∧ sIdle.cmd.replyBox = none) := by decide +kernel

def qp (n : Nat) : QPkt := { data := zeros n, mark := false }
def qWith (q : Oq) : State := { sIdle with oqs := [(63, q)] }
def w0 : Waiter := waiterOf 0x0704 (hostPk [])

theorem test_output_queue_control :
    ((1 : Word32).getLsbD 0 = true ∧ (1 : Word32).getLsbD 1 = false ∧ (oq sIdle 63).en = false ∧ (1 : Word32).getLsbD 3 = false) ∧
    (let s := qWith { ({} : Oq) with ringSize := 17 }
     (9 : Word32).getLsbD 0 = true ∧ (9 : Word32).getLsbD 3 = true ∧ (oq s 63).en = false ∧ 16 < (oq s 63).ringSize) ∧
    (let s := qWith { ({} : Oq) with en := true, pkts := [qp 8], begun := 1 }
     (0 : Word32).getLsbD 0 = false ∧ (oq s 63).en = true ∧ 0 < (oq s 63).begun) ∧
    (let s := qWith { ({} : Oq) with en := true }
     (3 : Word32).getLsbD 0 = (oq s 63).en ∧ (3 : Word32).getLsbD 1 = true ∧ (oq s 63).begun = 0) ∧
    (63 < 64 ∧ 0x90000 + 8 * 63 + 4 = 0x901FC) := by decide +kernel

theorem test_output_queue_reads :
    (let s := qWith { ({} : Oq) with en := true, pkts := [qp 8] }
     (oq s 63).pkts = qp 8 :: [] ∧ (oq s 63).en = true ∧ (oq s 63).dma = false ∧ (oq s 63).begun + 1 < pktWords (qp 8).data.length) ∧
    (let s := qWith { ({} : Oq) with en := true, pkts := [qp 7, qp 1] }
     (oq s 63).pkts = qp 7 :: [qp 1] ∧ (oq s 63).disabling = false ∧ (oq s 63).begun + 1 = pktWords (qp 7).data.length) ∧
    (oq sIdle 63).pkts = [] ∧
    (let s := qWith { ({} : Oq) with en := true, dma := true, pkts := [qp 4081] }
     dmaNext s = some 63 ∧ (oq s 63).begun + 4080 < (qp 4081).data.length) ∧
    (let s := qWith { ({} : Oq) with ringTail := 15 }
     ringMoveOk (oq s 63).ringSize (oq s 63).ringHead 15 (oq s 63).ringTail = true ∧ 15 ≠ (oq s 63).ringHead ∧
     ringMoveOk (oq s 63).ringSize (oq s 63).ringHead 16 (oq s 63).ringTail = false) ∧
    (let s := qWith { ({} : Oq) with flushing := true, flushWait := [w0] }
     (oq s 63).flushing = true ∧ (oq s 63).begun = 0 ∧ (oq s 63).flushWait = [w0]) ∧
    (let s := qWith { ({} : Oq) with staleFrom := some (instant 100), qtmo := 1 }
     (oq s 63).staleFrom = some (instant 100) ∧ (oq s 63).qtmo ≠ 0 ∧ (oq s 63).staleFired = false) ∧
    (let s := qWith { ({} : Oq) with held := [{ key := 1, words := 2048, resumed := false }] }
     oqLevel (oq s 63) + 2048 ≤ oqCapacity s 63 ∧ s.caps = []) := by decide +kernel

def iqWith (q : Iq) : State := { sIdle with iqs := [(15, q)] }
def iqE (len : Nat) : IqEntry := { len := len, flags := 3, queue := 15, pseq := 0, offset := 0, plen := len, data := [] }

theorem test_injection_queues :
    ((1 : Word32).getLsbD 0 = true ∧ (1 : Word32).getLsbD 1 = false ∧ (iq sIdle 15).en = false) ∧
    (let s := iqWith { ({} : Iq) with en := true }
     (3 : Word32).getLsbD 0 = true ∧ (3 : Word32).getLsbD 1 = true ∧ (iq s 15).en = true) ∧
    (let s := iqWith { ({} : Iq) with ringTail := 14 }
     15 = ((iq s 15).ringTail + 1) % 2 ^ (iq s 15).ringSize ∧ (iq s 15).ringHead = 0 ∧ (iq s 15).ringTail + 1 < 2 ^ (iq s 15).ringSize) ∧
    2 ^ (iq sIdle 15).ringSize ≤ 16 ∧
    (let s := iqWith { ({} : Iq) with en := true, dma := true, notice := false, entries := [iqE 4080] }
     (iq s 15).entries = [iqE 4080] ∧ (iq s 15).part = none ∧ (iq s 15).dropping = false ∧ (iq s 15).notice = false ∧
     iqLevel (iq s 15) + pktWords 4080 ≤ iqCapacity s 15) := by decide +kernel

def tx (flags : Nat) : TxDesc := { addr := 0, len := 60, flags := flags, cls := 6, tag := 5, data := [] }
def portWith (n : Nat) (p : Port) : State := { sIdle with ports := [(n, p)] }
def ringOn (r : Nat) (g : NetRing) : Map NetRing := [(r, { g with en := true })]

theorem test_network_rings :
    (mainUp sIdle = true ∧ (netRing sIdle 5 3).tail + 1 < 2 ^ (netRing sIdle 5 3).size ∧ 2 ^ (netRing sIdle 5 3).size ≤ 256) ∧
    (let s := portWith 5 { ({} : Port) with tsq := [{ tag := 1, stamp := 0 }] }
     (port s 5).tsq = [{ tag := 1, stamp := 0 }] ∧ (port sIdle 5).tsq = []) ∧
    (let s := portWith 5 { ({} : Port) with up := true, rings := ringOn 2 { ({} : NetRing) with descs := [tx 7] } }
     (port s 5).up = true ∧ heldBack s 5 = false ∧ (netRing s 5 2).en = true ∧ (netRing s 5 2).descs = [tx 7] ∧ ringReady s 5 3 = none ∧
     (tx 7).len + 4 ≤ (port s 5).cfg.maxFrame ∧ classPaused s 5 6 = false ∧ (port s 5).tsq.length < 64) ∧
    (let s := portWith 4 { ({} : Port) with up := true, rings := ringOn 2 { ({} : NetRing) with descs := [tx 11] } }
     (port s 4).up = true ∧ heldBack s 4 = false ∧ (netRing s 4 2).descs = [tx 11] ∧ ringReady s 4 3 = none ∧ classPaused s 4 6 = false) := by
  decide +kernel

theorem test_received_frames :
    let s := portWith 2 { ({} : Port) with up := true, cfg := { ({} : PortCfg) with flags := 4 }, rings := ringOn 0 { ({} : NetRing) with tail := 1 } }
    ((port s eth.port).up = true ∧ ({ eth with fcsOk := false } : EthFrame).fcsOk = false) ∧
    (({ eth with len := 63 } : EthFrame).len < 64 ∧ (port s 2).cfg.maxFrame < ({ eth with len := 1523 } : EthFrame).len) ∧
    (1 ≠ (port s 2).cfg.mac ∧ bit 1 40 = false) ∧
    (eth.fcsOk = true ∧ 64 ≤ eth.len ∧ eth.len ≤ (port s 2).cfg.maxFrame ∧ eth.dstMac = (port s 2).cfg.mac ∧
     bit (port s 2).cfg.flags 2 = true ∧ eth.len < (port s 2).cfg.xoff.getD 0 64 * 1024 ∧ isSvc s eth.dst = false ∧
     (netRing s 2 0).en = true ∧
     vlanTaken { (port s 2).cfg with flags := 0 } eth = false ∧
     eth.held + eth.len ≤ 65536 ∧ (rxDescs s 2 (ethInfo eth 0xFFFF)).length ≤ ringFree (netRing s 2 0)) := by decide +kernel

theorem test_port_events :
    (let s := portWith 2 { ({} : Port) with prp := [(7, { last := instant 99, seqs := [] })] }
     mget (port s (pairPort 3)).prp 7 = some { last := instant 99, seqs := [] }) ∧
    (let s := portWith 2 { ({} : Port) with cfg := { ({} : PortCfg) with flags := 2 } }
     bit (port s 2).cfg.flags 1 = true ∧ classPaused s 2 6 = false ∧ classPaused s 3 6 = false ∧ heldBack s 2 = false ∧
     heldBack s 3 = false ∧ s.txWait = []) ∧
    (let s := portWith 5 { ({} : Port) with cfg := { ({} : PortCfg) with pfcRx := 0x80 } }
     bit (port s 5).cfg.pfcRx 7 = true ∧ 65535 ≠ 0) ∧
    mget (port (portWith 5 { ({} : Port) with paused := [(7, instant 101)] }) 5).paused 7 = some (instant 101) ∧
    bit (pausingByte (port (portWith 5 { ({} : Port) with pausing := 0x80 }) 5)) 7 = true ∧
    (port (portWith 5 { ({} : Port) with pausing := 0x80 }) 5).pausing = 2 ^ 7 := by decide +kernel

/-! ## Clock, recorder and power -/

theorem test_clock_reads :
    (portAlive sIdle .host = true ∧ sIdle.rtc.locked = false ∧ (rtcPort sIdle.rtc .host).frozen = none ∧ (6 : Fin 8).val ≠ 7) ∧
    (rtcPort ({ sIdle with rtc := { sIdle.rtc with host := { sIdle.rtc.host with frozen := some (instant 100) } } } : State).rtc .host).frozen =
      some (instant 100) := by decide +kernel

def clockWith (f : Rtc → Rtc) : State := { sIdle with rtc := f sIdle.rtc }

theorem test_clock_setting :
    (sIdle.rtc.setWait = none ∧ (rtcStaged sIdle.rtc (rtcPort sIdle.rtc .host).w).isSome = true) ∧
    (let s := clockWith fun r => { r with host := { r.host with w := { r.host.w with r2 := 0xFFFF } } }
     s.rtc.setWait = none ∧ rtcStaged s.rtc (rtcPort s.rtc .host).w = none) ∧
    (clockWith fun r => { r with setWait := some (.mgp, 5, 6) }).rtc.setWait = some (.mgp, 5, 6) ∧
    (let s := clockWith fun r => { r with sec := rangeEndCount [], sub := 32767 }
     s.rtc.rangeEnd = false ∧ rangeEndCount s.rtc.leaps * 32768 + 32767 ≤ s.rtc.sec * 32768 + s.rtc.sub) ∧
    (clockWith fun r => { r with unlockAt := some (instant 101) }).rtc.unlockAt = some (instant 101) := by decide +kernel

def rec1 (seq sev : Nat) : Record :=
  { sev := sev, cls := 12, seq := seq, cycles := 0, opTime := 0, code := 1, origin := 1, pflags := 1, subject := 0, arg0 := 0, arg1 := 0
    utc := 0, detail := [] }
def recWith (f : Recorder → Recorder) : State := { sIdle with rcd := f { sIdle.rcd with live := [rec1 1 7, rec1 2 3], seq := 3 } }
def at1 (n : Nat) : RecCursor := { ({} : RecCursor) with copy := some (rec1 n 7), seek := n }

theorem test_recorder_cursors :
    (portAlive sIdle .host = true ∧ (recWith id).rcd.live.head? = some (rec1 1 7) ∧ (recWith id).rcd.live.getLast? = some (rec1 2 3)) ∧
    (let s := recWith fun r => { r with host := at1 1 }
     (recCursor s .host).copy = some (rec1 1 7) ∧
     s.rcd.live.find? (fun r => decide (recAge s r.seq < recAge s (rec1 1 7).seq)) = some (rec1 2 3) ∧
     recAge s (recCursor s .host).seek < 2 ^ 31 ∧
     s.rcd.live.find? (fun r => r.seq == (recCursor s .host).seek) = some (rec1 1 7)) ∧
    (let s := recWith fun r => { r with host := at1 2 }
     s.rcd.live.reverse.find? (fun r => decide (recAge s 2 < recAge s r.seq)) = some (rec1 1 7)) ∧
    sIdle.rcd.live = [] := by decide +kernel

def load1 : ChunkLoad := { origin := .host, opcode := 0x0301, target := 0, totalLen := 8, data := zeros 4, last := instant 100 }

theorem test_recorder_and_housekeeping :
    ((0xC1EA0007 : Word32).toNat / 65536 = 0xC1EA ∧ sIdle.rcd.clearing = [] ∧ (0xC1EB0000 : Word32).toNat / 65536 ≠ 0xC1EA) ∧
    (recWith fun r => { r with clearing := [(7, 2, .host)] }).rcd.clearing = [(7, 2, .host)] ∧
    ((recWith id).rcd.live = rec1 1 7 :: [rec1 2 3] ∧ (rec1 1 7).staged = true) ∧ (sIdle.pwr.ps ≠ .off ∧ sIdle.rcd.owed = false) ∧
    ({ sIdle with glb := { sIdle.glb with trcQ := 79 } } : State).glb.trcQ < 80 ∧
    (cmdWith fun c => { c with chunks := [load1] }).cmd.chunks.find? (isLoad .host 0x0301 0) = some load1 := by decide +kernel

theorem test_power_requests :
    ((at_ .aonOnly).pwr.ps = .aonOnly ∧ budget (at_ .aonOnly) ≠ 0 ∧ (at_ .aonOnly).pins.modRst = false) ∧
    ((at_ .dormant).pwr.ps = .dormant ∧ budget (at_ .dormant) ≠ 0) ∧
    (let s : State := { at_ .dormant with pwr := { (at_ .dormant).pwr with vinOk := false } }
     s.pwr.ps = .dormant ∧ budget s = 0) ∧
    (let s := portWith 1 { ({} : Port) with up := true }
     mainUp s = true ∧ dormantRefused s = false ∧ s.cas.role ≠ .active) ∧
    (sIdle.pwr.ps ≠ .off ∧ sIdle.pwr.tripped = false ∧ sIdle.pins.modRst = false ∧ budget sIdle ≠ 0) ∧ (at_ .boot).pwr.ps = .boot ∧
    (let s : State := { sIdle with pwr := { sIdle.pwr with mainOffWait := some none, warmAt := true, dormantWait := some none } }
     s.pwr.ps = .idle ∧ s.pwr.mainOffWait.isSome = true ∧ s.pwr.warmAt = true ∧ s.cas.switchAt = none ∧ s.pwr.dormantWait = some none) := by
  decide +kernel

def pwrWith (f : Power → Power) : State := { sIdle with pwr := f sIdle.pwr }

theorem test_supply_events :
    (State.reset.pwr.vinOk = false ∧ State.reset.pwr.pdA.delivering = false ∧ State.reset.pwr.pdB.delivering = false) ∧
    (sIdle.pwr.ps ≠ .off ∧ (at_ .off).pwr.ps = .off ∧ sIdle.pwr.vbatOk = true ∧ (pwrWith fun p => { p with vbatOk := false }).pwr.vbatOk = false) ∧
    (let s := pwrWith fun p => { p with pdB := { delivering := false, alloc := 6 } }
     (pdOf s true).delivering ≠ true ∧ budget (setPd true { pdOf s true with delivering := true } s) ≠ 0) ∧
    budget (setPd true { pdOf sIdle true with alloc := min 8 8 } sIdle) ≠ 0 ∧
    (let s := pwrWith fun p => { p with vinOk := false, pdB := { delivering := true, alloc := 8 } }
     s.pwr.mainUp = true ∧ budget s ≠ 0 ∧ s.pwr.mainOffWait = none ∧ budget (setPd true { pdOf s true with alloc := min 0 8 } s) = 0) ∧
    sIdle.pwr.pwrFail = false ∧
    (let s := pwrWith fun p => { p with pwrFail := true }
     s.pwr.pwrFail = true ∧ s.pwr.vinOk = true) := by decide +kernel

theorem test_thermal_boot_and_resets :
    (1760 ≤ (1760 : BitVec 16).toInt ∧ sIdle.pins.therm = false ∧ sIdle.pwr.mainUp = true ∧ (1679 : BitVec 16).toInt < 1680 ∧
      2000 ≤ (2000 : BitVec 16).toInt) ∧
    (let s : State := { at_ .boot with pwr := { (at_ .boot).pwr with fwImg := some 0 } }
     s.pwr.ps = .boot ∧ s.pwr.fwImg = some 0 ∧ s.pwr.fwImg.isSome = true ∧ (at_ .boot).pwr.fwImg = none) ∧
    (let s : State := { at_ .aonOnly with pins := { (at_ .aonOnly).pins with modRst := true } }
     s.pwr.ps = .aonOnly ∧ s.pins.modRst = true ∧ s.pwr.tripped = false ∧ budget s ≠ 0) ∧
    (sIdle.pins.modRst = false ∧ sIdle.pwr.fwFault = false ∧ hasCopy (activeBank (twin .active)) = true ∧ inRun sIdle = false) := by
  decide +kernel
/-! ## The time base, the slots and Castling -/

def tbWith (s : State) (f : TimeBase → TimeBase) : State := { s with tb := f s.tb }
def gm : Announce :=
  { domain := ptpDomain {}, sender := 7, prio1 := 128, clockClass := 6, accuracy := 0x21, variance := 0, prio2 := 128, gmId := 1, steps := 0
    utcOffset := 37, utcValid := true, leap61 := false, leap59 := false, tti := none }

theorem test_time_references :
    (mainUp sIdle = true ∧ timeOutputs (tbWith sIdle fun t => { t with state := .holdover }) = true ∧ sIdle.glb.trcEn = false ∧
      sIdle.tb.cfg.source ≠ 1) ∧
    (let s := tbWith sIdle fun t => { t with cfg := { t.cfg with source := 1 }, todSet := true, ppsEdge := some (instant 100) }
     s.tb.cfg.source = 1 ∧ s.tb.todSet = true ∧
     ((nearSecond (ppsInstant s (instant 100))).1 + s.tb.todErr * 1000000000).natAbs < 100 ∧ s.tb.ppsEdge = some (instant 100) ∧
     s.tb.zdaEdge ≠ some (instant 100) ∧ now s < instant 100 + msU 950 ∧ s.tb.ppsDisagree < 2 ∧
     ((nearSecond (ppsInstant s (instant 100))).2 : Int) - (100 + utcOffsetAt s (ppsInstant s (instant 100)) : Nat) = s.tb.todErr ∧
     ((nearSecond (ppsInstant s (instant 100))).2 : Int) - (99 + utcOffsetAt s (ppsInstant s (instant 100)) : Nat) ≠ s.tb.todErr) ∧
    (0 < fnom sIdle ∧ onGrid 240 (gridAt 240 239) = true ∧ gridAt 240 (3 * 240 + 239) = 3 * 2 ^ 32 + 239 * 2 ^ 32 / 240) := by
  decide +kernel

theorem test_lock_and_leap :
    (let s := tbWith sIdle fun t => { t with goodRun := 16 }
     mainUp s = true ∧ 16 ≤ s.tb.goodRun ∧ s.tb.state ≠ .locked ∧ s.tb.stepPending = none ∧ s.tb.stepRestart = none) ∧
    (let s := tbWith sIdle fun t => { t with state := .locked, cfg := { t.cfg with source := 1 } }
     s.tb.state = .locked ∧ s.tb.cfg.source = 1) ∧
    (let s := tbWith sIdle fun t => { t with state := .locked, gmPort := 2, masters := [(2, gm)] }
     s.tb.state = .locked ∧ s.tb.cfg.source = 0 ∧ mdel s.tb.masters s.tb.gmPort = []) ∧
    (let s := tbWith sIdle fun t => { t with storedWaiting := true, leapEnd := some 200 }
     s.tb.storedWaiting = true ∧ s.tb.utcFromPtp = false ∧ s.tb.leapEnd = some 200) := by decide +kernel

theorem test_ptp :
    let s := tbWith sIdle fun t => { t with
      cfg := { t.cfg with ports := 0x20 }, gmPort := 5, masters := [(5, gm)], pdelaySent := [(5, (1, 0))]
      pdelayGot := [(5, (1, 0, 0, 0))], announceAt := [(5, instant 99)] }
    let n := tbWith sIdle fun t => { t with cfg := { t.cfg with ports := 0x20 } }
    let m : PtpSync := { kind := 0, domain := ptpDomain {}, sender := 7, seq := 0, originNs := toNs (instant 100) + 99, corrNs := 0 }
    (ptpPort s 5 = true ∧ s.tb.gmPort = 5 ∧ mget s.tb.masters 5 = some gm ∧ gm.sender = m.sender ∧ m.domain = ptpDomain s.tb.cfg ∧
      (syncOffset s 5 (instant 100) m).natAbs < 100) ∧
    (ptpPort n 5 = true ∧ gm.domain = ptpDomain n.tb.cfg ∧ mget n.tb.masters 5 = none ∧ mget n.tb.pdelaySent 5 = none ∧
      classPaused n 5 7 = false ∧ heldBack n 5 = false ∧ mgetD n.txWait 5 [] = []) ∧
    (mget s.tb.pdelaySent 5 = some (1, 0) ∧ mget s.tb.pdelayGot 5 = some (1, 0, 0, 0) ∧ mget s.tb.announceAt 5 = some (instant 99)) := by
  decide +kernel

theorem test_run_and_boundaries :
    (let s := pwrWith fun p => { p with startWait := some [], swapWait := some (instant 101, w0) }
     inIdle s = true ∧ s.pwr.startWait = some [] ∧ s.pwr.swapWait = some (instant 101, w0) ∧ sIdle.pwr.swapWait = none) ∧
    (let s : State := { sRun with pwr := { sRun.pwr with stopWait := some [] } }
     inRun s = true ∧ s.pwr.stopWait = some [] ∧ s.pwr.swapWait = none) ∧
    (let s := withScheme { running := true, stopWait := some [] }
     (schRun s 63).running = true ∧ stopDue s 63 = true ∧ (schRun s 63).stopLast = none) ∧
    (let s := tbWith sIdle fun t => { t with stepRestart := some 1000000 }
     s.tb.stepRestart = some 1000000 ∧ 1000000 ≤ (1000000 : Int).natAbs ∧ inRun s = false) ∧
    (let s := tbWith sIdle fun t => { t with stepRestart := some (-999999) }
     s.tb.stepRestart = some (-999999) ∧ (-999999 : Int).natAbs < 1000000) ∧
    (inRun sRun = true ∧ sRun.cas.role = .solo ∧ paired sRun = false) := by decide +kernel

def casWith (r : Role) (f : Castling → Castling) : State := { twin r with cas := f (twin r).cas }

theorem test_twin_link :
    (let s := casWith .standby fun c => { c with listening := some (instant 100) }
     casActs s = true ∧ s.cas.listening = some (instant 100) ∧ s.cas.activeHeardAt = none ∧ s.cas.twinUp = false ∧ s.cas.hbOk = false ∧
     s.cas.role ≠ .active ∧ s.cas.hbEdges = [] ∧ lockerLoaded s 63 = true) ∧
    (let s := casWith .standby fun c => { c with hbOk := true, hbEdges := [instant 100] }
     s.cas.hbOk = true ∧ s.cas.hbEdges = [instant 100]) ∧
    (linked .active).cas.twinUp = true ∧
    (let s := casWith .active fun c => { c with lossAt := some (instant 100) }
     s.cas.lossAt = some (instant 100) ∧ s.cas.twinUp = false ∧ s.cas.role = .active) ∧
    (let s := casWith .standby fun c => { c with decideFrom := some (instant 100), absentSlots := 3, lossElig := true }
     s.cas.role = .standby ∧ s.cas.decideFrom = some (instant 100) ∧ s.cas.hbOk = false ∧ s.cas.twinUp = false ∧ 3 ≤ s.cas.absentSlots ∧
     s.cas.lossElig = true) := by decide +kernel

def presOk : Presence := { pres with id := Config.deviceId + 1, tag := presenceTag (zeros 32) { pres with id := Config.deviceId + 1 } }
def eligible1 : State := casWith .standby fun c => { c with score := 128, lastApplied := some (instant 100), peerCrc := some 0 }

theorem test_partner_messages :
    (beat.version = Config.twinVersion ∧ (twin .standby).cas.role ≠ .active) ∧
    (let s : State := { tbWith (casWith .standby fun c => { c with cfg := { c.cfg with presPorts := 0x20 } })
        (fun t => { t with count := t.count + 2 ^ 55 }) with ports := [(5, { ({} : Port) with up := true })] }
     bit s.cas.cfg.presPorts 5 = true ∧ portUp s 5 = true ∧ pairKey s = some (zeros 32) ∧ classPaused s 5 6 = false ∧
     heldBack s 5 = false ∧ mgetD s.txWait 5 [] = [] ∧ gridPlus (fnom s) (gridFloor (fnom s) (slotFloor s (now s))) 1 1000 ≤ now s) ∧
    (presOk.magic = 0x5343 ∧ presOk.tag = presenceTag (zeros 32) presOk ∧ presOk.id = Config.deviceId + 1 ∧
      Config.deviceId + 1 ≠ Config.deviceId ∧ presOk.role ≠ 1) ∧
    (let s := casWith .active fun c => { c with sent := [(7, { lines := [], trigs := [], digests := [] })] }
     s.cas.role = .active ∧ mget s.cas.sent 7 = some { lines := [], trigs := [], digests := [] }) ∧
    (eligible eligible1 = true ∧ (linked .standby).cas.role = .standby ∧ (linked .standby).cas.twinUp = true ∧
      (linked .standby).cas.lastApplied = none) :=
  ⟨⟨rfl, by decide⟩, by decide +kernel, ⟨rfl, by simp only [presOk, presenceTag, presenceBytes], rfl, by omega, by decide⟩,
   by decide +kernel, by decide +kernel⟩

theorem test_resynchronisation :
    (casActs (twin .standby) = true ∧ lockerLoaded (twin .standby) 63 = true ∧ (twin .standby).cas.role = .standby) ∧
    (casWith .standby fun c => { c with peerVersion := Config.twinVersion }).cas.peerVersion = Config.twinVersion ∧
    (let s := casWith .standby fun c => { c with resync := true, resyncRetry := some (instant 110) }
     s.cas.resync = true ∧ s.cas.resyncBuf = [] ∧ s.cas.resyncRetry = some (instant 110)) :=
  ⟨by decide +kernel, rfl, by decide +kernel⟩

theorem test_roles :
    (let s : State := { twin .active with pwr := { sRun.pwr with pwrFail := true } }
     casActs s = true ∧ s.cas.role = .active ∧ s.pwr.pwrFail = true) ∧
    (let s := casWith .standby fun c => { c with takeoverAt := some (instant 101), promoteAt := some (instant 101) }
     s.cas.role = .standby ∧ s.cas.takeoverAt = some (instant 101) ∧ s.cas.promoteAt = some (instant 101)) ∧
    (casWith .stalemate fun c => { c with promoteAt := some (instant 101) }).cas.role = .stalemate ∧
    (let s : State := { linked .active with cas := { (linked .active).cas with switchAt := some (instant 100, none), shadowRun := 2 } }
     s.cas.switchAt = some (instant 100, none) ∧ 2 ≤ s.cas.shadowRun ∧ hasPartner s = true ∧ s.schs = []) ∧
    (let s := casWith .active fun c => { c with switchAt := some (instant 100, none), shadowRun := 1, announceAt := [instant 101] }
     s.cas.role = .active ∧ s.cas.switchAt = some (instant 100, none) ∧ s.cas.shadowRun < 2 ∧ s.cas.announceAt = [instant 101]) := by
  decide +kernel

theorem test_partner_commands :
    (let s : State := { sIdle with gh := { sIdle.gh with pairWait := some (w0, 5, zeros 16) } }
     s.gh.pairWait = some (w0, 5, zeros 16)) ∧
    (let pk := { hostPk (packed [(4, 255)]) with origin := .twin }
     fwDown (twin .standby) = false ∧ bit pk.flags 1 = false ∧ class01 detAckCmd pk (twin .standby) = none ∧ class02 detAckCmd .twin (twin .standby) = none) := by
  decide +kernel
/-! ## The schedule, ingest, tasks and outputs -/

/-- RUN with a bank. -/
def runBank (b : Bank) : State := withBank b sRun
def group1 : GroupDef := { rate := 1, wUs := 1000000, policy := 1, sids := [], prods := [] }
def tmpl1 (type object gid : Nat) (blk : Bytes := []) : Template :=
  { type := type, prio := 0, pavset := 1, affDepth := 4, gid := gid, object := object, tflags := 0, wcet := 1000, stateSize := 64, blk := blk }
def issue1 (e : SchedEntry) : Option (SchedEntry × Instant) := some (e, instant 100)

def svStream : StreamDef :=
  { type := 3, ports := 4, rate := 4000, tol := 0, tq := 0x40, dropout := 5, opts := 0, altSid := 0xFFFF, vlan := 0xFFFF, udpPort := 0
    idcode := 0x4000, srcAddr := 0, dstMac := 5, locker := 0xFFFF, ident := 7, nch := 1, tbConf := 1, blocks := [] }
def filterT : Template := tmpl1 5 0 0xFFFF (packed [(2, 4095), (1, 1), (1, 0), (1, 0), (3, 0)])
def sFilter : State :=
  let b : Bank := { bankWith [entry 2 9] with templates := [(9, filterT)], streams := [(4095, svStream)] }
  let p := fcPar 50 4000 filterT.blk
  let j := (gridFloor p.rate (instant 100) - p.lam) * p.rOut / p.rate
  { runBank b with filters := [(4095, { ({} : FilterRun) with next := j })] }

def outD : OutDef :=
  { port := 2, flags := 0, dscp := 0, locker := 0xFF, vlan := 0xFFFF, dstAddr := 1, dstUdp := 102, srcUdp := 102, idcode := 0, rtMin := 0, rtMax := 0
    tbConf := 1, goid := 0, gocbref := 0, datset := 0, blocks := [], members := [] }
def sPub : State := { runBank { bankWith [entry 7 0x1FF] with
    outs := [(0x1FF, outD)], templates := [(8, tmpl1 3 0x1FF 5)], groups := [(5, group1)] } with
  pubs := [(255, { ({} : PubRun) with newState := some (instant 99, instant 99, [1]), nextAt := some (instant 101), interval := 4 })]
  mst := { ({} : Match) with firstInst := [(5, instant 90)] } }

/-- An output stream whose instance 99 has fired, with the frames that are built for it. -/
def sOut (fs : List (Instant × Instant × OutFrame)) : State := { runBank { bankWith [entry 7 0xFF] with
    outs := [(0xFF, outD)], templates := [(8, tmpl1 3 0xFF 5)], groups := [(5, group1)] } with
  outRuns := [(0xFF, { ({} : OutRun) with built := fs })]
  mst := { ({} : Match) with firstInst := [(5, instant 90)], lastFired := [(5, instant 99)] } }
def frame1 : Instant × Instant × OutFrame := (instant 99, instant 99, { out := 0xFF, idcode := 0, soc := 99, fracsec := 0, tq := 0, blocks := [] })

/-- A check of `Issues`. -/
def issues (a n i : Nat) (e : SchedEntry) (t : Instant) (s : State) : Bool :=
  inRun s && issueOf s a n i == some (e, t) && (issuesAt (advanceTo t s) t).filter (fun x =>
    decide (issueRank x ≤ issueRank { idx := n, e := e, i := i }) && notIssued (advanceTo t s) t x) == [{ idx := n, e := e, i := i }] &&
  decide (s.disp.dropped = [])

theorem issues_of {a n i e t s} (h : issues a n i e t s = true) : Issues a n i e t s := by
  simp only [issues, Bool.and_eq_true, beq_iff_eq, decide_eq_true_eq] at h
  exact ⟨h.1.1.1, h.1.1.2, h.1.2, h.2⟩

def schemeT : Template := tmpl1 2 63 5
def cycleBank : Bank := { bankWith [entry 4 63] with templates := [(6, schemeT)], groups := [(5, group1)] }
def sCycle (r : SchRun) : State := { runBank cycleBank with schs := [(63, r)] }

theorem test_schedule_issues :
    (let s := runBank (bankWith [entry 6 255, entry 1 5])
     inRun s = true ∧ issueOf s 6 0 0 = issue1 (entry 6 255) ∧ (issuesAt (advanceTo (instant 100) s) (instant 100)).filter (fun z =>
       decide (issueRank z ≤ issueRank { idx := 0, e := entry 6 255, i := 0 }) && notIssued (advanceTo (instant 100) s) (instant 100) z) =
       [{ idx := 1, e := entry 1 5, i := 0 }, { idx := 0, e := entry 6 255, i := 0 }]) ∧
    (let s := tbWith (runBank (bankWith [entry 1 5])) fun t => { t with seqPos := some (instant 100, 5) }
     issueOf s 1 0 0 = issue1 (entry 1 5) ∧ s.tb.seqPos = some (instant 100, 5) ∧ issueRank { idx := 0, e := entry 1 5, i := 0 } ≤ 5) ∧
    (let s := runBank { bankWith [entry 1 5] with groups := [(5, group1)] }
     issues 1 0 0 (entry 1 5) (instant 100) s = true ∧ group s 5 = some group1 ∧ instanceAt group1 (instant 100) = some (instant 99)) ∧
    (let s := sCycle { running := true }
     issues 4 0 0 (entry 4 63) (instant 100) s = true ∧ (schRun s 63).running = true ∧ stopDue s 63 = false ∧
     (schRun s 63).notBefore ≤ slotFloor s (instant 100) ∧
     (activeBank s).templates.find? (fun x => x.2.type == 2 && x.2.object == 63) = some (6, schemeT) ∧
     findInst s 5 (slotFloor s (instant 100)) = none) ∧
    (let x : GroupInst := { gid := 5, t := instant 100, state := .fired }
     let s : State := { sCycle { running := true } with mst := { ({} : Match) with insts := [x] } }
     issues 4 0 0 (entry 4 63) (instant 100) s = true ∧ findInst s 5 (slotFloor s (instant 100)) = some x ∧ x.state = .fired ∧
     group s 5 = some group1 ∧ (schRun s 63).skipNext = false ∧ (tmplRun s 6).pending < 4 ∧ s.disp.ready.length < Config.maxReady) ∧
    (let s := sCycle { running := true, stopWait := some [] }
     issues 4 0 0 (entry 4 63) (instant 100) s = true ∧ (schRun s 63).running = true ∧ stopDue s 63 = true) ∧
    (let s := runBank { bankWith [copyEntry] with templates := [(7, tmpl1 7 0 0xFFFF)] }
     issues 5 0 0 copyEntry (instant 100) s = true ∧
     (activeBank s).templates.find? (fun x => x.2.type == 7) = some (7, tmpl1 7 0 0xFFFF) ∧ (tmplRun s 7).pending < 4 ∧
     s.disp.ready.length < Config.maxReady) ∧
    ([0, 1].all fun f =>
      let s : State := { runBank (bankWith [entry 6 255 0 f]) with caps := [(255, ring1 2 true)] }
      issues 6 0 0 (entry 6 255 0 f) (instant 100) s && capRun s 255 == some (ring1 2 true) && bit (ring1 2 true).def_.trig 1 &&
      bit (entry 6 255 0 f).flags 0 == (f == 1)) = true := by decide +kernel

theorem test_schedule_releases :
    (let p := fcPar 50 4000 filterT.blk
     let j := (gridFloor p.rate (instant 100) - p.lam) * p.rOut / p.rate
     issues 2 0 0 (entry 2 9) (instant 100) sFilter = true ∧ mget (activeBank sFilter).templates 9 = some filterT ∧
     mget (activeBank sFilter).streams (fld filterT.blk 0 2) = some svStream ∧ fnom sFilter = 50 ∧ (filter sFilter 4095).next = j ∧
     (tmplRun sFilter 9).pending < 4 ∧ sFilter.disp.ready.length < Config.maxReady ∧ findCell sFilter 4095 (gridAt p.rOut j) = none ∧
     sFilter.mst.cells.length < Config.maxCells ∧ (fbFit (ceilDiv (filterBytes p filterT.blk) 64) sFilter.mst.fb 0).isSome = true) ∧
    ([none, some (instant 99)].all fun a =>
      let r := { open1 with openAt := a }
      let s := withCall r
      issues 3 0 0 playout (instant 100) s && vch s 1023 == some r && !r.ended && !comeBy r.closeAt (instant 100) && r.next.isNone &&
      voiceTmpl (activeBank s) 1023 == some (1, voiceT) && voiceT.type == 6 && decide ((tmplRun s 1).pending < 4) &&
      decide (s.disp.ready.length < Config.maxReady)) = true ∧
    (issues 7 0 0 (entry 7 0x1FF) (instant 100) sPub = true ∧ mget (activeBank sPub).outs 0x1FF = some outD ∧
     outTmpl (activeBank sPub) 0x1FF = some (8, tmpl1 3 0x1FF 5) ∧ group sPub 5 = some group1 ∧
     lastDue group1 (instant 100) = some (instant 99) ∧ beforeFirst sPub 5 (instant 99) = false ∧
     (pub sPub 255).newState = some (instant 99, instant 99, [1])) ∧
    (issues 7 0 0 (entry 7 0xFF) (instant 100) (sOut []) = true ∧ mget (activeBank (sOut [])).outs 0xFF = some outD ∧
     outTmpl (activeBank (sOut [])) 0xFF = some (8, tmpl1 3 0xFF 5) ∧ beforeFirst (sOut []) 5 (instant 99) = false ∧
     (outRun (sOut []) 0xFF).built.find? (fun b => b.1 == instant 99) = none ∧ taskPending (sOut []) 8 (instant 99) = false ∧
     hasFired (sOut []) 5 (instant 99) = true) ∧
    (issues 7 0 0 (entry 7 0xFF) (instant 100) (sOut [frame1]) = true ∧
     (outRun (sOut [frame1]) 0xFF).built.find? (fun b => b.1 == instant 99) = some frame1) := by decide +kernel

def req1 (skip : Bool) : PhaseReq := { num := 100, den := 1, anchor := instant 100, phi := 0, cyc := 1, skip := skip, act := .pin 63 15 true }
def sPhase (settled : Bool) (r : PhaseReq) : State :=
  { runBank { bankWith [] with sched := some { image [] with refbusCid := 3 } } with
    refBus := { sample := some (instant 100), theta := 0, freq := 50 * 2 ^ 16, settled := settled }, phases := [(1, r)] }

theorem test_deadlines_and_phases :
    (let s : State := { runBank { bankWith [] with groups := [(1023, group1)], templates := [(3, tmpl1 1 255 1023)] } with
       mst := { ({} : Match) with firstInst := [(1023, instant 90)], evalDue := [dueEval 1023 group1 (instant 99)] } }
     inRun s = true ∧ group s 1023 = some group1 ∧ hasFired s 1023 (instant 99) = false ∧ beforeFirst s 1023 (instant 99) = false ∧
     s.mst.evalDue = [dueEval 1023 group1 (instant 99)] ∧ findInst s 1023 (gridAt 1 (gridFloor 1 (instant 99) + 1)) = none ∧
     ((activeBank s).templates.map (·.1)).Nodup ∧ (∀ e ∈ (activeBank s).templates, (tmplRun s e.1).pending < 4) ∧ s.disp.dropped = [] ∧
     hasFired { s with mst := { s.mst with lastFired := [(1023, instant 99)] } } 1023 (instant 99) = true) ∧
    (let s := sPhase true (req1 false)
     mget s.phases 1 = some (req1 false) ∧ (req1 false).target = none ∧ (match phasePredict s (req1 false) with
       | some x => refValid (advanceTo (x - usU 250) s) (now (advanceTo (x - usU 250) s))
       | none => false) = true) ∧
    ([true, false].all fun k => match phasePredict (sPhase false (req1 k)) (req1 k) with
       | some x => !refValid (advanceTo (x - usU 250) (sPhase false (req1 k))) (now (advanceTo (x - usU 250) (sPhase false (req1 k))))
       | none => false) = true ∧
    ({ req1 false with target := some (instant 101) } : PhaseReq).target = some (instant 101) ∧ emits (sPhase true (req1 false)) = true := by
  decide +kernel

def c37Stream : StreamDef := { svStream with type := 1, rate := 50, udpPort := 4713, idcode := 1, dstMac := 0, ident := 0, nch := 0, tbConf := 1000000 }
def c37Body : Bytes := [0xAA, 0x01] ++ be 2 16 ++ be 2 1 ++ be 4 100 ++ be 4 0
def goodFrame : UdpFrame := { udp with bytes := c37Body ++ be 2 (crcCcitt c37Body), len := 64 }
def badFrame : UdpFrame := { udp with bytes := c37Body ++ be 2 (crcCcitt c37Body + 1), len := 64 }
/-- Port 2 up, and taking frames without a VLAN. -/
def port2 : Map Port := [(2, { ({} : Port) with up := true, cfg := { ({} : PortCfg) with flags := 4 } })]
def withC37 (s : State) : State := { withBank { bankWith [] with streams := [(4095, c37Stream)] } s with ports := port2 }
def asdu1 : Asdu := { smpCnt := 3999, confRev := 1, smpSynch := 2, vals := [(5, 0)] }
def injected : Bytes := packed [(2, 4095), (2, 16), (4, 0), (6, 100), (2, 0)] ++ c37Body ++ be 2 (crcCcitt c37Body)

theorem test_ingest :
    (streamOfUdp (withC37 sIdle) badFrame = some (4095, c37Stream) ∧ c37Type badFrame.bytes = 0 ∧ isSvc sIdle badFrame.dst = false ∧
      macDrop (port (withC37 sIdle) 2).cfg badFrame.len badFrame.vlan badFrame.held = none ∧
      c37FrameOk c37Stream badFrame.bytes = false) ∧
    ([withC37 sIdle, withC37 sRun].all fun s => streamOfUdp s goodFrame == some (4095, c37Stream) && c37FrameOk c37Stream goodFrame.bytes &&
      (stream s 4095).state != .cfgMismatch && c37Instant s c37Stream goodFrame.bytes == some 5000 &&
      !isFuture 50 (gridAt 50 5000) goodFrame.stamp && (groupsOf s 4095).isEmpty && !(stream s 4095).written.contains 5000 &&
      (macDrop (port s 2).cfg goodFrame.len goodFrame.vlan goodFrame.held).isNone && decide (max (now s) goodFrame.stamp < gridAt 50 5002) &&
      mget (activeBank s).streams 4095 == some c37Stream &&
      decide (s.mst.cells.length < Config.maxCells) && (fbFit (ceilDiv goodFrame.bytes.length 64) s.mst.fb 0).isSome) = true ∧
    ([sIdle, sRun].all fun r =>
      let s : State := { withBank { bankWith [] with streams := [(4095, svStream)] } r with ports := port2 }
      let f := { svf with asdus := [asdu1] }
      streamOfSv s f == some (4095, svStream) && (macDrop (port s 2).cfg f.len f.vlan f.held).isNone && decide (f.len ≤ 9216) &&
      asdu1.vals.length == svStream.nch && asdu1.confRev == svStream.tbConf && decide (asdu1.smpCnt < svStream.rate) &&
      (stream s 4095).state != .cfgMismatch && s.caps == [] && !bit svStream.opts 3 && filterTmpl (activeBank s) 4095 == none &&
      !(stream s 4095).written.contains (svInstant svStream.rate asdu1.smpCnt f.stamp)) = true ∧
    (let d := { c37Stream with type := 2 }
     let s : State := { withBank { bankWith [] with streams := [(4095, d)] } sIdle with iqs := [(15, { ({} : Iq) with pkts := [injected] })] }
     (iq s 15).pkts = injected :: [] ∧ fld injected 0 2 = 4095 ∧ fld injected 2 2 + 16 = injected.length ∧ 16 ≤ fld injected 2 2 ∧
     mget (activeBank s).streams 4095 = some d ∧ fld injected 8 6 * 2 ^ 32 + fld injected 4 4 ≤ now s ∧ c37FrameOk d (injected.drop 16) = true ∧
     c37Instant s d (injected.drop 16) = some 5000 ∧ isFuture 50 (gridAt 50 5000) (instant 100) = false) := by decide +kernel

def gooStream : StreamDef := { svStream with type := 5, rate := 50, idcode := 3, dstMac := 0, ident := 4 }
def held1 : GooseHeld := { stNum := 5, sqNum := 0, until_ := instant 101, members := [1], qual := 0, stamp := instant 99 }

theorem test_publications :
    (let s : State := { runBank { bankWith [] with streams := [(4095, gooStream)] } with ports := port2 }
     streamOfGoose s goo = some (4095, gooStream) ∧ macDrop (port s 2).cfg goo.len goo.vlan goo.held = none ∧ isSvc s goo.dst = false ∧ authOk s gooStream.locker goo.sig = true ∧ goo.len ≤ 9216 ∧
     goo.members.length = gooStream.nch ∧ goo.confRev = gooStream.tbConf ∧ (stream s 4095).state ≠ .cfgMismatch ∧ inRun s = true ∧
     (stream s 4095).held = none) ∧
    (let s := withBank { bankWith [copyEntry] with streams := [(4095, gooStream)] } (twin .standby)
     streamOfGoose s goo = some (4095, gooStream) ∧ casActs s = true ∧ lockerLoaded s 63 = true ∧ s.cas.role = .standby ∧
     (stream s 4095).held = none) ∧
    (let s : State := { runBank { bankWith [] with streams := [(4095, gooStream)] } with streams := [(4095, { ({} : StreamRun) with held := some held1 })] }
     gooStream.type = 5 ∧ onGrid 50 (instant 100) = true ∧ (stream s 4095).written.contains (gridFloor 50 (instant 100)) = false ∧
     groupsOf s 4095 = [] ∧ (stream s 4095).held = some held1 ∧ held1.stamp < instant 100 ∧
     max (now s) (instant 100) < gridAt 50 (gridFloor 50 (instant 100) + 2) ∧
     (fbFit (ceilDiv (max 64 (4 * gooStream.nch)) 64) s.mst.fb 0).isSome = true) ∧
    (streamOfCfg (withC37 sIdle) { cfgf with dataRate := 25 } = some (4095, c37Stream) ∧ cfgf.frameSize = cfgf.len ∧
      macDrop (port (withC37 sIdle) 2).cfg cfgf.len cfgf.vlan cfgf.held = none ∧
      cfgAgrees c37Stream { cfgf with dataRate := 25 } = false ∧ cfgAgrees c37Stream cfgf = true) ∧
    (mget (activeBank (withC37 sRun)).streams 4095 = some c37Stream ∧ inRun (withC37 sRun) = true ∧ onGrid 50 (instant 100) = true ∧
      groupsOf (withC37 sRun) 4095 = [] ∧ (stream (withC37 sRun) 4095).judged = none) := by decide +kernel

def task1 (type : Nat) : TaskInst :=
  { tid := 9, tmpl := tmpl1 type 255 5, t := instant 99, gid := 5, released := instant 99, holdUntil := instant 99, serial := 3 }
def busy (k : TaskInst) : State := { withCap (ring1 0 false) with disp := { ({} : Disp) with cores := [(63, { ({} : CoreRun) with running := some k })] } }
def dispWith (f : Disp → Disp) : State := { sRun with disp := f {} }

theorem test_tasks :
    (let s := dispWith fun d => { d with held := [task1 4] }
     s.disp.held = [task1 4] ∧ s.disp.ready.length < Config.maxReady ∧ s.disp.dropped = [] ∧
     s.disp.held.find? (fun x => x.serial == (task1 4).serial) = some (task1 4) ∧ (task1 4).tmpl.type = 4) ∧
    (let s := dispWith fun d => { d with ready := [task1 1] }
     (match nextDispatch s with
       | some (k, _, step) => k == task1 1 && decide (1 ≤ step) && decide (step ≤ 3)
       | none => false) = true ∧ s.disp.held = []) ∧
    (let s := dispWith fun d => { d with cores := [(63, { ({} : CoreRun) with queue := [task1 1] })] }
     (core s 63).running = none ∧ lminBy (sortBy (fun k => k.serial) (core s 63).queue) (fun k => k.tmpl.prio) = some (task1 1)) ∧
    (let s := busy (task1 4)
     (core s 63).running = some (task1 4) ∧ (task1 4).old = none ∧ capRun s (task1 4).tmpl.object = some (ring1 0 false) ∧
     (ring1 0 false).armed = false ∧ paired s = false ∧ (task1 4).tmpl.type ≠ 2 ∧ (core s 63).overrun = false ∧
     (let r := taskWork (task1 4) .plain s
      (putAll (keyTask (task1 4).serial) r.2.1 r.1).isSome = true)) ∧
    ((core (busy (task1 2)) 63).running = some (task1 2) ∧ (task1 2).tmpl.type = 2) := by decide +kernel

def vflow (role : Nat) : FlowRun :=
  { flow1 with def_ := { flow1.def_ with role := role, localAddr := 1, remoteAddr := 2, localUdp := 5000, remoteUdp := 6000 } }
def sCall (role : Nat) (r : VchRun) : State :=
  { withCall r with flows := [(4095, vflow role)], bank0 := { bankWith [playout] with templates := [(1, voiceT)] } }

theorem test_outputs_and_voice :
    ((pub sPub 255).nextAt = some (instant 101) ∧ mget (activeBank sPub).outs (0x100 + 255) = some outD ∧ emits sPub = true ∧ outD.locker = 0xFF) ∧
    (let s : State := { sCall 6 open1 with ports := [(2, { ({} : Port) with up := true, cfg := { ({} : PortCfg) with flags := 4 } })] }
     voiceFlow s rtp = some (4095, vflow 6) ∧ macDrop (port s rtp.port).cfg rtp.len rtp.vlan rtp.held = none ∧ isSvc s rtp.dst = false ∧
     mget s.flows 4095 = some (vflow 6) ∧ (vflow 6).def_.vch = 1023 ∧ bit (vflow 6).def_.role 1 = true ∧ (vflow 6).def_.profile = 0 ∧
     rtpBody rtp.bytes = some 12 ∧ unpad (fldBe rtp.bytes 0 1) (rtp.bytes.drop 12) = some (zeros 160) ∧
     (vflow 6).def_.ssrc = fldBe rtp.bytes 8 4 ∧ (vflow 6).def_.ssrc ≠ 0 ∧ vch s 1023 = some open1 ∧
     fldBe rtp.bytes 1 1 % 128 = open1.par.ptC ∧ open1.par.evtPtC = 0 ∧
     payloadFits (codecOf open1.par true) open1.par.frameMs false (zeros 160) = true ∧
     playoutEntry (activeBank s) 1023 = some playout ∧ open1.legC.silent = false ∧ open1.legC.anchor = none ∧ open1.legC.reanchor = none ∧
     rtcpFlow s rtcpf = some (4095, vflow 6) ∧ macDrop (port s rtcpf.port).cfg rtcpf.len rtcpf.vlan rtcpf.held = none ∧
     (rtcpParts rtcpf.bytes.length rtcpf.bytes).map (·.1) = [201]) ∧
    (let s : State := { sCall 7 open1 with
       ports := [(2, { ({} : Port) with up := true, neigh := [(2, 7)], cfg := { ({} : PortCfg) with addrs := [(1, 0xFFFF, 64)] } })] }
     vch s 1023 = some open1 ∧ open1.closeAt = none ∧ legFlow s 1023 true true = some (4095, vflow 7) ∧ emits s = true ∧
     (vflow 7).def_.profile = 0 ∧ open1.legC.rtcpAt = none ∧ (addressed 2 2 s).1 = some 7 ∧ classPaused s 2 4 = false ∧
     heldBack s 2 = false ∧ mgetD s.txWait 2 [] = []) ∧
    (let r := { open1 with legC := { open1.legC with lastRx := some (instant 98) } }
     vch (sCall 6 r) 1023 = some r ∧ r.closeAt = none ∧ r.openAt = none ∧ r.legC.silent = false) ∧
    (let r := { open1 with recd := { open1.recd with buffer := [(true, [1])] } }
     vch (sCall 6 r) 1023 = some r ∧ r.ended = false ∧ r.recd.buffer = (true, [1]) :: [] ∧
     oqTakes (sCall 6 r) r.recd.oq (some (keyVch 1023)) 1 = true) := by
  decide +kernel

def recc : CapRec :=
  { trig := { src := 3, srcId := 0, t := instant 99, mark := [], flags := 0 }, at_ := instant 99, acc := instant 99, recSeq := 1, starts := [] }

theorem test_captures_and_pins :
    (let r : CapRun := { ring1 1 true with strs := [{ sid := 4095, rate := 4000, nch := 1, slots := 5 }], recs := [recc] }
     let s : State := { runBank { bankWith [] with streams := [(4095, svStream)] } with caps := [(255, r)] }
     capRun s 255 = some r ∧ mget (activeBank s).streams 4095 = some svStream ∧ r.armed = true ∧ r.def_.cls = 1 ∧
     r.strs.find? (fun x => x.sid == 4095) = some { sid := 4095, rate := 4000, nch := 1, slots := 5 } ∧
     r.recs.find? (fun x => !x.deferred) = some recc ∧
     s.caps.all (fun e => 256 ≤ e.1 || !bit (if true then e.2.def_.wasRise else e.2.def_.wasFall) 15) = true ∧
     (mgetD s.pins.wasIn 15 []).length < 64) ∧
    (let r : CapRun := { ({ def_ := { capDef1 2 0 with decim := 1 } } : CapRun) with armed := true }
     capRun (withCap r) 255 = some r ∧ inRun (withCap r) = true ∧ r.def_.cls = 2 ∧ r.armed = true ∧ r.def_.sign ≠ 0xFF) ∧
    (let s : State := { at_ .dormant with ports := [(1, { ({} : Port) with up := true, cfg := { ({} : PortCfg) with mac := 2 ^ 48 - 1 } })] }
     s.pwr.ps = .dormant ∧ portUp s 1 = true ∧ budget s ≠ 0 ∧ (port s 1).cfg.mac < 2 ^ 48) := by decide +kernel
/-! ## Single steps, with results from the spec's own words and examples -/

/-- 02, 'reading GLB_STATE with the main side down': the request 01 00 00 04 0A is answered with STATUS 0 and the value 1. -/
theorem test_mgp_read_of_glb_state :
    next_ (exec (.mgpRead32 ⟨1, 4⟩ 0x0A) (at_ .aonOnly)) (fun t => t.emitted.head? == some (.mgpResp (mgpFrame 0 [1]))) = true ∧
    next_ (exec (.mgpRead32 ⟨1, 4⟩ 0x0B) (at_ .aonOnly)) (fun t => t.emitted.head? == some (.mgpResp (mgpFrame 1 []))) = true := by decide +kernel

/-- 02, 'a schedule swap at Ostrand': the slot begins with the bytes 02 03 00 01 17 00 00 00 12 04 00 00 00 00 00 00. -/
theorem test_packet_layout :
    mailPacket { State.reset with cmd := { State.reset.cmd with mailbox := [(0, 2), (1, 3), (3, 1), (4, 0x17), (8, 0x12), (9, 4)] } } =
      (0x0302, { origin := .mgp, flags := 0, hdrver := 1, tag := 0x17, seq := 0x412, plen := 0, crc := 0, params := [] }) := by
  decide +kernel

/-- 03, 'an inserted second': the second 23:59:60 and the next one have one SOC, told apart by the leap second's flags. -/
theorem test_soc_of_a_leap_second :
    let s := tbWith sIdle fun t => { t with utcOffset := 37, leap := 1, leapEnd := some 1909094438 }
    let a := tbWith sIdle fun t => { t with utcOffset := 38, lastLeap := some (1909094438, 37, false) }
    taiOfSoc s 1909094400 true = 1909094437 ∧ taiOfSoc s 1909094399 true = 1909094436 ∧ taiOfSoc a 1909094400 false = 1909094438 := by
  decide +kernel

/-- 03, 'a Carrow Basin PUBLISH entry', its bytes and two of its issues. -/
theorem test_publish_entry :
    let e := entryOf [0x80, 0x4F, 0x12, 0, 0x30, 0, 0, 0, 0x20, 0x4E, 0, 0, 0x3C, 0, 7, 0, 3, 0, 0, 0, 0, 0, 0, 0] 0
    e = { q := 1200000, a := 48, m := 20000, n := 60, action := 7, flags := 0, target := 3, arg := 0 } ∧
    issueAt e 0 3 = 214920163 ∧ issueAt e 0 59 = 4223556306 := by decide +kernel

/-- 04, 'snapping a Carrow Basin 120 fps stream': instant 61 and the edges of its window. -/
theorem test_snap_window :
    gridAt 120 61 = 2183275042 ∧ snap 120 16 0 506250 1000000 = some 61 ∧ snap 120 16 0 506249 1000000 = none ∧
    snap 120 16 0 510416 1000000 = some 61 ∧ snap 120 16 0 510417 1000000 = none := by decide +kernel

/-- 10 R281: with e = 2 a residue of 7 is coded as rhe(1.4) = 1. 10 R280: u = 2r and −2r − 1. -/
theorem test_rounding : rheDiv 7 5 = 1 ∧ rheDiv 5 2 = 2 ∧ rheDiv 7 2 = 4 ∧ rheDiv (-5) 2 = -2 := by decide +kernel

/-- 17 R439: the IDCODE. -/
theorem test_tap_idcode :
    next_ (exec (.tapInstruction 1) State.reset) (fun t => t.emitted.head? == some (.scan 1 0x188488B3)) = true := by decide +kernel

/-- 02 R34 and the opcode table of R37: a command with a parameter that its row does not have is BAD_LENGTH, and START without a schedule is
WRONG_STATE. -/
theorem test_start_refused :
    next_ (exec (.start { hostPk [] with plen := 1 }) sIdle) (fun t => answer (hostPk []) t == some (0x0102, [])) = true ∧
    next_ (exec (.start (hostPk [])) sIdle) (fun t => answer (hostPk []) t == some (0x0201, [])) = true := by decide +kernel

/-- 02 R40: GLB_IRQ_STATUS is cleared by writing 1; GLB_SCRATCH holds what is written. -/
theorem test_register_writes :
    next_ (exec (.registerWrite .host 0x10 4) { sIdle with glb := { sIdle.glb with irqStatus := 6 } }) (fun t => t.glb.irqStatus == 2) = true ∧
    next_ (exec (.registerWrite .host 0x30 77) sIdle) (fun t => t.glb.scratch == 77 && readGlb t 0x30 == 77) = true := by decide +kernel

/-- 18 R447: VIN with a budget boots the module, and a completed boot without a firmware image enters IDLE in recovery. -/
theorem test_power_up :
    next_ (exec (.vinGood { hold := false }) State.reset) (fun t => t.pwr.ps == .boot && t.pwr.mainUp) = true ∧
    next_ (exec (.bootComplete { trainOk := true, certOk := true }) (at_ .boot)) (fun t => t.pwr.ps == .idle && t.pwr.recovery && t.pins.modReady) = true := by
  decide +kernel

/-- A step takes the front command off the queue. -/
theorem test_step_takes_the_front :
    next_ (step { sIdle with pending := [.vrtcLow, .ref10mLost] }) (fun t => t.pending == [.ref10mLost] && t.rtc.lost) = true ∧
    (State.reset.withFetchWord 32 5).pending = [] ∧ decodeTableWord 32 5 = none := by decide +kernel

end Sys2Proof.Machine
end

section
/-! The pop-port block of BAR0 (02 R41): 32-bit reads. -/

namespace Sys2Proof.Machine

/-- Block 9 of the register map holds the pop ports alone, which only a 64-bit read serves (02 R41; 11 R300): a 32-bit read by
either port finds no register there, at an aligned offset or not. -/
theorem readReg_of_pop_block (m : Master) {a : Nat} (s : State) (hblock : a / 65536 = 9) : readReg m a s = (0, s) := by
  unfold readReg
  by_cases haligned : a % 4 = 0
  · simp [haligned, hblock]
  · simp [haligned]

/-- Both words of the pop port of each of the 64 output queues lie in block 9. -/
theorem pop_port_word_block {n a : Nat} (hn : n < 64) (ha : a = 0x90000 + 8 * n ∨ a = 0x90000 + 8 * n + 4) :
    a / 65536 = 9 := by
  omega

/-- Settles O29: the words of a pop port lie in block 9, where a 32-bit read finds no register. -/
theorem popPortsIgnore32BitReads : Obligations.PopPortsIgnore32BitReads := by
  intro n a m s hn ha
  exact readReg_of_pop_block m s (pop_port_word_block hn ha)

end Sys2Proof.Machine
end

section
/-! The grids of instants (03 R61): `gridFloor` numbers the last grid instant that is not after t. -/

namespace Sys2Proof.Machine

theorem lt_ceilDiv_iff {a b j : Nat} (hb : 0 < b) : j < ceilDiv a b ↔ j * b < a := by
  rw [ceilDiv, ← Nat.succ_le_iff, Nat.le_div_iff_mul_le hb, Nat.succ_mul]
  omega

theorem ceilDiv_add_mul_right (a k : Nat) {b : Nat} (hb : 0 < b) : ceilDiv (a + k * b) b = ceilDiv a b + k := by
  have hshift : a + k * b + b - 1 = (a + b - 1) + k * b := by omega
  rw [ceilDiv, hshift, Nat.add_mul_div_right _ _ hb, ceilDiv]

/-- Counted from the epoch, instant j lies at floor(j × 2^32 / r): whole seconds do not change the rounding. -/
theorem gridAt_eq {r : Nat} (hr : 0 < r) (j : Nat) : gridAt r j = j * 2 ^ 32 / r := by
  have hsplit : j * 2 ^ 32 = j % r * 2 ^ 32 + j / r * 2 ^ 32 * r := by
    calc j * 2 ^ 32 = (j % r + r * (j / r)) * 2 ^ 32 := by rw [Nat.mod_add_div]
      _ = j % r * 2 ^ 32 + j / r * 2 ^ 32 * r := by ring
  rw [hsplit, Nat.add_mul_div_right _ _ hr, gridAt, Nat.add_comm]

theorem gridAt_mono {r : Nat} (hr : 0 < r) : Monotone (gridAt r) := by
  intro i j hij
  rw [gridAt_eq hr, gridAt_eq hr]
  exact Nat.div_le_div_right (Nat.mul_le_mul_right _ hij)

/-- One more than the number of the last instant not after t, with the seconds and the fraction of t taken together. -/
theorem gridFloor_add_one {r : Nat} (hr : 0 < r) (t : Instant) :
    gridFloor r t + 1 = ceilDiv ((t + 1) * r) (2 ^ 32) := by
  have hpos : 0 < ceilDiv ((t % 2 ^ 32 + 1) * r) (2 ^ 32) := by
    rw [lt_ceilDiv_iff (by decide), Nat.zero_mul]
    exact Nat.mul_pos (Nat.succ_pos _) hr
  have hsplit : (t + 1) * r = (t % 2 ^ 32 + 1) * r + t / 2 ^ 32 * r * 2 ^ 32 := by
    calc (t + 1) * r = (t % 2 ^ 32 + 2 ^ 32 * (t / 2 ^ 32) + 1) * r := by rw [Nat.mod_add_div]
      _ = (t % 2 ^ 32 + 1) * r + t / 2 ^ 32 * r * 2 ^ 32 := by ring
  rw [hsplit, ceilDiv_add_mul_right _ _ (by decide), gridFloor]
  omega

/-- The grid instants not after t are those numbered up to `gridFloor r t`. -/
theorem gridAt_le_iff {r : Nat} (hr : 0 < r) (j : Nat) (t : Instant) : gridAt r j ≤ t ↔ j ≤ gridFloor r t := by
  calc gridAt r j ≤ t
      ↔ j * 2 ^ 32 < (t + 1) * r := by rw [gridAt_eq hr, ← Nat.lt_succ_iff, Nat.div_lt_iff_lt_mul hr]
    _ ↔ j < ceilDiv ((t + 1) * r) (2 ^ 32) := (lt_ceilDiv_iff (by decide)).symm
    _ ↔ j ≤ gridFloor r t := by rw [← gridFloor_add_one hr, Nat.lt_succ_iff]

theorem gridAt_gridFloor_le {r : Nat} (hr : 0 < r) (t : Instant) : gridAt r (gridFloor r t) ≤ t :=
  (gridAt_le_iff hr _ t).mpr le_rfl

theorem lt_gridAt_gridFloor_succ {r : Nat} (hr : 0 < r) (t : Instant) : t < gridAt r (gridFloor r t + 1) := by
  rw [← not_le, gridAt_le_iff hr]
  exact Nat.not_succ_le_self _

/-- Instant j of second sec, with j counted from the start of that second as R61 does. -/
theorem gridAt_second {r j : Nat} (sec : Nat) (hj : j < r) : gridAt r (sec * r + j) = sec * 2 ^ 32 + j * 2 ^ 32 / r := by
  have hdiv : (sec * r + j) / r = sec := by
    rw [Nat.mul_comm, Nat.mul_add_div (Nat.zero_lt_of_lt hj), Nat.div_eq_of_lt hj, Nat.add_zero]
  rw [gridAt, hdiv, Nat.mul_add_mod_of_lt hj]

/-- `onGrid` tests only the last instant not after t. That finds every t on the grid: an instant that equals t is not after it, so
the last one lies between the two. -/
theorem onGrid_iff (r : Nat) (t : Instant) : onGrid r t = true ↔ 0 < r ∧ ∃ j, gridAt r j = t := by
  rw [onGrid, Bool.and_eq_true, decide_eq_true_eq, decide_eq_true_eq]
  refine and_congr_right fun hr => ⟨fun hfloor => ⟨_, hfloor⟩, ?_⟩
  rintro ⟨j, rfl⟩
  have hle : j ≤ gridFloor r (gridAt r j) := (gridAt_le_iff hr j _).mp le_rfl
  exact le_antisymm (gridAt_gridFloor_le hr _) (gridAt_mono hr hle)

/-- Settles O44: the slot clause is the last instant not after t on the grid of rate Fnom. -/
theorem gridInstantsAreExact : Obligations.GridInstantsAreExact :=
  ⟨fun _ sec _ hj => gridAt_second sec hj,
   fun s t hr => ⟨gridFloor (fnom s) t, rfl, gridAt_gridFloor_le hr t, lt_gridAt_gridFloor_succ hr t⟩,
   onGrid_iff⟩

end Sys2Proof.Machine
end

section
/-! Every row of the table at once: what it leaves as it is, from the frame and the spine of each meaning. -/

namespace Sys2Proof.Machine

/-- Each row stays within the parts that `touches` lists for it. -/
theorem exec_within : ∀ (i : Instr) (s : State), Within (partMask (touches i)) (exec i s) s
  | .getInfo pk, s => execGetInfo_same pk s
  | .getState pk, s => execGetState_same pk s
  | .start pk, s => execStart_same pk s
  | .stop pk, s => execStop_same pk s
  | .warmReset pk, s => execWarmReset_same pk s
  | .powerCtrl pk, s => execPowerCtrl_same pk s
  | .fwLoad pk, s => execFwLoad_same pk s
  | .fwCommit pk, s => execFwCommit_same pk s
  | .cfgSave pk, s => execCfgSave_same pk s
  | .streamDefine pk, s => execStreamDefine_same pk s
  | .streamDelete pk, s => execStreamDelete_same pk s
  | .channelDefine pk, s => execChannelDefine_same pk s
  | .groupDefine pk, s => execGroupDefine_same pk s
  | .templateDefine pk, s => execTemplateDefine_same pk s
  | .streamStatus pk, s => execStreamStatus_same pk s
  | .schedLoad pk, s => execSchedLoad_same pk s
  | .schedSwap pk, s => execSchedSwap_same pk s
  | .schedStatus pk, s => execSchedStatus_same pk s
  | .detDefine pk, s => execDetDefine_same pk s
  | .detStatus pk, s => execDetStatus_same pk s
  | .detAck pk, s => execDetAck_same pk s
  | .progLoad pk, s => execProgLoad_same pk s
  | .progStart pk, s => execProgStart_same pk s
  | .progStop pk, s => execProgStop_same pk s
  | .progSetValues pk, s => execProgSetValues_same pk s
  | .progForce pk, s => execProgForce_same pk s
  | .progRead pk, s => execProgRead_same pk s
  | .vchOpen pk, s => execVchOpen_same pk s
  | .vchModify pk, s => execVchModify_same pk s
  | .vchClose pk, s => execVchClose_same pk s
  | .flowSet pk, s => execFlowSet_same pk s
  | .vchStatus pk, s => execVchStatus_same pk s
  | .capDefine pk, s => execCapDefine_same pk s
  | .capArm pk, s => execCapArm_same pk s
  | .capTrigger pk, s => execCapTrigger_same pk s
  | .oqFlush pk, s => execOqFlush_same pk s
  | .queueStatus pk, s => execQueueStatus_same pk s
  | .keyLoad pk, s => execKeyLoad_same pk s
  | .keyClear pk, s => execKeyClear_same pk s
  | .keyGenerate pk, s => execKeyGenerate_same pk s
  | .keyRewrap pk, s => execKeyRewrap_same pk s
  | .domainInvalidate pk, s => execDomainInvalidate_same pk s
  | .keyStatus pk, s => execKeyStatus_same pk s
  | .idCert pk, s => execIdCert_same pk s
  | .timeConfig pk, s => execTimeConfig_same pk s
  | .timeSet pk, s => execTimeSet_same pk s
  | .leapSet pk, s => execLeapSet_same pk s
  | .timeStatus pk, s => execTimeStatus_same pk s
  | .rtcCurveLoad pk, s => execRtcCurveLoad_same pk s
  | .rtcLeapTable pk, s => execRtcLeapTable_same pk s
  | .casConfig pk, s => execCasConfig_same pk s
  | .casPair pk, s => execCasPair_same pk s
  | .casSwitchover pk, s => execCasSwitchover_same pk s
  | .casResync pk, s => execCasResync_same pk s
  | .casStatus pk, s => execCasStatus_same pk s
  | .recExport pk, s => execRecExport_same pk s
  | .recNote pk, s => execRecNote_same pk s
  | .prcDecode pk, s => execPrcDecode_same pk s
  | .prcEncode pk, s => execPrcEncode_same pk s
  | .portConfig pk, s => execPortConfig_same pk s
  | .outDefine pk, s => execOutDefine_same pk s
  | .wakeSet pk, s => execWakeSet_same pk s
  | .portStatus pk, s => execPortStatus_same pk s
  | .chunkLoadTimeout origin opcode target, s => execChunkLoadTimeout_same origin opcode target s
  | .cmdqDoorbell value unknown, s => execCmdqDoorbell_same value unknown s
  | .rplqHeadWrite value, s => execRplqHeadWrite_same value s
  | .cmdqCtrlEnSet reply, s => execCmdqCtrlEnSet_same reply s
  | .cmdqCtrlEnClear reply, s => execCmdqCtrlEnClear_same reply s
  | .tbSnapCapture, s => execTbSnapCapture_same s
  | .oqCtrlEnSet q value, s => execOqCtrlEnSet_same q value s
  | .oqCtrlEnClear q value, s => execOqCtrlEnClear_same q value s
  | .oqCtrlFlush q value, s => execOqCtrlFlush_same q value s
  | .oqRingHeadWrite q value, s => execOqRingHeadWrite_same q value s
  | .qpopRead q wide, s => execQpopRead_same q wide s
  | .iqCtrlEnSet m value, s => execIqCtrlEnSet_same m value s
  | .iqCtrlFlush m value, s => execIqCtrlFlush_same m value s
  | .iqRingTailDoorbell m value entries, s => execIqRingTailDoorbell_same m value entries s
  | .netRingTailWrite p ring value descs, s => execNetRingTailWrite_same p ring value descs s
  | .netTsqPopRead p, s => execNetTsqPopRead_same p s
  | .netTsqOvfClear p, s => execNetTsqOvfClear_same p s
  | .cntLowWordRead m n, s => execCntLowWordRead_same m n s
  | .rtcTReadFreeze m j, s => execRtcTReadFreeze_same m j s
  | .rtcT7ReadRelease m, s => execRtcT7ReadRelease_same m s
  | .rtcCmdSet m, s => execRtcCmdSet_same m s
  | .rtcCmdTobin m, s => execRtcCmdTobin_same m s
  | .rtcCmdTocal m, s => execRtcCmdTocal_same m s
  | .recCmdNext m, s => execRecCmdNext_same m s
  | .recCmdPrev m, s => execRecCmdPrev_same m s
  | .recCmdOldest m, s => execRecCmdOldest_same m s
  | .recCmdNewest m, s => execRecCmdNewest_same m s
  | .recCmdSeekSeq m, s => execRecCmdSeekSeq_same m s
  | .recClear m value, s => execRecClear_same m value s
  | .recClearComplete, s => execRecClearComplete_same s
  | .aonPwrMainOn, s => execAonPwrMainOn_same s
  | .aonPwrMainOff, s => execAonPwrMainOff_same s
  | .aonPwrDormant, s => execAonPwrDormant_same s
  | .aonResetCold, s => execAonResetCold_same s
  | .aonResetWarm, s => execAonResetWarm_same s
  | .registerWrite m addr value, s => execRegisterWrite_same m addr value s
  | .mgpRead32 addr crc, s => execMgpRead32_same addr crc s
  | .mgpWrite32 addr value crc, s => execMgpWrite32_same addr value crc s
  | .mgpReadBurst addr count crc, s => execMgpReadBurst_same addr count crc s
  | .mgpCmdPush addr count words crc, s => execMgpCmdPush_same addr count words crc s
  | .mgpCmdPop addr count crc, s => execMgpCmdPop_same addr count crc s
  | .secondBoundary, s => execSecondBoundary_same s
  | .slotBoundary memTestOk, s => execSlotBoundary_same memTestOk s
  | .runBegin, s => execRunBegin_same s
  | .runEnd, s => execRunEnd_same s
  | .bankSwap, s => execBankSwap_same s
  | .progStopEffect scheme, s => execProgStopEffect_same scheme s
  | .ptpSyncReceived p msg stamp, s => execPtpSyncReceived_same p msg stamp s
  | .ptpAnnounceReceived p msg stamp, s => execPtpAnnounceReceived_same p msg stamp s
  | .ptpPdelayReqReceived p seq domain stamp, s => execPtpPdelayReqReceived_same p seq domain stamp s
  | .ptpPdelayRespReceived p msg stamp, s => execPtpPdelayRespReceived_same p msg stamp s
  | .ptpPdelayReqSend p, s => execPtpPdelayReqSend_same p s
  | .announceReceiptTimeout p, s => execAnnounceReceiptTimeout_same p s
  | .ppsInEdge stamp, s => execPpsInEdge_same stamp s
  | .zdaSentence ok utc, s => execZdaSentence_same ok utc s
  | .ref10mLost, s => execRef10mLost_same s
  | .ref10mRestored, s => execRef10mRestored_same s
  | .tbLocked, s => execTbLocked_same s
  | .tbHoldoverEntry, s => execTbHoldoverEntry_same s
  | .stepInRunRestart, s => execStepInRunRestart_same s
  | .leapSetEffect, s => execLeapSetEffect_same s
  | .leapApplied, s => execLeapApplied_same s
  | .phaseTargetFix id, s => execPhaseTargetFix_same id s
  | .phaseActionTaken id, s => execPhaseActionTaken_same id s
  | .deadlineIssue entry j, s => execDeadlineIssue_same entry j s
  | .deadlineEvaluation gid t, s => execDeadlineEvaluation_same gid t s
  | .releaseIssue entry j, s => execReleaseIssue_same entry j s
  | .playoutIssue entry j, s => execPlayoutIssue_same entry j s
  | .cycleIssue entry j, s => execCycleIssue_same entry j s
  | .copyIssue entry j, s => execCopyIssue_same entry j s
  | .tickIssue entry j, s => execTickIssue_same entry j s
  | .publishIssue entry j, s => execPublishIssue_same entry j s
  | .c37118FrameReceived f, s => execC37118FrameReceived_same f s
  | .injectionRecordTaken m, s => execInjectionRecordTaken_same m s
  | .svFrameReceived f, s => execSvFrameReceived_same f s
  | .gooseRPublicationReceived f, s => execGooseRPublicationReceived_same f s
  | .gooseOperandInstant sid t, s => execGooseOperandInstant_same sid t s
  | .cfgFrameReceived f, s => execCfgFrameReceived_same f s
  | .streamMissingLimit sid t, s => execStreamMissingLimit_same sid t s
  | .readyHeldRetry, s => execReadyHeldRetry_same s
  | .holdLimitExpiry serial, s => execHoldLimitExpiry_same serial s
  | .taskDispatch, s => execTaskDispatch_same s
  | .taskStart core, s => execTaskStart_same core s
  | .taskComplete core work, s => execTaskComplete_same core work s
  | .wcetBudgetReached core, s => execWcetBudgetReached_same core s
  | .taskAbort core, s => execTaskAbort_same core s
  | .schemeRuntimeFault core, s => execSchemeRuntimeFault_same core s
  | .rGooseRetransmit pub, s => execRGooseRetransmit_same pub s
  | .voicePacketReceived pkt, s => execVoicePacketReceived_same pkt s
  | .rtcpPacketReceived pkt, s => execRtcpPacketReceived_same pkt s
  | .rtcpSend vch leg, s => execRtcpSend_same vch leg s
  | .legSilent vch leg, s => execLegSilent_same vch leg s
  | .recBlockTransfer vch, s => execRecBlockTransfer_same vch s
  | .capRingMarker sid u, s => execCapRingMarker_same sid u s
  | .capRecordClose cap, s => execCapRecordClose_same cap s
  | .classPSeal cap, s => execClassPSeal_same cap s
  | .oqStallResume q, s => execOqStallResume_same q s
  | .dmaEntryWrite, s => execDmaEntryWrite_same s
  | .oqStaleTimer q, s => execOqStaleTimer_same q s
  | .oqFlushDone q, s => execOqFlushDone_same q s
  | .iqPull m, s => execIqPull_same m s
  | .rxFrameReceived f, s => execRxFrameReceived_same f s
  | .prpSourceForget p mac, s => execPrpSourceForget_same p mac s
  | .prpSupervisionSend p, s => execPrpSupervisionSend_same p s
  | .pfcFrameReceived p classes stamp, s => execPfcFrameReceived_same p classes stamp s
  | .pfcPauseExpiry p cls, s => execPfcPauseExpiry_same p cls s
  | .pfcXoffRepeat p cls, s => execPfcXoffRepeat_same p cls s
  | .pfcXonSend p cls, s => execPfcXonSend_same p cls s
  | .hostTxFrame p ring, s => execHostTxFrame_same p ring s
  | .linkChange p up phyFault, s => execLinkChange_same p up phyFault s
  | .wakeFrame p bytes, s => execWakeFrame_same p bytes s
  | .wasInEdgeAccepted pin level stamp, s => execWasInEdgeAccepted_same pin level stamp s
  | .hbInEdge stamp, s => execHbInEdge_same stamp s
  | .hbTimeout, s => execHbTimeout_same s
  | .listenWindowEnd peerPref, s => execListenWindowEnd_same peerPref s
  | .linkbeatSend, s => execLinkbeatSend_same s
  | .linkbeatReceived b authOk, s => execLinkbeatReceived_same b authOk s
  | .twinLinkTimeout, s => execTwinLinkTimeout_same s
  | .twinLossDecision, s => execTwinLossDecision_same s
  | .presenceFrameSend p, s => execPresenceFrameSend_same p s
  | .presenceFrameReceived p f, s => execPresenceFrameReceived_same p f s
  | .partnerOutputsAbsent, s => execPartnerOutputsAbsent_same s
  | .mirrorReceived item authOk, s => execMirrorReceived_same item authOk s
  | .twinCmdReceived opcode pk effect authOk, s => execTwinCmdReceived_same opcode pk effect authOk s
  | .commitReceived c authOk, s => execCommitReceived_same c authOk s
  | .ackReceived cseq health, s => execAckReceived_same cseq health s
  | .standbyCommitLoss, s => execStandbyCommitLoss_same s
  | .resyncStartReceived n, s => execResyncStartReceived_same n s
  | .resyncDataReceived d, s => execResyncDataReceived_same d s
  | .resyncEndReceived digest, s => execResyncEndReceived_same digest s
  | .resyncTimeout, s => execResyncTimeout_same s
  | .resyncRetry, s => execResyncRetry_same s
  | .faultDeclare cause, s => execFaultDeclare_same cause s
  | .faultReceived term cause, s => execFaultReceived_same term cause s
  | .takeover, s => execTakeover_same s
  | .addressAnnounceRepeat, s => execAddressAnnounceRepeat_same s
  | .switchoverHandover, s => execSwitchoverHandover_same s
  | .promoteEffect, s => execPromoteEffect_same s
  | .pairingFrameReceived certOk sigOk peerId nonce q, s => execPairingFrameReceived_same certOk sigOk peerId nonce q s
  | .eyeMeasure low, s => execEyeMeasure_same low s
  | .controlFwFault, s => execControlFwFault_same s
  | .rtcFreezeTimeout m, s => execRtcFreezeTimeout_same m s
  | .rtcSetCommit, s => execRtcSetCommit_same s
  | .rtcSensorReading temp, s => execRtcSensorReading_same temp s
  | .rtcEndOfRange, s => execRtcEndOfRange_same s
  | .rtcLockRelease, s => execRtcLockRelease_same s
  | .vrtcLow, s => execVrtcLow_same s
  | .recNorProgram, s => execRecNorProgram_same s
  | .opTimeCheckpoint, s => execOpTimeCheckpoint_same s
  | .traceQlevel, s => execTraceQlevel_same s
  | .vinGood straps, s => execVinGood_same straps s
  | .bootComplete res, s => execBootComplete_same res s
  | .bootWatchdog, s => execBootWatchdog_same s
  | .earlyWarning pin, s => execEarlyWarning_same pin s
  | .warningPassed, s => execWarningPassed_same s
  | .vinBelow9v, s => execVinBelow9v_same s
  | .vinBelow7v, s => execVinBelow7v_same s
  | .pdPowerChange pdB on, s => execPdPowerChange_same pdB on s
  | .pdClassification pdB cls, s => execPdClassification_same pdB cls s
  | .thermAssert temp, s => execThermAssert_same temp s
  | .thermRelease temp, s => execThermRelease_same temp s
  | .thermalTrip temp, s => execThermalTrip_same temp s
  | .modRstNAssert, s => execModRstNAssert_same s
  | .modRstNRelease, s => execModRstNRelease_same s
  | .perstN, s => execPerstN_same s
  | .mainOffEffect, s => execMainOffEffect_same s
  | .warmResetExecute, s => execWarmResetExecute_same s
  | .dormantEntry, s => execDormantEntry_same s
  | .controlFwRecovery, s => execControlFwRecovery_same s
  | .vbatOkChange ok, s => execVbatOkChange_same ok s
  | .peerDetChange level, s => execPeerDetChange_same level s
  | .tapInstruction ir, s => execTapInstruction_same ir s

/-- Each row ends in a next state that keeps the queue and the agreement of the rails. -/
theorem exec_steadies : ∀ (i : Instr) (s : State), Steadies (exec i s) s
  | .getInfo pk, s => (execGetInfo_spine pk s).steadies
  | .getState pk, s => (execGetState_spine pk s).steadies
  | .start pk, s => (execStart_spine pk s).steadies
  | .stop pk, s => (execStop_spine pk s).steadies
  | .warmReset pk, s => (execWarmReset_spine pk s).steadies
  | .powerCtrl pk, s => execPowerCtrl_steady pk s
  | .fwLoad pk, s => (execFwLoad_spine pk s).steadies
  | .fwCommit pk, s => (execFwCommit_spine pk s).steadies
  | .cfgSave pk, s => (execCfgSave_spine pk s).steadies
  | .streamDefine pk, s => (execStreamDefine_spine pk s).steadies
  | .streamDelete pk, s => (execStreamDelete_spine pk s).steadies
  | .channelDefine pk, s => (execChannelDefine_spine pk s).steadies
  | .groupDefine pk, s => (execGroupDefine_spine pk s).steadies
  | .templateDefine pk, s => (execTemplateDefine_spine pk s).steadies
  | .streamStatus pk, s => (execStreamStatus_spine pk s).steadies
  | .schedLoad pk, s => (execSchedLoad_spine pk s).steadies
  | .schedSwap pk, s => (execSchedSwap_spine pk s).steadies
  | .schedStatus pk, s => (execSchedStatus_spine pk s).steadies
  | .detDefine pk, s => (execDetDefine_spine pk s).steadies
  | .detStatus pk, s => (execDetStatus_spine pk s).steadies
  | .detAck pk, s => (execDetAck_spine pk s).steadies
  | .progLoad pk, s => (execProgLoad_spine pk s).steadies
  | .progStart pk, s => (execProgStart_spine pk s).steadies
  | .progStop pk, s => (execProgStop_spine pk s).steadies
  | .progSetValues pk, s => (execProgSetValues_spine pk s).steadies
  | .progForce pk, s => (execProgForce_spine pk s).steadies
  | .progRead pk, s => (execProgRead_spine pk s).steadies
  | .vchOpen pk, s => (execVchOpen_spine pk s).steadies
  | .vchModify pk, s => (execVchModify_spine pk s).steadies
  | .vchClose pk, s => (execVchClose_spine pk s).steadies
  | .flowSet pk, s => (execFlowSet_spine pk s).steadies
  | .vchStatus pk, s => (execVchStatus_spine pk s).steadies
  | .capDefine pk, s => (execCapDefine_spine pk s).steadies
  | .capArm pk, s => (execCapArm_spine pk s).steadies
  | .capTrigger pk, s => (execCapTrigger_spine pk s).steadies
  | .oqFlush pk, s => (execOqFlush_spine pk s).steadies
  | .queueStatus pk, s => (execQueueStatus_spine pk s).steadies
  | .keyLoad pk, s => (execKeyLoad_spine pk s).steadies
  | .keyClear pk, s => (execKeyClear_spine pk s).steadies
  | .keyGenerate pk, s => (execKeyGenerate_spine pk s).steadies
  | .keyRewrap pk, s => (execKeyRewrap_spine pk s).steadies
  | .domainInvalidate pk, s => (execDomainInvalidate_spine pk s).steadies
  | .keyStatus pk, s => (execKeyStatus_spine pk s).steadies
  | .idCert pk, s => (execIdCert_spine pk s).steadies
  | .timeConfig pk, s => (execTimeConfig_spine pk s).steadies
  | .timeSet pk, s => (execTimeSet_spine pk s).steadies
  | .leapSet pk, s => (execLeapSet_spine pk s).steadies
  | .timeStatus pk, s => (execTimeStatus_spine pk s).steadies
  | .rtcCurveLoad pk, s => (execRtcCurveLoad_spine pk s).steadies
  | .rtcLeapTable pk, s => (execRtcLeapTable_spine pk s).steadies
  | .casConfig pk, s => (execCasConfig_spine pk s).steadies
  | .casPair pk, s => (execCasPair_spine pk s).steadies
  | .casSwitchover pk, s => (execCasSwitchover_spine pk s).steadies
  | .casResync pk, s => (execCasResync_spine pk s).steadies
  | .casStatus pk, s => (execCasStatus_spine pk s).steadies
  | .recExport pk, s => (execRecExport_spine pk s).steadies
  | .recNote pk, s => (execRecNote_spine pk s).steadies
  | .prcDecode pk, s => (execPrcDecode_spine pk s).steadies
  | .prcEncode pk, s => (execPrcEncode_spine pk s).steadies
  | .portConfig pk, s => (execPortConfig_spine pk s).steadies
  | .outDefine pk, s => (execOutDefine_spine pk s).steadies
  | .wakeSet pk, s => (execWakeSet_spine pk s).steadies
  | .portStatus pk, s => (execPortStatus_spine pk s).steadies
  | .chunkLoadTimeout origin opcode target, s => (execChunkLoadTimeout_spine origin opcode target s).steadies
  | .cmdqDoorbell value unknown, s => (execCmdqDoorbell_spine value unknown s).steadies
  | .rplqHeadWrite value, s => (execRplqHeadWrite_spine value s).steadies
  | .cmdqCtrlEnSet reply, s => (execCmdqCtrlEnSet_spine reply s).steadies
  | .cmdqCtrlEnClear reply, s => (execCmdqCtrlEnClear_spine reply s).steadies
  | .tbSnapCapture, s => (execTbSnapCapture_spine s).steadies
  | .oqCtrlEnSet q value, s => (execOqCtrlEnSet_spine q value s).steadies
  | .oqCtrlEnClear q value, s => (execOqCtrlEnClear_spine q value s).steadies
  | .oqCtrlFlush q value, s => (execOqCtrlFlush_spine q value s).steadies
  | .oqRingHeadWrite q value, s => (execOqRingHeadWrite_spine q value s).steadies
  | .qpopRead q wide, s => (execQpopRead_spine q wide s).steadies
  | .iqCtrlEnSet m value, s => (execIqCtrlEnSet_spine m value s).steadies
  | .iqCtrlFlush m value, s => (execIqCtrlFlush_spine m value s).steadies
  | .iqRingTailDoorbell m value entries, s => (execIqRingTailDoorbell_spine m value entries s).steadies
  | .netRingTailWrite p ring value descs, s => (execNetRingTailWrite_spine p ring value descs s).steadies
  | .netTsqPopRead p, s => (execNetTsqPopRead_spine p s).steadies
  | .netTsqOvfClear p, s => (execNetTsqOvfClear_spine p s).steadies
  | .cntLowWordRead m n, s => (execCntLowWordRead_spine m n s).steadies
  | .rtcTReadFreeze m j, s => (execRtcTReadFreeze_spine m j s).steadies
  | .rtcT7ReadRelease m, s => (execRtcT7ReadRelease_spine m s).steadies
  | .rtcCmdSet m, s => (execRtcCmdSet_spine m s).steadies
  | .rtcCmdTobin m, s => (execRtcCmdTobin_spine m s).steadies
  | .rtcCmdTocal m, s => (execRtcCmdTocal_spine m s).steadies
  | .recCmdNext m, s => (execRecCmdNext_spine m s).steadies
  | .recCmdPrev m, s => (execRecCmdPrev_spine m s).steadies
  | .recCmdOldest m, s => (execRecCmdOldest_spine m s).steadies
  | .recCmdNewest m, s => (execRecCmdNewest_spine m s).steadies
  | .recCmdSeekSeq m, s => (execRecCmdSeekSeq_spine m s).steadies
  | .recClear m value, s => (execRecClear_spine m value s).steadies
  | .recClearComplete, s => (execRecClearComplete_spine s).steadies
  | .aonPwrMainOn, s => execAonPwrMainOn_steady s
  | .aonPwrMainOff, s => execAonPwrMainOff_steady s
  | .aonPwrDormant, s => execAonPwrDormant_steady s
  | .aonResetCold, s => execAonResetCold_steady s
  | .aonResetWarm, s => execAonResetWarm_steady s
  | .registerWrite m addr value, s => execRegisterWrite_steady m addr value s
  | .mgpRead32 addr crc, s => (execMgpRead32_spine addr crc s).steadies
  | .mgpWrite32 addr value crc, s => execMgpWrite32_steady addr value crc s
  | .mgpReadBurst addr count crc, s => (execMgpReadBurst_spine addr count crc s).steadies
  | .mgpCmdPush addr count words crc, s => (execMgpCmdPush_spine addr count words crc s).steadies
  | .mgpCmdPop addr count crc, s => (execMgpCmdPop_spine addr count crc s).steadies
  | .secondBoundary, s => (execSecondBoundary_spine s).steadies
  | .slotBoundary memTestOk, s => (execSlotBoundary_spine memTestOk s).steadies
  | .runBegin, s => execRunBegin_steady s
  | .runEnd, s => execRunEnd_steady s
  | .bankSwap, s => execBankSwap_steady s
  | .progStopEffect scheme, s => (execProgStopEffect_spine scheme s).steadies
  | .ptpSyncReceived p msg stamp, s => (execPtpSyncReceived_spine p msg stamp s).steadies
  | .ptpAnnounceReceived p msg stamp, s => (execPtpAnnounceReceived_spine p msg stamp s).steadies
  | .ptpPdelayReqReceived p seq domain stamp, s => (execPtpPdelayReqReceived_spine p seq domain stamp s).steadies
  | .ptpPdelayRespReceived p msg stamp, s => (execPtpPdelayRespReceived_spine p msg stamp s).steadies
  | .ptpPdelayReqSend p, s => (execPtpPdelayReqSend_spine p s).steadies
  | .announceReceiptTimeout p, s => (execAnnounceReceiptTimeout_spine p s).steadies
  | .ppsInEdge stamp, s => (execPpsInEdge_spine stamp s).steadies
  | .zdaSentence ok utc, s => (execZdaSentence_spine ok utc s).steadies
  | .ref10mLost, s => (execRef10mLost_spine s).steadies
  | .ref10mRestored, s => (execRef10mRestored_spine s).steadies
  | .tbLocked, s => (execTbLocked_spine s).steadies
  | .tbHoldoverEntry, s => (execTbHoldoverEntry_spine s).steadies
  | .stepInRunRestart, s => execStepInRunRestart_steady s
  | .leapSetEffect, s => (execLeapSetEffect_spine s).steadies
  | .leapApplied, s => (execLeapApplied_spine s).steadies
  | .phaseTargetFix id, s => (execPhaseTargetFix_spine id s).steadies
  | .phaseActionTaken id, s => (execPhaseActionTaken_spine id s).steadies
  | .deadlineIssue entry j, s => (execDeadlineIssue_spine entry j s).steadies
  | .deadlineEvaluation gid t, s => (execDeadlineEvaluation_spine gid t s).steadies
  | .releaseIssue entry j, s => (execReleaseIssue_spine entry j s).steadies
  | .playoutIssue entry j, s => (execPlayoutIssue_spine entry j s).steadies
  | .cycleIssue entry j, s => (execCycleIssue_spine entry j s).steadies
  | .copyIssue entry j, s => (execCopyIssue_spine entry j s).steadies
  | .tickIssue entry j, s => (execTickIssue_spine entry j s).steadies
  | .publishIssue entry j, s => (execPublishIssue_spine entry j s).steadies
  | .c37118FrameReceived f, s => (execC37118FrameReceived_spine f s).steadies
  | .injectionRecordTaken m, s => (execInjectionRecordTaken_spine m s).steadies
  | .svFrameReceived f, s => (execSvFrameReceived_spine f s).steadies
  | .gooseRPublicationReceived f, s => (execGooseRPublicationReceived_spine f s).steadies
  | .gooseOperandInstant sid t, s => (execGooseOperandInstant_spine sid t s).steadies
  | .cfgFrameReceived f, s => (execCfgFrameReceived_spine f s).steadies
  | .streamMissingLimit sid t, s => (execStreamMissingLimit_spine sid t s).steadies
  | .readyHeldRetry, s => (execReadyHeldRetry_spine s).steadies
  | .holdLimitExpiry serial, s => (execHoldLimitExpiry_spine serial s).steadies
  | .taskDispatch, s => (execTaskDispatch_spine s).steadies
  | .taskStart core, s => (execTaskStart_spine core s).steadies
  | .taskComplete core work, s => (execTaskComplete_spine core work s).steadies
  | .wcetBudgetReached core, s => (execWcetBudgetReached_spine core s).steadies
  | .taskAbort core, s => (execTaskAbort_spine core s).steadies
  | .schemeRuntimeFault core, s => (execSchemeRuntimeFault_spine core s).steadies
  | .rGooseRetransmit pub, s => (execRGooseRetransmit_spine pub s).steadies
  | .voicePacketReceived pkt, s => (execVoicePacketReceived_spine pkt s).steadies
  | .rtcpPacketReceived pkt, s => (execRtcpPacketReceived_spine pkt s).steadies
  | .rtcpSend vch leg, s => (execRtcpSend_spine vch leg s).steadies
  | .legSilent vch leg, s => (execLegSilent_spine vch leg s).steadies
  | .recBlockTransfer vch, s => (execRecBlockTransfer_spine vch s).steadies
  | .capRingMarker sid u, s => (execCapRingMarker_spine sid u s).steadies
  | .capRecordClose cap, s => (execCapRecordClose_spine cap s).steadies
  | .classPSeal cap, s => (execClassPSeal_spine cap s).steadies
  | .oqStallResume q, s => (execOqStallResume_spine q s).steadies
  | .dmaEntryWrite, s => (execDmaEntryWrite_spine s).steadies
  | .oqStaleTimer q, s => (execOqStaleTimer_spine q s).steadies
  | .oqFlushDone q, s => (execOqFlushDone_spine q s).steadies
  | .iqPull m, s => (execIqPull_spine m s).steadies
  | .rxFrameReceived f, s => (execRxFrameReceived_spine f s).steadies
  | .prpSourceForget p mac, s => (execPrpSourceForget_spine p mac s).steadies
  | .prpSupervisionSend p, s => (execPrpSupervisionSend_spine p s).steadies
  | .pfcFrameReceived p classes stamp, s => (execPfcFrameReceived_spine p classes stamp s).steadies
  | .pfcPauseExpiry p cls, s => (execPfcPauseExpiry_spine p cls s).steadies
  | .pfcXoffRepeat p cls, s => (execPfcXoffRepeat_spine p cls s).steadies
  | .pfcXonSend p cls, s => (execPfcXonSend_spine p cls s).steadies
  | .hostTxFrame p ring, s => (execHostTxFrame_spine p ring s).steadies
  | .linkChange p up phyFault, s => (execLinkChange_spine p up phyFault s).steadies
  | .wakeFrame p bytes, s => execWakeFrame_steady p bytes s
  | .wasInEdgeAccepted pin level stamp, s => (execWasInEdgeAccepted_spine pin level stamp s).steadies
  | .hbInEdge stamp, s => (execHbInEdge_spine stamp s).steadies
  | .hbTimeout, s => (execHbTimeout_spine s).steadies
  | .listenWindowEnd peerPref, s => (execListenWindowEnd_spine peerPref s).steadies
  | .linkbeatSend, s => (execLinkbeatSend_spine s).steadies
  | .linkbeatReceived b authOk, s => (execLinkbeatReceived_spine b authOk s).steadies
  | .twinLinkTimeout, s => (execTwinLinkTimeout_spine s).steadies
  | .twinLossDecision, s => (execTwinLossDecision_spine s).steadies
  | .presenceFrameSend p, s => (execPresenceFrameSend_spine p s).steadies
  | .presenceFrameReceived p f, s => (execPresenceFrameReceived_spine p f s).steadies
  | .partnerOutputsAbsent, s => (execPartnerOutputsAbsent_spine s).steadies
  | .mirrorReceived item authOk, s => (execMirrorReceived_spine item authOk s).steadies
  | .twinCmdReceived opcode pk effect authOk, s => (execTwinCmdReceived_spine opcode pk effect authOk s).steadies
  | .commitReceived c authOk, s => (execCommitReceived_spine c authOk s).steadies
  | .ackReceived cseq health, s => (execAckReceived_spine cseq health s).steadies
  | .standbyCommitLoss, s => (execStandbyCommitLoss_spine s).steadies
  | .resyncStartReceived n, s => (execResyncStartReceived_spine n s).steadies
  | .resyncDataReceived d, s => (execResyncDataReceived_spine d s).steadies
  | .resyncEndReceived digest, s => (execResyncEndReceived_spine digest s).steadies
  | .resyncTimeout, s => (execResyncTimeout_spine s).steadies
  | .resyncRetry, s => (execResyncRetry_spine s).steadies
  | .faultDeclare cause, s => (execFaultDeclare_spine cause s).steadies
  | .faultReceived term cause, s => (execFaultReceived_spine term cause s).steadies
  | .takeover, s => (execTakeover_spine s).steadies
  | .addressAnnounceRepeat, s => (execAddressAnnounceRepeat_spine s).steadies
  | .switchoverHandover, s => (execSwitchoverHandover_spine s).steadies
  | .promoteEffect, s => (execPromoteEffect_spine s).steadies
  | .pairingFrameReceived certOk sigOk peerId nonce q, s => (execPairingFrameReceived_spine certOk sigOk peerId nonce q s).steadies
  | .eyeMeasure low, s => (execEyeMeasure_spine low s).steadies
  | .controlFwFault, s => (execControlFwFault_spine s).steadies
  | .rtcFreezeTimeout m, s => (execRtcFreezeTimeout_spine m s).steadies
  | .rtcSetCommit, s => (execRtcSetCommit_spine s).steadies
  | .rtcSensorReading temp, s => (execRtcSensorReading_spine temp s).steadies
  | .rtcEndOfRange, s => (execRtcEndOfRange_spine s).steadies
  | .rtcLockRelease, s => (execRtcLockRelease_spine s).steadies
  | .vrtcLow, s => (execVrtcLow_spine s).steadies
  | .recNorProgram, s => (execRecNorProgram_spine s).steadies
  | .opTimeCheckpoint, s => (execOpTimeCheckpoint_spine s).steadies
  | .traceQlevel, s => (execTraceQlevel_spine s).steadies
  | .vinGood straps, s => execVinGood_steady straps s
  | .bootComplete res, s => execBootComplete_steady res s
  | .bootWatchdog, s => execBootWatchdog_steady s
  | .earlyWarning pin, s => execEarlyWarning_steady pin s
  | .warningPassed, s => execWarningPassed_steady s
  | .vinBelow9v, s => execVinBelow9v_steady s
  | .vinBelow7v, s => execVinBelow7v_steady s
  | .pdPowerChange pdB on, s => (execPdPowerChange_spine pdB on s).steadies
  | .pdClassification pdB cls, s => (execPdClassification_spine pdB cls s).steadies
  | .thermAssert temp, s => (execThermAssert_spine temp s).steadies
  | .thermRelease temp, s => (execThermRelease_spine temp s).steadies
  | .thermalTrip temp, s => execThermalTrip_steady temp s
  | .modRstNAssert, s => execModRstNAssert_steady s
  | .modRstNRelease, s => execModRstNRelease_steady s
  | .perstN, s => (execPerstN_spine s).steadies
  | .mainOffEffect, s => execMainOffEffect_steady s
  | .warmResetExecute, s => execWarmResetExecute_steady s
  | .dormantEntry, s => execDormantEntry_steady s
  | .controlFwRecovery, s => (execControlFwRecovery_spine s).steadies
  | .vbatOkChange ok, s => (execVbatOkChange_spine ok s).steadies
  | .peerDetChange level, s => (execPeerDetChange_spine level s).steadies
  | .tapInstruction ir, s => (execTapInstruction_spine ir s).steadies

/-- Settles O1. -/
theorem stepRunsTheFrontCommand : Obligations.StepRunsTheFrontCommand := by
  intro c rest s h
  rw [step, h]

/-- Settles O3. -/
theorem everyCommandEndsInANextState : Obligations.EveryCommandEndsInANextState :=
  fun i s => (exec_steadies i s).ends

/-- Settles O4: a step is a tick, which moves none of it, or a row run with the queue's rest. -/
theorem everyStepKeepsTheQueueAndTheRails : Obligations.EveryStepKeepsTheQueueAndTheRails := by
  intro s t h
  unfold step at h
  split at h
  · next hp =>
    have k := tick_spine h
    exact ⟨by rw [spine_pending k, hp, List.tail_nil], spine_rails k⟩
  · next c rest hp =>
    obtain ⟨hq, hr⟩ := (exec_steadies c _).next t h
    exact ⟨by rw [hq, hp, List.tail_cons], hr⟩

/-- Settles O5. -/
theorem everyCommandKeepsItsFrame : Obligations.EveryCommandKeepsItsFrame :=
  fun i s t h c hc => ((exec_within i s).next t h).keeps c (partMask_testBit hc)

end Sys2Proof.Machine
end

section
/-! The idle step (log entry 1), and the state after reset as its registers show it (02 R40, R44). -/

namespace Sys2Proof.Machine

theorem tbElapse_count (d : Nat) (b : TimeBase) : (tbElapse d b).count = b.count + d := by
  unfold tbElapse
  dsimp only
  split <;> rfl

/-- With no slew left the increment is nominal. -/
theorem tbElapse_of_slew_zero (d : Nat) {b : TimeBase} (h : b.slew = 0) :
    tbElapse d b = { b with count := b.count + d, slew := 0, incr := incrNominal } := if_pos (Or.inl h)

/-- Settles O2: the tick is an elapse of one increment, which moves what counts time alone. -/
theorem anIdleStepPassesOneTick : Obligations.AnIdleStepPassesOneTick := by
  intro s hp hlt
  refine ⟨elapse s.tb.incr s, ?_, tbElapse_count _ _, fun h => ?_, rfl⟩
  · rw [step, hp]
    exact if_pos hlt
  · simp [elapse, tbElapse_of_slew_zero _ h]

/-- Settles O6. -/
theorem theRailsAgreeAtReset : Obligations.TheRailsAgreeAtReset := ⟨rfl, rfl⟩

theorem readOq_reset (n : Nat) :
    readOq State.reset n 0x00 = 4 ∧ readOq State.reset n 0x04 = 1 ∧ readOq State.reset n 0x18 = 4 := ⟨rfl, rfl, rfl⟩

theorem readIq_reset (m : Nat) :
    readIq State.reset m 0x00 = 4 ∧ readIq State.reset m 0x04 = 0 ∧ readIq State.reset m 0x18 = 4 := by
  have hfull : iqFull State.reset m = false := by
    show decide (2048 ≤ iqUsed {}) = false
    decide
  have hstatus : iqStatusWord State.reset m = 0 := by rw [iqStatusWord, iqPulling, hfull]; rfl
  exact ⟨rfl, hstatus, rfl⟩

/-- The recorder's registers show an empty cursor: no copy, no seek, no discards. -/
theorem readRec_reset (m : Master) (off : Nat) : readRec m State.reset off = 0 := by
  have hc : recCursor State.reset m = {} := by cases m <;> rfl
  unfold readRec
  rw [hc]
  dsimp only
  split
  · rfl
  · split <;> rfl

/-- Settles O7: every register is read off the defaults of the state's fields. -/
theorem resetState : Obligations.ResetState :=
  ⟨rfl, rfl, rfl, rfl, rfl, rfl, rfl, rfl, readOq_reset, readIq_reset, fun _ _ => ⟨rfl, rfl⟩, rfl, readRec_reset, rfl, rfl, rfl, rfl,
    rfl, rfl, rfl⟩

end Sys2Proof.Machine
end

section
/-! The protocol of commands (02 R24-R36): how a command's answer follows from its run, which checks refuse it, and where a
reply goes. -/

namespace Sys2Proof.Machine

/-- An accepted command's row answers with the status and the result of its run. -/
theorem answers_of_run {c : Cmd} {i : Instr} {pk : Packet} {s u e : State} {st : Nat} {res : Bytes}
    (hi : exec i s = command c pk s) (h : Accepts c pk s u)
    (hr : c.run u (waiterOf c.opcode pk) (pkBytes pk) (c.effect u (pkBytes pk)) = (e, st, res)) (hst : st ≠ 2) :
    Answers i s pk st res e := by
  rw [Answers, hi]
  exact command_answers h hr hst

theorem origin_ne_twin_of_taken {op : Nat} {pk : Packet} {s u : State} (h : (taken op pk s).map endPairing = some u) :
    pk.origin ≠ .twin := by
  intro ho
  rw [taken, ho] at h
  cases h

/-! ### The checks -/

/-- The checks of class 0x01xx of a command without parameters and reserved fields: length, flags, version and CRC, in this
order. -/
theorem class01_start (pk : Packet) (u : State) :
    class01 startCmd pk u = if pk.plen ≠ 0 then some 0x0102 else if pk.flags / 4 ≠ 0 then some 0x0103
      else if pk.hdrver ≠ 1 then some 0x0104 else if pk.crc ≠ 0 then some 0x0105 else none := by
  by_cases hlen : pk.plen = 0
  · simp [class01, startCmd, chunkBad, hlen]
  · simp [class01, startCmd, hlen]

theorem class02_of_boot (c : Cmd) (o : Origin) {u : State} (h : u.pwr.ps = .boot) : class02 c o u = some 0x0202 := if_pos h

theorem class02_of_mainDown {c : Cmd} (o : Origin) {u : State} (hd : c.stD = false) (h : u.pwr.ps = .aonOnly ∨ u.pwr.ps = .dormant) :
    class02 c o u = some 0x0206 := by
  rcases h with h | h <;> simp [class02, mainDown, h, hd]

theorem class02_of_idle {c : Cmd} (o : Origin) {u : State} (hi : c.stI = false) (h : u.pwr.ps = .idle) :
    class02 c o u = some 0x0201 := by
  simp [class02, mainDown, inIdle, h, hi]

/-- In RUN an Act row of a unit that is neither ACTIVE nor SOLO is refused for the role. -/
theorem class02_of_role {c : Cmd} {o : Origin} {u : State} (hu : c.stU = true) (ha : c.act = true) (hf : c.flash = false) (ho : o ≠ .twin)
    (h : u.pwr.ps = .run) (hr : u.pwr.recovery = false) (hrole : actRole u = false) : class02 c o u = some 0x0204 := by
  simp [class02, mainDown, inIdle, inRun, mainUp, h, hu, ha, hf, ho, hr, hrole]

theorem actRole_of_passive {u : State} (h : u.cas.role = .standby ∨ u.cas.role = .stalemate) : actRole u = false := by
  rcases h with h | h <;> simp [actRole, h]

/-- Settles O8: each refusal is the check that fails first. -/
theorem malformedAndUntimelyCommandsAreRefused : Obligations.MalformedAndUntimelyCommandsAreRefused := by
  constructor
  · intro pk s u htaken hfresh
    have refuse : ∀ st, class01 startCmd pk u = some st → Answers (.start pk) s pk st [] u := fun st h =>
      command_refuses01 htaken hfresh h rfl
    refine ⟨fun hl => refuse _ ?_, fun hl hf => refuse _ ?_, fun hl hf hv => refuse _ ?_, fun hl hf hv hc => refuse _ ?_⟩
    · rw [class01_start, if_pos hl]
    · have hflags : pk.flags / 4 ≠ 0 := by omega
      simp [class01_start, hl, hflags]
    · have hflags : pk.flags / 4 = 0 := by omega
      simp [class01_start, hl, hflags, hv]
    · have hflags : pk.flags / 4 = 0 := by omega
      simp [class01_start, hl, hflags, hv, hc]
  · intro pk s u _
    constructor
    · intro htaken hfresh hwell
      have refuse : ∀ st, class02 stopCmd pk.origin u = some st → Answers (.stop pk) s pk st [] u := fun st h =>
        command_refuses02 htaken hfresh hwell h
      exact ⟨fun h => refuse _ (class02_of_boot _ _ h), fun h => refuse _ (class02_of_mainDown _ rfl h),
        fun h => refuse _ (class02_of_idle _ rfl h)⟩
    · intro htaken hfresh hwell hrun hrec hrole
      exact command_refuses02 htaken hfresh hwell
        (class02_of_role rfl rfl rfl (origin_ne_twin_of_taken htaken) hrun hrec (actRole_of_passive hrole))

/-! ### Repetitions -/

/-- A taken command that repeats its origin's last one has the stored reply posted again. -/
theorem command_of_repeated {c : Cmd} {pk : Packet} {s u : State} {r : Reply} (htaken : (taken c.opcode pk s).map endPairing = some u)
    (hrep : repeated c.opcode pk u = some r) : command c pk s = .next (serve (postReply r (bit pk.flags 0) u)) := by
  obtain ⟨v, hv, rfl⟩ := Option.map_eq_some_iff.mp htaken
  simp only [command, hv, hrep]
  rfl

/-- Settles O9. -/
theorem aRepeatedCommandIsAnsweredFromTheStore : Obligations.ARepeatedCommandIsAnsweredFromTheStore :=
  fun _ _ _ _ htaken hrep => command_of_repeated (c := streamDeleteCmd) htaken hrep

/-! ### Replies -/

theorem raiseVector_emitted (n : Nat) (s : State) : (raiseVector n s).emitted = .vector n :: s.emitted := by
  unfold raiseVector
  dsimp only
  split <;> rfl

theorem setIrq_irqStatus (b : Nat) (s : State) : (setIrq b s).glb.irqStatus = s.glb.irqStatus ||| BitVec.ofNat 9 (2 ^ b) := by
  unfold setIrq raiseVector
  dsimp only
  split
  · split <;> rfl
  · rfl

theorem raiseVector_irqStatus (n : Nat) (s : State) : (raiseVector n s).glb.irqStatus = s.glb.irqStatus := by
  unfold raiseVector
  dsimp only
  split <;> rfl

/-- What is on the interfaces stays there. -/
theorem setIrq_emitted_mem {e : Emission} {b : Nat} {s : State} (h : e ∈ s.emitted) : e ∈ (setIrq b s).emitted := by
  unfold setIrq
  dsimp only
  split
  · rw [raiseVector_emitted]
    exact List.mem_cons_of_mem _ h
  · exact h

/-- The reply as it stands in the ring, before an interrupt. -/
def replyWritten (r : Reply) (s : State) : State :=
  emit (.reply (some s.cmd.rqTail) r) { s with cmd := { s.cmd with rqTail := (s.cmd.rqTail + 1) % ringLen s.cmd.rqSize } }

/-- The reply in the ring, with RPLQ_FULL if it fills it. -/
def replyMarked (r : Reply) (s : State) : State :=
  if rplqFull (replyWritten r s) then setIrq 7 (replyWritten r s) else replyWritten r s

theorem putHostReply_eq (r : Reply) (q : Bool) (s : State) :
    putHostReply r q s = if q then replyMarked r s else raiseVector 0 (replyMarked r s) := rfl

theorem replyMarked_cmd (r : Reply) (s : State) : (replyMarked r s).cmd = (replyWritten r s).cmd := by
  unfold replyMarked
  split
  · exact setIrq_cmd _ _
  · rfl

theorem reply_mem_replyMarked (r : Reply) (s : State) : .reply (some s.cmd.rqTail) r ∈ (replyMarked r s).emitted := by
  have h : .reply (some s.cmd.rqTail) r ∈ (replyWritten r s).emitted := List.mem_cons_self
  unfold replyMarked
  split
  · exact setIrq_emitted_mem h
  · exact h

theorem rqTail_putHostReply (r : Reply) (q : Bool) (s : State) :
    (putHostReply r q s).cmd.rqTail = (s.cmd.rqTail + 1) % ringLen s.cmd.rqSize := by
  rw [putHostReply_eq]
  split
  · rw [replyMarked_cmd]; rfl
  · rw [raiseVector_cmd, replyMarked_cmd]; rfl

theorem reply_mem_putHostReply (r : Reply) (q : Bool) (s : State) :
    .reply (some s.cmd.rqTail) r ∈ (putHostReply r q s).emitted := by
  rw [putHostReply_eq]
  split
  · exact reply_mem_replyMarked r s
  · rw [raiseVector_emitted]
    exact List.mem_cons_of_mem _ (reply_mem_replyMarked r s)

/-- The reply that leaves one slot of the ring free sets RPLQ_FULL. -/
theorem putHostReply_full {r : Reply} {q : Bool} {s : State} (h : (s.cmd.rqTail + 2) % ringLen s.cmd.rqSize = s.cmd.rqHead) :
    (putHostReply r q s).glb.irqStatus.getLsbD 7 = true := by
  have hfull : rplqFull (replyWritten r s) = true := by
    have : ((s.cmd.rqTail + 1) % ringLen s.cmd.rqSize + 1) % ringLen s.cmd.rqSize = s.cmd.rqHead := by
      rw [Nat.mod_add_mod]
      exact h
    exact decide_eq_true this
  have hmark : (replyMarked r s).glb.irqStatus.getLsbD 7 = true := by
    rw [replyMarked, if_pos hfull, setIrq_irqStatus, BitVec.getLsbD_or]
    exact Bool.or_true _
  rw [putHostReply_eq]
  split
  · exact hmark
  · rw [raiseVector_irqStatus]; exact hmark

/-- Settles O10: the cases of `postReply` by origin. -/
theorem repliesArePostedToTheirOrigin : Obligations.RepliesArePostedToTheirOrigin := by
  intro r q s
  refine ⟨fun ho hf he hr => ?_, fun ho h => ?_, fun ho hf => ?_, fun ho hf => ?_⟩
  · have hput : postReply r q s = putHostReply r q s := by simp [postReply, ho, hf, he, hr]
    rw [hput]
    refine ⟨rqTail_putHostReply r q s, reply_mem_putHostReply r q s, ?_, putHostReply_full⟩
    rintro rfl
    rw [putHostReply_eq, if_neg Bool.false_ne_true, raiseVector_emitted]
    exact List.mem_cons_self
  · have hheld : (fwDown s || !s.cmd.rqEn || rplqFull s) = true := by rcases h with h | h | h <;> simp [h]
    simp only [postReply, ho, hheld]
    rfl
  · simp [postReply, ho, hf, setAlert, emit]
  · simp only [postReply, ho, hf]
    rfl

end Sys2Proof.Machine
end

section
/-! The commands that read (02 R38, R39). -/

namespace Sys2Proof.Machine

theorem ofLe_le (n v : Nat) : ofLe (le n v) = v % 256 ^ n := by
  induction n generalizing v with
  | zero => simp [le, ofLe, Nat.mod_one]
  | succ n ih =>
    rw [le, ofLe, ih]
    show v % 256 + _ = _
    rw [Nat.pow_succ', Nat.mod_mul]

@[simp] theorem length_le (n v : Nat) : (le n v).length = n := by
  induction n generalizing v with
  | zero => rfl
  | succ n ih => rw [le, List.length_cons, ih]

/-- A field that was written at its offset reads as its value. -/
theorem fld_append {a b : Bytes} {off n v : Nat} (ha : a.length = off) (hv : v < 256 ^ n) : fld (a ++ (le n v ++ b)) off n = v := by
  have hslice : slice (a ++ (le n v ++ b)) off n = le n v := by
    rw [slice, List.drop_append_of_le_length ha.ge, List.drop_eq_nil_of_le ha.le, List.nil_append,
      List.take_append_of_le_length (length_le n v).ge, List.take_of_length_le (length_le n v).le]
  rw [fld, hslice, ofLe_le, Nat.mod_eq_of_lt hv]

theorem pstateCode_lt (p : PState) : pstateCode p < 256 := by cases p <;> decide

theorem roleCode_lt (r : Role) : roleCode r < 256 := by cases r <;> decide

theorem powerSource_lt (s : State) : powerSource s < 256 := by
  unfold powerSource
  split
  · decide
  · split <;> decide

theorem budget_le (s : State) : budget s ≤ 58000 := by
  have hpd : ∀ p, pdBudget p ≤ 58000 := fun p => by
    unfold pdBudget
    split
    · exact le_rfl
    · split <;> decide
  unfold budget
  split
  · refine max_le ?_ ?_ <;> split
    · exact hpd _
    · exact Nat.zero_le _
    · exact hpd _
    · exact Nat.zero_le _
  · split <;> decide

/-- What GET_STATE's reply holds, field by field. -/
theorem stateBytes_fields (s : State) : (stateBytes s).length = 28 ∧ fld (stateBytes s) 0 1 = pstateCode s.pwr.ps ∧
    fld (stateBytes s) 1 1 = roleCode s.cas.role ∧ fld (stateBytes s) 3 1 = powerSource s ∧ fld (stateBytes s) 8 4 = budget s := by
  have hbudget : budget s < 256 ^ 4 := (budget_le s).trans_lt (by decide)
  unfold stateBytes
  dsimp only
  refine ⟨by simp [zeros], ?_, ?_, ?_, ?_⟩ <;> simp only [List.append_assoc]
  · exact fld_append (a := []) rfl (pstateCode_lt _)
  · exact fld_append (by simp) (roleCode_lt _)
  · rw [← List.append_assoc, ← List.append_assoc]
    exact fld_append (by simp) (powerSource_lt _)
  · rw [← List.append_assoc, ← List.append_assoc, ← List.append_assoc, ← List.append_assoc]
    exact fld_append (by simp) hbudget

/-- Settles O11: each row's run gives its bytes and leaves the state. -/
theorem statusCommandsComplete : Obligations.StatusCommandsComplete :=
  ⟨fun _ _ _ =>
    ⟨fun h => answers_of_run rfl h rfl (by decide), fun h => answers_of_run rfl h rfl (by decide),
      fun h => answers_of_run rfl h rfl (by decide), fun h => answers_of_run rfl h rfl (by decide),
      fun h => answers_of_run rfl h rfl (by decide), fun h => answers_of_run rfl h rfl (by decide),
      fun h => answers_of_run rfl h rfl (by decide)⟩,
   fun _ _ _ =>
    ⟨fun h => answers_of_run rfl h rfl (by decide), fun h => answers_of_run rfl h rfl (by decide),
      fun h => answers_of_run rfl h rfl (by decide), fun h => answers_of_run rfl h rfl (by decide),
      fun h => answers_of_run rfl h rfl (by decide), fun h => answers_of_run rfl h rfl (by decide)⟩,
   stateBytes_fields⟩

end Sys2Proof.Machine
end

section
/-! The commands that write the tables (01 R17), that request a transition (18 R447, R451, R456, R457), and the loads (02 R35). -/

namespace Sys2Proof.Machine

theorem Accepts.origin_ne_twin {c : Cmd} {pk : Packet} {s u : State} (h : Accepts c pk s u) : pk.origin ≠ .twin :=
  origin_ne_twin_of_taken h.taken

/-! ### Tables -/

theorem activeBank_setInactive (b : Bank) (s : State) : activeBank (setInactive b s) = activeBank s := by
  unfold activeBank setInactive
  split <;> simp [*]

theorem inactiveBank_setInactive (b : Bank) (s : State) : inactiveBank (setInactive b s) = b := by
  unfold inactiveBank setInactive
  split <;> simp [*]

/-- STREAM_DEFINE writes the bank that it makes, unless that holds more SV streams than the device (00 R3, R4). -/
theorem streamDefine_answers {pk : Packet} {s u : State} {b : Bank} (h : Accepts streamDefineCmd pk s u)
    (hb : b = withStream (fld (pkBytes pk) 0 2) (streamOf (pkBytes pk)) (inactiveBank u)) :
    (svStreams b ≤ 1024 → Answers (.streamDefine pk) s pk 0 [] (setInactive b u)) ∧
      (1024 < svStreams b → Answers (.streamDefine pk) s pk 0x0301 [] u) := by
  subst hb
  exact ⟨fun hfew => answers_of_run rfl h (if_neg (Nat.not_lt.mpr hfew)) (by decide),
    fun hmany => answers_of_run rfl h (if_pos hmany) (by decide)⟩

/-- Settles O12: each row's run writes its entry with `setInactive`. -/
theorem tableCommandsWriteTheInactiveBank : Obligations.TableCommandsWriteTheInactiveBank :=
  ⟨fun _ _ _ =>
    ⟨fun _ h hb => streamDefine_answers h hb,
      fun h => answers_of_run rfl h rfl (by decide), fun h => answers_of_run rfl h rfl (by decide),
      fun h => answers_of_run rfl h rfl (by decide), fun h => answers_of_run rfl h rfl (by decide),
      fun h => answers_of_run rfl h rfl (by decide), fun h => answers_of_run rfl h rfl (by decide),
      fun h => answers_of_run rfl h rfl (by decide)⟩,
   fun b s => ⟨activeBank_setInactive b s, inactiveBank_setInactive b s⟩⟩

/-! ### Requests of transitions -/

/-- A unit that does not act has no partner to hand over to. -/
theorem handoverFirst_of_not_active {s : State} (h : s.cas.role ≠ .active) : handoverFirst s = s := by
  simp [handoverFirst, h]

/-- Settles O13. -/
theorem runAndPowerCommandsComplete : Obligations.RunAndPowerCommandsComplete := by
  intro pk s u
  refine ⟨fun h hsched hbist => ?_, fun h => answers_of_run rfl h rfl (by decide), fun h hsolo => ?_, fun h hup hp => ?_, fun h hs => ?_⟩
  · refine answers_of_run rfl h ?_ (by decide)
    simp [startCmd, Option.isSome_iff_ne_none.mp hsched, hbist]
  · refine answers_of_run rfl h ?_ (by decide)
    have : warmRequest u = { u with pwr := { u.pwr with warmAt := true } } :=
      handoverFirst_of_not_active (by simp [hsolo])
    simp [warmResetCmd, this]
  · refine answers_of_run rfl h ?_ (by decide)
    simp [powerCtrlCmd, hp, mainOff, hup]
  · refine answers_of_run rfl h ?_ (by decide)
    simp [schedSwapCmd, hs, swapBoundary]

/-! ### Commits and loads -/

/-- Settles O14. -/
theorem commitCommandsComplete : Obligations.CommitCommandsComplete := by
  intro pk s u
  refine ⟨fun i h hp hi => ?_, fun i h hp hi => ?_, fun a b h ha hb hlt => ?_, fun a b h ha hb hle => ?_⟩
  · refine answers_of_run rfl h ?_ (by decide)
    simp [fwCommitCmd, hp, fwSlot, hi, setAttempts, setFw]
  · refine answers_of_run rfl h ?_ (by decide)
    simp [fwCommitCmd, hp, fwSlot, hi, setAttempts, setFw]
  · refine answers_of_run rfl h ?_ (by decide)
    simp [cfgSaveCmd, cfgSave, ha, hb, hlt]
  · refine answers_of_run rfl h ?_ (by decide)
    simp [cfgSaveCmd, cfgSave, ha, hb, Nat.not_lt.mpr hle]

/-- A chunk that is not the last joins its load. -/
theorem chunkTake_joins {op : Nat} {p : Bytes} {o : Origin} {s : State}
    (hfree : (liveLoads s).any (fun c => decide (c.origin ≠ o) && c.opcode == op && c.target == fld p 0 4) = false)
    (hlast : bit (fld p 14 1) 1 = false) :
    chunkTake o op p s = .more { dropChunk o op (fld p 0 4) s with cmd := { (dropChunk o op (fld p 0 4) s).cmd with
      chunks := (s.cmd.chunks.filter fun c => !isLoad o op (fld p 0 4) c) ++
        [{ origin := o, opcode := op, target := fld p 0 4, totalLen := fld p 4 4, data := chunkImage o op p s, last := now s }] } } := by
  simp only [chunkTake, hfree, hlast]
  rfl

/-- Settles O15: the run of each load with the whole image. -/
theorem imageLoadsComplete : Obligations.ImageLoadsComplete := by
  refine ⟨fun op p o s => chunkTake_joins, fun pk s u v d => ⟨fun h ht hs => ?_, fun h ht hp hr => ?_, fun h ht hp => ⟨fun hv => ?_, fun hv => ?_⟩⟩⟩
  · refine answers_of_run rfl h ?_ (by decide)
    simp [schedLoadCmd, waiterOf, ht, hs]
  · have hex : bit (fld (pkBytes pk) 0 4) 8 = false := by
      have hlt : fld (pkBytes pk) 0 4 < 2 ^ 8 := hp.trans (by decide)
      simp only [bit, Nat.div_eq_of_lt hlt]
      rfl
    have hn : fld (pkBytes pk) 0 4 % 64 = fld (pkBytes pk) 0 4 := Nat.mod_eq_of_lt hp
    refine answers_of_run rfl h ?_ (by decide)
    simp [progLoadCmd, progLoadRun, waiterOf, ht, hex, hn, hr]
  · refine answers_of_run rfl h ?_ (by decide)
    simp [fwLoadCmd, waiterOf, ht, hp, hv, drawFree, setFw, setAttempts]
  · refine answers_of_run rfl h ?_ (by decide)
    simp [fwLoadCmd, waiterOf, ht, hv]

/-- A packet of the control firmware that its enabled queue takes is committed. -/
theorem fwPacket_fits {n : Nat} {b res : Bytes} {s : State} (hen : (oq s n).en = true)
    (hroom : oqLevel (oq s n) + heldWords (oq s n).held + pktWords b.length ≤ oqCapacity s n) :
    fwPacket n b res s = (oqCommit n { data := b, mark := false } s, 0, res) := by
  have hlevel : oqLevel (oq s n) + pktWords b.length ≤ oqCapacity s n := by omega
  simp [fwPacket, oqPut, hen, hroom, hlevel]

/-- No status of the codec is the mark of a waiting command. -/
theorem prcErrCode_ne_two (e : PrcErr) : prcErrCode e ≠ 2 := by cases e <;> decide

/-- Settles O16. -/
theorem codecCommandsComplete : Obligations.CodecCommandsComplete := by
  intro pk s u v d b hen
  refine ⟨fun h ht he hroom => ?_, fun c h ht hd hb hroom => ?_, fun e h ht hd => ?_⟩
  · refine answers_of_run rfl h ?_ (by decide)
    simp [prcEncodeCmd, waiterOf, ht, prcEncodeImage, he, fwPacket_fits hen hroom]
  · subst hb
    refine answers_of_run rfl h ?_ (by decide)
    simp only [prcDecodeCmd, waiterOf, ht, prcDecodeImage, hd, fwPacket_fits hen hroom]
  · refine answers_of_run rfl h ?_ (prcErrCode_ne_two e)
    simp [prcDecodeCmd, waiterOf, ht, prcDecodeImage, hd]

end Sys2Proof.Machine
end

section
/-! The commands of time, of the clock and of the recorder (03 R75-R79; 15 R403, R413; 16 R432, R433). -/

namespace Sys2Proof.Machine

/-! ### Time and the clock -/

theorem enterHoldover_tb (s : State) :
    (enterHoldover s).tb = { s.tb with state := .holdover, holdFrom := now s, goodRun := 0 } :=
  ((noteTime_same _ _ _).keeps .tb rfl).symm.trans
    (((raiseVector_same _ _).keeps .tb rfl).symm.trans (((setIrq_same _ _).keeps .tb rfl).symm))

/-- What TIME_CONFIG leaves of the time base. -/
theorem timeConfig_tb (c : TimeConfig) (s : State) :
    (timeConfig c s).tb.cfg = c ∧ (timeConfig c s).tb.goodRun = 0 ∧ (timeConfig c s).tb.masters = [] ∧
      (timeConfig c s).tb.gmPort = 0xFF ∧ (timeConfig c s).tb.count = s.tb.count ∧
      (timeConfig c s).tb.state = if c.source = 2 ∧ s.tb.state = .locked then .holdover else s.tb.state := by
  unfold timeConfig
  dsimp only
  split
  · rw [enterHoldover_tb]
    exact ⟨rfl, rfl, rfl, rfl, rfl, rfl⟩
  · exact ⟨rfl, rfl, rfl, rfl, rfl, rfl⟩

theorem timeConfig_answers {pk : Packet} {s u : State} (h : Accepts timeConfigCmd pk s u) :
    Answers (.timeConfig pk) s pk 0 [] (timeConfig (timeConfigOf (pkBytes pk)) u) :=
  answers_of_run rfl h rfl (by decide)

theorem timeSet_idle {sec frac : Nat} {s : State} (hlock : s.tb.state ≠ .locked) (hidle : inIdle s = true) :
    timeSet sec frac s = ({ s with tb := { s.tb with
      count := (sec * 2 ^ 32 + frac) * 2 ^ 32, slew := 0, incr := incrNominal, goodRun := 0, secDone := none, todErr := 0 } }, 0) := by
  unfold timeSet
  dsimp only
  rw [if_neg hlock, if_pos hidle]
  rfl

/-- The difference of TIME_SET to the count, in units of 2^-64 s. -/
theorem timeSet_slews {sec frac : Nat} {x : Int} {s : State} (hlock : s.tb.state ≠ .locked) (hidle : inIdle s = false)
    (hx : x = s.tb.count - (sec * 2 ^ 32 + frac) * 2 ^ 32) (hsmall : x.natAbs * 1000 < 2 ^ 64) :
    timeSet sec frac s = (slewBy x s, 0) := by
  have hx' : (s.tb.count : Int) - ((sec * secU + frac : Nat) : Int) * 2 ^ 32 = x := by
    rw [hx, secU]
    push_cast
    rfl
  unfold timeSet
  dsimp only
  rw [hx', if_neg hlock, if_neg (by simp [hidle]), if_pos hsmall]

/-- Settles O17. -/
theorem timeAndClockCommandsComplete : Obligations.TimeAndClockCommandsComplete := by
  refine ⟨fun pk s u => ⟨fun h => ?_, fun h hl hi => ?_, fun x h hl hi hx hs => ?_, fun h hl => ?_, fun h => ?_⟩,
    fun pk s u => ⟨fun h hup => ?_, fun h hup => ?_, fun h hup => ?_, fun h hup => ?_⟩⟩
  · obtain ⟨t, hexec, hans, hq⟩ := timeConfig_answers h
    refine ⟨t, hexec, hans, ?_⟩
    rw [hq.tb]
    exact timeConfig_tb _ _
  · refine answers_of_run rfl h ?_ (by decide)
    simp only [timeSetCmd, timeSet_idle hl hi]
  · refine answers_of_run rfl h ?_ (by decide)
    simp only [timeSetCmd, timeSet_slews hl hi hx hs]
  · refine answers_of_run rfl h ?_ (by decide)
    simp [timeSetCmd, timeSet, hl]
  · exact answers_of_run rfl h rfl (by decide)
  · refine answers_of_run rfl h ?_ (by decide)
    simp [rtcCurveLoadCmd, hup]
  · refine answers_of_run rfl h ?_ (by decide)
    simp [rtcCurveLoadCmd, hup]
  · refine answers_of_run rfl h ?_ (by decide)
    simp [rtcLeapTableCmd, hup]
  · refine answers_of_run rfl h ?_ (by decide)
    simp [rtcLeapTableCmd, hup]

/-! ### The recorder -/

/-- An accepted command that is no Act command closes in the state of its run. -/
theorem command_closes {c : Cmd} {pk : Packet} {s u s' : State} {st : Nat} {res : Bytes} (h : Accepts c pk s u) (hact : c.act = false)
    (hr : c.run u (waiterOf c.opcode pk) (pkBytes pk) (c.effect u (pkBytes pk)) = (s', st, res)) (hst : st ≠ 2) :
    command c pk s = .next (serve (closeCommand (waiterOf c.opcode pk) c.sev pk.crc (pkBytes pk) st false res s')) := by
  obtain ⟨htaken, hfresh, hwell, htime, hdry⟩ := h
  obtain ⟨v, hv, rfl⟩ := Option.map_eq_some_iff.mp htaken
  have hforward : ∀ e x, forwardCmd c pk e x = x := fun e x => by simp [forwardCmd, hact]
  simp only [command, hv, hfresh, runCommand, hwell, htime, hr, hdry, if_neg hst, hforward, Bool.false_eq_true, if_false, ite_self]
  rfl

/-- Closing a command that is not recorded leaves the recorder alone. -/
theorem closeCommand_rcd (w : Waiter) (crc : Nat) (p : Bytes) (st : Nat) (dry : Bool) (res : Bytes) (s : State) :
    (closeCommand w none crc p st dry res s).rcd = s.rcd := by
  have hpost : ∀ r q l (v : State), (postReply r q (storeReply l v)).rcd = v.rcd := fun r q l v =>
    (((storeReply_same l v).keeps .rcd rfl).trans ((postReply_same r q _).keeps .rcd rfl)).symm
  unfold closeCommand
  dsimp only
  rw [hpost]
  split
  · split <;> rfl
  · rfl

theorem recSize_le {r : Record} (h : r.detail.length ≤ 980) : recSize r ≤ 1040 := by
  unfold recSize recLen ceilDiv
  omega

/-- With room for it, a record is the newest live one. -/
theorem recStage_live {r : Record} {s : State} (hstaged : (s.rcd.live.filter (·.staged)).length < Config.stagingRoom)
    (hroom : recLive s.rcd.live + recSize r ≤ Config.recorderRoom) :
    (recStage r s).rcd = { s.rcd with live := s.rcd.live ++ [r], seq := (s.rcd.seq + 1) % 2 ^ 32 } := by
  unfold recStage
  dsimp only
  rw [if_neg (Nat.not_le.mpr hstaged), if_pos hroom, if_pos hroom]
  split
  · rw [raiseVector_only]
  · rfl

/-- With room for it, a record that is written is the newest live one. -/
theorem recAdd_live {sev cls code origin textFlag subject arg0 arg1 : Nat} {detail : Bytes} {s : State}
    (hstaged : (s.rcd.live.filter (·.staged)).length < Config.stagingRoom)
    (hroom : recLive s.rcd.live + 1040 ≤ Config.recorderRoom) :
    ∃ r : Record, (recAdd sev cls code origin textFlag subject arg0 arg1 detail s).rcd =
        { s.rcd with live := s.rcd.live ++ [r], seq := (s.rcd.seq + 1) % 2 ^ 32 } ∧
      r.seq = s.rcd.seq ∧ r.cls = cls ∧ r.sev = sev ∧ r.detail = detail.take 980 := by
  refine ⟨_, recStage_live hstaged ?_, rfl, rfl, rfl, rfl⟩
  exact (Nat.add_le_add_left (recSize_le (List.length_take_le _ _)) _).trans hroom

/-- A well-formed command's fields lie in their ranges. -/
theorem Accepts.field {c : Cmd} {pk : Packet} {s u : State} (h : Accepts c pk s u) : c.field u (pkBytes pk) = true := by
  have hwell := h.wellFormed
  unfold class01 at hwell
  dsimp only at hwell
  split at hwell
  · cases hwell
  · split at hwell
    · cases hwell
    · next hbad =>
      simp only [not_or, Bool.not_eq_true', Bool.not_eq_false] at hbad
      exact hbad.2.1

/-- REC_NOTE closes behind the record of its severity and text. -/
theorem recNote_closes {pk : Packet} {s u : State} (h : Accepts recNoteCmd pk s u) :
    ∃ code, exec (.recNote pk) s = .next (serve (closeCommand (waiterOf 0x0B02 pk) none pk.crc (pkBytes pk) 0 false (le 4 u.rcd.seq)
      (recAdd (fld (pkBytes pk) 0 1) 12 code (originCode pk.origin) 1 0 0 0 (slice (pkBytes pk) 4 (fld (pkBytes pk) 2 2))
        { u with free := u.free + 1 }))) :=
  ⟨_, command_closes h rfl rfl (by decide)⟩

/-- Settles O18. -/
theorem recorderCommandsComplete : Obligations.RecorderCommandsComplete := by
  refine fun pk s u => ⟨fun h hstaged hroom => ?_, fun h => answers_of_run rfl h rfl (by decide)⟩
  obtain ⟨code, hexec⟩ := recNote_closes h
  have hfield := h.field
  simp only [recNoteCmd, Bool.and_eq_true, decide_eq_true_eq] at hfield
  have hlen : (slice (pkBytes pk) 4 (fld (pkBytes pk) 2 2)).length ≤ 980 :=
    ((List.length_take_le _ _).trans hfield.2).trans (by decide)
  obtain ⟨r, hrcd, hseq, hcls, hsev, hdetail⟩ := recAdd_live (s := { u with free := u.free + 1 }) hstaged hroom
  refine ⟨_, r, hexec, closeCommand_answer _ _ _ _ _ _ _ _ _ h.origin_ne_twin,
    (closeCommand_quiet _ _ _ _ _ _ _ _).trans (recAdd_quiet ..), ?_⟩
  rw [closeCommand_rcd, hrcd]
  exact ⟨rfl, hseq, hcls, hsev, hdetail.trans (List.take_of_length_le hlen), rfl⟩

end Sys2Proof.Machine
end

section
/-! The commands of detectors and schemes (07 R182; 08 R206-R212), of calls and flows (09 R222-R228). -/

namespace Sys2Proof.Machine

/-! ### Detectors and schemes -/

theorem detAckLatch_dets (det : Nat) (s : State) :
    (detAckLatch det s).dets = mmap s.dets fun i r => if i = det ∨ det = 0xFFFF then { r with latch := 0 } else r :=
  ((alarmPin_same _).keeps .dets rfl).symm

theorem mget_detAckLatch (det i : Nat) (s : State) :
    mget (detAckLatch det s).dets i = (mget s.dets i).map fun r => if i = det ∨ det = 0xFFFF then { r with latch := 0 } else r := by
  rw [detAckLatch_dets, mget_mmap]

theorem activeBank_of_banks {s t : State} (h0 : s.bank0 = t.bank0) (h1 : s.bank1 = t.bank1) (ha : s.active = t.active) :
    activeBank s = activeBank t := by rw [activeBank, activeBank, h0, h1, ha]

/-- The image goes into the inactive bank. -/
theorem activeBank_copyImage (n : Nat) (s : State) : activeBank (copyImage n s) = activeBank s := by
  have hnote : ∀ a b c d e f g v, activeBank (noteI a b c d e f g v) = activeBank v := fun a b c d e f g v =>
    activeBank_of_banks ((noteI_same a b c d e f g v).keeps .bank0 rfl).symm ((noteI_same a b c d e f g v).keeps .bank1 rfl).symm
      ((noteI_same a b c d e f g v).keeps .active rfl).symm
  unfold copyImage
  split
  · rfl
  · dsimp only
    split
    · rfl
    · rw [hnote, activeBank_setInactive]

/-- A scheme starts cold: running, its variables at their initial values, and its first cycle the instant given. -/
theorem schRun_schemeStartAt {n : Nat} {w : Option Waiter} {first : Instant} {s : State} {img : SchemeImg}
    (h : schImg (activeBank s) n = some img) :
    (schRun (schemeStartAt n w first s) n).running = true ∧ (schRun (schemeStartAt n w first s) n).vars = img.vars.map (·.init) ∧
      (schRun (schemeStartAt n w first s) n).notBefore = first ∧ (schRun (schemeStartAt n w first s) n).startWait = w ∧
      (schRun (schemeStartAt n w first s) n).stopWait = none := by
  simp only [schemeStartAt, h, schRun_setSch_same, and_self]

/-- A command of the unit itself starts a scheme that does not run. -/
theorem progStartRun_starts {s : State} {w : Waiter} {n : Nat} {e : Instant} (hw : w.origin ≠ .twin)
    (hr : (schRun s n).running = false) : progStartRun s w n e = (schemeStartAt n (some w) e (copyImage n s), 1, []) := by
  simp [progStartRun, hr, hw]

theorem schRun_of_quiet {t e : State} (h : Quiet t e) (n : Nat) : schRun t n = schRun e n := by rw [schRun, h.schs, schRun]

/-- Settles O19. -/
theorem detAckAndSchemeStartAndStopComplete : Obligations.DetAckAndSchemeStartAndStopComplete := by
  refine ⟨fun pk s u h => ?_, fun pk s u => ⟨fun img h himg hr => ?_, fun h hr hw => ?_, fun h hr => ?_⟩⟩
  · obtain ⟨t, hexec, hans, hq⟩ := answers_of_run (i := .detAck pk) rfl h rfl (by decide)
    refine ⟨t, hexec, hans, fun i => ?_⟩
    rw [hq.dets, mget_detAckLatch]
  · obtain ⟨t, hexec, hans, hq⟩ := answers_of_run (i := .progStart pk) rfl h (progStartRun_starts h.origin_ne_twin hr) (by decide)
    obtain ⟨hrun, hvars, hfirst, hstart, hstop⟩ :=
      schRun_schemeStartAt (w := some (waiterOf 0x0502 pk)) (first := cycleFrom u (fld (pkBytes pk) 0 1) (now u + msU 1))
        ((congrArg (schImg · _) (activeBank_copyImage (fld (pkBytes pk) 0 1) u)).trans himg)
    refine ⟨t, hexec, hans, ?_⟩
    rw [schRun_of_quiet hq]
    exact ⟨hrun, hvars, hfirst, hstart, hstop⟩
  · refine answers_of_run rfl h ?_ (by decide)
    simp [progStopCmd, progStopRun, hr, hw, stopCycle, waiterOf, h.origin_ne_twin]
  · refine answers_of_run rfl h ?_ (by decide)
    simp [progStopCmd, progStopRun, hr]

/-- A command of the unit itself never comes after its cycle. -/
theorem cycleGone_of_own {s : State} {w : Waiter} {n : Nat} {e : Instant} (hw : w.origin ≠ .twin) : cycleGone s w n e = false := by
  simp [cycleGone, hw]

/-- The cells of a set name a forced variable. -/
def namesForced (s : State) (p : Bytes) : Bool :=
  (cellsOf p).any fun c => c.space == 0 && mhas (schRun s (fld p 0 1)).forces c.id

/-- A PROG_SET_VALUES of a running scheme that finds room waits with its cells. -/
theorem progSetRun_adds {s : State} {w : Waiter} {p : Bytes} {e : Instant} (hw : w.origin ≠ .twin)
    (hr : (schRun s (fld p 0 1)).running = true) (hf : namesForced s p = false) (hp : pendingSets (schRun s (fld p 0 1)) < 4) :
    progSetRun s w p e = (setSch (fld p 0 1) { schRun s (fld p 0 1) with
      pend := (schRun s (fld p 0 1)).pend ++ [.set w e (cellsOf p)] } s, 1, []) := by
  unfold namesForced at hf
  unfold progSetRun
  dsimp only
  rw [if_neg (by simp [hr]), hf, if_neg Bool.false_ne_true, if_neg (Nat.not_le.mpr hp), cycleGone_of_own hw,
    if_neg Bool.false_ne_true]

theorem progSetRun_forced {s : State} {w : Waiter} {p : Bytes} {e : Instant} (hr : (schRun s (fld p 0 1)).running = true)
    (hf : namesForced s p = true) : progSetRun s w p e = (s, 0x0205, []) := by
  unfold namesForced at hf
  unfold progSetRun
  dsimp only
  rw [if_neg (by simp [hr]), if_pos hf]

/-- A PROG_FORCE that finds room adds its command to those of its scheme that wait. -/
theorem progForceRun_adds {s : State} {w : Waiter} {p : Bytes} {e : Instant} {c : PendCmd} (hw : w.origin ≠ .twin)
    (hroom : fld p 1 1 = 1 → forceCount s < Config.maxForces)
    (hc : (match fld p 1 1 with
      | 1 => PendCmd.force w e (fld p 2 2) (fld p 8 8)
      | 2 => .unforce w e (fld p 2 2)
      | _ => .unforceAll w e) = c) :
    progForceRun s w p e =
      (setSch (fld p 0 1) { schRun s (fld p 0 1) with pend := (schRun s (fld p 0 1)).pend ++ [c] } s, 1, []) := by
  have hfull : ¬ (fld p 1 1 = 1 ∧ (!(forcedIds (schRun s (fld p 0 1))).contains (fld p 2 2)) = true ∧ Config.maxForces ≤ forceCount s) :=
    fun ⟨h1, _, hle⟩ => absurd (hroom h1) (Nat.not_lt.mpr hle)
  unfold progForceRun
  dsimp only
  rw [if_neg hfull, cycleGone_of_own hw, if_neg Bool.false_ne_true]
  subst hc
  rfl

/-- Settles O20. -/
theorem schemeSetAndForceComplete : Obligations.SchemeSetAndForceComplete := by
  refine fun pk s u => ⟨fun h hr hf hp => ?_, fun h hr hf => ?_, fun h ha hroom => ?_, fun h ha => ?_, fun h ha => ?_⟩
  · refine answers_of_run rfl h ((progSetRun_adds h.origin_ne_twin hr hf hp).trans ?_) (by decide)
    simp only [progSetValuesCmd, hr, if_true]
  · exact answers_of_run rfl h (progSetRun_forced hr hf) (by decide)
  · exact answers_of_run rfl h (progForceRun_adds h.origin_ne_twin (fun _ => hroom) (by rw [ha]; rfl)) (by decide)
  · exact answers_of_run rfl h (progForceRun_adds h.origin_ne_twin (fun h1 => by omega) (by rw [ha]; rfl)) (by decide)
  · exact answers_of_run rfl h (progForceRun_adds h.origin_ne_twin (fun h1 => by omega) (by rw [ha]; rfl)) (by decide)

/-! ### Calls -/

/-- A channel that opens holds its parameters alone, and its recording chain begins anew. -/
theorem vch_vchOpen (v : Nat) (c : VchParams) (a : Instant) (s : State) :
    ∃ r, vch (vchOpen v c a s) v = some r ∧ r.par = c ∧ r.openAt = some a ∧ r.closeAt = none ∧ r.next = none ∧
      r.recd.chain = zeros 32 := by
  unfold vchOpen
  dsimp only
  exact ⟨_, vch_setVch_same _ _ _, rfl, rfl, rfl, rfl, rfl⟩

theorem vchOpenNow_of_open {s : State} {v : Nat} {r : VchRun} (h : vch s v = some r) (hc : r.closeAt = none) :
    vchOpenNow s v = true := by
  simp [vchOpenNow, h, hc]

theorem vch_of_quiet {t e : State} (h : Quiet t e) (v : Nat) : vch t v = vch e v := by rw [vch, h.vchs, vch]

/-- Settles O21. -/
theorem callCommandsComplete : Obligations.CallCommandsComplete := by
  refine fun pk s u => ⟨fun h hopen hunits => ?_, fun r h hr hc ho hunits => ?_, fun r a h hr hc ho hunits => ?_, fun h hopen => ?_,
    fun h hopen => ?_, fun h hopen => ?_, fun h hopen => ?_⟩
  · obtain ⟨t, hexec, hans, hq⟩ := answers_of_run (i := .vchOpen pk) (e := vchOpen (fld (pkBytes pk) 0 2) (vchParamsOf (pkBytes pk))
      (vchFrom u (fld (pkBytes pk) 0 2)) u) (st := 0) (res := []) rfl h (by simp [vchOpenCmd, hopen, hunits]) (by decide)
    obtain ⟨r, hr⟩ := vch_vchOpen (fld (pkBytes pk) 0 2) (vchParamsOf (pkBytes pk)) (vchFrom u (fld (pkBytes pk) 0 2)) u
    rw [← vch_of_quiet hq] at hr
    exact ⟨t, r, hexec, hans, hr⟩
  · refine answers_of_run rfl h ?_ (by decide)
    simp [vchModifyCmd, vchOpenNow_of_open hr hc, hunits, vchModify, hr, ho]
  · refine answers_of_run rfl h ?_ (by decide)
    simp [vchModifyCmd, vchOpenNow_of_open hr hc, hunits, vchModify, hr, ho]
  · refine answers_of_run rfl h ?_ (by decide)
    simp [vchCloseCmd, hopen]
  · refine answers_of_run rfl h ?_ (by decide)
    simp [vchOpenCmd, hopen]
  · refine answers_of_run rfl h ?_ (by decide)
    simp [vchModifyCmd, hopen]
  · refine answers_of_run rfl h ?_ (by decide)
    simp [vchCloseCmd, hopen]

/-! ### Flows -/

theorem flowFresh_flows (d : FlowDef) (s : State) : (flowFresh d s).flows = s.flows := by
  unfold flowFresh
  split <;> rfl

theorem mget_flowDelete (n : Nat) (s : State) : mget (flowDelete n s).flows n = none := by
  unfold flowDelete
  split
  · assumption
  · rw [flowFresh_flows, mget_mdel_same]

/-- A new entry starts with the numbers of its parameters. -/
theorem mget_flowSet_new {n : Nat} {d : FlowDef} {s : State} (h : mget s.flows n = none) :
    mget (flowSet n d s).flows n = some { def_ := d, seq := d.seq0, ts := d.ts0, roc := d.roc0 } := by
  simp only [flowSet, h, flowFresh_flows]
  exact mget_mput_same _ _ _

/-- An entry whose profile, locker and SSRC stay, and which is not to start afresh, keeps its context. -/
theorem flowSet_kept {n : Nat} {d : FlowDef} {f : FlowRun} {s : State} (h : mget s.flows n = some f) (hanew : flowAnew d f = false)
    (hrole : bit d.role 4 = false) :
    flowSet n d s = setFlow n { f with def_ := { d with roc0 := f.def_.roc0 }, keyLost := false } s := by
  simp [flowSet, h, hanew, flowChanged, hrole]

/-- Settles O22. -/
theorem flowSetCompletes : Obligations.FlowSetCompletes := by
  refine fun pk s u h hopen => ⟨fun hen hsame => ?_, fun f hen hrole hf hsame hp hl hs => ?_, fun hen => ⟨?_, mget_flowDelete _ _⟩⟩
  · obtain ⟨t, hexec, hans, hq⟩ := answers_of_run (i := .flowSet pk) (st := 0) (res := []) (e := flowSet (fld (pkBytes pk) 0 2)
      (flowDefOf (pkBytes pk)) (flowDelete (fld (pkBytes pk) 0 2) u)) rfl h (by simp [flowSetCmd, hopen, hen, hsame]) (by decide)
    refine ⟨t, hexec, hans, ?_⟩
    rw [hq.flows, mget_flowSet_new (mget_flowDelete _ _)]
  · have hanew : flowAnew (flowDefOf (pkBytes pk)) f = false := by simp [flowAnew, hp, hl, hs]
    refine answers_of_run rfl h ?_ (by decide)
    simp [flowSetCmd, hopen, hen, hsame, flowSet_kept hf hanew hrole]
  · refine answers_of_run rfl h ?_ (by decide)
    simp [flowSetCmd, hopen, hen]

end Sys2Proof.Machine
end

section
/-! The registers of BAR0 and the requests of the management port (02 R27, R28, R40, R43, R44). -/

namespace Sys2Proof.Machine

/-! ### The rings of commands and replies -/

theorem portAlive_of_mainUp {s : State} (h : mainUp s = true) (m : Master) : portAlive s m = true := by
  cases m with
  | host => simp [portAlive, h]
  | mgp =>
    have hoff : s.pwr.ps ≠ .off := by
      rintro hps
      simp [mainUp, hps] at h
    simp [portAlive, hoff]

theorem drainReplies_nil {s : State} (h : s.cmd.replyWait = []) : drainReplies s = s := by
  have hs : { s with cmd := { s.cmd with replyWait := [] } } = s := by rw [← h]
  simp only [drainReplies, h, List.foldl_nil]
  exact hs

theorem drainReplies_single {s : State} {r : Reply} {q : Bool} (h : s.cmd.replyWait = [(r, q)]) :
    drainReplies s = postReply r q { s with cmd := { s.cmd with replyWait := [] } } := by
  simp only [drainReplies, h, List.foldl_cons, List.foldl_nil]

/-- A doorbell that brings no command without a row. -/
theorem execCmdqDoorbell_known {v : Nat} {l : List UnknownCmd} {s : State} (hup : mainUp s = true)
    (hl : ∀ u ∈ l, opcodes.contains u.opcode = true) : exec (.cmdqDoorbell v l) s = .next (serve (writeCmdqTail v s)) := by
  have hnone : ∀ p q : UnknownCmd → Bool, l.filter (fun u => !opcodes.contains u.opcode && p u && q u) = [] := fun p q =>
    List.filter_eq_nil_iff.mpr fun u hu => by simp [List.contains_iff_mem.mp (hl u hu)]
  change execCmdqDoorbell _ _ s = _
  simp only [execCmdqDoorbell, portAlive_of_mainUp hup, if_true, hnone, List.foldl_nil]
  rfl

/-- The first slot that a doorbell posts lies among those that it posts. -/
theorem slotPosted_first {s : State} {old t : Nat} (hs : s.cmd.cqTail = t) (ht : old + 1 = t) (hlt : t < 2 ^ s.cmd.cqSize) :
    slotPosted s old old = true := by
  have hn : 1 < ringLen s.cmd.cqSize := by unfold ringLen; omega
  have h1 : (s.cmd.cqTail + ringLen s.cmd.cqSize - old) % ringLen s.cmd.cqSize = 1 := by
    have hone : s.cmd.cqTail + ringLen s.cmd.cqSize - old = 1 + ringLen s.cmd.cqSize := by omega
    rw [hone, Nat.add_mod_right, Nat.mod_eq_of_lt hn]
  have hold : old < ringLen s.cmd.cqSize := by unfold ringLen; omega
  simp [slotPosted, h1, hold]

/-- A doorbell that posts one command without a row. -/
theorem execCmdqDoorbell_unknown {v : Nat} {u : UnknownCmd} {s : State} (hup : mainUp s = true) (hok : tailOk s (v % 1024) = true)
    (hop : opcodes.contains u.opcode = false) (hhost : u.pk.origin = .host) (hslot : u.slot = s.cmd.cqTail)
    (hnext : u.slot + 1 = v % 1024) (hlt : v % 1024 < 2 ^ s.cmd.cqSize) :
    exec (.cmdqDoorbell v [u]) s = .next (serve
      { s with cmd := { s.cmd with cqTail := v % 1024, unknown := mput s.cmd.unknown u.slot u } }) := by
  have hpost : slotPosted { s with cmd := { s.cmd with cqTail := v % 1024 } } s.cmd.cqTail u.slot = true := by
    rw [hslot] at hnext ⊢
    exact slotPosted_first rfl hnext hlt
  have hwrite : writeCmdqTail v s = { s with cmd := { s.cmd with cqTail := v % 1024 } } := if_pos hok
  change execCmdqDoorbell _ _ s = _
  simp only [execCmdqDoorbell, portAlive_of_mainUp hup, if_true, hwrite, List.filter_cons, hop, hhost, hpost, decide_true,
    Bool.not_false, Bool.and_self, List.filter_nil, List.foldl_cons, List.foldl_nil]
  rfl

theorem execRplqHeadWrite_up {v : Nat} {s : State} (hup : mainUp s = true) :
    exec (.rplqHeadWrite v) s = .next (writeRplqHead v s) := by
  change execRplqHeadWrite _ s = _
  simp only [execRplqHeadWrite, portAlive_of_mainUp hup, if_true]
  rfl

theorem execCmdqCtrlEnSet_up {reply : Bool} {s : State} (hup : mainUp s = true) :
    exec (.cmdqCtrlEnSet reply) s = .next (writeRingCtrl reply true s) := by
  change execCmdqCtrlEnSet _ s = _
  simp only [execCmdqCtrlEnSet, portAlive_of_mainUp hup, if_true]
  rfl

theorem execCmdqCtrlEnClear_up {reply : Bool} {s : State} (hup : mainUp s = true) :
    exec (.cmdqCtrlEnClear reply) s = .next (writeRingCtrl reply false s) := by
  change execCmdqCtrlEnClear _ s = _
  simp only [execCmdqCtrlEnClear, portAlive_of_mainUp hup, if_true]
  rfl

/-- With room in the ring, the reply that waited is written to it. -/
theorem postReply_fits {r : Reply} {q : Bool} {s : State} (ho : r.origin = .host) (hf : s.pwr.fwFault = false)
    (he : s.cmd.rqEn = true) (hroom : rplqFull s = false) : postReply r q s = putHostReply r q s := by
  simp [postReply, ho, fwDown, hf, he, hroom]

/-- Settles O26. -/
theorem ringRegistersComplete : Obligations.RingRegistersComplete := by
  intro v l s hup
  refine ⟨fun hok hl => ?_, fun hok hl => ?_, ?_, fun hw => ?_, fun r q hw ho hf he hroom => ?_, fun he h2 h10 => ?_,
    fun he h2 h10 hw => ?_, fun he hsize => ?_, ?_, ?_⟩
  · rw [execCmdqDoorbell_known hup hl, writeCmdqTail, if_pos hok]
  · rw [execCmdqDoorbell_known hup hl, writeCmdqTail, if_neg (by simp [hok])]
  · rintro u hok rfl hop hhost hslot hnext hlt
    exact execCmdqDoorbell_unknown hup hok hop hhost hslot hnext hlt
  · rw [execRplqHeadWrite_up hup, writeRplqHead, drainReplies_nil (by exact hw)]
  · have hfull : rplqFull { s with cmd := { s.cmd with rqHead := v % 1024, replyWait := [] } } = false :=
      decide_eq_false hroom
    have hdrain : drainReplies { s with cmd := { s.cmd with rqHead := v % 1024 } } =
        putHostReply r q { s with cmd := { s.cmd with rqHead := v % 1024, replyWait := [] } } :=
      (drainReplies_single (by exact hw)).trans (postReply_fits ho (by exact hf) (by exact he) hfull)
    rw [execRplqHeadWrite_up hup, writeRplqHead, if_pos (by exact he), hdrain]
  · rw [execCmdqCtrlEnSet_up hup]
    simp [writeRingCtrl, he, cmdRingSizeOk, h2, h10, startCmdRing]
  · rw [execCmdqCtrlEnSet_up hup]
    simp [writeRingCtrl, he, cmdRingSizeOk, h2, h10, startReplyRing, drainReplies_nil, hw]
  · have hbad : cmdRingSizeOk s.cmd.cqSize = false := by
      simp only [cmdRingSizeOk, Bool.and_eq_false_iff, decide_eq_false_iff_not]
      omega
    rw [execCmdqCtrlEnSet_up hup]
    simp [writeRingCtrl, he, hbad]
  · exact execCmdqCtrlEnClear_up hup
  · exact execCmdqCtrlEnClear_up hup

/-! ### Registers -/

theorem mainDown_of_mainUp {s : State} (h : mainUp s = true) : mainDown s = false := by
  rw [mainUp, Bool.or_eq_true, decide_eq_true_eq, decide_eq_true_eq] at h
  rcases h with h | h <;> simp [mainDown, h]

/-- An address of the management port's map is served with the main side up. -/
theorem mgpStatus_of_mainUp {s : State} {addr : Nat} (h : mainUp s = true) (hmap : inMgpMap addr = true) : mgpStatus s addr = 0 := by
  simp [mgpStatus, hmap, mainDown_of_mainUp h]

theorem execRegisterWrite_served {m : Master} {addr : Nat} {v : Word32} {s : State} (h : mainUp s = true)
    (hmap : inMgpMap addr = true) : exec (.registerWrite m addr v) s = .next (writeReg m addr v.toNat s) :=
  if_pos ⟨portAlive_of_mainUp h m, fun _ => mgpStatus_of_mainUp h hmap⟩

/-- A write that has no effect if it is served has none otherwise. -/
theorem execRegisterWrite_ignored {m : Master} {addr : Nat} {v : Word32} {s : State} (h : writeReg m addr v.toNat s = s) :
    exec (.registerWrite m addr v) s = .next s := by
  change execRegisterWrite _ _ _ s = _
  simp only [execRegisterWrite, h, ite_self]
  rfl

/-- No block lies between the pop ports and the always-on block. -/
theorem writeReg_unmapped {m : Master} {addr v : Nat} {s : State} (hlo : 0x90000 ≤ addr) (hhi : addr < 0xF00000) :
    writeReg m addr v s = s := by
  have hblock : 9 ≤ addr / 65536 ∧ addr / 65536 < 0xF0 := by omega
  unfold writeReg
  dsimp only
  split
  · rfl
  · split
    case h_10 => rfl
    all_goals omega

/-- The host reaches nothing at or above the always-on block. -/
theorem writeReg_host_above {addr v : Nat} {s : State} (hlo : 0xF00000 ≤ addr) : writeReg .host addr v s = s := by
  have hblock : 0xF0 ≤ addr / 65536 := by omega
  unfold writeReg
  dsimp only
  split
  · rfl
  · split
    case h_9 => rfl
    case h_10 => rfl
    all_goals omega

/-- A port that is served reads a low word, and the high word is latched for it. -/
theorem execCntLowWordRead_narrow {m : Master} {n : Fin 512} {s : State} (h : mainUp s = true) :
    exec (.cntLowWordRead m ⟨n, false⟩) s =
      .next (emit (.readData m [counter s n % 2 ^ 32]) (setCntLatch m (some (counter s n / 2 ^ 32)) s)) := by
  have hread : readCnt m (8 * n.val) s = (counter s n % 2 ^ 32, setCntLatch m (some (counter s n / 2 ^ 32)) s) := by
    simp [readCnt, show ¬ 4096 ≤ 8 * n.val by omega]
  change execCntLowWordRead _ _ s = _
  simp only [execCntLowWordRead, portAlive_of_mainUp h, mainDown_of_mainUp h, hread]
  simp [done]

theorem execTbSnapCapture_up {s : State} (h : mainUp s = true) : exec .tbSnapCapture s = .next (tbSnap s) := by
  change execTbSnapCapture s = _
  simp only [execTbSnapCapture, h, if_true]
  rfl

/-- Settles O27. -/
theorem registerAccessesComplete : Obligations.RegisterAccessesComplete := by
  intro m v s hup
  refine ⟨?_, ?_, fun addr hlo hhi => execRegisterWrite_ignored (writeReg_unmapped hlo hhi),
    fun addr hlo => execRegisterWrite_ignored (writeReg_host_above hlo), ?_, fun n => ?_, fun n => ?_, fun n => ?_⟩
  · rw [execRegisterWrite_served hup rfl]
    simp [writeReg, writeGlb]
  · rw [execRegisterWrite_served hup rfl]
    simp [writeReg, writeGlb]
  · have hsec : s.tb.count / 2 ^ 64 = now s / secU := (Nat.div_div_eq_div_mul s.tb.count (2 ^ 32) (2 ^ 32)).symm
    rw [execTbSnapCapture_up hup, hsec]
    rfl
  · exact execCntLowWordRead_narrow hup
  · exact execCntLowWordRead_narrow hup
  · change execCntLowWordRead _ _ s = _
    simp only [execCntLowWordRead, portAlive_of_mainUp hup, mainDown_of_mainUp hup]
    rfl

/-! ### Requests of the management port (02 R43) -/

theorem exec_mgpRead32_legal {op addr c : Nat} {s : State} (hps : s.pwr.ps ≠ .off) (hop : ¬(2 ≤ op ∧ op ≤ 5))
    (hcrc : crc8 (mgpBytes op addr []) = c) : exec (.mgpRead32 ⟨op, addr⟩ c) s =
      if op ≠ 1 then mgpAnswer 2 [] s else if mgpStatus s addr ≠ 0 then mgpAnswer (mgpStatus s addr) [] s
      else mgpAnswer 0 [(readReg .mgp addr s).1] (readReg .mgp addr s).2 := by
  change execMgpRead32 _ _ s = _
  simp [execMgpRead32, hps, hop, mgpCrcOk, hcrc]

theorem exec_mgpCmdPush_legal {addr n c : Nat} {ws : List Word32} {s : State} (hps : s.pwr.ps ≠ .off)
    (hcrc : crc8 (mgpBytes 4 addr (be 1 n ++ (ws.map fun w => be 4 w.toNat).flatten)) = c) (h1 : 1 ≤ n) (h64 : n ≤ 64) :
    exec (.mgpCmdPush addr n ws c) s = if mailBusy s then mgpAnswer 4 [] s else mgpAnswer 0 []
      (if bit addr 23 then mailSubmit (mailWrite (addr % 4096) (ws.take n) s) else mailWrite (addr % 4096) (ws.take n) s) := by
  change execMgpCmdPush _ _ _ _ s = _
  simp [execMgpCmdPush, hps, mgpCrcOk, hcrc, mgpCountOk, h1, h64]

section
variable {addr n c : Nat} {s : State} (hps : s.pwr.ps ≠ .off) (hcrc : crc8 (mgpBytes 5 addr (be 1 n)) = c) (h1 : 1 ≤ n) (h64 : n ≤ 64)
include hps hcrc h1 h64

theorem exec_mgpCmdPop_reply {r : Reply} (hr : s.cmd.replyBox = some r) : exec (.mgpCmdPop addr n c) s =
    mgpAnswer 0 ((List.range n).map fun i => fld (replyBytes r) (addr % 4096 + 4 * i) 4) s := by
  change execMgpCmdPop _ _ _ s = _
  simp [execMgpCmdPop, hps, mgpCrcOk, hcrc, mgpCountOk, h1, h64, hr]

theorem exec_mgpCmdPop_none (hr : s.cmd.replyBox = none) : exec (.mgpCmdPop addr n c) s = mgpAnswer 4 [] s := by
  change execMgpCmdPop _ _ _ s = _
  simp [execMgpCmdPop, hps, mgpCrcOk, hcrc, mgpCountOk, h1, h64, hr]

end

/-- Settles O28. -/
theorem managementPortRequestsComplete : Obligations.ManagementPortRequestsComplete := by
  intro addr c v ws s hps
  refine ⟨fun op _ hop hcrc => ?_, fun hcrc => ?_, fun hcrc hst => ?_, fun hcrc hst => ?_, fun hcrc hst => ?_,
    fun hcrc hst hst4 => ?_, fun n hcrc h1 h64 => ⟨fun hfree hbit => ?_, ?_, fun hbusy => ?_⟩,
    fun n hcrc h1 h64 => ⟨fun r hr => ?_, fun hr => ?_⟩⟩
  · rw [exec_mgpRead32_legal hps (by omega) hcrc, if_pos (by omega)]
    rfl
  · change execMgpRead32 _ _ s = _
    simp [execMgpRead32, hps, mgpCrcOk, hcrc, mgpAnswer, done]
  · rw [exec_mgpRead32_legal hps (by omega) hcrc, if_neg (by omega), if_pos hst]
    rfl
  · rw [exec_mgpRead32_legal hps (by omega) hcrc, if_neg (by omega), if_neg (by omega)]
    rfl
  · change execMgpWrite32 _ _ _ s = _
    simp [execMgpWrite32, hps, mgpCrcOk, hcrc, hst, mgpAnswer, done]
  · change execMgpReadBurst _ _ _ s = _
    simp [execMgpReadBurst, hps, mgpCrcOk, hcrc, mgpCountOk, List.range_succ, hst, hst4, mgpReadWords, mgpAnswer, done]
  · rw [exec_mgpCmdPush_legal hps hcrc h1 h64, hfree, hbit]
    rfl
  · rintro u rfl hfree hbit
    rw [exec_mgpCmdPush_legal hps hcrc h1 h64, hfree, hbit]
    rfl
  · rw [exec_mgpCmdPush_legal hps hcrc h1 h64, hbusy]
    rfl
  · exact exec_mgpCmdPop_reply hps hcrc h1 h64 hr
  · exact exec_mgpCmdPop_none hps hcrc h1 h64 hr

end Sys2Proof.Machine
end

section
/-! The control, the reads and the events of the output queues (11 R292-R305). -/

namespace Sys2Proof.Machine

theorem bit_toNat (v : Word32) (n : Nat) : bit v.toNat n = v.getLsbD n := (Nat.testBit_eq_decide_div_mod_eq).symm

/-! ### What the operations leave of a queue -/

@[simp] theorem oq_oqDrop_same (n c k : Nat) (s : State) :
    oq (oqDrop n c k s) n = { oq s n with drops := satAdd 0xFFFFFFFF (oq s n).drops k } := mgetD_mput_same _ _ _ _

theorem oq_oqDrop_other {n m : Nat} (c k : Nat) (s : State) (h : m ≠ n) : oq (oqDrop n c k s) m = oq s m :=
  mgetD_mput_other _ _ _ h

/-- The packets of which the consumer has taken a word. -/
def oqBegunPkts (q : Oq) : List QPkt := if 0 < q.begun then q.pkts.take 1 else []

/-- The queue after a discard, the count of what was discarded left out. -/
def oqKept (t : Instant) (q : Oq) : Oq := oqDrained (staleKeep t { q with pkts := oqBegunPkts q })

theorem oqKept_eq (t : Instant) (q : Oq) : ∃ f c, oqKept t q = { q with pkts := oqBegunPkts q, staleFrom := f, oldCap := c } := by
  unfold oqKept oqDrained
  split
  · exact ⟨_, _, rfl⟩
  · exact ⟨_, q.oldCap, rfl⟩

theorem oqDiscard_eq (n : Nat) (s : State) : oqDiscard n s =
    if (oq s n).pkts.length - (oqBegunPkts (oq s n)).length = 0 then setOq n (oqKept (now s) (oq s n)) s
    else oqDrop n 164 ((oq s n).pkts.length - (oqBegunPkts (oq s n)).length) (setOq n (oqKept (now s) (oq s n)) s) := rfl

/-- A discard keeps the packet that is begun alone, and of the rest of the queue what is no count of it. -/
theorem oq_oqDiscard (n : Nat) (s : State) : ∃ d f c, oq (oqDiscard n s) n =
    { oq s n with pkts := oqBegunPkts (oq s n), drops := d, staleFrom := f, oldCap := c } := by
  obtain ⟨f, c, hkept⟩ := oqKept_eq (now s) (oq s n)
  rw [oqDiscard_eq]
  split
  · exact ⟨(oq s n).drops, f, c, by rw [oq_setOq_same, hkept]⟩
  · exact ⟨_, f, c, by rw [oq_oqDrop_same, oq_setOq_same, hkept]⟩

theorem oq_oqDiscard_other {n m : Nat} (s : State) (h : m ≠ n) : oq (oqDiscard n s) m = oq s m := by
  rw [oqDiscard_eq]
  split
  · exact oq_setOq_other _ _ h
  · rw [oq_oqDrop_other _ _ _ h, oq_setOq_other _ _ h]

/-- No EN clear waits, or a packet is begun: the boundary does nothing. -/
theorem oqBoundary_none {n : Nat} {s : State} (h : (oq s n).disabling = true → (oq s n).begun ≠ 0) : oqBoundary n s = s :=
  if_neg fun hd => h hd.1 hd.2

theorem oqBoundary_due {n : Nat} {s : State} (hd : (oq s n).disabling = true) (hb : (oq s n).begun = 0) :
    oqBoundary n s = setOq n { oq (oqDiscard n s) n with en := false, disabling := false } (oqDiscard n s) := if_pos ⟨hd, hb⟩

theorem oq_oqBoundary_other {n m : Nat} (s : State) (h : m ≠ n) : oq (oqBoundary n s) m = oq s m := by
  unfold oqBoundary
  split
  · exact (oq_setOq_other _ _ h).trans (oq_oqDiscard_other s h)
  · rfl

theorem oq_oqFlush (n : Nat) (s : State) : ∃ d f c, oq (oqFlush n s) n =
    { oq s n with pkts := oqBegunPkts (oq s n), drops := d, staleFrom := f, oldCap := c, flushing := true } := by
  obtain ⟨d, f, c, h⟩ := oq_oqDiscard n s
  exact ⟨d, f, c, by rw [oqFlush, oq_setOq_same, h]⟩

theorem oq_oqFlush_other {n m : Nat} (s : State) (h : m ≠ n) : oq (oqFlush n s) m = oq s m :=
  (oq_setOq_other _ _ h).trans (oq_oqDiscard_other s h)

theorem oq_finalReplies (ws : List Waiter) (st n : Nat) (s : State) : oq (finalReplies ws st s) n = oq s n :=
  congrArg (fun m => mgetD m n ({} : Oq)) ((finalReplies_same ws st s).keeps .oqs rfl).symm

theorem oqFlushEnd_done {n : Nat} {s : State} (hf : (oq s n).flushing = true) (hb : (oq s n).begun = 0) :
    oqFlushEnd n s = finalReplies (oq s n).flushWait 0 (setOq n { oq s n with flushing := false, flushWait := [] } s) :=
  if_pos ⟨hf, hb⟩

theorem oqFlushEnd_begun {n : Nat} {s : State} (hb : (oq s n).begun ≠ 0) : oqFlushEnd n s = s := if_neg fun h => hb h.2

theorem oq_oqFlushEnd_other {n m : Nat} (s : State) (h : m ≠ n) : oq (oqFlushEnd n s) m = oq s m := by
  unfold oqFlushEnd
  dsimp only
  split
  · exact (oq_finalReplies ..).trans (oq_setOq_other _ _ h)
  · rfl

/-- OQ_CTRL of queue n takes NOTICE, and DMA while the queue is off. -/
def oqCtrlTaken (q : Oq) (v : Word32) : Oq :=
  { q with notice := v.getLsbD 2, dma := if q.en then q.dma else v.getLsbD 3 }

theorem oqCtrlTaken_off {q : Oq} {v : Word32} (h : q.en = false) :
    oqCtrlTaken q v = { q with notice := v.getLsbD 2, dma := v.getLsbD 3 } := by
  rw [oqCtrlTaken, h]
  rfl

theorem writeOqCtrl_flushes {n : Nat} {v : Word32} {s : State} (h0 : v.getLsbD 0 = (oq s n).en) (h1 : v.getLsbD 1 = true) :
    writeOqCtrl n v.toNat s = oqFlushEnd n (oqFlush n (setOq n (oqCtrlTaken (oq s n) v) s)) := by
  simp only [writeOqCtrl, bit_toNat, h0, h1, oqCtrlTaken]
  cases hen : (oq s n).en <;> simp

theorem writeOqCtrl_clears {n : Nat} {v : Word32} {s : State} (h0 : v.getLsbD 0 = false) (h1 : v.getLsbD 1 = false)
    (hen : (oq s n).en = true) : writeOqCtrl n v.toNat s =
      oqBoundary n (setOq n { oqCtrlTaken (oq s n) v with disabling := true } (setOq n (oqCtrlTaken (oq s n) v) s)) := by
  simp only [writeOqCtrl, bit_toNat, h0, h1, hen, oqCtrlTaken]
  simp

/-- The queue as a start leaves it. -/
def oqStarted (q : Oq) : Oq :=
  { q with en := true, disabling := false, ringTail := 0, ringHead := 0, pseq := 0, packets := 0, notices := 0, stalls := 0, drops := 0 }

theorem writeOqCtrl_starts {n : Nat} {v : Word32} {s : State} (h0 : v.getLsbD 0 = true) (h1 : v.getLsbD 1 = false)
    (hen : (oq s n).en = false) (hok : ¬((oqCtrlTaken (oq s n) v).dma ∧ ((oq s n).ringSize < 4 ∨ 16 < (oq s n).ringSize))) :
    writeOqCtrl n v.toNat s = setOq n (oqStarted (oqCtrlTaken (oq s n) v)) (setOq n (oqCtrlTaken (oq s n) v) s) := by
  simp only [oqCtrlTaken, hen] at hok
  simp only [writeOqCtrl, bit_toNat, h0, h1, hen, oqCtrlTaken, oqStarted]
  simp only [Bool.not_false, and_self, if_true, Bool.false_eq_true, if_false]
  exact if_neg hok

theorem writeOqCtrl_odd {n : Nat} {v : Word32} {s : State} (h0 : v.getLsbD 0 = true) (h1 : v.getLsbD 1 = false)
    (hen : (oq s n).en = false) (hbad : (oqCtrlTaken (oq s n) v).dma ∧ ((oq s n).ringSize < 4 ∨ 16 < (oq s n).ringSize)) :
    writeOqCtrl n v.toNat s = setOq n (oqCtrlTaken (oq s n) v) s := by
  simp only [oqCtrlTaken, hen] at hbad
  simp only [writeOqCtrl, bit_toNat, h0, h1, hen, oqCtrlTaken]
  simp only [Bool.not_false, and_self, if_true, Bool.false_eq_true, if_false]
  exact if_pos hbad

/-- Settles O30. -/
theorem outputQueueControlCompletes : Obligations.OutputQueueControlCompletes := by
  intro q v s hup
  refine ⟨fun h0 h1 hen hsize => ?_, fun h0 h1 hen hdma hsize => ?_, fun h0 h1 hen => ?_, fun h0 h1 => ?_⟩
  · have hbad : ¬((v.getLsbD 3 = true) ∧ ((oq s q).ringSize < 4 ∨ 16 < (oq s q).ringSize)) := by
      rintro ⟨hdma, hlt⟩
      obtain ⟨hlo, hhi⟩ := hsize hdma
      omega
    refine ⟨writeOqCtrl q v.toNat s, congrArg _ <| if_pos ⟨hup, h0⟩, ?_⟩
    rw [writeOqCtrl_starts h0 h1 hen (by rw [oqCtrlTaken_off hen]; exact hbad)]
    refine ⟨?_, ?_, fun n hn => ?_⟩
    · simp [setOq]
    · rw [oq_setOq_same, oqStarted, oqCtrlTaken_off hen]
    · simp [oq_setOq_other _ _ hn]
  · have hbad : (oqCtrlTaken (oq s q) v).dma ∧ ((oq s q).ringSize < 4 ∨ 16 < (oq s q).ringSize) :=
      ⟨by rw [oqCtrlTaken_off hen]; exact hdma, hsize⟩
    refine ⟨writeOqCtrl q v.toNat s, congrArg _ <| if_pos ⟨hup, h0⟩, ?_⟩
    rw [writeOqCtrl_odd h0 h1 hen hbad]
    exact ⟨by rw [oq_setOq_same, oqCtrlTaken_off hen, hdma], fun n hn => oq_setOq_other _ _ hn⟩
  · refine ⟨writeOqCtrl q v.toNat s, congrArg _ <| if_pos ⟨hup, by rw [h0]; rfl⟩, fun hb => ?_, fun hb => ?_, fun n hn => ?_⟩
    · rw [writeOqCtrl_clears h0 h1 hen, oqBoundary_due (by simp) (by simpa [oqCtrlTaken] using hb)]
      obtain ⟨d, f, c, hq⟩ := oq_oqDiscard q (setOq q { oqCtrlTaken (oq s q) v with disabling := true }
        (setOq q (oqCtrlTaken (oq s q) v) s))
      rw [oq_setOq_same] at hq
      have hnone : ¬ 0 < (oq s q).begun := by omega
      rw [oq_setOq_same, hq]
      exact ⟨rfl, if_neg hnone⟩
    · rw [writeOqCtrl_clears h0 h1 hen, oqBoundary_none (by simpa [oqCtrlTaken] using Nat.ne_of_gt hb)]
      simp [oqCtrlTaken, hen]
    · rw [writeOqCtrl_clears h0 h1 hen, oq_oqBoundary_other _ hn, oq_setOq_other _ _ hn, oq_setOq_other _ _ hn]
  · refine ⟨writeOqCtrl q v.toNat s, congrArg _ <| if_pos ⟨hup, h1⟩, ?_⟩
    rw [writeOqCtrl_flushes h0 h1]
    obtain ⟨d, f, c, hq⟩ := oq_oqFlush q (setOq q (oqCtrlTaken (oq s q) v) s)
    rw [oq_setOq_same] at hq
    have hothers : ∀ n, n ≠ q.val → oq (oqFlushEnd q (oqFlush q (setOq q (oqCtrlTaken (oq s q) v) s))) n = oq s n := fun n hn => by
      rw [oq_oqFlushEnd_other _ hn, oq_oqFlush_other _ hn, oq_setOq_other _ _ hn]
    rcases Nat.eq_zero_or_pos (oq s q).begun with hb | hb
    · have hend := oqFlushEnd_done (n := q) (s := oqFlush q (setOq q (oqCtrlTaken (oq s q) v) s)) (by rw [hq]) (by rw [hq]; exact hb)
      refine ⟨?_, ?_, ?_, hothers⟩ <;> rw [hend, oq_finalReplies, oq_setOq_same, hq] <;> simp [oqBegunPkts, oqCtrlTaken, hb]
    · have hend := oqFlushEnd_begun (n := q) (s := oqFlush q (setOq q (oqCtrlTaken (oq s q) v) s))
        (by rw [hq]; exact Nat.ne_of_gt hb)
      refine ⟨?_, ?_, ?_, hothers⟩ <;> rw [hend, hq] <;> simp [oqBegunPkts, oqCtrlTaken, hb]

/-! ### Reads and events -/

theorem oq_congr {s t : State} (h : t.oqs = s.oqs) (n : Nat) : oq t n = oq s n := congrArg (fun m => mgetD m n ({} : Oq)) h

@[simp] theorem oq_oqVector_same (n : Nat) (s : State) :
    oq (oqVector n s) n = { oq s n with notices := satAdd 0xFFFFFFFF (oq s n).notices 1 } :=
  (oq_congr (raiseVector_oqs _ _) n).trans (oq_setOq_same _ _ _)

theorem oq_oqVector_other {n m : Nat} (s : State) (h : m ≠ n) : oq (oqVector n s) m = oq s m :=
  (oq_congr (raiseVector_oqs _ _) m).trans (oq_setOq_other _ _ h)

theorem oqVector_emitted (n : Nat) (s : State) : (oqVector n s).emitted = .vector (2 + n) :: s.emitted :=
  raiseVector_emitted _ _

@[simp] theorem oq_advanceTo (t : Instant) (s : State) (n : Nat) : oq (advanceTo t s) n = oq s n := oq_congr (advanceTo_oqs _ _) n

/-- A queue that holds a packet keeps an old middle and its stale-tail timer. -/
theorem oqDrained_staleRestart {t : Instant} {q : Oq} (h : q.pkts ≠ []) :
    oqDrained (staleRestart t q) = { q with staleFrom := some t, staleFired := false } := by
  simp [oqDrained, staleRestart, unread, h]

theorem oqDrained_staleKeep {t : Instant} {q : Oq} (h : q.pkts ≠ []) :
    oqDrained (staleKeep t q) = { q with staleFrom := some (q.staleFrom.getD t) } := by
  simp [oqDrained, staleKeep, unread, h]

/-- A ring index that can move shows an entry that is not read. -/
theorem oqHeadWrite_moves {n v : Nat} {s : State}
    (hok : ringMoveOk (oq s n).ringSize (oq s n).ringHead v (oq s n).ringTail = true) (hv : v ≠ (oq s n).ringHead) :
    oqHeadWrite n v s = setOq n (staleRestart (now s) { oq s n with ringHead := v }) s := by
  simp [oqHeadWrite, hok, hv]

theorem slice_length_of_lt {bs : Bytes} {off n : Nat} (h : off + n < bs.length) : (slice bs off n).length = n := by
  simp only [slice, List.length_take, List.length_drop]
  omega

theorem execOqStaleTimer_due {q : Fin 64} {t0 : Instant} {s : State} (hst : (oq s q).staleFrom = some t0) (hq : (oq s q).qtmo ≠ 0)
    (hf : (oq s q).staleFired = false) (hup : mainUp s = true) : exec (.oqStaleTimer q) s = .next (count 165 (oqVector q
      (setOq q { oq s q with stale := true, staleFired := true } (advanceTo (t0 + usU (oq s q).qtmo) s)))) := by
  change execOqStaleTimer _ s = _
  simp [execOqStaleTimer, hst, hq, hf, hup, done]

/-- The queue after its next word has been popped, the stale-tail timer left out. -/
def oqPopped (q : Oq) (p : QPkt) (rest : List QPkt) : Oq :=
  if q.begun + 1 = pktWords p.data.length then { q with pkts := rest, begun := 0 } else { q with begun := q.begun + 1 }

theorem execQpopRead_takes {q : Fin 64} {p : QPkt} {rest : List QPkt} {s : State} (hup : mainUp s = true)
    (hp : (oq s q).pkts = p :: rest) (hen : (oq s q).en = true) (hdma : (oq s q).dma = false) :
    exec (.qpopRead q true) s = .next (emit (.popped q (queueWord p (oq s q).begun))
      (oqBoundary q (setOq q (oqDrained (staleRestart (now s) (oqPopped (oq s q) p rest))) s))) := by
  change execQpopRead q true s = _
  rw [execQpopRead, if_neg (by simp [hup]), if_neg (by simp)]
  dsimp only
  split
  case h_1 p' rest' hp' =>
    obtain ⟨rfl, rfl⟩ := List.cons.inj (hp'.symm.trans hp)
    exact if_pos ⟨hen, by simp [hdma]⟩
  case h_2 hnil => exact absurd (hnil.symm.trans hp) (List.cons_ne_nil p rest).symm

/-- The queue after 4,080 bytes more of a packet that goes on have moved to its ring. -/
def oqMoved (t : Instant) (q : Oq) : Oq :=
  { q with ringTail := (q.ringTail + 1) % 2 ^ q.ringSize, begun := q.begun + 4080, staleFrom := some (q.staleFrom.getD t) }

theorem execDmaEntryWrite_goesOn {q : Fin 64} {p : QPkt} {rest : List QPkt} {s : State} (hnext : dmaNext s = some q.val)
    (hp : (oq s q).pkts = p :: rest) (hlen : (oq s q).begun + 4080 < p.data.length) :
    exec .dmaEntryWrite s = .next (emit (.dma q (oq s q).ringTail
        (entryHeader q (oq s q).pseq (oq s q).begun 4080 p.data.length p.mark) (slice p.data (oq s q).begun 4080))
      { setOq q (oqMoved (now s) (oq s q)) s with dmaPtr := (q.val + 1) % 64 }) := by
  have hmore : ¬((oq s q).begun + 4080 = p.data.length) := by omega
  have hstay : oqBoundary q (setOq q (oqMoved (now s) (oq s q)) s) = setOq q (oqMoved (now s) (oq s q)) s :=
    oqBoundary_none fun _ => by simp [oqMoved]
  have hkeep : oqDrained (staleKeep (now s) { oq s q with
      ringTail := ((oq s q).ringTail + 1) % 2 ^ (oq s q).ringSize, begun := (oq s q).begun + 4080 }) = oqMoved (now s) (oq s q) :=
    oqDrained_staleKeep (by simp [hp])
  change execDmaEntryWrite s = _
  rw [execDmaEntryWrite, hnext]
  dsimp only
  split
  case h_1 hnil => exact absurd (hnil.symm.trans hp) (List.cons_ne_nil p rest).symm
  case h_2 p' rest' hp' =>
    obtain ⟨rfl, rfl⟩ := List.cons.inj (hp'.symm.trans hp)
    simp only [slice_length_of_lt hlen, hmore, false_and, if_false, ringLen, hkeep, hstay]
    rfl

/-- Settles O31. -/
theorem outputQueueReadsAndEventsComplete : Obligations.OutputQueueReadsAndEventsComplete := by
  refine ⟨fun q p rest s hup => ⟨fun hp hen hdma hlast => ?_, fun hp hen hdma hdis hlast hrest => ?_, fun hp => ?_, ?_,
    fun hnext hp hlen hdma => ?_, fun v hok hv => ?_, fun v hbad => ?_⟩, fun q s => ⟨fun w hf hb hw => ?_,
    fun t0 hst hq hf hup => ?_, fun h hheld hres hfit hcaps => ?_⟩⟩
  · have hpop : oqPopped (oq s q) p rest = { oq s q with begun := (oq s q).begun + 1 } := if_neg (by omega)
    rw [execQpopRead_takes hup hp hen hdma, hpop, oqDrained_staleRestart (by simp [hp]), oqBoundary_none fun _ => by simp]
  · have hpop : oqPopped (oq s q) p rest = { oq s q with pkts := rest, begun := 0 } := if_pos hlast
    rw [execQpopRead_takes hup hp hen hdma, hpop, oqDrained_staleRestart hrest, oqBoundary_none (by simp [hdis])]
  · change execQpopRead _ _ s = _
    simp [execQpopRead, hup, hp, done]
  · change execQpopRead _ _ s = _
    simp [execQpopRead, hup, done]
  · exact execDmaEntryWrite_goesOn hnext hp hlen
  · exact congrArg _ ((if_pos hup).trans (oqHeadWrite_moves hok hv))
  · exact congrArg _ ((if_pos hup).trans (if_neg (by simp [hbad])))
  · exact congrArg _ ((oqFlushEnd_done hf hb).trans (by rw [hw]; rfl))
  · have hoqs : ∀ n, oq (count 165 (oqVector q (setOq q { oq s q with stale := true, staleFired := true }
        (advanceTo (t0 + usU (oq s q).qtmo) s)))) n = oq (oqVector q (setOq q { oq s q with stale := true, staleFired := true }
        (advanceTo (t0 + usU (oq s q).qtmo) s))) n := fun n => rfl
    refine ⟨_, execOqStaleTimer_due hst hq hf hup, ?_, ?_, ?_, ?_, fun n hn => ?_⟩
    · rw [hoqs, oq_oqVector_same, oq_setOq_same]
    · rw [hoqs, oq_oqVector_same, oq_setOq_same]
    · simpa [now] using le_now_advanceTo s (t0 + usU (oq s q).qtmo)
    · rw [count_emitted, oqVector_emitted, setOq_emitted, advanceTo_emitted]
    · rw [hoqs, oq_oqVector_other _ hn, oq_setOq_other _ _ hn, oq_advanceTo]
  · have hne : resumeHeld (oqCapacity s q) (oqLevel (oq s q)) (oq s q).held = [{ h with resumed := true }] := by
      simp [hheld, resumeHeld, hfit]
    have hother : [{ h with resumed := true }] ≠ (oq s q).held := fun heq => by
      have hh : { h with resumed := true } = h := (List.cons.inj (heq.trans hheld)).1
      have hr : true = h.resumed := congrArg OqHeld.resumed hh
      simp [hres] at hr
    change execOqStallResume q s = _
    rw [execOqStallResume]
    dsimp only
    rw [hne, if_pos hother, setOq_caps, hcaps]
    rfl

end Sys2Proof.Machine
end

section
/-! The injection queues (02 R40, 11 R306-R308) and the rings of the network ports (12). -/

namespace Sys2Proof.Machine

/-- A tail that moves by one posts one entry of a ring of n. -/
theorem posted_one {t n : Nat} (h : t + 1 < n) : (t + 1 + n - t % n) % n = 1 := by
  have hdiff : t + 1 + n - t = 1 + n := by omega
  rw [Nat.mod_eq_of_lt (Nat.lt_of_succ_lt h), hdiff, Nat.add_mod_right, Nat.mod_eq_of_lt (by omega)]

/-! ### Injection queues -/

/-- The doorbell that posts the next entry alone. -/
theorem iqDoorbell_next {m d : Nat} {e : IqEntry} {s : State} (hd : d = ((iq s m).ringTail + 1) % 2 ^ (iq s m).ringSize)
    (hhead : (iq s m).ringHead = 0) (hlt : (iq s m).ringTail + 1 < 2 ^ (iq s m).ringSize) :
    iqDoorbell m d [e] s = setIq m { iq s m with ringTail := d, entries := (iq s m).entries ++ [e] } s := by
  have htail : d = (iq s m).ringTail + 1 := hd.trans (Nat.mod_eq_of_lt hlt)
  have hused : ((iq s m).ringTail + 2 ^ (iq s m).ringSize - 0) % 2 ^ (iq s m).ringSize = (iq s m).ringTail := by
    rw [Nat.sub_zero, Nat.add_mod_right, Nat.mod_eq_of_lt (Nat.lt_of_succ_lt hlt)]
  have huse : (d + 2 ^ (iq s m).ringSize - 0) % 2 ^ (iq s m).ringSize = d := by
    rw [Nat.sub_zero, Nat.add_mod_right, htail, Nat.mod_eq_of_lt hlt]
  have hone : (d + 2 ^ (iq s m).ringSize - (iq s m).ringTail % 2 ^ (iq s m).ringSize) % 2 ^ (iq s m).ringSize = 1 :=
    htail ▸ posted_one hlt
  simp only [iqDoorbell, ringLen, hhead, hused, huse, hone]
  rw [if_pos ⟨by omega, by omega⟩]
  rfl

/-- An entry that holds a whole packet, taken with none in progress. -/
theorem iqTake_whole {m : Nat} {e : IqEntry} {s : State} (hpart : (iq s m).part = none) (hdrop : (iq s m).dropping = false)
    (hflags : e.flags = 3) (hq : e.queue = m) (hoff : e.offset = 0) (hplen : e.plen = e.len) (h1 : 1 ≤ e.len)
    (h4080 : e.len ≤ 4080) : iqTake m e s = setIq m { iq s m with
      pkts := (iq s m).pkts ++ [(e.data ++ zeros (e.len - e.data.length)).take e.len]
      packets := satAdd 0xFFFFFFFF (iq s m).packets 1
      peak := max (iq s m).peak (lsum ((iq s m).pkts ++ [(e.data ++ zeros (e.len - e.data.length)).take e.len])
        fun p => pktWords p.length) } s := by
  have hfirst : bit e.flags 0 = true := by rw [hflags]; rfl
  have hlast : bit e.flags 1 = true := by rw [hflags]; rfl
  simp only [iqTake, hfirst, hlast, hpart, hdrop, hq, hoff, hplen, h1, h4080]
  simp [iqLevel]

/-- IQ_PULL of a ring whose one entry fits, without a notice. -/
theorem execIqPull_one {m : Fin 16} {e : IqEntry} {s : State} (hup : mainUp s = true) (hen : (iq s m).en = true)
    (hdma : (iq s m).dma = true) (he : (iq s m).entries = [e]) (hpart : (iq s m).part = none)
    (hfit : iqLevel (iq s m) + pktWords e.len ≤ iqCapacity s m)
    (hquiet : (iq (iqTake m e (setIq m { iq s m with
      entries := [], ringHead := ((iq s m).ringHead + 1) % 2 ^ (iq s m).ringSize } s)) m).notice = false) :
    exec (.iqPull m) s = .next (iqTake m e (setIq m { iq s m with
      entries := [], ringHead := ((iq s m).ringHead + 1) % 2 ^ (iq s m).ringSize } s)) := by
  have hloop : iqPullLoop 1 m s = iqTake m e (setIq m { iq s m with
      entries := [], ringHead := ((iq s m).ringHead + 1) % 2 ^ (iq s m).ringSize } s) := by
    simp only [iqPullLoop]
    split
    case h_1 hnil => exact absurd (hnil.symm.trans he) (List.cons_ne_nil e []).symm
    case h_2 e' rest' he' =>
      obtain ⟨rfl, rfl⟩ := List.cons.inj (he'.symm.trans he)
      have hused : iqUsed (iq s m) = iqLevel (iq s m) := by
        rw [iqUsed, hpart]
        rfl
      exact if_pos (by rw [hused]; exact hfit)
  change execIqPull m s = _
  rw [execIqPull]
  dsimp only
  rw [if_pos ⟨hup, hen, hdma, by simp [he]⟩, he]
  simp only [List.length_singleton, hloop, hquiet, Bool.false_eq_true, false_and, and_false, if_false]
  rfl

/-- Settles O32. -/
theorem injectionQueueRowsComplete : Obligations.InjectionQueueRowsComplete := by
  intro m v s hup
  refine ⟨fun h0 h1 hen => ?_, fun h0 h1 hen => ?_, fun e d hd hhead hlt => ?_, fun es d hd => ?_,
    fun e hen hdma hnotice he hpart hdrop hflags hq hoff hplen hlen1 hlen hfit => ?_⟩
  · refine congrArg _ ((if_pos ⟨hup, h0⟩).trans ?_)
    simp only [writeIqCtrl, bit_toNat, h0, h1, hen]
    simp
  · refine congrArg _ ((if_pos ⟨hup, h1⟩).trans ?_)
    simp only [writeIqCtrl, bit_toNat, h0, h1, hen]
    simp
  · exact congrArg _ ((if_pos hup).trans (iqDoorbell_next hd hhead hlt))
  · exact congrArg _ ((if_pos hup).trans (if_neg fun h => Nat.not_lt_of_ge hd h.1))
  · have htake := iqTake_whole (m := m) (e := e) (s := setIq m { iq s m with
      entries := [], ringHead := ((iq s m).ringHead + 1) % 2 ^ (iq s m).ringSize } s)
      (by rw [iq_setIq_same]; exact hpart) (by rw [iq_setIq_same]; exact hdrop) hflags hq hoff hplen hlen1 hlen
    rw [iq_setIq_same] at htake
    refine ⟨_, execIqPull_one hup hen hdma he hpart hfit (by rw [htake, iq_setIq_same]; exact hnotice), ?_⟩
    rw [htake, iq_setIq_same]
    exact ⟨rfl, rfl, rfl, rfl⟩

end Sys2Proof.Machine
end

section
/-! The rings, the frames and the events of the network ports (02 R40, 12). -/

namespace Sys2Proof.Machine

/-! ### What the operations leave of the ports, the counters and the emissions -/

theorem port_congr {s t : State} (h : t.ports = s.ports) (p : Nat) : port t p = port s p :=
  congrArg (fun m => mgetD m p ({} : Port)) h

@[simp] theorem port_advanceTo (t : Instant) (s : State) (p : Nat) : port (advanceTo t s) p = port s p :=
  port_congr (advanceTo_ports _ _) p

@[simp] theorem port_emit (e : Emission) (s : State) (p : Nat) : port (emit e s) p = port s p := rfl

@[simp] theorem emit_emitted (e : Emission) (s : State) : (emit e s).emitted = e :: s.emitted := rfl

@[simp] theorem now_emit (e : Emission) (s : State) : now (emit e s) = now s := rfl

@[simp] theorem now_countPort (p i : Nat) (s : State) : now (countPort p i s) = now s := rfl

theorem counter_congr {s t : State} (h : t.cnt = s.cnt) (n : Nat) : counter t n = counter s n :=
  congrArg (fun m => mgetD m n 0) h

@[simp] theorem counter_advanceTo (t : Instant) (s : State) (n : Nat) : counter (advanceTo t s) n = counter s n :=
  counter_congr (advanceTo_cnt _ _) n

@[simp] theorem port_countPort_same (p i : Nat) (s : State) : port (countPort p i s) p =
    { port s p with counts := mput (port s p).counts i (satAdd 0xFFFFFFFF (mgetD (port s p).counts i 0) 1) } :=
  mgetD_mput_same _ _ _ _

theorem port_countPort_other {p n : Nat} (i : Nat) (s : State) (h : n ≠ p) : port (countPort p i s) n = port s n :=
  mgetD_mput_other _ _ _ h

theorem counter_countPort_same (p i : Nat) (s : State) :
    counter (countPort p i s) (176 + i) = satAdd (2 ^ 64 - 1) (counter s (176 + i)) 1 := counter_count_same _ _

theorem counter_countPort_other {p i n : Nat} (s : State) (h : n ≠ 176 + i) : counter (countPort p i s) n = counter s n :=
  counter_count_other _ h

@[simp] theorem port_netIrq_same (p b : Nat) (s : State) :
    port (netIrq p b s) p = { port s p with irq := (port s p).irq ||| BitVec.ofNat 6 (2 ^ b) } :=
  (port_congr (raiseVector_ports _ _) p).trans (port_setPort_same _ _ _)

theorem port_netIrq_other {p n : Nat} (b : Nat) (s : State) (h : n ≠ p) : port (netIrq p b s) n = port s n :=
  (port_congr (raiseVector_ports _ _) n).trans (port_setPort_other _ _ h)

@[simp] theorem netIrq_emitted (p b : Nat) (s : State) : (netIrq p b s).emitted = .vector (82 + p) :: s.emitted :=
  raiseVector_emitted _ _

@[simp] theorem port_setRing_same (p r : Nat) (g : NetRing) (s : State) :
    port (setRing p r g s) p = { port s p with rings := mput (port s p).rings r g } := port_setPort_same _ _ _

theorem port_setRing_other {p n : Nat} (r : Nat) (g : NetRing) (s : State) (h : n ≠ p) :
    port (setRing p r g s) n = port s n := port_setPort_other _ _ h

/-! ### The rings of a port -/

theorem writeNetTail_one {p r : Nat} {d : TxDesc} {s : State} (hr : 2 ≤ r)
    (hlt : (netRing s p r).tail + 1 < 2 ^ (netRing s p r).size) : writeNetTail p r ((netRing s p r).tail + 1) [d] s =
      setRing p r { netRing s p r with tail := (netRing s p r).tail + 1, descs := (netRing s p r).descs ++ [d] } s := by
  have hrx : ¬ r < 2 := by omega
  simp only [writeNetTail, ringLen, posted_one hlt, hlt, if_true, hrx, if_false]
  rfl

theorem popTsq_nil {p : Nat} {s : State} (h : (port s p).tsq = []) :
    popTsq p s = (0, setPort p { port s p with popTag := 0, popValid := false } s) := by
  unfold popTsq
  dsimp only
  split
  case h_1 => rfl
  case h_2 e es he => exact absurd (he.symm.trans h) (List.cons_ne_nil e es)

theorem popTsq_cons {p : Nat} {e : TsEntry} {es : List TsEntry} {s : State} (h : (port s p).tsq = e :: es) :
    popTsq p s = (e.tag + 2 ^ 31, setPort p { port s p with
      tsq := es, popTag := e.tag, popValid := true, popSec := e.stamp / secU % 2 ^ 32, popFrac := e.stamp % secU } s) := by
  unfold popTsq
  dsimp only
  split
  case h_1 hnil => exact absurd (hnil.symm.trans h) (List.cons_ne_nil e es).symm
  case h_2 e' es' he =>
    obtain ⟨rfl, rfl⟩ := List.cons.inj (he.symm.trans h)
    rfl

theorem execNetTsqPopRead_up {p : Fin 6} {s : State} (hup : mainUp s = true) :
    exec (.netTsqPopRead p) s = .next (emit (.readData .host [(popTsq p s).1]) (popTsq p s).2) := if_pos hup

/-- Settles O33. -/
theorem networkRingRowsComplete : Obligations.NetworkRingRowsComplete := by
  intro p d s hup
  refine ⟨fun r hr hlt => ?_, fun r v ds hv => ?_, fun e es he => ?_, fun hnil => ?_, ?_⟩
  · exact congrArg _ ((if_pos hup).trans (writeNetTail_one hr hlt))
  · exact congrArg _ ((if_pos hup).trans (if_neg (Nat.not_lt_of_ge hv)))
  · rw [execNetTsqPopRead_up hup, popTsq_cons he]
    rfl
  · rw [execNetTsqPopRead_up hup, popTsq_nil hnil]
  · exact congrArg _ (if_pos hup)

/-! ### A host frame is sent (12 R321, R328, R331) -/

/-- The bytes of a descriptor. -/
def txData (d : TxDesc) : Bytes := (d.data ++ zeros (d.len - d.data.length)).take d.len

/-- A transmit ring whose one descriptor has been given back. -/
def txGivenBack (p r : Nat) (s : State) : State :=
  emit (.txDone p r (netRing s p r).head 1) (setRing p r { netRing s p r with
    descs := [], head := ((netRing s p r).head + 1) % 2 ^ (netRing s p r).size } s)

/-- What a host frame with PRP leaves: a copy on each port of its pair. -/
def hostOutPair (p : Nat) (d : TxDesc) (s : State) : State :=
  hostOut (p + 1) d (txData d) (some (prpTrailer s p (p + 1))) (hostOut p d (txData d) (some (prpTrailer s p p)) s)

theorem ringChain_single {d : TxDesc} (h : bit d.flags 1 = true) : ringChain [d] = some [d] := by simp [ringChain, h]

theorem chainOk_single {m : Nat} {d : TxDesc} (h : bit d.flags 0 = true) (hcls : d.cls < 7) (hlen : d.len + 4 ≤ m) :
    chainOk m [d] = true := by
  simp [chainOk, h, hcls, lsum, hlen]

section
variable {p : Fin 6} {d : TxDesc} {s : State}

/-- A ring with one descriptor that can be sent, while the other ring has none, is the one whose turn it is. -/
theorem txTurn_single (hen : (netRing s p 2).en = true) (hd : (netRing s p 2).descs = [d]) (hother : ringReady s p 3 = none)
    (hpause : classPaused s p d.cls = false) (h1 : bit d.flags 1 = true) : txTurn s p = some 2 := by
  have hready : ringReady s p 2 = some d.cls := by
    simp [ringReady, hen, hd, ringChain_single h1, hpause]
  simp [txTurn, hready, hother]

theorem execHostTxFrame_single (hup : mainUp s = true) (hlink : (port s p).up = true) (hback : heldBack s p = false)
    (hturn : txTurn s p = some 2) (hd : (netRing s p 2).descs = [d])
    (hcls : d.cls < 7) (hlen : d.len + 4 ≤ (port s p).cfg.maxFrame) (h0 : bit d.flags 0 = true) (h1 : bit d.flags 1 = true) :
    exec (.hostTxFrame p false) s = .next (netIrq p 2
      (if bit d.flags 3 ∧ (p.val = 2 ∨ p.val = 4) then hostOutPair p d (prpAdvance p (txGivenBack p 2 s))
       else hostOut p d (txData d) none (txGivenBack p 2 s))) := by
  have hstart : ¬((!mainUp s) = true ∨ (!(port s p).up) = true ∨ heldBack s p = true ∨ txTurn s p ≠ some 2) := by
    simp [hup, hlink, hback, hturn]
  have hchain : ringChain (netRing s p 2).descs = some [d] := by rw [hd, ringChain_single h1]
  have hok : chainOk (port (txGivenBack p 2 s) p).cfg.maxFrame [d] = true := by
    rw [txGivenBack, port_emit, port_setRing_same]
    exact chainOk_single h0 hcls hlen
  have hgiven : emit (.txDone p 2 (netRing s p 2).head 1) (setRing p 2 { netRing s p 2 with
      descs := (netRing s p 2).descs.drop 1
      head := ((netRing s p 2).head + 1) % ringLen (netRing s p 2).size } s) = txGivenBack p 2 s := by
    rw [hd]
    rfl
  have hdata : ([d].map fun x => (x.data ++ zeros (x.len - x.data.length)).take x.len).flatten = txData d := List.append_nil _
  change execHostTxFrame p false s = _
  rw [execHostTxFrame]
  simp only [Bool.false_eq_true, if_false]
  rw [if_neg hstart, hchain]
  simp only [List.length_nil, Nat.zero_add, hgiven, hok, hdata, Bool.not_true, Bool.false_eq_true, if_false]
  rfl

theorem hostOut_plain {p : Nat} {data : Bytes} {prp : Option (Nat × Nat)} {u : State} (h : bit d.flags 2 = false) :
    hostOut p d data prp u = countPort p 7 (emit (.hostFrame p data prp (now u)) u) := by
  simp [hostOut, h]

/-- A frame with a stamp asked for, while the stamp queue has room. -/
theorem hostOut_stamped {p : Nat} {data : Bytes} {prp : Option (Nat × Nat)} {u : State} (h : bit d.flags 2 = true)
    (hroom : (port u p).tsq.length < 64) : hostOut p d data prp u = netIrq p 4 (setPort p
      { port (countPort p 7 u) p with tsq := (port u p).tsq ++ [{ tag := d.tag % 2 ^ 15, stamp := now u }] }
      (countPort p 7 (emit (.hostFrame p data prp (now u)) u))) := by
  have hq : (port (countPort p 7 (emit (.hostFrame p data prp (now u)) u)) p).tsq = (port u p).tsq := by
    rw [port_countPort_same, port_emit]
  simp only [hostOut, h, if_true, egressStamp, hq, hroom]
  rfl

@[simp] theorem port_txGivenBack_same (p : Nat) (s : State) : port (txGivenBack p 2 s) p = { port s p with
    rings := mput (port s p).rings 2 { netRing s p 2 with
      descs := [], head := ((netRing s p 2).head + 1) % 2 ^ (netRing s p 2).size } } := port_setRing_same _ _ _ _

theorem txGivenBack_emitted (p : Nat) (s : State) :
    (txGivenBack p 2 s).emitted = .txDone p 2 (netRing s p 2).head 1 :: s.emitted := rfl

theorem now_txGivenBack (p : Nat) (s : State) : now (txGivenBack p 2 s) = now s := rfl

theorem now_prpAdvance (p : Nat) (s : State) : now (prpAdvance p s) = now s := rfl

theorem port_txGivenBack_other {p n : Nat} (s : State) (h : n ≠ p) : port (txGivenBack p 2 s) n = port s n :=
  port_setRing_other _ _ _ h

/-- HOST_TX_FRAME with a stamp. -/
theorem execHostTxFrame_stamped (hup : mainUp s = true) (hlink : (port s p).up = true) (hback : heldBack s p = false)
    (hen : (netRing s p 2).en = true) (hd : (netRing s p 2).descs = [d]) (hother : ringReady s p 3 = none) (hcls : d.cls < 7)
    (hlen : d.len + 4 ≤ (port s p).cfg.maxFrame) (hpause : classPaused s p d.cls = false) (hflags : d.flags = 7)
    (hroom : (port s p).tsq.length < 64) : ∃ t, exec (.hostTxFrame p false) s = .next t ∧ (netRing t p 2).descs = [] ∧
      (netRing t p 2).head = ((netRing s p 2).head + 1) % 2 ^ (netRing s p 2).size ∧
      .hostFrame p.val (txData d) none (now s) ∈ t.emitted ∧ .txDone p.val 2 (netRing s p 2).head 1 ∈ t.emitted ∧
      (port t p).tsq = (port s p).tsq ++ [{ tag := d.tag % 2 ^ 15, stamp := now s }] ∧
      (port t p).irq = (port s p).irq ||| 0x14 ∧ ∀ n, n ≠ p.val → port t n = port s n := by
  have h0 : bit d.flags 0 = true := by rw [hflags]; rfl
  have h1 : bit d.flags 1 = true := by rw [hflags]; rfl
  have h2 : bit d.flags 2 = true := by rw [hflags]; rfl
  have h3 : bit d.flags 3 = false := by rw [hflags]; rfl
  have hroom' : (port (txGivenBack p 2 s) p).tsq.length < 64 := by rw [port_txGivenBack_same]; exact hroom
  refine ⟨_, (execHostTxFrame_single hup hlink hback (txTurn_single hen hd hother hpause h1) hd hcls hlen h0 h1), ?_⟩
  rw [if_neg (by simp [h3]), hostOut_stamped h2 hroom']
  refine ⟨?_, ?_, ?_, ?_, ?_, ?_, fun n hn => ?_⟩
  · simp [netRing, mgetD_mput_same]
  · simp [netRing, mgetD_mput_same]
  · simp [now_txGivenBack]
  · simp [txGivenBack_emitted]
  · simp [now_txGivenBack]
  · simp [BitVec.or_assoc]
  · rw [port_netIrq_other _ _ hn, port_netIrq_other _ _ hn, port_setPort_other _ _ hn, port_countPort_other _ _ hn, port_emit,
      port_txGivenBack_other _ hn]

/-- HOST_TX_FRAME with PRP. -/
theorem execHostTxFrame_prp (hup : mainUp s = true) (hlink : (port s p).up = true) (hback : heldBack s p = false)
    (hen : (netRing s p 2).en = true) (hd : (netRing s p 2).descs = [d]) (hother : ringReady s p 3 = none) (hcls : d.cls < 7)
    (hlen : d.len + 4 ≤ (port s p).cfg.maxFrame) (hpause : classPaused s p d.cls = false) (hflags : d.flags = 11)
    (hpair : p.val = 2 ∨ p.val = 4) : ∃ t, exec (.hostTxFrame p false) s = .next t ∧ (netRing t p 2).descs = [] ∧
      (port t p).prpSeq = ((port s p).prpSeq + 1) % 65536 ∧ ∀ q, q = p.val ∨ q = p.val + 1 →
      .hostFrame q (txData d) (some (((port s p).prpSeq + 1) % 65536, lanOf q)) (now s) ∈ t.emitted := by
  have h0 : bit d.flags 0 = true := by rw [hflags]; rfl
  have h1 : bit d.flags 1 = true := by rw [hflags]; rfl
  have h2 : bit d.flags 2 = false := by rw [hflags]; rfl
  have h3 : bit d.flags 3 = true := by rw [hflags]; rfl
  have hne : p.val ≠ p.val + 1 := by omega
  have hadv : port (prpAdvance p (txGivenBack p 2 s)) p =
      { port (txGivenBack p 2 s) p with prpSeq := ((port (txGivenBack p 2 s) p).prpSeq + 1) % 65536 } := port_setPort_same _ _ _
  refine ⟨_, (execHostTxFrame_single hup hlink hback (txTurn_single hen hd hother hpause h1) hd hcls hlen h0 h1), ?_⟩
  rw [if_pos ⟨h3, hpair⟩, hostOutPair, hostOut_plain h2, hostOut_plain h2]
  refine ⟨?_, ?_, fun q hq => ?_⟩
  · simp [netRing, mgetD_mput_same, port_countPort_other _ _ hne, hadv]
  · simp [port_countPort_other _ _ hne, hadv]
  · rcases hq with rfl | rfl
    · simp [prpTrailer, hadv, now_prpAdvance, now_txGivenBack]
    · simp [prpTrailer, hadv, now_prpAdvance, now_txGivenBack]

end

/-! ### A received frame is judged (12 R318-R320) -/

section
variable {f : EthFrame} {s : State}

theorem execRxFrameReceived_up (hup : mainUp s = true) (hp : f.port < 6) (hlink : (port s f.port).up = true) :
    exec (.rxFrameReceived f) s =
      if !f.fcsOk then .next (countPort f.port 1 (advanceTo f.stamp s))
      else if f.len < 64 ∨ (port s f.port).cfg.maxFrame < f.len then .next (countPort f.port 2 (advanceTo f.stamp s))
      else if f.dstMac ≠ (port s f.port).cfg.mac ∧ !bit f.dstMac 40 then .next (countPort f.port 3 (advanceTo f.stamp s))
      else if !vlanTaken (port s f.port).cfg f then .next (countPort f.port 4 (advanceTo f.stamp s))
      else if 65536 < f.held + f.len then .next (countPort f.port 5 (advanceTo f.stamp s))
      else
        let s := bufferXoff f.port (frameClass f) (f.held + f.len) (advanceTo f.stamp s)
        if f.kind = .macControl then .next s
        else
          let (pass, s) := match f.rct with
            | some x => prpTake f.port x f.stamp s
            | none => (true, s)
          .next (if pass then rxRoute f s else s) := by
  refine (if_neg ?_).trans rfl
  simp [hup, hlink, hp]

/-- Pausing and releasing classes counts the pause frames alone. -/
theorem foldl_counter_kept {α : Type} {g : State → α → State} {n : Nat} (hg : ∀ u a, counter (g u a) n = counter u n)
    (l : List α) (u : State) : counter (l.foldl g u) n = counter u n := by
  induction l generalizing u with
  | nil => rfl
  | cons a l ih => rw [List.foldl_cons, ih, hg]

theorem foldl_emitted_kept {α : Type} {g : State → α → State} {e : Emission} (hg : ∀ u a, e ∈ u.emitted → e ∈ (g u a).emitted)
    (l : List α) {u : State} (h : e ∈ u.emitted) : e ∈ (l.foldl g u).emitted := by
  induction l generalizing u with
  | nil => exact h
  | cons a l ih => exact ih (hg u a h)

theorem counter_pauseFor {n : Nat} (hn : n ≠ 187) (p c k : Nat) (u : State) : counter (pauseFor p c k u) n = counter u n := by
  unfold pauseFor
  dsimp only
  split
  · rfl
  · exact (counter_countPort_other (i := 11) _ hn).trans rfl

theorem counter_releaseFor (n p c k : Nat) (u : State) : counter (releaseFor p c k u) n = counter u n := by
  unfold releaseFor
  dsimp only
  split
  · rfl
  · split <;> rfl

theorem emitted_pauseFor {e : Emission} (p c k : Nat) {u : State} (h : e ∈ u.emitted) : e ∈ (pauseFor p c k u).emitted := by
  unfold pauseFor
  dsimp only
  split
  · exact h
  · exact List.mem_cons_of_mem _ h

theorem emitted_releaseFor {e : Emission} (p c k : Nat) {u : State} (h : e ∈ u.emitted) : e ∈ (releaseFor p c k u).emitted := by
  unfold releaseFor
  dsimp only
  split
  · exact h
  · split
    · exact h
    · exact List.mem_cons_of_mem _ h

theorem counter_ringPause {n : Nat} (hn : n ≠ 187) (p r : Nat) (u : State) : counter (ringPause p r u) n = counter u n := by
  unfold ringPause
  dsimp only
  split
  · rfl
  · split
    · exact foldl_counter_kept (fun u c => counter_pauseFor hn p c (r + 1) u) _ _
    · split
      · exact foldl_counter_kept (fun u c => counter_releaseFor n p c (r + 1) u) _ _
      · rfl

theorem emitted_ringPause {e : Emission} (p r : Nat) {u : State} (h : e ∈ u.emitted) : e ∈ (ringPause p r u).emitted := by
  unfold ringPause
  dsimp only
  split
  · exact h
  · split
    · exact foldl_emitted_kept (fun u c => emitted_pauseFor p c (r + 1)) _ h
    · split
      · exact foldl_emitted_kept (fun u c => emitted_releaseFor p c (r + 1)) _ h
      · exact h

theorem netRing_advanceTo (t : Instant) (p r : Nat) (s : State) : netRing (advanceTo t s) p r = netRing s p r := by
  simp [netRing]

theorem rxDescs_advanceTo (t : Instant) (p : Nat) (x : RxInfo) (s : State) : rxDescs (advanceTo t s) p x = rxDescs s p x := by
  simp [rxDescs, rxBytes, rxFlags, prpOn]

/-- A frame for which a receive ring has buffers goes to it. -/
theorem rxDeliver_fits {p r : Nat} {x : RxInfo} {u : State} (hen : (netRing u p r).en = true)
    (hfree : (rxDescs u p x).length ≤ ringFree (netRing u p r)) :
    .rxRing p r (netRing u p r).head (rxDescs u p x) ∈ (rxDeliver p r x u).emitted ∧
      counter (rxDeliver p r x u) 176 = counter u 176 := by
  have hroom : ¬((!(netRing u p r).en) = true ∨ ringFree (netRing u p r) < (rxDescs u p x).length) := by
    simp [hen, hfree]
  simp only [rxDeliver]
  rw [if_neg hroom]
  refine ⟨emitted_ringPause _ _ ?_, (counter_ringPause (by decide) _ _ _).trans (counter_congr ?_ _)⟩
  · rw [netIrq_emitted, emit_emitted]
    exact List.mem_cons_of_mem _ List.mem_cons_self
  · rw [netIrq_cnt]
    rfl

/-- A good frame of no protocol that the block knows goes to receive ring 0. -/
theorem execRxFrameReceived_good (hup : mainUp s = true) (hp : f.port < 6) (hlink : (port s f.port).up = true)
    (hfcs : f.fcsOk = true) (hmin : 64 ≤ f.len) (hmax : f.len ≤ (port s f.port).cfg.maxFrame)
    (hmac : f.dstMac = (port s f.port).cfg.mac) (hvlan : f.vlan = none) (huntagged : bit (port s f.port).cfg.flags 2 = true)
    (hkind : f.kind = .other) (hrct : f.rct = none) (hneigh : f.neigh = none) (hheld : f.held + f.len ≤ 65536)
    (hxoff : f.held + f.len < (port s f.port).cfg.xoff.getD 0 64 * 1024) (hsvc : isSvc s f.dst = false) :
    exec (.rxFrameReceived f) s = .next (countPort f.port 0 (rxDeliver f.port 0 (ethInfo f 0xFFFF) (advanceTo f.stamp s))) := by
  have hcls : frameClass f = 0 := by simp [frameClass, hvlan, hkind, rxClass]
  have htaken : vlanTaken (port s f.port).cfg f = true := by simp [vlanTaken, hkind, hvlan, vlanMember, huntagged]
  have hbuf : bufferXoff f.port 0 (f.held + f.len) (advanceTo f.stamp s) = advanceTo f.stamp s :=
    if_neg (by rw [port_advanceTo]; omega)
  have hsvc' : isSvc (advanceTo f.stamp s) f.dst = false := by simpa [isSvc] using hsvc
  rw [execRxFrameReceived_up hup hp hlink, if_neg (by simp [hfcs]), if_neg (by omega), if_neg (by simp [hmac]),
    if_neg (by simp [htaken]), if_neg (by omega), hcls, hbuf]
  simp [hkind, hrct, rxRoute, hsvc', hneigh]

end

/-- Settles O34. -/
theorem framesAreSentAndJudged : Obligations.FramesAreSentAndJudged := by
  refine ⟨fun p d s hup hlink hback hen hd hother hcls hlen hpause => ⟨fun hflags hroom => ?_, fun hflags hpair => ?_⟩,
    fun f s hup hp hlink => ⟨fun hfcs => ?_, fun hfcs hlen => ?_, fun hfcs hmin hmax hmac hbit => ?_,
      fun hfcs hmin hmax hmac hvlan => ?_, ?_⟩⟩
  · exact execHostTxFrame_stamped hup hlink hback hen hd hother hcls hlen hpause hflags hroom
  · exact execHostTxFrame_prp hup hlink hback hen hd hother hcls hlen hpause hflags hpair
  · rw [execRxFrameReceived_up hup hp hlink, if_pos (by simp [hfcs])]
  · rw [execRxFrameReceived_up hup hp hlink, if_neg (by simp [hfcs]), if_pos hlen]
  · rw [execRxFrameReceived_up hup hp hlink, if_neg (by simp [hfcs]), if_neg (by omega), if_pos ⟨hmac, by simp [hbit]⟩]
  · rw [execRxFrameReceived_up hup hp hlink, if_neg (by simp [hfcs]), if_neg (by omega), if_neg (by simp [hmac]),
      if_pos (by simp [hvlan])]
  · intro hfcs hmin hmax hmac hvlan huntagged hkind hrct hneigh hheld hxoff hsvc hen hfree
    obtain ⟨hring, hcount⟩ := rxDeliver_fits (u := advanceTo f.stamp s) (r := 0) (p := f.port) (x := ethInfo f 0xFFFF)
      (by rw [netRing_advanceTo]; exact hen) (by rw [netRing_advanceTo, rxDescs_advanceTo]; exact hfree)
    rw [netRing_advanceTo, rxDescs_advanceTo] at hring
    rw [counter_advanceTo] at hcount
    refine ⟨_, execRxFrameReceived_good hup hp hlink hfcs hmin hmax hmac hvlan huntagged hkind hrct hneigh hheld hxoff hsvc,
      hring, ?_⟩
    rw [show (176 : Nat) = 176 + 0 from rfl, counter_countPort_same, hcount]

end Sys2Proof.Machine
end

section
/-! The other events of the network ports: PRP, flow control and links (12 R315, R325-R331). -/

namespace Sys2Proof.Machine

/-! ### What a drained transmit buffer leaves -/

/-- The pauses of port p, its PFC count and the other ports stay. -/
def PausesStay (p : Nat) (s t : State) : Prop :=
  (port t p).paused = (port s p).paused ∧ counter t 188 = counter s 188 ∧ ∀ n, n ≠ p → port t n = port s n

theorem PausesStay.refl (p : Nat) (s : State) : PausesStay p s s := ⟨rfl, rfl, fun _ _ => rfl⟩

theorem PausesStay.trans {p : Nat} {s t u : State} (h : PausesStay p s t) (k : PausesStay p t u) : PausesStay p s u := by
  obtain ⟨hp, hc, ho⟩ := h
  obtain ⟨kp, kc, ko⟩ := k
  exact ⟨kp.trans hp, kc.trans hc, fun n hn => (ko n hn).trans (ho n hn)⟩

theorem PausesStay.of_congr (p : Nat) {s t : State} (hports : t.ports = s.ports) (hcnt : t.cnt = s.cnt) : PausesStay p s t :=
  ⟨by rw [port_congr hports], counter_congr hcnt _, fun n _ => port_congr hports n⟩

theorem pausesStay_countPort {p i : Nat} (hi : i ≠ 12) (s : State) : PausesStay p s (countPort p i s) :=
  ⟨by simp, counter_countPort_other _ (by omega), fun n hn => port_countPort_other _ _ hn⟩

theorem pausesStay_setPort {p : Nat} {r : Port} {s : State} (h : r.paused = (port s p).paused) : PausesStay p s (setPort p r s) :=
  ⟨by rw [port_setPort_same, h], rfl, fun _ hn => port_setPort_other _ _ hn⟩

theorem pausesStay_netIrq (p b : Nat) (s : State) : PausesStay p s (netIrq p b s) :=
  ⟨by simp, counter_congr (netIrq_cnt _ _ _) _, fun _ hn => port_netIrq_other _ _ hn⟩

theorem pausesStay_egressStamp (p tag : Nat) (t : Instant) (s : State) : PausesStay p s (egressStamp p tag t s) := by
  unfold egressStamp
  dsimp only
  split
  · refine PausesStay.trans ?_ (pausesStay_netIrq p 4 _)
    exact pausesStay_setPort rfl
  · refine PausesStay.trans ?_ (pausesStay_countPort (by decide : (13 : Nat) ≠ 12) _)
    exact pausesStay_setPort rfl

/-- A frame that leaves: a peer delay request notes its instant. -/
def txNoted (w : TxHeld) (s : State) : State := match w.e with
  | .ptp q 1 seq => { s with tb := { s.tb with pdelaySent := mput s.tb.pdelaySent q (seq, now s) } }
  | _ => s

theorem pausesStay_txNoted (p : Nat) (w : TxHeld) (s : State) : PausesStay p s (txNoted w s) := by
  unfold txNoted
  split
  · exact .of_congr p rfl rfl
  · exact .refl p s

theorem txLeaves_eq (p : Nat) (w : TxHeld) (s : State) : txLeaves p w s = match w.tag with
    | some tag => egressStamp p tag (now (txNoted w (countPort p 7 (emit w.e s)))) (txNoted w (countPort p 7 (emit w.e s)))
    | none => txNoted w (countPort p 7 (emit w.e s)) := rfl

theorem pausesStay_txLeaves (p : Nat) (w : TxHeld) (s : State) : PausesStay p s (txLeaves p w s) := by
  have hemit : PausesStay p s (emit w.e s) := .of_congr p rfl rfl
  have hsent : PausesStay p s (txNoted w (countPort p 7 (emit w.e s))) :=
    (hemit.trans (pausesStay_countPort (by decide : (7 : Nat) ≠ 12) _)).trans (pausesStay_txNoted p w _)
  rw [txLeaves_eq]
  cases w.tag with
  | some tag => exact hsent.trans (pausesStay_egressStamp ..)
  | none => exact hsent

theorem pausesStay_txDrain (p : Nat) (s : State) : PausesStay p s (txDrain p s) := by
  have hall : ∀ (l : List TxHeld) (u : State), PausesStay p u (l.foldl (fun s w => txLeaves p w s) u) := fun l => by
    induction l with
    | nil => exact fun u => .refl p u
    | cons w l ih => exact fun u => (pausesStay_txLeaves p w u).trans (ih _)
  unfold txDrain
  dsimp only
  split
  · exact .refl p s
  · refine PausesStay.trans ?_ (hall _ _)
    exact .of_congr p rfl rfl

/-! ### A frame of the block's own -/

/-- Nothing waits: a drained buffer sends nothing. -/
theorem txDrain_empty {p : Nat} {s : State} (hback : heldBack s p = false) (h : mgetD s.txWait p [] = []) :
    txDrain p s = { s with txWait := mput s.txWait p [] } := by
  simp [txDrain, hback, h, sortBy]

theorem txOwn_free {p c len : Nat} {e : Emission} {s : State} (hback : heldBack s p = false) (hwait : mgetD s.txWait p [] = [])
    (hpause : classPaused s p c = false) :
    txOwn p c len e s = txLeaves p { cls := c, len := len, tag := none, e := e } { s with txWait := mput s.txWait p [] } := by
  have hback' : heldBack { s with txWait := mput s.txWait p [] } p = false := hback
  have hpause' : classPaused { s with txWait := mput s.txWait p [] } p c = false := hpause
  simp [txOwn, txFrame, txDrain_empty hback hwait, hpause', hback']

/-- A supervision frame leaves as any other without a stamp. -/
theorem txLeaves_supervision (p c len q mac : Nat) (s : State) :
    txLeaves p { cls := c, len := len, tag := none, e := .prpSupervision q mac } s =
      countPort p 7 (emit (.prpSupervision q mac) s) := rfl

theorem classPaused_congr {s t : State} {p c : Nat} (hport : port t p = port s p) (hnow : now t = now s) :
    classPaused t p c = classPaused s p c := by simp only [classPaused, hport, hnow]

theorem heldBack_congr {s t : State} {p : Nat} (hcfg : (port t p).cfg = (port s p).cfg) (hpwr : t.pwr = s.pwr)
    (hbank : activeBank t = activeBank s) (hnow : now t = now s) : heldBack t p = heldBack s p := by
  simp only [heldBack, inRun, sched, longestFrame, hcfg, hpwr, hbank, hnow]
  rfl

/-- A port of a pair sends its supervision frame. -/
def prpSupervise (q : Nat) (s : State) : State := txOwn q 6 64 (.prpSupervision q (port s q).cfg.mac) s

theorem execPrpSupervisionSend_due {p : Fin 6} {s : State} (hup : mainUp s = true) (hpair : p.val = 2 ∨ p.val = 4)
    (hcfg : bit (port s p).cfg.flags 1 = true) :
    exec (.prpSupervisionSend p) s = .next (prpSupervise (p + 1) (prpSupervise p s)) := if_pos ⟨hup, hpair, hcfg⟩

/-- Supervision frames leave on both ports of a pair. -/
theorem prpSupervision_sent {p : Fin 6} {s : State} (hup : mainUp s = true) (hpair : p.val = 2 ∨ p.val = 4)
    (hcfg : bit (port s p).cfg.flags 1 = true) (hpause : classPaused s p 6 = false) (hpause' : classPaused s (p + 1) 6 = false)
    (hback : heldBack s p = false) (hback' : heldBack s (p + 1) = false) (hwait : s.txWait = []) :
    ∃ t, exec (.prpSupervisionSend p) s = .next t ∧ t.emitted =
      .prpSupervision (p.val + 1) (port s (p.val + 1)).cfg.mac :: .prpSupervision p (port s p).cfg.mac :: s.emitted := by
  have hne : p.val + 1 ≠ p.val := by omega
  have hfirst : txOwn p 6 64 (.prpSupervision p (port s p).cfg.mac) s = countPort p 7
      (emit (.prpSupervision p (port s p).cfg.mac) { s with txWait := mput s.txWait p [] }) :=
    (txOwn_free hback (by rw [hwait]; rfl) hpause).trans (txLeaves_supervision ..)
  have hother : port (countPort p 7 (emit (.prpSupervision p (port s p).cfg.mac) { s with txWait := mput s.txWait p [] }))
      (p + 1) = port s (p + 1) := port_countPort_other _ _ hne
  have hnow : now (countPort p 7 (emit (.prpSupervision p (port s p).cfg.mac) { s with txWait := mput s.txWait p [] })) = now s := by
    rw [now_countPort, now_emit]
    rfl
  have hcfg' : (port (countPort p 7 (emit (.prpSupervision p (port s p).cfg.mac) { s with txWait := mput s.txWait p [] }))
      (p + 1)).cfg = (port s (p + 1)).cfg := congrArg Port.cfg hother
  have hwait' : mgetD (mput s.txWait p []) (p + 1) [] = ([] : List TxHeld) := by
    rw [mgetD_mput_other _ _ _ hne, hwait]
    rfl
  have hsecond := txOwn_free (len := 64) (e := .prpSupervision (p + 1) (port s (p + 1)).cfg.mac)
    ((heldBack_congr hcfg' rfl rfl hnow).trans hback') hwait' ((classPaused_congr hother hnow).trans hpause')
  refine ⟨_, execPrpSupervisionSend_due hup hpair hcfg, ?_⟩
  rw [prpSupervise, prpSupervise, hfirst, hother, hsecond, txLeaves_supervision]
  rfl

/-! ### Priority flow control -/

theorem execPfcFrameReceived_up {p : Fin 6} {c : Fin 8} {q : Nat} {t0 : Instant} {s : State} (hup : mainUp s = true)
    (hobey : bit (port s p).cfg.pfcRx c = true) (hq : q ≠ 0) : exec (.pfcFrameReceived p [(c.val, q)] t0) s =
      .next (txDrain p (countPort p 12 (setPort p { port (countPort p 0 (advanceTo t0 s)) p with
        paused := mput (port s p).paused c (t0 + quantaU p q) } (countPort p 0 (advanceTo t0 s))))) := by
  have hport : port (countPort p 0 (advanceTo t0 s)) p =
      { port s p with counts := mput (port s p).counts 0 (satAdd 0xFFFFFFFF (mgetD (port s p).counts 0 0) 1) } := by simp
  have hmine : [(c.val, q)].filter (fun e => decide (e.1 < 8) && bit (port s p).cfg.pfcRx e.1) = [(c.val, q)] := by
    simp [hobey]
  change execPfcFrameReceived p [(c.val, q)] t0 s = _
  rw [execPfcFrameReceived, if_neg (by simp [hup])]
  simp only [hport, hmine, List.foldl_cons, List.foldl_nil, hq, if_false]
  simp [hq, done]

theorem releaseFor_last {p c : Nat} {s : State} (h : (port s p).pausing = 2 ^ c) :
    releaseFor p c 0 s = emit (.pfc p c 0) (setPort p { port s p with pausing := 0 } s) := by
  have hbit : bit (2 ^ c) (8 * 0 + c) = true := by simp [bit, Nat.div_self]
  have hleft : 2 ^ c - 2 ^ (8 * 0 + c) = 0 := by simp
  have hnone : bit (pausingByte { port s p with pausing := 0 }) c = false := by simp [bit, pausingByte]
  unfold releaseFor
  dsimp only
  rw [h, hleft, if_neg (by rw [hbit]; decide), if_neg (by rw [hnone]; decide)]

/-- Settles O35. -/
theorem portEventsComplete : Obligations.PortEventsComplete := by
  intro p c s
  refine ⟨fun mac x hx => ?_, fun hup hpair hcfg hpause hpause' hback hback' hwait => ?_, fun q t0 hup hobey hq => ?_,
    fun t0 ht => ?_, fun hup hbit => ?_, fun hup hpausing => ?_, fun up fault => ?_⟩
  · change execPrpSourceForget _ _ s = _
    simp [execPrpSourceForget, hx, done]
  · exact prpSupervision_sent hup hpair hcfg hpause hpause' hback hback' hwait
  · refine ⟨_, execPfcFrameReceived_up hup hobey hq, ?_⟩
    obtain ⟨hpaused, hcount, hothers⟩ := pausesStay_txDrain p (countPort p 12 (setPort p
      { port (countPort p 0 (advanceTo t0 s)) p with
        paused := mput (port s p).paused c (t0 + quantaU p q) } (countPort p 0 (advanceTo t0 s))))
    refine ⟨?_, ?_, fun n hn => ?_⟩
    · rw [hpaused, port_countPort_same, port_setPort_same]
      exact mget_mput_same _ _ _
    · have hsame : ∀ u : State, counter (countPort p 12 u) 188 = satAdd (2 ^ 64 - 1) (counter u 188) 1 :=
        counter_countPort_same _ 12
      have hset : ∀ (r : Port) (u : State), counter (setPort p r u) 188 = counter u 188 := fun _ _ => rfl
      rw [hcount, hsame, hset, counter_countPort_other _ (by decide), counter_advanceTo]
    · rw [hothers n hn, port_countPort_other _ _ hn, port_setPort_other _ _ hn, port_countPort_other _ _ hn, port_advanceTo]
  · change execPfcPauseExpiry _ _ s = _
    simp [execPfcPauseExpiry, ht, done]
  · exact congrArg _ (if_pos ⟨hup, hbit⟩)
  · exact congrArg _ ((if_pos hup).trans (releaseFor_last hpausing))
  · exact ⟨_, rfl, rfl, (port_setPort_same _ _ _).trans (by simp), fun n hn => port_setPort_other _ _ hn⟩

end Sys2Proof.Machine
end

section
/-! The real-time clock and the event recorder (15, 16), and the housekeeping rows of the trace and of chunk loads. -/

namespace Sys2Proof.Machine

/-! ### What a record leaves -/

/-- What events, alarms and records leave of the recorder, of GLB and of what has been put on the interfaces. -/
structure Noted (s t : State) : Prop where
  clearing : t.rcd.clearing = s.rcd.clearing
  cycles : t.rcd.cycles = s.rcd.cycles
  opTime : t.rcd.opTime = s.rcd.opTime
  checkpoint : t.rcd.checkpoint = s.rcd.checkpoint
  suspended : t.rcd.suspended = s.rcd.suspended
  irq : ∀ b, s.glb.irqStatus.getLsbD b = true → t.glb.irqStatus.getLsbD b = true
  temp : t.glb.temp = s.glb.temp
  scratch : t.glb.scratch = s.glb.scratch
  emitted : ∀ e ∈ s.emitted, e ∈ t.emitted

/-- One more record is assigned, and nothing else but events and alarms has happened. -/
structure Recorded (s t : State) : Prop extends Noted s t where
  seq : t.rcd.seq = (s.rcd.seq + 1) % 2 ^ 32

theorem Noted.refl (s : State) : Noted s s := ⟨rfl, rfl, rfl, rfl, rfl, fun _ h => h, rfl, rfl, fun _ h => h⟩

theorem Noted.trans {s t u : State} (h : Noted s t) (k : Noted t u) : Noted s u where
  clearing := k.clearing.trans h.clearing
  cycles := k.cycles.trans h.cycles
  opTime := k.opTime.trans h.opTime
  checkpoint := k.checkpoint.trans h.checkpoint
  suspended := k.suspended.trans h.suspended
  irq b hb := k.irq b (h.irq b hb)
  temp := k.temp.trans h.temp
  scratch := k.scratch.trans h.scratch
  emitted e he := k.emitted e (h.emitted e he)

/-- Nothing of the recorder, of GLB and of the emissions changes. -/
theorem Noted.of_eq {s t : State} (hr : t.rcd = s.rcd) (hg : t.glb = s.glb) (he : t.emitted = s.emitted) : Noted s t :=
  ⟨by rw [hr], by rw [hr], by rw [hr], by rw [hr], by rw [hr], fun _ h => hg ▸ h, by rw [hg], by rw [hg], fun _ h => he ▸ h⟩

theorem Recorded.of_noted {s t u : State} (h : Noted s t) (k : Recorded t u) (hseq : t.rcd.seq = s.rcd.seq) : Recorded s u :=
  ⟨h.trans k.toNoted, by rw [k.seq, hseq]⟩

theorem Recorded.then {s t u : State} (h : Recorded s t) (k : Noted t u) (hseq : u.rcd.seq = t.rcd.seq) : Recorded s u :=
  ⟨h.toNoted.trans k, hseq.trans h.seq⟩

theorem raiseVector_glb_kept (n : Nat) (s : State) :
    (raiseVector n s).glb.temp = s.glb.temp ∧ (raiseVector n s).glb.scratch = s.glb.scratch := by
  unfold raiseVector
  dsimp only
  split <;> exact ⟨rfl, rfl⟩

theorem raiseVector_emitted_mem {e : Emission} {s : State} (n : Nat) (h : e ∈ s.emitted) : e ∈ (raiseVector n s).emitted := by
  rw [raiseVector_emitted]
  exact List.mem_cons_of_mem _ h

theorem raiseVector_noted (n : Nat) (s : State) : Noted s (raiseVector n s) := by
  have hirq := raiseVector_irqStatus n s
  obtain ⟨htemp, hscratch⟩ := raiseVector_glb_kept n s
  exact ⟨by rw [raiseVector_rcd], by rw [raiseVector_rcd], by rw [raiseVector_rcd], by rw [raiseVector_rcd], by rw [raiseVector_rcd],
    fun _ h => hirq ▸ h, htemp, hscratch, fun _ h => raiseVector_emitted_mem n h⟩

theorem emit_noted (e : Emission) (s : State) : Noted s (emit e s) :=
  ⟨rfl, rfl, rfl, rfl, rfl, fun _ h => h, rfl, rfl, fun _ h => List.mem_cons_of_mem _ h⟩

/-- Setting an interrupt status bit. -/
theorem setIrq_noted (b : Nat) (s : State) : Noted s (setIrq b s) := by
  have hset : Noted s { s with glb := { s.glb with irqStatus := s.glb.irqStatus ||| BitVec.ofNat 9 (2 ^ b) } } :=
    ⟨rfl, rfl, rfl, rfl, rfl, fun _ h => by rw [BitVec.getLsbD_or, h, Bool.true_or], rfl, rfl, fun _ h => h⟩
  unfold setIrq
  dsimp only
  split
  · exact hset.trans (raiseVector_noted 1 _)
  · exact hset

theorem setCasIrq_noted (b : Nat) (s : State) : Noted s (setCasIrq b s) := by
  refine Noted.trans ?_ (raiseVector_noted 90 _)
  exact Noted.of_eq rfl rfl rfl

theorem Recorded.raise {s t : State} (h : Recorded s t) (n : Nat) : Recorded s (raiseVector n t) :=
  h.then (raiseVector_noted n t) (by rw [raiseVector_rcd])

theorem recStage_recorded (r : Record) (s : State) : Recorded s (recStage r s) := by
  have hdiscard : ∀ u : State, Recorded s u → Recorded s (recDiscard r.seq u) := fun u hu => by
    unfold recDiscard
    refine Recorded.raise (hu.then ?_ ?_) 92
    · exact ⟨rfl, rfl, rfl, rfl, rfl, fun _ h => h, rfl, rfl, fun _ h => h⟩
    · rfl
  have hseq : Recorded s { s with rcd := { s.rcd with seq := (s.rcd.seq + 1) % 2 ^ 32 } } :=
    ⟨⟨rfl, rfl, rfl, rfl, rfl, fun _ h => h, rfl, rfl, fun _ h => h⟩, rfl⟩
  have hlive : ∀ l, Recorded s { s with rcd := { s.rcd with seq := (s.rcd.seq + 1) % 2 ^ 32, live := l } } := fun l =>
    ⟨⟨rfl, rfl, rfl, rfl, rfl, fun _ h => h, rfl, rfl, fun _ h => h⟩, rfl⟩
  unfold recStage
  dsimp only
  split
  · exact hdiscard _ hseq
  · generalize (if recLive s.rcd.live + recSize r ≤ Config.recorderRoom then s.rcd.live
      else evictUpTo (recSize r) r.sev s.rcd.live) = kept
    split
    · split
      · exact (hlive _).raise 92
      · exact hlive _
    · exact hdiscard _ hseq

theorem recAdd_recorded (sev cls code origin textFlag subject arg0 arg1 : Nat) (detail : Bytes) (s : State) :
    Recorded s (recAdd sev cls code origin textFlag subject arg0 arg1 detail s) := recStage_recorded _ _

theorem note_recorded (sev cls : Nat) (name : Bytes) (subject arg0 arg1 : Nat) (s : State) :
    Recorded s (note sev cls name subject arg0 arg1 s) := recStage_recorded _ _

theorem recSummary_none {s : State} (h : s.rcd.owed = false) : recSummary s = s := if_neg (by simp [h])

/-! ### The real-time clock -/

@[simp] theorem rtcPort_setRtcPort_same (m : Master) (p : RtcPort) (s : State) : rtcPort (setRtcPort m p s).rtc m = p := by
  cases m <;> rfl

theorem setRtcPort_rtc_locked (m : Master) (p : RtcPort) (s : State) : (setRtcPort m p s).rtc.locked = s.rtc.locked := by
  cases m <;> rfl

/-- The freeze of a port ends by the time-out. -/
def rtcTimedOut (m : Master) (s : State) : State :=
  { setRtcPort m { rtcPort s.rtc m with frozen := none } s with
    rtc := { (setRtcPort m { rtcPort s.rtc m with frozen := none } s).rtc with stale := true } }

theorem execRtcFreezeTimeout_due {m : Master} {f : Instant} {s : State} (hlock : s.rtc.locked = false)
    (hf : (rtcPort s.rtc m).frozen = some f) :
    exec (.rtcFreezeTimeout m) s = .next (rtcTimedOut m (advanceTo (f + msU 2) s)) := by
  change execRtcFreezeTimeout _ s = _
  simp only [execRtcFreezeTimeout, hf, hlock]
  rfl

/-- Settles O36. -/
theorem clockReadsComplete : Obligations.ClockReadsComplete := by
  intro m i s hlive hlock
  refine ⟨fun hfree hi => ?_, fun f hf => ?_, fun f hf => ?_⟩
  · have hread : rtcReadT m s = rtcFreeze m s := if_neg (by simp [hfree, hlock])
    have hport : rtcPort (rtcFreeze m s).rtc m =
        { rtcPort s.rtc m with sh := rtcView s.rtc, shFlags := rtcFlags s.rtc, frozen := some (now s) } :=
      rtcPort_setRtcPort_same _ _ _
    have hlock' : (rtcFreeze m s).rtc.locked = false := (setRtcPort_rtc_locked _ _ _).trans hlock
    have hval : rtcShadow (rtcFreeze m s) m i = rtcReg (rtcView s.rtc) (rtcFlags s.rtc) i := by
      simp [rtcShadow, hport, hlock']
    refine ⟨emit (.readData m [rtcShadow (rtcFreeze m s) m i]) (rtcFreeze m s), ?_, hport, ?_, ?_⟩
    · change execRtcTReadFreeze _ _ s = _
      simp [execRtcTReadFreeze, hlive, hread, hi, done]
    · rw [emit_emitted, hval, rtcFreeze, setRtcPort_emitted]
    · rw [rtcFreeze]
      cases m <;> rfl
  · have hval : rtcShadow s m 7 = (rtcPort s.rtc m).shFlags := by simp [rtcShadow, rtcReg, hlock]
    refine ⟨rtcRelease m (emit (.readData m [rtcShadow s m 7]) s), ?_, ?_, ?_, ?_, ?_⟩
    · change execRtcT7ReadRelease _ s = _
      simp [execRtcT7ReadRelease, hlive, hf, hlock, done]
    · cases m <;> rfl
    · rfl
    · rw [hval]
      cases m <;> rfl
    · cases m <;> rfl
  · refine ⟨_, execRtcFreezeTimeout_due hlock hf, ?_, rfl, ?_⟩
    · cases m <;> rfl
    · have hnow : now (rtcTimedOut m (advanceTo (f + msU 2) s)) = now (advanceTo (f + msU 2) s) := by cases m <;> rfl
      exact hnow ▸ le_now_advanceTo s (f + msU 2)

theorem rtcCmdRecord_rtc (m : Master) (v st : Nat) (d : Bytes) (s : State) : (rtcCmdRecord m v st d s).rtc = s.rtc :=
  recStage_rtc _ _

theorem rtcCmdRecord_recorded (m : Master) (v st : Nat) (d : Bytes) (s : State) : Recorded s (rtcCmdRecord m v st d s) :=
  recStage_recorded _ _

theorem execRtcEndOfRange_due {s : State} (hend : s.rtc.rangeEnd = false)
    (hpast : rangeEndCount s.rtc.leaps * 32768 + 32767 ≤ s.rtc.sec * 32768 + s.rtc.sub) : exec .rtcEndOfRange s =
      .next (noteTime 5 nmRangeEnd (raiseVector 93 { s with rtc := { s.rtc with rangeEnd := true } })) :=
  if_pos ⟨by simp [hend], hpast⟩

/-- Settles O37. -/
theorem clockSettingAndEventsComplete : Obligations.ClockSettingAndEventsComplete := by
  refine ⟨fun m s hlive hlock => ⟨fun c hw hc => ?_, fun hw hc => ?_, fun c sub hw => ?_, ?_, ?_⟩,
    fun temp s => ⟨rfl, fun hend hpast => ?_, fun t0 ht => ?_, rfl⟩⟩
  · refine ⟨_, rfl, ?_, ?_⟩
    · simp [rtcSet, hlock, hw, hlive, hc, rtcCmdRecord_rtc]
    · simp only [rtcSet, hlock, hw, hlive, hc]
      exact (rtcCmdRecord_recorded _ _ _ _ _).seq
  · refine ⟨_, rfl, ?_, ?_⟩
    · simp [rtcSet, hlock, hw, hlive, hc, rtcCmdRecord_rtc]
    · simp only [rtcSet, hlock, hw, hlive, hc]
      exact (rtcCmdRecord_recorded _ _ _ _ _).seq
  · change execRtcSetCommit s = _
    simp [execRtcSetCommit, hw, done]
  · refine ⟨_, rfl, ?_, ?_⟩
    · simp [rtcMode, hlock, hlive, rtcCmdRecord_rtc]
    · simp only [rtcMode, hlock, hlive]
      exact (rtcCmdRecord_recorded _ _ _ _ _).seq
  · refine ⟨_, rfl, ?_, ?_⟩
    · simp [rtcMode, hlock, hlive, rtcCmdRecord_rtc]
    · simp only [rtcMode, hlock, hlive]
      exact (rtcCmdRecord_recorded _ _ _ _ _).seq
  · have hnote := note_recorded 5 3 nmRangeEnd (tbStatusWord (raiseVector 93 { s with rtc := { s.rtc with rangeEnd := true } }))
      (unsgn 32 (raiseVector 93 { s with rtc := { s.rtc with rangeEnd := true } }).tb.offsetNs)
      ((estErr (raiseVector 93 { s with rtc := { s.rtc with rangeEnd := true } })).getD 0xFFFFFFFF)
      (raiseVector 93 { s with rtc := { s.rtc with rangeEnd := true } })
    refine ⟨_, execRtcEndOfRange_due hend hpast, ?_, hnote.emitted _ ?_, ?_⟩
    · exact (note_rtc ..).trans (raiseVector_rtc ..)
    · rw [raiseVector_emitted]
      exact List.mem_cons_self
    · exact hnote.seq.trans (by rw [raiseVector_rcd])
  · refine ⟨_, by change execRtcLockRelease s = _; simp [execRtcLockRelease, ht]; rfl, rfl, rfl, rfl, rfl, ?_⟩
    exact le_now_advanceTo s t0

/-! ### The event recorder -/

theorem recMove_found {m : Master} {r : Record} {o : Option Record} {s : State} (h : o = some r) :
    recMove m o s = setRecCursor m { recCursor s m with copy := some r, edge := false, page := 0 } s := by
  subst h
  rfl

theorem recMove_edge {m : Master} {o : Option Record} {s : State} (h : o = none) :
    recMove m o s = setRecCursor m { recCursor s m with edge := true, page := 0 } s := by
  subst h
  rfl

theorem recNext_copy {m : Master} {c : Record} {s : State} (h : (recCursor s m).copy = some c) :
    recNext s m = s.rcd.live.find? fun r => decide (recAge s r.seq < recAge s c.seq) := by
  simp only [recNext, h]

theorem recPrev_copy {m : Master} {c : Record} {s : State} (h : (recCursor s m).copy = some c) :
    recPrev s m = s.rcd.live.reverse.find? fun r => decide (recAge s c.seq < recAge s r.seq) := by
  simp only [recPrev, h]

theorem recNext_empty {m : Master} {s : State} (h : s.rcd.live = []) : recNext s m = none := by
  unfold recNext
  split <;> simp [h]

theorem recPrev_empty {m : Master} {s : State} (h : s.rcd.live = []) : recPrev s m = none := by
  unfold recPrev
  split <;> simp [h]

/-- Settles O38. -/
theorem recorderCursorRowsComplete : Obligations.RecorderCursorRowsComplete := by
  intro m s hlive
  refine ⟨fun r hr => ?_, fun r hr => ?_, fun c r hc hr => ?_, fun c r hc hr => ?_, fun r hage hr => ?_, fun hnil => ?_⟩
  · exact congrArg _ ((if_pos hlive).trans (recMove_found hr))
  · exact congrArg _ ((if_pos hlive).trans (recMove_found hr))
  · exact congrArg _ ((if_pos hlive).trans (recMove_found ((recNext_copy hc).trans hr)))
  · exact congrArg _ ((if_pos hlive).trans (recMove_found ((recPrev_copy hc).trans hr)))
  · exact congrArg _ ((if_pos hlive).trans (recMove_found ((if_pos hage).trans hr)))
  · have hseek : recSeek s (recCursor s m).seek = none := by simp [recSeek, hnil]
    exact ⟨congrArg _ ((if_pos hlive).trans (recMove_edge (by simp [hnil]))),
      congrArg _ ((if_pos hlive).trans (recMove_edge (by simp [hnil]))),
      congrArg _ ((if_pos hlive).trans (recMove_edge (recNext_empty hnil))),
      congrArg _ ((if_pos hlive).trans (recMove_edge (recPrev_empty hnil))),
      congrArg _ ((if_pos hlive).trans (recMove_edge hseek))⟩

theorem recSummary_clearing (s : State) : (recSummary s).rcd.clearing = s.rcd.clearing := by
  unfold recSummary
  dsimp only
  split
  · have hsum := (recAdd_recorded 7 0 1 3 0 s.rcd.owedN s.rcd.owedFirst s.rcd.owedLast []
      { s with rcd := { s.rcd with owed := false, owedN := 0, owedFirst := 0, owedLast := 0 } }).clearing
    split
    · exact hsum
    · exact hsum
  · rfl

theorem clearStart_clearing {v : Nat} {o : Origin} {s : State} (h : s.rcd.clearing = []) :
    (clearStart v o s).rcd.clearing = [(v % 8, s.rcd.seq, o)] := by
  have hnone : ∀ a b c d e f g i j, (recAdd a b c d e f g i j s).rcd.clearing = [] := fun a b c d e f g i j =>
    (recAdd_recorded a b c d e f g i j s).clearing.trans h
  unfold clearStart
  dsimp only
  rw [recSummary_clearing]
  dsimp only
  rw [hnone]

/-- A sum that saturates is at least what either bound allows. -/
theorem min_le_satAdd {m a b n : Nat} (h : n ≤ a + b) : min m n ≤ satAdd m a b := by
  unfold satAdd
  split <;> omega

/-- Time passes until the operating time of the checkpoint is 60 s old. -/
theorem checkpoint_due {cp op ph : Nat} (d : Nat) (hd : d = if cp + 61440 - op = 0 then 0
      else ceilDiv ((cp + 61440 - op) * 2 ^ 64 - ph) 1024) : cp + 61440 ≤ op + (ph + d * 1024) / 2 ^ 64 := by
  by_cases hneed : cp + 61440 - op = 0
  · omega
  · rw [if_neg hneed, ceilDiv] at hd
    have hcover : (cp + 61440 - op) * 2 ^ 64 ≤ ph + d * 1024 := by omega
    have hquot := (Nat.le_div_iff_mul_le (Nat.two_pow_pos 64)).mpr hcover
    omega

theorem execOpTimeCheckpoint_on {s : State} (hps : s.pwr.ps ≠ .off) : exec .opTimeCheckpoint s = .next (recSummary (checkpoint
    (elapse (if s.rcd.checkpoint + 61440 - s.rcd.opTime = 0 then 0
      else ceilDiv ((s.rcd.checkpoint + 61440 - s.rcd.opTime) * 2 ^ 64 - s.rcd.opPhase) 1024) s))) := if_neg hps

theorem elapse_rcd {s : State} (d : Nat) (hps : s.pwr.ps ≠ .off) : (elapse d s).rcd = opElapse d s.rcd := if_neg hps

/-- Settles O39. -/
theorem recorderAndHousekeepingRowsComplete : Obligations.RecorderAndHousekeepingRowsComplete := by
  intro m v s
  refine ⟨fun hlive hkey hclr => ?_, fun hkey => ?_, fun sev q o hclr => ?_, fun r rs hl hst => ?_, fun hps howed => ?_,
    fun hup hq => ?_, fun c hc => ?_⟩
  · refine ⟨recClear m v.toNat s, congrArg _ (if_pos hlive), ?_⟩
    have hrun : recClear m v.toNat s = clearStart v.toNat (originMaster m) s := by simp [recClear, hkey, hclr]
    rw [hrun, clearStart_clearing hclr]
  · have hrun : recClear m v.toNat s = s := if_pos hkey
    change execRecClear _ _ s = _
    simp only [execRecClear, hrun, ite_self]
    rfl
  · refine ⟨{ s with rcd := { s.rcd with
      live := s.rcd.live.filter (fun r => decide (sev < r.sev) || decide (recAge s r.seq ≤ recAge s q)), clearing := [] } },
      ?_, rfl, fun r => ?_, rfl⟩
    · change execRecClearComplete s = _
      simp only [execRecClearComplete, hclr]
      rfl
    · simp [List.mem_filter]
  · change execRecNorProgram s = _
    simp [execRecNorProgram, hl, programOne, hst, done]
  · have howed' : (checkpoint (elapse (if s.rcd.checkpoint + 61440 - s.rcd.opTime = 0 then 0
        else ceilDiv ((s.rcd.checkpoint + 61440 - s.rcd.opTime) * 2 ^ 64 - s.rcd.opPhase) 1024) s)).rcd.owed = false := by
      rw [checkpoint]
      dsimp only
      rw [elapse_rcd _ hps]
      exact howed
    refine ⟨_, execOpTimeCheckpoint_on hps, ?_⟩
    rw [recSummary_none howed', checkpoint]
    dsimp only
    rw [elapse_rcd _ hps]
    exact ⟨rfl, min_le_satAdd (checkpoint_due _ rfl), rfl⟩
  · exact if_pos ⟨hup, hq⟩
  · refine ⟨dropChunk c.origin c.opcode c.target (advanceTo (c.last + 10 * secU) s), ?_, ?_, ?_⟩
    · change execChunkLoadTimeout _ _ _ s = _
      simp only [execChunkLoadTimeout, hc]
      rfl
    · exact le_now_advanceTo s (c.last + 10 * secU)
    · rw [dropChunk, advanceTo_cmd]

end Sys2Proof.Machine
end

section
/-! Power: what the reset, the cut and the start of the main side leave (18 R442-R459). -/

namespace Sys2Proof.Machine

/-! ### Pins -/

/-- Only pins and emissions change, and of the pins not those of the resets and of the supplies. -/
structure PinsMoved (s t : State) : Prop where
  only : t = { s with pins := t.pins, emitted := t.emitted }
  modRst : t.pins.modRst = s.pins.modRst
  phyRst : t.pins.phyRst = s.pins.phyRst
  pwrFail : t.pins.pwrFail = s.pins.pwrFail
  emitted : ∀ e ∈ s.emitted, e ∈ t.emitted

theorem PinsMoved.refl (s : State) : PinsMoved s s := ⟨rfl, rfl, rfl, rfl, fun _ h => h⟩

theorem PinsMoved.trans {s t u : State} (h : PinsMoved s t) (k : PinsMoved t u) : PinsMoved s u where
  only := k.only.trans (by rw [h.only])
  modRst := k.modRst.trans h.modRst
  phyRst := k.phyRst.trans h.phyRst
  pwrFail := k.pwrFail.trans h.pwrFail
  emitted e he := k.emitted e (h.emitted e he)

theorem PinsMoved.foldl {α : Type} {f : State → α → State} (hf : ∀ u a, PinsMoved u (f u a)) (l : List α) (s : State) :
    PinsMoved s (l.foldl f s) := by
  induction l generalizing s with
  | nil => exact .refl s
  | cons a l ih => exact (hf s a).trans (ih _)

theorem PinsMoved.noted {s t : State} (h : PinsMoved s t) : Noted s t := by
  have hr : t.rcd = s.rcd := by rw [h.only]
  have hg : t.glb = s.glb := by rw [h.only]
  exact ⟨by rw [hr], by rw [hr], by rw [hr], by rw [hr], by rw [hr], fun _ hb => hg ▸ hb, by rw [hg], by rw [hg], h.emitted⟩

/-- A pin changes, and an emission tells it. -/
theorem PinsMoved.of_emit {e : Emission} {p : Pins} {s : State} (h1 : p.modRst = s.pins.modRst) (h2 : p.phyRst = s.pins.phyRst)
    (h3 : p.pwrFail = s.pins.pwrFail) : PinsMoved s (emit e { s with pins := p }) :=
  ⟨rfl, h1, h2, h3, fun _ h => List.mem_cons_of_mem _ h⟩

theorem alarmPin_moved (s : State) : PinsMoved s (alarmPin s) := by
  unfold alarmPin
  dsimp only
  split
  · exact .refl s
  · exact .of_emit rfl rfl rfl

theorem readyPin_moved (s : State) : PinsMoved s (readyPin s) := by
  unfold readyPin
  dsimp only
  split
  · exact .refl s
  · exact .of_emit rfl rfl rfl

theorem pinsOff_moved (s : State) : PinsMoved s (pinsOff s) := by
  have hone : ∀ (u : State) (n : Nat), PinsMoved u (if u.pins.wasOut.getLsbD n then
      emit (.pin (wasOutName n) false (now u)) { u with pins := { u.pins with wasOut := setBit16 u.pins.wasOut n false } }
      else u) := fun u n => by
    split
    · exact .of_emit rfl rfl rfl
    · exact .refl u
  exact (PinsMoved.foldl hone _ s).trans (alarmPin_moved _)

/-- The detectors go, the pins fall, and ALARM_N with them. -/
theorem quietPins_moved (s : State) : PinsMoved { s with dets := [] } (alarmPin (pinsOff { s with dets := [] })) :=
  (pinsOff_moved _).trans (alarmPin_moved _)

theorem readyPin_modReady (s : State) : (readyPin s).pins.modReady = (mainUp s && !s.pwr.pwrFail) :=
  (spine_parts (readyPin_spine s)).2.2.2.2

theorem mainRail_eq (on : Bool) (s : State) : ∃ a, mainRail on s = { s with pwr := { s.pwr with mainUp := on, aonAlert := a } } := by
  unfold mainRail
  split
  · next h =>
    subst h
    exact ⟨s.pwr.aonAlert, rfl⟩
  · exact ⟨_, rfl⟩

/-! ### The main side is cut off -/

/-- The power state after a cut, AON_ALERT left out. -/
def cutPower (to_ : PState) (p : Power) (a : BitVec 4) : Power :=
  { p with ps := to_, mainOffWait := none, dormantWait := none, warmAt := false, startWait := none, stopWait := none
           swapWait := none, mainUp := false, aonAlert := a }

theorem mainCut_eq (to_ : PState) (s : State) : ∃ a p e, mainCut to_ s = { s with
    dets := [], gh := { s.gh with lockers := [], pairWait := none }, pwr := cutPower to_ s.pwr a, pins := p, emitted := e } := by
  have hquiet := (quietPins_moved s).only
  unfold mainCut
  dsimp only
  generalize alarmPin (pinsOff { s with dets := [] }) = u at hquiet ⊢
  obtain ⟨a, hrail⟩ := mainRail_eq false (emptyLockers { u with
    pins := { u.pins with hbOut := false, wasOutReq := 0 }
    pwr := { u.pwr with ps := to_, mainOffWait := none, dormantWait := none, warmAt := false, startWait := none, stopWait := none
                        swapWait := none } })
  generalize mainRail false _ = v at hrail ⊢
  refine ⟨a, (readyPin v).pins, (readyPin v).emitted, (readyPin_moved v).only.trans ?_⟩
  generalize readyPin v = w
  rw [hrail, hquiet]
  rfl

/-! ### The main side is reset -/

/-- What a reset of the main side leaves. -/
structure MainReset (warm wake : Bool) (s t : State) : Prop where
  pwr : t.pwr = { s.pwr with
    fwFault := false, recovery := false, fwImg := none, mainOffWait := none, dormantWait := none, warmAt := false
    startWait := none, stopWait := none, swapWait := none, firstRefusal := [], configAmbiguous := false }
  rcd : t.rcd = { s.rcd with host := {}, mgp := { s.rcd.mgp with page := 0, seek := 0 } }
  cnt : t.cnt = if warm then s.cnt else []
  wake : t.wake = if warm || wake then s.wake else []
  scratch : t.glb.scratch = if warm then s.glb.scratch else 0
  role : t.cas.role = if warm then s.cas.role else .solo
  lockers : t.gh.lockers = []
  modRst : t.pins.modRst = s.pins.modRst

theorem resetMain_reset (warm wake : Bool) (s : State) : MainReset warm wake s (resetMain warm wake s) := by
  have hmoved := quietPins_moved s
  unfold resetMain
  dsimp only
  generalize alarmPin (pinsOff { s with dets := [] }) = u at hmoved ⊢
  have hu := hmoved.only
  have hmod : u.pins.modRst = s.pins.modRst := hmoved.modRst
  constructor
  case modRst => exact hmod
  case lockers => rfl
  all_goals
    rw [hu]
    rfl

/-! ### The main side starts -/

theorem startImage_pwr (s : State) : ∃ i f a, (startImage s).pwr = { s.pwr with fwImg := i, fellBack := f, configAmbiguous := a } := by
  unfold startImage
  split
  · next b fell h => exact ⟨some (b2n b), fell, _, by cases b <;> rfl⟩
  · exact ⟨none, false, s.pwr.configAmbiguous, rfl⟩

theorem driveIntent_noted (fresh : Bool) (e : Nat × Nat) (s : State) : Noted s (driveIntent fresh e s).2 :=
  .of_eq ((driveIntent_same fresh e s).keeps .rcd rfl).symm ((driveIntent_same fresh e s).keeps .glb rfl).symm
    ((driveIntent_same fresh e s).keeps .emitted rfl).symm

theorem bootIntents_noted (s : State) : Noted s (bootIntents s) := by
  have hone : ∀ (u : State) (e : Nat × Nat), Noted u (if (driveIntent false e u).1.1 then
      noteGate 7 (if (driveIntent false e u).1.2 then nmIntentReburn else nmIntentCompleted) e.1
        (generation (driveIntent false e u).2 e.1) 0 (driveIntent false e u).2 else (driveIntent false e u).2) := fun u e => by
    split
    · exact (driveIntent_noted false e u).trans (recAdd_recorded ..).toNoted
    · exact driveIntent_noted false e u
  have hall : ∀ (l : List (Nat × Nat)) (u : State), Noted u (l.foldl (fun u e => if (driveIntent false e u).1.1 then
      noteGate 7 (if (driveIntent false e u).1.2 then nmIntentReburn else nmIntentCompleted) e.1
        (generation (driveIntent false e u).2 e.1) 0 (driveIntent false e u).2 else (driveIntent false e u).2) u) := fun l => by
    induction l with
    | nil => exact fun u => .refl u
    | cons e l ih => exact fun u => (hone u e).trans (ih _)
  exact hall _ s

/-- What a start of the main side leaves; kind 2 is a wake, kind 3 a warm reset. -/
structure Booted (kind : Nat) (s t : State) : Prop where
  ps : t.pwr.ps = .boot
  bootKind : t.pwr.bootKind = kind
  vinOk : t.pwr.vinOk = s.pwr.vinOk
  cycles : t.rcd.cycles = if kind = 1 ∨ kind = 2 then satAdd (2 ^ 24 - 1) s.rcd.cycles 1 else s.rcd.cycles
  modRst : t.pins.modRst = s.pins.modRst
  wake : kind = 2 ∨ kind = 3 → t.wake = s.wake
  lockers : 2 ≤ kind → t.gh.lockers = []
  cnt : kind = 3 → t.cnt = s.cnt
  scratch : kind = 3 → t.glb.scratch = s.glb.scratch
  role : kind = 3 → t.cas.role = s.cas.role

/-- The main side with its rail up, before an image is chosen. -/
def railUp (kind : Nat) (s : State) : State :=
  readyPin (mainRail true { s with pwr := { s.pwr with ps := .boot, bootKind := kind, keptFuses := false, tripped := false } })

theorem railUp_eq (kind : Nat) (s : State) : ∃ a p e, railUp kind s = { s with
      pwr := { s.pwr with ps := .boot, bootKind := kind, keptFuses := false, tripped := false, mainUp := true, aonAlert := a }
      pins := p, emitted := e } ∧ p.modRst = s.pins.modRst := by
  unfold railUp
  obtain ⟨a, hrail⟩ := mainRail_eq true { s with
    pwr := { s.pwr with ps := .boot, bootKind := kind, keptFuses := false, tripped := false } }
  generalize mainRail true _ = v at hrail ⊢
  have hmod : v.pins.modRst = s.pins.modRst := by rw [hrail]
  refine ⟨a, (readyPin v).pins, (readyPin v).emitted, (readyPin_moved v).only.trans ?_, (readyPin_moved v).modRst.trans hmod⟩
  generalize readyPin v = w
  rw [hrail]

/-- The start after the reset: the rail rises, pending intents are completed, and an image is chosen. -/
def bootFrom (kind : Nat) (x : State) : State := startImage (if kind ≤ 1 then bootIntents (railUp kind x) else railUp kind x)

/-- The intents leave the power state but for AON_ALERT, the pins and what a start of another kind would keep. -/
theorem bootFrom_booted (kind : Nat) (x : State) : (bootFrom kind x).pwr.ps = .boot ∧ (bootFrom kind x).pwr.bootKind = kind ∧
    (bootFrom kind x).pwr.vinOk = x.pwr.vinOk ∧ (bootFrom kind x).rcd.cycles = x.rcd.cycles ∧
    (bootFrom kind x).pins.modRst = x.pins.modRst ∧ (bootFrom kind x).wake = x.wake := by
  obtain ⟨a, p, e, hrail, hmod⟩ := railUp_eq kind x
  have hv : ∀ v, v = (if kind ≤ 1 then bootIntents (railUp kind x) else railUp kind x) → v.pwr.ps = .boot ∧
      v.pwr.bootKind = kind ∧ v.pwr.vinOk = x.pwr.vinOk ∧ v.rcd.cycles = x.rcd.cycles ∧ v.pins.modRst = x.pins.modRst ∧
      v.wake = x.wake := by
    rintro v rfl
    split
    · have hpwr := (bootIntents_same (railUp kind x)).keeps .pwr rfl
      have hpins := (bootIntents_same (railUp kind x)).keeps .pins rfl
      have hwake := (bootIntents_same (railUp kind x)).keeps .wake rfl
      refine ⟨(congrArg Power.ps hpwr).symm.trans ?_, (congrArg Power.bootKind hpwr).symm.trans ?_,
        (congrArg Power.vinOk hpwr).symm.trans ?_, (bootIntents_noted (railUp kind x)).cycles.trans ?_,
        (congrArg Pins.modRst hpins).symm.trans ?_, hwake.symm.trans ?_⟩ <;> rw [hrail]
      exact hmod
    · rw [hrail]
      exact ⟨rfl, rfl, rfl, rfl, hmod, rfl⟩
  obtain ⟨hps, hkind, hvin, hcycles, hmodRst, hwake⟩ := hv _ rfl
  unfold bootFrom
  generalize (if kind ≤ 1 then bootIntents (railUp kind x) else railUp kind x) = v at *
  obtain ⟨i, f, c, himg⟩ := startImage_pwr v
  rw [himg, ← (startImage_same v).keeps .rcd rfl, ← (startImage_same v).keeps .pins rfl, ← (startImage_same v).keeps .wake rfl]
  exact ⟨hps, hkind, hvin, hcycles, hmodRst, hwake⟩

/-- A wake and a warm reset complete no intents. -/
theorem bootFrom_kept {kind : Nat} (hk : 2 ≤ kind) (x : State) : (bootFrom kind x).gh = x.gh ∧ (bootFrom kind x).cnt = x.cnt ∧
    (bootFrom kind x).glb = x.glb ∧ (bootFrom kind x).cas = x.cas := by
  obtain ⟨a, p, e, hrail, -⟩ := railUp_eq kind x
  have hlate : ¬ kind ≤ 1 := by omega
  have hgh : ∀ v : State, (startImage v).gh = v.gh := fun v => by
    unfold startImage
    split
    · next b fell h => cases b <;> rfl
    · rfl
  unfold bootFrom
  rw [if_neg hlate, hgh, ← (startImage_same (railUp kind x)).keeps .cnt rfl, ← (startImage_same (railUp kind x)).keeps .glb rfl,
    ← (startImage_same (railUp kind x)).keeps .cas rfl, hrail]
  exact ⟨rfl, rfl, rfl, rfl⟩

theorem startBoot_booted (kind : Nat) (s : State) : Booted kind s (startBoot kind s) := by
  obtain ⟨hpwr, hrcd, hcnt, hwake, hscratch, hrole, hlockers, hmod⟩ := resetMain_reset (kind = 3) (kind = 2) s
  have hx : ∀ x, x = (if kind = 1 ∨ kind = 2 then powerCycle (resetMain (kind = 3) (kind = 2) s)
      else resetMain (kind = 3) (kind = 2) s) → startBoot kind s = bootFrom kind x := by
    rintro x rfl
    rfl
  generalize resetMain (kind = 3) (kind = 2) s = r at *
  by_cases hc : kind = 1 ∨ kind = 2
  · rw [hx _ rfl, if_pos hc]
    obtain ⟨bps, bkind, bvin, bcyc, bmod, bwake⟩ := bootFrom_booted kind (powerCycle r)
    refine ⟨bps, bkind, bvin.trans (by rw [powerCycle, hpwr]), bcyc.trans (by rw [if_pos hc, powerCycle, hrcd]), bmod.trans hmod,
      fun hk => bwake.trans (hwake.trans ?_), fun hk => ?_, fun hk => ?_, fun hk => ?_, fun hk => ?_⟩
    · rcases hk with rfl | rfl <;> rfl
    · rw [(bootFrom_kept hk _).1]
      exact hlockers
    all_goals omega
  · rw [hx _ rfl, if_neg hc]
    obtain ⟨bps, bkind, bvin, bcyc, bmod, bwake⟩ := bootFrom_booted kind r
    refine ⟨bps, bkind, bvin.trans (by rw [hpwr]), bcyc.trans (by rw [if_neg hc, hrcd]), bmod.trans hmod,
      fun hk => bwake.trans (hwake.trans ?_), fun hk => ?_, fun hk => ?_, fun hk => ?_, fun hk => ?_⟩
    · rcases hk with rfl | rfl <;> rfl
    · rw [(bootFrom_kept hk _).1]
      exact hlockers
    · subst hk
      rw [(bootFrom_kept (by decide) _).2.1]
      exact hcnt
    · subst hk
      rw [(bootFrom_kept (by decide) _).2.2.1]
      exact hscratch
    · subst hk
      rw [(bootFrom_kept (by decide) _).2.2.2]
      exact hrole

end Sys2Proof.Machine
end

section
/-! The requests of the power state and its transitions (02 R44, 18 R442-R459). -/

namespace Sys2Proof.Machine

theorem aonRecord_only (c v st : Nat) (s : State) : aonRecord c v st s =
    { s with rcd := (aonRecord c v st s).rcd, glb := (aonRecord c v st s).glb, emitted := (aonRecord c v st s).emitted } :=
  recStage_only _ _

theorem aonRecord_recorded (c v st : Nat) (s : State) : Recorded s (aonRecord c v st s) := recAdd_recorded ..

@[simp] theorem aonRecord_pwr (c v st : Nat) (s : State) : (aonRecord c v st s).pwr = s.pwr := recStage_pwr _ _
@[simp] theorem aonRecord_pins (c v st : Nat) (s : State) : (aonRecord c v st s).pins = s.pins := recStage_pins _ _
@[simp] theorem aonRecord_cas (c v st : Nat) (s : State) : (aonRecord c v st s).cas = s.cas := recStage_cas _ _
@[simp] theorem aonRecord_wake (c v st : Nat) (s : State) : (aonRecord c v st s).wake = s.wake := recStage_wake _ _

theorem budget_congr {s t : State} (hA : t.pwr.pdA = s.pwr.pdA) (hB : t.pwr.pdB = s.pwr.pdB) (hv : t.pwr.vinOk = s.pwr.vinOk) :
    budget t = budget s := by simp only [budget, hA, hB, hv]

theorem mainUp_aonRecord (c v st : Nat) (s : State) : mainUp (aonRecord c v st s) = mainUp s := by simp [mainUp]

theorem ne_off_of_mainUp {s : State} (h : mainUp s = true) : s.pwr.ps ≠ .off := by
  intro hps
  simp [mainUp, hps] at h

theorem ne_boot_of_mainUp {s : State} (h : mainUp s = true) : s.pwr.ps ≠ .boot := by
  intro hps
  simp [mainUp, hps] at h

theorem budget_aonRecord (c v st : Nat) (s : State) : budget (aonRecord c v st s) = budget s :=
  budget_congr (by rw [aonRecord_pwr]) (by rw [aonRecord_pwr]) (by rw [aonRecord_pwr])

section
variable {v : Nat} {s : State} (hoff : s.pwr.ps ≠ .off) (hboot : s.pwr.ps ≠ .boot)
include hoff hboot

theorem aonPwr_on : aonPwr v 1 s =
    if (mainOn (aonRecord 0xF003 v (if budget s = 0 then 0x0302 else 0) s)).1 = 0 then
      (mainOn (aonRecord 0xF003 v (if budget s = 0 then 0x0302 else 0) s)).2
    else aonRecord 0xF003 v (mainOn (aonRecord 0xF003 v (if budget s = 0 then 0x0302 else 0) s)).1 s := by
  unfold aonPwr
  rw [if_neg hoff, if_neg hboot]
  rfl

theorem aonPwr_off : aonPwr v 2 s = mainOff (aonRecord 0xF003 v 0 s) := by
  unfold aonPwr
  rw [if_neg hoff, if_neg hboot]
  rfl

theorem aonPwr_dormant : aonPwr v 3 s =
    if dormantRefused s ∨ !mainUp s then aonRecord 0xF003 v (if dormantRefused s then 0x0302 else 0) s
    else dormantRequest none (aonRecord 0xF003 v 0 s) := by
  unfold aonPwr
  rw [if_neg hoff, if_neg hboot]
  rfl

end

/-- MAIN_ON with a budget starts the main side: by a cold boot in AON_ONLY and by a wake in DORMANT. -/
theorem aonPwr_mainOn {v k : Nat} {s : State} (hb : budget s ≠ 0)
    (hk : s.pwr.ps = .aonOnly ∧ s.pins.modRst = false ∧ k = 1 ∨ s.pwr.ps = .dormant ∧ k = 2) :
    aonPwr v 1 s = startBoot k (aonRecord 0xF003 v 0 s) := by
  have hbudget : budget (aonRecord 0xF003 v 0 s) ≠ 0 := by rwa [budget_aonRecord]
  rcases hk with ⟨hps, hmod, rfl⟩ | ⟨hps, rfl⟩
  · rw [aonPwr_on (by simp [hps]) (by simp [hps])]
    simp [hb, mainOn, hbudget, hps, hmod]
  · rw [aonPwr_on (by simp [hps]) (by simp [hps])]
    simp [hb, mainOn, hbudget, hps]

theorem aonPwr_noBudget {v : Nat} {s : State} (hoff : s.pwr.ps ≠ .off) (hboot : s.pwr.ps ≠ .boot) (hb : budget s = 0) :
    aonPwr v 1 s = aonRecord 0xF003 v 0x0302 s := by
  have hbudget : budget (aonRecord 0xF003 v 0x0302 s) = 0 := by rwa [budget_aonRecord]
  rw [aonPwr_on hoff hboot]
  simp [hb, mainOn, hbudget]

theorem Booted.ofRecord {kind : Nat} {s t u : State} (h : Booted kind t u) (k : Recorded s t) (hcycle : kind = 1 ∨ kind = 2) :
    u.rcd.cycles = satAdd (2 ^ 24 - 1) s.rcd.cycles 1 := by rw [h.cycles, if_pos hcycle, k.cycles]

theorem tryBoot_budget {kind : Nat} {s : State} (h : budget s ≠ 0) : tryBoot kind s = startBoot kind s := if_neg h

theorem stopFirst_idle {s : State} (h : s.pwr.ps = .idle) : stopFirst s = s := if_neg (by simp [inRun, h])

theorem programAll_staged (s : State) : ∀ r ∈ (programAll s).rcd.live, r.staged = false := by
  intro r hr
  obtain ⟨q, -, rfl⟩ := List.mem_map.mp hr
  rfl

theorem mainUp_idle {s : State} (h : s.pwr.ps = .idle) : mainUp s = true := by simp [mainUp, h]

/-- AON_RESET_COLD with a budget. -/
theorem aonCold_boots {s : State} (hoff : s.pwr.ps ≠ .off) (htrip : s.pwr.tripped = false) (hmod : s.pins.modRst = false)
    (hb : budget s ≠ 0) : ∃ u, aonCold 1 s = startBoot 1 u := by
  have hgo : ¬((aonRecord 0xF004 1 0 s).pwr.tripped = true ∨ (aonRecord 0xF004 1 0 s).pins.modRst = true) := by simp [htrip, hmod]
  have hbudget : budget (if (aonRecord 0xF004 1 0 s).pwr.ps = .aonOnly then aonRecord 0xF004 1 0 s
      else mainCut .aonOnly (aonRecord 0xF004 1 0 s)) ≠ 0 := by
    split
    · rwa [budget_aonRecord]
    · obtain ⟨a, p, e, hcut⟩ := mainCut_eq .aonOnly (aonRecord 0xF004 1 0 s)
      rw [budget_congr (s := s) (by rw [hcut, cutPower, aonRecord_pwr]) (by rw [hcut, cutPower, aonRecord_pwr])
        (by rw [hcut, cutPower, aonRecord_pwr])]
      exact hb
  exact ⟨_, ((if_neg hoff).trans (if_neg hgo)).trans (tryBoot_budget hbudget)⟩

theorem execWarmResetExecute_due {s : State} (hup : mainUp s = true) (hw : s.pwr.warmAt = true) (hs : s.cas.switchAt = none) :
    exec .warmResetExecute s = .next (startBoot 3 s) := congrArg _ (if_pos ⟨hw, hup, by rw [hs]; rfl⟩)

theorem execMainOffEffect_idle {s : State} (hps : s.pwr.ps = .idle) (hw : s.pwr.mainOffWait.isSome = true) :
    exec .mainOffEffect s = .next (mainCut .aonOnly s) := by
  refine (if_pos ⟨hw, .inl (mainUp_idle hps)⟩).trans ?_
  rw [stopFirst_idle hps]
  rfl

theorem execDormantEntry_idle {s : State} (hps : s.pwr.ps = .idle) (hw : s.pwr.dormantWait = some none)
    (hs : s.cas.switchAt = none) : exec .dormantEntry s = .next (mainCut .dormant
      { programAll (checkpoint s) with pwr := { (programAll (checkpoint s)).pwr with keptFuses := true } }) := by
  change execDormantEntry s = _
  simp only [execDormantEntry, hw]
  rw [if_pos ⟨mainUp_idle hps, by rw [hs]; rfl⟩, stopFirst_idle hps]
  rfl

/-- Settles O40. -/
theorem powerRequestsAndTransitionsComplete : Obligations.PowerRequestsAndTransitionsComplete := by
  refine ⟨fun s => ⟨fun hps hb hmod => ?_, fun hps hb => ?_, fun hps hb => ?_, fun hup => ?_, fun hup href hrole => ?_,
    fun hoff htrip hmod hb => ?_, fun hup hrole => ?_, fun hps => ?_⟩, fun s => ⟨fun hps hw => ?_, fun hup hw hs => ?_,
    fun hps hw hs => ?_⟩⟩
  · have hboot := startBoot_booted 1 (aonRecord 0xF003 1 0 s)
    refine ⟨_, congrArg done (aonPwr_mainOn (v := 1) hb (.inl ⟨hps, hmod, rfl⟩)), hboot.ps, hboot.bootKind, ?_⟩
    exact hboot.ofRecord (aonRecord_recorded ..) (.inl rfl)
  · have hboot := startBoot_booted 2 (aonRecord 0xF003 1 0 s)
    refine ⟨_, congrArg done (aonPwr_mainOn (v := 1) hb (.inr ⟨hps, rfl⟩)), hboot.ps, hboot.bootKind, ?_, ?_⟩
    · exact (hboot.wake (.inl rfl)).trans (aonRecord_wake ..)
    · exact hboot.ofRecord (aonRecord_recorded ..) (.inr rfl)
  · refine ⟨_, congrArg done (aonPwr_noBudget (v := 1) ?_ ?_ hb), aonRecord_only _ _ _ _⟩ <;> rcases hps with hps | hps <;> simp [hps]
  · refine ⟨mainOff (aonRecord 0xF003 2 0 s), congrArg done (aonPwr_off (v := 2) (ne_off_of_mainUp hup) (ne_boot_of_mainUp hup)), ?_⟩
    rw [mainOff, mainUp_aonRecord, hup, if_pos rfl, aonRecord_only]
  · have hreq : dormantRequest none (aonRecord 0xF003 3 0 s) =
        { aonRecord 0xF003 3 0 s with pwr := { (aonRecord 0xF003 3 0 s).pwr with dormantWait := some none } } :=
      handoverFirst_of_not_active (by simpa using hrole)
    refine ⟨_, congrArg done ((aonPwr_dormant (v := 3) (ne_off_of_mainUp hup) (ne_boot_of_mainUp hup)).trans
      ((if_neg (by simp [href, hup])).trans hreq)), ?_⟩
    rw [aonRecord_only]
  · obtain ⟨u, hu⟩ := aonCold_boots hoff htrip hmod hb
    exact ⟨_, congrArg done hu, (startBoot_booted 1 u).ps, (startBoot_booted 1 u).bootKind⟩
  · have hreq : warmRequest (aonRecord 0xF004 2 0 s) =
        { aonRecord 0xF004 2 0 s with pwr := { (aonRecord 0xF004 2 0 s).pwr with warmAt := true } } :=
      handoverFirst_of_not_active (by simpa using hrole)
    have hboot : (aonRecord 0xF004 2 0 s).pwr.ps ≠ .boot := by simpa using ne_boot_of_mainUp hup
    refine ⟨_, congrArg done ((if_neg (ne_off_of_mainUp hup)).trans ((if_neg hboot).trans
      ((if_pos ((mainUp_aonRecord ..).trans hup)).trans hreq))), ?_⟩
    rw [aonRecord_only]
  · have hoff : s.pwr.ps ≠ .off := by simp [hps]
    have hboot := startBoot_booted 3 (aonRecord 0xF004 2 0 s)
    exact ⟨_, congrArg done ((if_neg hoff).trans (if_pos (by simpa using hps))), hboot.ps, hboot.bootKind⟩
  · obtain ⟨a, p, e, hcut⟩ := mainCut_eq .aonOnly s
    refine ⟨_, execMainOffEffect_idle hps hw, ?_⟩
    rw [hcut]
    exact ⟨rfl, rfl, rfl, rfl⟩
  · have hboot := startBoot_booted 3 s
    exact ⟨_, execWarmResetExecute_due hup hw hs, hboot.ps, hboot.bootKind, hboot.cnt rfl, hboot.scratch rfl, hboot.role rfl,
      hboot.wake (.inr rfl), hboot.lockers (by decide)⟩
  · obtain ⟨a, p, e, hcut⟩ := mainCut_eq .dormant
      { programAll (checkpoint s) with pwr := { (programAll (checkpoint s)).pwr with keptFuses := true } }
    refine ⟨_, execDormantEntry_idle hps hw hs, ?_⟩
    rw [hcut]
    exact ⟨rfl, rfl, rfl, rfl, programAll_staged _, rfl⟩

end Sys2Proof.Machine
end

section
/-! The supplies, the early warning, temperature, the boot and the reset pins (18). -/

namespace Sys2Proof.Machine

/-! ### A declared fault -/

theorem noteCas_recorded (sev : Nat) (name : Bytes) (s : State) : Recorded s (noteCas sev name s) := note_recorded ..

theorem roleTo_noted (r : Role) (sev : Nat) (name : Bytes) (s : State) : Noted s (roleTo r sev name s) := by
  unfold roleTo
  split
  · exact .refl s
  · refine Noted.trans ?_ (noteCas_recorded sev name _).toNoted
    refine Noted.trans ?_ (setCasIrq_noted 0 _)
    exact .of_eq rfl rfl rfl

theorem roleTo_pwrFail (r : Role) (sev : Nat) (name : Bytes) (s : State) : (roleTo r sev name s).pins.pwrFail = s.pins.pwrFail := by
  unfold roleTo
  split
  · rfl
  · rw [noteCas, note_pins, setCasIrq_pins]

theorem dropExchange_noted (s : State) : Noted s (dropExchange s) := .of_eq rfl rfl rfl

theorem toStalemate_noted (sev : Nat) (name : Bytes) (s : State) : Noted s (toStalemate sev name s) := by
  have hdrop : Noted s (if s.cas.role = .active then dropExchange s else s) := by
    split
    · exact dropExchange_noted s
    · exact .refl s
  unfold toStalemate
  dsimp only
  refine Noted.trans ?_ (pinsOff_moved _).noted
  refine (hdrop.trans (roleTo_noted .stalemate sev name _)).trans ?_
  exact .of_eq rfl rfl rfl

theorem toStalemate_pwrFail (sev : Nat) (name : Bytes) (s : State) :
    (toStalemate sev name s).pins.pwrFail = s.pins.pwrFail := by
  have hdrop : (if s.cas.role = .active then dropExchange s else s).pins = s.pins := by
    split
    · exact ((dropExchange_same s).keeps .pins rfl).symm
    · rfl
  unfold toStalemate
  dsimp only
  refine (pinsOff_moved _).pwrFail.trans ?_
  exact (roleTo_pwrFail ..).trans (congrArg Pins.pwrFail hdrop)

theorem declareFault_noted (c : Nat) (s : State) : Noted s (declareFault c s) := by
  unfold declareFault
  split
  · exact .refl s
  · split
    · exact (noteCas_recorded ..).toNoted
    · refine Noted.trans ?_ (toStalemate_noted ..)
      dsimp only
      split
      · refine Noted.trans ?_ (emit_noted _ _)
        exact .of_eq rfl rfl rfl
      · exact .of_eq rfl rfl rfl

theorem declareFault_pwrFail (c : Nat) (s : State) : (declareFault c s).pins.pwrFail = s.pins.pwrFail := by
  unfold declareFault
  split
  · rfl
  · split
    · rw [noteCas, note_pins]
    · refine (toStalemate_pwrFail ..).trans ?_
      dsimp only
      split <;> rfl

/-! ### Supplies -/

theorem notePower_recorded (sev : Nat) (name : Bytes) (c : Nat) (s : State) : Recorded s (notePower sev name c s) := note_recorded ..

@[simp] theorem notePower_pwr (sev : Nat) (name : Bytes) (c : Nat) (s : State) : (notePower sev name c s).pwr = s.pwr := note_pwr ..
@[simp] theorem notePower_pins (sev : Nat) (name : Bytes) (c : Nat) (s : State) : (notePower sev name c s).pins = s.pins :=
  note_pins ..
@[simp] theorem notePower_rtc (sev : Nat) (name : Bytes) (c : Nat) (s : State) : (notePower sev name c s).rtc = s.rtc := note_rtc ..

theorem recSummary_noted (s : State) : Noted s (recSummary s) := by
  have hpaid : Noted s { s with rcd := { s.rcd with owed := false, owedN := 0, owedFirst := 0, owedLast := 0 } } :=
    ⟨rfl, rfl, rfl, rfl, rfl, fun _ h => h, rfl, rfl, fun _ h => h⟩
  have hsum := hpaid.trans (recAdd_recorded 7 0 1 3 0 s.rcd.owedN s.rcd.owedFirst s.rcd.owedLast []
    { s with rcd := { s.rcd with owed := false, owedN := 0, owedFirst := 0, owedLast := 0 } }).toNoted
  unfold recSummary
  dsimp only
  split
  · split
    · exact ⟨hsum.clearing, hsum.cycles, hsum.opTime, hsum.checkpoint, hsum.suspended, hsum.irq, hsum.temp, hsum.scratch, hsum.emitted⟩
    · exact hsum
  · exact .refl s

@[simp] theorem recSummary_pwr (s : State) : (recSummary s).pwr = s.pwr := by
  unfold recSummary
  dsimp only
  split
  · split
    · exact recStage_pwr _ _
    · exact recStage_pwr _ _
  · rfl

/-- The always-on domain as a good supply starts it, before the main side. -/
def aonStarted (hold : Bool) (s : State) : State :=
  powerCycle { resetMain false false s with
    rcd := { (resetMain false false s).rcd with
      opTime := (resetMain false false s).rcd.checkpoint, opPhase := 0, suspended := false, clearing := [], mgp := {} }
    pwr := { (resetMain false false s).pwr with
      ps := .aonOnly, vinOk := true, mainUp := false, pwrFail := false, aonAlert := 0, aonAlertEn := 1
      strapHold := hold, tripped := false, keptFuses := false, bistFail := false }
    pins := { (resetMain false false s).pins with bootSel0 := hold, pwrFail := false }
    rtc := if (resetMain false false s).rtc.locked then
        { (resetMain false false s).rtc with unlockAt := some (now (resetMain false false s) + msU 5) }
      else (resetMain false false s).rtc }

theorem execVinGood_off {hold : Bool} {s : State} (hv : s.pwr.vinOk = false) : exec (.vinGood { hold := hold }) s =
    .next (if hold then recSummary (readyPin (aonStarted hold s)) else tryBoot 0 (recSummary (readyPin (aonStarted hold s)))) :=
  if_neg (by simp [hv])

/-- What the summary and MOD_READY leave of the started domain. -/
theorem aonStarted_ready (hold : Bool) (s : State) : (recSummary (readyPin (aonStarted hold s))).pwr = (aonStarted hold s).pwr ∧
    (recSummary (readyPin (aonStarted hold s))).rcd.cycles = satAdd (2 ^ 24 - 1) s.rcd.cycles 1 ∧
    (recSummary (readyPin (aonStarted hold s))).rcd.opTime = s.rcd.checkpoint := by
  have hready := readyPin_moved (aonStarted hold s)
  have hnoted := hready.noted.trans (recSummary_noted (readyPin (aonStarted hold s)))
  have hrcd := (resetMain_reset false false s).rcd
  refine ⟨?_, hnoted.cycles.trans ?_, hnoted.opTime.trans ?_⟩
  · rw [recSummary_pwr, hready.only]
  · rw [aonStarted, powerCycle, hrcd]
  · rw [aonStarted, powerCycle, hrcd]

theorem budget_of_pwr {s t : State} (h : t.pwr = s.pwr) : budget t = budget s := by simp only [budget, h]

theorem aonStarted_budget {hold : Bool} {s : State} (hA : s.pwr.pdA.delivering = false) (hB : s.pwr.pdB.delivering = false) :
    budget (recSummary (readyPin (aonStarted hold s))) ≠ 0 := by
  obtain ⟨hpwr, -, -⟩ := aonStarted_ready hold s
  have hreset := (resetMain_reset false false s).pwr
  have hstart : (aonStarted hold s).pwr.pdA = s.pwr.pdA ∧ (aonStarted hold s).pwr.pdB = s.pwr.pdB ∧
      (aonStarted hold s).pwr.vinOk = true := by
    rw [aonStarted, powerCycle, hreset]
    exact ⟨rfl, rfl, rfl⟩
  obtain ⟨hpA, hpB, hvin⟩ := hstart
  rw [budget_of_pwr hpwr]
  simp [budget, hpA, hpB, hvin, hA, hB]

theorem loseStaged_eq (s : State) : ∃ r, loseStaged s = { s with rcd := r } ∧ r.live = s.rcd.live.filter (!·.staged) := by
  unfold loseStaged
  dsimp only
  split
  · exact ⟨_, rfl, rfl⟩
  · exact ⟨_, rfl, rfl⟩

theorem rtcLock_eq (s : State) : ∃ r, rtcLock s = { s with rtc := r } ∧ r.locked = true ∧ r.setWait = none := by
  have hone : ∀ (m : Master) (u : State), ∃ r, (if (rtcPort u.rtc m).frozen.isSome then u else rtcFreeze m u) = { u with rtc := r } :=
    fun m u => by
      split
      · exact ⟨u.rtc, rfl⟩
      · cases m <;> exact ⟨_, rfl⟩
  obtain ⟨r1, h1⟩ := hone .host s
  obtain ⟨r2, h2⟩ := hone .mgp { s with rtc := r1 }
  unfold rtcLock
  dsimp only
  rw [h1, h2]
  exact ⟨_, rfl, rfl, rfl⟩

theorem pdOf_setPd_same (b : Bool) (p : Pd) (s : State) : pdOf (setPd b p s) b = p := by cases b <;> rfl

theorem pdOf_setPd_other (b : Bool) (p : Pd) (s : State) : pdOf (setPd b p s) (!b) = pdOf s (!b) := by cases b <;> rfl

theorem pdOf_congr {s t : State} (h : t.pwr = s.pwr) (b : Bool) : pdOf t b = pdOf s b := by simp only [pdOf, h]

theorem setPd_mainUp (b : Bool) (p : Pd) (s : State) : (setPd b p s).pwr.mainUp = s.pwr.mainUp := by cases b <;> rfl

theorem setPd_mainOffWait (b : Bool) (p : Pd) (s : State) : (setPd b p s).pwr.mainOffWait = s.pwr.mainOffWait := by cases b <;> rfl

theorem setPd_rcd (b : Bool) (p : Pd) (s : State) : (setPd b p s).rcd = s.rcd := by cases b <;> rfl

theorem setIrq_raised {b : Nat} (hb : b < 9) (s : State) : (setIrq b s).glb.irqStatus.getLsbD b = true := by
  rw [setIrq_irqStatus]
  simp only [BitVec.getLsbD_or, BitVec.getLsbD_ofNat, hb, decide_true, Nat.testBit_two_pow_self, Bool.and_self, Bool.or_true]

/-- The budget is lost: the main side is to go down. -/
theorem budgetLost_lost {s : State} (h : s.pwr.mainOffWait = none) :
    (budgetLost s).pwr.mainOffWait = some none ∧ (budgetLost s).glb.irqStatus.getLsbD 3 = true := by
  have hpwr := (declareFault_same 6 (setIrq 3 (notePower 6 nmBudgetLost 0 s))).keeps .pwr rfl
  have hwait : (declareFault 6 (setIrq 3 (notePower 6 nmBudgetLost 0 s))).pwr.mainOffWait = none :=
    (congrArg Power.mainOffWait hpwr).symm.trans (by simpa using h)
  constructor
  · simp only [budgetLost]
    rw [hwait]
    rfl
  · exact (declareFault_noted 6 _).irq 3 (setIrq_raised (by decide) _)

/-- The early warning before the fault is declared. -/
def warned (pin : Bool) (s : State) : State :=
  readyPin (setAlert 2 (setIrq 2 (rtcLock { s with pwr := { s.pwr with pwrFail := true }, pins := { s.pins with pwrFail := pin } })))

theorem execEarlyWarning_first {pin : Bool} {s : State} (hps : s.pwr.ps ≠ .off) (hf : s.pwr.pwrFail = false) :
    exec (.earlyWarning pin) s = .next { checkpoint { declareFault 1 (warned pin s) with
        rcd := { (declareFault 1 (warned pin s)).rcd with suspended := true } } with
      rcd := { (checkpoint { declareFault 1 (warned pin s) with
        rcd := { (declareFault 1 (warned pin s)).rcd with suspended := true } }).rcd with
        live := programN 32 (declareFault 1 (warned pin s)).rcd.live } } := if_neg (by simp [hps, hf])

structure Warned (pin : Bool) (s t : State) : Prop where
  pwrFail : t.pwr.pwrFail = true
  pin : t.pins.pwrFail = pin
  locked : t.rtc.locked = true
  setWait : t.rtc.setWait = none
  irq : t.glb.irqStatus.getLsbD 2 = true
  opTime : t.rcd.opTime = s.rcd.opTime
  modReady : t.pins.modReady = false

theorem warned_warned (pin : Bool) (s : State) : Warned pin s (warned pin s) := by
  obtain ⟨r, hlock, hlocked, hset⟩ := rtcLock_eq { s with pwr := { s.pwr with pwrFail := true }, pins := { s.pins with pwrFail := pin } }
  unfold warned
  rw [hlock]
  have hmoved := readyPin_moved (setAlert 2 (setIrq 2 { s with
    pwr := { s.pwr with pwrFail := true }, pins := { s.pins with pwrFail := pin }, rtc := r }))
  refine ⟨?_, hmoved.pwrFail.trans ?_, ?_, ?_, hmoved.noted.irq 2 (setIrq_raised (by decide) _), hmoved.noted.opTime.trans ?_, ?_⟩
  · rw [hmoved.only]
    simp [setAlert]
  · simp
  · rw [hmoved.only]
    simpa using hlocked
  · rw [hmoved.only]
    simpa using hset
  · simp
  · rw [readyPin_modReady]
    simp [setAlert]

theorem Warned.fault {pin : Bool} {s t : State} (h : Warned pin s t) : Warned pin s (declareFault 1 t) := by
  obtain ⟨hf, hp, hl, hs, hi, ho, hm⟩ := h
  have hpwr := (declareFault_same 1 t).keeps .pwr rfl
  have hrtc := (declareFault_same 1 t).keeps .rtc rfl
  exact ⟨(congrArg Power.pwrFail hpwr).symm.trans hf, (declareFault_pwrFail 1 t).trans hp, by rw [← hrtc]; exact hl,
    by rw [← hrtc]; exact hs, (declareFault_noted 1 t).irq 2 hi, (declareFault_noted 1 t).opTime.trans ho,
    (spine_parts (declareFault_spine 1 t)).2.2.2.2.trans hm⟩

theorem execVinBelow9v_on {s : State} (hps : s.pwr.ps ≠ .off) : ∃ k,
    exec .vinBelow9v s = .next (mainCut .aonOnly { s with pwr := { s.pwr with vinOk := false, keptFuses := k } }) := by
  change ∃ k, execVinBelow9v s = _
  unfold execVinBelow9v
  split
  · next h => exact absurd h hps
  · exact ⟨false, rfl⟩
  · exact ⟨s.pwr.keptFuses, rfl⟩

/-- The domain below 7 V, before the retained registers are judged. -/
def belowSeven (s : State) : State :=
  loseStaged { mainCut .off { s with pwr := { s.pwr with vinOk := false, keptFuses := false } } with
    pwr := { (mainCut .off { s with pwr := { s.pwr with vinOk := false, keptFuses := false } }).pwr with aonAlert := 0 } }

theorem execVinBelow7v_on {s : State} (hps : s.pwr.ps ≠ .off) : exec .vinBelow7v s =
    .next (if (belowSeven s).pwr.vbatOk then belowSeven s else loseRetained (belowSeven s)) := if_neg hps

theorem belowSeven_eq (s : State) : ∃ p e r, belowSeven s = { s with
      dets := [], gh := { s.gh with lockers := [], pairWait := none }
      pwr := { cutPower .off s.pwr 0 with vinOk := false, keptFuses := false }, pins := p, emitted := e, rcd := r } ∧
    r.live = s.rcd.live.filter fun r => !r.staged := by
  obtain ⟨a, p, e, hcut⟩ := mainCut_eq .off { s with pwr := { s.pwr with vinOk := false, keptFuses := false } }
  unfold belowSeven
  rw [hcut]
  obtain ⟨r, hlose, hlive⟩ := loseStaged_eq { s with
    dets := [], gh := { s.gh with lockers := [], pairWait := none }
    pwr := { cutPower .off s.pwr 0 with vinOk := false, keptFuses := false }, pins := p, emitted := e }
  exact ⟨p, e, r, hlose, hlive⟩

/-- Below 7 V the domain stops; what the recorder has not programmed is gone. -/
theorem vinBelow7v_stops {s : State} (hps : s.pwr.ps ≠ .off) : ∃ t, exec .vinBelow7v s = .next t ∧ t.pwr.ps = .off ∧
    t.pwr.vinOk = false ∧ t.pwr.aonAlert = 0 ∧ t.rcd.live = s.rcd.live.filter (fun r => !r.staged) ∧
    (s.pwr.vbatOk = true → t.rtc = s.rtc) ∧
    (s.pwr.vbatOk = false → t.rtc.lost = true ∧ t.rcd.discards = 0 ∧ t.nor.attemptsA = 0 ∧ t.nor.attemptsB = 0) := by
  obtain ⟨p, e, r, hlow, hlive⟩ := belowSeven_eq s
  have hbat : (belowSeven s).pwr.vbatOk = s.pwr.vbatOk := by
    rw [hlow]
    rfl
  refine ⟨_, execVinBelow7v_on hps, ?_⟩
  rw [hbat]
  cases hv : s.pwr.vbatOk with
  | true =>
    rw [if_pos rfl, hlow]
    exact ⟨rfl, rfl, rfl, hlive, fun _ => rfl, nofun⟩
  | false =>
    rw [if_neg (by decide), hlow]
    exact ⟨rfl, rfl, rfl, hlive, nofun, fun _ => ⟨rfl, rfl, rfl, rfl⟩⟩

/-- A change of an interface's power, with its interrupt and its record. -/
def pdChanged (sev : Nat) (a on : Bool) (s : State) : State :=
  notePower sev nmPdChange (b2n a) (setIrq 3 (setPd a { pdOf s a with delivering := on } s))

theorem pdChanged_pwr (sev : Nat) (a on : Bool) (s : State) :
    (pdChanged sev a on s).pwr = (setPd a { pdOf s a with delivering := on } s).pwr := by
  rw [pdChanged, notePower_pwr, setIrq_pwr]

theorem execPdPowerChange_kept {a on : Bool} {s : State} (hne : (pdOf s a).delivering ≠ on)
    (hb : s.pwr.mainUp = true → budget (setPd a { pdOf s a with delivering := on } s) ≠ 0) :
    ∃ sev, exec (.pdPowerChange a on) s = .next (pdChanged sev a on s) := by
  refine ⟨_, (if_neg hne).trans (congrArg done (if_neg ?_))⟩
  rintro ⟨hup, -, hnone⟩
  change (pdChanged _ a on s).pwr.mainUp = true at hup
  change budget (pdChanged _ a on s) = 0 at hnone
  rw [pdChanged_pwr, setPd_mainUp] at hup
  rw [budget_of_pwr (pdChanged_pwr _ _ _ _)] at hnone
  exact hb hup hnone

/-- The state in which a warning has passed, before its record. -/
def warningOver (s : State) : State :=
  readyPin { s with pwr := { s.pwr with pwrFail := false }, pins := { s.pins with pwrFail := false }
                    rtc := { s.rtc with unlockAt := some (now s + msU 5) } }

theorem execWarningPassed_due {s : State} (hf : s.pwr.pwrFail = true) (hv : s.pwr.vinOk = true) :
    exec .warningPassed s = .next (notePower 4 nmWarningPassed 0 (warningOver s)) := if_pos ⟨hf, hv⟩

/-- Settles O41. -/
theorem supplyAndPowerEventsComplete : Obligations.SupplyAndPowerEventsComplete := by
  refine ⟨fun s => ⟨fun hv => ?_, fun hv hA hB => ?_, fun hps => ?_, vinBelow7v_stops, rfl, fun hps => ?_, fun hps => ?_⟩,
    fun a on c s => ⟨fun hne hb => ?_, fun hb => ?_, fun hup hwas hwait hb => ?_, fun hps hf => ?_, fun hf hv => ?_⟩⟩
  · obtain ⟨hpwr, hcyc, hop⟩ := aonStarted_ready true s
    refine ⟨_, execVinGood_off hv, ?_⟩
    simp only [if_true]
    rw [hpwr]
    exact ⟨rfl, rfl, rfl, hcyc, hop, rfl⟩
  · obtain ⟨hpwr, hcyc, hop⟩ := aonStarted_ready false s
    have hboot := startBoot_booted 0 (recSummary (readyPin (aonStarted false s)))
    refine ⟨_, (execVinGood_off hv).trans (congrArg done (tryBoot_budget (aonStarted_budget hA hB))), hboot.ps, hboot.bootKind,
      hboot.vinOk.trans ?_, hboot.cycles.trans hcyc⟩
    rw [hpwr]
    rfl
  · obtain ⟨k, hrun⟩ := execVinBelow9v_on hps
    obtain ⟨b, p, e, hcut⟩ := mainCut_eq .aonOnly { s with pwr := { s.pwr with vinOk := false, keptFuses := k } }
    refine ⟨_, hrun, ?_⟩
    rw [hcut]
    exact ⟨rfl, rfl, rfl, rfl⟩
  · exact congrArg done (if_neg (by simp [hps]))
  · exact ⟨_, congrArg done (if_pos ⟨rfl, hps⟩), rfl, rfl, rfl⟩
  · obtain ⟨sev, hrun⟩ := execPdPowerChange_kept hne hb
    have hnote := notePower_recorded sev nmPdChange (b2n a) (setIrq 3 (setPd a { pdOf s a with delivering := on } s))
    refine ⟨_, hrun, ?_, ?_, hnote.irq 3 (setIrq_raised (by decide) _), hnote.seq.trans ?_⟩
    · rw [pdOf_congr (pdChanged_pwr sev a on s), pdOf_setPd_same]
    · rw [pdOf_congr (pdChanged_pwr sev a on s), pdOf_setPd_other]
    · rw [setIrq_rcd, setPd_rcd]
  · exact congrArg done (if_neg (by simpa [setPd_mainUp] using fun hup _ => hb hup))
  · have hlost := budgetLost_lost (s := setPd a { pdOf s a with alloc := min c 8 } s) ((setPd_mainOffWait ..).trans hwait)
    exact ⟨_, congrArg done (if_pos ⟨(setPd_mainUp ..).trans hup, hwas, hb⟩), hlost.1, hlost.2⟩
  · obtain ⟨h1, h2, h3, h4, h5, h6, h7⟩ := (warned_warned on s).fault
    exact ⟨_, execEarlyWarning_first hps hf, h1, h2, h3, h4, h5, h6, rfl, h7⟩
  · have hmoved := readyPin_moved { s with
      pwr := { s.pwr with pwrFail := false }, pins := { s.pins with pwrFail := false }
      rtc := { s.rtc with unlockAt := some (now s + msU 5) } }
    have honly := hmoved.only
    refine ⟨_, execWarningPassed_due hf hv, ?_, ?_, ?_, (notePower_recorded ..).seq.trans ?_⟩
    · rw [notePower_pwr, warningOver, honly]
    · rw [notePower_rtc, warningOver, honly]
    · rw [notePower_pins, warningOver, readyPin_modReady]
      exact Bool.and_true _
    · rw [warningOver, honly]

end Sys2Proof.Machine
end

section
/-! Temperature, the boot and the reset pins (18 R448, R451-R457; 02 R44; 01 R16). -/

namespace Sys2Proof.Machine

/-! ### The end of the boot -/

theorem noteTime_recorded (sev : Nat) (name : Bytes) (s : State) : Recorded s (noteTime sev name s) := note_recorded ..

@[simp] theorem noteTime_tb (sev : Nat) (name : Bytes) (s : State) : (noteTime sev name s).tb = s.tb := note_tb ..

theorem startTimeBase_state (s : State) : (startTimeBase s).tb.state = .freerun := by
  have hraise : ∀ u : State, (if u.rtc.lost then raiseVector 93 u else u).tb = u.tb := fun u => by
    split
    · exact raiseVector_tb _ _
    · rfl
  unfold startTimeBase
  dsimp only
  rw [hraise, noteTime_tb]

/-- What the replies that waited and MOD_READY leave. -/
structure BootEnded (s t : State) : Prop where
  pwr : { s.pwr with aonAlert := 0 } = { t.pwr with aonAlert := 0 }
  gh : { s.gh with pairWait := none } = { t.gh with pairWait := none }
  nor : s.nor = t.nor
  tb : s.tb = t.tb
  rcd : s.rcd = t.rcd
  phyRst : t.pins.phyRst = s.pins.phyRst

theorem drained_ended (s : State) : BootEnded s (drainReplies (readyPin s)) := by
  have hmoved := readyPin_moved s
  have hsame := drainReplies_same (readyPin s)
  have hpwr := hsame.keeps .pwr rfl
  have hgh := hsame.keeps .gh rfl
  have hnor := hsame.keeps .nor rfl
  have htb := hsame.keeps .tb rfl
  have hrcd := hsame.keeps .rcd rfl
  have hpins := hsame.keeps .pins rfl
  refine ⟨.trans ?_ hpwr, .trans ?_ hgh, .trans ?_ hnor, .trans ?_ htb, .trans ?_ hrcd,
    (congrArg Pins.phyRst hpins).symm.trans hmoved.phyRst⟩ <;> rw [hmoved.only]

theorem bootNotes_kept (n : Nat) (s : State) : (bootNotes n s).pwr = s.pwr ∧ (bootNotes n s).nor = s.nor ∧ (bootNotes n s).tb = s.tb ∧
    (bootNotes n s).pins = s.pins ∧ (bootNotes n s).rcd.suspended = false := by
  have hnote : ∀ (c : Prop) [Decidable c] (sev : Nat) (name : Bytes) (u : State), ∃ g r e,
      (if c then notePower sev name n u else u) = { u with glb := g, rcd := r, emitted := e } := fun c _ sev name u => by
    split
    · exact ⟨_, _, _, recStage_only _ _⟩
    · exact ⟨u.glb, u.rcd, u.emitted, rfl⟩
  unfold bootNotes
  dsimp only
  obtain ⟨g, r, e, hfirst⟩ := hnote (s.pwr.fellBack = true) 6 nmFirmwareFallback s
  rw [hfirst]
  obtain ⟨g', r', e', hsecond⟩ := hnote (s.pwr.configAmbiguous = true) 5 nmConfigAmbiguous { s with glb := g, rcd := r, emitted := e }
  rw [hsecond]
  exact ⟨rfl, rfl, rfl, rfl, rfl⟩

theorem bootCert_kept (c : Bool) (s : State) : (bootCert c s).pwr = s.pwr ∧ (bootCert c s).nor = s.nor ∧ (bootCert c s).tb = s.tb ∧
    (bootCert c s).pins = s.pins ∧ (bootCert c s).rcd.suspended = s.rcd.suspended ∧ (bootCert c s).gh.idOk = c := by
  unfold bootCert
  cases c with
  | true => exact ⟨rfl, rfl, rfl, rfl, rfl, rfl⟩
  | false =>
    exact ⟨recStage_pwr _ _, recStage_nor _ _, recStage_tb _ _, recStage_pins _ _, (recAdd_recorded ..).suspended,
      congrArg Gatehouse.idOk (recStage_gh _ _)⟩

theorem bootTrained_ok_kept (s : State) : (bootTrained true s).pwr.ps = s.pwr.ps ∧ (bootTrained true s).nor = s.nor ∧
    (bootTrained true s).tb = s.tb ∧ (bootTrained true s).pins = s.pins ∧ (bootTrained true s).rcd = s.rcd ∧
    (bootTrained true s).gh = s.gh := by
  unfold bootTrained
  rw [if_neg (by decide)]
  split <;> exact ⟨rfl, rfl, rfl, rfl, rfl, rfl⟩

theorem bootTrained_failed (s : State) : (bootTrained false s).pwr = { s.pwr with bistFail := true } := by
  unfold bootTrained
  rw [if_pos (by decide), notePower_pwr]

/-- The state of image A as the boot leaves it for IDLE, before its notes. -/
def imageStarted (s : State) : State :=
  { startTimeBase (restoreRtc (loadPairKey (loadConfig (setAttempts false 0 s)))) with
    pins := { (startTimeBase (restoreRtc (loadPairKey (loadConfig (setAttempts false 0 s))))).pins with phyRst := false }
    pwr := { (startTimeBase (restoreRtc (loadPairKey (loadConfig (setAttempts false 0 s))))).pwr with ps := .idle } }

theorem execBootComplete_image {o c : Bool} {s : State} (hps : s.pwr.ps = .boot) (himg : s.pwr.fwImg = some 0) :
    exec (.bootComplete { trainOk := o, certOk := c }) s =
      .next (drainReplies (readyPin (bootTrained o (bootCert c (bootNotes 0 (imageStarted s)))))) := by
  change execBootComplete _ s = _
  rw [execBootComplete, if_neg (by simp [hps]), himg]
  rfl

theorem imageStarted_attempts (s : State) : (imageStarted s).nor.attemptsA = 0 := by
  have hclock := (startTimeBase_same (restoreRtc (loadPairKey (loadConfig (setAttempts false 0 s))))).keeps .nor rfl
  have hkey := (loadPairKey_same (loadConfig (setAttempts false 0 s))).keeps .nor rfl
  have hload := (loadConfig_same (setAttempts false 0 s)).keeps .nor rfl
  have hrtc : ∀ u : State, (restoreRtc u).nor.attemptsA = u.nor.attemptsA := fun u => by
    unfold restoreRtc
    split <;> rfl
  change (startTimeBase (restoreRtc (loadPairKey (loadConfig (setAttempts false 0 s))))).nor.attemptsA = 0
  rw [← hclock, hrtc, ← hkey, ← hload]
  rfl

theorem execBootComplete_recovery {o c : Bool} {s : State} (hps : s.pwr.ps = .boot) (himg : s.pwr.fwImg = none) :
    exec (.bootComplete { trainOk := o, certOk := c }) s = .next (drainReplies (readyPin (notePower 6 nmRecovery 0
      (startTimeBase { s with pwr := { s.pwr with ps := .idle, recovery := true } })))) := by
  change execBootComplete _ s = _
  rw [execBootComplete, if_neg (by simp [hps]), himg]
  rfl

theorem startTimeBase_pwr (s : State) :
    { s.pwr with aonAlert := 0 } = { (startTimeBase s).pwr with aonAlert := 0 } := (startTimeBase_same s).keeps .pwr rfl

/-- A boot of image A whose memory trained. -/
theorem bootComplete_trained {s : State} (hps : s.pwr.ps = .boot) (c : Bool) (himg : s.pwr.fwImg = some 0) :
    ∃ t, exec (.bootComplete { trainOk := true, certOk := c }) s = .next t ∧ t.pwr.ps = .idle ∧ t.gh.idOk = c ∧
      t.nor.attemptsA = 0 ∧ t.tb.state = .freerun ∧ t.pins.phyRst = false ∧ t.rcd.suspended = false := by
  obtain ⟨npwr, nnor, ntb, npins, nsus⟩ := bootNotes_kept 0 (imageStarted s)
  obtain ⟨cpwr, cnor, ctb, cpins, csus, cid⟩ := bootCert_kept c (bootNotes 0 (imageStarted s))
  obtain ⟨tps, tnor, ttb, tpins, trcd, tgh⟩ := bootTrained_ok_kept (bootCert c (bootNotes 0 (imageStarted s)))
  obtain ⟨epwr, egh, enor, etb, ercd, ephy⟩ := drained_ended (bootTrained true (bootCert c (bootNotes 0 (imageStarted s))))
  refine ⟨_, execBootComplete_image hps himg, (congrArg Power.ps epwr).symm.trans ?_, (congrArg Gatehouse.idOk egh).symm.trans ?_,
    ?_, ?_, ephy.trans ?_, ?_⟩
  · exact tps.trans (by rw [cpwr, npwr]; rfl)
  · exact (congrArg Gatehouse.idOk tgh).trans cid
  · rw [← enor, tnor, cnor, nnor, imageStarted_attempts]
  · rw [← etb, ttb, ctb, ntb]
    exact startTimeBase_state _
  · rw [tpins, cpins, npins]
    rfl
  · rw [← ercd, trcd, csus, nsus]

/-! ### Temperature -/

theorem setAlert_raised {b : Nat} (hb : b < 4) (s : State) : (setAlert b s).pwr.aonAlert.getLsbD b = true := by
  simp only [setAlert, BitVec.getLsbD_or, BitVec.getLsbD_ofNat, hb, decide_true, Nat.testBit_two_pow_self, Bool.and_self,
    Bool.or_true]

/-- THERM_N asserted at a reading. -/
def thermAsserted (c : BitVec 16) (s : State) : State :=
  { s with glb := { s.glb with temp := c }, pins := { s.pins with therm := true }, pwr := { s.pwr with thermAt := some (now s) } }

theorem execThermAssert_hot {c : BitVec 16} {s : State} (hc : 1760 ≤ c.toInt) (hp : s.pins.therm = false)
    (hup : s.pwr.mainUp = true) : exec (.thermAssert c) s = .next (setAlert 1 (setIrq 1 (thermAsserted c s))) :=
  if_pos ⟨hc, by simp [hp], hup⟩

theorem execThermalTrip_hot {c : BitVec 16} {s : State} (hc : 2000 ≤ c.toInt) (hup : s.pwr.mainUp = true) :
    exec (.thermalTrip c) s = .next (notePower 6 nmThermalTrip 0 (mainCut .aonOnly
      { s with glb := { s.glb with temp := c }, pwr := { s.pwr with tripped := true } })) := if_pos ⟨hc, hup⟩

/-- Settles O42. -/
theorem thermalAndBootRowsComplete : Obligations.ThermalAndBootRowsComplete := by
  refine ⟨fun c s => ⟨fun hc hp hup => ?_, fun hc => if_pos hc, fun hc hup => ?_⟩,
    fun s hps => ⟨bootComplete_trained hps, fun c himg => ?_, fun o c himg => ?_, fun himg => ?_⟩⟩
  · refine ⟨_, execThermAssert_hot hc hp hup, ?_, ?_, ?_, setAlert_raised (by decide) _, ?_⟩
    · rw [setAlert_pins, setIrq_pins]
      rfl
    · exact (setIrq_noted 1 (thermAsserted c s)).temp
    · exact setIrq_raised (by decide) _
    · change (setIrq 1 (thermAsserted c s)).pwr.thermAt = _
      rw [setIrq_pwr]
      rfl
  · obtain ⟨a, p, e, hcut⟩ := mainCut_eq .aonOnly { s with glb := { s.glb with temp := c }, pwr := { s.pwr with tripped := true } }
    refine ⟨_, execThermalTrip_hot hc hup, ?_, ?_, ?_, (notePower_recorded ..).temp.trans ?_⟩
    · rw [notePower_pwr, hcut]
      rfl
    · rw [notePower_pwr, hcut]
      rfl
    · rw [notePower_pwr, hcut]
      rfl
    · rw [hcut]
  · obtain ⟨epwr, -⟩ := drained_ended (bootTrained false (bootCert c (bootNotes 0 (imageStarted s))))
    obtain ⟨npwr, -⟩ := bootNotes_kept 0 (imageStarted s)
    obtain ⟨cpwr, -⟩ := bootCert_kept c (bootNotes 0 (imageStarted s))
    rw [bootTrained_failed, cpwr, npwr] at epwr
    exact ⟨_, execBootComplete_image hps himg, (congrArg Power.ps epwr).symm, (congrArg Power.bistFail epwr).symm⟩
  · obtain ⟨epwr, -⟩ := drained_ended (notePower 6 nmRecovery 0
      (startTimeBase { s with pwr := { s.pwr with ps := .idle, recovery := true } }))
    rw [notePower_pwr] at epwr
    have hpwr := (startTimeBase_pwr { s with pwr := { s.pwr with ps := .idle, recovery := true } }).trans epwr
    exact ⟨_, execBootComplete_recovery hps himg, (congrArg Power.ps hpwr).symm, (congrArg Power.recovery hpwr).symm⟩
  · have hboot := startBoot_booted 1 s
    exact ⟨_, congrArg done (if_pos ⟨hps, himg⟩), hboot.ps, hboot.bootKind⟩

/-! ### The reset pins -/

theorem execModRstNAssert_on {s : State} (hps : s.pwr.ps ≠ .off) (hmod : s.pins.modRst = false) : exec .modRstNAssert s = .next
    { (if s.pwr.ps = .aonOnly then s else mainCut .aonOnly s) with
      pins := { (if s.pwr.ps = .aonOnly then s else mainCut .aonOnly s).pins with modRst := true, phyRst := true } } :=
  if_neg (by simp [hps, hmod])

theorem execModRstNRelease_boots {s : State} (hps : s.pwr.ps = .aonOnly) (hmod : s.pins.modRst = true)
    (htrip : s.pwr.tripped = false) (hb : budget s ≠ 0) :
    exec .modRstNRelease s = .next (startBoot 1 { s with pins := { s.pins with modRst := false } }) :=
  (if_neg (by simp [hmod])).trans (congrArg done ((if_pos ⟨hps, by simp [htrip]⟩).trans (if_neg hb)))

/-- PERST_N leaves every queue off and empty. -/
theorem oq_resetQueues (s : State) (n : Nat) : (oq (resetQueues s) n).en = false ∧ (oq (resetQueues s) n).pkts = [] := by
  simp only [oq, resetQueues, mgetD, mget_mmap]
  cases mget s.oqs n <;> exact ⟨rfl, rfl⟩

theorem iq_resetQueues (s : State) (n : Nat) : (iq (resetQueues s) n).en = false ∧ (iq (resetQueues s) n).pkts = [] := by
  simp only [iq, resetQueues, mgetD, mget_mmap]
  cases mget s.iqs n <;> exact ⟨rfl, rfl⟩

/-- The ports with their rings off. -/
def ringsOff (m : Map Port) : Map Port := mmap m fun _ r => { r with rings := mmap r.rings fun _ g => { g with en := false, descs := [] } }

theorem netRing_off {s t : State} (h : t.ports = ringsOff s.ports) (p r : Nat) : (netRing t p r).en = false := by
  have hport : port t p = ((mget s.ports p).map fun q =>
      { q with rings := mmap q.rings fun _ g => { g with en := false, descs := [] } }).getD {} := by
    rw [port, h, ringsOff, mgetD, mget_mmap]
  rw [netRing, hport]
  cases mget s.ports p with
  | none => rfl
  | some q =>
    simp only [Option.map_some, Option.getD_some, mgetD, mget_mmap]
    cases mget q.rings r <;> rfl

/-- The firmware fault, and the holdover it takes a LOCKED time base to, before its record. -/
def fwFaulted (s : State) : State :=
  if (setIrq 0 { s with pwr := { s.pwr with fwFault := true, fwFaultAt := now s } }).tb.state = .locked then
    enterHoldover (setIrq 0 { s with pwr := { s.pwr with fwFault := true, fwFaultAt := now s } })
  else setIrq 0 { s with pwr := { s.pwr with fwFault := true, fwFaultAt := now s } }

theorem execControlFwFault_first {s : State} (hup : mainUp s = true) (hf : s.pwr.fwFault = false) :
    exec .controlFwFault s = .next (notePower 6 nmFirmwareFault 0 (fwFaulted s)) := if_pos ⟨hup, by simp [hf]⟩

theorem enterHoldover_noted (s : State) : Noted s (enterHoldover s) := by
  unfold enterHoldover
  dsimp only
  refine Noted.trans ?_ (noteTime_recorded ..).toNoted
  refine Noted.trans ?_ (raiseVector_noted 93 _)
  refine Noted.trans ?_ (setIrq_noted 4 _)
  exact .of_eq rfl rfl rfl

theorem enterHoldover_pwr (s : State) : (enterHoldover s).pwr = s.pwr := by
  unfold enterHoldover
  dsimp only
  rw [noteTime, note_pwr, raiseVector_pwr, setIrq_pwr]

theorem fwFaulted_faulted (s : State) : (fwFaulted s).pwr.fwFault = true ∧ (fwFaulted s).glb.irqStatus.getLsbD 0 = true ∧
    (fwFaulted s).tb.state = if s.tb.state = .locked then .holdover else s.tb.state := by
  have hirq : (setIrq 0 { s with pwr := { s.pwr with fwFault := true, fwFaultAt := now s } }).glb.irqStatus.getLsbD 0 = true :=
    setIrq_raised (by decide) _
  have htb : (setIrq 0 { s with pwr := { s.pwr with fwFault := true, fwFaultAt := now s } }).tb = s.tb := setIrq_tb _ _
  have hpwr : (setIrq 0 { s with pwr := { s.pwr with fwFault := true, fwFaultAt := now s } }).pwr.fwFault = true :=
    congrArg Power.fwFault (setIrq_pwr _ _)
  unfold fwFaulted
  rw [htb]
  split
  · exact ⟨by rw [enterHoldover_pwr, hpwr], (enterHoldover_noted _).irq 0 hirq, by rw [enterHoldover_tb]⟩
  · exact ⟨hpwr, hirq, by rw [htb]⟩

/-- Settles O43. -/
theorem resetPinRowsComplete : Obligations.ResetPinRowsComplete := by
  intro s
  refine ⟨fun hps hmod => ?_, fun hps hmod htrip hb => ?_, ?_, fun hup hf => ?_, fun hf hw hfwd => ?_, fun hf => ?_, fun hcopy => ?_,
    fun hrun => ?_, rfl, fun hmod => ?_⟩
  · refine ⟨_, execModRstNAssert_on hps hmod, ?_, rfl, rfl⟩
    change (if s.pwr.ps = .aonOnly then s else mainCut .aonOnly s).pwr.ps = .aonOnly
    split
    · assumption
    · exact mainCut_ps _ _
  · have hboot := startBoot_booted 1 { s with pins := { s.pins with modRst := false } }
    exact ⟨_, execModRstNRelease_boots hps hmod htrip hb, hboot.ps, hboot.bootKind, hboot.modRst⟩
  · refine ⟨_, rfl, rfl, rfl, fun e he => ?_, rfl, rfl, rfl, oq_resetQueues _, iq_resetQueues _, netRing_off (s := s) rfl⟩
    exact of_decide_eq_true (List.mem_filter.mp he).2
  · obtain ⟨hfault, hirq, htb⟩ := fwFaulted_faulted s
    refine ⟨_, execControlFwFault_first hup hf, ?_, (notePower_recorded ..).irq 0 hirq, ?_⟩
    · rw [notePower_pwr, hfault]
    · rw [notePower, note_tb, htb]
  · have hdrain : drainReplies { s with pwr := { s.pwr with fwFault := false } } = { s with pwr := { s.pwr with fwFault := false } } :=
      drainReplies_nil hw
    have hcas : { s.cas with fwdWait := [] } = s.cas := by rw [← hfwd]
    refine (if_pos hf).trans ?_
    rw [hdrain]
    dsimp only
    rw [hfwd, hcas]
    rfl
  · exact if_neg (by simp [hf])
  · refine if_pos ?_
    rw [paired]
    exact hcopy
  · have hsolo : swapPairing { s with
        pins := { s.pins with peerDet := false, hbOut := false }
        cas := { s.cas with twinUp := false, lanes := 0, hbOk := false, listening := none } } = { s with
        pins := { s.pins with peerDet := false, hbOut := false }
        cas := { s.cas with twinUp := false, lanes := 0, hbOk := false, listening := none } } :=
      if_neg fun h => Bool.false_ne_true (hrun.symm.trans h.1)
    exact congrArg done hsolo
  · exact if_neg (by simp [hmod])

end Sys2Proof.Machine
end

section
/-! The time base's references, lock, holdover and leap seconds (03 R48-R61). -/

namespace Sys2Proof.Machine

/-! ### What a servo step leaves -/

theorem opElapse_kept (d : Nat) (r : Recorder) : (opElapse d r).seq = r.seq ∧ (opElapse d r).live = r.live := ⟨rfl, rfl⟩

theorem advanceTo_rcd_cases (t : Instant) (s : State) : (advanceTo t s).rcd = s.rcd ∨ ∃ d, (advanceTo t s).rcd = opElapse d s.rcd := by
  rcases eq_or_ne s.pwr.ps .off with hoff | hon
  · exact .inl (if_pos hoff)
  · exact .inr ⟨_, elapse_rcd _ hon⟩

@[simp] theorem advanceTo_rcd_seq (t : Instant) (s : State) : (advanceTo t s).rcd.seq = s.rcd.seq := by
  rcases advanceTo_rcd_cases t s with h | ⟨d, h⟩
  · rw [h]
  · rw [h, (opElapse_kept d s.rcd).1]

@[simp] theorem advanceTo_rcd_live (t : Instant) (s : State) : (advanceTo t s).rcd.live = s.rcd.live := by
  rcases advanceTo_rcd_cases t s with h | ⟨d, h⟩
  · rw [h]
  · rw [h, (opElapse_kept d s.rcd).2]

theorem now_congr {s t : State} (h : t.tb.count = s.tb.count) : now t = now s := by rw [now, now, h]

/-- An offset below 1 ms is slewed away: what taking it up writes into the time base. -/
theorem correct_slews {x : Int} {s : State} (hx : x.natAbs < 1000000) :
    ∃ i, (correct x s).tb = { s.tb with stepPending := none, stepRestart := none, slew := nsCount x, incr := i } := by
  unfold correct
  rw [if_pos hx]
  exact ⟨_, rfl⟩

/-- An offset below 100 ns counts towards lock and is slewed away. -/
theorem measured_good {x : Int} {s : State} (hx : x.natAbs < 100) : ∃ i, (measured x s).tb = { s.tb with
    offsetNs := x, sourceSeen := true, goodRun := s.tb.goodRun + 1, stepPending := none, stepRestart := none, slew := nsCount x
    incr := i } := by
  unfold measured
  rw [if_pos hx]
  exact correct_slews (by omega)

/-! ### The second boundary -/

theorem traceSecond_off {s : State} (h : s.glb.trcEn = false) : traceSecond s = s := if_pos (by simp [h])

theorem traceSecond_tb (s : State) : (traceSecond s).tb = s.tb := ((traceSecond_same s).keeps .tb rfl).symm

theorem rtcSteer_tb (b : Instant) (s : State) : (rtcSteer b s).tb = s.tb := ((rtcSteer_same b s).keeps .tb rfl).symm

theorem rtcSteer_unlocked_emitted {b : Instant} {s : State} (h : s.tb.state ≠ .locked) : (rtcSteer b s).emitted = s.emitted := by
  unfold rtcSteer
  rw [if_pos h]

/-- PPS_OUT's pulse and the time-of-day message at a second boundary. -/
def secondOutputs (b : Instant) (s : State) : State :=
  if timeOutputs s then
    emit (.tod (socOf s b - b2n (insertedSecond s (b / secU))) (insertedSecond s (b / secU)))
      (emit (.pin 2 false (b + usU s.tb.cfg.ppsOutWidth)) (emit (.pin 2 true b) s)) else s

theorem secondOutputs_only (b : Instant) (s : State) : ∃ e, secondOutputs b s = { s with emitted := e } := by
  unfold secondOutputs
  split <;> exact ⟨_, rfl⟩

/-- The time base at a second boundary that it has reached. -/
def secondReached (s : State) : State :=
  { advanceTo (nextSecond s) s with tb := { (advanceTo (nextSecond s) s).tb with secDone := some (nextSecond s / secU) } }

theorem execSecondBoundary_up {s : State} (hup : mainUp s = true) : exec .secondBoundary s =
    .next (rtcSteer (nextSecond s) (traceSecond (secondOutputs (nextSecond s) (secondReached s)))) := if_pos hup

theorem socOf_secondReached (b : Instant) (s : State) : socOf (secondReached s) b = socOf s b := by
  simp only [socOf, utcOffsetAt, secondReached, advanceTo_tb_lastLeap, advanceTo_tb_leapEnd, advanceTo_tb_leap, advanceTo_tb_utcOffset]

theorem insertedSecond_secondReached (n : Nat) (s : State) : insertedSecond (secondReached s) n = insertedSecond s n := by
  simp only [insertedSecond, secondReached, advanceTo_tb_leap, advanceTo_tb_leapEnd, advanceTo_tb_lastLeap]

theorem secondBoundary_reached {s : State} (hup : mainUp s = true) : ∃ t, exec .secondBoundary s = .next t ∧ nextSecond s ≤ now t ∧
    t.tb.secDone = some (nextSecond s / 2 ^ 32) ∧ (timeOutputs s = true → s.glb.trcEn = false → s.tb.state ≠ .locked →
      t.emitted = .tod (socOf s (nextSecond s) - b2n (insertedSecond s (nextSecond s / 2 ^ 32)))
          (insertedSecond s (nextSecond s / 2 ^ 32)) :: .pin 2 false (nextSecond s + usU s.tb.cfg.ppsOutWidth)
        :: .pin 2 true (nextSecond s) :: s.emitted) := by
  have htb : (rtcSteer (nextSecond s) (traceSecond (secondOutputs (nextSecond s) (secondReached s)))).tb = (secondReached s).tb := by
    obtain ⟨e, he⟩ := secondOutputs_only (nextSecond s) (secondReached s)
    rw [rtcSteer_tb, traceSecond_tb, he]
  refine ⟨_, execSecondBoundary_up hup, ?_, by rw [htb]; rfl, fun hout htrc hstate => ?_⟩
  · rw [now_congr (congrArg TimeBase.count htb)]
    exact le_now_advanceTo _ _
  · have hspeaks : timeOutputs (secondReached s) = true := by
      simpa only [timeOutputs, secondReached, advanceTo_tb_state, advanceTo_tb_cfg] using hout
    have hsaid : secondOutputs (nextSecond s) (secondReached s) = emit (.tod (socOf s (nextSecond s) -
        b2n (insertedSecond s (nextSecond s / secU))) (insertedSecond s (nextSecond s / secU)))
        (emit (.pin 2 false (nextSecond s + usU (secondReached s).tb.cfg.ppsOutWidth)) (emit (.pin 2 true (nextSecond s))
          (secondReached s))) := by
      rw [secondOutputs, if_pos hspeaks, socOf_secondReached, insertedSecond_secondReached]
    have hcfg : (secondReached s).tb.cfg = s.tb.cfg := advanceTo_tb_cfg s (nextSecond s)
    have hemitted : (secondReached s).emitted = s.emitted := advanceTo_emitted s (nextSecond s)
    have htrc' : (secondReached s).glb.trcEn = false := (congrArg Glb.trcEn (advanceTo_glb s (nextSecond s))).trans htrc
    have hstate' : (secondReached s).tb.state ≠ .locked := fun h => hstate ((advanceTo_tb_state s (nextSecond s)).symm.trans h)
    rw [hsaid, traceSecond_off (by exact htrc'), rtcSteer_unlocked_emitted (by exact hstate')]
    simp only [emit_emitted, hemitted, hcfg]
    rfl

/-! ### PPS_IN and ZDA -/

theorem execPpsInEdge_up {e : Instant} {s : State} (hup : mainUp s = true) : exec (.ppsInEdge e) s =
    .next (if s.tb.cfg.source = 1 ∧ s.tb.todSet = true then
      measured ((nearSecond (ppsInstant s e)).1 + s.tb.todErr * 1000000000) { advanceTo e s with tb := { (advanceTo e s).tb with
        ppsEdge := some e, ppsDisagree := if s.tb.zdaEdge = s.tb.ppsEdge then s.tb.ppsDisagree else 0 } }
      else { advanceTo e s with tb := { (advanceTo e s).tb with
        ppsEdge := some e, ppsDisagree := if s.tb.zdaEdge = s.tb.ppsEdge then s.tb.ppsDisagree else 0 } }) := by
  refine (if_pos hup).trans ?_
  simp only [ppsInstant, advanceTo_tb_zdaEdge, advanceTo_tb_ppsEdge, advanceTo_tb_ppsDisagree, advanceTo_tb_cfg, advanceTo_tb_todSet,
    advanceTo_tb_todErr, done]

/-- The next state of a sentence that names the edge's second while the time of day is set. -/
theorem execZdaSentence_set {e : Instant} {utc : Nat} {s : State} (hup : mainUp s = true) (hsrc : s.tb.cfg.source = 1)
    (hedge : s.tb.ppsEdge = some e) (hnew : s.tb.zdaEdge ≠ some e) (hnow : now s < e + msU 950) (hset : s.tb.todSet = true) :
    exec (.zdaSentence true utc) s = 
      if ((nearSecond (ppsInstant s e)).2 : Int) - (utc + utcOffsetAt s (ppsInstant s e) : Nat) = s.tb.todErr then
        .next { s with tb := { s.tb with zdaEdge := some e, ppsDisagree := 0 } }
      else if s.tb.ppsDisagree + 1 < 3 then
        .next { s with tb := { s.tb with zdaEdge := some e, ppsDisagree := s.tb.ppsDisagree + 1 } }
      else .next (todCorrect ((toNs (ppsInstant s e) : Int) - ((utc + utcOffsetAt s (ppsInstant s e) : Nat) : Int) * 1000000000)
        (((nearSecond (ppsInstant s e)).2 : Int) - (utc + utcOffsetAt s (ppsInstant s e) : Nat))
        { s with tb := { s.tb with zdaEdge := some e } }) := by
  change execZdaSentence true utc s = _
  unfold execZdaSentence
  rw [hedge]
  refine (if_pos ⟨rfl, hup, hsrc, hnow, hnew⟩).trans ?_
  exact if_neg (by simp [hset])

theorem execZdaSentence_bad (utc : Nat) (s : State) : exec (.zdaSentence false utc) s = .next s := by
  change execZdaSentence false utc s = _
  unfold execZdaSentence
  split
  · rfl
  · exact if_neg (fun h => Bool.false_ne_true h.1)

/-- Settles O45. -/
theorem timeReferenceRowsComplete : Obligations.TimeReferenceRowsComplete := by
  intro e utc s
  refine ⟨secondBoundary_reached, fun hup hsrc => ⟨_, (execPpsInEdge_up hup).trans (congrArg done (if_neg fun h => hsrc h.1)), rfl⟩,
    fun x hup hsrc hset hx hsmall => ?_, fun hup hsrc hedge hnew hnow hset hagree => ?_,
    fun hup hsrc hedge hnew hnow hset hdiffer hfew => ?_, execZdaSentence_bad utc s, rfl, rfl⟩
  · refine ⟨_, (execPpsInEdge_up hup).trans (congrArg done (if_pos ⟨hsrc, hset⟩)), ?_⟩
    rw [← hx]
    obtain ⟨i, htb⟩ := measured_good (s := { advanceTo e s with tb := { (advanceTo e s).tb with
      ppsEdge := some e, ppsDisagree := if s.tb.zdaEdge = s.tb.ppsEdge then s.tb.ppsDisagree else 0 } }) hsmall
    rw [htb]
    exact ⟨rfl, congrArg (· + 1) (advanceTo_tb_goodRun _ _), rfl, rfl⟩
  · rw [execZdaSentence_set hup hsrc hedge hnew hnow hset, if_pos hagree]
  · rw [execZdaSentence_set hup hsrc hedge hnew hnow hset, if_neg hdiffer, if_pos (by omega)]

/-! ### Lock and holdover -/

theorem execTbLocked_good {s : State} (hup : mainUp s = true) (hrun : 16 ≤ s.tb.goodRun) (hst : s.tb.state ≠ .locked)
    (hpend : s.tb.stepPending = none) (hrest : s.tb.stepRestart = none) : exec .tbLocked s = .next (enterLocked s) :=
  if_pos ⟨hup, hrun, hst, by rw [hpend]; rfl, by rw [hrest]; rfl⟩

theorem enterLocked_recorded (s : State) : Recorded { s with tb := { s.tb with state := .locked, lockSrc := s.tb.cfg.source } }
    (enterLocked s) :=
  .of_noted (raiseVector_noted 93 _) (noteTime_recorded ..) (by rw [raiseVector_rcd])

theorem enterLocked_vector (s : State) : .vector 93 ∈ (enterLocked s).emitted :=
  (noteTime_recorded ..).emitted _ (by rw [raiseVector_emitted]; exact List.mem_cons_self ..)

/-- What entry to HOLDOVER leaves. -/
structure HeldOver (s t : State) : Prop where
  tb : t.tb = { s.tb with state := .holdover, holdFrom := now s, goodRun := 0 }
  irq : t.glb.irqStatus.getLsbD 4 = true
  vector : .vector 93 ∈ t.emitted
  seq : t.rcd.seq = (s.rcd.seq + 1) % 2 ^ 32

theorem enterHoldover_heldOver (s : State) : HeldOver s (enterHoldover s) := by
  have hnote := noteTime_recorded 5 nmHoldover (raiseVector 93 (setIrq 4 { s with tb := { s.tb with
    state := .holdover, holdFrom := now s, goodRun := 0 } }))
  exact {
    tb := enterHoldover_tb s
    irq := hnote.irq 4 ((raiseVector_noted 93 _).irq 4 (setIrq_raised (by decide) _))
    vector := hnote.emitted _ (by rw [raiseVector_emitted]; exact List.mem_cons_self ..)
    seq := hnote.seq.trans (by rw [raiseVector_rcd, setIrq_rcd]) }

theorem execTbHoldoverEntry_lost {s : State} (hst : s.tb.state = .locked) (hsrc : s.tb.cfg.source ≠ 2)
    (hgm : s.tb.cfg.source = 0 → mdel s.tb.masters s.tb.gmPort = []) :
    exec .tbHoldoverEntry s = .next (enterHoldover (advanceTo (lossDue s) s)) :=
  if_pos ⟨hst, hsrc, fun h => by rw [hgm h]; rfl⟩

theorem HeldOver.now_eq {s t : State} (h : HeldOver s t) : now t = now s :=
  now_congr (by rw [h.tb])

/-! ### UTC -/

/-- The stored UTC values at the second boundary where they come into force. -/
def storedApplied (s : State) : State :=
  utcInForce s.tb.storedOffset (leapCode (bit s.tb.storedFlags 0) (bit s.tb.storedFlags 1)) (now s / secU) false
    { s with tb := { s.tb with storedWaiting := false } }

theorem execLeapSetEffect_waiting {s : State} (hw : s.tb.storedWaiting = true) (hp : s.tb.utcFromPtp = false) :
    exec .leapSetEffect s = .next (storedApplied (advanceTo (secCeil (now s)) s)) :=
  if_pos ⟨hw, by simp [leapSetRules, hp]⟩

theorem leapApplied_applied {s : State} {e : Nat} (he : s.tb.leapEnd = some e) : ∃ t, exec .leapApplied s = .next t ∧ t.tb.leap = 0 ∧
    t.tb.leapEnd = none ∧ t.tb.lastLeap = some (e, s.tb.utcOffset, decide (s.tb.leap = 2)) ∧ e * 2 ^ 32 ≤ now t ∧
    .vector 93 ∈ t.emitted ∧ t.tb.utcOffset = if s.tb.leap = 2 then s.tb.utcOffset - 1 else s.tb.utcOffset + 1 := by
  have hadd : ∀ (day : Nat) (del : Bool) (u : State), (rtcLeapAdd day del u).tb = u.tb ∧ Noted u (rtcLeapAdd day del u) :=
    fun day del u => by
      unfold rtcLeapAdd
      split
      · exact ⟨rfl, .refl u⟩
      · dsimp only
        split
        · exact ⟨note_tb .., (note_recorded ..).toNoted⟩
        · have hnote := fun w : State => (note_recorded 4 3 nmLeapEntryAdded (tbStatusWord u) 0 0 w).toNoted
          refine ⟨note_tb .., Noted.trans ?_ (hnote _)⟩
          exact .of_eq rfl rfl rfl
  have hexec : ∃ day u, exec .leapApplied s = .next (rtcLeapAdd day (decide (s.tb.leap = 2)) (raiseVector 93 u)) ∧
      u.tb.leap = 0 ∧ u.tb.leapEnd = none ∧ u.tb.lastLeap = some (e, s.tb.utcOffset, decide (s.tb.leap = 2)) ∧
      now u = now (advanceTo (e * secU) s) ∧
      u.tb.utcOffset = if s.tb.leap = 2 then s.tb.utcOffset - 1 else s.tb.utcOffset + 1 := by
    change ∃ day u, execLeapApplied s = _ ∧ _
    unfold execLeapApplied
    rw [he]
    dsimp only
    rw [advanceTo_tb_leap, advanceTo_tb_utcOffset]
    refine ⟨_, _, rfl, rfl, rfl, rfl, rfl, ?_⟩
    dsimp only
    split <;> simp_all
  obtain ⟨day, u, hrun, hleap, hend, hlast, hnow, hoff⟩ := hexec
  obtain ⟨htb, hnoted⟩ := hadd day (decide (s.tb.leap = 2)) (raiseVector 93 u)
  rw [raiseVector_tb] at htb
  refine ⟨_, hrun, by rw [htb, hleap], by rw [htb, hend], by rw [htb, hlast], ?_, ?_, by rw [htb, hoff]⟩
  · rw [now_congr (congrArg TimeBase.count htb), hnow]
    exact le_now_advanceTo _ _
  · exact hnoted.emitted _ (by rw [raiseVector_emitted]; exact List.mem_cons_self ..)

/-- Settles O46. -/
theorem lockAndLeapRowsComplete : Obligations.LockAndLeapRowsComplete := by
  refine ⟨fun s => ⟨fun hup hrun hst hpend hrest => ?_, fun hst hsrc => ?_, fun hst hsrc hgm => ?_⟩,
    fun s => ⟨fun hw hp => ?_, fun e he => leapApplied_applied he⟩⟩
  · refine ⟨_, execTbLocked_good hup hrun hst hpend hrest, ?_, enterLocked_vector s, (enterLocked_recorded s).seq⟩
    exact (noteTime_tb ..).trans (raiseVector_tb ..)
  · have hdue : lossDue s = s.tb.ppsEdge.getD 0 + 3 * 2 ^ 32 / 2 := if_pos hsrc
    have hheld := enterHoldover_heldOver (advanceTo (lossDue s) s)
    refine ⟨_, execTbHoldoverEntry_lost hst (by rw [hsrc]; decide) (fun h => by rw [hsrc] at h; cases h), by rw [hheld.tb],
      by rw [hheld.tb], by rw [hheld.now_eq, hheld.tb], ?_, hheld.irq, hheld.vector,
      hheld.seq.trans (by rw [advanceTo_rcd_seq])⟩
    rw [hheld.now_eq, ← hdue]
    exact le_now_advanceTo _ _
  · have hdue : lossDue s = s.tb.lastSync + 3 * 2 ^ 32 := if_neg (by rw [hsrc]; decide)
    have hheld := enterHoldover_heldOver (advanceTo (lossDue s) s)
    refine ⟨_, execTbHoldoverEntry_lost hst (by rw [hsrc]; decide) (fun _ => hgm), by rw [hheld.tb], ?_⟩
    rw [hheld.now_eq, ← hdue]
    exact le_now_advanceTo _ _
  · refine ⟨_, execLeapSetEffect_waiting hw hp, advanceTo_tb_storedOffset _ _, rfl, rfl, ?_, le_now_advanceTo _ _⟩
    change leapCode (bit (advanceTo _ s).tb.storedFlags 0) (bit (advanceTo _ s).tb.storedFlags 1) = _
    rw [advanceTo_tb_storedFlags]
    rfl

end Sys2Proof.Machine
end

section
/-! The PTP messages (03 R48, R54, R57). -/

namespace Sys2Proof.Machine

/-! ### Masters -/

theorem announceUtc_kept (a : Announce) (s : State) : (announceUtc a s).tb.masters = s.tb.masters ∧
    (announceUtc a s).tb.announceAt = s.tb.announceAt ∧ (announceUtc a s).tb.count = s.tb.count := by
  unfold announceUtc
  split
  · dsimp only
    split <;> exact ⟨rfl, rfl, rfl⟩
  · split <;> exact ⟨rfl, rfl, rfl⟩

/-- A master that a port has just heard, before what it says of UTC. -/
def masterHeard (p : Fin 6) (m : Announce) (st : Instant) (s : State) : State :=
  selectMaster { s with tb := { s.tb with masters := mput s.tb.masters p m, announceAt := mput s.tb.announceAt p st } }

theorem execPtpAnnounceReceived_first {p : Fin 6} {m : Announce} {st : Instant} {s : State} (hport : ptpPort s p = true)
    (hdom : m.domain = ptpDomain s.tb.cfg) (hnone : mget s.tb.masters p = none) : exec (.ptpAnnounceReceived p m st) s =
      .next (if (masterHeard p m st (countPort p 0 (advanceTo st s))).tb.gmPort = p.val then
        announceUtc m (masterHeard p m st (countPort p 0 (advanceTo st s)))
        else masterHeard p m st (countPort p 0 (advanceTo st s))) := by
  refine (if_pos ⟨hport, hdom⟩).trans ?_
  have hnone' : mget (countPort p 0 (advanceTo st s)).tb.masters p = none := by
    rw [countPort_tb, advanceTo_tb_masters, hnone]
  dsimp only
  rw [hnone']
  exact if_pos rfl

/-- A port's master is forgotten, and another is selected. -/
def masterForgotten (p : Fin 6) (s : State) : State :=
  selectMaster { s with tb := { s.tb with
    masters := mdel s.tb.masters p, announceAt := mdel s.tb.announceAt p, syncStamps := mdel s.tb.syncStamps p } }

theorem announceReceiptTimeout_forgets {p : Fin 6} {a : Instant} {s : State} (ha : mget s.tb.announceAt p = some a) :
    ∃ t, exec (.announceReceiptTimeout p) s = .next t ∧
      t.tb.masters = mdel s.tb.masters p ∧ t.tb.announceAt = mdel s.tb.announceAt p ∧ a + 3 * 2 ^ 32 ≤ now t := by
  have hmasters : (masterForgotten p (advanceTo (a + 3 * secU) s)).tb.masters = mdel s.tb.masters p :=
    congrArg (mdel · p.val) (advanceTo_tb_masters ..)
  have hheard : (masterForgotten p (advanceTo (a + 3 * secU) s)).tb.announceAt = mdel s.tb.announceAt p :=
    congrArg (mdel · p.val) (advanceTo_tb_announceAt ..)
  have hnow : a + 3 * 2 ^ 32 ≤ now (masterForgotten p (advanceTo (a + 3 * secU) s)) := le_now_advanceTo ..
  change ∃ t, execAnnounceReceiptTimeout p s = .next t ∧ _
  unfold execAnnounceReceiptTimeout
  rw [ha]
  refine ⟨_, rfl, ?_⟩
  dsimp only
  split
  · rename_i b _
    obtain ⟨hm, hat, hcount⟩ := announceUtc_kept b (masterForgotten p (advanceTo (a + 3 * secU) s))
    exact ⟨hm.trans hmasters, hat.trans hheard, hnow.trans_eq (now_congr hcount).symm⟩
  · exact ⟨hmasters, hheard, hnow⟩

/-! ### Sync and the link delay -/

theorem syncOffset_countPort_advanceTo (p q i : Nat) (st t : Instant) (m : PtpSync) (s : State) :
    syncOffset (countPort q i (advanceTo t s)) p st m = syncOffset s p st m := by
  simp only [syncOffset, countPort_tb, advanceTo_tb_cfg, advanceTo_tb_pdelay]

theorem execPtpSyncReceived_oneStep {p : Fin 6} {m : PtpSync} {a : Announce} {st : Instant} {s : State} (hport : ptpPort s p = true)
    (hgm : s.tb.gmPort = p.val) (hmaster : mget s.tb.masters p = some a) (hsender : a.sender = m.sender)
    (hdom : m.domain = ptpDomain s.tb.cfg) (hkind : m.kind = 0) : exec (.ptpSyncReceived p m st) s =
      .next (measured (syncOffset s p st m) { countPort p 0 (advanceTo st s) with
        tb := { (countPort p 0 (advanceTo st s)).tb with lastSync := st } }) := by
  change execPtpSyncReceived p m st s = _
  unfold execPtpSyncReceived
  rw [hmaster, hkind]
  have hoff := syncOffset_countPort_advanceTo p p 0 st st m s
  refine (if_pos (c := _ ∧ _) ⟨hport, hgm, beq_iff_eq.mpr hsender, hdom⟩).trans ?_
  dsimp only
  rw [hoff]
  rfl

theorem ptpSyncReceived_steers {p : Fin 6} {m : PtpSync} {a : Announce} {st : Instant} {s : State} (hport : ptpPort s p = true)
    (hgm : s.tb.gmPort = p.val) (hmaster : mget s.tb.masters p = some a) (hsender : a.sender = m.sender)
    (hdom : m.domain = ptpDomain s.tb.cfg) (hkind : m.kind = 0) (hsmall : (syncOffset s p st m).natAbs < 100) :
    ∃ t, exec (.ptpSyncReceived p m st) s = .next t ∧ t.tb.offsetNs = syncOffset s p st m ∧ t.tb.lastSync = st ∧
      t.tb.slew = nsCount (syncOffset s p st m) ∧ t.tb.goodRun = s.tb.goodRun + 1 ∧ t.tb.state = s.tb.state := by
  obtain ⟨i, htb⟩ := measured_good (s := { countPort p 0 (advanceTo st s) with
    tb := { (countPort p 0 (advanceTo st s)).tb with lastSync := st } }) hsmall
  refine ⟨_, execPtpSyncReceived_oneStep hport hgm hmaster hsender hdom hkind, ?_⟩
  rw [htb]
  refine ⟨rfl, rfl, rfl, ?_, ?_⟩
  · exact congrArg (· + 1) ((congrArg TimeBase.goodRun (countPort_tb ..)).trans (advanceTo_tb_goodRun ..))
  · exact (congrArg TimeBase.state (countPort_tb ..)).trans (advanceTo_tb_state ..)

theorem execPtpPdelayRespReceived_followUp {p : Fin 6} {m : PdelayResp} {st t1 t2 t4 : Nat} {corr : Int} {s : State}
    (hport : ptpPort s p = true) (hsent : mget s.tb.pdelaySent p = some (m.seq, t1)) (hdom : m.domain = ptpDomain s.tb.cfg)
    (hkind : m.kind = 1) (hgot : mget s.tb.pdelayGot p = some (m.seq, t2, t4, corr)) : exec (.ptpPdelayRespReceived p m st) s =
      .next (countPort p 0 (advanceTo st { s with tb := { s.tb with
        pdelay := lset s.tb.pdelay p (((toNs t4 : Int) - toNs t1 - ((m.peerNs : Int) - t2) - corr - m.corrNs) / 2) } })) := by
  change execPtpPdelayRespReceived p m st s = _
  unfold execPtpPdelayRespReceived
  rw [hsent, hgot]
  refine (if_pos ⟨hport, rfl, hdom⟩).trans ((if_neg (by rw [hkind]; decide)).trans ((if_neg (by rw [hkind]; decide)).trans ?_))
  exact if_pos rfl

/-! ### Peer delay requests -/

/-- A peer delay request that leaves notes its instant. -/
theorem txLeaves_pdelayReq (p q c len seq : Nat) (s : State) :
    txLeaves p { cls := c, len := len, tag := none, e := .ptp q 1 seq } s =
      { countPort p 7 (emit (.ptp q 1 seq) s) with tb := { (countPort p 7 (emit (.ptp q 1 seq) s)).tb with
        pdelaySent := mput (countPort p 7 (emit (.ptp q 1 seq) s)).tb.pdelaySent q
          (seq, now (countPort p 7 (emit (.ptp q 1 seq) s))) } } := rfl

theorem execPtpPdelayReqSend_first {p : Fin 6} {s : State} (hport : ptpPort s p = true) (hsent : mget s.tb.pdelaySent p = none) :
    exec (.ptpPdelayReqSend p) s = .next (txOwn p 7 68 (.ptp p 1 ((s.tb.pdelaySeq + 1) % 65536))
      { s with tb := { s.tb with pdelaySeq := (s.tb.pdelaySeq + 1) % 65536 } }) := by
  refine (if_pos hport).trans ?_
  rw [hsent]
  rfl

theorem ptpPdelayReqSend_sends {p : Fin 6} {s : State} (hport : ptpPort s p = true) (hsent : mget s.tb.pdelaySent p = none)
    (hpause : classPaused s p 7 = false) (hback : heldBack s p = false) (hwait : mgetD s.txWait p [] = []) :
    ∃ t, exec (.ptpPdelayReqSend p) s = .next t ∧ t.tb.pdelaySeq = (s.tb.pdelaySeq + 1) % 65536 ∧
      mget t.tb.pdelaySent p = some ((s.tb.pdelaySeq + 1) % 65536, now s) ∧
      .ptp p 1 ((s.tb.pdelaySeq + 1) % 65536) ∈ t.emitted := by
  have hfree := txOwn_free (len := 68) (e := .ptp p 1 ((s.tb.pdelaySeq + 1) % 65536))
    (s := { s with tb := { s.tb with pdelaySeq := (s.tb.pdelaySeq + 1) % 65536 } }) hback hwait hpause
  refine ⟨_, (execPtpPdelayReqSend_first hport hsent).trans (congrArg done hfree), ?_⟩
  rw [txLeaves_pdelayReq]
  refine ⟨congrArg TimeBase.pdelaySeq (countPort_tb ..), ?_, ?_⟩
  · refine (mget_mput_same ..).trans ?_
    rw [now_countPort]
    rfl
  · have hout := countPort_emitted (emit (.ptp p 1 ((s.tb.pdelaySeq + 1) % 65536))
      { s with tb := { s.tb with pdelaySeq := (s.tb.pdelaySeq + 1) % 65536 }, txWait := mput s.txWait p [] }) p.val 7
    exact hout ▸ List.mem_cons_self ..

/-- Settles O47. -/
theorem ptpRowsComplete : Obligations.PtpRowsComplete := by
  intro p st s hport
  refine ⟨fun m a hgm hmaster hsender hdom hkind hsmall => ptpSyncReceived_steers hport hgm hmaster hsender hdom hkind hsmall,
    fun m hdom hnone => ?_, fun q => if_pos ⟨hport, rfl⟩, fun m t1 t2 t4 corr hsent hdom hkind hgot => ?_,
    fun hsent hpause hback hwait => ptpPdelayReqSend_sends hport hsent hpause hback hwait,
    fun a ha => announceReceiptTimeout_forgets ha⟩
  · have hmasters : mget (masterHeard p m st (countPort p 0 (advanceTo st s))).tb.masters p = some m := mget_mput_same ..
    have hheard : mget (masterHeard p m st (countPort p 0 (advanceTo st s))).tb.announceAt p = some st := mget_mput_same ..
    refine ⟨_, execPtpAnnounceReceived_first hport hdom hnone, ?_⟩
    split
    · obtain ⟨hm, hat, -⟩ := announceUtc_kept m (masterHeard p m st (countPort p 0 (advanceTo st s)))
      exact ⟨by rw [hm, hmasters], by rw [hat, hheard]⟩
    · exact ⟨hmasters, hheard⟩
  · refine ⟨_, execPtpPdelayRespReceived_followUp hport hsent hdom hkind hgot, ?_⟩
    rw [countPort_tb, advanceTo_tb_pdelay]

end Sys2Proof.Machine
end

section
/-! What alarms, records, packets, frames, triggers and replies leave: the interrupts raised and the emissions made so far, the time,
Castling's state but for the triggers that its commits carry, and the counters of matching and dispatch (40 to 79). -/

namespace Sys2Proof.Machine

/-! ### The relation -/

/-- Interrupts and emissions of s stand in t; of the time base only a peer delay request's instant differs, and of Castling only the
triggers to be mirrored. No counter from 40 to 79 differs. -/
structure Told (s t : State) : Prop where
  irq : ∀ b, s.glb.irqStatus.getLsbD b = true → t.glb.irqStatus.getLsbD b = true
  emitted : ∀ e ∈ s.emitted, e ∈ t.emitted
  tb : { s.tb with pdelaySent := [] } = { t.tb with pdelaySent := [] }
  cas : { s.cas with trigs := [] } = { t.cas with trigs := [] }
  cnt : ∀ n, 40 ≤ n → n < 80 → counter t n = counter s n

theorem Told.refl (s : State) : Told s s := ⟨fun _ h => h, fun _ h => h, rfl, rfl, fun _ _ _ => rfl⟩

theorem Told.trans {s t u : State} (h : Told s t) (k : Told t u) : Told s u :=
  ⟨fun b hb => k.irq b (h.irq b hb), fun e he => k.emitted e (h.emitted e he), h.tb.trans k.tb, h.cas.trans k.cas,
    fun n hlo hhi => (k.cnt n hlo hhi).trans (h.cnt n hlo hhi)⟩

theorem Told.of_counts {s t : State} (hg : t.glb = s.glb) (he : t.emitted = s.emitted) (ht : t.tb = s.tb) (hc : t.cas = s.cas)
    (hn : ∀ n, 40 ≤ n → n < 80 → counter t n = counter s n) : Told s t :=
  ⟨fun _ h => hg ▸ h, fun _ h => he ▸ h, by rw [ht], by rw [hc], hn⟩

theorem Told.of_eq {s t : State} (hg : t.glb = s.glb) (he : t.emitted = s.emitted) (ht : t.tb = s.tb) (hc : t.cas = s.cas)
    (hn : t.cnt = s.cnt) : Told s t := .of_counts hg he ht hc fun n _ _ => counter_congr hn n

/-- A frame without GLB, the emissions, the time base and Castling. -/
theorem Told.still_but_counts {m : Nat} {s t : State} (h : Same m s t)
    (hm : ([.glb, .emitted, .tb, .cas] : List Part).all (fun c => !m.testBit c.ctorIdx) = true)
    (hn : ∀ n, 40 ≤ n → n < 80 → counter t n = counter s n) : Told s t := by
  simp only [List.all_cons, List.all_nil, Bool.and_true, Bool.and_eq_true, Bool.not_eq_true'] at hm
  obtain ⟨hglb, hemitted, htb, hcas⟩ := hm
  exact .of_counts (h.keeps .glb hglb).symm (h.keeps .emitted hemitted).symm (h.keeps .tb htb).symm (h.keeps .cas hcas).symm hn

/-- A frame without the counters either. -/
theorem Told.still {m : Nat} {s t : State} (h : Same m s t)
    (hm : ([.glb, .emitted, .tb, .cas] : List Part).all (fun c => !m.testBit c.ctorIdx) = true) (hn : m.testBit 32 = false) : Told s t :=
  .still_but_counts h hm fun n _ _ => counter_congr (h.keeps .cnt hn).symm n

/-- What leaves GLB and the emissions noted, in a frame without the time base and Castling. -/
theorem Told.of_noted {m : Nat} {s t : State} (n : Noted s t) (h : Same m s t) (htb : m.testBit 3 = false) (hcas : m.testBit 29 = false)
    (hn : m.testBit 32 = false) : Told s t :=
  ⟨n.irq, n.emitted, congrArg (fun b : TimeBase => { b with pdelaySent := [] }) (h.keeps .tb htb),
    congrArg (fun c : Castling => { c with trigs := [] }) (h.keeps .cas hcas), fun n _ _ => counter_congr (h.keeps .cnt hn).symm n⟩

theorem Told.now_eq {s t : State} (h : Told s t) : now t = now s := now_congr (congrArg TimeBase.count h.tb).symm

theorem Told.resync {s t : State} (h : Told s t) : t.cas.resync = s.cas.resync := (congrArg Castling.resync h.cas).symm

theorem Told.foldl {α : Type} {f : State → α → State} (h : ∀ s a, Told s (f s a)) (l : List α) (s : State) : Told s (l.foldl f s) := by
  induction l generalizing s with
  | nil => exact .refl s
  | cons a l ih => exact (h s a).trans (ih _)

theorem Told.ite {c : Prop} [Decidable c] {s a b : State} (ha : c → Told s a) (hb : ¬c → Told s b) : Told s (if c then a else b) := by
  split
  · exact ha ‹_›
  · exact hb ‹_›

theorem Told.ite_snd {α : Type} {c : Prop} [Decidable c] {s : State} {a b : α × State} (ha : c → Told s a.2) (hb : ¬c → Told s b.2) :
    Told s (if c then a else b).2 := by
  split
  · exact ha ‹_›
  · exact hb ‹_›

/-! ### Events, records and replies -/

theorem emit_told (e : Emission) (s : State) : Told s (emit e s) := ⟨fun _ h => h, fun _ h => List.mem_cons_of_mem _ h, rfl, rfl, fun _ _ _ => rfl⟩

theorem countBy_told {n : Nat} (hn : n < 40 ∨ 80 ≤ n) (k : Nat) (s : State) : Told s (countBy n k s) :=
  .of_counts rfl rfl rfl rfl fun m _ hm => mgetD_mput_other _ _ _ (by omega)

theorem count_told {n : Nat} (hn : n < 40 ∨ 80 ≤ n) (s : State) : Told s (count n s) := countBy_told hn 1 s

theorem countPort_told (p i : Nat) (s : State) : Told s (countPort p i s) :=
  Told.trans (t := setPort p { port s p with counts := mput (port s p).counts i (satAdd 0xFFFFFFFF (mgetD (port s p).counts i 0) 1) } s)
    (.of_eq rfl rfl rfl rfl rfl) (count_told (by omega) _)

theorem raiseVector_told (n : Nat) (s : State) : Told s (raiseVector n s) := .of_noted (raiseVector_noted n s) (raiseVector_same n s) rfl rfl rfl

theorem setIrq_told (b : Nat) (s : State) : Told s (setIrq b s) := .of_noted (setIrq_noted b s) (setIrq_same b s) rfl rfl rfl

theorem recStage_told (r : Record) (s : State) : Told s (recStage r s) :=
  .of_noted (recStage_recorded r s).toNoted (recStage_same r s) rfl rfl rfl

theorem recAdd_told (sev cls code origin textFlag subject arg0 arg1 : Nat) (detail : Bytes) (s : State) :
    Told s (recAdd sev cls code origin textFlag subject arg0 arg1 detail s) := recStage_told _ _

theorem noteI_told (sev cls : Nat) (name items : Bytes) (subject arg0 arg1 : Nat) (s : State) :
    Told s (noteI sev cls name items subject arg0 arg1 s) := recAdd_told ..

theorem note_told (sev cls : Nat) (name : Bytes) (subject arg0 arg1 : Nat) (s : State) :
    Told s (note sev cls name subject arg0 arg1 s) := noteI_told ..

theorem putHostReply_told (r : Reply) (q : Bool) (s : State) : Told s (putHostReply r q s) := by
  unfold putHostReply
  dsimp only
  have hout : Told s (emit (.reply (some s.cmd.rqTail) r) { s with cmd := { s.cmd with rqTail := (s.cmd.rqTail + 1) % ringLen s.cmd.rqSize } }) :=
    ⟨fun _ h => h, fun _ h => List.mem_cons_of_mem _ h, rfl, rfl, fun _ _ _ => rfl⟩
  have hfull := hout.trans (Told.ite (c := rplqFull (emit (.reply (some s.cmd.rqTail) r)
    { s with cmd := { s.cmd with rqTail := (s.cmd.rqTail + 1) % ringLen s.cmd.rqSize } }) = true) (fun _ => setIrq_told 7 _) (fun _ => .refl _))
  exact Told.ite (fun _ => hfull) (fun _ => hfull.trans (raiseVector_told 0 _))

theorem postReply_told (r : Reply) (q : Bool) (s : State) : Told s (postReply r q s) := by
  unfold postReply
  split
  · exact Told.ite (fun _ => .of_eq rfl rfl rfl rfl rfl) (fun _ => putHostReply_told r q s)
  · exact Told.ite (fun _ => .of_eq rfl rfl rfl rfl rfl) (fun _ => ⟨fun _ h => h, fun _ h => List.mem_cons_of_mem _ h, rfl, rfl, fun _ _ _ => rfl⟩)
  · exact .refl s

theorem finalReply_told (w : Waiter) (st : Nat) (s : State) : Told s (finalReply w st s) := postReply_told ..

theorem finalReplies_told (ws : List Waiter) (st : Nat) (s : State) : Told s (finalReplies ws st s) :=
  .foldl (fun s w => finalReply_told w st s) ws s

/-! ### Frames of a port -/

theorem netIrq_told (p b : Nat) (s : State) : Told s (netIrq p b s) := by
  refine Told.trans ?_ (raiseVector_told (82 + p) _)
  exact .of_eq rfl rfl rfl rfl rfl

theorem egressStamp_told (p tag : Nat) (t : Instant) (s : State) : Told s (egressStamp p tag t s) := by
  unfold egressStamp
  refine Told.ite (fun _ => Told.trans ?_ (netIrq_told p 4 _)) (fun _ => Told.trans ?_ (countPort_told p 13 _)) <;>
    exact .of_eq rfl rfl rfl rfl rfl

theorem txNoted_told (w : TxHeld) (s : State) : Told s (txNoted w s) := by
  unfold txNoted
  split
  · exact ⟨fun _ h => h, fun _ h => h, rfl, rfl, fun _ _ _ => rfl⟩
  · exact .refl s

theorem txLeaves_told (p : Nat) (w : TxHeld) (s : State) : Told s (txLeaves p w s) := by
  have hsent : Told s (txNoted w (countPort p 7 (emit w.e s))) :=
    (emit_told w.e s).trans ((countPort_told p 7 _).trans (txNoted_told w _))
  rw [txLeaves_eq]
  cases w.tag with
  | some tag => exact hsent.trans (egressStamp_told ..)
  | none => exact hsent

theorem txDrain_told (p : Nat) (s : State) : Told s (txDrain p s) := by
  unfold txDrain
  refine Told.ite (fun _ => .refl s) (fun _ => Told.trans ?_ (Told.foldl (fun s w => txLeaves_told p w s) _ _))
  exact .of_eq rfl rfl rfl rfl rfl

theorem txFrame_told (publish : Bool) (p : Nat) (w : TxHeld) (s : State) : Told s (txFrame publish p w s) := by
  have hdrain : Told s (if publish = true then s else txDrain p s) := Told.ite (fun _ => .refl s) (fun _ => txDrain_told p s)
  unfold txFrame
  dsimp only
  exact hdrain.trans (Told.ite (fun _ => Told.ite (fun _ => countPort_told p 9 _) (fun _ => .of_eq rfl rfl rfl rfl rfl))
    (fun _ => txLeaves_told p w _))

theorem txIpFrame_told (publish : Bool) (p : Nat) (x : IpSend) (stamp : Option Nat) (prp : Option (Nat × Nat)) (s : State) :
    Told s (txIpFrame publish p x stamp prp s) := by
  have haddr : Told s (addressed p x.dst s).2 := .still (addressed_same p x.dst s) rfl rfl
  unfold txIpFrame
  dsimp only
  split
  · exact haddr.trans (txFrame_told ..)
  · exact haddr.trans (countPort_told p 10 _)

theorem txIp_told (p : Nat) (x : IpSend) (s : State) : Told s (txIp p x s) := txIpFrame_told ..

theorem txOut_told (publish prp : Bool) (p : Nat) (x : IpSend) (stamp : Option Nat) (s : State) :
    Told s (txOut publish prp p x stamp s) := by
  unfold txOut
  refine Told.ite (fun _ => ?_) (fun _ => txIpFrame_told ..)
  exact Told.trans (.still (prpAdvance_same _ s) rfl rfl) ((txIpFrame_told ..).trans (txIpFrame_told ..))

/-- A key that may not be used is counted twice. -/
theorem refusedKey_told {n : Nat} (hn : n < 40 ∨ 80 ≤ n) (s : State) : Told s (useRefused (count n s)) :=
  (count_told hn s).trans (count_told (by decide) _)

theorem sendGoose_told (publish : Bool) (n : Nat) (d : OutDef) (ttl : Nat) (s : State) : Told s (sendGoose publish n d ttl s) := by
  unfold sendGoose
  refine Told.ite (fun _ => .refl s) (fun _ => Told.ite (fun _ => refusedKey_told (by decide) s) (fun _ => ?_))
  refine Told.trans ?_ (txOut_told ..)
  exact .of_eq rfl rfl rfl rfl rfl

theorem publishState_told (publish : Bool) (n : Nat) (d : OutDef) (members : List Nat) (s : State) :
    Told s (publishState publish n d members s) := by
  refine Told.trans ?_ (sendGoose_told publish n d (2 * rtMin d) _)
  exact .of_eq rfl rfl rfl rfl rfl

/-! ### Output queues -/

theorem oqVector_told (n : Nat) (s : State) : Told s (oqVector n s) := by
  refine Told.trans ?_ (raiseVector_told (2 + n) _)
  exact .of_eq rfl rfl rfl rfl rfl

theorem oqCommit_told (n : Nat) (p : QPkt) (s : State) : Told s (oqCommit n p s) := by
  unfold oqCommit
  refine Told.ite (fun _ => Told.trans ?_ (oqVector_told n _)) (fun _ => ?_) <;> exact .of_eq rfl rfl rfl rfl rfl

theorem oqDrop_told {cnt : Nat} (hc : cnt < 40 ∨ 80 ≤ cnt) (n k : Nat) (s : State) : Told s (oqDrop n cnt k s) :=
  Told.trans (t := setOq n { oq s n with drops := satAdd 0xFFFFFFFF (oq s n).drops k } s) (.of_eq rfl rfl rfl rfl rfl) (countBy_told hc k _)

theorem oqOversize_told (n producer : Nat) (s : State) : Told s (oqOversize n producer s) := by
  unfold oqOversize
  dsimp only
  have hdrop : Told s (oqDrop n 162 1 s) := oqDrop_told (by decide) n 1 s
  refine Told.ite (fun _ => hdrop) (fun _ => hdrop.trans (Told.trans ?_ (noteI_told ..)))
  exact .of_eq rfl rfl rfl rfl rfl

theorem oqPut_told (n producer : Nat) (p : QPkt) (s : State) : Told s (oqPut n producer p s) := by
  unfold oqPut
  exact Told.ite (fun _ => oqDrop_told (by decide) ..) (fun _ => Told.ite (fun _ => oqCommit_told ..) (fun _ => oqOversize_told ..))

theorem oqNoWait_told (n producer : Nat) (p : QPkt) (s : State) : Told s (oqNoWait n producer p s) := by
  unfold oqNoWait
  exact Told.ite (fun _ => .refl s) (fun _ => Told.ite (fun _ => oqPut_told ..) (fun _ => oqDrop_told (by decide) ..))

/-! ### Captures and triggers -/

theorem oqStall_told (n key len : Nat) (s : State) : Told s (oqStall n key len s) := by
  unfold oqStall
  refine Told.ite (fun _ => .refl s) (fun _ => Told.trans ?_ (count_told (by decide) _))
  exact .of_eq rfl rfl rfl rfl rfl

theorem capDrain_told (n cap : Nat) (s : State) : Told s (capDrain n cap s) := by
  induction n generalizing s with
  | zero => exact .refl s
  | succ n ih =>
    rw [capDrain]
    split
    · exact .refl s
    · rename_i r _
      split
      · exact .refl s
      · rename_i m b rest _
        refine Told.ite (fun _ => ?_) (fun _ => oqStall_told ..)
        refine Told.trans ?_ (ih _)
        refine Told.trans ?_ (Told.still (capDone_same ..) rfl rfl)
        refine Told.trans ?_ (oqPut_told ..)
        exact .of_eq rfl rfl rfl rfl rfl

theorem capEmit_told (cap : Nat) (mark : Bool) (b h : Bytes) (s : State) : Told s (capEmit cap mark b h s) := by
  unfold capEmit
  split
  · exact .refl s
  · refine Told.ite (fun _ => Told.trans ?_ (capDrain_told ..)) (fun _ => Told.trans ?_ (countBy_told (by decide) ..)) <;>
      exact .of_eq rfl rfl rfl rfl rfl

theorem capChained_told (cap : Nat) (mark : Bool) (b : Bytes) (s : State) : Told s (capChained cap mark b s) := by
  unfold capChained
  split
  · exact .refl s
  · refine Told.trans ?_ (capEmit_told ..)
    exact .of_eq rfl rfl rfl rfl rfl

theorem writeMark_told (cap : Nat) (tr : Trigger) (s : State) : Told s (writeMark cap tr s) :=
  Told.trans (.still (nextPkt_same cap s) rfl rfl) (capChained_told ..)

theorem acceptTrigger_told (cap : Nat) (tr : Trigger) (phased : Bool) (s : State) : Told s (acceptTrigger cap tr phased s) := by
  unfold acceptTrigger
  split
  · exact .refl s
  · rename_i r _
    dsimp only
    have hmirror : ∀ u : State, Told u (count 144 (if u.cas.role = .active then
        { u with cas := { u.cas with trigs := u.cas.trigs ++ [(cap, tr)] } } else u)) := fun u => by
      refine Told.trans (Told.ite (fun _ => ?_) (fun _ => .refl u)) (count_told (by decide) _)
      exact ⟨fun _ h => h, fun _ h => h, rfl, rfl, fun _ _ _ => rfl⟩
    have hfirst : Told s (count 144 (if (setCap cap (holdOff tr r) s).cas.role = .active then { setCap cap (holdOff tr r) s with
        cas := { (setCap cap (holdOff tr r) s).cas with trigs := (setCap cap (holdOff tr r) s).cas.trigs ++ [(cap, tr)] } }
        else setCap cap (holdOff tr r) s)) := Told.trans (t := setCap cap (holdOff tr r) s) (.of_eq rfl rfl rfl rfl rfl) (hmirror _)
    exact hfirst.trans (Told.ite (fun _ => writeMark_told ..) (fun _ => Told.ite (fun _ => .still (addPhase_same ..) rfl rfl)
      (fun _ => .still (openRecord_same ..) rfl rfl)))

theorem triggerCap_told (cap : Nat) (tr : Trigger) (phased : Bool) (s : State) : Told s (triggerCap cap tr phased s).1 := by
  unfold triggerCap
  split
  · exact .refl s
  · split_ifs
    · exact .refl s
    · refine Told.trans ?_ (count_told (by decide) _)
      exact .of_eq rfl rfl rfl rfl rfl
    · exact count_told (by decide) s
    · exact acceptTrigger_told ..

theorem triggerAll_told (sel : CapDef → Bool) (tr : Trigger) (s : State) : Told s (triggerAll sel tr s) :=
  .foldl (fun s _ => Told.ite (fun _ => triggerCap_told ..) (fun _ => .refl s)) s.caps s

/-! ### Detectors -/

theorem alarmPin_told (s : State) : Told s (alarmPin s) := by
  unfold alarmPin
  exact Told.ite (fun _ => .refl s) (fun _ => ⟨fun _ h => h, fun _ h => List.mem_cons_of_mem _ h, rfl, rfl, fun _ _ _ => rfl⟩)

theorem detDatagram_told (d : DetDef) (b : Bytes) (s : State) : Told s (detDatagram d b s) := by
  unfold detDatagram
  dsimp only
  split
  · exact refusedKey_told (by decide) s
  · exact Told.ite (fun _ => count_told (by decide) s) (fun _ => (count_told (by decide) s).trans (txIp_told ..))

theorem detRecorder_told (det : Nat) (r : DetRec) (t : Instant) (b : Bytes) (s : State) : Told s (detRecorder det r t b s) := by
  unfold detRecorder
  refine Told.ite (fun _ => count_told (by decide) s) (fun _ => Told.trans ?_ (recAdd_told ..))
  exact .of_eq rfl rfl rfl rfl rfl

theorem issueRecord_told (det : Nat) (d : DetDef) (gid : Nat) (t : Instant) (r : DetRec) (s : State) :
    Told s (issueRecord det d gid t r s).2 := by
  have halarm : ∀ run, Told s (alarmPin (setDet det run s)) := fun run => by
    refine Told.trans ?_ (alarmPin_told _)
    exact .of_eq rfl rfl rfl rfl rfl
  have hcount : ∀ u : State, Told u (if r.event = 4 then count 83 (count 82 u) else count 82 u) := fun u =>
    Told.ite (fun _ => (count_told (by decide) u).trans (count_told (by decide) _)) (fun _ => count_told (by decide) u)
  have hdatagram : ∀ (u : State) b, Told u (if bit d.opts 1 = true then detDatagram d b u else u) := fun u b =>
    Told.ite (fun _ => detDatagram_told d b u) (fun _ => .refl u)
  have hrecorded : ∀ (u : State) b, Told u (detRecorder det r t b (raiseVector 91 (if bit d.opts 1 = true then detDatagram d b
      (if r.event = 4 then count 83 (count 82 u) else count 82 u) else if r.event = 4 then count 83 (count 82 u) else count 82 u))) :=
    fun u b => (hcount u).trans ((hdatagram _ b).trans ((raiseVector_told 91 _).trans (detRecorder_told ..)))
  unfold issueRecord
  refine Told.ite_snd (fun _ => halarm _) (fun _ => Told.ite_snd (fun _ => ?_) (fun _ => ?_))
  · dsimp only
    refine Told.trans ?_ (triggerAll_told ..)
    refine Told.trans ?_ (hrecorded _ _)
    exact halarm _
  · refine Told.trans ?_ (hrecorded _ _)
    exact halarm _

theorem issueAll_told (det : Nat) (d : DetDef) (gid : Nat) (t : Instant) (rs : List DetRec) (s : State) :
    Told s (issueAll det d gid t rs s).2 := by
  have hall : ∀ (rs : List DetRec) (x : List (DetRec × Bytes) × State), Told x.2 (rs.foldl (fun x r =>
      ((x.1 ++ [(r, (issueRecord det d gid t r x.2).1)], (issueRecord det d gid t r x.2).2) : List (DetRec × Bytes) × State)) x).2 :=
    fun rs => by
      induction rs with
      | nil => exact fun x => .refl _
      | cons r rs ih =>
        intro x
        rw [List.foldl_cons]
        exact Told.trans (issueRecord_told det d gid t r x.2) (ih (_, _))
  exact hall rs ([], s)

theorem detDropped_told (k : TaskInst) (s : State) : Told s (detDropped k s) := by
  unfold detDropped
  dsimp only
  split
  · rename_i d g _ _
    have hissued : ∀ run rs, Told s (issueAll k.tmpl.object d k.gid k.t rs (count 81 (setDet k.tmpl.object run s))).2 := fun run rs => by
      refine Told.trans ?_ ((count_told (by decide) _).trans (issueAll_told ..))
      exact .of_eq rfl rfl rfl rfl rfl
    refine Told.ite (fun _ => hissued _ _) (fun _ => Told.trans ?_ (Told.foldl (fun s _ => oqNoWait_told ..) _ _))
    exact hissued _ _
  · exact .refl s

/-! ### Dropped work and schemes -/

theorem underOld_told {f : State → State} (k : TaskInst) (h : ∀ s, Told s (f s)) (s : State) : Told s (underOld k f s) :=
  Told.trans (.still (viewOld_same k s) rfl rfl) ((h _).trans (.still (unviewOld_same k s _) rfl rfl))

theorem outDropped_told (k : TaskInst) (s : State) : Told s (outDropped k s) := by
  unfold outDropped
  refine Told.ite (fun _ => Told.ite (fun _ => Told.trans ?_ (count_told (n := 195) (by decide) _)) (fun _ => .refl s))
    (fun _ => ?_) <;> exact .of_eq rfl rfl rfl rfl rfl

theorem copyDropped_told (s : State) : Told s (copyDropped s) := by
  unfold copyDropped
  exact Told.ite (fun _ => count_told (by decide) s) (fun _ => .refl s)

/-- A recording's seal. -/
theorem recSeal_told (v : Nat) (s : State) : Told s (recSeal v s) := by
  unfold recSeal
  split
  · exact .refl s
  · refine Told.trans (Told.ite (c := s.gh.idOk = true) (fun _ => .refl s) (fun _ => refusedKey_told (n := 151) (by decide) s)) ?_
    exact .of_eq rfl rfl rfl rfl rfl

theorem recMark_told (v code leg : Nat) (data : Bytes) (t : Instant) (s : State) : Told s (recMark v code leg data t s) :=
  .still (recMark_same v code leg data t s) rfl rfl

/-- What closing a block does last: it leaves for the recording's queue, and the tenth since a seal is sealed. -/
def blockPushed (v : Nat) (b : Bytes) (s : State) : State :=
  match vch s v with
  | none => s
  | some r =>
    let q := recPush false b r.recd
    let q := { q with blockSeq := q.blockSeq + 1, sinceSeal := q.sinceSeal + 1 }
    let s := setVch v { r with recd := q } s
    if 10 ≤ q.sinceSeal then recSeal v s else s

theorem setVch_told (v : Nat) (r : VchRun) (s : State) : Told s (setVch v r s) := .of_eq rfl rfl rfl rfl rfl

theorem blockPushed_told (v : Nat) (b : Bytes) (s : State) : Told s (blockPushed v b s) := by
  unfold blockPushed
  split
  · exact .refl s
  · exact Told.ite (fun _ => (setVch_told ..).trans (recSeal_told v _)) (fun _ => setVch_told ..)

theorem closeBlock_told (v : Nat) (s : State) : Told s (closeBlock v s) := by
  unfold closeBlock
  split
  · exact .refl s
  · refine Told.ite (fun _ => .refl s) (fun _ => Told.ite (fun _ => ?_) (fun _ => ?_))
    · exact (setVch_told ..).trans (count_told (by decide) _)
    · refine Told.trans ?_ (blockPushed_told v _ _)
      dsimp only
      split
      · exact (setVch_told ..).trans (recMark_told ..)
      · exact setVch_told ..

theorem recordIssue_told (v : Nat) (t : Instant) (c0 c1 : Bool) (sout rout : List Int) (s : State) :
    Told s (recordIssue v t c0 c1 sout rout s) := by
  unfold recordIssue
  split
  · exact .refl s
  · refine Told.ite (fun _ => .refl s) (fun _ => Told.ite (fun _ => ?_) (fun _ => setVch_told ..))
    exact (setVch_told ..).trans (closeBlock_told v _)

theorem voiceSilent_told (k : TaskInst) (r : VchRun) (e : SchedEntry) (s : State) : Told s (voiceSilent k r e s) := by
  unfold voiceSilent
  refine Told.trans ?_ (recordIssue_told ..)
  refine Told.trans ?_ (Told.still (noteIssue_same ..) rfl rfl)
  exact (Told.still (txSkip_same ..) rfl rfl).trans (.still (txSkip_same ..) rfl rfl)

theorem voiceDropped_told (k : TaskInst) (s : State) : Told s (voiceDropped k s) := by
  unfold voiceDropped
  split
  · exact (setVch_told ..).trans (voiceSilent_told ..)
  · exact .refl s

theorem detRenew_told (k : TaskInst) (s : State) : Told s (detRenew k s) := by
  unfold detRenew
  dsimp only
  split
  · exact .refl s
  · refine Told.ite (fun _ => .refl s) (fun _ => Told.trans ?_ (alarmPin_told _))
    exact .of_eq rfl rfl rfl rfl rfl

theorem lostWork_told (k : TaskInst) (s : State) : Told s (lostWork k s) := by
  unfold lostWork
  split
  · exact (underOld_told k (detDropped_told k) s).trans (detRenew_told k _)
  · exact underOld_told k (outDropped_told k) s
  · exact underOld_told k (fun u => .still (filterDropped_same k u) rfl rfl) s
  · exact voiceDropped_told k s
  · exact copyDropped_told s
  · exact .refl s

theorem exchangeDue_told (n : Nat) (s : State) : Told s (exchangeDue n s) := by
  unfold exchangeDue
  split
  · exact .refl s
  · rename_i b old new _
    refine Told.ite (fun _ => .refl s) (fun _ => ?_)
    unfold schemeExchange
    refine Told.trans ?_ (Told.foldl (fun s _ => noteI_told ..) _ _)
    refine Told.trans ?_ (Told.foldl (fun s _ => noteI_told ..) _ _)
    exact .of_eq rfl rfl rfl rfl rfl

theorem settle_told (s : State) : Told s (settle s) := by
  unfold settle
  refine Told.trans ?_ (Told.foldl (fun s n => exchangeDue_told n s) _ _)
  refine Told.trans ?_ (Told.foldl (fun s k => lostWork_told k s) _ _)
  exact .of_eq rfl rfl rfl rfl rfl

theorem wasOutDrive_told (n : Nat) (b : Bool) (s : State) : Told s (wasOutDrive n b s) := by
  unfold wasOutDrive
  exact Told.ite (fun _ => .refl s) (fun _ => ⟨fun _ h => h, fun _ h => List.mem_cons_of_mem _ h, rfl, rfl, fun _ _ _ => rfl⟩)

end Sys2Proof.Machine
end

section
/-! The beginning and the end of RUN, the bank swap, steps of the time base and slot boundaries (03 R54, R61, R75-R77; 06 R158;
08 R206; 14 R389). -/

namespace Sys2Proof.Machine

theorem swapAt_none {b : Instant} {s : State} (h : s.pwr.swapWait = none) : swapAt b s = false := by
  unfold swapAt
  rw [h]

/-! ### RUN begins and ends -/

/-- RUN entered at a boundary, before streams, chains, Castling and schemes start. -/
def runEntered (b : Instant) (s : State) : State :=
  { s with
    pwr := { s.pwr with ps := .run, startWait := none }
    refBus := {}
    outRuns := []
    mst := { s.mst with firstInst := (activeBank s).groups.map fun e => (e.1, firstAt e.2 b), lastFired := [], hold := [], evalDue := [] }
    tb := { s.tb with seqPos := none }
    dets := (activeBank s).dets.map fun e => (e.1, newDet (activeBank s) e.1 e.2)
    cnt := mput s.cnt 53 0
    caps := mmap s.caps fun _ r => { r with sealFrom := b / secU } }

/-- What starts with RUN leaves the power state and the time base. -/
theorem beginRun_frame (b : Instant) (s : State) : Same 1106497277315 (runEntered b s) (beginRun b s) := by
  unfold beginRun
  refine Same.foldl (fun u e => ?_) ?_
  · exact Same.ite (fun _ => (schemeStart_same _ _).of rfl) (fun _ => .refl _)
  · refine (casRunBegin_same _ _).step rfl ((clearPeaks_same _).step rfl ((startFilters_same _ _).step rfl ?_))
    exact (startStreams_same (runEntered b s)).of rfl

theorem execRunBegin_unswapped {ws : List Waiter} {s : State} (hidle : inIdle s = true) (hstart : s.pwr.startWait = some ws)
    (hswap : s.pwr.swapWait = none) : exec .runBegin s =
      .next (finalReplies ws 0 (beginRun (secCeil (now s)) (advanceTo (secCeil (now s)) s))) := by
  change execRunBegin s = _
  unfold execRunBegin
  rw [hstart]
  refine (if_pos hidle).trans ?_
  dsimp only
  rw [swapAt_none (by rw [advanceTo_pwr, hswap])]
  rfl

theorem runBegin_begins {ws : List Waiter} {s : State} (hidle : inIdle s = true) (hstart : s.pwr.startWait = some ws)
    (hswap : s.pwr.swapWait = none) : ∃ t, exec .runBegin s = .next t ∧ t.pwr.ps = .run ∧ t.pwr.startWait = none ∧
      secCeil (now s) ≤ now t := by
  have hreply := finalReplies_same ws 0 (beginRun (secCeil (now s)) (advanceTo (secCeil (now s)) s))
  have hbegin := beginRun_frame (secCeil (now s)) (advanceTo (secCeil (now s)) s)
  have hpwr := (hbegin.keeps .pwr rfl).trans (hreply.keeps .pwr rfl)
  have htb := (hbegin.keeps .tb rfl).trans (hreply.keeps .tb rfl)
  refine ⟨_, execRunBegin_unswapped hidle hstart hswap, (congrArg Power.ps hpwr).symm, (congrArg Power.startWait hpwr).symm, ?_⟩
  rw [now_congr (congrArg TimeBase.count htb).symm]
  exact le_now_advanceTo s _

/-- The power state and Castling where a run has ended. -/
theorem endRun_ended (s : State) : { s.pwr with ps := .idle, stopWait := none, aonAlert := 0 } = { (endRun s).pwr with aonAlert := 0 } ∧
    (endRun s).cas.resync = false := by
  have hstop := (stopData_same s).keeps .pwr rfl
  unfold endRun
  dsimp only
  generalize stopData s = u at hstop ⊢
  have hpwr : { s.pwr with ps := .idle, stopWait := none, aonAlert := 0 } =
      ({ u.pwr with ps := .idle, stopWait := none, aonAlert := 0 } : Power) :=
    congrArg (fun p : Power => { p with ps := .idle, stopWait := none }) hstop
  have hfirst := finalReplies_same u.cas.resyncWait 0x0302 { casRunEnd { u with pwr := { u.pwr with ps := .idle, stopWait := none }, outRuns := [] } with
    cas := { (casRunEnd { u with pwr := { u.pwr with ps := .idle, stopWait := none }, outRuns := [] }).cas with resyncWait := [] } }
  have hreplied := hpwr.trans (hfirst.keeps .pwr rfl)
  have hresync := congrArg Castling.resync (hfirst.keeps .cas rfl)
  split
  · have hlast := replyTo_same ‹Option Waiter› 0x0302 (finalReplies u.cas.resyncWait 0x0302
      { casRunEnd { u with pwr := { u.pwr with ps := .idle, stopWait := none }, outRuns := [] } with
        cas := { (casRunEnd { u with pwr := { u.pwr with ps := .idle, stopWait := none }, outRuns := [] }).cas with resyncWait := [] } })
    exact ⟨hreplied.trans (hlast.keeps .pwr rfl), (congrArg Castling.resync (hlast.keeps .cas rfl)).symm.trans hresync.symm⟩
  · exact ⟨hreplied, hresync.symm⟩

theorem execRunEnd_unswapped {ws : List Waiter} {s : State} (hrun : inRun s = true) (hstop : s.pwr.stopWait = some ws)
    (hswap : s.pwr.swapWait = none) : exec .runEnd s =
      .next (settle (finalReplies ws 0 (endRun (advanceTo (secCeil (now s)) s)))) := by
  have hend := (endRun_ended (advanceTo (secCeil (now s)) s)).1.trans ((finalReplies_same ws 0 _).keeps .pwr rfl)
  have hswap' : (finalReplies ws 0 (endRun (advanceTo (secCeil (now s)) s))).pwr.swapWait = none := by
    refine (congrArg Power.swapWait hend).symm.trans ?_
    rw [advanceTo_pwr, hswap]
  change execRunEnd s = _
  unfold execRunEnd
  rw [hstop]
  refine (if_pos hrun).trans ?_
  dsimp only
  rw [swapAt_none hswap']
  rfl

theorem runEnd_ends {ws : List Waiter} {s : State} (hrun : inRun s = true) (hstop : s.pwr.stopWait = some ws)
    (hswap : s.pwr.swapWait = none) : ∃ t, exec .runEnd s = .next t ∧ t.pwr.ps = .idle ∧ t.pwr.stopWait = none ∧
      t.cas.resync = false := by
  obtain ⟨hended, hresync⟩ := endRun_ended (advanceTo (secCeil (now s)) s)
  have hreply := finalReplies_same ws 0 (endRun (advanceTo (secCeil (now s)) s))
  have hpwr := (hended.trans (hreply.keeps .pwr rfl)).trans ((settle_same _).keeps .pwr rfl)
  refine ⟨_, execRunEnd_unswapped hrun hstop hswap, (congrArg Power.ps hpwr).symm, (congrArg Power.stopWait hpwr).symm, ?_⟩
  rw [(settle_told _).resync, ← hreply.keeps .cas rfl, hresync]

/-! ### The bank swap in IDLE -/

/-- What a bank swap in IDLE does once the other bank is active. -/
def tablesSwapped (old : Bank) (b : Instant) (s : State) : State :=
  let s := swapRefBus old (cancelTicks s)
  let s := swapStreams old b (swapCaps old b (swapQueues old (voiceSwap old (activeBank s) s)))
  let s := swapTasks old s.filters (swapTmpls old s)
  (mkeys old.schemes ++ mkeys (activeBank s).schemes).dedup.foldl (fun (s : State) n => schemeSwap n old s) s

theorem tablesSwapped_frame (old : Bank) (b : Instant) (s : State) : Same 1174681200053 s (tablesSwapped old b s) := by
  unfold tablesSwapped
  refine Same.foldl (fun u n => (schemeSwap_same _ _ _).of rfl) ?_
  refine (swapTasks_same _ _ _).step rfl ((swapTmpls_same _ _).step rfl ((swapStreams_same _ _ _).step rfl ?_))
  refine (swapCaps_same _ _ _).step rfl ((swapQueues_same _ _).step rfl ((voiceSwap_same _ _ _).step rfl ?_))
  exact (swapRefBus_same _ _).step rfl ((cancelTicks_same _).of rfl)

/-- The other bank is active, and no swap waits. -/
def banksExchanged (s : State) : State := { s with pwr := { s.pwr with swapWait := none }, active := !s.active }

theorem bankSwap_idle {b b' : Instant} {w : Waiter} {s : State} (hrun : inRun s = false) (h : s.pwr.swapWait = some (b', w)) :
    bankSwap b s = finalReply w 0 (setIrq 5 (tablesSwapped (activeBank s) b (banksExchanged s))) := by
  have hrun' : inRun { s with pwr := { s.pwr with swapWait := none } } = false := hrun
  unfold bankSwap
  rw [h]
  dsimp only
  rw [hrun']
  rfl

theorem inRun_of_inIdle {s : State} (h : inIdle s = true) : inRun s = false := by
  have hps : s.pwr.ps = .idle := of_decide_eq_true h
  exact decide_eq_false (by rw [hps]; decide)

theorem execBankSwap_idle {b : Instant} {w : Waiter} {s : State} (hidle : inIdle s = true) (h : s.pwr.swapWait = some (b, w)) :
    exec .bankSwap s = .next (settle (bankSwap b (advanceTo b s))) := by
  change execBankSwap s = _
  unfold execBankSwap
  rw [h]
  refine (if_pos (mainUp_idle (of_decide_eq_true hidle))).trans ?_
  dsimp only
  rw [inRun_of_inIdle hidle, Bool.and_false]
  split <;> rfl

theorem bankSwap_swaps {b : Instant} {w : Waiter} {s : State} (hidle : inIdle s = true) (h : s.pwr.swapWait = some (b, w)) :
    ∃ t, exec .bankSwap s = .next t ∧ t.active = !s.active ∧ t.pwr.swapWait = none ∧ t.pwr.ps = .idle ∧
      t.glb.irqStatus.getLsbD 5 = true := by
  have hswap : bankSwap b (advanceTo b s) = _ := bankSwap_idle (by rw [inRun_advanceTo, inRun_of_inIdle hidle])
    (by rw [advanceTo_pwr, h])
  have htables := tablesSwapped_frame (activeBank (advanceTo b s)) b (banksExchanged (advanceTo b s))
  have hirq := setIrq_same 5 (tablesSwapped (activeBank (advanceTo b s)) b (banksExchanged (advanceTo b s)))
  have hreply := finalReply_same w 0 (setIrq 5 (tablesSwapped (activeBank (advanceTo b s)) b (banksExchanged (advanceTo b s))))
  have hsettle := settle_same (bankSwap b (advanceTo b s))
  have hactive := (htables.keeps .active rfl).trans ((hirq.keeps .active rfl).trans (hreply.keeps .active rfl))
  have hpwr := (htables.keeps .pwr rfl).trans ((hirq.keeps .pwr rfl).trans (hreply.keeps .pwr rfl))
  rw [← hswap] at hactive hpwr
  have hactive' := hactive.trans (hsettle.keeps .active rfl)
  have hpwr' := hpwr.trans (hsettle.keeps .pwr rfl)
  have hps : s.pwr.ps = .idle := of_decide_eq_true hidle
  refine ⟨_, execBankSwap_idle hidle h, hactive'.symm.trans ?_, (congrArg Power.swapWait hpwr').symm,
    (congrArg Power.ps hpwr').symm.trans ?_, (settle_told _).irq 5 ?_⟩
  · exact congrArg (!·) (advanceTo_active s b)
  · exact (congrArg Power.ps (advanceTo_pwr s b)).trans hps
  · rw [hswap]
    exact (finalReply_told w 0 _).irq 5 (setIrq_raised (by decide) _)

/-! ### A scheme stops -/

/-- The outputs of a scheme that stops go to their safe values. -/
def outputsSafe (img : SchemeImg) (s : State) : State :=
  (List.range img.stations.length).foldl (fun s j =>
    let n := (img.stations.getD j (0xFFFF, 0xFFFF)).2
    match mget (activeBank s).outs (0x100 + n) with
    | some d =>
      if n = 0xFFFF ∨ !emits s then s
      else
        let s := publishState false n d (stationData img j (·.safe)) s
        setPub n { pub s n with nextAt := none } s
    | none => s) ((img.outputs.filter (·.kind == 2)).foldl (fun s o =>
      let lv := decide (o.safe % 2 = 1)
      wasOutDrive o.index lv { s with pins := { s.pins with wasOutReq := setBit16 s.pins.wasOutReq o.index lv } }) s)

theorem outputsSafe_frame (img : SchemeImg) (s : State) : Same 3302880247819 s (outputsSafe img s) := by
  unfold outputsSafe
  refine Same.foldl (fun u j => ?_) (Same.foldl (fun u o => ?_) (.refl s))
  · dsimp only
    split
    · refine Same.ite (fun _ => .refl u) (fun _ => ?_)
      exact Same.pubs rfl ((publishState_same ..).of rfl)
    · exact .refl u
  · exact (wasOutDrive_same _ _ _).step rfl (Same.pins rfl (.refl u))

theorem outputsSafe_told (img : SchemeImg) (s : State) : Told s (outputsSafe img s) := by
  unfold outputsSafe
  refine Told.trans (Told.foldl (fun u o => ?_) _ s) (Told.foldl (fun u j => ?_) _ _)
  · refine Told.trans ?_ (wasOutDrive_told ..)
    exact .of_eq rfl rfl rfl rfl rfl
  · dsimp only
    split
    · rename_i d _
      refine Told.ite (fun _ => .refl u) (fun _ => ?_)
      exact Told.trans (publishState_told false _ d (stationData img j (·.safe)) u) (.of_eq rfl rfl rfl rfl rfl)
    · exact .refl u

/-- A scheme's run once it is stopped. -/
def runStopped (r : SchRun) : SchRun :=
  { r with
    running := false, opened := [], stopWait := none, stopLast := none, startWait := none, skipNext := false, phaseStat := []
    pend := r.pend.filter fun c => match c with
      | .set _ _ _ => false
      | _ => true }

theorem cancelPin_told (sch : Nat) (pin : Option Nat) (s : State) : Told s (cancelPin sch pin s) := by
  unfold cancelPin
  refine Told.trans ?_ (countBy_told (by decide) _ _)
  exact .of_eq rfl rfl rfl rfl rfl

theorem schemeStop_running {n : Nat} {s : State} (h : (schRun s n).running = true) : ∃ ws vs u,
    schemeStop n s = finalReplies ws 0 (finalReplies vs 0x0201 u) ∧ (u = cancelPin n none (setSch n (runStopped (schRun s n)) s) ∨
      ∃ img, u = outputsSafe img (cancelPin n none (setSch n (runStopped (schRun s n)) s))) := by
  unfold schemeStop
  dsimp only
  rw [h]
  refine ⟨_, _, _, rfl, ?_⟩
  split
  · exact .inl rfl
  · exact .inr ⟨_, rfl⟩

/-- A stopped scheme, with the time and everything else that only replies and safe outputs touch. -/
theorem schemeStop_stopped {n : Nat} {s : State} (h : (schRun s n).running = true) :
    schRun (schemeStop n s) n = runStopped (schRun s n) ∧ Told s (schemeStop n s) := by
  obtain ⟨ws, vs, u, heq, hu⟩ := schemeStop_running h
  have hcancel : Told s (cancelPin n none (setSch n (runStopped (schRun s n)) s)) :=
    Told.trans (t := setSch n (runStopped (schRun s n)) s) (.of_eq rfl rfl rfl rfl rfl) (cancelPin_told ..)
  have hbase : u.schs = mput s.schs n (runStopped (schRun s n)) ∧ Told s u := by
    rcases hu with rfl | ⟨img, rfl⟩
    · exact ⟨rfl, hcancel⟩
    · exact ⟨((outputsSafe_frame img _).keeps .schs rfl).symm, hcancel.trans (outputsSafe_told img _)⟩
  obtain ⟨hschs, htold⟩ := hbase
  have hreplies := ((finalReplies_same vs 0x0201 u).keeps .schs rfl).trans ((finalReplies_same ws 0 _).keeps .schs rfl)
  rw [heq]
  refine ⟨?_, htold.trans ((finalReplies_told ..).trans (finalReplies_told ..))⟩
  rw [schRun, ← hreplies, hschs, mgetD_mput_same]

theorem schRun_advanceTo (t : Instant) (s : State) (n : Nat) : schRun (advanceTo t s) n = schRun s n := by
  rw [schRun, schRun, advanceTo_schs]

theorem progStopEffect_stops {n : Nat} {s : State} (hrun : (schRun s n).running = true) (hdue : stopDue s n = true) :
    ∃ t, exec (.progStopEffect n) s = .next t ∧ (schRun t n).running = false ∧ (schRun t n).stopWait = none ∧
      ((schRun s n).stopLast = none → nextCycle s n ≤ now t) := by
  refine ⟨_, if_pos ⟨hrun, hdue⟩, ?_⟩
  cases hlast : (schRun s n).stopLast with
  | some l =>
    obtain ⟨hstopped, -⟩ := schemeStop_stopped hrun
    rw [if_pos (by rfl), hstopped]
    exact ⟨rfl, rfl, fun h => by cases h⟩
  | none =>
    obtain ⟨hstopped, htold⟩ := schemeStop_stopped (s := advanceTo (nextCycle s n) s) (by rw [schRun_advanceTo, hrun])
    rw [if_neg (by decide), hstopped, htold.now_eq]
    exact ⟨rfl, rfl, fun _ => le_now_advanceTo s _⟩

/-! ### Steps of the time base -/

/-- The time base without a step that waits. -/
def stepTaken (s : State) : State := { s with tb := { s.tb with stepRestart := none, stepPending := none } }

theorem execStepInRunRestart_large {x : Int} {s : State} (h : s.tb.stepRestart = some x) (hx : 1000000 ≤ x.natAbs)
    (hrun : inRun s = false) : exec .stepInRunRestart s = .next (tbStep x (stepTaken s)) := by
  change execStepInRunRestart s = _
  unfold execStepInRunRestart
  rw [h]
  refine (if_neg (by omega)).trans (if_neg ?_)
  exact fun hr => Bool.false_ne_true (hrun.symm.trans hr)

theorem execStepInRunRestart_small {x : Int} {s : State} (h : s.tb.stepRestart = some x) (hx : x.natAbs < 1000000) :
    exec .stepInRunRestart s = .next (correct x (stepTaken s)) := by
  change execStepInRunRestart s = _
  unfold execStepInRunRestart
  rw [h]
  exact if_pos hx

/-- A slew's increment lies within 100 ppm of the nominal one. -/
theorem slewBy_incr (x : Int) (s : State) : incrNominal - incrSpan ≤ (slewBy x s).tb.incr ∧ (slewBy x s).tb.incr ≤ incrNominal + incrSpan := by
  have hrate : (drawFree s).1 % incrSpan < incrSpan := Nat.mod_lt _ (by decide)
  unfold slewBy
  dsimp only
  split
  · omega
  · split <;> omega

theorem correct_incr {x : Int} (s : State) (hx : x.natAbs < 1000000) :
    incrNominal - incrSpan ≤ (correct x s).tb.incr ∧ (correct x s).tb.incr ≤ incrNominal + incrSpan := by
  unfold correct
  rw [if_pos hx]
  exact slewBy_incr ..

/-- The time base after a step by x ns. -/
def stepped (x : Int) (s : State) : State := { s with tb := { s.tb with
  count := (s.tb.count - nsCount x).toNat, stepPending := none, stepRestart := none, slew := 0, incr := incrNominal
  goodRun := 0, secDone := none, todErr := 0 } }

theorem tbStep_tb (x : Int) (s : State) : (tbStep x s).tb = (stepped x s).tb := by
  change (noteTime 5 nmTimeBaseStep (count 2 (stepped x s))).tb = _
  rw [noteTime_tb]
  rfl

theorem tbStep_counter (x : Int) (s : State) : counter (tbStep x s) 2 = satAdd (2 ^ 64 - 1) (counter s 2) 1 := by
  have hcnt : (noteTime 5 nmTimeBaseStep (count 2 (stepped x s))).cnt = (count 2 (stepped x s)).cnt := note_cnt ..
  change counter (noteTime 5 nmTimeBaseStep (count 2 (stepped x s))) 2 = _
  rw [counter_congr hcnt, counter_count_same]
  rfl

/-! ### Slot boundaries -/

/-- A slot boundary that the time base has reached. -/
def slotReached (s : State) : State :=
  { advanceTo (nextSlot s) s with tb := { (advanceTo (nextSlot s) s).tb with slotDone := some (nextSlot s) } }

theorem slotReached_cas (s : State) : (slotReached s).cas = s.cas := advanceTo_cas s (nextSlot s)

theorem slotHealth_solo {b : Instant} {s : State} (h : s.cas.role = .solo) : ∃ c, slotHealth b true s = { s with cas := c } ∧
    c.slotCount = s.cas.slotCount + 1 ∧ c.score = healthScore { s with cas := c } ∧ c.role = .solo := by
  have hshadow : ¬ (s.cas.role = .standby ∨ s.cas.role = .stalemate) := by rw [h]; decide
  have hactive : ¬ s.cas.role = .active := by rw [h]; decide
  unfold slotHealth
  simp only [if_neg hshadow, if_neg hactive]
  exact ⟨_, rfl, rfl, rfl, h⟩

theorem paired_congr {s t : State} (hp : t.pins = s.pins) (ha : activeBank t = activeBank s) : paired t = paired s := by
  rw [paired, paired, hp, ha]

theorem activeBank_advanceTo (t : Instant) (s : State) : activeBank (advanceTo t s) = activeBank s := by
  rw [activeBank, activeBank, advanceTo_active, advanceTo_bank0, advanceTo_bank1]

theorem execSlotBoundary_unpaired {s : State} (hrun : inRun s = true) (hrole : s.cas.role = .solo) (hpair : paired s = false) :
    exec (.slotBoundary true) s = .next (slotHealth (nextSlot s) true (slotReached s)) := by
  obtain ⟨c, hc, -⟩ := slotHealth_solo (b := nextSlot s) (s := slotReached s) (by rw [slotReached_cas, hrole])
  have hpair' : paired (slotHealth (nextSlot s) true (slotReached s)) = false := by
    rw [hc, ← hpair]
    exact paired_congr (advanceTo_pins s (nextSlot s)) (activeBank_advanceTo (nextSlot s) s)
  change execSlotBoundary true s = _
  unfold execSlotBoundary
  refine (if_neg (by simp [hrun])).trans (if_pos ?_)
  exact congrArg (!·) hpair'

/-- Settles O48. -/
theorem runAndBoundaryRowsComplete : Obligations.RunAndBoundaryRowsComplete := by
  refine ⟨fun s => ⟨fun ws => runBegin_begins, fun ws => runEnd_ends, fun b w => bankSwap_swaps⟩,
    fun s => ⟨fun n => progStopEffect_stops, fun x h hx hrun => ?_, fun x h hx => ?_, fun hrun hrole hpair => ?_⟩⟩
  · refine ⟨_, execStepInRunRestart_large h hx hrun, ?_⟩
    rw [tbStep_tb, tbStep_counter]
    exact ⟨rfl, rfl, rfl, rfl⟩
  · obtain ⟨i, htb⟩ := correct_slews (s := stepTaken s) hx
    refine ⟨_, execStepInRunRestart_small h hx, by rw [htb]; rfl, by rw [htb], by rw [htb], correct_incr _ hx⟩
  · obtain ⟨c, hc, hcount, hscore, hrole'⟩ := slotHealth_solo (b := nextSlot s) (s := slotReached s)
      (by rw [slotReached_cas, hrole])
    refine ⟨_, execSlotBoundary_unpaired hrun hrole hpair, ?_⟩
    rw [hc]
    exact ⟨le_now_advanceTo s _, rfl, by rw [hcount, slotReached_cas], hscore, hrole'⟩

end Sys2Proof.Machine
end

section
/-! Castling: roles, the twin link, presence and HB_IN, and the messages of the partner (14 R372-R385, R391). -/

namespace Sys2Proof.Machine

/-! ### Roles -/

@[simp] theorem noteCas_cas (sev : Nat) (name : Bytes) (s : State) : (noteCas sev name s).cas = s.cas := note_cas ..

theorem setCasIrq_cas (b : Nat) (s : State) :
    (setCasIrq b s).cas = { s.cas with irq := s.cas.irq ||| BitVec.ofNat 5 (2 ^ b) } := raiseVector_cas _ _

/-- An alarm bit of Castling that has just been set. -/
theorem casIrq_raised {b : Nat} (hb : b < 5) (v : BitVec 5) : (v ||| BitVec.ofNat 5 (2 ^ b)).getLsbD b = true := by
  simp only [BitVec.getLsbD_or, BitVec.getLsbD_ofNat, hb, decide_true, Nat.testBit_two_pow_self, Bool.and_self, Bool.or_true]

/-- A role that changes is alarmed. -/
theorem roleTo_cas_other {r : Role} {s : State} (sev : Nat) (name : Bytes) (h : s.cas.role ≠ r) :
    (roleTo r sev name s).cas = { s.cas with role := r, irq := s.cas.irq ||| BitVec.ofNat 5 (2 ^ 0) } := by
  unfold roleTo
  rw [if_neg h, noteCas_cas, setCasIrq_cas]

theorem roleTo_cas (r : Role) (sev : Nat) (name : Bytes) (s : State) : ∃ i, (roleTo r sev name s).cas = { s.cas with role := r, irq := i } := by
  by_cases h : s.cas.role = r
  · refine ⟨s.cas.irq, ?_⟩
    rw [roleTo, if_pos h, ← h]
  · exact ⟨_, roleTo_cas_other sev name h⟩

/-- Castling as a unit becomes ACTIVE with a TERM above both. -/
def activeBegun (c : Castling) : Castling :=
  { c with
    term := (max c.term c.peerTerm + 1) % 2 ^ 32
    decideFrom := none, takeoverAt := none, promoteAt := none, yieldAt := none, switchAt := none, resync := false, resyncDone := false
    resyncReq := false, waits := [], homeWaits := [], ownDigests := [], trigs := [], base := [], sent := [], unacked := []
    stopped := false, shadowRun := 0 }

theorem toActive_cas {s : State} (sev : Nat) (name : Bytes) (h : s.cas.role ≠ .active) : (toActive sev name s).cas =
    { activeBegun s.cas with role := .active, irq := s.cas.irq ||| BitVec.ofNat 5 (2 ^ 0) } := roleTo_cas_other sev name h

theorem toActive_tb (sev : Nat) (name : Bytes) (s : State) : (toActive sev name s).tb = s.tb :=
  ((toActive_same sev name s).keeps .tb rfl).symm

theorem pinsOn_cas (s : State) : (pinsOn s).cas = s.cas := ((pinsOn_same s).keeps .cas rfl).symm

theorem pinsOff_cas (s : State) : (pinsOff s).cas = s.cas := ((pinsOff_same s).keeps .cas rfl).symm

/-- A unit that was not in STALEMATE is alarmed. -/
theorem toStalemate_cas {s : State} (sev : Nat) (name : Bytes) (h : s.cas.role ≠ .stalemate) : (toStalemate sev name s).cas = { s.cas with
    role := .stalemate, irq := s.cas.irq ||| BitVec.ofNat 5 (2 ^ 0)
    decideFrom := none, takeoverAt := none, switchAt := none, yieldAt := none, copyOk := false } := by
  have hkeep : ∀ u : State, u.cas = s.cas → (roleTo .stalemate sev name u).cas =
      { s.cas with role := .stalemate, irq := s.cas.irq ||| BitVec.ofNat 5 (2 ^ 0) } := fun u hu => by
    rw [roleTo_cas_other sev name (by rw [hu]; exact h), hu]
  unfold toStalemate
  dsimp only
  rw [pinsOff_cas]
  split
  · rw [hkeep (dropExchange s) rfl]
  · rw [hkeep s rfl]

/-! ### Listening and HB_IN -/

/-- The end of a listening window, before the unit decides. -/
def listenedTo (b : Instant) (s : State) : State :=
  { advanceTo (slotAfter s (b + msU 100)) s with cas := { (advanceTo (slotAfter s (b + msU 100)) s).cas with listening := none } }

theorem execListenWindowEnd_alone {b : Instant} {s : State} (hacts : casActs s = true) (h : s.cas.listening = some b)
    (hheard : s.cas.activeHeardAt = none) (htwin : s.cas.twinUp = false) (hhb : s.cas.hbOk = false) :
    exec (.listenWindowEnd false) s = .next (pinsOn (toActive 6 nmActive (listenedTo b s))) := by
  change execListenWindowEnd false s = _
  unfold execListenWindowEnd
  rw [h]
  dsimp only
  rw [if_neg (by simp [hacts])]
  simp only [listenedTo, advanceTo_cas, hheard, htwin, hhb, Bool.false_eq_true, false_and, if_false]
  rfl

theorem hbMean_single (e : Instant) : hbMean [e] = none := rfl

theorem hbRole_single (e : Instant) (was : Option Role) : hbRole [e] was = was := by
  rw [hbRole, hbMean_single]

theorem execHbInEdge_first {e : Instant} {s : State} (hacts : casActs s = true) (h : s.cas.hbEdges = []) :
    exec (.hbInEdge e) s = .next { advanceTo e s with cas := { s.cas with hbEdges := [e], hbOk := true } } := by
  refine (if_pos hacts).trans ?_
  dsimp only
  rw [advanceTo_cas, h]
  have hpeer : (if s.cas.twinUp = true then s.cas.peerRole else hbRole [e] s.cas.peerRole) = s.cas.peerRole := by
    rw [hbRole_single, ite_self]
  exact congrArg (fun r => done { advanceTo e s with cas := { s.cas with hbEdges := [e], hbOk := true, peerRole := r } }) hpeer

/-- HB_IN has been silent for HB_TIMEOUT. -/
def hbSilent (t : Instant) (s : State) : State :=
  { advanceTo (t + usU s.cas.cfg.hbTimeout) s with
    cas := { (advanceTo (t + usU s.cas.cfg.hbTimeout) s).cas with hbOk := false, hbEdges := [] } }

theorem execHbTimeout_due {e : Instant} {s : State} (hacts : casActs s = true) (hok : s.cas.hbOk = true) (h : s.cas.hbEdges = [e]) :
    exec .hbTimeout s = .next (noteCas 5 nmHbLoss (count 235 (setCasIrq 2 (hbSilent e s)))) := by
  change execHbTimeout s = _
  unfold execHbTimeout
  rw [hok, h]
  exact if_pos hacts

theorem noteCas_tb (sev : Nat) (name : Bytes) (s : State) : (noteCas sev name s).tb = s.tb := note_tb ..

/-! ### The twin link -/

/-- The twin link has been silent for 1 ms. -/
def twinSilent (s : State) : State :=
  { advanceTo (s.cas.lastTwin + msU 1) s with cas := { (advanceTo (s.cas.lastTwin + msU 1) s).cas with
    twinUp := false, lanes := 0, laneAt := [], lossAt := some (now (advanceTo (s.cas.lastTwin + msU 1) s))
    lossElig := (advanceTo (s.cas.lastTwin + msU 1) s).cas.eligSlot, peerListening := false, copyOk := false, unacked := [], sent := [] } }

theorem execTwinLinkTimeout_up {s : State} (hacts : casActs s = true) (h : s.cas.twinUp = true) :
    exec .twinLinkTimeout s = .next (count 234 (setCasIrq 1 (twinSilent s))) := if_pos ⟨hacts, h⟩

/-- The instant to decide on a lost link has come. -/
def lossDecided (t : Instant) (s : State) : State :=
  { advanceTo (t + usU s.cas.cfg.hbTimeout) s with cas := { s.cas with lossAt := none } }

theorem execTwinLossDecision_active {e : Instant} {s : State} (hacts : casActs s = true) (h : s.cas.lossAt = some e)
    (htwin : s.cas.twinUp = false) (hrole : s.cas.role = .active) :
    exec .twinLossDecision s = .next (noteCas 5 nmTwinLoss (lossDecided e s)) := by
  change execTwinLossDecision s = _
  unfold execTwinLossDecision
  rw [h]
  refine (if_neg (by simp [hacts, htwin])).trans ?_
  dsimp only
  rw [advanceTo_cas]
  split
  · rfl
  · rename_i hother
    exact absurd (hrole.symm.trans hother) (by decide)
  · rename_i hother _
    exact absurd hrole hother

theorem execPartnerOutputsAbsent_eligible {e : Instant} {s : State} (hacts : casActs s = true) (hrole : s.cas.role = .standby)
    (hfrom : s.cas.decideFrom = some e) (hhb : s.cas.hbOk = false) (htwin : s.cas.twinUp = false) (hslots : 3 ≤ s.cas.absentSlots)
    (helig : s.cas.lossElig = true) : exec .partnerOutputsAbsent s = .next { s with cas := { s.cas with
      decideFrom := none, takeoverAt := some (slotAfter s (now s + usU 200)) } } := by
  refine (if_pos ⟨hacts, hrole, by rw [hfrom]; rfl, by simp [hhb], by simp [htwin], hslots⟩).trans ?_
  exact congrArg done (if_pos helig)

/-- Settles O49. -/
theorem twinLinkRowsComplete : Obligations.TwinLinkRowsComplete := by
  refine fun e s hacts => ⟨fun hlisten hheard htwin hhb hrole => ?_, fun h => execHbInEdge_first hacts h, fun hok h => ?_, fun hkey => ?_,
    fun h => ?_, fun hloss htwin hrole => ?_, fun hrole hfrom hhb htwin hslots helig =>
      execPartnerOutputsAbsent_eligible hacts hrole hfrom hhb htwin hslots helig⟩
  · have hcas : (listenedTo e s).cas = { s.cas with listening := none } :=
      congrArg (fun c : Castling => { c with listening := none }) (advanceTo_cas s _)
    refine ⟨_, execListenWindowEnd_alone hacts hlisten hheard htwin hhb, ?_⟩
    rw [pinsOn_cas, toActive_cas _ _ (by rw [hcas]; exact hrole), hcas]
    exact ⟨rfl, rfl, rfl, casIrq_raised (by decide) _⟩
  · refine ⟨_, execHbTimeout_due hacts hok h, ?_⟩
    have hcas : (noteCas 5 nmHbLoss (count 235 (setCasIrq 2 (hbSilent e s)))).cas = (setCasIrq 2 (hbSilent e s)).cas := noteCas_cas ..
    have htb : (noteCas 5 nmHbLoss (count 235 (setCasIrq 2 (hbSilent e s)))).tb = (hbSilent e s).tb := (noteCas_tb ..).trans (setCasIrq_tb ..)
    have hcnt : (noteCas 5 nmHbLoss (count 235 (setCasIrq 2 (hbSilent e s)))).cnt = (count 235 (setCasIrq 2 (hbSilent e s))).cnt :=
      note_cnt ..
    have hcnt' : (setCasIrq 2 (hbSilent e s)).cnt = s.cnt := (setCasIrq_cnt ..).trans (advanceTo_cnt s (e + usU s.cas.cfg.hbTimeout))
    rw [hcas, setCasIrq_cas]
    refine ⟨rfl, rfl, casIrq_raised (by decide) _, ?_, ?_⟩
    · rw [now_congr (congrArg TimeBase.count htb)]
      exact le_now_advanceTo s _
    · rw [counter_congr hcnt, counter_count_same, counter_congr hcnt']
  · exact ⟨_, _, if_pos ⟨hacts, hkey⟩, rfl, rfl, rfl, rfl, rfl, rfl⟩
  · refine ⟨_, execTwinLinkTimeout_up hacts h, ?_⟩
    have hcas : (count 234 (setCasIrq 1 (twinSilent s))).cas = (setCasIrq 1 (twinSilent s)).cas := rfl
    have htb : (count 234 (setCasIrq 1 (twinSilent s))).tb = (twinSilent s).tb := setCasIrq_tb ..
    have hcnt : (setCasIrq 1 (twinSilent s)).cnt = s.cnt := (setCasIrq_cnt ..).trans (advanceTo_cnt s (s.cas.lastTwin + msU 1))
    rw [hcas, setCasIrq_cas]
    refine ⟨rfl, rfl, rfl, congrArg Castling.eligSlot (advanceTo_cas s (s.cas.lastTwin + msU 1)), casIrq_raised (by decide) _, ?_, ?_⟩
    · rw [now_congr (congrArg TimeBase.count htb)]
      exact le_now_advanceTo s _
    · rw [counter_count_same, counter_congr hcnt]
  · refine ⟨_, execTwinLossDecision_active hacts hloss htwin hrole, noteCas_cas .., ?_, ?_⟩
    · rw [now_congr (congrArg TimeBase.count (noteCas_tb ..))]
      exact le_now_advanceTo s _
    · exact (noteCas_recorded ..).seq.trans (by rw [lossDecided, advanceTo_rcd_seq])

/-! ### The messages of the partner -/

/-- A message with a good tag renews the twin link. -/
def twinHeard (s : State) : State := { s with cas := { s.cas with lastTwin := now s, twinUp := true } }

theorem twinTake_good {s : State} (hacts : casActs s = true) (hkey : lockerLoaded s 63 = true) :
    twinTake true s = (true, twinHeard s) := by
  unfold twinTake
  rw [if_neg (by simp [hacts]), if_neg (by simp [hkey])]
  rfl

theorem twinTake_bad {s : State} (hacts : casActs s = true) : twinTake false s = (false, count 197 s) := by
  unfold twinTake
  rw [if_neg (by simp [hacts]), if_pos (by simp)]

theorem yieldCheck_passive {term id : Nat} {s : State} (h : s.cas.role ≠ .active) : yieldCheck term id s = s :=
  if_neg fun k => h k.1

theorem execLinkbeatReceived_passive {b : Linkbeat} {s : State} (hacts : casActs s = true) (hkey : lockerLoaded s 63 = true)
    (hver : b.version = Config.twinVersion) (hrole : s.cas.role ≠ .active) : exec (.linkbeatReceived b true) s =
      .next { linkHeard b (twinHeard s) with cas := { (linkHeard b (twinHeard s)).cas with versionNoted := false } } := by
  have hyield : (if b.role = .active then yieldCheck b.term b.peerId (linkHeard b (twinHeard s)) else linkHeard b (twinHeard s)) =
      linkHeard b (twinHeard s) := by
    rw [yieldCheck_passive (s := linkHeard b (twinHeard s)) hrole, ite_self]
  change execLinkbeatReceived b true s = _
  unfold execLinkbeatReceived
  rw [twinTake_good hacts hkey]
  dsimp only
  rw [hyield, if_neg (by simp), if_neg (by simp [hver])]
  exact congrArg done (if_neg hrole)

theorem execLinkbeatReceived_bad {b : Linkbeat} {s : State} (hacts : casActs s = true) :
    exec (.linkbeatReceived b false) s = .next (count 197 s) := by
  change execLinkbeatReceived b false s = _
  unfold execLinkbeatReceived
  rw [twinTake_bad hacts]
  rfl

/-- The presence frame of a unit at a slot. -/
def presenceFrame (k : Bytes) (s : State) : Presence :=
  let b := slotFloor s (now s)
  let f : Presence := { magic := 0x5343, role := roleCode s.cas.role, score := s.cas.score, term := s.cas.term
                        id := Config.deviceId % 2 ^ 128, frac := b % secU, sec := b / secU % 2 ^ 32, tag := [] }
  { f with tag := presenceTag k f }

/-- The instant of a slot's presence frame. -/
def presenceDue (s : State) : Instant := gridPlus (fnom s) (gridFloor (fnom s) (slotFloor s (now s))) 1 1000

theorem execPresenceFrameSend_due {p : Fin 6} {k : Bytes} {s : State} (hacts : casActs s = true)
    (hport : bit s.cas.cfg.presPorts p = true) (hup : portUp s p = true) (hkey : pairKey s = some k) :
    ∃ f, f.tag = presenceTag k f ∧ f.role = roleCode s.cas.role ∧ f.score = s.cas.score ∧ f.term = s.cas.term ∧
      exec (.presenceFrameSend p) s =
        .next (txOwn p 6 66 (.presence p s.cas.cfg.presMac s.cas.cfg.presVlan f) (advanceTo (presenceDue s) s)) := by
  refine ⟨presenceFrame k s, rfl, rfl, rfl, rfl, (if_pos ⟨hacts, hport, hup⟩).trans ?_⟩
  rw [hkey]
  dsimp only
  rw [advanceTo_cas]
  rfl

/-- A frame of the block's own without an egress stamp, and that is no peer delay request. -/
theorem txLeaves_presence (p c len q mac vlan : Nat) (f : Presence) (s : State) :
    txLeaves p { cls := c, len := len, tag := none, e := .presence q mac vlan f } s = countPort p 7 (emit (.presence q mac vlan f) s) := rfl

theorem presenceFrameSend_sends {p : Fin 6} {k : Bytes} {s : State} (hacts : casActs s = true)
    (hport : bit s.cas.cfg.presPorts p = true) (hup : portUp s p = true) (hkey : pairKey s = some k) (hpause : classPaused s p 6 = false)
    (hback : heldBack s p = false) (hwait : mgetD s.txWait p [] = []) (hdue : presenceDue s ≤ now s) :
    ∃ t f, exec (.presenceFrameSend p) s = .next t ∧ t.emitted = .presence p s.cas.cfg.presMac s.cas.cfg.presVlan f :: s.emitted ∧
      f.tag = presenceTag k f ∧ f.role = roleCode s.cas.role ∧ f.score = s.cas.score ∧ f.term = s.cas.term := by
  obtain ⟨f, htag, hrole, hscore, hterm, hexec⟩ := execPresenceFrameSend_due hacts hport hup hkey
  have hnow := now_advanceTo_of_le s (presenceDue s) hdue
  have hback' : heldBack (advanceTo (presenceDue s) s) p = false :=
    (heldBack_congr (by rw [port_advanceTo]) (advanceTo_pwr s (presenceDue s)) (activeBank_advanceTo (presenceDue s) s) hnow).trans hback
  have hpause' : classPaused (advanceTo (presenceDue s) s) p 6 = false := (classPaused_congr (port_advanceTo _ _ _) hnow).trans hpause
  have hwait' : mgetD (advanceTo (presenceDue s) s).txWait p [] = [] := by rw [advanceTo_txWait, hwait]
  refine ⟨_, f, hexec, ?_, htag, hrole, hscore, hterm⟩
  rw [txOwn_free hback' hwait' hpause', txLeaves_presence, countPort_emitted, emit_emitted]
  exact congrArg (_ :: ·) (advanceTo_emitted s (presenceDue s))

theorem execPresenceFrameReceived_known {p : Fin 6} {f : Presence} {k : Bytes} {s : State} (hacts : casActs s = true)
    (hkey : pairKey s = some k) (hmagic : f.magic = 0x5343) (htag : f.tag = presenceTag k f) (hpeer : f.id = s.cas.peerId)
    (hother : f.id ≠ Config.deviceId) (hrole : f.role ≠ 1) : exec (.presenceFrameReceived p f) s = .next
      { countPort p 0 s with cas := { s.cas with peerTerm := f.term, peerRole := roleOfCode f.role } } := by
  have hkey' : pairKey (countPort p 0 s) = some k := hkey
  change execPresenceFrameReceived p f s = _
  unfold execPresenceFrameReceived
  rw [if_neg (by simp [hacts])]
  dsimp only
  rw [hkey', countPort_cas]
  refine (if_neg ?_).trans ((if_neg hother).trans ?_)
  · simp [hmagic, htag, hpeer]
  · simp only [hrole, if_false, hpeer]
    rfl

theorem execAckReceived_sent {q h : Nat} {x : SentCommit} {s : State} (hacts : casActs s = true) (hkey : lockerLoaded s 63 = true)
    (hrole : s.cas.role = .active) (hsent : mget s.cas.sent q = some x) : ∃ c, exec (.ackReceived q h) s = .next { s with cas := c } ∧
      c.base = x.lines ∧ c.copyOk = true ∧ c.stopped = false ∧ c.unacked = s.cas.unacked.filter (fun n => decide (q < n)) ∧
      c.peerHealth = h % 2 ^ 32 := by
  change ∃ c, execAckReceived q h s = _ ∧ _
  unfold execAckReceived
  rw [twinTake_good hacts hkey]
  dsimp only [twinHeard]
  rw [if_neg (by simp [hrole]), hsent]
  exact ⟨_, rfl, rfl, rfl, rfl, rfl, rfl⟩

theorem execFaultReceived_eligible {term c : Nat} {s : State} (hacts : casActs s = true) (hkey : lockerLoaded s 63 = true)
    (helig : eligible s = true) : exec (.faultReceived term c) s = .next { s with cas := { (twinHeard s).cas with
      peerTerm := term, peerRole := some .stalemate, takeoverAt := some (slotAfter s (now s + usU 200)) } } := by
  change execFaultReceived term c s = _
  unfold execFaultReceived
  rw [twinTake_good hacts hkey]
  exact congrArg done (if_pos helig)

/-- Settles O50. -/
theorem partnerMessagesComplete : Obligations.PartnerMessagesComplete := by
  refine fun b p s hacts hkey => ⟨fun hver hrole => ⟨_, execLinkbeatReceived_passive hacts hkey hver hrole, rfl, rfl, rfl, rfl, rfl, rfl, rfl⟩,
    execLinkbeatReceived_bad hacts, fun k hport hup hpair hpause hback hwait hdue => ?_,
    fun f k hpair hmagic htag hpeer hother hrole => execPresenceFrameReceived_known hacts hpair hmagic htag hpeer hother hrole,
    fun q h x hrole hsent => ?_, fun term c helig => ⟨_, execFaultReceived_eligible hacts hkey helig, rfl, rfl, rfl⟩,
    fun hrole htwin hlast => ?_⟩
  · exact presenceFrameSend_sends hacts hport hup hpair hpause hback hwait hdue
  · obtain ⟨c, hexec, hbase, hcopy, hstop, hunacked, hhealth⟩ := execAckReceived_sent (h := h) hacts hkey hrole hsent
    exact ⟨_, hexec, hbase, hcopy, hstop, hunacked, hhealth, rfl⟩
  · refine ⟨toStalemate 5 nmCommitLoss s, if_pos ⟨hacts, hrole, htwin, by rw [hlast]⟩, ?_⟩
    rw [toStalemate_cas _ _ (by rw [hrole]; decide)]
    exact ⟨rfl, rfl, casIrq_raised (by decide) _⟩

end Sys2Proof.Machine
end

section
/-! Castling: commits, the full resynchronisation, and changes of role (14 R380-R397). -/

namespace Sys2Proof.Machine

/-! ### A commit is applied -/

theorem finalReplies_cas (ws : List Waiter) (st : Nat) (s : State) : (finalReplies ws st s).cas = s.cas :=
  ((finalReplies_same ws st s).keeps .cas rfl).symm

theorem finalReply_cas_kept (w : Waiter) (st : Nat) (s : State) : (finalReply w st s).cas = s.cas :=
  ((finalReply_same w st s).keeps .cas rfl).symm

/-- What a completed commit leaves of its marks. -/
theorem commitDone_marks (bad : Bool) (s : State) : (commitDone bad s).cas.cseq = s.cas.cseq ∧
    (commitDone bad s).cas.copyOk = s.cas.copyOk ∧ (commitDone bad s).cas.lastApplied = s.cas.lastApplied := by
  unfold commitDone
  split
  · exact ⟨rfl, rfl, rfl⟩
  · dsimp only
    split
    · exact ⟨rfl, rfl, rfl⟩
    · rw [resyncReply, finalReplies_cas]
      obtain ⟨i, hrole⟩ := roleTo_cas .standby 3 nmStandby { s with cas := { s.cas with
        divcnt := 0, shadowOk := true, shadowRun := s.cas.shadowRun + 1, resyncDone := false } }
      have hcseq := congrArg Castling.cseq hrole
      have hcopy := congrArg Castling.copyOk hrole
      have hlast := congrArg Castling.lastApplied hrole
      exact ⟨hcseq, hcopy, hlast⟩

theorem settleWaits_marks (ws : List CommitWait) (s : State) : (settleWaits ws s).cas.cseq = s.cas.cseq ∧
    (settleWaits ws s).cas.copyOk = s.cas.copyOk ∧ (settleWaits ws s).cas.lastApplied = s.cas.lastApplied := by
  induction ws generalizing s with
  | nil => exact ⟨rfl, rfl, rfl⟩
  | cons w ws ih =>
    rw [settleWaits]
    split
    · obtain ⟨hcseq, hcopy, hlast⟩ := ih (commitDone w.bad s)
      obtain ⟨hcseq', hcopy', hlast'⟩ := commitDone_marks w.bad s
      exact ⟨hcseq.trans hcseq', hcopy.trans hcopy', hlast.trans hlast'⟩
    · exact ⟨rfl, rfl, rfl⟩

theorem applyCommit_empty {c : Commit} (hlines : c.lines = []) (hdigests : c.digests = []) (s : State) : ∃ ws,
    applyCommit c s = settleWaits ws (applyEngine c.engine s) := by
  unfold applyCommit
  rw [hlines, hdigests]
  exact ⟨_, rfl⟩

/-- The marks of a commit that a STANDBY takes. -/
def commitMarked (c : Commit) (s : State) : State :=
  { s with cas := { s.cas with
    cseq := c.cseq, lastApplied := some (slotFloor s (now s)), copyOk := true, commitPeak := max s.cas.commitPeak c.bytes } }

/-- An ACTIVE unit drives its pins anew once a commit is applied. -/
def commitPins (s : State) : State := if s.cas.role = .active then pinsOn s else s

theorem commitPins_cas (s : State) : (commitPins s).cas = s.cas := by
  unfold commitPins
  split
  · exact pinsOn_cas s
  · rfl

theorem execCommitReceived_standby {c : Commit} {s : State} (hacts : casActs s = true) (hkey : lockerLoaded s 63 = true)
    (hrole : s.cas.role = .standby) (hcrc : c.crcOk = true) : ∃ w, exec (.commitReceived c true) s = .next (emit (.ack c.cseq w)
      (traceCommit c.cseq c.bytes (count 225 (commitPins (applyCommit c (commitMarked c (twinHeard s))))))) := by
  change ∃ w, execCommitReceived c true s = _
  unfold execCommitReceived
  rw [twinTake_good hacts hkey]
  have hrole' : (twinHeard s).cas.role = .standby := hrole
  dsimp only
  rw [if_neg (by simp [hcrc]), if_neg (by simp [hrole'])]
  have hseq : (if (twinHeard s).cas.role = .active then (twinHeard s).cas.cseq else c.cseq) = c.cseq :=
    if_neg (by rw [hrole']; decide)
  rw [hseq]
  exact ⟨_, rfl⟩

theorem commitReceived_applied {c : Commit} {s : State} (hacts : casActs s = true) (hkey : lockerLoaded s 63 = true)
    (hrole : s.cas.role = .standby) (hcrc : c.crcOk = true) (hlines : c.lines = []) (hdigests : c.digests = []) :
    ∃ t w, exec (.commitReceived c true) s = .next t ∧ t.cas.cseq = c.cseq ∧ t.cas.copyOk = true ∧
      t.cas.lastApplied = some (slotFloor s (now s)) ∧ t.emitted.head? = some (.ack c.cseq w) := by
  obtain ⟨w, hexec⟩ := execCommitReceived_standby hacts hkey hrole hcrc
  obtain ⟨ws, happly⟩ := applyCommit_empty hlines hdigests (commitMarked c (twinHeard s))
  obtain ⟨hcseq, hcopy, hlast⟩ := settleWaits_marks ws (applyEngine c.engine (commitMarked c (twinHeard s)))
  have hengine := (applyEngine_same c.engine (commitMarked c (twinHeard s))).keeps .cas rfl
  have htrace := (traceCommit_same c.cseq c.bytes (count 225 (commitPins (applyCommit c (commitMarked c (twinHeard s)))))).keeps .cas rfl
  refine ⟨_, w, hexec, ?_⟩
  have hcas : (emit (.ack c.cseq w) (traceCommit c.cseq c.bytes (count 225 (commitPins (applyCommit c (commitMarked c (twinHeard s))))))).cas =
      (settleWaits ws (applyEngine c.engine (commitMarked c (twinHeard s)))).cas := by
    rw [emit_cas, ← htrace, count_cas, commitPins_cas, happly]
  rw [hcas, hcseq, hcopy, hlast, ← hengine]
  exact ⟨rfl, rfl, rfl, rfl⟩

/-! ### The resynchronisation at the other unit -/

theorem execResyncStartReceived_standby {n : Nat} {s : State} (hacts : casActs s = true) (hkey : lockerLoaded s 63 = true)
    (hrole : s.cas.role = .standby) (hver : s.cas.peerVersion = Config.twinVersion) : exec (.resyncStartReceived n) s =
      .next { s with cas := { (twinHeard s).cas with
        sakN := n, cseq := 0, resync := true, resyncFrom := now s, resyncBuf := [], resyncReq := false, resyncDone := false
        waits := [], homeWaits := [] } } := by
  change execResyncStartReceived n s = _
  unfold execResyncStartReceived
  rw [twinTake_good hacts hkey]
  exact if_neg (by simp [twinHeard, hrole, hver])

theorem execResyncDataReceived_standby {d : CopySet} {s : State} (hacts : casActs s = true) (hkey : lockerLoaded s 63 = true)
    (hrole : s.cas.role = .standby) (hsync : s.cas.resync = true) : exec (.resyncDataReceived d) s =
      .next { s with cas := { (twinHeard s).cas with resyncBuf := s.cas.resyncBuf ++ [d] } } := by
  change execResyncDataReceived d s = _
  unfold execResyncDataReceived
  rw [twinTake_good hacts hkey]
  exact congrArg done (if_pos ⟨rfl, hsync, by simp [twinHeard, hrole]⟩)

theorem execResyncEndReceived_empty {s : State} (hacts : casActs s = true) (hkey : lockerLoaded s 63 = true)
    (hrole : s.cas.role = .standby) (hsync : s.cas.resync = true) (hbuf : s.cas.resyncBuf = []) :
    exec (.resyncEndReceived (Config.copyDigest [])) s = .next (count 232 { dropExchange s with cas := { s.cas with
      lastTwin := now s, twinUp := true, resync := false, resyncDone := true, ownDigests := [], resyncRetry := none } }) := by
  have hbuf' : (twinHeard s).cas.resyncBuf = [] := hbuf
  change execResyncEndReceived _ s = _
  unfold execResyncEndReceived
  rw [twinTake_good hacts hkey]
  dsimp only
  rw [if_neg (by simp [twinHeard, hrole, hsync, hbuf]), hbuf']
  exact congrArg (fun x => done (count 232 { dropExchange s with cas := { s.cas with
    lastTwin := now s, twinUp := true, resync := false, resyncDone := true, resyncBuf := x, ownDigests := [], resyncRetry := none } }))
    hbuf.symm

/-- A resynchronisation is given up until 10 s later. -/
def resyncAbandoned (s : State) : State :=
  { advanceTo (s.cas.resyncFrom + 2 * secU) s with cas := { (advanceTo (s.cas.resyncFrom + 2 * secU) s).cas with
    resync := false, resyncBuf := [], resyncRetry := some (now (advanceTo (s.cas.resyncFrom + 2 * secU) s) + 10 * secU) } }

theorem execResyncTimeout_due {s : State} (hacts : casActs s = true) (hsync : s.cas.resync = true) :
    exec .resyncTimeout s = .next (noteCas 5 nmResyncAbandoned (resyncAbandoned s)) := if_pos ⟨hacts, hsync⟩

theorem casActs_advanceTo (t : Instant) (s : State) : casActs (advanceTo t s) = casActs s := by
  rw [casActs, casActs, inRun_advanceTo, paired_congr (advanceTo_pins s t) (activeBank_advanceTo t s)]

theorem execResyncRetry_passive {r : Instant} {s : State} (hacts : casActs s = true) (hrole : s.cas.role = .standby)
    (h : s.cas.resyncRetry = some r) : exec .resyncRetry s =
      .next { advanceTo r s with cas := { s.cas with resyncRetry := none, resyncReq := true } } := by
  have hacts' : casActs (advanceTo r { s with cas := { s.cas with resyncRetry := none } }) = true :=
    (casActs_advanceTo ..).trans hacts
  change execResyncRetry s = _
  unfold execResyncRetry
  rw [h]
  dsimp only
  rw [if_neg (by simp [hacts']), advanceTo_cas, if_neg (by simp [hrole])]
  rfl

/-- Settles O51. -/
theorem resynchronisationRowsComplete : Obligations.ResynchronisationRowsComplete := by
  refine fun s hacts hkey hrole => ⟨fun c => commitReceived_applied hacts hkey hrole,
    fun n hver => ⟨_, execResyncStartReceived_standby hacts hkey hrole hver, rfl, rfl, rfl, rfl, rfl⟩,
    fun d hsync => ⟨_, execResyncDataReceived_standby hacts hkey hrole hsync, rfl, rfl⟩,
    fun hsync hbuf => execResyncEndReceived_empty hacts hkey hrole hsync hbuf, fun hsync => ?_,
    fun r hr => ⟨_, execResyncRetry_passive hacts hrole hr, rfl, rfl, le_now_advanceTo s r⟩⟩
  have hnow : now (noteCas 5 nmResyncAbandoned (resyncAbandoned s)) = now (advanceTo (s.cas.resyncFrom + 2 * secU) s) :=
    now_congr (congrArg TimeBase.count (noteCas_tb ..))
  refine ⟨_, execResyncTimeout_due hacts hsync, ?_⟩
  rw [noteCas_cas, hnow]
  exact ⟨rfl, rfl, le_now_advanceTo s _, rfl⟩

/-! ### A unit becomes ACTIVE -/

theorem emitFromNow_cas (s : State) : ∃ l, (emitFromNow s).cas = { s.cas with announceAt := l } := by
  have hcas := ((voiceTakeover_same s).keeps .cas rfl).trans (((deliverShadow_same _).keeps .cas rfl).trans
    (((republish_same _).keeps .cas rfl).trans (((pinsOn_same _).keeps .cas rfl).trans ((announceAll_same _).keeps .cas rfl))))
  generalize hu : announceAll (pinsOn (republish (deliverShadow (voiceTakeover s)))) = u at hcas
  refine ⟨[now u + msU 100, now u + secU], ?_⟩
  rw [hcas, ← hu]
  rfl

theorem emitFromNow_tb (s : State) : (emitFromNow s).tb = s.tb := ((emitFromNow_same s).keeps .tb rfl).symm

theorem execTakeover_standby {b : Instant} {s : State} (hacts : casActs s = true) (hrole : s.cas.role = .standby)
    (h : s.cas.takeoverAt = some b) : exec .takeover s =
      .next (emitFromNow (toActive 6 nmTakeover (count 233 (setCasIrq 4 (dropExchange (advanceTo b s)))))) := by
  change execTakeover s = _
  unfold execTakeover
  rw [h]
  exact if_pos ⟨hacts, hrole⟩

theorem execPromoteEffect_due {b : Instant} {s : State} (hacts : casActs s = true)
    (hrole : s.cas.role = .standby ∨ s.cas.role = .stalemate) (h : s.cas.promoteAt = some b) :
    exec .promoteEffect s = .next (emitFromNow (toActive 6 nmPromote (dropExchange (advanceTo b s)))) := by
  change execPromoteEffect s = _
  unfold execPromoteEffect
  rw [h]
  exact if_pos ⟨hacts, hrole⟩

/-! ### A fault of the ACTIVE unit -/

theorem wasOutsOff_hbOut (ns : List Nat) (s : State) : (ns.foldl (fun s n =>
    if s.pins.wasOut.getLsbD n then
      emit (.pin (wasOutName n) false (now s)) { s with pins := { s.pins with wasOut := setBit16 s.pins.wasOut n false } }
    else s) s).pins.hbOut = s.pins.hbOut := by
  induction ns generalizing s with
  | nil => rfl
  | cons n ns ih =>
    rw [List.foldl_cons, ih]
    split <;> rfl

theorem pinsOff_hbOut (s : State) : (pinsOff s).pins.hbOut = s.pins.hbOut := by
  have halarm : ∀ u : State, (alarmPin u).pins.hbOut = u.pins.hbOut := fun u => by
    unfold alarmPin
    dsimp only
    split <;> rfl
  exact (halarm _).trans (wasOutsOff_hbOut _ s)

theorem noteCas_pins (sev : Nat) (name : Bytes) (s : State) : (noteCas sev name s).pins = s.pins := note_pins ..

theorem toStalemate_hbOut {s : State} (sev : Nat) (name : Bytes) (h : s.pins.hbOut = false) : (toStalemate sev name s).pins.hbOut = false := by
  have hrole : ∀ u : State, u.pins.hbOut = false → (roleTo .stalemate sev name u).pins.hbOut = false := fun u hu => by
    unfold roleTo
    split
    · exact hu
    · rw [noteCas_pins, setCasIrq, raiseVector_pins]
      simp [hu]
  unfold toStalemate
  dsimp only
  rw [pinsOff_hbOut]
  split
  · exact hrole (dropExchange s) h
  · exact hrole s h

/-- HB_OUT stops and the partner is told as an ACTIVE unit declares a fault. -/
def faultTold (s : State) : State :=
  if s.cas.twinUp then emit (.fault s.cas.term 1) { s with pins := { s.pins with hbOut := false } }
  else { s with pins := { s.pins with hbOut := false } }

theorem faultTold_only (s : State) : ∃ e, faultTold s = { s with pins := { s.pins with hbOut := false }, emitted := e } := by
  unfold faultTold
  split <;> exact ⟨_, rfl⟩

theorem execFaultDeclare_warned {s : State} (hacts : casActs s = true) (hrole : s.cas.role = .active) (hfail : s.pwr.pwrFail = true) :
    exec (.faultDeclare 1) s = .next (toStalemate 6 nmFaultDeclared (faultTold (advanceTo (now s) s))) := by
  have hdue : faultDue s 1 = some (now s) := if_pos hfail
  change execFaultDeclare 1 s = _
  unfold execFaultDeclare
  rw [hdue]
  unfold declareFault
  dsimp only
  rw [if_neg (by simp [casActs_advanceTo, hacts, hrole]), if_neg (by simp)]
  rfl

/-! ### Switchover and announcements -/

/-- The second reply of CAS_SWITCHOVER, where a command asked for it. -/
def switchReply (w : Option Waiter) (st : Nat) (s : State) : State := match w with
  | some w => finalReply w st s
  | none => s

theorem switchReply_cas (w : Option Waiter) (st : Nat) (s : State) : (switchReply w st s).cas = s.cas := by
  cases w with
  | none => rfl
  | some w => exact finalReply_cas_kept w st s

/-- The boundary of a switchover has come. -/
def switchDue (b : Instant) (s : State) : State := { advanceTo b s with cas := { s.cas with switchAt := none } }

theorem execSwitchoverHandover_early {b : Instant} {w : Option Waiter} {s : State} (hacts : casActs s = true)
    (hrole : s.cas.role = .active) (h : s.cas.switchAt = some (b, w)) (hfew : s.cas.shadowRun < 2) :
    exec .switchoverHandover s = .next (switchReply w 0x0302 (switchDue b s)) := by
  change execSwitchoverHandover s = _
  unfold execSwitchoverHandover
  rw [if_neg (by simp [hacts]), hrole, h]
  dsimp only
  rw [advanceTo_cas, if_pos (.inl hfew)]
  cases w <;> rfl

/-- An ACTIVE unit hands over at a boundary. -/
def handedOver (b : Instant) (s : State) : State :=
  { s with cas := { s.cas with takenAt := some b, lastApplied := none, waits := [], shadowRun := 0 } }

theorem exchangeAll_none {b : Instant} {s : State} (h : s.schs = []) : exchangeAll b s = s := by
  rw [exchangeAll, h]
  rfl

theorem execSwitchoverHandover_due {b : Instant} {w : Option Waiter} {s : State} (hacts : casActs s = true)
    (hrole : s.cas.role = .active) (h : s.cas.switchAt = some (b, w)) (hrun : 2 ≤ s.cas.shadowRun) (hpart : hasPartner s = true)
    (hschs : s.schs = []) : exec .switchoverHandover s =
      .next (switchReply w 0 (pinsOff (roleTo .standby 4 nmSwitchover (handedOver b (switchDue b s))))) := by
  have hpart' : hasPartner (switchDue b s) = true := hpart
  have hnone : exchangeAll b (switchDue b s) = switchDue b s := exchangeAll_none ((advanceTo_schs s b).trans hschs)
  change execSwitchoverHandover s = _
  unfold execSwitchoverHandover
  rw [if_neg (by simp [hacts]), hrole, h]
  dsimp only
  rw [advanceTo_cas]
  refine (if_neg ?_).trans ?_
  · exact fun k => k.elim (fun k => absurd hrun (by exact Nat.not_le.mpr k)) (fun k =>
      absurd (show (!hasPartner (switchDue b s)) = true from k) (by rw [hpart']; decide))
  · rw [show exchangeAll b { advanceTo b s with cas := { s.cas with switchAt := none } } = switchDue b s from hnone]
    cases w <;> rfl

theorem announceAll_emitted (s : State) : ∀ a ∈ s.cas.cfg.svc, .announce a.port a.vlan a.addr (!isV4 a.addr) ∈ (announceAll s).emitted := by
  have hkeep : ∀ (l : List SvcAddr) (u : State) (e : Emission), e ∈ u.emitted → e ∈ (l.foldl (fun s a =>
      emit (.announce a.port a.vlan a.addr (!isV4 a.addr)) s) u).emitted := fun l => by
    induction l with
    | nil => exact fun u e he => he
    | cons a l ih => exact fun u e he => ih _ e (List.mem_cons_of_mem _ he)
  have hall : ∀ (l : List SvcAddr) (u : State), ∀ a ∈ l, .announce a.port a.vlan a.addr (!isV4 a.addr) ∈ (l.foldl (fun s a =>
      emit (.announce a.port a.vlan a.addr (!isV4 a.addr)) s) u).emitted := fun l => by
    induction l with
    | nil => exact fun u a ha => absurd ha (List.not_mem_nil)
    | cons x l ih =>
      intro u a ha
      rcases List.mem_cons.mp ha with rfl | ha
      · exact hkeep l _ _ (List.mem_cons_self ..)
      · exact ih _ a ha
  exact hall s.cas.cfg.svc s

theorem mainUp_of_casActs {s : State} (h : casActs s = true) : mainUp s = true := inRun_up (Bool.and_eq_true_iff.mp h).1

/-- An announcement that is due. -/
def announceDue (b : Instant) (ts : List Instant) (s : State) : State := advanceTo b { s with cas := { s.cas with announceAt := ts } }

theorem execAddressAnnounceRepeat_active {b : Instant} {ts : List Instant} {s : State} (hacts : casActs s = true)
    (h : s.cas.announceAt = b :: ts) (hrole : s.cas.role = .active) :
    exec .addressAnnounceRepeat s = .next (announceAll (announceDue b ts s)) := by
  have hrun : inRun s = true := (Bool.and_eq_true_iff.mp hacts).1
  change execAddressAnnounceRepeat s = _
  unfold execAddressAnnounceRepeat
  rw [h]
  refine congrArg done (if_pos ?_)
  rw [holdsSvc, inRun_advanceTo, advanceTo_cas]
  exact Bool.and_eq_true_iff.mpr ⟨hrun, decide_eq_true hrole⟩

/-- Settles O52. -/
theorem roleRowsComplete : Obligations.RoleRowsComplete := by
  refine fun b s hacts => ⟨fun hrole hfail => ?_, fun hrole h => ?_, fun hrole h => ?_, fun w hrole h hrun hpart hschs => ?_,
    fun w hrole h hfew => ?_, fun ts h hrole => ?_, fun low => congrArg done (if_pos (mainUp_of_casActs hacts))⟩
  · refine ⟨_, execFaultDeclare_warned hacts hrole hfail, ?_⟩
    obtain ⟨e, he⟩ := faultTold_only (advanceTo (now s) s)
    have hcas : (faultTold (advanceTo (now s) s)).cas = s.cas := by rw [he]; exact advanceTo_cas s (now s)
    have hpins : (faultTold (advanceTo (now s) s)).pins.hbOut = false := by rw [he]
    rw [toStalemate_cas _ _ (by rw [hcas, hrole]; decide)]
    exact ⟨rfl, toStalemate_hbOut _ _ hpins, casIrq_raised (by decide) _⟩
  · refine ⟨_, execTakeover_standby hacts hrole h, ?_⟩
    obtain ⟨l, hcas⟩ := emitFromNow_cas (toActive 6 nmTakeover (count 233 (setCasIrq 4 (dropExchange (advanceTo b s)))))
    have hbase : (count 233 (setCasIrq 4 (dropExchange (advanceTo b s)))).cas =
        { s.cas with irq := s.cas.irq ||| BitVec.ofNat 5 (2 ^ 4) } := by
      rw [count_cas, setCasIrq_cas]
      exact congrArg (fun c : Castling => { c with irq := c.irq ||| BitVec.ofNat 5 (2 ^ 4) }) (advanceTo_cas s b)
    have htb : (count 233 (setCasIrq 4 (dropExchange (advanceTo b s)))).tb = (advanceTo b s).tb := setCasIrq_tb ..
    rw [hcas, toActive_cas _ _ (by rw [hbase, hrole]; decide), hbase,
      now_congr (congrArg TimeBase.count ((emitFromNow_tb _).trans ((toActive_tb ..).trans htb)))]
    exact ⟨rfl, rfl, rfl, le_now_advanceTo s b⟩
  · refine ⟨_, execPromoteEffect_due hacts hrole h, ?_⟩
    obtain ⟨l, hcas⟩ := emitFromNow_cas (toActive 6 nmPromote (dropExchange (advanceTo b s)))
    have hbase : (dropExchange (advanceTo b s)).cas = s.cas := advanceTo_cas s b
    have htb : (dropExchange (advanceTo b s)).tb = (advanceTo b s).tb := rfl
    rw [hcas, toActive_cas _ _ (by rw [hbase]; rcases hrole with hrole | hrole <;> rw [hrole] <;> decide),
      now_congr (congrArg TimeBase.count ((emitFromNow_tb _).trans ((toActive_tb ..).trans htb)))]
    exact ⟨rfl, rfl, le_now_advanceTo s b⟩
  · refine ⟨_, execSwitchoverHandover_due hacts hrole h hrun hpart hschs, ?_⟩
    obtain ⟨i, hcas⟩ := roleTo_cas .standby 4 nmSwitchover (handedOver b (switchDue b s))
    rw [switchReply_cas, pinsOff_cas, hcas]
    exact ⟨rfl, rfl, rfl⟩
  · refine ⟨_, execSwitchoverHandover_early hacts hrole h hfew, ?_⟩
    rw [switchReply_cas]
    exact ⟨hrole, rfl⟩
  · have hcas : (announceDue b ts s).cas = { s.cas with announceAt := ts } := advanceTo_cas _ b
    have hout := announceAll_same (announceDue b ts s)
    refine ⟨_, execAddressAnnounceRepeat_active hacts h hrole, ?_, ?_, fun a ha => ?_⟩
    · rw [← hout.keeps .cas rfl, hcas]
    · rw [now_congr (congrArg TimeBase.count (hout.keeps .tb rfl)).symm]
      exact le_now_advanceTo _ b
    · exact announceAll_emitted (announceDue b ts s) a (by rw [hcas]; exact ha)

end Sys2Proof.Machine
end

section
/-! The commands of captures, queues and ports (10 R261, R271; 11 R305; 12 R340) and of Castling (13 R366; 14 R377-R393). -/

namespace Sys2Proof.Machine

/-! ### Captures -/

theorem armCap_arms {n : Nat} {s : State} {r : CapRun} (hr : capRun s n = some r) (ha : r.armed = false) :
    armCap n true s = setCap n { r with armed := true, sealFrom := now s / secU } s := by
  unfold armCap
  rw [hr]
  simp [ha]

theorem armCap_alone {n : Nat} {on : Bool} {s : State} {r : CapRun} (hr : capRun s n = some r) (ha : r.armed = on) :
    armCap n on s = s := by
  unfold armCap
  rw [hr]
  exact if_pos ha

theorem triggerCap_accepts {n : Nat} {tr : Trigger} {phased : Bool} {s : State} {r : CapRun} (hr : capRun s n = some r)
    (hemits : emits s = true) (hopen : trigOpen r tr.t = true) (hroom : r.def_.cls = 1 → openRecords s n r < 2) :
    triggerCap n tr phased s = (acceptTrigger n tr phased s, true) := by
  unfold triggerCap
  rw [hr]
  dsimp only
  rw [if_neg (by simp [hemits]), if_neg (by simp [hopen]), if_neg fun h => absurd (hroom h.1) (by omega)]

theorem capTriggerRun_taken {s : State} {w : Waiter} {p : Bytes} {r : CapRun} (hw : w.origin ≠ .twin)
    (hr : capRun s (fld p 0 2) = some r) (htrig : bit r.def_.trig 0 = true) (hemits : emits s = true)
    (hopen : trigOpen r (now s) = true) (hroom : r.def_.cls = 1 → openRecords s (fld p 0 2) r < 2) : capTriggerRun s w p =
      (acceptTrigger (fld p 0 2) { src := 3, srcId := 0, t := now s, mark := slice p 4 16, flags := 0 } false s, 0, []) := by
  unfold capTriggerRun
  dsimp only
  rw [if_neg hw, hr]
  dsimp only
  rw [if_neg (by simp [htrig]), triggerCap_accepts hr hemits hopen hroom]
  rfl

theorem capTriggerRun_refused {s : State} {w : Waiter} {p : Bytes} {r : CapRun} (hw : w.origin ≠ .twin)
    (hr : capRun s (fld p 0 2) = some r) (htrig : bit r.def_.trig 0 = false) : capTriggerRun s w p = (s, 0x0302, []) := by
  unfold capTriggerRun
  dsimp only
  rw [if_neg hw, hr]
  exact if_pos (by simp [htrig])

theorem oq_of_quiet {t e : State} (h : Quiet t e) (n : Nat) : oq t n = oq e n := by rw [oq, h.oqs, oq]

theorem port_of_quiet {t e : State} (h : Quiet t e) (n : Nat) : port t n = port e n := by rw [port, h.ports, port]

/-- The run of OQ_FLUSH. -/
def flushQueued (n : Nat) (w : Waiter) (s : State) : State :=
  setOq n { oq (oqFlush n s) n with flushWait := (oq (oqFlush n s) n).flushWait ++ [w] } (oqFlush n s)

/-- Settles O23. -/
theorem captureQueueAndPortCommandsComplete : Obligations.CaptureQueueAndPortCommandsComplete := by
  refine fun pk s u => ⟨fun r h hon hr ha => ?_, fun r h hr ha => ?_, fun r h hr htrig hemits hopen hroom => ?_, fun r h hr htrig => ?_,
    fun h => ?_, fun h => ?_, fun h => answers_of_run rfl h rfl (by decide)⟩
  · refine answers_of_run rfl h ?_ (by decide)
    have harm : armCap (fld (pkBytes pk) 0 2) (fld (pkBytes pk) 2 1 == 1) u =
        setCap (fld (pkBytes pk) 0 2) { r with armed := true, sealFrom := now u / secU } u := by
      rw [hon]
      exact armCap_arms hr ha
    exact congrArg (fun x => (x, 0, [])) harm
  · exact answers_of_run rfl h (congrArg (fun x => (x, 0, [])) (armCap_alone hr ha)) (by decide)
  · exact answers_of_run rfl h (capTriggerRun_taken h.origin_ne_twin hr htrig hemits hopen hroom) (by decide)
  · exact answers_of_run rfl h (capTriggerRun_refused h.origin_ne_twin hr htrig) (by decide)
  · obtain ⟨t, hexec, hans, hq⟩ := answers_of_run (i := .oqFlush pk) (e := flushQueued (fld (pkBytes pk) 0 1) (waiterOf 0x0704 pk) u)
      (st := 1) (res := []) rfl h rfl (by decide)
    obtain ⟨d, f, c, hflush⟩ := oq_oqFlush (fld (pkBytes pk) 0 1) u
    refine ⟨t, hexec, hans, ?_⟩
    rw [oq_of_quiet hq, flushQueued, oq_setOq_same, hflush]
    exact ⟨rfl, rfl, rfl⟩
  · obtain ⟨t, hexec, hans, hq⟩ := answers_of_run (i := .portConfig pk)
      (e := portConfig (fld (pkBytes pk) 0 1) (portCfgOf (pkBytes pk)) u) (st := 0) (res := []) rfl h rfl (by decide)
    refine ⟨t, hexec, hans, ?_, fun p hp => ?_⟩
    · rw [port_of_quiet hq, portConfig, port_setPort_same]
    · rw [port_of_quiet hq, portConfig, port_setPort_other _ _ hp]

/-! ### Castling -/

/-- Bytes drawn at random: as many as asked for, out of the free values alone. -/
theorem randomBytes_draws (n : Nat) (s : State) : ((randomBytes n s).1).length = n ∧ ∃ f, (randomBytes n s).2 = { s with free := f } :=
  ⟨(List.length_reverse ..).trans (length_le ..), _, rfl⟩

theorem casPairRun_sends {s : State} {w : Waiter} (hpair : paired s = true) (hid : s.gh.idOk = true) : ∃ e n f q,
    casPairRun s w = ({ s with
      gh := { s.gh with pairWait := some (w, e, n) }
      free := f
      emitted := .pairing s.gh.idCert q n (signature identityKey (q ++ n ++ s.gh.idCert)) :: s.emitted }, 2, []) ∧
    0 < e ∧ e < p256Order ∧ n.length = 16 ∧ q = be 64 (Config.p256Point e % 2 ^ 512) := by
  obtain ⟨hlen, f, hfree⟩ := randomBytes_draws 16 (drawFree s).2
  have hlt : (drawFree s).1 % (p256Order - 1) < p256Order - 1 := Nat.mod_lt _ (by decide)
  refine ⟨1 + (drawFree s).1 % (p256Order - 1), (randomBytes 16 (drawFree s).2).1, f, _, ?_, by omega, by omega, hlen, rfl⟩
  unfold casPairRun
  rw [if_neg (by simp [hpair, hid])]
  dsimp only
  rw [hfree]
  rfl

theorem casConfig_stores {p : Bytes} {s : State} (hbit : bit (fld p 1 1) 1 = false) (w : Waiter) (e : Instant) :
    casConfigCmd.run s w p e = ({ s with cas := { s.cas with cfg := casConfigOf p } }, 0, []) := by
  simp [casConfigCmd, hbit]

theorem casConfig_promotes {p : Bytes} {s : State} (hbit : bit (fld p 1 1) 1 = true) (hcan : canPromote s = true)
    (hheard : heardActive s = false) (w : Waiter) (e : Instant) : casConfigCmd.run s w p e =
      ({ s with cas := { s.cas with cfg := casConfigOf p, promoteAt := some (slotAfter s (now s + usU 200)) } }, 0, []) := by
  simp [casConfigCmd, hbit, hcan, hheard]

theorem casSwitchoverRun_queued {s : State} {w : Waiter} {e : Instant} (hw : w.origin ≠ .twin) (hacts : casActs s = true)
    (helig : peerEligible s = true) (hnone : s.cas.switchAt = none) :
    casSwitchoverRun s w e = ({ s with cas := { s.cas with switchAt := some (e, some w) } }, 1, []) := by
  unfold casSwitchoverRun
  rw [if_neg hw, if_neg (by simp [hacts, helig, hnone])]

theorem casResyncRun_asks {s : State} {w : Waiter} (hacts : casActs s = true) (htwin : s.cas.twinUp = true) (hrole : s.cas.role ≠ .active) :
    casResyncRun s w = ({ dropExchange s with cas := { s.cas with resyncWait := s.cas.resyncWait ++ [w], resyncReq := true } }, 1, []) := by
  unfold casResyncRun
  rw [if_neg (by simp [hacts, htwin, hrole])]
  exact if_neg hrole

/-- The waiter of CAS_RESYNC with the staged images discarded. -/
def resyncAsked (w : Waiter) (s : State) : State := dropExchange { s with cas := { s.cas with resyncWait := s.cas.resyncWait ++ [w] } }

theorem casResyncRun_starts {s : State} {w : Waiter} (hacts : casActs s = true) (htwin : s.cas.twinUp = true) (hrole : s.cas.role = .active)
    (hpart : hasPartner s = true) (hsync : s.cas.resync = false) : casResyncRun s w = (resyncStart (resyncAsked w s), 1, []) := by
  unfold casResyncRun
  rw [if_neg (by simp [hacts, htwin, hpart])]
  refine (if_pos hrole).trans ?_
  exact congrArg (fun x => (x, 1, [])) (if_neg (by simp [dropExchange, hsync]))

/-- Castling as a resynchronisation starts at the ACTIVE unit. -/
theorem resyncStart_cas {s : State} (hrole : s.cas.role = .active) (hpart : hasPartner s = true) : (resyncStart s).cas = { s.cas with
    sakN := (s.cas.sakN + 1) % 2 ^ 32, nextCseq := 0, unacked := [], sent := [], base := [], stopped := false, resync := true
    resyncFrom := now s, resyncRetry := none } := by
  unfold resyncStart
  rw [if_neg (by simp [hrole, hpart])]
  rfl

/-- Settles O25. -/
theorem castlingCommandsComplete : Obligations.CastlingCommandsComplete := by
  refine fun pk s u => ⟨fun h hbit => answers_of_run rfl h (casConfig_stores hbit _ _) (by decide),
    fun h hbit hcan hheard => answers_of_run rfl h (casConfig_promotes hbit hcan hheard _ _) (by decide), fun h hpair hid => ?_,
    fun h hacts helig hnone => answers_of_run rfl h (casSwitchoverRun_queued h.origin_ne_twin hacts helig hnone) (by decide),
    fun h hacts htwin hrole => answers_of_run rfl h (casResyncRun_asks hacts htwin hrole) (by decide),
    fun h hacts htwin hrole hpart hsync => ?_⟩
  · obtain ⟨e, n, f, q, hrun, hpos, hlt, hlen, hq⟩ := casPairRun_sends (w := waiterOf 0x0A02 pk) hpair hid
    exact ⟨_, e, n, q, command_waits h hrun, rfl, hpos, hlt, hlen, hq, rfl, rfl⟩
  · obtain ⟨t, hexec, hans, hq⟩ := answers_of_run (i := .casResync pk) rfl h (casResyncRun_starts hacts htwin hrole hpart hsync) (by decide)
    refine ⟨t, hexec, hans, ?_⟩
    rw [hq.cas, resyncStart_cas (s := resyncAsked _ u) hrole hpart]
    exact ⟨rfl, rfl, rfl, rfl⟩

end Sys2Proof.Machine
end

section
/-! Captures, the WAS_IN pins, the wake frame, the pairing answer and forwarded commands (10 R264-R283; 12 R339; 13 R366; 19). -/

namespace Sys2Proof.Machine

/-! ### What a capture's packets leave of it -/

/-- The capture still runs, with the same packet number and seal period, and with no record that it did not have before. -/
def CapKept (cap : Nat) (r : CapRun) (t : State) : Prop :=
  ∃ q, capRun t cap = some q ∧ q.sealFrom = r.sealFrom ∧ q.pktSeq = r.pktSeq ∧ ∀ x ∈ q.recs, x ∈ r.recs

theorem capRun_congr {s t : State} (h : t.caps = s.caps) (cap : Nat) : capRun t cap = capRun s cap := by rw [capRun, capRun, h]

theorem CapKept.of_run {cap : Nat} {r : CapRun} {s : State} (h : capRun s cap = some r) : CapKept cap r s :=
  ⟨r, h, rfl, rfl, fun _ hx => hx⟩

theorem CapKept.congr {cap : Nat} {r : CapRun} {s t : State} (h : CapKept cap r s) (hc : t.caps = s.caps) : CapKept cap r t := by
  obtain ⟨q, hq, hseal, hpkt, hrecs⟩ := h
  exact ⟨q, (capRun_congr hc cap).trans hq, hseal, hpkt, hrecs⟩

theorem CapKept.set {cap : Nat} {r q : CapRun} (s : State) (hseal : q.sealFrom = r.sealFrom) (hpkt : q.pktSeq = r.pktSeq)
    (hrecs : ∀ x ∈ q.recs, x ∈ r.recs) : CapKept cap r (setCap cap q s) := ⟨q, capRun_setCap_same .., hseal, hpkt, hrecs⟩

theorem CapKept.capDone {cap : Nat} {r : CapRun} {s : State} (b : Bytes) (h : CapKept cap r s) : CapKept cap r (capDone cap b s) := by
  obtain ⟨q, hq, hseal, hpkt, hrecs⟩ := h
  unfold Machine.capDone
  rw [hq]
  refine .set s hseal hpkt fun x hx => hrecs x ?_
  dsimp only at hx
  split at hx
  · exact (List.mem_filter.mp hx).1
  · exact hx

/-- The captures apart, what a queue takes of one that waits leaves the other parts of it. -/
theorem oqForget_caps (key : Nat) (s : State) : (oqForget key s).caps = s.caps := ((oqForget_same key s).keeps .caps rfl).symm

theorem oqPut_caps (n producer : Nat) (p : QPkt) (s : State) : (oqPut n producer p s).caps = s.caps :=
  ((oqPut_same n producer p s).keeps .caps rfl).symm

theorem oqStall_caps (n key len : Nat) (s : State) : (oqStall n key len s).caps = s.caps :=
  ((oqStall_same n key len s).keeps .caps rfl).symm

theorem capDrain_kept {cap : Nat} {r : CapRun} (n : Nat) {s : State} (h : CapKept cap r s) : CapKept cap r (capDrain n cap s) := by
  induction n generalizing s with
  | zero => exact h
  | succ n ih =>
    obtain ⟨q, hq, hseal, hpkt, hrecs⟩ := h
    rw [capDrain, hq]
    dsimp only
    split
    · exact ⟨q, hq, hseal, hpkt, hrecs⟩
    · rename_i m b rest _
      split
      · refine ih (.capDone b (.congr (s := setCap cap { q with waiting := rest } s) (.set s hseal hpkt hrecs) ?_))
        rw [oqPut_caps, oqForget_caps]
      · exact .congr ⟨q, hq, hseal, hpkt, hrecs⟩ (oqStall_caps ..)

theorem capEmit_kept {cap : Nat} {r : CapRun} {s : State} (mark : Bool) (b hash : Bytes) (h : CapKept cap r s) :
    CapKept cap r (capEmit cap mark b hash s) := by
  obtain ⟨q, hq, hseal, hpkt, hrecs⟩ := h
  unfold capEmit
  rw [hq]
  dsimp only
  split
  · exact capDrain_kept _ (.set s hseal hpkt hrecs)
  · refine .congr (s := setCap cap { q with
      shadow := (shadowTrim (oqCapacity s q.def_.oq) (q.shadow ++ [{ mark := mark, bytes := b, chain := hash }]) 0).1
      recs := q.recs.filter fun x => !(fld b 0 1 = 0x57 && x.deferred && x.recSeq == pktSeqOf b) } s) (.set s hseal hpkt ?_) rfl
    exact fun x hx => hrecs x (List.mem_filter.mp hx).1

/-! ### The rows of captures -/

/-- A slot written into a ring is the one found there. -/
theorem ringPut_find (n : Nat) (sl : RingSlot) (l : List RingSlot) : (ringPut n sl l).find? (fun x => x.n == sl.n) = some sl := by
  have hnone : (l.filter fun y => y.n % n != sl.n % n).find? (fun x => x.n == sl.n) = none := by
    rw [List.find?_eq_none]
    intro x hx hsame
    have hslot := (List.mem_filter.mp hx).2
    rw [beq_iff_eq.mp hsame] at hslot
    simp at hslot
  rw [ringPut, List.find?_append, hnone]
  simp

theorem execCapRingMarker_up {sid u : Nat} {d : StreamDef} {s : State} (hd : mget (activeBank s).streams sid = some d)
    (hup : mainUp s = true) : exec (.capRingMarker sid u) s = .next (ringSlotWrite sid (fun _ _ => some { n := u, marked := true, vals := [] })
      (advanceTo (gridLess d.rate u 2 1000) s)) := by
  change execCapRingMarker sid u s = _
  unfold execCapRingMarker
  rw [hd]
  exact if_pos hup

/-- An armed class R capture of a stream takes the slot. -/
theorem ringSlotWrite_armed {cap sid : Nat} {r : CapRun} {x : CapStr} {sl : RingSlot} {s : State} (hr : capRun s cap = some r)
    (harmed : r.armed = true) (hcls : r.def_.cls = 1) (hx : r.strs.find? (fun x => x.sid == sid) = some x) :
    capRun (ringSlotWrite sid (fun _ _ => some sl) s) cap =
      some { r with rings := mput r.rings sid (ringPut x.slots sl (mgetD r.rings sid [])) } := by
  have hget : mget s.caps cap = some r := hr
  rw [capRun, ringSlotWrite]
  dsimp only
  rw [mget_mmap, hget]
  simp only [Option.map_some, harmed, hcls, hx, Bool.not_true, bne_self_eq_false, Bool.or_self, Bool.false_eq_true, if_false]

theorem closeRecord_defers {cap : Nat} {r : CapRun} {rc : CapRec} {s : State} (hr : capRun s cap = some r)
    (hrc : r.recs.find? (fun x => !x.deferred) = some rc) : ∃ q, capRun (closeRecord cap s) cap = some q ∧
      ∀ x ∈ q.recs, x.recSeq = rc.recSeq → x.deferred = true := by
  have hdeferred : ∀ x ∈ (r.recs.map fun x => if x.recSeq = rc.recSeq then { x with deferred := true } else x),
      x.recSeq = rc.recSeq → x.deferred = true := by
    intro x hx hseq
    obtain ⟨y, -, rfl⟩ := List.mem_map.mp hx
    by_cases hy : y.recSeq = rc.recSeq
    · rw [if_pos hy]
    · rw [if_neg hy] at hseq
      exact absurd hseq hy
  unfold closeRecord
  rw [hr]
  dsimp only
  rw [hrc]
  dsimp only
  obtain ⟨q, hq, -, -, hrecs⟩ := capEmit_kept (r := { r with recs := r.recs.map fun x =>
    if x.recSeq = rc.recSeq then { x with deferred := true } else x }) false _ r.chain (.of_run (capRun_setCap_same ..))
  exact ⟨q, hq, fun x hx => hdeferred x (hrecs x hx)⟩

theorem closeRecord_defers_advanceTo {cap : Nat} {r : CapRun} {rc : CapRec} {s : State} (t : Instant) (hr : capRun s cap = some r)
    (hrc : r.recs.find? (fun x => !x.deferred) = some rc) : ∃ q, capRun (closeRecord cap (advanceTo t s)) cap = some q ∧
      ∀ x ∈ q.recs, x.recSeq = rc.recSeq → x.deferred = true :=
  closeRecord_defers ((capRun_congr (advanceTo_caps s t) cap).trans hr) hrc

theorem capRecordClose_defers {cap : Nat} {r : CapRun} {rc : CapRec} {s : State} (hr : capRun s cap = some r) (hup : mainUp s = true)
    (hrc : r.recs.find? (fun x => !x.deferred) = some rc) : ∃ t q, exec (.capRecordClose cap) s = .next t ∧ capRun t cap = some q ∧
      ∀ x ∈ q.recs, x.recSeq = rc.recSeq → x.deferred = true := by
  have hexec : exec (.capRecordClose cap) s =
      .next (closeRecord cap (if recordFull r rc then s else advanceTo (recordLimit r rc) s)) := by
    change execCapRecordClose cap s = _
    unfold execCapRecordClose
    rw [hr]
    dsimp only
    rw [hrc]
    exact if_pos hup
  by_cases hfull : recordFull r rc = true
  · rw [if_pos hfull] at hexec
    obtain ⟨q, hq, hdef⟩ := closeRecord_defers hr hrc
    exact ⟨_, q, hexec, hq, hdef⟩
  · rw [if_neg hfull] at hexec
    obtain ⟨q, hq, hdef⟩ := closeRecord_defers_advanceTo (recordLimit r rc) hr hrc
    exact ⟨_, q, hexec, hq, hdef⟩

/-- A seal takes the next packet number and leaves the seal period's beginning. -/
theorem sealCap_seals {cap : Nat} {r : CapRun} {s : State} (hr : capRun s cap = some r) (hcls : r.def_.cls = 2)
    (hsign : r.def_.sign ≠ 0xFF) : (∃ q, capRun (sealCap cap s) cap = some q ∧ q.sealFrom = r.sealFrom ∧
      q.pktSeq = (r.pktSeq + 1) % 2 ^ 32) ∧ Told s (sealCap cap s) := by
  have hnext : ∀ u : State, capRun u cap = some r → nextPkt cap u =
      ((r.pktSeq + 1) % 2 ^ 32, setCap cap { r with pktSeq := (r.pktSeq + 1) % 2 ^ 32 } u) := fun u hu => by
    rw [nextPkt, hu]
  have hready : ∀ c : Bool, capRun (if c then s else useRefused (count 151 s)) cap = some r ∧
      Told s (if c then s else useRefused (count 151 s)) := fun c => by
    cases c
    · exact ⟨hr, refusedKey_told (n := 151) (by decide) s⟩
    · exact ⟨hr, .refl s⟩
  unfold sealCap
  rw [hr]
  dsimp only
  rw [if_neg (by simp [hcls, hsign])]
  generalize hu : (if signReady s r.def_.sign = true then s else useRefused (count 151 s)) = u
  obtain ⟨hrun, htold⟩ := hready (signReady s r.def_.sign)
  rw [hu] at hrun htold
  rw [hnext u hrun]
  dsimp only
  generalize hb : sealBytes _ _ _ _ _ _ _ _ = b
  obtain ⟨q, hq, hseal, hpkt, -⟩ := capEmit_kept true b r.chain
    (CapKept.of_run (capRun_setCap_same u cap { r with pktSeq := (r.pktSeq + 1) % 2 ^ 32 }))
  have hemit : Told s (capEmit cap true b r.chain (setCap cap { r with pktSeq := (r.pktSeq + 1) % 2 ^ 32 } u)) :=
    by
    refine htold.trans (Told.trans ?_ (capEmit_told cap true b r.chain _))
    exact .of_eq rfl rfl rfl rfl rfl
  rw [hq]
  exact ⟨⟨_, capRun_setCap_same .., hseal, hpkt⟩, hemit.trans (.of_eq rfl rfl rfl rfl rfl)⟩

/-- A class P capture whose seal is due. -/
def sealDue (cap : Nat) (r : CapRun) (s : State) : State :=
  setCap cap { r with sealFrom := r.sealFrom + sealPeriod r.def_ } (advanceTo ((r.sealFrom + sealPeriod r.def_) * secU) s)

theorem execClassPSeal_armed {cap : Nat} {r : CapRun} {s : State} (hr : capRun s cap = some r) (hrun : inRun s = true)
    (hcls : r.def_.cls = 2) (harmed : r.armed = true) : exec (.classPSeal cap) s = .next (sealCap cap (sealDue cap r s)) := by
  change execClassPSeal cap s = _
  unfold execClassPSeal
  rw [hr]
  exact if_pos ⟨hcls, harmed, hrun⟩

/-! ### The WAS_IN pins -/

theorem triggerAll_none {sel : CapDef → Bool} {tr : Trigger} {s : State}
    (h : s.caps.all (fun e => decide (256 ≤ e.1) || !sel e.2.def_) = true) : triggerAll sel tr s = s := by
  have hall : ∀ l : List (Nat × CapRun), l.all (fun e => decide (256 ≤ e.1) || !sel e.2.def_) = true → l.foldl (fun s e =>
      if e.1 < 256 && sel e.2.def_ then (triggerCap e.1 tr false s).1 else s) s = s := fun l => by
    induction l with
    | nil => exact fun _ => rfl
    | cons e l ih =>
      intro hl
      obtain ⟨he, hl⟩ := Bool.and_eq_true_iff.mp hl
      dsimp only at he
      have hno : ¬ (decide (e.1 < 256) && sel e.2.def_) = true := by
        intro hyes
        obtain ⟨hlt, hsel⟩ := Bool.and_eq_true_iff.mp hyes
        rw [hsel, Bool.not_true, Bool.or_false] at he
        exact absurd (of_decide_eq_true hlt) (Nat.not_lt.mpr (of_decide_eq_true he))
      rw [List.foldl_cons, if_neg hno]
      exact ih hl
  exact hall s.caps h

/-- An edge that a pin has taken. -/
def edgeTaken (pin : Fin 16) (level : Bool) (st : Instant) (s : State) : State :=
  { advanceTo (st + usU 2) s with pins := { (advanceTo (st + usU 2) s).pins with
    wasIn := mput (advanceTo (st + usU 2) s).pins.wasIn pin
      ((mgetD (advanceTo (st + usU 2) s).pins.wasIn pin [] ++ [({ at_ := st, level := level } : Edge)]).drop
        ((mgetD (advanceTo (st + usU 2) s).pins.wasIn pin [] ++ [({ at_ := st, level := level } : Edge)]).length - 64)) } }

theorem execWasInEdgeAccepted_untriggered {pin : Fin 16} {level : Bool} {st : Instant} {s : State} (hup : mainUp s = true)
    (hcaps : s.caps.all (fun e => 256 ≤ e.1 || !bit (if level then e.2.def_.wasRise else e.2.def_.wasFall) pin) = true) :
    exec (.wasInEdgeAccepted pin level st) s = .next (edgeTaken pin level st s) := by
  have hcaps' : (edgeTaken pin level st s).caps = s.caps := advanceTo_caps s (st + usU 2)
  exact (if_pos hup).trans (congrArg done (triggerAll_none (s := edgeTaken pin level st s) (by rw [hcaps']; exact hcaps)))

/-! ### The wake frame -/

theorem ofBe_be (n v : Nat) : ofBe (be n v) = v % 256 ^ n := by rw [ofBe, be, List.reverse_reverse, ofLe_le]

theorem length_be (n v : Nat) : (be n v).length = n := (List.length_reverse ..).trans (length_le ..)

/-- The magic frame of a MAC, behind that MAC as its destination. -/
def magicBytes (mac : Nat) : Bytes :=
  be 6 mac ++ List.replicate 6 (0xFF : Byte) ++ (List.replicate 16 (be 6 mac)).flatten

theorem length_macs (mac n : Nat) : ((List.replicate n (be 6 mac)).flatten).length = n * 6 := by
  simp [length_be]

theorem magicFrame_magicBytes {mac : Nat} (h : mac < 2 ^ 48) : magicFrame mac (magicBytes mac) = true := by
  have hdst : fldBe (magicBytes mac) 0 6 = mac := by
    rw [fldBe, slice, List.drop_zero, magicBytes, List.append_assoc, List.take_append_of_le_length (by rw [length_be]),
      List.take_of_length_le (by rw [length_be]), ofBe_be, Nat.mod_eq_of_lt (by omega)]
  have hfind : slice (magicBytes mac) 6 102 = List.replicate 6 (0xFF : Byte) ++ (List.replicate 16 (be 6 mac)).flatten := by
    have hlen : (List.replicate 6 (0xFF : Byte) ++ (List.replicate 16 (be 6 mac)).flatten).length ≤ 102 := by
      rw [List.length_append, length_macs, List.length_replicate]
    rw [slice, magicBytes, List.append_assoc, List.drop_append_of_le_length (by rw [length_be]), List.drop_eq_nil_of_le (by rw [length_be]),
      List.nil_append, List.take_of_length_le hlen]
  have hlong : 6 < (magicBytes mac).length := by
    rw [magicBytes, List.length_append, List.length_append, length_macs, List.length_replicate, length_be]
    decide
  unfold magicFrame
  dsimp only
  rw [hdst, decide_eq_true rfl, Bool.true_and, List.any_eq_true]
  exact ⟨6, List.mem_range.mpr hlong, beq_iff_eq.mpr hfind⟩

theorem execWakeFrame_magic {p : Fin 6} {b : Bytes} {s : State} (hps : s.pwr.ps = .dormant) (hp : p.val < 2) (hup : portUp s p = true)
    (hbudget : budget s ≠ 0) (hmagic : magicFrame (port s p).cfg.mac b = true) : exec (.wakeFrame p b) s =
      .next (noteI 3 1 nmWake (item nmPort p ++ item nmEntry 8) (pstateCode .boot) 8 0 (startBoot 2 s)) := by
  refine (if_pos ⟨hps, hp, hup⟩).trans ?_
  rw [hmagic]
  exact if_neg hbudget

/-- Settles O59. -/
theorem captureAndPinRowsComplete : Obligations.CaptureAndPinRowsComplete := by
  refine fun s => ⟨fun cap r hr => ⟨fun sid u d x hup hd harmed hcls hx => ?_, fun rc hup hrc => capRecordClose_defers hr hup hrc,
    fun hrun hcls harmed hsign => ?_⟩, fun pin level st hup hcaps hfew => ?_, fun p hps hp hup hbudget hmac => ?_⟩
  · have hwrite := ringSlotWrite_armed (sl := { n := u, marked := true, vals := [] })
      ((capRun_congr (advanceTo_caps s (gridLess d.rate u 2 1000)) cap).trans hr) harmed hcls hx
    refine ⟨_, _, execCapRingMarker_up hd hup, hwrite, ?_, le_now_advanceTo s _⟩
    rw [ringAt, mgetD_mput_same]
    exact ringPut_find x.slots { n := u, marked := true, vals := [] } _
  · obtain ⟨⟨q, hq, hseal, hpkt⟩, htold⟩ := sealCap_seals (s := sealDue cap r s) (capRun_setCap_same ..) hcls hsign
    refine ⟨_, q, execClassPSeal_armed hr hrun hcls harmed, hq, hseal, hpkt, ?_⟩
    rw [htold.now_eq]
    exact le_now_advanceTo s _
  · refine ⟨_, execWasInEdgeAccepted_untriggered hup hcaps, ?_, le_now_advanceTo s _⟩
    rw [edgeTaken, advanceTo_pins]
    dsimp only
    rw [mgetD_mput_same, List.length_append, List.length_singleton, Nat.sub_eq_zero_of_le (by omega), List.drop_zero]
  · have hbooted := startBoot_booted 2 s
    refine ⟨_, execWakeFrame_magic hps hp hup hbudget (magicFrame_magicBytes hmac), ?_⟩
    rw [noteI_pwr]
    exact ⟨hbooted.ps, hbooted.bootKind⟩

/-! ### The pairing answer -/

/-- The keys of a pairing's two units, from what each has sent. -/
def pairKeys (e peer q : Nat) (own nonce : Bytes) : Bytes :=
  kdf (be 32 (Config.p256Shared e q % 2 ^ 256)) lblPair (if Config.deviceId < peer then
    be 16 Config.deviceId ++ be 16 peer ++ own ++ nonce else be 16 peer ++ be 16 Config.deviceId ++ nonce ++ own) 40

theorem execPairingFrameReceived_refused {a b : Bool} {peer q e : Nat} {nonce own : Bytes} {w : Waiter} {s : State}
    (h : s.gh.pairWait = some (w, e, own)) (hab : (a && b) = false) : exec (.pairingFrameReceived a b peer nonce q) s =
      .next (closeCommand w (some 4) w.crc [] 0x0302 false [] { s with gh := { s.gh with pairWait := none } }) := by
  change execPairingFrameReceived a b peer nonce q s = _
  unfold execPairingFrameReceived
  rw [h]
  refine if_pos ?_
  cases a with
  | false => exact .inl rfl
  | true => exact .inr (by rw [Bool.true_and] at hab; rw [hab]; rfl)

/-- Locker 63 with the pair key. -/
def pairLocker (k : Bytes) (g : Nat) : Locker :=
  { state := .loaded, key := k.take 32, type := 9, usage := 33, kid := ofLe (k.drop 32), depth := 0, parent := 0x8F, rootDom := 15
    rootGen := g }

/-- The pair key loads into locker 63, and its blob into NOR. -/
def pairKeyLoaded (k b : Bytes) (g peer : Nat) (s : State) : State :=
  { setLocker 63 (pairLocker k g) s with
    gh := { (setLocker 63 (pairLocker k g) s).gh with pairBlob := some b, peerPair := peer }
    cas := { s.cas with sakN := 0, peerId := peer } }

/-- No CAS_PAIR waits, and free values have been drawn. -/
def pairingOver (f : Nat) (s : State) : State := { s with gh := { s.gh with pairWait := none }, free := f }

theorem execPairingFrameReceived_verified {peer q e : Nat} {nonce own : Bytes} {w : Waiter} {s : State}
    (h : s.gh.pairWait = some (w, e, own)) : ∃ f b g res, exec (.pairingFrameReceived true true peer nonce q) s =
      .next (closeCommand w (some 4) w.crc [] 0 false res
        (pairKeyLoaded (pairKeys e peer q own nonce) b g peer (zeroise 63 (pairingOver f s)))) := by
  change ∃ f b g res, execPairingFrameReceived true true peer nonce q s = _
  unfold execPairingFrameReceived
  rw [h]
  exact ⟨_, _, _, _, rfl⟩

/-- Zeroising empties lockers and leaves the rest of Gatehouse. -/
theorem zeroise_gh (k : Nat) (s : State) : ∃ l, (zeroise k s).gh = { s.gh with lockers := l } := by
  unfold zeroise
  dsimp only
  split
  · exact ⟨s.gh.lockers, rfl⟩
  · exact ⟨_, recStage_gh _ _⟩

theorem lockerLoaded_pairKeyLoaded (k b : Bytes) (g peer : Nat) (s : State) : lockerLoaded (pairKeyLoaded k b g peer s) 63 = true ∧
    locker (pairKeyLoaded k b g peer s) 63 = pairLocker k g := by
  have hget : mget (pairKeyLoaded k b g peer s).gh.lockers 63 = some (pairLocker k g) := mget_mput_same ..
  refine ⟨?_, mgetD_mput_same ..⟩
  rw [lockerLoaded, hget]
  rfl

theorem locker_congr {s t : State} (h : t.gh = s.gh) (n : Nat) : lockerLoaded t n = lockerLoaded s n ∧ locker t n = locker s n := by
  rw [lockerLoaded, lockerLoaded, locker, locker, h]
  exact ⟨rfl, rfl⟩

/-! ### A forwarded command -/

/-- A closed command that is well formed counts nothing. -/
theorem closeCommand_cnt {w : Waiter} {sev : Option Nat} {crc : Nat} {p : Bytes} {st : Nat} {dry : Bool} {res : Bytes} {s : State}
    (h : malformed st = false) : (closeCommand w sev crc p st dry res s).cnt = s.cnt := by
  have hpost : ∀ r q l (v : State), (postReply r q (storeReply l v)).cnt = v.cnt := fun r q l v => by
    rw [postReply_cnt]
    unfold storeReply
    split <;> rfl
  unfold closeCommand
  dsimp only
  rw [hpost, if_neg (by simp [h])]
  split
  · exact recStage_cnt _ _
  · rfl

theorem execTwinCmdReceived_standby {op : Nat} {pk : Packet} {x : Instant} {s : State} (hacts : casActs s = true)
    (hkey : lockerLoaded s 63 = true) (hrole : s.cas.role = .standby) (hfw : fwDown s = false) :
    exec (.twinCmdReceived op pk x true) s = .next (runForwarded op pk x (twinHeard s)) := by
  have hfw' : fwDown (twinHeard s) = false := hfw
  change execTwinCmdReceived op pk x true s = _
  unfold execTwinCmdReceived
  rw [twinTake_good hacts hkey]
  dsimp only
  rw [if_neg (by simp [twinHeard, hrole]), if_neg (by simp [hfw'])]
  rfl

theorem actCmd_detAck : actCmd 0x0403 = some detAckCmd := rfl

theorem runCommand_detAck {pk : Packet} {x : Instant} {s : State} (ho : pk.origin = .twin) (hdry : bit pk.flags 1 = false)
    (hwell : class01 detAckCmd pk s = none) (htime : class02 detAckCmd .twin s = none) : runCommand detAckCmd pk x s =
      (closeCommand (waiterOf 0x0403 pk) (some 2) pk.crc (pkBytes pk) 0 false [] (detAckLatch (fld (pkBytes pk) 0 2) s), 0) := by
  have hown : ∀ u, forwardCmd detAckCmd pk x u = u := fun u => if_neg fun h => h.2.1 ho
  have hrun : ∀ w, detAckCmd.run s w (pkBytes pk) x = (detAckLatch (fld (pkBytes pk) 0 2) s, 0, []) := fun w => rfl
  have htime' : class02 detAckCmd pk.origin s = none := by rw [ho, htime]
  simp only [runCommand, hwell, htime', hrun, hdry, hown, Bool.false_eq_true, if_false, Nat.zero_lt_two, if_true,
    OfNat.zero_ne_ofNat]
  rfl

theorem runForwarded_detAck {pk : Packet} {x : Instant} {s : State} (hdry : bit pk.flags 1 = false)
    (hwell : class01 detAckCmd { pk with origin := .twin } s = none) (htime : class02 detAckCmd .twin s = none) :
    runForwarded 0x0403 pk x s = closeCommand (waiterOf 0x0403 { pk with origin := .twin }) (some 2) pk.crc (pkBytes pk) 0 false []
      (detAckLatch (fld (pkBytes pk) 0 2) (count 230 s)) := by
  have hrun := runCommand_detAck (pk := { pk with origin := .twin }) (x := x) (s := count 230 s) rfl hdry hwell htime
  unfold runForwarded
  rw [actCmd_detAck]
  dsimp only
  rw [hrun]
  rfl

theorem twinCmdReceived_detAck {pk : Packet} {s : State} (hacts : casActs s = true) (hkey : lockerLoaded s 63 = true)
    (hrole : s.cas.role = .standby) (hfw : fwDown s = false) (hdry : bit pk.flags 1 = false)
    (hwell : class01 detAckCmd { pk with origin := .twin } s = none) (htime : class02 detAckCmd .twin s = none) :
    ∃ t, exec (.twinCmdReceived 0x0403 pk (now s) true) s = .next t ∧ counter t 230 = satAdd (2 ^ 64 - 1) (counter s 230) 1 ∧
      ∀ i, mget t.dets i = (mget s.dets i).map fun r =>
        if i = fld (pkBytes pk) 0 2 ∨ fld (pkBytes pk) 0 2 = 0xFFFF then { r with latch := 0 } else r := by
  refine ⟨_, execTwinCmdReceived_standby hacts hkey hrole hfw, ?_, fun i => ?_⟩
  · have halarm : ∀ u : State, (alarmPin u).cnt = u.cnt := fun u => ((alarmPin_same u).keeps .cnt rfl).symm
    have hcnt : (detAckLatch (fld (pkBytes pk) 0 2) (count 230 (twinHeard s))).cnt = (count 230 (twinHeard s)).cnt := halarm _
    rw [runForwarded_detAck (s := twinHeard s) hdry hwell htime, counter_congr (closeCommand_cnt (by rfl)), counter_congr hcnt, counter_count_same]
    rfl
  · rw [runForwarded_detAck (s := twinHeard s) hdry hwell htime, (closeCommand_quiet ..).dets, mget_detAckLatch]
    rfl

/-- Settles O60. -/
theorem partnerCommandRowsComplete : Obligations.PartnerCommandRowsComplete := by
  refine fun pk s => ⟨fun w e own peer nonce q h => ?_, fun w e own peer nonce q a b h hab => ?_,
    fun hacts hkey hrole hfw hdry hwell htime => twinCmdReceived_detAck hacts hkey hrole hfw hdry hwell htime⟩
  · obtain ⟨f, b, g, res, hexec⟩ := execPairingFrameReceived_verified (peer := peer) (nonce := nonce) (q := q) h
    obtain ⟨l, hgh⟩ := zeroise_gh 63 (pairingOver f s)
    have hquiet := closeCommand_quiet w (some 4) w.crc [] 0 false res
      (pairKeyLoaded (pairKeys e peer q own nonce) b g peer (zeroise 63 (pairingOver f s)))
    obtain ⟨hloaded, hlocker⟩ := lockerLoaded_pairKeyLoaded (pairKeys e peer q own nonce) b g peer (zeroise 63 (pairingOver f s))
    obtain ⟨hloaded', hlocker'⟩ := locker_congr hquiet.gh 63
    refine ⟨_, hexec, ?_, hloaded'.trans hloaded, ?_, ?_, ?_, ?_⟩
    · rw [hquiet.gh]
      exact congrArg Gatehouse.pairWait hgh
    · rw [hlocker', hlocker]
      rfl
    · rw [hlocker', hlocker]
      rfl
    · rw [hquiet.gh]
      rfl
    · rw [hquiet.cas]
      rfl
  · have hquiet := closeCommand_quiet w (some 4) w.crc [] 0x0302 false [] { s with gh := { s.gh with pairWait := none } }
    exact ⟨_, execPairingFrameReceived_refused h hab, hquiet.gh, hquiet.cas⟩

end Sys2Proof.Machine
end

section
/-! Dispatch, start, completion, overrun and abort of tasks (06 R143-R156; 08 R199). -/

namespace Sys2Proof.Machine

/-! ### Lost work is settled -/

theorem lostWork_disp (k : TaskInst) (s : State) : (lostWork k s).disp = s.disp := ((lostWork_same k s).keeps .disp rfl).symm

theorem foldl_lostWork_disp (l : List TaskInst) (s : State) : (l.foldl (fun s k => lostWork k s) s).disp = s.disp :=
  ((Same.foldl (fun s k => lostWork_same k s) (Same.refl s)).keeps .disp rfl).symm

theorem foldl_exchangeDue_same (l : List Nat) (s : State) : (l.foldl (fun s n => exchangeDue n s) s).disp = s.disp ∧
    (l.foldl (fun s n => exchangeDue n s) s).cnt = s.cnt := by
  have h := Same.foldl (l := l) (fun s n => exchangeDue_same n s) (Same.refl s)
  exact ⟨(h.keeps .disp rfl).symm, (h.keeps .cnt rfl).symm⟩

/-- Settling takes the dropped work off the list, and nothing else from dispatch. -/
theorem settle_disp (s : State) : (settle s).disp = { s.disp with dropped := [] } :=
  (foldl_exchangeDue_same _ _).1.trans (foldl_lostWork_disp _ _)

/-- With nothing dropped, settling counts nothing. -/
theorem settle_cnt {s : State} (h : s.disp.dropped = []) : (settle s).cnt = s.cnt := by
  unfold settle
  rw [h]
  exact (foldl_exchangeDue_same _ _).2

theorem core_settle (s : State) (c : Nat) : core (settle s) c = core s c := by rw [core, settle_disp, core]

theorem tmplRun_settle (s : State) (n : Nat) : tmplRun (settle s) n = tmplRun s n := by rw [tmplRun, settle_disp, tmplRun]

theorem core_congr {s t : State} (h : t.disp = s.disp) (c : Nat) : core t c = core s c := by rw [core, core, h]

theorem tmplRun_congr {s t : State} (h : t.disp = s.disp) (n : Nat) : tmplRun t n = tmplRun s n := by rw [tmplRun, tmplRun, h]

/-! ### The end of a task -/

/-- The core is free and the template has one instance less. -/
theorem taskEnd_frees (c : Nat) (k : TaskInst) (s : State) :
    (core (taskEnd c k s) c).running = none ∧ (tmplRun (taskEnd c k s) k.tid).pending = (tmplRun s k.tid).pending - 1 := by
  have hdisp : (taskEnd c k s).disp = { s.disp with
      cores := mput s.disp.cores c { core s c with running := none, overrun := false }
      tmpls := mput s.disp.tmpls k.tid { tmplRun s k.tid with pending := (tmplRun s k.tid).pending - 1 } } := by
    unfold taskEnd
    dsimp only
    split
    · exact ((instTaskEnd_same k.gid k.t _).keeps .disp rfl).symm
    · rfl
  rw [core, tmplRun, hdisp, mgetD_mput_same, mgetD_mput_same]
  exact ⟨rfl, rfl⟩

theorem taskEnd_dropped (c : Nat) (k : TaskInst) (s : State) : (taskEnd c k s).disp.dropped = s.disp.dropped := by
  unfold taskEnd
  dsimp only
  split
  · exact (congrArg Disp.dropped ((instTaskEnd_same k.gid k.t _).keeps .disp rfl)).symm
  · rfl

theorem taskEnd_told (c : Nat) (k : TaskInst) (s : State) : Told s (taskEnd c k s) := .still (taskEnd_same c k s) rfl rfl

theorem voiceAborted_told (k : TaskInst) (s : State) : Told s (voiceAborted k s) := by
  unfold voiceAborted
  split
  · exact voiceSilent_told ..
  · exact .refl s

/-- The end of a task whose work is settled frees the core. -/
theorem taskEnd_settled {c : Nat} {k : TaskInst} {s t : State} (h : t.disp = (taskEnd c k s).disp) :
    (core (settle t) c).running = none ∧ (tmplRun (settle t) k.tid).pending = (tmplRun s k.tid).pending - 1 := by
  rw [core_settle, tmplRun_settle, core_congr h, tmplRun_congr h]
  exact taskEnd_frees c k s

/-! ### Ready and held releases -/

theorem retryHeld_nil {s : State} (h : s.disp.held = []) : retryHeld s = s := by
  unfold retryHeld
  simp only [h, List.take_nil, List.append_nil, List.drop_nil]
  rw [← h]

theorem readyHeldRetry_readies {k : TaskInst} {s : State} (h : s.disp.held = [k]) (hroom : s.disp.ready.length < Config.maxReady) :
    exec .readyHeldRetry s = .next { s with disp := { s.disp with ready := s.disp.ready ++ [k], held := [] } } := by
  have hfits : [k].length ≤ Config.maxReady - s.disp.ready.length := Nat.sub_pos_of_lt hroom
  change done (retryHeld s) = _
  unfold retryHeld
  dsimp only
  rw [h, List.take_of_length_le hfits, List.drop_eq_nil_of_le hfits]
  rfl

/-! ### Dispatch -/

/-- The chosen task in its core's queue. -/
def dispatched (k : TaskInst) (c : Nat) (s : State) : State :=
  let s := { s with disp := { s.disp with ready := s.disp.ready.filter fun x => x.serial != k.serial } }
  setTmplRun k.tid { tmplRun s k.tid with lastCore := some c } (setCore c { core s c with queue := (core s c).queue ++ [k] } s)

theorem taskDispatch_places {k : TaskInst} {c step : Nat} {s : State} (h : nextDispatch s = some (k, c, step)) (hheld : s.disp.held = [])
    (hlo : 1 ≤ step) (hhi : step ≤ 3) : ∃ u, exec .taskDispatch s = .next u ∧ (core u c).queue = (core s c).queue ++ [k] ∧
      u.disp.ready = s.disp.ready.filter (fun x => x.serial != k.serial) ∧ (tmplRun u k.tid).lastCore = some c ∧
      counter u (57 + step) = satAdd (2 ^ 64 - 1) (counter s (57 + step)) 1 := by
  let t := count (57 + step) (dispatched k c s)
  let v := if k.released + usU 12 < now t then count 61 t else t
  have hexec : exec .taskDispatch s = done (retryHeld (traceDispatch k.tid c step k.t v)) := by
    change execTaskDispatch s = _
    unfold execTaskDispatch
    rw [h]
    rfl
  have hdispV : v.disp = (dispatched k c s).disp := by
    change (if _ then _ else _ : State).disp = _
    split <;> rfl
  have hdisp : (traceDispatch k.tid c step k.t v).disp = (dispatched k c s).disp :=
    ((traceDispatch_same k.tid c step k.t v).keeps .disp rfl).symm.trans hdispV
  have hcntV : counter v (57 + step) = satAdd (2 ^ 64 - 1) (counter s (57 + step)) 1 := by
    have hone : counter t (57 + step) = satAdd (2 ^ 64 - 1) (counter s (57 + step)) 1 := counter_count_same ..
    change counter (if _ then _ else _ : State) _ = _
    split
    · rw [counter_count_other _ (by omega), hone]
    · exact hone
  rw [retryHeld_nil (by rw [hdisp]; exact hheld)] at hexec
  refine ⟨_, hexec, ?_, by rw [hdisp]; rfl, ?_, ?_⟩
  · rw [core_congr hdisp]
    change (mgetD (mput _ c _) c _ : CoreRun).queue = _
    rw [mgetD_mput_same]
    rfl
  · rw [tmplRun_congr hdisp, dispatched, tmplRun_setTmplRun_same]
  · rw [counter_congr ((traceDispatch_same k.tid c step k.t v).keeps .cnt rfl).symm, hcntV]

theorem taskStart_starts {c : Fin 64} {k : TaskInst} {s : State} (hfree : (core s c).running = none)
    (hk : lminBy (sortBy (fun k => k.serial) (core s c).queue) (fun k => k.tmpl.prio) = some k) :
    exec (.taskStart c) s = .next (setCore c { core s c with
      queue := (core s c).queue.filter (fun x => x.serial != k.serial), running := some k, start := now s, overrun := false } s) := by
  change execTaskStart c s = _
  unfold execTaskStart
  dsimp only
  rw [hfree, hk]
  rfl

/-! ### A hold's limit -/

theorem removeTask_held (k : TaskInst) (s : State) : ∀ x ∈ (removeTask k s).disp.held, x.serial ≠ k.serial := fun x hx => by
  have hmem : x ∈ s.disp.held.filter fun x => x.serial != k.serial := hx
  simpa using (List.mem_filter.1 hmem).2

/-- The drop of an ARCHIVE release: it stands among the dropped, and its instance is settled. -/
theorem releaseDropped_archive {k : TaskInst} (h : k.tmpl.type = 4) (s : State) :
    (releaseDropped k s).disp = { s.disp with dropped := s.disp.dropped ++ [k] } ∧ Told s (releaseDropped k s) := by
  have hscheme : ¬k.tmpl.type = 2 := by omega
  unfold releaseDropped
  rw [if_neg hscheme]
  dsimp only
  split
  · refine ⟨((instTaskEnd_same k.gid k.t _).keeps .disp rfl).symm, Told.trans ?_ (.still (instTaskEnd_same k.gid k.t _) rfl rfl)⟩
    exact .of_eq rfl rfl rfl rfl rfl
  · exact ⟨rfl, .of_eq rfl rfl rfl rfl rfl⟩

/-- A hold that has reached its limit, noted once a second. -/
def holdNoted (k : TaskInst) (s : State) : State :=
  let s := count 56 (removeTask k (advanceTo k.holdUntil s))
  if s.disp.dropSec = some (now s / secU) then s
  else noteData 5 nmReadyDrop k.tid k.t { s with disp := { s.disp with dropSec := some (now s / secU) } }

theorem noteData_told (sev : Nat) (name : Bytes) (subject : Nat) (t : Instant) (s : State) : Told s (noteData sev name subject t s) :=
  note_told ..

theorem holdNoted_drops (k : TaskInst) (s : State) : (∀ x ∈ (holdNoted k s).disp.held, x.serial ≠ k.serial) ∧
    Told (count 56 (removeTask k (advanceTo k.holdUntil s))) (holdNoted k s) := by
  have hheld := removeTask_held k (advanceTo k.holdUntil s)
  unfold holdNoted
  dsimp only
  split
  · exact ⟨hheld, .refl _⟩
  · refine ⟨fun x hx => hheld x ?_, Told.trans ?_ (noteData_told ..)⟩
    · rwa [← (noteData_same ..).keeps .disp rfl] at hx
    · exact .of_eq rfl rfl rfl rfl rfl

theorem holdLimitExpiry_drops {k : TaskInst} {s : State} (hk : s.disp.held.find? (fun x => x.serial == k.serial) = some k)
    (htype : k.tmpl.type = 4) : ∃ u, exec (.holdLimitExpiry k.serial) s = .next u ∧ (∀ x ∈ u.disp.held, x.serial ≠ k.serial) ∧
      counter u 56 = satAdd (2 ^ 64 - 1) (counter s 56) 1 ∧ k.holdUntil ≤ now u := by
  have hexec : exec (.holdLimitExpiry k.serial) s = done (settle (releaseDropped k (holdNoted k s))) := by
    change execHoldLimitExpiry k.serial s = _
    unfold execHoldLimitExpiry
    rw [hk]
    rfl
  obtain ⟨hheld, hnoted⟩ := holdNoted_drops k s
  obtain ⟨hdisp, hrelease⟩ := releaseDropped_archive htype (holdNoted k s)
  have htold := hnoted.trans (hrelease.trans (settle_told _))
  refine ⟨_, hexec, fun x hx => hheld x ?_, ?_, ?_⟩
  · rwa [settle_disp, hdisp] at hx
  · rw [htold.cnt 56 (by decide) (by decide), counter_count_same]
    rfl
  · rw [htold.now_eq]
    exact le_now_advanceTo s k.holdUntil

/-! ### Completion -/

/-- A completion whose packets the queues take ends its task, after its work alone where it writes no operand and has no partner. -/
theorem taskComplete_ends {c : Fin 64} {k : TaskInst} {w : TaskWork} {ps : List (Nat × Nat × QPkt)} {op : Option Bytes} {ok : Bool}
    {s v v' : State} (hrun : (core s c).running = some k) (hold : k.old = none) (hwork : taskWork k w s = (v, ps, op, ok))
    (hput : putAll (keyTask k.serial) ps v = some v') : ∃ t, exec (.taskComplete c w) s = .next (settle (taskEnd c k t)) ∧
      (op = none → paired v' = false → t = v') := by
  have hview : viewOld k s = s := by rw [viewOld, hold]
  have hunview : unviewOld k s v = v := by rw [unviewOld, hold]
  have hrenew : ∀ t, detRenew k t = t := fun t => by rw [detRenew, hold]
  have hexec : ∃ t, exec (.taskComplete c w) s = done (settle (detRenew k (taskEnd c k t))) ∧
      (op = none → ∃ out, t = digestTask k out v') := by
    change ∃ t, execTaskComplete c w s = _ ∧ _
    unfold execTaskComplete
    rw [hrun]
    simp only [hview, hwork, hunview, hput]
    refine ⟨_, rfl, fun hop => ?_⟩
    subst hop
    exact ⟨_, rfl⟩
  obtain ⟨t, hexec, hplain⟩ := hexec
  rw [hrenew] at hexec
  refine ⟨t, hexec, fun hop hpair => ?_⟩
  obtain ⟨out, rfl⟩ := hplain hop
  exact if_pos (.inr (by rw [hpair]; rfl))

theorem archiveWork_disarmed {cap : Nat} {r : CapRun} {s : State} (hr : capRun s cap = some r) (harmed : r.armed = false) (k : TaskInst) :
    archiveWork cap k s = s := by
  unfold archiveWork
  split
  · rename_i q g i hq _ _
    obtain rfl : q = r := Option.some.inj (hq.symm.trans hr)
    exact if_neg fun h => by simp [harmed] at h
  · rfl

theorem taskWork_disarmed {k : TaskInst} {r : CapRun} {s : State} (w : TaskWork) (htype : k.tmpl.type = 4) (hold : k.old = none)
    (hr : capRun s k.tmpl.object = some r) (harmed : r.armed = false) : taskWork k w s = (s, [], none, false) := by
  unfold taskWork
  simp only [htype]
  rw [if_neg (by simp [hold]), archiveWork_disarmed hr harmed]

/-! ### Overruns, aborts and faults -/

theorem core_of_cores {s t : State} (h : t.disp.cores = s.disp.cores) (c : Nat) : core t c = core s c := by rw [core, core, h]

/-- A release that leaves leaves what the cores run. -/
theorem core_removeTask (k : TaskInst) (c : Nat) (s : State) : (core (removeTask k s) c).running = (core s c).running ∧
    (core (removeTask k s) c).overrun = (core s c).overrun := by
  simp only [core, mgetD, removeTask, mget_mmap, setTmplRun]
  cases mget s.disp.cores c <;> exact ⟨rfl, rfl⟩

theorem cores_skipCycle (n : Nat) (t : Instant) (cause : Nat) (s : State) : (skipCycle n t cause s).disp.cores = s.disp.cores := by
  unfold skipCycle
  dsimp only
  split
  · rfl
  · exact (congrArg Disp.cores ((noteI_same ..).keeps .disp rfl)).symm

/-- Skipping a scheme's next cycle leaves what the cores run. -/
theorem core_schemeSkipNext (n c : Nat) (s : State) : (core (schemeSkipNext n s) c).running = (core s c).running ∧
    (core (schemeSkipNext n s) c).overrun = (core s c).overrun := by
  unfold schemeSkipNext
  split
  · rename_i k _
    have hcores := congrArg Disp.cores ((instTaskEnd_same k.gid k.t (removeTask k (skipCycle n k.t 1 s))).keeps .disp rfl)
    have heq : core (retryHeld (instTaskEnd k.gid k.t (removeTask k (skipCycle n k.t 1 s)))) c =
        core (removeTask k (skipCycle n k.t 1 s)) c := core_of_cores hcores.symm c
    rw [heq, ← core_of_cores (cores_skipCycle n k.t 1 s) c]
    exact core_removeTask k c _
  · exact ⟨rfl, rfl⟩

theorem skipCycle_told (n : Nat) (t : Instant) (cause : Nat) (s : State) : Told s (skipCycle n t cause s) := by
  unfold skipCycle
  refine Told.ite (fun _ => count_told (by decide) s) (fun _ => (count_told (n := 97) (by decide) s).trans (Told.trans ?_ (noteI_told ..)))
  exact .of_eq rfl rfl rfl rfl rfl

theorem schemeSkipNext_told (n : Nat) (s : State) : Told s (schemeSkipNext n s) := by
  unfold schemeSkipNext
  split
  · refine Told.trans ?_ (.still (retryHeld_same _) rfl rfl)
    refine Told.trans ?_ (.still (instTaskEnd_same ..) rfl rfl)
    exact (skipCycle_told ..).trans (.still (removeTask_same ..) rfl rfl)
  · exact .of_eq rfl rfl rfl rfl rfl

/-- A write of GLB's registers that raises and clears no interrupt. -/
theorem glb_told {g : Glb} (s : State) (h : g.irqStatus = s.glb.irqStatus) : Told s { s with glb := g } :=
  ⟨fun _ hb => h ▸ hb, fun _ he => he, rfl, rfl, fun _ _ _ => rfl⟩

theorem tracePut_told (keep : Nat) (m : Bytes) (s : State) : Told s (tracePut keep m s) := by
  unfold tracePut
  refine Told.ite (fun _ => .refl s) (fun _ => Told.ite (fun _ => ?_) (fun _ => ?_))
  · refine Told.trans ?_ (emit_told _ _)
    exact glb_told s rfl
  · exact glb_told s rfl

theorem traceMsg_told (ty : Nat) (payload : Bytes) (s : State) : Told s (traceMsg ty payload s) := by
  unfold traceMsg
  exact Told.ite (fun _ => tracePut_told ..) (fun _ => .refl s)

theorem traceOverrun_told (tid c kind : Nat) (t : Instant) (s : State) : Told s (traceOverrun tid c kind t s) := by
  unfold traceOverrun
  exact Told.ite (fun _ => traceMsg_told ..) (fun _ => .refl s)

theorem wcetBudgetReached_overruns {c : Fin 64} {k : TaskInst} {s : State} (hrun : (core s c).running = some k)
    (hover : (core s c).overrun = false) : ∃ u, exec (.wcetBudgetReached c) s = .next u ∧ (core u c).overrun = true ∧
      (core u c).running = some k ∧ counter u 62 = satAdd (2 ^ 64 - 1) (counter s 62) 1 ∧ u.glb.irqStatus.getLsbD 8 = true ∧
      (core s c).start + nsU k.tmpl.wcet ≤ now u := by
  let t := setCore c { core s c with running := some k, overrun := true } (advanceTo ((core s c).start + nsU k.tmpl.wcet) s)
  have hexec : ∃ v, exec (.wcetBudgetReached c) s = .next (traceOverrun k.tid c 1 k.t (setIrq 8 (count 62 v))) ∧
      (v = t ∨ v = schemeSkipNext k.tmpl.object t) := by
    change ∃ v, execWcetBudgetReached c s = _ ∧ _
    unfold execWcetBudgetReached
    dsimp only
    rw [hrun]
    dsimp only
    rw [if_neg (by simp [hover])]
    by_cases htype : k.tmpl.type = 2
    · exact ⟨_, by rw [if_pos htype]; rfl, .inr rfl⟩
    · exact ⟨_, by rw [if_neg htype]; rfl, .inl rfl⟩
  obtain ⟨v, hexec, hv⟩ := hexec
  have hbase : Told t v ∧ (core v c).running = some k ∧ (core v c).overrun = true := by
    have hcore : core t c = { core s c with running := some k, overrun := true } := core_setCore_same ..
    rcases hv with rfl | rfl
    · exact ⟨.refl _, by rw [hcore], by rw [hcore]⟩
    · obtain ⟨hr, ho⟩ := core_schemeSkipNext k.tmpl.object c t
      exact ⟨schemeSkipNext_told .., by rw [hr, hcore], by rw [ho, hcore]⟩
  obtain ⟨htold, hr, ho⟩ := hbase
  have hafter : Told (count 62 v) (traceOverrun k.tid c 1 k.t (setIrq 8 (count 62 v))) := (setIrq_told 8 _).trans (traceOverrun_told ..)
  have hcore : core (traceOverrun k.tid c 1 k.t (setIrq 8 (count 62 v))) c = core v c :=
    core_congr (((setIrq_same 8 (count 62 v)).keeps .disp rfl).trans ((traceOverrun_same k.tid c 1 k.t _).keeps .disp rfl)).symm c
  refine ⟨_, hexec, by rw [hcore, ho], by rw [hcore, hr], ?_, ?_, ?_⟩
  · rw [hafter.cnt 62 (by decide) (by decide), counter_count_same, htold.cnt 62 (by decide) (by decide)]
    exact congrArg (satAdd _ · 1) (counter_advanceTo ((core s c).start + nsU k.tmpl.wcet) s 62)
  · exact (traceOverrun_told ..).irq 8 (setIrq_raised (by decide) _)
  · rw [hafter.now_eq]
    exact htold.now_eq ▸ le_now_advanceTo s ((core s c).start + nsU k.tmpl.wcet)

/-- An abort, noted once a second and traced. -/
def abortNoted (c : Nat) (k : TaskInst) (s : State) : State :=
  let s := count 63 (advanceTo ((core s c).start + nsU (8 * k.tmpl.wcet)) s)
  let t := tmplRun s k.tid
  let s := if t.abortSec = some (now s / secU) then s
    else noteData 6 nmTaskAborted k.tid k.t (setTmplRun k.tid { t with abortSec := some (now s / secU) } s)
  traceOverrun k.tid c 2 k.t s

theorem abortNoted_told (c : Nat) (k : TaskInst) (s : State) :
    Told (count 63 (advanceTo ((core s c).start + nsU (8 * k.tmpl.wcet)) s)) (abortNoted c k s) := by
  unfold abortNoted
  refine Told.trans (Told.ite (fun _ => .refl _) (fun _ => Told.trans ?_ (noteData_told ..))) (traceOverrun_told ..)
  exact .of_eq rfl rfl rfl rfl rfl

theorem taskAbort_frees {c : Fin 64} {k : TaskInst} {s : State} (hrun : (core s c).running = some k) :
    ∃ u, exec (.taskAbort c) s = .next u ∧ (core u c).running = none ∧ counter u 63 = satAdd (2 ^ 64 - 1) (counter s 63) 1 ∧
      (core s c).start + nsU (8 * k.tmpl.wcet) ≤ now u := by
  let v := taskEnd c k (abortNoted c k s)
  have hexec : exec (.taskAbort c) s = .next (settle (if k.tmpl.type = 6 then voiceAborted k v else lostWork k v)) := by
    change execTaskAbort c s = _
    unfold execTaskAbort
    dsimp only
    rw [hrun]
    rfl
  have hlost : (if k.tmpl.type = 6 then voiceAborted k v else lostWork k v).disp = v.disp ∧
      Told v (if k.tmpl.type = 6 then voiceAborted k v else lostWork k v) := by
    split
    · exact ⟨((voiceAborted_same k v).keeps .disp rfl).symm, voiceAborted_told k v⟩
    · exact ⟨lostWork_disp k v, lostWork_told k v⟩
  obtain ⟨hdisp, hlost⟩ := hlost
  have htold := (abortNoted_told c k s).trans ((taskEnd_told c k _).trans (hlost.trans (settle_told _)))
  refine ⟨_, hexec, (taskEnd_settled hdisp).1, ?_, ?_⟩
  · rw [htold.cnt 63 (by decide) (by decide), counter_count_same, counter_advanceTo]
  · rw [htold.now_eq]
    exact le_now_advanceTo s ((core s c).start + nsU (8 * k.tmpl.wcet))

/-- A scheme's fault, noted once a second. -/
def faultNoted (k : TaskInst) (s : State) : State :=
  if (schRun s k.tmpl.object).faultSec = some (now s / secU) then count 98 s
  else noteData 6 nmSchemeFault k.tid k.t
    (setSch k.tmpl.object { schRun s k.tmpl.object with faultSec := some (now s / secU) } (count 98 s))

theorem faultNoted_frame (k : TaskInst) (s : State) : (faultNoted k s).cnt = (count 98 s).cnt ∧ (faultNoted k s).disp = s.disp := by
  unfold faultNoted
  split
  · exact ⟨rfl, rfl⟩
  · exact ⟨((noteData_same ..).keeps .cnt rfl).symm, ((noteData_same ..).keeps .disp rfl).symm⟩

theorem schemeRuntimeFault_frees {c : Fin 64} {k : TaskInst} {s : State} (hrun : (core s c).running = some k)
    (htype : k.tmpl.type = 2) (hdrop : s.disp.dropped = []) : ∃ u, exec (.schemeRuntimeFault c) s = .next u ∧
      (core u c).running = none ∧ counter u 98 = satAdd (2 ^ 64 - 1) (counter s 98) 1 := by
  have hexec : exec (.schemeRuntimeFault c) s = .next (settle (taskEnd c k (faultNoted k s))) := by
    change execSchemeRuntimeFault c s = _
    unfold execSchemeRuntimeFault
    rw [hrun]
    dsimp only
    rw [if_neg (by simp [htype])]
    rfl
  obtain ⟨hcnt, hdisp⟩ := faultNoted_frame k s
  refine ⟨_, hexec, (taskEnd_settled rfl).1, ?_⟩
  have hkept : (settle (taskEnd c k (faultNoted k s))).cnt = (count 98 s).cnt :=
    (settle_cnt (by rw [taskEnd_dropped, hdisp, hdrop])).trans (((taskEnd_same c k _).keeps .cnt rfl).symm.trans hcnt)
  rw [counter_congr hkept, counter_count_same]

/-- Settles O57. -/
theorem taskRowsComplete : Obligations.TaskRowsComplete := by
  unfold Obligations.TaskRowsComplete
  refine ⟨fun k s _ => ⟨readyHeldRetry_readies, ?_, fun c => taskStart_starts, holdLimitExpiry_drops⟩, fun c k s hrun hdrop =>
    ⟨?_, ?_, wcetBudgetReached_overruns hrun, taskAbort_frees hrun, fun htype => schemeRuntimeFault_frees hrun htype hdrop⟩⟩
  case refine_1 => exact fun c step h hlo hhi hheld => taskDispatch_places h hheld hlo hhi
  case refine_2 =>
    intro r w htype hold hr harmed hpair
    obtain ⟨t, hexec, ht⟩ := taskComplete_ends hrun hold (taskWork_disarmed w htype hold hr harmed) rfl
    obtain rfl := ht rfl hpair
    exact ⟨_, hexec, taskEnd_settled rfl⟩
  case refine_3 =>
    intro w v ps op ok hold hwork hput
    obtain ⟨v', hv'⟩ := Option.isSome_iff_exists.1 hput
    obtain ⟨t, hexec, -⟩ := taskComplete_ends hrun hold hwork hv'
    exact ⟨_, hexec, (taskEnd_settled rfl).1⟩

end Sys2Proof.Machine
end

section
/-! The deadline of an instance and the phase-anchored requests (06 R131-R147; 03 R68-R72). -/

namespace Sys2Proof.Machine

/-! ### The instances that an instance's end leaves -/

theorem find?_filter_of_imp {α : Type} {p q : α → Bool} (h : ∀ a, q a = true → p a = true) (l : List α) :
    (l.filter p).find? q = l.find? q := by
  induction l with
  | nil => rfl
  | cons a l ih =>
    cases hq : q a with
    | true => rw [List.filter_cons_of_pos (h a hq), List.find?_cons_of_pos hq, List.find?_cons_of_pos hq]
    | false =>
      rw [List.find?_cons_of_neg (by simp [hq]), ← ih]
      cases hp : p a with
      | true => rw [List.filter_cons_of_pos hp, List.find?_cons_of_neg (by simp [hq])]
      | false => rw [List.filter_cons_of_neg (by simp [hp])]

theorem find?_map_of_fixed {α : Type} {q : α → Bool} {f : α → α} (hf : ∀ a, f a = a ∨ q a = false ∧ q (f a) = false) (l : List α) :
    (l.map f).find? q = l.find? q := by
  induction l with
  | nil => rfl
  | cons a l ih =>
    rcases hf a with ha | ⟨ha, hfa⟩
    · rw [List.map_cons, ha, List.find?_cons, List.find?_cons, ih]
    · rw [List.map_cons, List.find?_cons_of_neg (by simp [hfa]), List.find?_cons_of_neg (by simp [ha]), ih]

theorem findInst_fbSweep (gid : Nat) (t : Instant) (s : State) : findInst (fbSweep s) gid t = findInst s gid t := rfl

/-- The end of one instance leaves the others of every group at another instant. -/
theorem findInst_instSettle {i : GroupInst} {t : Instant} (h : t ≠ i.t) (gid : Nat) (s : State) :
    findInst (instSettle i s) gid t = findInst s gid t := by
  have hother : ∀ a : GroupInst, a.t = i.t → (a.gid == gid && a.t == t) = false := fun a ha => by simp [ha, Ne.symm h]
  unfold instSettle
  split
  · rw [findInst_fbSweep]
    refine find?_filter_of_imp (fun a ha => ?_) _
    obtain ⟨-, hat⟩ := Bool.and_eq_true_iff.1 ha
    rw [beq_iff_eq.1 hat]
    simp [h]
  · unfold findInst setInst
    dsimp only
    split
    · refine find?_map_of_fixed (fun a => ?_) _
      split
      · rename_i ha
        exact .inr ⟨hother a ha.2, hother i rfl⟩
      · exact .inl rfl
    · rw [List.find?_append, List.find?_cons_of_neg (by simp [hother i rfl]), List.find?_nil, Option.or_none]

/-! ### What a release leaves -/

/-- What the release of an instance's tasks leaves: counters but those of held, skipped and backlogged releases, the firings and due
evaluations, and the instances at other instants. -/
structure Fires (t : Instant) (s u : State) : Prop where
  cnt : ∀ n, n ≠ 55 → n ≠ 57 → n ≠ 97 → counter u n = counter s n
  fired : u.mst.lastFired = s.mst.lastFired
  due : u.mst.evalDue = s.mst.evalDue
  insts : ∀ gid x, x ≠ t → findInst u gid x = findInst s gid x

theorem Fires.refl (t : Instant) (s : State) : Fires t s s := ⟨fun _ _ _ _ => rfl, rfl, rfl, fun _ _ _ => rfl⟩

theorem Fires.trans {t : Instant} {s u v : State} (h : Fires t s u) (k : Fires t u v) : Fires t s v :=
  ⟨fun n ha hb hc => (k.cnt n ha hb hc).trans (h.cnt n ha hb hc), k.fired.trans h.fired, k.due.trans h.due,
    fun gid x hx => (k.insts gid x hx).trans (h.insts gid x hx)⟩

/-- A frame without matching and the counters. -/
theorem Fires.still {m : Nat} {t : Instant} {s u : State} (h : Same m s u) (hm : m.testBit 12 = false) (hn : m.testBit 32 = false) :
    Fires t s u :=
  have hmst := h.keeps .mst hm
  ⟨fun n _ _ _ => counter_congr (h.keeps .cnt hn).symm n, congrArg Match.lastFired hmst.symm, congrArg Match.evalDue hmst.symm,
    fun gid x _ => by rw [findInst, findInst, show s.mst = u.mst from hmst]⟩

theorem Fires.ite {t : Instant} {c : Prop} [Decidable c] {s a b : State} (ha : c → Fires t s a) (hb : ¬c → Fires t s b) :
    Fires t s (if c then a else b) := by
  split
  · exact ha ‹_›
  · exact hb ‹_›

theorem Fires.foldl {α : Type} {t : Instant} {f : State → α → State} (h : ∀ s a, Fires t s (f s a)) (l : List α) (s : State) :
    Fires t s (l.foldl f s) := by
  induction l generalizing s with
  | nil => exact .refl t s
  | cons a l ih => exact (h s a).trans (ih _)

theorem count_fires {n : Nat} (h : n = 55 ∨ n = 57 ∨ n = 97) (t : Instant) (s : State) : Fires t s (count n s) :=
  ⟨fun m ha hb hc => counter_count_other _ (by omega), rfl, rfl, fun _ _ _ => rfl⟩

theorem instSettle_fires (i : GroupInst) (s : State) : Fires i.t s (instSettle i s) := by
  have hmst : (instSettle i s).mst.lastFired = s.mst.lastFired ∧ (instSettle i s).mst.evalDue = s.mst.evalDue := by
    unfold instSettle
    split <;> exact ⟨rfl, rfl⟩
  exact ⟨fun n _ _ _ => counter_congr ((instSettle_same i s).keeps .cnt rfl).symm n, hmst.1, hmst.2,
    fun gid x hx => findInst_instSettle hx gid s⟩

theorem findInst_some {s : State} {gid : Nat} {t : Instant} {i : GroupInst} (h : findInst s gid t = some i) : i.gid = gid ∧ i.t = t := by
  have hi := List.find?_some h
  simpa using hi

theorem instTaskEnd_fires (gid : Nat) (t : Instant) (s : State) : Fires t s (instTaskEnd gid t s) := by
  unfold instTaskEnd
  split
  · rename_i i hi
    obtain ⟨-, rfl⟩ := findInst_some hi
    exact instSettle_fires { i with tasks := i.tasks - 1 } s
  · exact .refl t s

theorem skipCycle_fires (n : Nat) (x : Instant) (cause : Nat) (t : Instant) (s : State) : Fires t s (skipCycle n x cause s) := by
  unfold skipCycle
  refine Fires.ite (fun _ => count_fires (by decide) t s) (fun _ => (count_fires (n := 97) (by decide) t s).trans ?_)
  exact Fires.trans (u := { count 97 s with disp := { s.disp with skipSec := some (now s / secU) } })
    ⟨fun _ _ _ _ => rfl, rfl, rfl, fun _ _ _ => rfl⟩ (.still (noteI_same ..) rfl rfl)

/-- What a release leaves of dispatch: nothing is dropped, what waits still waits, and the other templates are as they were. -/
structure Queues (tid : Nat) (s u : State) : Prop where
  dropped : u.disp.dropped = s.disp.dropped
  stays : ∀ k ∈ s.disp.ready ++ s.disp.held, k ∈ u.disp.ready ++ u.disp.held
  others : ∀ n, n ≠ tid → tmplRun u n = tmplRun s n

/-- The task that a release of template tm makes. -/
def IsRelease (tid : Nat) (tm : Template) (gid : Nat) (t : Instant) (k : TaskInst) : Prop :=
  k.tid = tid ∧ k.tmpl = tm ∧ k.gid = gid ∧ k.t = t

theorem skipCycle_disp (n : Nat) (x : Instant) (cause : Nat) (s : State) :
    ∃ sec, (skipCycle n x cause s).disp = { s.disp with skipSec := sec } := by
  unfold skipCycle
  dsimp only
  split
  · exact ⟨s.disp.skipSec, rfl⟩
  · exact ⟨some (now (count 97 s) / secU), ((noteI_same ..).keeps .disp rfl).symm⟩

/-- The skip of a scheme's next cycle, at its release. -/
def skipRelease (tm : Template) (t : Instant) (gid : Nat) (s : State) : State :=
  let s := skipCycle tm.object t 1 { s with
    disp := { s.disp with serial := s.disp.serial + 1 }, schs := mmod s.schs tm.object fun r => { r with skipNext := false } }
  if gid < 0x400 then instTaskEnd gid t s else s

theorem skipRelease_fires (tm : Template) (t : Instant) (gid : Nat) (s : State) : Fires t s (skipRelease tm t gid s) := by
  refine Fires.trans ?_ (Fires.ite (fun _ => instTaskEnd_fires gid t _) (fun _ => .refl t _))
  refine Fires.trans ?_ (skipCycle_fires tm.object t 1 t _)
  exact ⟨fun _ _ _ _ => rfl, rfl, rfl, fun _ _ _ => rfl⟩

theorem skipRelease_queues (tid : Nat) (tm : Template) (t : Instant) (gid : Nat) (s : State) :
    Queues tid s (skipRelease tm t gid s) := by
  have hdisp : ∃ sec, (skipRelease tm t gid s).disp = { s.disp with serial := s.disp.serial + 1, skipSec := sec } := by
    obtain ⟨sec, hsec⟩ := skipCycle_disp tm.object t 1 { s with
      disp := { s.disp with serial := s.disp.serial + 1 }, schs := mmod s.schs tm.object fun r => { r with skipNext := false } }
    refine ⟨sec, ?_⟩
    unfold skipRelease
    dsimp only
    split
    · exact ((instTaskEnd_same gid t _).keeps .disp rfl).symm.trans hsec
    · exact hsec
  obtain ⟨sec, hsec⟩ := hdisp
  exact ⟨by rw [hsec], fun k hk => by rwa [hsec], fun n _ => by rw [tmplRun, hsec, tmplRun]⟩

/-- The task instance of a release. -/
def released (tid : Nat) (tm : Template) (t : Instant) (gid : Nat) (limit : Instant) (s : State) : TaskInst :=
  { tid := tid, tmpl := tm, t := t, gid := gid, released := now s, holdUntil := limit, serial := s.disp.serial }

/-- A release with room in its template's backlog. -/
theorem releaseTask_room {tid : Nat} (tm : Template) (t : Instant) (gid : Nat) (limit : Instant) {s : State}
    (h : (tmplRun s tid).pending < 4) : Fires t s (releaseTask tid tm t gid limit s) ∧ Queues tid s (releaseTask tid tm t gid limit s) ∧
      (skipsNow s tm = false → ∃ k ∈ (releaseTask tid tm t gid limit s).disp.ready ++ (releaseTask tid tm t gid limit s).disp.held,
        IsRelease tid tm gid t k) := by
  have htmpl : ∀ (d : Disp) n, n ≠ tid → d.tmpls = mput s.disp.tmpls tid { tmplRun s tid with pending := (tmplRun s tid).pending + 1 } →
      mgetD d.tmpls n {} = tmplRun s n := fun d n hn hd => by rw [hd, mgetD_mput_other _ _ _ hn]; rfl
  have hroom : ¬4 ≤ (tmplRun s tid).pending := by omega
  unfold releaseTask
  dsimp only
  split
  next hskip =>
    exact ⟨skipRelease_fires tm t gid s, skipRelease_queues tid tm t gid s, 
      fun hno => absurd (hno.symm.trans hskip) Bool.false_ne_true⟩
  next =>
    split
    next =>
      refine ⟨Fires.trans ?_ (count_fires (by decide) t _), ⟨rfl, fun k hk => ?_, fun n hn => htmpl _ n hn rfl⟩,
        fun _ => ⟨released tid tm t gid limit s, ?_, rfl, rfl, rfl, rfl⟩⟩
      · exact ⟨fun _ _ _ _ => rfl, rfl, rfl, fun _ _ _ => rfl⟩
      · change k ∈ s.disp.ready ++ (s.disp.held ++ [released tid tm t gid limit s])
        rw [← List.append_assoc]
        exact List.mem_append_left _ hk
      · exact List.mem_append_right _ (List.mem_append_right _ (List.mem_singleton_self _))
    next =>
      refine ⟨⟨fun _ _ _ _ => rfl, rfl, rfl, fun _ _ _ => rfl⟩, ⟨rfl, fun k hk => ?_, fun n hn => htmpl _ n hn rfl⟩,
        fun _ => ⟨released tid tm t gid limit s, ?_, rfl, rfl, rfl, rfl⟩⟩
      · rcases List.mem_append.1 hk with hk | hk
        · exact List.mem_append_left _ (List.mem_append_left _ hk)
        · exact List.mem_append_right _ hk
      · exact List.mem_append_left _ (List.mem_append_right _ (List.mem_singleton_self _))

theorem takeOpened_fires (tm : Template) (x t : Instant) (s : State) : Fires t s (takeOpened tm x s) := .still (takeOpened_same ..) rfl rfl

/-- The releases of a firing. -/
def releaseAll (gid : Nat) (g : GroupDef) (t : Instant) (l : List (Nat × Template)) (s : State) : State :=
  l.foldl (fun s e => releaseTask e.1 e.2 t gid (groupLimit (fnom s) g t) (takeOpened e.2 t s)) s

/-- Each template of a list, with room for one more release, has its task, unless it is a scheme's. -/
theorem releaseAll_queues (gid : Nat) (g : GroupDef) (t : Instant) {l : List (Nat × Template)} {s : State} (hnodup : (l.map (·.1)).Nodup)
    (hroom : ∀ e ∈ l, (tmplRun s e.1).pending < 4) : Fires t s (releaseAll gid g t l s) ∧
      (releaseAll gid g t l s).disp.dropped = s.disp.dropped ∧
      (∀ k ∈ s.disp.ready ++ s.disp.held, k ∈ (releaseAll gid g t l s).disp.ready ++ (releaseAll gid g t l s).disp.held) ∧
      ∀ e ∈ l, e.2.type ≠ 2 → ∃ k ∈ (releaseAll gid g t l s).disp.ready ++ (releaseAll gid g t l s).disp.held,
        IsRelease e.1 e.2 gid t k := by
  induction l generalizing s with
  | nil => exact ⟨.refl t s, rfl, fun _ h => h, fun _ he => absurd he List.not_mem_nil⟩
  | cons a l ih =>
    obtain ⟨hfresh, hnodup⟩ := List.nodup_cons.1 hnodup
    have hopen : (takeOpened a.2 t s).disp = s.disp := ((takeOpened_same a.2 t s).keeps .disp rfl).symm
    have hroomA : (tmplRun (takeOpened a.2 t s) a.1).pending < 4 := by
      rw [tmplRun_congr hopen]
      exact hroom a List.mem_cons_self
    obtain ⟨hfires, ⟨hdropped, hstays, hothers⟩, hmade⟩ :=
      releaseTask_room a.2 t gid (groupLimit (fnom s) g t) hroomA
    generalize hu : releaseTask a.1 a.2 t gid (groupLimit (fnom s) g t) (takeOpened a.2 t s) = u at hfires hdropped hstays hothers hmade
    rw [hopen] at hdropped hstays
    have hstep : releaseAll gid g t (a :: l) s = releaseAll gid g t l u := by rw [← hu]; rfl
    obtain ⟨hf, hd, hs, hm⟩ := ih hnodup fun e he => by
      have hne : e.1 ≠ a.1 := fun h => hfresh (List.mem_map.2 ⟨e, he, h⟩)
      rw [hothers e.1 hne, tmplRun_congr hopen]
      exact hroom e (List.mem_cons_of_mem a he)
    rw [hstep]
    refine ⟨(takeOpened_fires a.2 t t s).trans (hfires.trans hf), hd.trans hdropped, fun k hk => hs k (hstays k hk), fun e he htype => ?_⟩
    rcases List.mem_cons.1 he with rfl | he
    · obtain ⟨k, hk, hrel⟩ := hmade (by simp [skipsNow, htype])
      exact ⟨k, hs k hk, hrel⟩
    · exact hm e he htype

/-! ### The firing of an instance -/

theorem holdUpdate_mst (gid : Nat) (view : List ChanView) (s : State) : ∃ h, (holdUpdate gid view s).mst = { s.mst with hold := h } := by
  unfold holdUpdate
  induction view generalizing s with
  | nil => exact ⟨s.mst.hold, rfl⟩
  | cons v view ih =>
    rw [List.foldl_cons]
    split
    · exact ih (setHeld gid v.cid v.val s)
    · exact ih s

/-- The state in which the firing of an instance is counted and noted as the newest of its group. -/
theorem fireInst_releases (gid : Nat) (g : GroupDef) (t : Instant) {kind : Nat} (s : State) (hkind : kind = 3 ∨ kind = 4) : ∃ i u, i.t = t ∧
    fireInst gid g t kind s = unreference gid t (releaseAll gid g t (firedTemplates s gid t) (instSettle i u)) ∧
    counter u (46 + kind) = satAdd (2 ^ 64 - 1) (counter s (46 + kind)) 1 ∧ mget u.mst.lastFired gid = some t ∧
    u.mst.evalDue = s.mst.evalDue ∧ (∀ n x, findInst u n x = findInst s n x) ∧ u.disp = s.disp := by
  generalize hi : (findInst s gid t).getD { gid := gid, t := t, state := .open_ } = i
  have hit : i.t = t := by
    cases h : findInst s gid t with
    | none => rw [h] at hi; exact hi ▸ rfl
    | some j => rw [h] at hi; exact hi ▸ (findInst_some h).2
  let ops := s.mst.cells.filter fun c => c.inst == t && i.present.contains c.key && !c.staging
  let parts := (groupChans (activeBank s) g).map fun e => presentChan s gid ops e.1 e.2
  let counted := countBy 52 (parts.filter (·.2)).length (count (46 + kind) s)
  let v := traceMatch gid kind ((groupKeys g).length - i.present.length) t (holdUpdate gid (parts.map (·.1)) counted)
  obtain ⟨h, hhold⟩ := holdUpdate_mst gid (parts.map (·.1)) counted
  have hmst : v.mst = { s.mst with hold := h } := ((traceMatch_same ..).keeps .mst rfl).symm.trans hhold
  have hcnt : v.cnt = counted.cnt := ((traceMatch_same ..).keeps .cnt rfl).symm.trans ((holdUpdate_same ..).keeps .cnt rfl).symm
  have hdisp : v.disp = s.disp := ((traceMatch_same ..).keeps .disp rfl).symm.trans ((holdUpdate_same ..).keeps .disp rfl).symm
  refine ⟨{ i with state := .fired, kind := kind, view := parts.map (·.1), ops := ops, tasks := (firedTemplates s gid t).length
                   cycles := cyclesToCome { v with mst := { v.mst with lastFired := mput v.mst.lastFired gid t } } gid t },
    { v with mst := { v.mst with lastFired := mput v.mst.lastFired gid t } }, hit, ?_, ?_, mget_mput_same _ _ _, ?_, fun n x => ?_, hdisp⟩
  · unfold fireInst
    rw [hi]
    rfl
  · refine (counter_congr (t := v) (s := counted) hcnt (46 + kind)).trans ?_
    rw [counter_countBy_other _ _ (by omega), counter_count_same]
  · exact (congrArg Match.evalDue hmst : v.mst.evalDue = _)
  · change List.find? _ v.mst.insts = _
    rw [hmst]
    rfl

theorem unreference_fires (gid : Nat) (t x : Instant) (s : State) : Fires x s (unreference gid t s) :=
  ⟨fun _ _ _ _ => rfl, rfl, rfl, fun _ _ _ => rfl⟩

/-- The next instance fires with this one only where it waits complete and has not fired. -/
theorem fireWaiting_alone {gid : Nat} {g : GroupDef} {t : Instant} {s : State} (n : Nat)
    (h : findInst s gid (gridAt g.rate (gridFloor g.rate t + 1)) = none ∨
      hasFired s gid (gridAt g.rate (gridFloor g.rate t + 1)) = true) : fireWaiting n gid g t s = s := by
  cases n with
  | zero => rfl
  | succ n =>
    rw [fireWaiting]
    split
    · rename_i i hi
      rcases h with h | h
      · rw [h] at hi
        cases hi
      · exact if_neg (by simp [h])
    · rfl

/-- An instance that fires at its deadline, alone: the next one does not wait for it. -/
theorem fire_deadline {gid : Nat} {g : GroupDef} {t : Instant} {kind : Nat} {s : State} (hkind : kind = 3 ∨ kind = 4)
    (hnext : findInst s gid (gridAt g.rate (gridFloor g.rate t + 1)) = none) (hnodup : ((activeBank s).templates.map (·.1)).Nodup)
    (hroom : ∀ e ∈ (activeBank s).templates, (tmplRun s e.1).pending < 4) :
    counter (fire gid g t kind s) (46 + kind) = satAdd (2 ^ 64 - 1) (counter s (46 + kind)) 1 ∧
    mget (fire gid g t kind s).mst.lastFired gid = some t ∧ (fire gid g t kind s).mst.evalDue = s.mst.evalDue ∧
    (fire gid g t kind s).disp.dropped = s.disp.dropped ∧
    ∀ e ∈ (activeBank s).templates, e.2.gid = gid → e.2.type = 1 ∨ e.2.type = 3 ∨ e.2.type = 4 →
      ∃ k ∈ (fire gid g t kind s).disp.ready ++ (fire gid g t kind s).disp.held, IsRelease e.1 e.2 gid t k := by
  obtain ⟨i, u, hit, hfire, hcnt, hlast, hdue, hinsts, hdisp⟩ := fireInst_releases gid g t s hkind
  subst hit
  have hsub : (firedTemplates s gid i.t).Sublist (activeBank s).templates := List.filter_sublist
  have hsettle : (instSettle i u).disp = s.disp := ((instSettle_same i u).keeps .disp rfl).symm.trans hdisp
  obtain ⟨hfires, hdropped, -, hmade⟩ := releaseAll_queues gid g i.t (l := firedTemplates s gid i.t) (s := instSettle i u)
    (hnodup.sublist (hsub.map _)) fun e he => by rw [tmplRun_congr hsettle]; exact hroom e (hsub.subset he)
  have hall := (instSettle_fires i u).trans (hfires.trans (unreference_fires gid i.t i.t _))
  rw [← hfire] at hall
  have hlone : fire gid g i.t kind s = fireInst gid g i.t kind s := by
    refine fireWaiting_alone _ ?_
    by_cases hx : gridAt g.rate (gridFloor g.rate i.t + 1) = i.t
    · refine .inr ?_
      rw [hasFired, hall.fired, hlast, hx]
      exact decide_eq_true (Nat.le_refl i.t)
    · exact .inl (by rw [hall.insts gid _ hx, hinsts, hnext])
  rw [hlone]
  have hunref : (fireInst gid g i.t kind s).disp = (releaseAll gid g i.t (firedTemplates s gid i.t) (instSettle i u)).disp := by
    rw [hfire]
    rfl
  refine ⟨?_, by rw [hall.fired, hlast], by rw [hall.due, hdue], by rw [hunref, hdropped, hsettle], fun e he hgid htype => ?_⟩
  · rw [hall.cnt _ (by omega) (by omega) (by omega), hcnt]
  · rw [hunref]
    refine hmade e (List.mem_filter.2 ⟨he, ?_⟩) (by omega)
    rcases htype with h | h | h <;> simp [hgid, h]

/-! ### The deadline -/

theorem settle_mst {s : State} (h : s.disp.dropped = []) : (settle s).mst = s.mst := by
  unfold settle
  rw [h]
  exact ((Same.foldl (fun s n => exchangeDue_same n s) (Same.refl _)).keeps .mst rfl).symm

theorem histAdd_told (sid : Nat) (t : Instant) (m : StMark) (s : State) : Told s (histAdd sid t m s) := .still (histAdd_same ..) rfl rfl

theorem streamDrop_told (sid : Nat) (s : State) : Told s (streamDrop sid s) := by
  unfold streamDrop noteIngest
  refine Told.trans ?_ (note_told ..)
  refine Told.trans ?_ (count_told (by decide) _)
  exact .of_eq rfl rfl rfl rfl rfl

theorem streamMiss_told (sid : Nat) (t : Instant) (m : StMark) (s : State) : Told s (streamMiss sid t m s) := by
  have hadd : ∀ r, Told s (histAdd sid t m (setStream sid r s)) := fun r =>
    Told.trans (t := setStream sid r s) (.of_eq rfl rfl rfl rfl rfl) (histAdd_told sid t m _)
  unfold streamMiss
  split
  · exact .refl s
  · dsimp only
    split
    · exact .refl s
    · exact hadd _
    · exact hadd _
    · exact Told.ite (fun _ => (hadd _).trans (streamDrop_told sid _)) (fun _ => hadd _)

theorem judgeMissing_told (gid : Nat) (g : GroupDef) (t : Instant) (s : State) : Told s (judgeMissing gid g t s) := by
  unfold judgeMissing
  refine Told.foldl (fun s sid => Told.ite (fun _ => ?_) (fun _ => .refl s)) _ _
  unfold noteMissed
  refine Told.trans ?_ (streamMiss_told sid t _ _)
  exact .of_eq rfl rfl rfl rfl rfl

/-- The state at which an instance is evaluated: its deadline has come and it waits for it no more. -/
def atDeadline (gid : Nat) (g : GroupDef) (t : Instant) (s : State) : State :=
  advanceTo (dueEval gid g t).at_ { s with mst := { s.mst with evalDue := [] } }

theorem deadlineEvaluation_evaluates {gid : Nat} {g : GroupDef} {t : Instant} {s : State} (hrun : inRun s = true)
    (hdue : s.mst.evalDue = [dueEval gid g t]) :
    exec (.deadlineEvaluation gid t) s = .next (settle (evaluateDeadline gid t (atDeadline gid g t s))) := by
  have hthrough : dueThrough gid t [dueEval gid g t] = some ([dueEval gid g t], []) := if_pos ⟨rfl, rfl⟩
  change settled (rowDeadlineEvaluation gid t s) = _
  unfold rowDeadlineEvaluation
  rw [hdue, hthrough]
  dsimp only
  rw [if_pos hrun]
  rfl

theorem atDeadline_disp (gid : Nat) (g : GroupDef) (t : Instant) (s : State) : (atDeadline gid g t s).disp = s.disp := advanceTo_disp _ _

theorem atDeadline_mst (gid : Nat) (g : GroupDef) (t : Instant) (s : State) :
    (atDeadline gid g t s).mst = { s.mst with evalDue := [] } := advanceTo_mst _ _

theorem activeBank_atDeadline (gid : Nat) (g : GroupDef) (t : Instant) (s : State) : activeBank (atDeadline gid g t s) = activeBank s :=
  activeBank_advanceTo ..

/-- An instance that has fired is passed. -/
theorem deadlineEvaluation_passes {gid : Nat} {g : GroupDef} {t : Instant} {s : State} (hrun : inRun s = true)
    (hg : group s gid = some g) (hdue : s.mst.evalDue = [dueEval gid g t]) (hdrop : s.disp.dropped = [])
    (hfired : hasFired s gid t = true) : ∃ u, exec (.deadlineEvaluation gid t) s = .next u ∧ u.mst = { s.mst with evalDue := [] } ∧
      u.disp = s.disp := by
  let v := atDeadline gid g t s
  have hmst : (traceDeadline gid t v).mst = { s.mst with evalDue := [] } :=
    ((traceDeadline_same gid t v).keeps .mst rfl).symm.trans (atDeadline_mst gid g t s)
  have hdisp : (traceDeadline gid t v).disp = s.disp :=
    ((traceDeadline_same gid t v).keeps .disp rfl).symm.trans (atDeadline_disp gid g t s)
  have heval : evaluateDeadline gid t v = traceDeadline gid t v := by
    unfold evaluateDeadline
    rw [show group v gid = some g by rw [group, activeBank_atDeadline]; exact hg]
    refine if_pos (.inl ?_)
    rw [hasFired, hmst]
    exact hfired
  refine ⟨_, deadlineEvaluation_evaluates hrun hdue, ?_, ?_⟩
  · rw [heval, settle_mst (by rw [hdisp, hdrop]), hmst]
  · rw [heval, settle_disp, hdisp, ← hdrop]

/-- The deadline's state once the streams that miss the instance are judged. -/
def missedJudged (gid : Nat) (g : GroupDef) (t : Instant) (s : State) : State :=
  judgeMissing gid g t (traceDeadline gid t (atDeadline gid g t s))

theorem missedJudged_frame (gid : Nat) (g : GroupDef) (t : Instant) (s : State) :
    (missedJudged gid g t s).mst = { s.mst with evalDue := [] } ∧ (missedJudged gid g t s).disp = s.disp ∧
    activeBank (missedJudged gid g t s) = activeBank s ∧
    (∀ n, 40 ≤ n → n < 80 → counter (missedJudged gid g t s) n = counter s n) ∧ (dueEval gid g t).at_ ≤ now (missedJudged gid g t s) := by
  have htrace := traceDeadline_same gid t (atDeadline gid g t s)
  have hjudge := judgeMissing_same gid g t (traceDeadline gid t (atDeadline gid g t s))
  have htold := judgeMissing_told gid g t (traceDeadline gid t (atDeadline gid g t s))
  refine ⟨((htrace.keeps .mst rfl).trans (hjudge.keeps .mst rfl)).symm.trans (atDeadline_mst gid g t s),
    ((htrace.keeps .disp rfl).trans (hjudge.keeps .disp rfl)).symm.trans (atDeadline_disp gid g t s), ?_, fun n hlo hhi => ?_, ?_⟩
  · rw [← activeBank_atDeadline gid g t s]
    exact activeBank_of_banks ((htrace.keeps .bank0 rfl).trans (hjudge.keeps .bank0 rfl)).symm
      ((htrace.keeps .bank1 rfl).trans (hjudge.keeps .bank1 rfl)).symm ((htrace.keeps .active rfl).trans (hjudge.keeps .active rfl)).symm
  · refine (htold.cnt n hlo hhi).trans ((counter_congr (htrace.keeps .cnt rfl).symm n).trans ?_)
    exact counter_advanceTo (dueEval gid g t).at_ { s with mst := { s.mst with evalDue := [] } } n
  · rw [missedJudged, htold.now_eq, now_congr (congrArg TimeBase.count (htrace.keeps .tb rfl)).symm]
    exact le_now_advanceTo { s with mst := { s.mst with evalDue := [] } } (dueEval gid g t).at_

/-- An instance that has not fired fires. -/
theorem deadlineEvaluation_fires {gid : Nat} {g : GroupDef} {t : Instant} {s : State} (hrun : inRun s = true)
    (hg : group s gid = some g) (hdue : s.mst.evalDue = [dueEval gid g t]) (hdrop : s.disp.dropped = [])
    (hnot : hasFired s gid t = false) (hfirst : beforeFirst s gid t = false)
    (hnext : findInst s gid (gridAt g.rate (gridFloor g.rate t + 1)) = none) (hnodup : ((activeBank s).templates.map (·.1)).Nodup)
    (hroom : ∀ e ∈ (activeBank s).templates, (tmplRun s e.1).pending < 4) :
    ∃ u, exec (.deadlineEvaluation gid t) s = .next u ∧ mget u.mst.lastFired gid = some t ∧ u.mst.evalDue = [] ∧
      counter u (if g.policy = 1 then 50 else 49) = satAdd (2 ^ 64 - 1) (counter s (if g.policy = 1 then 50 else 49)) 1 ∧
      (gridFloor g.rate t * 1000000 + (g.wUs + 2) * g.rate) * 2 ^ 32 / (g.rate * 1000000) ≤ now u ∧
      ∀ e ∈ (activeBank s).templates, e.2.gid = gid → e.2.type = 1 ∨ e.2.type = 3 ∨ e.2.type = 4 →
        ∃ k ∈ u.disp.ready ++ u.disp.held, k.tid = e.1 ∧ k.tmpl = e.2 ∧ k.gid = gid ∧ k.t = t := by
  obtain ⟨hmst, hdisp, hbank, hcnt, hnow⟩ := missedJudged_frame gid g t s
  have hkind : (if g.policy = 1 then 4 else 3) = 3 ∨ (if g.policy = 1 then 4 else 3) = 4 := by split <;> simp
  have hcode : 46 + (if g.policy = 1 then 4 else 3) = if g.policy = 1 then 50 else 49 := by split <;> rfl
  obtain ⟨hcount, hlast, hempty, hdropped, hmade⟩ := fire_deadline (gid := gid) (g := g) (t := t) (s := missedJudged gid g t s) hkind
    (by rw [findInst, hmst]; exact hnext) (by rw [hbank]; exact hnodup)
    (by rw [hbank]; intro e he; rw [tmplRun_congr hdisp]; exact hroom e he)
  rw [hdisp, hdrop] at hdropped
  have heval : evaluateDeadline gid t (atDeadline gid g t s) =
      fire gid g t (if g.policy = 1 then 4 else 3) (missedJudged gid g t s) := by
    have htrace := (traceDeadline_same gid t (atDeadline gid g t s)).keeps .mst rfl
    unfold evaluateDeadline
    rw [show group (atDeadline gid g t s) gid = some g by rw [group, activeBank_atDeadline]; exact hg]
    refine if_neg ?_
    rw [hasFired, beforeFirst, ← htrace, atDeadline_mst]
    change ¬(hasFired s gid t = true ∨ beforeFirst s gid t = true)
    simp [hnot, hfirst]
  have hfire : now (fire gid g t (if g.policy = 1 then 4 else 3) (missedJudged gid g t s)) = now (missedJudged gid g t s) :=
    now_congr (congrArg TimeBase.count ((fire_same gid g t _ _).keeps .tb rfl)).symm
  generalize fire gid g t (if g.policy = 1 then 4 else 3) (missedJudged gid g t s) = u at *
  refine ⟨_, deadlineEvaluation_evaluates hrun hdue, ?_, ?_, ?_, ?_, fun e he => ?_⟩ <;> rw [heval]
  · rw [settle_mst hdropped, hlast]
  · rw [settle_mst hdropped, hempty, hmst]
  · rw [← hcode, counter_congr (settle_cnt hdropped), hcount, hcnt _ (by omega) (by omega)]
  · rw [(settle_told u).now_eq, hfire]
    exact hnow
  · rw [settle_disp]
    exact hmade e (by rw [hbank]; exact he)

/-! ### Phase-anchored requests -/

section
variable {id : Nat} {r : PhaseReq} {x : Instant} {s : State}

theorem phaseTargetFix_eq (hr : mget s.phases id = some r) (htarget : r.target = none) (hpred : phasePredict s r = some x) :
    exec (.phaseTargetFix id) s =
      if refValid (advanceTo (x - usU 250) s) (now (advanceTo (x - usU 250) s)) = true then
        done { advanceTo (x - usU 250) s with phases := mput s.phases id { r with target := some x } }
      else if r.skip = true then
        done (phaseOutcome r.act 4 (count 4 { advanceTo (x - usU 250) s with phases := mdel s.phases id }))
      else done (count 3 { advanceTo (x - usU 250) s with
        phases := mput s.phases id { r with target := some (phaseNominal (advanceTo (x - usU 250) s) r), fallback := true } }) := by
  change execPhaseTargetFix id s = _
  unfold execPhaseTargetFix
  rw [hr]
  dsimp only
  rw [if_neg (by simp [htarget]), hpred, Option.getD_some, advanceTo_phases]

theorem phaseOutcome_phases (a : PhaseAct) (v : Nat) (s : State) : (phaseOutcome a v s).phases = s.phases :=
  ((phaseOutcome_same a v s).keeps .phases rfl).symm

theorem counter_phaseOutcome (a : PhaseAct) (v n : Nat) (s : State) : counter (phaseOutcome a v s) n = counter s n :=
  counter_congr ((phaseOutcome_same a v s).keeps .cnt rfl).symm n

theorem phaseTargetFix_skips (hr : mget s.phases id = some r) (htarget : r.target = none) (hpred : phasePredict s r = some x)
    (hskip : r.skip = true) (hbad : refValid (advanceTo (x - usU 250) s) (now (advanceTo (x - usU 250) s)) = false) :
    ∃ u, exec (.phaseTargetFix id) s = .next u ∧ u.phases = mdel s.phases id ∧
      counter u 4 = satAdd (2 ^ 64 - 1) (counter s 4) 1 := by
  have hexec := phaseTargetFix_eq hr htarget hpred
  rw [if_neg (by simp [hbad]), if_pos hskip] at hexec
  refine ⟨_, hexec, by rw [phaseOutcome_phases]; rfl, ?_⟩
  rw [counter_phaseOutcome, counter_count_same]
  exact congrArg (satAdd _ · 1) (counter_advanceTo (x - usU 250) s 4)

theorem phaseTargetFix_falls_back (hr : mget s.phases id = some r) (htarget : r.target = none) (hpred : phasePredict s r = some x)
    (hskip : r.skip = false) (hbad : refValid (advanceTo (x - usU 250) s) (now (advanceTo (x - usU 250) s)) = false) :
    ∃ u, exec (.phaseTargetFix id) s = .next u ∧
      mget u.phases id = some { r with target := some (phaseNominal (advanceTo (x - usU 250) s) r), fallback := true } ∧
      counter u 3 = satAdd (2 ^ 64 - 1) (counter s 3) 1 := by
  have hexec := phaseTargetFix_eq hr htarget hpred
  rw [if_neg (by simp [hbad]), if_neg (by simp [hskip])] at hexec
  refine ⟨_, hexec, mget_mput_same _ _ _, ?_⟩
  rw [counter_count_same]
  exact congrArg (satAdd _ · 1) (counter_advanceTo (x - usU 250) s 3)

theorem setBit16_getLsbD (v : BitVec 16) (n : Fin 16) (b : Bool) : (setBit16 v n.val b).getLsbD n.val = b := by
  have hbit : (BitVec.ofNat 16 (2 ^ n.val)).getLsbD n.val = true := by
    rw [BitVec.getLsbD_ofNat, Nat.testBit_two_pow_self]
    simp
  unfold setBit16
  cases b
  · rw [if_neg (by decide), BitVec.getLsbD_and, BitVec.getLsbD_not, hbit]
    simp
  · rw [if_pos rfl, BitVec.getLsbD_or, hbit, Bool.or_true]

theorem wasOutDrive_drives (n : Fin 16) (b : Bool) (h : emits s = true) : (wasOutDrive n.val b s).pins.wasOut.getLsbD n.val = b := by
  unfold wasOutDrive
  split
  · rename_i hno
    exact hno.resolve_left (by simp [h])
  · exact setBit16_getLsbD s.pins.wasOut n b

theorem phaseActionTaken_drives {sch : Nat} {pin : Fin 16} {level : Bool} (hr : mget s.phases id = some r)
    (htarget : r.target = some x) (hact : r.act = .pin sch pin.val level) (hemits : emits s = true) :
    ∃ u, exec (.phaseActionTaken id) s = .next u ∧ u.phases = mdel s.phases id ∧ u.pins.wasOut.getLsbD pin.val = level ∧ x ≤ now u := by
  let t := advanceTo x { s with phases := mdel s.phases id }
  let v := phaseOutcome (.pin sch pin.val level) (if r.fallback then 3 else 2) t
  have hexec : exec (.phaseActionTaken id) s = .next (wasOutDrive pin.val level v) := by
    change execPhaseActionTaken id s = _
    unfold execPhaseActionTaken
    rw [hr]
    dsimp only
    rw [htarget, hact]
    rfl
  have hphases : v.phases = mdel s.phases id := by
    rw [show v.phases = t.phases from phaseOutcome_phases .., advanceTo_phases]
  have hv : emits v = true := by
    rw [emits, actRole, show v.cas = t.cas from ((phaseOutcome_same ..).keeps .cas rfl).symm, advanceTo_cas]
    exact hemits
  refine ⟨_, hexec, ((wasOutDrive_same ..).keeps .phases rfl).symm.trans hphases, wasOutDrive_drives pin level hv, ?_⟩
  rw [(wasOutDrive_told ..).now_eq]
  exact le_now_advanceTo { s with phases := mdel s.phases id } x

end

/-- Settles O54. -/
theorem deadlineAndPhaseRowsComplete : Obligations.DeadlineAndPhaseRowsComplete := by
  unfold Obligations.DeadlineAndPhaseRowsComplete
  refine ⟨fun gid g t s hrun hg hdue hdrop => ⟨deadlineEvaluation_fires hrun hg hdue hdrop, deadlineEvaluation_passes hrun hg hdue hdrop⟩,
    fun id r x s hr => ⟨fun htarget hpred hvalid => ?_, phaseTargetFix_skips hr, phaseTargetFix_falls_back hr,
      fun sch pin level => phaseActionTaken_drives hr⟩⟩
  rw [phaseTargetFix_eq hr htarget hpred, if_pos hvalid]
  rfl

end Sys2Proof.Machine
end

section
/-! Frames that the MAC takes, retransmitted publications, and the calls (12 R300-R306; 08 R213; 09 R229-R241). -/

namespace Sys2Proof.Machine

/-! ### A frame that the MAC takes -/

/-- A frame outside PRP, counted at its port at its stamp. -/
def received (p cls occupancy : Nat) (t : Instant) (s : State) : State := countPort p 0 (bufferXoff p cls occupancy (advanceTo t s))

theorem macTake_takes {p len held : Nat} {vlan : Option Nat} {s : State} (h : macDrop (port s p).cfg len vlan held = none) (cls : Nat)
    (t : Instant) : macTake p len vlan cls held none t s = (true, received p cls (held + len) t s) := by
  unfold macTake
  dsimp only
  rw [port_advanceTo, h]
  rfl

theorem received_same (p cls occupancy : Nat) (t : Instant) (s : State) : Same 1107044597768 s (received p cls occupancy t s) :=
  (countPort_same ..).step rfl ((bufferXoff_same ..).step rfl ((advanceTo_same t s).of rfl))

theorem counter_received {n : Nat} (h : n < 176) (p cls occupancy : Nat) (t : Instant) (s : State) :
    counter (received p cls occupancy t s) n = counter s n := by
  rw [received, counter_countPort_other _ (by omega), bufferXoff, apply_ite (counter · n), counter_pauseFor (by omega), ite_self,
    counter_advanceTo]

theorem received_tb (p cls occupancy : Nat) (t : Instant) (s : State) : (received p cls occupancy t s).tb = (advanceTo t s).tb :=
  (((countPort_same ..).keeps .tb rfl).symm.trans ((bufferXoff_same p cls occupancy (advanceTo t s)).keeps .tb rfl).symm : _)

theorem activeBank_received (p cls occupancy : Nat) (t : Instant) (s : State) : activeBank (received p cls occupancy t s) = activeBank s :=
  have h := received_same p cls occupancy t s
  activeBank_of_banks (h.keeps .bank0 rfl).symm (h.keeps .bank1 rfl).symm (h.keeps .active rfl).symm

/-- A frame to none of the service addresses goes on as it is. -/
theorem svcInput_other {addr : Nat} {s : State} (h : isSvc s addr = false) (p len : Nat) (stamp : Instant) (item : MirrorItem) :
    svcInput p addr len stamp item s = (true, s) := if_pos (by simp [h])

theorem isSvc_received (p cls occupancy : Nat) (t : Instant) (s : State) (addr : Nat) :
    isSvc (received p cls occupancy t s) addr = isSvc s addr := by
  rw [isSvc, isSvc, show s.cas = (received p cls occupancy t s).cas from (received_same ..).keeps .cas rfl]

/-! ### A retransmitted publication -/

theorem pub_congr {s t : State} (h : t.pubs = s.pubs) (n : Nat) : pub t n = pub s n := by rw [pub, pub, h]

theorem rGooseRetransmit_sends {n : Nat} {t : Instant} {d : OutDef} {s : State} (hrun : inRun s = true)
    (hat : (pub s n).nextAt = some t) (hd : mget (activeBank s).outs (0x100 + n) = some d) (hemits : emits s = true)
    (hlocker : d.locker = 0xFF) : ∃ u, exec (.rGooseRetransmit n) s = .next u ∧ (pub u n).sqNum = ((pub s n).sqNum + 1) % 2 ^ 32 ∧
      (pub u n).stNum = (pub s n).stNum ∧ (pub u n).spdu = ((pub s n).spdu + 1) % 2 ^ 32 ∧
      (pub u n).interval = min (2 * (pub s n).interval) (rtMax d) ∧ t ≤ now u := by
  let iv := min (2 * (pub s n).interval) (rtMax d)
  let r := { pub s n with sqNum := ((pub s n).sqNum + 1) % 2 ^ 32, interval := iv, nextAt := some (t + msU iv) }
  let v := setPub n r (advanceTo t s)
  have hexec : exec (.rGooseRetransmit n) s = .next (sendGoose false n d (2 * iv) v) := by
    change execRGooseRetransmit n s = _
    unfold execRGooseRetransmit
    dsimp only
    rw [hat, hd]
    exact if_pos hrun
  have hv : emits v = true := by
    rw [emits, actRole, show v.cas = s.cas from advanceTo_cas s t]
    exact hemits
  have hpub : pub (sendGoose false n d (2 * iv) v) n = { r with spdu := (r.spdu + 1) % 2 ^ 32 } := by
    have hr : pub v n = r := pub_setPub_same ..
    unfold sendGoose
    rw [if_neg (by simp [hv]), if_neg (by simp [hlocker]), hr]
    exact (pub_congr ((outSend_same ..).keeps .pubs rfl).symm n).trans (pub_setPub_same ..)
  refine ⟨_, hexec, by rw [hpub], by rw [hpub], by rw [hpub], by rw [hpub], ?_⟩
  rw [(sendGoose_told ..).now_eq]
  exact le_now_advanceTo s t

/-! ### A call's packets -/

theorem mmod_eq_mmap {α : Type} (m : Map α) (n : Nat) (f : α → α) : mmod m n f = mmap m fun k a => if k = n then f a else a :=
  List.map_congr_left fun e _ => by by_cases h : e.1 = n <;> simp [h]

theorem mget_mmod_same {α : Type} {m : Map α} {n : Nat} {a : α} (f : α → α) (h : mget m n = some a) : mget (mmod m n f) n = some (f a) := by
  rw [mmod_eq_mmap, mget_mmap, h, Option.map_some, if_pos rfl]

theorem vch_received (p cls occupancy : Nat) (t : Instant) (s : State) (v : Nat) : vch (received p cls occupancy t s) v = vch s v := by
  rw [vch, vch, show s.vchs = (received p cls occupancy t s).vchs from (received_same ..).keeps .vchs rfl]

theorem flows_received (p cls occupancy : Nat) (t : Instant) (s : State) : (received p cls occupancy t s).flows = s.flows :=
  ((received_same p cls occupancy t s).keeps .flows rfl).symm

/-- A packet that passes checks 1 to 6 on a leg without an anchor becomes its anchor. -/
theorem checkedPkt_anchors {v : Nat} {r : VchRun} {e : SchedEntry} (pk : RtpIn) {s : State} (hr : vch s v = some r)
    (he : playoutEntry (activeBank s) v = some e) (hsilent : r.legC.silent = false) (hanchor : r.legC.anchor = none)
    (hre : r.legC.reanchor = none) : ∃ r', vch (checkedPkt v true pk false s) v = some r' ∧
      r'.legC.anchor = some (pk.ts, issueNo e (pk.stamp + msU r.par.jbInit)) ∧ r'.legC.lastRx = some pk.stamp ∧
      r'.legC.lastSeq = some pk.seq ∧ r'.legF = r.legF ∧
      counter (checkedPkt v true pk false s) 112 = satAdd (2 ^ 64 - 1) (counter s 112) 1 := by
  let r1 := setLeg r true { r.legC with
    rtcp := rtcpTake (clkMs (codecOf r.par true)) pk r.legC.rtcp, silent := false, anchor := none, reanchor := none }
  have hchecked : checkedPkt v true pk false s = anchorLeg v true e pk false none (setVch v r1 s) := by
    unfold checkedPkt
    rw [hr, he]
    have hl : legOf r true = r.legC := rfl
    simp only [hl, hsilent, hanchor, hre]
    rw [if_neg Bool.false_ne_true]
  rw [hchecked]
  unfold anchorLeg
  rw [vch_setVch_same]
  refine ⟨_, vch_setVch_same .., rfl, rfl, rfl, rfl, ?_⟩
  rw [counter_count_same]
  rfl

/-- A packet of a flow that knows its SSRC, with its payload type and length, passes checks 4 to 6. -/
theorem openedPkt_checked {v n : Nat} {f : FlowRun} {r : VchRun} {pk : RtpIn} {s : State} (ctx : Option Nat × List Nat)
    (hr : vch s v = some r) (hf : mget s.flows n = some f) (hknown : f.def_.ssrc ≠ 0) (hssrc : f.def_.ssrc = pk.ssrc)
    (hpt : pk.pt = r.par.ptC) (hevent : r.par.evtPtC = 0 ∨ r.par.evtPtC ≠ r.par.ptC)
    (hfits : payloadFits (codecOf r.par true) r.par.frameMs false pk.payload = true) :
    openedPkt v true n r pk ctx s = checkedPkt v true pk false s := by
  have hnoevent : (decide (r.par.evtPtC ≠ 0) && r.par.ptC == r.par.evtPtC) = false := by
    rcases hevent with h | h
    · simp [h]
    · simp [Ne.symm h]
  have hcheck : ssrcCheck v true n pk.ssrc ctx s = (true, s) := by
    unfold ssrcCheck
    rw [hr, hf]
    dsimp only
    rw [if_pos hknown, hssrc, beq_self_eq_true]
  unfold openedPkt
  simp only [if_true, hpt, hnoevent, hcheck, hfits]
  rw [if_neg (by simp), if_neg (by simp), if_neg (by simp)]

theorem rtpBody_le {b : Bytes} {h : Nat} (hbody : rtpBody b = some h) : h ≤ b.length := by
  unfold rtpBody at hbody
  dsimp only at hbody
  generalize (if bit (fldBe b 0 1) 4 = true then _ else _ : Nat) = k at hbody
  split at hbody
  next hk =>
    cases hbody
    exact hk.2
  next => cases hbody

/-- A flow without SRTP needs no key, and its packets are judged as they stand. -/
theorem flowPkt_plain {pk : UdpFrame} {n v h : Nat} {f : FlowRun} {r : VchRun} {x : Bytes} {s : State} (hv : f.def_.vch = v)
    (hrole : bit f.def_.role 1 = true) (hprof : f.def_.profile = 0) (hbody : rtpBody pk.bytes = some h)
    (hpad : unpad (fldBe pk.bytes 0 1) (pk.bytes.drop h) = some x) :
    flowPkt pk n f r s = openedPkt v true n r { pt := fldBe pk.bytes 1 1 % 128, seq := fldBe pk.bytes 2 2, ts := fldBe pk.bytes 4 4
                                                ssrc := fldBe pk.bytes 8 4, payload := x, stamp := pk.stamp } (none, []) (keyFound n s) := by
  have hlong : ¬(pk.bytes.length < h + srtpTag 0) := Nat.not_lt.2 (rtpBody_le hbody)
  have hkey : flowKey s f = true := by simp [flowKey, hprof]
  unfold flowPkt
  dsimp only
  rw [hbody, hv, hrole, hprof]
  dsimp only
  rw [if_neg (by simp [hlong, hpad]), if_neg (by simp [hkey])]
  simp only [if_true, hpad]
  rw [if_neg (by simp)]
  simp [takeIndex, hprof]

theorem voicePacketReceived_anchors {n v h : Nat} {pk : UdpFrame} {f : FlowRun} {r : VchRun} {e : SchedEntry} {x : Bytes} {s : State}
    (hrun : inRun s = true) (hflow : voiceFlow s pk = some (n, f)) (hmac : macDrop (port s pk.port).cfg pk.len pk.vlan pk.held = none)
    (hrct : pk.rct = none) (hsvc : isSvc s pk.dst = false) (hf : mget s.flows n = some f) (hv : f.def_.vch = v)
    (hrole : bit f.def_.role 1 = true) (hprof : f.def_.profile = 0) (hbody : rtpBody pk.bytes = some h)
    (hpad : unpad (fldBe pk.bytes 0 1) (pk.bytes.drop h) = some x) (hssrc : f.def_.ssrc = fldBe pk.bytes 8 4) (hknown : f.def_.ssrc ≠ 0)
    (hr : vch s v = some r) (hpt : fldBe pk.bytes 1 1 % 128 = r.par.ptC) (hevent : r.par.evtPtC = 0 ∨ r.par.evtPtC ≠ r.par.ptC)
    (hfits : payloadFits (codecOf r.par true) r.par.frameMs false x = true) (he : playoutEntry (activeBank s) v = some e)
    (hsilent : r.legC.silent = false) (hanchor : r.legC.anchor = none) (hre : r.legC.reanchor = none) :
    ∃ u r', exec (.voicePacketReceived pk) s = .next u ∧ vch u v = some r' ∧
      r'.legC.anchor = some (fldBe pk.bytes 4 4, issueNo e (pk.stamp + msU r.par.jbInit)) ∧ r'.legC.lastRx = some pk.stamp ∧
      r'.legC.lastSeq = some (fldBe pk.bytes 2 2) ∧ r'.legF = r.legF ∧ counter u 112 = satAdd (2 ^ 64 - 1) (counter s 112) 1 := by
  let w := received pk.port (rxClass pk.vlan pk.pcp 4) (pk.held + pk.len) pk.stamp s
  have hrw : vch w v = some r := (vch_received ..).trans hr
  have hwflow : voiceFlow w pk = some (n, f) := by
    rw [voiceFlow, flowOf, show w.flows = s.flows from flows_received ..]
    exact hflow
  have hexec : exec (.voicePacketReceived pk) s = .next (flowPkt pk n f r w) := by
    have hpkt : voicePkt pk w = flowPkt pk n f r w := by
      unfold voicePkt
      rw [hwflow]
      dsimp only
      rw [hv, hrw]
    change execVoicePacketReceived pk s = _
    unfold execVoicePacketReceived
    rw [if_pos ⟨hrun, by simp [hflow]⟩, hrct, macTake_takes hmac]
    dsimp only
    rw [svcInput_other ((isSvc_received ..).trans hsvc)]
    exact congrArg Host.Outcome.next hpkt
  rw [flowPkt_plain hv hrole hprof hbody hpad] at hexec
  have hfound : mget (keyFound n w).flows n = some { f with keyLost := false } :=
    mget_mmod_same (fun f : FlowRun => { f with keyLost := false }) ((congrArg (mget · n) (flows_received ..)).trans hf)
  rw [openedPkt_checked (f := { f with keyLost := false }) _ (show vch (keyFound n w) v = some r from hrw) hfound hknown hssrc hpt hevent
    hfits] at hexec
  obtain ⟨r', hr', ha, hrx, hseq, hlegF, hcnt⟩ := checkedPkt_anchors _ (show vch (keyFound n w) v = some r from hrw)
    (show playoutEntry (activeBank w) v = some e by rw [activeBank_received]; exact he) hsilent hanchor hre
  refine ⟨_, r', hexec, hr', ha, hrx, hseq, hlegF, hcnt.trans ?_⟩
  exact congrArg (satAdd _ · 1) (counter_received (by decide) ..)

/-! ### A leg's reports -/

theorem ntpTime_received (p cls occupancy : Nat) (t x : Instant) (s : State) : ntpTime (received p cls occupancy t s) x = ntpTime s x := by
  simp only [ntpTime, socOf, utcOffsetAt, received_tb, advanceTo_tb_lastLeap, advanceTo_tb_leapEnd, advanceTo_tb_leap,
    advanceTo_tb_utcOffset]

theorem rtcpPacketReceived_reports {n v : Nat} {pk : UdpFrame} {f : FlowRun} {r : VchRun} {s : State} (hrun : inRun s = true)
    (hflow : rtcpFlow s pk = some (n, f)) (hmac : macDrop (port s pk.port).cfg pk.len pk.vlan pk.held = none) (hrct : pk.rct = none)
    (hsvc : isSvc s pk.dst = false) (hv : f.def_.vch = v) (hrole : bit f.def_.role 1 = true) (hprof : f.def_.profile = 0)
    (hr : vch s v = some r) (hbye : (rtcpParts pk.bytes.length pk.bytes).find? (fun p => p.1 == 203) = none) :
    ∃ u, exec (.rtcpPacketReceived pk) s = .next u ∧ vch u v = some { r with
      legC := (rtcpParts pk.bytes.length pk.bytes).foldl (rtcpLeg (clkMs (codecOf r.par true))
        ((legFlow s v true true).map (·.2.def_.ssrc)) (rxSsrc f r.legC) (ntpTime s pk.stamp / 65536 % 2 ^ 32) pk.stamp) r.legC } := by
  let w := received pk.port (rxClass pk.vlan pk.pcp 4) (pk.held + pk.len) pk.stamp s
  have hwflow : rtcpFlow w pk = some (n, f) := by
    rw [rtcpFlow, flowOf, show w.flows = s.flows from flows_received ..]
    exact hflow
  have htaken : rtcpPkt pk w = rtcpTaken v true f r pk.stamp pk.bytes w := by
    unfold rtcpPkt
    rw [hwflow]
    dsimp only
    rw [hv, show vch w v = some r from (vch_received ..).trans hr]
    dsimp only
    unfold flowRtcp
    dsimp only
    rw [if_pos hprof, hv, hrole]
  have hexec : exec (.rtcpPacketReceived pk) s = .next (rtcpTaken v true f r pk.stamp pk.bytes w) := by
    change execRtcpPacketReceived pk s = _
    unfold execRtcpPacketReceived
    rw [if_pos ⟨hrun, by simp [hflow]⟩, hrct, macTake_takes hmac]
    dsimp only
    rw [svcInput_other ((isSvc_received ..).trans hsvc)]
    exact congrArg Host.Outcome.next htaken
  refine ⟨_, hexec, ?_⟩
  unfold rtcpTaken
  dsimp only
  rw [hbye, ntpTime_received, show legFlow w v true true = legFlow s v true true by rw [legFlow, legFlow, flows_received]]
  exact vch_setVch_same ..

theorem legSilent_silences {v : Nat} {r : VchRun} {s : State} (hrun : inRun s = true) (hr : vch s v = some r) (hclose : r.closeAt = none)
    (hopen : r.openAt = none) (hsilent : r.legC.silent = false) : ∃ u, exec (.legSilent v true) s = .next u ∧
      vch u v = some { r with legC := { r.legC with silent := true, held := [] }, events := r.events ++ [(16, 1, [])] } ∧
      max r.opened (r.legC.lastRx.getD 0) + 2 * 2 ^ 32 ≤ now u := by
  let t := advanceTo (max r.opened (r.legC.lastRx.getD 0) + 2 * secU) s
  let u := pendEvent v 16 1 [] (setVch v { r with legC := { r.legC with silent := true, held := [] } } t)
  have hexec : exec (.legSilent v true) s = .next u := by
    change execLegSilent v true s = _
    unfold execLegSilent
    rw [hr]
    dsimp only
    exact if_pos ⟨hrun, by simp [legOf, hsilent], vchOpenNow_of_open hr hclose, by simp [hopen]⟩
  refine ⟨u, hexec, ?_, ?_⟩
  · exact mget_mmod_same (fun r : VchRun => { r with events := r.events ++ [(16, 1, [])] }) (mget_mput_same t.vchs v _)
  · exact le_now_advanceTo s _

theorem recBlockTransfer_moves {v : Nat} {r : VchRun} {m : Bool} {b : Bytes} {rest : List (Bool × Bytes)} {s : State}
    (hrun : inRun s = true) (hr : vch s v = some r) (hended : r.ended = false) (hbuf : r.recd.buffer = (m, b) :: rest)
    (hemits : emits s = true) (htakes : oqTakes s r.recd.oq (some (keyVch v)) b.length = true) :
    ∃ u, exec (.recBlockTransfer v) s = .next u ∧ vch u v = some { r with recd := { r.recd with buffer := rest } } := by
  let w := setVch v { r with recd := { r.recd with buffer := rest } } s
  have hexec : exec (.recBlockTransfer v) s = .next (oqPut r.recd.oq 12 { data := b, mark := m } (oqForget (keyVch v) w)) := by
    change execRecBlockTransfer v s = _
    unfold execRecBlockTransfer
    rw [hr]
    dsimp only
    rw [hbuf]
    dsimp only
    rw [if_neg (by simp [inRun_up hrun, hemits]), if_pos htakes]
    exact congrArg Host.Outcome.next (if_neg (by simp [hended]))
  refine ⟨_, hexec, ?_⟩
  rw [vch, ← (oqPut_same ..).keeps .vchs rfl]
  exact mget_mput_same _ _ _

/-! ### A leg's report leaves -/

/-- A lookup of a neighbour notes at most that it was used. -/
theorem addressed_cases (p dst : Nat) (s : State) : (addressed p dst s).2 = s ∨
    ∃ l, (addressed p dst s).2 = setPort p { port s p with neighUse := l } s := by
  unfold addressed
  split
  · exact .inl rfl
  · split
    · exact .inl rfl
    · dsimp only
      split
      · exact .inr ⟨_, rfl⟩
      · exact .inl rfl

theorem addressed_free (p dst : Nat) (s : State) : heldBack (addressed p dst s).2 p = heldBack s p ∧
    (∀ c, classPaused (addressed p dst s).2 p c = classPaused s p c) ∧ (addressed p dst s).2.txWait = s.txWait := by
  rcases addressed_cases p dst s with h | ⟨l, h⟩ <;> rw [h]
  · exact ⟨rfl, fun _ => rfl, rfl⟩
  · exact ⟨heldBack_congr (by rw [port_setPort_same]) rfl rfl rfl, fun c => by rw [classPaused, port_setPort_same]; rfl, rfl⟩

theorem mem_txLeaves (p : Nat) (w : TxHeld) (s : State) : w.e ∈ (txLeaves p w s).emitted := by
  have hsent : Told (emit w.e s) (txNoted w (countPort p 7 (emit w.e s))) := (countPort_told p 7 _).trans (txNoted_told w _)
  rw [txLeaves_eq]
  cases w.tag with
  | some tag => exact (hsent.trans (egressStamp_told ..)).emitted _ List.mem_cons_self
  | none => exact hsent.emitted _ List.mem_cons_self

theorem txFrame_leaves {p : Nat} {w : TxHeld} {s : State} (hback : heldBack s p = false) (hpause : classPaused s p w.cls = false)
    (hwait : mgetD s.txWait p [] = []) : txFrame false p w s = txLeaves p w { s with txWait := mput s.txWait p [] } := by
  have hback' : heldBack { s with txWait := mput s.txWait p [] } p = false := hback
  have hpause' : classPaused { s with txWait := mput s.txWait p [] } p w.cls = false := hpause
  simp [txFrame, txDrain_empty hback hwait, hpause', hback']

/-- A frame to a known address leaves at once on a port that nothing holds back. -/
theorem txIp_leaves {p mac : Nat} {x : IpSend} {s : State} (hmac : (addressed p x.dst s).1 = some mac)
    (hpause : classPaused s p x.cls = false) (hback : heldBack s p = false) (hwait : mgetD s.txWait p [] = []) :
    .ip (ipPath (addressed p x.dst s).2 p mac x none) x.m ∈ (txIp p x s).emitted := by
  obtain ⟨hbackT, hpauseT, hwaitT⟩ := addressed_free p x.dst s
  unfold txIp txIpFrame
  dsimp only
  rw [hmac]
  dsimp only
  rw [txFrame_leaves (hbackT.trans hback) ((hpauseT _).trans hpause) (by rw [hwaitT]; exact hwait)]
  exact mem_txLeaves p { cls := x.cls, len := ipLen x false, tag := none, e := .ip (ipPath (addressed p x.dst s).2 p mac x none) x.m } _

theorem addressed_fst_congr {s t : State} {p : Nat} (h : port t p = port s p) (dst : Nat) :
    (addressed p dst t).1 = (addressed p dst s).1 := by
  have hhop : (if onLocalSubnet t p dst then some dst else gateway t p) = if onLocalSubnet s p dst then some dst else gateway s p := by
    rw [onLocalSubnet, onLocalSubnet, gateway, gateway, h]
  unfold addressed
  rw [hhop]
  split
  · rfl
  · cases (if onLocalSubnet s p dst then some dst else gateway s p) with
    | none => rfl
    | some hop =>
      dsimp only
      rw [h]
      cases mget (port s p).neigh hop <;> rfl

/-! ### A leg's report is made -/

theorem fldBe_be_of_length {a : Bytes} {k : Nat} (h : a.length = k) (n v : Nat) (rest : Bytes) :
    fldBe (a ++ (be n v ++ rest)) k n = v % 256 ^ n := by
  rw [fldBe, slice, List.drop_append_of_le_length h.ge, List.drop_eq_nil_of_le h.le, List.nil_append,
    List.take_append_of_le_length (length_be n v).ge, List.take_of_length_le (length_be n v).le, ofBe_be]

/-- The SR of a compound packet stands under the flow's SSRC. -/
theorem rtcpCompound_ssrc (s : State) (v : Nat) (c : Bool) (r : VchRun) (f : FlowRun) (t : Instant) :
    fldBe (rtcpCompound s v c r f t) 4 4 = f.def_.ssrc % 2 ^ 32 := by
  unfold rtcpCompound
  dsimp only
  simp only [List.append_assoc]
  rw [← List.append_assoc]
  exact fldBe_be_of_length (by simp [length_be]) 4 _ _

/-- The leg with its next report set for an instant and this one counted. -/
def legReported (r : VchRun) (x : Instant) : VchRun :=
  { r with legC := { r.legC with rtcpAt := some x, rtcp := rtcpMark r.legC.rtcp } }

theorem rtcpSend_reports {n v : Nat} {r : VchRun} {f : FlowRun} {s : State} (hrun : inRun s = true) (hr : vch s v = some r)
    (hclose : r.closeAt = none) (hf : legFlow s v true true = some (n, f)) (hemits : emits s = true) (hprof : f.def_.profile = 0) :
    ∃ u r' x, exec (.rtcpSend v true) s = .next u ∧ vch u v = some r' ∧ r'.legC.rtcpAt = some x ∧ now u + 5 * 2 ^ 32 / 2 ≤ x ∧
      x < now u + 15 * 2 ^ 32 / 2 ∧ r'.legC.rtcp = rtcpMark r.legC.rtcp ∧
      (∀ mac, r.legC.rtcpAt = none → (addressed f.def_.port f.def_.remoteAddr s).1 = some mac → classPaused s f.def_.port 4 = false →
        heldBack s f.def_.port = false → mgetD s.txWait f.def_.port [] = [] → ∃ p b, .ip p (.rtcp n b) ∈ u.emitted ∧
        p.port = f.def_.port ∧ p.dstMac = mac ∧ p.src = f.def_.localAddr ∧ p.dst = f.def_.remoteAddr ∧ p.dscp = f.def_.dscp ∧
        fldBe b 4 4 = f.def_.ssrc % 2 ^ 32) := by
  let t := (drawFree (advanceTo (r.legC.rtcpAt.getD (now s)) s)).2
  let y := (drawFree (advanceTo (r.legC.rtcpAt.getD (now s)) s)).1
  let x := now t + 5 * secU / 2 + y % (5 * secU)
  let r1 := { r with legC := { r.legC with rtcpAt := some x } }
  let t1 := setVch v r1 t
  let body := rtcpCompound t1 v true r1 f (now t1)
  let w := setVch v (legReported r x) t1
  let m := flowSend f.def_ (if bit f.def_.role 3 then 0 else 1) body.length (.rtcp n body)
  have hexec : exec (.rtcpSend v true) s = .next (txIp f.def_.port m w) := by
    have hreport : rtcpReport v true r1 n f t1 = txIp f.def_.port m w := by
      unfold rtcpReport rtcpSealed
      dsimp only
      rw [if_pos hprof, if_pos hprof]
      rfl
    change execRtcpSend v true s = _
    unfold execRtcpSend
    rw [hr, hf]
    dsimp only
    rw [if_pos ⟨hrun, hemits, vchOpenNow_of_open hr hclose⟩]
    exact (if_pos (by simp [flowKey, hprof])).trans (congrArg Host.Outcome.next hreport)
  have hnow : now (txIp f.def_.port m w) = now t := (txIp_told ..).now_eq
  have hy : y % (5 * secU) < 5 * secU := Nat.mod_lt _ (by decide)
  refine ⟨_, legReported r x, x, hexec, ?_, rfl, by rw [hnow]; exact Nat.le_add_right _ _, ?_, rfl, ?_⟩
  · rw [vch, ← (txIp_same ..).keeps .vchs rfl]
    exact mget_mput_same _ _ _
  · rw [hnow]
    change now t + 5 * secU / 2 + y % (5 * secU) < now t + 15 * secU / 2
    generalize y % (5 * secU) = z at hy ⊢
    rw [Nat.add_assoc]
    refine Nat.add_lt_add_left ?_ _
    simp only [secU] at hy ⊢
    omega
  · intro mac hat hmac hpause hback hwait
    have hnowW : now w = now s := by
      rw [← now_advanceTo_of_le s (now s) (Nat.le_refl _)]
      change now (advanceTo (r.legC.rtcpAt.getD (now s)) s) = _
      rw [hat]
      rfl
    have hport : port w f.def_.port = port s f.def_.port := port_advanceTo (r.legC.rtcpAt.getD (now s)) s f.def_.port
    have hfst : (addressed f.def_.port m.dst w).1 = some mac := (addressed_fst_congr hport f.def_.remoteAddr).trans hmac
    refine ⟨_, body, txIp_leaves hfst ((classPaused_congr hport hnowW).trans hpause)
      ((heldBack_congr (congrArg Port.cfg hport) (advanceTo_pwr s (r.legC.rtcpAt.getD (now s))) (activeBank_advanceTo (r.legC.rtcpAt.getD (now s)) s) hnowW).trans hback) ?_, rfl, rfl, rfl, rfl, rfl,
      rtcpCompound_ssrc ..⟩
    rw [show w.txWait = s.txWait from advanceTo_txWait s (r.legC.rtcpAt.getD (now s))]
    exact hwait

/-- Settles O58. -/
theorem outputAndVoiceRowsComplete : Obligations.OutputAndVoiceRowsComplete := by
  unfold Obligations.OutputAndVoiceRowsComplete
  intro n v s hrun
  refine ⟨fun t d => rGooseRetransmit_sends hrun, fun pk f r e h x => voicePacketReceived_anchors hrun, ?_,
    fun r f => rtcpSend_reports hrun, fun r => legSilent_silences hrun, fun r m b rest => recBlockTransfer_moves hrun⟩
  rintro pk f r ps hflow hmac hrct hsvc hv hrole hprof hr rfl hbye
  exact rtcpPacketReceived_reports hrun hflow hmac hrct hsvc hv hrole hprof hr hbye

end Sys2Proof.Machine
end

section
/-! Ingest of data frames, sampled values and injection records (04 R83-R107). -/

namespace Sys2Proof.Machine

/-! ### What a stream's counters and its sight of a PRP pair leave -/

theorem stream_congr {s t : State} (h : t.streams = s.streams) (sid : Nat) : stream t sid = stream s sid := by rw [stream, stream, h]

theorem stream_settle (s : State) (sid : Nat) : stream (settle s) sid = stream s sid :=
  stream_congr ((settle_same s).keeps .streams rfl).symm sid

theorem stream_received (p cls occupancy : Nat) (t : Instant) (s : State) (sid : Nat) :
    stream (received p cls occupancy t s) sid = stream s sid := stream_congr ((received_same ..).keeps .streams rfl).symm sid

theorem stream_countStream (sid i : Nat) (s : State) : stream (countStream sid i s) sid =
    { stream s sid with counts := mput (stream s sid).counts i (satAdd 0xFFFFFFFF (mgetD (stream s sid).counts i 0) 1) } :=
  mgetD_mput_same _ _ _ _

theorem counts_countStream (sid i : Nat) (s : State) : mgetD (stream (countStream sid i s) sid).counts i 0 =
    satAdd 0xFFFFFFFF (mgetD (stream s sid).counts i 0) 1 := by rw [stream_countStream, mgetD_mput_same]

theorem prpSeen_stream (sid : Nat) (d : StreamDef) (p : Nat) (t : Instant) (s : State) :
    ∃ a b, stream (prpSeen sid d p t s) sid = { stream s sid with prpA := a, prpB := b } := by
  unfold prpSeen
  generalize (if d.opts % 4 = 1 then 2 else if d.opts % 4 = 2 then 4 else 99) = first
  dsimp only
  split
  · exact ⟨some t, (stream s sid).prpB, mgetD_mput_same _ _ _ _⟩
  · split
    · exact ⟨(stream s sid).prpA, some t, mgetD_mput_same _ _ _ _⟩
    · exact ⟨(stream s sid).prpA, (stream s sid).prpB, rfl⟩

theorem activeBank_prpSeen (sid : Nat) (d : StreamDef) (p : Nat) (t : Instant) (s : State) : activeBank (prpSeen sid d p t s) = activeBank s :=
  have h := prpSeen_same sid d p t s
  activeBank_of_banks (h.keeps .bank0 rfl).symm (h.keeps .bank1 rfl).symm (h.keeps .active rfl).symm

/-- The state in which a frame of a stream meets its checks: taken by the MAC, and seen at its port of a PRP pair. -/
def atIngest (sid : Nat) (d : StreamDef) (p cls occupancy : Nat) (t : Instant) (s : State) : State :=
  prpSeen sid d p t (received p cls occupancy t s)

section
variable (sid : Nat) (d : StreamDef) (p cls occupancy : Nat) (t : Instant) (s : State)

theorem atIngest_stream : ∃ a b, stream (atIngest sid d p cls occupancy t s) sid = { stream s sid with prpA := a, prpB := b } := by
  rw [← stream_received p cls occupancy t s]
  exact prpSeen_stream ..

theorem atIngest_same : Same 1107044598792 s (atIngest sid d p cls occupancy t s) :=
  (prpSeen_same ..).step rfl ((received_same ..).of rfl)

theorem atIngest_tb : (atIngest sid d p cls occupancy t s).tb = (advanceTo t s).tb :=
  ((prpSeen_same ..).keeps .tb rfl).symm.trans (received_tb ..)

theorem activeBank_atIngest : activeBank (atIngest sid d p cls occupancy t s) = activeBank s :=
  (activeBank_prpSeen ..).trans (activeBank_received ..)

theorem inRun_atIngest : inRun (atIngest sid d p cls occupancy t s) = inRun s :=
  (congrArg (fun w : Power => decide (w.ps = .run)) ((atIngest_same sid d p cls occupancy t s).keeps .pwr rfl)).symm

theorem c37Instant_atIngest (e : StreamDef) (b : Bytes) : c37Instant (atIngest sid d p cls occupancy t s) e b = c37Instant s e b := by
  simp only [c37Instant, taiOfSoc, atIngest_tb, advanceTo_tb_utcOffset, advanceTo_tb_leap, advanceTo_tb_leapEnd, advanceTo_tb_lastLeap]

end

/-! ### The checks of a data frame -/

section
variable {sid : Nat} {d : StreamDef} {b : Bytes} {stamp : Instant} {j : Nat} {s : State}

theorem c37Ingest_bad (h : c37FrameOk d b = false) : c37Ingest sid d b stamp s = countStream sid 6 s := if_pos (by simp [h])

theorem c37Ingest_passes (hok : c37FrameOk d b = true) (hstate : (stream s sid).state ≠ .cfgMismatch) (hj : c37Instant s d b = some j)
    (hfuture : isFuture d.rate (gridAt d.rate j) stamp = false) :
    c37Ingest sid d b stamp s = if inRun s = true then c37Accept sid d b j stamp s else countStream sid 0 s := by
  unfold c37Ingest
  rw [if_neg (by simp [hok]), if_neg hstate, hj]
  exact if_neg (by simp [hfuture])

end

/-! ### A cell for an operand -/

theorem now_advanceTo (t : Instant) (s : State) : now (advanceTo t s) = max (now s) t := by
  rcases Nat.lt_or_ge (now s) t with h | h
  · have hcount : s.tb.count < t * 2 ^ 32 := (Nat.div_lt_iff_lt_mul (Nat.two_pow_pos 32)).1 h
    rw [Nat.max_eq_right h.le, now, advanceTo_tb_count, Nat.add_sub_cancel' hcount.le, Nat.mul_div_cancel t (Nat.two_pow_pos 32)]
  · rw [now_advanceTo_of_le s t h, Nat.max_eq_left h]

theorem openGroups_nil {s : State} {key : Nat} (h : groupsOf s key = []) (t stamp : Instant) : openGroups s key t stamp = [] := by
  rw [openGroups, h, List.filter_nil]

/-- With no group, a stream's operand waits for its judgement alone, until two instances after it. -/
theorem cellWaits_alone {s : State} {key : Nat} {t : Instant} (h : groupsOf s key = []) (hkeep : keepsCell s key t = true) (stamp : Instant) :
    cellWaits s key t stamp = ([1024], false) := by
  simp [cellWaits, h, openGroups_nil h, hkeep]

theorem keepsCell_of_lt {s : State} {key j : Nat} {d : StreamDef} (hd : mget (activeBank s).streams key = some d) (h3 : d.type ≠ 3)
    (h4 : d.type ≠ 4) (hlate : now s < gridAt d.rate (j + 2)) : keepsCell s key (gridAt d.rate j) = true := by
  have hrate : 0 < d.rate := by
    rcases Nat.eq_zero_or_pos d.rate with h | h
    · simp [h, gridAt] at hlate
    · exact h
  have hfloor : j ≤ gridFloor d.rate (gridAt d.rate j) := (gridAt_le_iff hrate j _).1 (Nat.le_refl _)
  have hmono : gridAt d.rate (j + 2) ≤ gridAt d.rate (gridFloor d.rate (gridAt d.rate j) + 2) := gridAt_mono hrate (by omega)
  unfold keepsCell
  rw [hd]
  simp [h3, h4, Nat.lt_of_lt_of_le hlate hmono]

/-- A cell, where there is one and room in the frame buffer. -/
theorem takeCell_some {key nbytes : Nat} {t : Instant} {s : State} (mk : Nat → Cell) (hcells : s.mst.cells.length < Config.maxCells)
    (hfit : (fbFit (ceilDiv nbytes 64) s.mst.fb 0).isSome = true) :
    ∃ p u, takeCell key t nbytes mk s = some u ∧ u.mst.cells = s.mst.cells ++ [mk p] := by
  obtain ⟨p, hp⟩ := Option.isSome_iff_exists.1 hfit
  unfold takeCell fbAlloc
  rw [if_neg (by omega)]
  dsimp only
  rw [hp]
  refine ⟨p, _, rfl, ?_⟩
  unfold cellsPeak
  split <;> rfl

theorem mem_cellSweep {c : Cell} {s : State} (h : c ∈ s.mst.cells) (hwait : c.waiting.isEmpty = false) : c ∈ (cellSweep s).mst.cells :=
  List.mem_filter.2 ⟨h, by simp [hwait]⟩

theorem operandWritten_alone {s : State} {key : Nat} (h : groupsOf s key = []) (t stamp : Instant) :
    operandWritten key t stamp s = cellSweep s := by rw [operandWritten, openGroups_nil h, List.foldl_nil]

/-- A good data frame of a stream in no group has its cell, with its bytes. -/
theorem c37Accept_takes {sid : Nat} {d : StreamDef} {b : Bytes} {j : Nat} {stamp : Instant} {s : State}
    (hgroups : groupsOf s sid = []) (hkeep : keepsCell s sid (gridAt d.rate j) = true)
    (hnew : (stream s sid).written.contains j = false) (hcells : s.mst.cells.length < Config.maxCells)
    (hfit : (fbFit (ceilDiv b.length 64) s.mst.fb 0).isSome = true) :
    (∃ c ∈ (c37Accept sid d b j stamp s).mst.cells, c.key = sid ∧ c.inst = gridAt d.rate j ∧ c.data = .frame b ∧ c.stamp = stamp) ∧
      (c37Accept sid d b j stamp s).disp = s.disp := by
  let bank := activeBank s
  let t := gridAt d.rate j
  let bad := instanceBad (alignQuals bank sid (.frame b))
  let mk : Nat → Cell := fun p => { key := sid, inst := t, fptr := p, fbLen := ceilDiv b.length 64, staging := false, latePartial := false
                                    qual := cellQual bank sid (.frame b) (!bad), stamp := stamp, data := .frame b, waiting := [1024] }
  obtain ⟨p, u, hu, hcellsU⟩ := takeCell_some (key := sid) (t := t) mk hcells hfit
  let v := countStream sid 0 u
  let w := setStream sid { stream v sid with written := (stream v sid).written ++ [j] } v
  let y := streamAccept sid t bad (if c37TqBad bank sid d b then countTqBad sid w else w)
  have hcase : c37Accept sid d b j stamp s = operandWritten sid t stamp y := by
    unfold c37Accept
    dsimp only
    rw [cellWaits_alone hgroups hkeep stamp]
    dsimp only
    rw [if_neg (ne_true_of_eq_false hnew), if_neg (by simp), hu]
    rfl
  have htail : Same 1105954079745 u y :=
    (streamAccept_same ..).step rfl (Same.ite (fun _ => (countTqBad_same ..).step rfl ((setStream_same ..).step rfl
      ((countStream_same ..).of rfl))) (fun _ => (setStream_same ..).step rfl ((countStream_same ..).of rfl)))
  have htake := takeCell_same _ _ _ _ _ _ hu
  have hbank : activeBank y = activeBank s := activeBank_of_banks ((htake.keeps .bank0 rfl).trans (htail.keeps .bank0 rfl)).symm
    ((htake.keeps .bank1 rfl).trans (htail.keeps .bank1 rfl)).symm ((htake.keeps .active rfl).trans (htail.keeps .active rfl)).symm
  rw [hcase, operandWritten_alone (by rw [groupsOf, hbank]; exact hgroups)]
  refine ⟨⟨mk p, mem_cellSweep ?_ rfl, rfl, rfl, rfl, rfl⟩, ((htake.keeps .disp rfl).trans (htail.keeps .disp rfl)).symm⟩
  rw [← htail.keeps .mst rfl, hcellsU]
  exact List.mem_append_right _ (List.mem_singleton_self _)

/-! ### C37.118 data frames -/

/-- A data frame's checks, with the source of an accepted one noted: nothing else of its stream's counts, of the matching store or of
dispatch. -/
theorem c37Frame_checked {f : UdpFrame} {sid : Nat} {d : StreamDef} {s : State} (hf : streamOfUdp s f = some (sid, d)) : ∃ l,
    (stream (c37Frame f s) sid) = { stream (c37Ingest sid d f.bytes f.stamp (prpSeen sid d f.port f.stamp s)) sid with lastSrc := l } ∧
    (c37Frame f s).mst = (c37Ingest sid d f.bytes f.stamp (prpSeen sid d f.port f.stamp s)).mst ∧
    (c37Frame f s).disp = (c37Ingest sid d f.bytes f.stamp (prpSeen sid d f.port f.stamp s)).disp := by
  unfold c37Frame
  rw [hf]
  dsimp only
  generalize c37Ingest sid d f.bytes f.stamp (prpSeen sid d f.port f.stamp s) = u
  split
  · exact ⟨_, mgetD_mput_same _ _ _ _, rfl, rfl⟩
  · exact ⟨(stream u sid).lastSrc, rfl, rfl, rfl⟩

theorem streamOfUdp_type {f : UdpFrame} {sid : Nat} {d : StreamDef} {s : State} (h : streamOfUdp s f = some (sid, d)) : d.type = 1 := by
  unfold streamOfUdp at h
  split at h
  · have hkeys := List.find?_some h
    simp only [keysUdp, Bool.and_eq_true, beq_iff_eq] at hkeys
    obtain ⟨⟨⟨⟨⟨htype, -⟩, -⟩, -⟩, -⟩, -⟩ := hkeys
    exact htype
  · cases h

section
variable {sid : Nat} {d : StreamDef} {f : UdpFrame} {j : Nat} {s : State}

/-- The state in which a C37.118 frame meets its checks. -/
def atC37 (sid : Nat) (d : StreamDef) (f : UdpFrame) (s : State) : State :=
  atIngest sid d f.port (rxClass f.vlan f.pcp 5) (f.held + f.len) f.stamp s

theorem c37FrameReceived_checks (hup : mainUp s = true) (hf : streamOfUdp s f = some (sid, d))
    (hmac : macDrop (port s f.port).cfg f.len f.vlan f.held = none) (hrct : f.rct = none) (hsvc : isSvc s f.dst = false)
    (htype : c37Type f.bytes = 0) : ∃ u l, exec (.c37118FrameReceived f) s = .next (settle u) ∧
      stream u sid = { stream (c37Ingest sid d f.bytes f.stamp (atC37 sid d f s)) sid with lastSrc := l } ∧
      u.mst = (c37Ingest sid d f.bytes f.stamp (atC37 sid d f s)).mst ∧ u.disp = (c37Ingest sid d f.bytes f.stamp (atC37 sid d f s)).disp := by
  let w := received f.port (rxClass f.vlan f.pcp 5) (f.held + f.len) f.stamp s
  have hw : streamOfUdp w f = some (sid, d) := by
    rw [streamOfUdp, matchStream, activeBank_received]
    exact hf
  have hexec : exec (.c37118FrameReceived f) s = .next (settle (c37Frame f w)) := by
    change settled (rowC37118FrameReceived f s) = _
    unfold rowC37118FrameReceived
    rw [if_pos ⟨hup, by simp [hf], by simp [htype]⟩, hrct, macTake_takes hmac]
    dsimp only
    rw [svcInput_other ((isSvc_received ..).trans hsvc)]
    rfl
  obtain ⟨l, hstream, hmst, hdisp⟩ := c37Frame_checked hw
  exact ⟨_, l, hexec, hstream, hmst, hdisp⟩

variable (hup : mainUp s = true) (hf : streamOfUdp s f = some (sid, d))
  (hmac : macDrop (port s f.port).cfg f.len f.vlan f.held = none) (hrct : f.rct = none) (hsvc : isSvc s f.dst = false)
  (htype : c37Type f.bytes = 0)
include hup hf hmac hrct hsvc htype

theorem c37FrameReceived_bad (hbad : c37FrameOk d f.bytes = false) : ∃ u, exec (.c37118FrameReceived f) s = .next u ∧
    mgetD (stream u sid).counts 6 0 = satAdd 0xFFFFFFFF (mgetD (stream s sid).counts 6 0) 1 := by
  obtain ⟨u, l, hexec, hstream, -, -⟩ := c37FrameReceived_checks hup hf hmac hrct hsvc htype
  obtain ⟨a, b, hat⟩ := atIngest_stream sid d f.port (rxClass f.vlan f.pcp 5) (f.held + f.len) f.stamp s
  refine ⟨_, hexec, ?_⟩
  rw [stream_settle, hstream, c37Ingest_bad hbad, counts_countStream, atC37, hat]

theorem c37FrameReceived_idle (hok : c37FrameOk d f.bytes = true) (hstate : (stream s sid).state ≠ .cfgMismatch)
    (hj : c37Instant s d f.bytes = some j) (hfuture : isFuture d.rate (gridAt d.rate j) f.stamp = false) (hidle : inRun s = false) :
    ∃ u, exec (.c37118FrameReceived f) s = .next u ∧
      mgetD (stream u sid).counts 0 0 = satAdd 0xFFFFFFFF (mgetD (stream s sid).counts 0 0) 1 := by
  obtain ⟨u, l, hexec, hstream, -, -⟩ := c37FrameReceived_checks hup hf hmac hrct hsvc htype
  obtain ⟨a, b, hat⟩ := atIngest_stream sid d f.port (rxClass f.vlan f.pcp 5) (f.held + f.len) f.stamp s
  refine ⟨_, hexec, ?_⟩
  rw [stream_settle, hstream, c37Ingest_passes hok (by rw [atC37, hat]; exact hstate) (by rw [atC37, c37Instant_atIngest]; exact hj) hfuture,
    atC37, inRun_atIngest, if_neg (by simp [hidle]), counts_countStream, hat]

theorem c37FrameReceived_takes (hdrop : s.disp.dropped = []) (hok : c37FrameOk d f.bytes = true)
    (hstate : (stream s sid).state ≠ .cfgMismatch) (hj : c37Instant s d f.bytes = some j)
    (hfuture : isFuture d.rate (gridAt d.rate j) f.stamp = false) (hrun : inRun s = true)
    (hd : mget (activeBank s).streams sid = some d) (hgroups : groupsOf s sid = []) (hnew : (stream s sid).written.contains j = false)
    (hlate : max (now s) f.stamp < gridAt d.rate (j + 2)) (hcells : s.mst.cells.length < Config.maxCells)
    (hfit : (fbFit (ceilDiv f.bytes.length 64) s.mst.fb 0).isSome = true) : ∃ u, exec (.c37118FrameReceived f) s = .next u ∧
      ∃ c ∈ u.mst.cells, c.key = sid ∧ c.inst = gridAt d.rate j ∧ c.data = .frame f.bytes ∧ c.stamp = f.stamp := by
  obtain ⟨u, l, hexec, -, hmst, hdisp⟩ := c37FrameReceived_checks hup hf hmac hrct hsvc htype
  obtain ⟨a, b, hat⟩ := atIngest_stream sid d f.port (rxClass f.vlan f.pcp 5) (f.held + f.len) f.stamp s
  have hsame := atIngest_same sid d f.port (rxClass f.vlan f.pcp 5) (f.held + f.len) f.stamp s
  have hbank := activeBank_atIngest sid d f.port (rxClass f.vlan f.pcp 5) (f.held + f.len) f.stamp s
  have htype1 := streamOfUdp_type hf
  have hnow : now (atC37 sid d f s) = max (now s) f.stamp := by
    rw [now, atC37, atIngest_tb]
    exact now_advanceTo f.stamp s
  have hingest : c37Ingest sid d f.bytes f.stamp (atC37 sid d f s) = c37Accept sid d f.bytes j f.stamp (atC37 sid d f s) := by
    rw [c37Ingest_passes hok (by rw [atC37, hat]; exact hstate) (by rw [atC37, c37Instant_atIngest]; exact hj) hfuture]
    exact if_pos (by rw [atC37, inRun_atIngest]; exact hrun)
  have hatMst : (atC37 sid d f s).mst = s.mst := (hsame.keeps .mst rfl).symm
  obtain ⟨⟨c, hc, hkey⟩, hkept⟩ := c37Accept_takes (sid := sid) (d := d) (b := f.bytes) (j := j) (stamp := f.stamp) (s := atC37 sid d f s)
    (by rw [groupsOf, atC37, hbank]; exact hgroups)
    (keepsCell_of_lt (by rw [atC37, hbank]; exact hd) (by omega) (by omega) (by rw [hnow]; exact hlate))
    (by rw [atC37, hat]; exact hnew) (by rw [hatMst]; exact hcells) (by rw [hatMst]; exact hfit)
  rw [hingest] at hmst hdisp
  have hnone : u.disp.dropped = [] := by rw [hdisp, hkept, atC37, ← hsame.keeps .disp rfl, hdrop]
  exact ⟨_, hexec, c, by rw [settle_mst hnone, hmst]; exact hc, hkey⟩

end

/-! ### Sampled values -/

/-- What the judgement of a stream's instants leaves of it: its counts, and the instant judged last. -/
structure Judges (sid : Nat) (s u : State) : Prop where
  counts : (stream u sid).counts = (stream s sid).counts
  judged : (stream u sid).judged = (stream s sid).judged

section
variable (sid : Nat) (t : Instant) (m : StMark) (s : State)

theorem Judges.refl : Judges sid s s := ⟨rfl, rfl⟩

theorem Judges.trans {sid : Nat} {s u v : State} (h : Judges sid s u) (k : Judges sid u v) : Judges sid s v :=
  ⟨k.counts.trans h.counts, k.judged.trans h.judged⟩

theorem noteIngest_judges (sev : Nat) (name : Bytes) : Judges sid s (noteIngest sev sid name s) := by
  have hstream := stream_congr ((noteIngest_same sev sid name s).keeps .streams rfl).symm sid
  exact ⟨congrArg StreamRun.counts hstream, congrArg StreamRun.judged hstream⟩

theorem setStream_judges {r : StreamRun} (hc : r.counts = (stream s sid).counts) (hj : r.judged = (stream s sid).judged) :
    Judges sid s (setStream sid r s) := by
  have hstream : stream (setStream sid r s) sid = r := mgetD_mput_same _ _ _ _
  exact ⟨(congrArg StreamRun.counts hstream).trans hc, (congrArg StreamRun.judged hstream).trans hj⟩

theorem count_judges (n : Nat) : Judges sid s (count n s) := ⟨rfl, rfl⟩

theorem histAdd_judges : Judges sid s (histAdd sid t m s) := by
  unfold histAdd
  exact setStream_judges sid s rfl rfl

theorem streamDrop_judges : Judges sid s (streamDrop sid s) := by
  unfold streamDrop
  refine Judges.trans ?_ (noteIngest_judges ..)
  refine Judges.trans ?_ (count_judges ..)
  exact setStream_judges sid s rfl rfl

theorem streamMiss_judges : Judges sid s (streamMiss sid t m s) := by
  have hadd : ∀ n, Judges sid s (histAdd sid t m (setStream sid { stream s sid with missRun := n } s)) := fun n => by
    refine Judges.trans ?_ (histAdd_judges ..)
    exact setStream_judges sid s rfl rfl
  unfold streamMiss
  split
  · exact .refl sid s
  · dsimp only
    split
    · exact .refl sid s
    · exact hadd _
    · exact hadd _
    · split
      · exact (hadd _).trans (streamDrop_judges ..)
      · exact hadd _

theorem streamGood_judges : Judges sid s (streamGood sid t s) := by
  unfold streamGood
  dsimp only
  split
  · refine (histAdd_judges sid t .good s).trans (Judges.trans ?_ (noteIngest_judges ..))
    exact setStream_judges sid _ rfl rfl
  · refine (histAdd_judges sid t .good s).trans ?_
    exact setStream_judges sid _ rfl rfl

theorem streamAccept_judges (bad : Bool) : Judges sid s (streamAccept sid t bad s) := by
  unfold streamAccept
  dsimp only
  split
  · split
    · exact setStream_judges sid s rfl rfl
    · refine Judges.trans ?_ (streamMiss_judges ..)
      exact setStream_judges sid s rfl rfl
  · refine Judges.trans ?_ (streamGood_judges ..)
    exact setStream_judges sid s rfl rfl

theorem countTqBad_judges : Judges sid s (countTqBad sid s) := by
  refine Judges.trans ?_ (count_judges ..)
  exact setStream_judges sid s rfl rfl

theorem svHeard_judges (n : Nat) : Judges sid s (svHeard sid n t s) := setStream_judges sid s rfl rfl

end

section
variable {sid : Nat} {d : StreamDef} {f : SvFrame} {a : Asdu} {s : State}

theorem svAccept_counts {n : Nat} {stamp : Instant} (hopts : bit d.opts 3 = false) (hchain : filterTmpl (activeBank s) sid = none)
    (hnew : (stream s sid).written.contains n = false) : mgetD (stream (svAccept sid d n a stamp s) sid).counts 0 0 =
      satAdd 0xFFFFFFFF (mgetD (stream s sid).counts 0 0) 1 := by
  have hprimary : primaryOf (activeBank s) sid d = some (sid, d, false) := if_pos (by simp [hopts])
  unfold svAccept
  dsimp only
  rw [if_neg (ne_true_of_eq_false hnew), hprimary]
  dsimp only
  rw [hchain]
  dsimp only
  rw [(streamAccept_judges ..).counts, ← counts_countStream]
  split
  · rw [(countTqBad_judges ..).counts, (svHeard_judges ..).counts]
  · rw [(svHeard_judges ..).counts]

/-- The state in which a sampled-value frame meets its checks. -/
def atSv (sid : Nat) (d : StreamDef) (f : SvFrame) (s : State) : State :=
  atIngest sid d f.port (rxClass f.vlan f.pcp 6) (f.held + f.len) f.stamp s

theorem leaveMismatch_of_ne (h : (stream s sid).state ≠ .cfgMismatch) (record : Bool) : leaveMismatch sid d record s = s := if_pos h

theorem ringTake_none (h : s.caps = []) (rate n : Nat) (vals : List (Int × Nat)) (stamp : Instant) :
    ringTake sid rate n vals stamp s = s := by
  unfold ringTake
  rw [h]
  rfl

theorem svFrameReceived_counts (hup : mainUp s = true) (hf : streamOfSv s f = some (sid, d))
    (hmac : macDrop (port s f.port).cfg f.len f.vlan f.held = none) (hrct : f.rct = none) (hl2 : f.l2 = true)
    (hformed : f.wellFormed = true) (hsim : f.sim = false) (hlen : f.len ≤ 9216) (hasdus : f.asdus = [a]) (hvals : a.vals.length = d.nch)
    (hrev : a.confRev = d.tbConf) (hsmp : a.smpCnt < d.rate) (hstate : (stream s sid).state ≠ .cfgMismatch) (hcaps : s.caps = [])
    (hrun : inRun s = true → bit d.opts 3 = false ∧ filterTmpl (activeBank s) sid = none ∧
      (stream s sid).written.contains (svInstant d.rate a.smpCnt f.stamp) = false) : ∃ u, exec (.svFrameReceived f) s = .next u ∧
      mgetD (stream u sid).counts 0 0 = satAdd 0xFFFFFFFF (mgetD (stream s sid).counts 0 0) 1 := by
  let w := received f.port (rxClass f.vlan f.pcp 6) (f.held + f.len) f.stamp s
  let v := atSv sid d f s
  obtain ⟨x, y, hat⟩ : ∃ x y, stream v sid = { stream s sid with prpA := x, prpB := y } := atIngest_stream ..
  have hw : streamOfSv w f = some (sid, d) := by
    rw [streamOfSv, matchStream, activeBank_received]
    exact hf
  have hasdu : svFrame f w = svAsdu sid d f.stamp v a := by
    unfold svFrame
    rw [hw]
    dsimp only
    rw [if_neg (by simp [hl2]), if_neg (by simp [hformed, hasdus, hsim, hvals]; omega), if_neg (by simp [hasdus, hrev]), hasdus]
    exact congrArg (svAsdu sid d f.stamp · a) (leaveMismatch_of_ne (s := v) (by rw [hat]; exact hstate) true)
  have hexec : exec (.svFrameReceived f) s = .next (settle (svFrame f w)) := by
    change settled (rowSvFrameReceived f s) = _
    unfold rowSvFrameReceived
    rw [if_pos ⟨hup, by simp [hf]⟩, hrct, macTake_takes hmac]
    dsimp only
    rw [if_pos hl2, svcInput_other (s := w) (addr := 0) (by simp [isSvc])]
    rfl
  have hcapsV : v.caps = [] := ((atIngest_same ..).keeps .caps rfl).symm.trans hcaps
  have hcount : mgetD (stream (svAsdu sid d f.stamp v a) sid).counts 0 0 = satAdd 0xFFFFFFFF (mgetD (stream v sid).counts 0 0) 1 := by
    unfold svAsdu
    rw [if_neg (by omega)]
    dsimp only
    rw [ringTake_none hcapsV]
    split
    next h =>
      obtain ⟨hopts, hchain, hnew⟩ := hrun ((inRun_atIngest ..).symm.trans h)
      exact svAccept_counts hopts (by rw [show activeBank v = activeBank s from activeBank_atIngest ..]; exact hchain) (by rw [hat]; exact hnew)
    next => exact counts_countStream ..
  refine ⟨_, hexec, ?_⟩
  rw [stream_settle, hasdu, hcount, hat]

end

/-! ### Injection records -/

section
variable {m : Fin 16} {p : Bytes} {rest : List Bytes} {sid j : Nat} {d : StreamDef} {s : State}

theorem iqDrained_pkts (q : Iq) : (iqDrained q).pkts = q.pkts := by
  unfold iqDrained
  split <;> rfl

theorem mirrorOut_solo (h : s.cas.role = .solo) (port len : Nat) (stamp : Instant) (item : MirrorItem) :
    mirrorOut port len stamp item s = s := if_pos (.inl (by rw [h]; decide))

theorem injectionRecordTaken_counts (hup : mainUp s = true) (hpkts : (iq s m).pkts = p :: rest) (hsid : fld p 0 2 = sid)
    (hlen : fld p 2 2 + 16 = p.length) (hlo : 16 ≤ fld p 2 2) (hhi : fld p 2 2 ≤ 9216)
    (hd : mget (activeBank s).streams sid = some d) (htype : d.type = 2) (hsolo : s.cas.role = .solo)
    (hpast : fld p 8 6 * 2 ^ 32 + fld p 4 4 ≤ now s) (hok : c37FrameOk d (p.drop 16) = true)
    (hstate : (stream s sid).state ≠ .cfgMismatch) (hj : c37Instant s d (p.drop 16) = some j)
    (hfuture : isFuture d.rate (gridAt d.rate j) (fld p 8 6 * 2 ^ 32 + fld p 4 4) = false) (hidle : inRun s = false) :
    ∃ u, exec (.injectionRecordTaken m) s = .next u ∧ (iq u m).pkts = rest ∧
      mgetD (stream u sid).counts 0 0 = satAdd 0xFFFFFFFF (mgetD (stream s sid).counts 0 0) 1 := by
  let stamp := fld p 8 6 * 2 ^ 32 + fld p 4 4
  let w := setIq m (iqDrained { iq s m with pkts := rest }) s
  have hcounted : c37Ingest sid d (p.drop 16) stamp w = countStream sid 0 w :=
    (c37Ingest_passes (s := w) hok hstate hj hfuture).trans (if_neg (by rw [show inRun w = inRun s from rfl]; simp [hidle]))
  have hrecord : recordIngest sid stamp (p.drop 16) w = countStream sid 0 w := by
    unfold recordIngest
    rw [show mget (activeBank w).streams sid = some d from hd]
    exact (if_pos htype).trans hcounted
  have hexec : exec (.injectionRecordTaken m) s = .next (settle (countStream sid 0 w)) := by
    change settled (rowInjectionRecordTaken m s) = _
    unfold rowInjectionRecordTaken
    dsimp only
    rw [hpkts]
    dsimp only
    rw [if_neg (by simp [hup]), if_neg (by simp [emits, actRole, setIq, hsolo]), hsid,
      show mget (activeBank (setIq m (iqDrained { iq s m with pkts := rest }) s)).streams sid = some d from hd]
    dsimp only
    rw [if_neg (by simp [htype]; omega), if_neg (Nat.not_lt.2 (show fld p 8 6 * secU + fld p 4 4 ≤ now w from hpast))]
    rw [mirrorOut_solo (s := w) hsolo]
    exact congrArg (fun u => Host.Outcome.next (settle u)) hrecord
  refine ⟨_, hexec, ?_, ?_⟩
  · rw [iq, ← (settle_same _).keeps .iqs rfl]
    exact (congrArg Iq.pkts (mgetD_mput_same s.iqs m.val _ {})).trans (iqDrained_pkts _)
  · rw [stream_settle, counts_countStream]
    rfl

end

/-- Settles O55. -/
theorem ingestFramesComplete : Obligations.IngestFramesComplete := by
  unfold Obligations.IngestFramesComplete
  intro sid d j s hup hdrop
  refine ⟨fun f hf hmac hrct hsvc htype => ⟨c37FrameReceived_bad hup hf hmac hrct hsvc htype,
    c37FrameReceived_idle hup hf hmac hrct hsvc htype, c37FrameReceived_takes hup hf hmac hrct hsvc htype hdrop⟩,
    fun f a => svFrameReceived_counts hup, fun m p rest => injectionRecordTaken_counts hup⟩

end Sys2Proof.Machine
end

section
/-! Ingest of R-GOOSE publications and configuration frames, and the judgement of missing instants (04 R84, R88, R95-R107). -/

namespace Sys2Proof.Machine

/-! ### Publications -/

theorem settle_cas {s : State} (h : s.disp.dropped = []) : (settle s).cas = s.cas := by
  unfold settle
  rw [h]
  exact ((Same.foldl (fun s n => exchangeDue_same n s) (Same.refl _)).keeps .cas rfl).symm

theorem authOk_congr {s t : State} (h : t.gh.lockers = s.gh.lockers) (locker : Nat) (sig : Option SpduSig) :
    authOk t locker sig = authOk s locker sig := by
  simp only [authOk, spduLocker, lockerFor, h]

/-- What a stream holds of a publication. -/
def heldOf (d : StreamDef) (f : GooseFrame) : GooseHeld :=
  { stNum := f.stNum, sqNum := f.sqNum, until_ := f.stamp + msU f.ttlMs, members := f.members, qual := gooseQual d f, stamp := f.stamp }

section
variable {sid : Nat} {d : StreamDef} {f : GooseFrame} {s : State}

/-- The first good publication of a stream is held. -/
theorem goosePub_holds (hf : streamOfGoose s f = some (sid, d)) (hauth : authOk s d.locker f.sig = true) (hformed : f.wellFormed = true)
    (hsim : f.sim = false) (hlen : f.len ≤ 9216) (hmembers : f.members.length = d.nch) (hrev : f.confRev = d.tbConf)
    (hstate : (stream s sid).state ≠ .cfgMismatch) (hrun : inRun s = true) (hnone : (stream s sid).held = none) :
    (stream (goosePub f s) sid).held = some (heldOf d f) := by
  let v := prpSeen sid d f.port f.stamp s
  obtain ⟨a, b, hv⟩ : ∃ a b, stream v sid = { stream s sid with prpA := a, prpB := b } := prpSeen_stream ..
  have hlockers : v.gh.lockers = s.gh.lockers :=
    (congrArg Gatehouse.lockers ((prpSeen_same sid d f.port f.stamp s).keeps .gh rfl)).symm
  have hauthV : authOk v d.locker f.sig = true := (authOk_congr hlockers ..).trans hauth
  have hrunV : inRun v = true :=
    (congrArg (fun w : Power => decide (w.ps = .run)) ((prpSeen_same sid d f.port f.stamp s).keeps .pwr rfl)).symm.trans hrun
  have hleave : leaveMismatch sid d true v = v := leaveMismatch_of_ne (by rw [hv]; exact hstate) true
  unfold goosePub
  rw [hf]
  dsimp only
  rw [if_neg (by simp [show authOk (prpSeen sid d f.port f.stamp s) d.locker f.sig = true from hauthV]),
    if_neg (by simp [hformed, hsim, hmembers]; omega), if_neg (by simp [hrev]),
    show leaveMismatch sid d true (prpSeen sid d f.port f.stamp s) = v from hleave, if_neg (by simp [hrunV]), hv]
  dsimp only
  rw [hnone]
  rw [if_neg (by simp), stream_countStream]
  exact congrArg StreamRun.held (mgetD_mput_same _ _ _ _)

theorem gooseRPublicationReceived_holds (hup : mainUp s = true) (hf : streamOfGoose s f = some (sid, d))
    (hmac : macDrop (port s f.port).cfg f.len f.vlan f.held = none) (hrct : f.rct = none) (hsvc : isSvc s f.dst = false)
    (hauth : authOk s d.locker f.sig = true) (hformed : f.wellFormed = true) (hsim : f.sim = false) (hlen : f.len ≤ 9216)
    (hmembers : f.members.length = d.nch) (hrev : f.confRev = d.tbConf) (hstate : (stream s sid).state ≠ .cfgMismatch)
    (hrun : inRun s = true) (hnone : (stream s sid).held = none) :
    ∃ u, exec (.gooseRPublicationReceived f) s = .next u ∧ (stream u sid).held = some (heldOf d f) := by
  let w := received f.port (rxClass f.vlan f.pcp 6) (f.held + f.len) f.stamp s
  have hsame : Same 1107044597768 s w := received_same ..
  have hexec : exec (.gooseRPublicationReceived f) s = .next (goosePub f w) := by
    change execGooseRPublicationReceived f s = _
    unfold execGooseRPublicationReceived
    rw [if_pos ⟨hup, by simp [hf]⟩, hrct, macTake_takes hmac]
    dsimp only
    rw [svcInput_other ((isSvc_received ..).trans hsvc)]
    rfl
  have hw : streamOfGoose w f = some (sid, d) := by
    rw [streamOfGoose, matchStream, activeBank_received]
    exact hf
  have hlockers : w.gh.lockers = s.gh.lockers := (congrArg Gatehouse.lockers (hsame.keeps .gh rfl)).symm
  have hrunW : inRun w = true := (congrArg (fun x : Power => decide (x.ps = .run)) (hsame.keeps .pwr rfl)).symm.trans hrun
  have hstream : stream w sid = stream s sid := stream_received ..
  exact ⟨_, hexec, goosePub_holds hw ((authOk_congr hlockers ..).trans hauth) hformed hsim hlen hmembers hrev
    (by rw [hstream]; exact hstate) hrunW (by rw [hstream]; exact hnone)⟩

/-- A publication that the partner mirrors is held as one from the port. -/
theorem mirrorReceived_holds (hdrop : s.disp.dropped = []) (hf : streamOfGoose s f = some (sid, d)) (hauth : authOk s d.locker f.sig = true)
    (hformed : f.wellFormed = true) (hsim : f.sim = false) (hlen : f.len ≤ 9216) (hmembers : f.members.length = d.nch)
    (hrev : f.confRev = d.tbConf) (hstate : (stream s sid).state ≠ .cfgMismatch) (hacts : casActs s = true)
    (hkey : lockerLoaded s 63 = true) (hrole : s.cas.role = .standby) (hnone : (stream s sid).held = none) :
    ∃ u, exec (.mirrorReceived (.goose f) true) s = .next u ∧ (stream u sid).held = some (heldOf d f) ∧ u.cas.twinUp = true := by
  have hexec : exec (.mirrorReceived (.goose f) true) s = .next (settle (goosePub f (twinHeard s))) := by
    change execMirrorReceived (.goose f) true s = _
    unfold execMirrorReceived
    rw [if_neg (by simp [hacts]), twinTake_good hacts hkey]
    dsimp only
    rw [if_neg (by simp [twinHeard, hrole])]
    rfl
  have hrun : inRun s = true := (Bool.and_eq_true_iff.1 hacts).1
  have hkept : (goosePub f (twinHeard s)).disp = s.disp := ((goosePub_same ..).keeps .disp rfl).symm
  refine ⟨_, hexec, ?_, ?_⟩
  · rw [stream_settle]
    exact goosePub_holds (s := twinHeard s) hf hauth hformed hsim hlen hmembers hrev hstate hrun hnone
  · rw [settle_cas (by rw [hkept, hdrop]), ← (goosePub_same ..).keeps .cas rfl]
    rfl

end

/-! ### The operand of a dataset -/

theorem gooseOperand_takes {sid : Nat} {d : StreamDef} {h : GooseHeld} {t : Instant} {s : State} (hheld : (stream s sid).held = some h)
    (hstamp : h.stamp < t) (hgroups : groupsOf s sid = []) (hkeep : keepsCell s sid t = true)
    (hcells : s.mst.cells.length < Config.maxCells) (hfit : (fbFit (ceilDiv (max 64 (4 * d.nch)) 64) s.mst.fb 0).isSome = true) :
    (∃ c ∈ (gooseOperand sid d t s).mst.cells, c.key = sid ∧ c.inst = t ∧ c.data = .dataset h.members h.qual (decide (h.until_ ≤ t))) ∧
      (gooseOperand sid d t s).disp = s.disp := by
  let bad := decide (h.until_ ≤ t)
  let data := OperandData.dataset h.members h.qual bad
  let qs := alignQuals (activeBank s) sid data
  let nb := max 64 (4 * d.nch)
  let mk : Nat → Cell := fun p => { key := sid, inst := t, fptr := p, fbLen := ceilDiv nb 64, staging := false, latePartial := false
                                    qual := cellQual (activeBank s) sid data (!(instanceBad qs || bad)), stamp := t, data := data
                                    waiting := [1024] }
  obtain ⟨p, u, hu, hcellsU⟩ := takeCell_some (key := sid) (t := t) mk hcells hfit
  have hbefore : heldBefore (stream s sid) t = some h := by
    unfold heldBefore
    rw [hheld]
    exact if_pos hstamp
  let v := setStream sid { stream u sid with written := (stream u sid).written ++ [gridFloor d.rate t] } u
  let w := if !bad ∧ instanceBad qs ∧ qbit h.qual 1 ∧ tqMode d = 0 ∧ !(qbit h.qual 2 && !tqAcceptTest d) then countTqBad sid v else v
  let y := if (some h).isNone ∧ (stream w sid).state = .idle then w else streamAccept sid t (instanceBad qs || bad) w
  have hcase : gooseOperand sid d t s = operandWritten sid t t y := by
    unfold gooseOperand
    dsimp only
    rw [hbefore, cellWaits_alone hgroups hkeep t]
    dsimp only
    rw [hu]
  have hv : Same 1105954079745 u v := (setStream_same ..).of rfl
  have hw : Same 1105954079745 u w := Same.ite (fun _ => (countTqBad_same ..).step rfl hv) (fun _ => hv)
  have htail : Same 1105954079745 u y := Same.ite (fun _ => hw) (fun _ => (streamAccept_same ..).step rfl hw)
  have htake := takeCell_same _ _ _ _ _ _ hu
  have hbank : activeBank y = activeBank s := activeBank_of_banks ((htake.keeps .bank0 rfl).trans (htail.keeps .bank0 rfl)).symm
    ((htake.keeps .bank1 rfl).trans (htail.keeps .bank1 rfl)).symm ((htake.keeps .active rfl).trans (htail.keeps .active rfl)).symm
  rw [hcase, operandWritten_alone (by rw [groupsOf, hbank]; exact hgroups)]
  refine ⟨⟨mk p, mem_cellSweep ?_ rfl, rfl, rfl, rfl⟩, ((htake.keeps .disp rfl).trans (htail.keeps .disp rfl)).symm⟩
  rw [← htail.keeps .mst rfl, hcellsU]
  exact List.mem_append_right _ (List.mem_singleton_self _)

theorem gooseOperandInstant_takes {sid : Nat} {d : StreamDef} {h : GooseHeld} {t : Instant} {s : State} (hdrop : s.disp.dropped = [])
    (hd : mget (activeBank s).streams sid = some d) (htype : d.type = 5) (hrun : inRun s = true) (hgrid : onGrid d.rate t = true)
    (hnew : (stream s sid).written.contains (gridFloor d.rate t) = false) (hgroups : groupsOf s sid = [])
    (hheld : (stream s sid).held = some h) (hstamp : h.stamp < t) (hlate : max (now s) t < gridAt d.rate (gridFloor d.rate t + 2))
    (hcells : s.mst.cells.length < Config.maxCells) (hfit : (fbFit (ceilDiv (max 64 (4 * d.nch)) 64) s.mst.fb 0).isSome = true) :
    ∃ u, exec (.gooseOperandInstant sid t) s = .next u ∧ ∃ c ∈ u.mst.cells, c.key = sid ∧ c.inst = t ∧
      c.data = .dataset h.members h.qual (decide (h.until_ ≤ t)) := by
  let w := advanceTo t s
  have hexec : exec (.gooseOperandInstant sid t) s = .next (settle (gooseOperand sid d t w)) := by
    change settled (rowGooseOperandInstant sid t s) = _
    unfold rowGooseOperandInstant
    rw [hd]
    dsimp only
    rw [if_pos ⟨hrun, htype, hgrid, by rw [hnew]; rfl⟩]
    rfl
  have hbank : activeBank w = activeBank s := activeBank_advanceTo t s
  have hstream : stream w sid = stream s sid := stream_congr (advanceTo_streams s t) sid
  have hmst : w.mst = s.mst := advanceTo_mst s t
  have hkeep : keepsCell w sid t = true := by
    unfold keepsCell
    rw [hbank, hd, now_advanceTo]
    simp [htype, Nat.max_lt.1 hlate]
  obtain ⟨⟨c, hc, hkey⟩, hkept⟩ := gooseOperand_takes (s := w) (d := d) (by rw [hstream]; exact hheld) hstamp
    (by rw [groupsOf, hbank]; exact hgroups) hkeep (by rw [hmst]; exact hcells) (by rw [hmst]; exact hfit)
  have hnone : (gooseOperand sid d t w).disp.dropped = [] := by rw [hkept, show w.disp = s.disp from advanceTo_disp s t, hdrop]
  exact ⟨_, hexec, c, by rw [settle_mst hnone]; exact hc, hkey⟩

/-! ### Configuration frames -/

section
variable {sid : Nat} {d : StreamDef} {s : State}

theorem stream_setStream (r : StreamRun) : stream (setStream sid r s) sid = r := mgetD_mput_same _ _ _ _

theorem state_setStream_ne {r : StreamRun} (h : r.state ≠ .cfgMismatch) : (stream (setStream sid r s) sid).state ≠ .cfgMismatch := by
  rwa [stream_setStream]

theorem state_noteIngest (sev : Nat) (name : Bytes) : (stream (noteIngest sev sid name s) sid).state = (stream s sid).state :=
  congrArg StreamRun.state (stream_congr ((noteIngest_same ..).keeps .streams rfl).symm sid)

theorem state_streamDrop : (stream (streamDrop sid s) sid).state = .dropped := by
  unfold streamDrop
  exact (state_noteIngest ..).trans (congrArg StreamRun.state (stream_setStream ..))

theorem state_leaveMismatch : (stream (leaveMismatch sid d false s) sid).state ≠ .cfgMismatch := by
  unfold leaveMismatch
  dsimp only
  by_cases h : (stream s sid).state = .cfgMismatch
  case neg =>
    rw [if_pos h]
    exact h
  case pos =>
    rw [if_neg (not_not.2 h), if_neg Bool.false_ne_true]
    split
    · exact state_setStream_ne nofun
    · split
      · split
        · exact state_setStream_ne nofun
        · exact state_streamDrop.symm ▸ nofun
      · exact state_setStream_ne nofun

theorem state_enterMismatch : (stream (enterMismatch sid true s) sid).state = .cfgMismatch := by
  unfold enterMismatch
  dsimp only
  by_cases h : (stream s sid).state = .cfgMismatch
  case pos =>
    rw [if_pos h]
    exact h
  case neg =>
    rw [if_neg h, if_pos rfl, stream_congr ((raiseVector_same ..).keeps .streams rfl).symm, state_noteIngest, histAdd, stream_setStream,
      stream_setStream]

theorem cfgFrameReceived_judges {f : CfgFrame} (hup : mainUp s = true) (hf : streamOfCfg s f = some (sid, d))
    (hmac : macDrop (port s f.port).cfg f.len f.vlan f.held = none) (hrct : f.rct = none) (hsvc : isSvc s f.dst = false)
    (hsize : f.frameSize = f.len) (hchk : f.chkOk = true) (hread : f.readable = true) (hkind : f.kind = 2) :
    ∃ u, exec (.cfgFrameReceived f) s = .next u ∧ ((stream u sid).state = .cfgMismatch ↔ cfgAgrees d f = false) := by
  let w := received f.port (rxClass f.vlan f.pcp 5) (f.held + f.len) f.stamp s
  let v := prpSeen sid d f.port f.stamp w
  have hw : streamOfCfg w f = some (sid, d) := by
    rw [streamOfCfg, matchStream, activeBank_received]
    exact hf
  have hframe : cfgFrame true f w = cfgToRing f sid (if cfgAgrees d f then leaveMismatch sid d false v else enterMismatch sid true v) := by
    unfold cfgFrame
    rw [hw]
    dsimp only
    rw [if_neg (by simp [hsize, hchk]), if_neg (by simp [hread]), if_neg (by simp [hkind])]
    rfl
  have hexec : exec (.cfgFrameReceived f) s = .next (cfgFrame true f w) := by
    change execCfgFrameReceived f s = _
    unfold execCfgFrameReceived
    rw [if_pos ⟨hup, by simp [hf]⟩, hrct, macTake_takes hmac]
    dsimp only
    rw [svcInput_other ((isSvc_received ..).trans hsvc)]
    rfl
  refine ⟨_, hexec, ?_⟩
  rw [hframe, stream_congr ((cfgToRing_same ..).keeps .streams rfl).symm]
  cases hagree : cfgAgrees d f with
  | true => simp [state_leaveMismatch]
  | false => simp [state_enterMismatch]

/-! ### Missing instants -/

theorem limitPassed_waits (t : Instant) : ∀ c ∈ (limitPassed sid t s).mst.cells, c.key = sid → c.inst = t → 1024 ∉ c.waiting := by
  intro c hc hkey hinst
  obtain ⟨hmem, -⟩ := List.mem_filter.1 hc
  obtain ⟨c', -, rfl⟩ := List.mem_map.1 hmem
  by_cases h : c'.key = sid ∧ c'.inst = t
  · rw [if_pos h]
    simp
  · rw [if_neg h] at hkey hinst
    exact absurd ⟨hkey, hinst⟩ h

theorem streamMissingLimit_judges {t : Instant} (hd : mget (activeBank s).streams sid = some d) (hrun : inRun s = true)
    (hgrid : onGrid d.rate t = true) (hgroups : groupsOf s sid = []) (hnone : (stream s sid).judged = none) :
    ∃ u, exec (.streamMissingLimit sid t) s = .next u ∧ (stream u sid).judged = some (gridFloor d.rate t) ∧
      (∀ c ∈ u.mst.cells, c.key = sid → c.inst = t → 1024 ∉ c.waiting) ∧ gridAt d.rate (gridFloor d.rate t + 2) ≤ now u := by
  let j := gridFloor d.rate t
  let v := advanceTo (gridAt d.rate (j + 2)) s
  let w := setStream sid { stream s sid with judged := some j } v
  have hexec : ∃ y, exec (.streamMissingLimit sid t) s = .next (limitPassed sid t y) ∧ (y = w ∨ y = noteMissed sid t w) := by
    change ∃ y, execStreamMissingLimit sid t s = _ ∧ _
    unfold execStreamMissingLimit
    rw [hd]
    dsimp only
    rw [hnone]
    dsimp only
    rw [if_pos ⟨hrun, hgrid, by rw [hgroups]; rfl, rfl⟩]
    exact ⟨_, rfl, (ite_eq_or_eq _ _ _).symm⟩
  obtain ⟨y, hexec, hy⟩ := hexec
  have hw : (stream w sid).judged = some j := congrArg StreamRun.judged (stream_setStream ..)
  have hbase : (stream y sid).judged = some j ∧ now y = now v := by
    rcases hy with rfl | rfl
    · exact ⟨hw, rfl⟩
    · refine ⟨?_, now_congr (congrArg TimeBase.count ((noteMissed_same sid t w).keeps .tb rfl)).symm⟩
      unfold noteMissed
      have hset := setStream_judges (r := { stream w sid with missed := (stream w sid).missed ++ [t] }) sid w rfl rfl
      exact (streamMiss_judges ..).judged.trans (hset.judged.trans hw)
  obtain ⟨hj, hnow⟩ := hbase
  refine ⟨_, hexec, ?_, limitPassed_waits t, ?_⟩
  · rw [stream_congr ((limitPassed_same sid t y).keeps .streams rfl).symm, hj]
  · change _ ≤ now y
    rw [hnow]
    exact le_now_advanceTo s _

end

/-- Settles O56. -/
theorem publicationsAndConfigurationsComplete : Obligations.PublicationsAndConfigurationsComplete := by
  unfold Obligations.PublicationsAndConfigurationsComplete
  intro sid d s hup hdrop
  exact ⟨fun f => gooseRPublicationReceived_holds hup, fun f => mirrorReceived_holds hdrop, fun t h => gooseOperandInstant_takes hdrop,
    fun f => cfgFrameReceived_judges hup, fun t => streamMissingLimit_judges⟩

end Sys2Proof.Machine
end

section
/-! The issues of the schedule (03 R69; 05 R119; 08 R194, R206; 09 R220; 12 R334, R337; 14 R384). -/

namespace Sys2Proof.Machine

/-! ### An issue takes place -/

theorem issueOf_action {s : State} {a n i : Nat} {e : SchedEntry} {t : Instant} (h : issueOf s a n i = some (e, t)) : e.action = a := by
  unfold issueOf at h
  split at h
  · cases h
  · split at h
    · cases h
    · split at h
      · cases h
      next hno =>
        simp only [Option.some.injEq, Prod.mk.injEq] at h
        rw [← h.1]
        exact Decidable.not_not.1 fun hne => hno (.inl hne)

/-- The rows of the schedule's actions run its sequence. -/
theorem issueRow_sequences {a : Nat} (hlo : 1 ≤ a) (hhi : a ≤ 7) (n i : Nat) (s : State) : exec (issueRow a n i) s = sequence a n i s := by
  interval_cases a <;> rfl

theorem sequence_runs {s : State} {a n i : Nat} {e : SchedEntry} {t : Instant} (hrun : inRun s = true)
    (hof : issueOf s a n i = some (e, t)) : sequence a n i s = .next (((issuesAt (advanceTo t s) t).filter fun x =>
      decide (issueRank x ≤ issueRank { idx := n, e := e, i := i }) && notIssued (advanceTo t s) t x).foldl (takeIssue t) (advanceTo t s)) := by
  unfold sequence
  rw [hof]
  exact if_pos hrun

/-- Nothing of an instant is left up to a place that the sequencer has reached. -/
theorem issuesAt_passed {s : State} {t : Instant} {q r : Nat} (hpos : s.tb.seqPos = some (t, q)) (h : r ≤ q) :
    (issuesAt s t).filter (fun x => decide (issueRank x ≤ r) && notIssued s t x) = [] := by
  refine List.filter_eq_nil_iff.2 fun x _ hx => ?_
  rw [Bool.and_eq_true, decide_eq_true_eq, notIssued, hpos] at hx
  have hlt : q < issueRank x := by simpa using hx.2
  omega

/-! ### What settling leaves -/

/-- A scheme's cycles are as they were: an exchange of its image leaves them. -/
def CyclesKept (r q : SchRun) : Prop := q.running = r.running ∧ q.cycleAt = r.cycleAt ∧ q.stopWait = r.stopWait ∧ q.opened = r.opened

theorem CyclesKept.refl (r : SchRun) : CyclesKept r r := ⟨rfl, rfl, rfl, rfl⟩

theorem CyclesKept.trans {r q p : SchRun} (h : CyclesKept r q) (k : CyclesKept q p) : CyclesKept r p :=
  ⟨k.1.trans h.1, k.2.1.trans h.2.1, k.2.2.1.trans h.2.2.1, k.2.2.2.trans h.2.2.2⟩

theorem foldl_schs {α : Type} {f : State → α → State} (h : ∀ s a, (f s a).schs = s.schs) (l : List α) (s : State) :
    (l.foldl f s).schs = s.schs := by
  induction l generalizing s with
  | nil => rfl
  | cons a l ih => exact (ih _).trans (h s a)

theorem schemeExchange_schs (m : Nat) (old img : SchemeImg) (s : State) :
    ∃ r, (schemeExchange m old img s).schs = mput s.schs m r ∧ CyclesKept (schRun s m) r := by
  unfold schemeExchange dropForces
  dsimp only
  exact ⟨_, (foldl_schs (fun s _ => noteI_schs ..) _ _).trans (foldl_schs (fun s _ => noteI_schs ..) _ _), rfl, rfl, rfl, rfl⟩

theorem schemeExchange_cycles (m : Nat) (old img : SchemeImg) (s : State) (n : Nat) :
    CyclesKept (schRun s n) (schRun (schemeExchange m old img s) n) := by
  obtain ⟨r, hschs, hr⟩ := schemeExchange_schs m old img s
  rw [schRun, schRun, hschs]
  by_cases hn : n = m
  · subst hn
    rw [mgetD_mput_same]
    exact hr
  · rw [mgetD_mput_other _ _ _ hn]
    exact .refl _

theorem exchangeDue_cycles (m : Nat) (s : State) (n : Nat) : CyclesKept (schRun s n) (schRun (exchangeDue m s) n) := by
  unfold exchangeDue
  split
  · exact .refl _
  · split
    · exact .refl _
    · exact schemeExchange_cycles ..

theorem settle_cycles (s : State) (n : Nat) : CyclesKept (schRun s n) (schRun (settle s) n) := by
  have hexchange : ∀ (l : List Nat) (v : State), CyclesKept (schRun v n) (schRun (l.foldl (fun s m => exchangeDue m s) v) n) := by
    intro l
    induction l with
    | nil => exact fun v => .refl _
    | cons m l ih => exact fun v => (exchangeDue_cycles m v n).trans (ih _)
  have hlost : ∀ v : State, ((s.disp.dropped).foldl (fun s k => lostWork k s) v).schs = v.schs := fun v =>
    ((Same.foldl (fun s k => lostWork_same k s) (Same.refl v)).keeps .schs rfl).symm
  unfold settle
  refine CyclesKept.trans ?_ (hexchange _ _)
  rw [schRun, schRun, hlost]
  exact .refl _

/-- No stream's filter chain goes back to an earlier instance. -/
def NextKept (s u : State) : Prop := ∀ sid, (filter s sid).next ≤ (filter u sid).next

theorem NextKept.of_eq {s u : State} (h : s.filters = u.filters) : NextKept s u := fun sid => by rw [filter, filter, h]

theorem NextKept.trans {s u v : State} (h : NextKept s u) (k : NextKept u v) : NextKept s v := fun sid => (h sid).trans (k sid)

theorem NextKept.foldl {α : Type} {f : State → α → State} (h : ∀ s a, NextKept s (f s a)) (l : List α) (s : State) :
    NextKept s (l.foldl f s) := by
  induction l generalizing s with
  | nil => exact .of_eq rfl
  | cons a l ih => exact (h s a).trans (ih _)

theorem nextKept_setFilter {s : State} {n : Nat} {r : FilterRun} (h : (filter s n).next ≤ r.next) : NextKept s (setFilter n r s) := by
  intro sid
  by_cases hn : sid = n
  · subst hn
    rwa [filter_setFilter_same]
  · exact (congrArg FilterRun.next (mgetD_mput_other s.filters r {} hn)).ge

theorem filterDropped_next (k : TaskInst) (s : State) : NextKept s (filterDropped k s) := by
  unfold filterDropped
  dsimp only
  split
  · exact .of_eq rfl
  next d _ =>
    let r := filter s (fld k.tmpl.blk 0 2)
    let p := fcPar (fnom s) d.rate k.tmpl.blk
    let gone := chainSamples p r (gridFloor p.rOut k.t)
    exact (nextKept_setFilter (r := { r with line := r.line.filter fun e => !gone.contains e.n }) (Nat.le_refl _)).trans (.of_eq rfl)

/-- Work under the definitions of an old bank, whose chain is put back after it. -/
theorem underOld_next {f : State → State} (k : TaskInst) (h : ∀ s, NextKept s (f s)) (s : State) : NextKept s (underOld k f s) := by
  unfold underOld unviewOld viewOld
  cases k.old with
  | none => exact h s
  | some o =>
    dsimp only
    cases o.chain with
    | some r => exact .of_eq rfl
    | none =>
      refine NextKept.trans (u := setActive o.bank s) (.of_eq (setActive_filters ..).symm) (NextKept.trans (h _) ?_)
      exact .of_eq (setActive_filters ..).symm

theorem lostWork_next (k : TaskInst) (s : State) : NextKept s (lostWork k s) := by
  have hstill : ∀ {m : Nat} {f : State → State}, (∀ s, Same m s (f s)) → m.testBit 11 = false → ∀ s, NextKept s (f s) :=
    fun hf hm s => .of_eq ((hf s).keeps .filters hm)
  unfold lostWork
  split
  · exact (underOld_next k (hstill (detDropped_same k) rfl) s).trans (hstill (detRenew_same k) rfl _)
  · exact underOld_next k (hstill (outDropped_same k) rfl) s
  · exact underOld_next k (filterDropped_next k) s
  · exact hstill (voiceDropped_same k) rfl s
  · exact hstill copyDropped_same rfl s
  · exact .of_eq rfl

theorem settle_next (s : State) : NextKept s (settle s) := by
  unfold settle
  refine NextKept.trans ?_ (NextKept.foldl (fun s n => .of_eq ((exchangeDue_same n s).keeps .filters rfl)) _ _)
  exact NextKept.trans (u := { s with disp := { s.disp with dropped := [] } }) (.of_eq rfl) (.foldl (fun s k => lostWork_next k s) _ _)

/-- With nothing dropped, settling is at most the exchange of schemes' images: events, schemes and records. -/
theorem settle_same_of_none {v : State} (h : v.disp.dropped = []) : Same 1101659144193 v (settle v) := by
  have hv : ({ v with disp := { v.disp with dropped := [] } } : State) = v := by rw [← h]
  unfold settle
  rw [h, List.foldl_nil, hv]
  exact Same.foldl (fun s n => exchangeDue_same n s) (Same.refl _)

/-! ### What an issue leaves -/

/-- An issue that left v, once settled and noted by the sequencer; where nothing was dropped, it changed no more than events, the
time base, schemes and records. -/
structure After (v u : State) : Prop where
  disp : u.disp = { v.disp with dropped := [] }
  now_eq : now u = now v
  cycles : ∀ n, CyclesKept (schRun v n) (schRun u n)
  next : NextKept v u
  quiet : v.disp.dropped = [] → Same 1101659144201 v u

/-- An issue that is the only one due takes place, from the state v that its action leaves at its instant. -/
theorem issue_takes {a n i : Nat} {e : SchedEntry} {t : Instant} {s v : State} (hlo : 1 ≤ a) (hhi : a ≤ 7) (h : Issues a n i e t s)
    (hact : e.action = a → issueAct { idx := n, e := e, i := i } t (advanceTo t s) = v) (hnow : now v = now (advanceTo t s)) :
    ∃ u, exec (issueRow a n i) s = .next u ∧ Issued n i e t u ∧ After v u := by
  obtain ⟨hruns, hfalls, hnext, -⟩ := h
  have hv := hact (issueOf_action hfalls)
  refine ⟨takeIssue t (advanceTo t s) { idx := n, e := e, i := i }, ?_, ⟨?_, rfl⟩, ?_⟩
  · rw [issueRow_sequences hlo hhi, sequence_runs hruns hfalls, hnext]
    rfl
  · change t ≤ now (settle (issueAct _ t (advanceTo t s)))
    rw [hv, (settle_told v).now_eq, hnow]
    exact le_now_advanceTo s t
  · unfold takeIssue
    rw [hv]
    exact ⟨settle_disp v, (settle_told v).now_eq, settle_cycles v, settle_next v,
      fun hd => Same.tb rfl ((settle_same_of_none hd).of rfl)⟩

end Sys2Proof.Machine
end

section
/-! The issues of captures, schemes, copies and calls (03 R69; 08 R194, R206; 09 R220, R225; 10 R271; 14 R384). -/

namespace Sys2Proof.Machine

/-! ### A release into the ready list -/

/-- The state once a template's task has entered the ready list. -/
def readied (tid : Nat) (tm : Template) (t : Instant) (gid : Nat) (limit : Instant) (s : State) : State :=
  { s with disp := { s.disp with
      serial := s.disp.serial + 1, tmpls := mput s.disp.tmpls tid { tmplRun s tid with pending := (tmplRun s tid).pending + 1 }
      ready := s.disp.ready ++ [released tid tm t gid limit s] } }

theorem releaseTask_ready {tid : Nat} {tm : Template} (t : Instant) (gid : Nat) (limit : Instant) {s : State}
    (hskip : skipsNow s tm = false) (hroom : (tmplRun s tid).pending < 4) (hready : s.disp.ready.length < Config.maxReady) :
    releaseTask tid tm t gid limit s = readied tid tm t gid limit s := by
  unfold releaseTask
  dsimp only
  refine (if_neg (show ¬skipsNow _ tm = true from ne_true_of_eq_false hskip)).trans ?_
  rw [if_neg (by omega)]
  exact if_neg (Nat.not_le.2 hready)

/-- Only a scheme's next cycle is skipped. -/
theorem skipsNow_of_type {s : State} {tm : Template} (h : tm.type ≠ 2) : skipsNow s tm = false := by simp [skipsNow, h]

theorem skipsNow_of_run {s : State} {tm : Template} (h : (schRun s tm.object).skipNext = false) : skipsNow s tm = false := by
  unfold skipsNow
  unfold schRun mgetD at h
  cases hm : mget s.schs tm.object with
  | none => simp
  | some r =>
    rw [hm] at h
    simpa using fun _ => h

/-- The task that a release made is in the ready list after the issue. -/
theorem after_readied {tid : Nat} {tm : Template} {t : Instant} {gid : Nat} {limit : Instant} {s v u : State} (h : After v u)
    (hd : v.disp = (readied tid tm t gid limit s).disp) (hnow : now v = now s) : ∃ k, u.disp.ready = s.disp.ready ++ [k] ∧
      k.tid = tid ∧ k.tmpl = tm ∧ k.t = t ∧ k.released = now u ∧ (tmplRun u tid).pending = (tmplRun s tid).pending + 1 := by
  refine ⟨released tid tm t gid limit s, by rw [h.disp, hd]; rfl, rfl, rfl, rfl, (h.now_eq.trans hnow).symm, ?_⟩
  rw [tmplRun, h.disp, hd]
  exact congrArg TmplRun.pending (mgetD_mput_same ..)

/-! ### The order of the issues -/

theorem issues_in_order {a n i : Nat} {e : SchedEntry} {t : Instant} {s : State} {x y : Issue} (hlo : 1 ≤ a) (hhi : a ≤ 7)
    (hrun : inRun s = true) (hof : issueOf s a n i = some (e, t))
    (hdue : (issuesAt (advanceTo t s) t).filter (fun z => decide (issueRank z ≤ issueRank { idx := n, e := e, i := i })
      && notIssued (advanceTo t s) t z) = [x, y]) :
    exec (issueRow a n i) s = .next (takeIssue t (takeIssue t (advanceTo t s) x) y) := by
  rw [issueRow_sequences hlo hhi, sequence_runs hrun hof, hdue]
  rfl

theorem issue_once {a n i q : Nat} {e : SchedEntry} {t : Instant} {s : State} (hlo : 1 ≤ a) (hhi : a ≤ 7)
    (hrun : inRun s = true) (hof : issueOf s a n i = some (e, t)) (hpos : s.tb.seqPos = some (t, q))
    (hrank : issueRank { idx := n, e := e, i := i } ≤ q) : exec (issueRow a n i) s = .next (advanceTo t s) := by
  have hat : (advanceTo t s).tb.seqPos = some (t, q) := (advanceTo_tb_seqPos ..).trans hpos
  rw [issueRow_sequences hlo hhi, sequence_runs hrun hof, issuesAt_passed hat hrank]
  rfl

/-! ### Deadlines -/

section
variable {n i : Nat} {e : SchedEntry} {t : Instant} {s : State}

theorem group_advanceTo (t : Instant) (s : State) (g : Nat) : group (advanceTo t s) g = group s g := by rw [group, activeBank_advanceTo, group]

theorem findInst_advanceTo (t : Instant) (s : State) (g : Nat) (x : Instant) : findInst (advanceTo t s) g x = findInst s g x := by
  rw [findInst, advanceTo_mst, findInst]

theorem slotFloor_advanceTo (t : Instant) (s : State) (x : Instant) : slotFloor (advanceTo t s) x = slotFloor s x := by
  rw [slotFloor, slotFloor, fnom, fnom, sched, sched, activeBank_advanceTo]

theorem deadlineIssue_waits {g : GroupDef} {x : Instant} (h : Issues 1 n i e t s) (hg : group s e.target = some g)
    (hx : instanceAt g t = some x) : ∃ u, exec (.deadlineIssue n i) s = .next u ∧ Issued n i e t u ∧
      u.mst = { s.mst with evalDue := s.mst.evalDue ++ [dueEval e.target g x] } ∧ u.disp = s.disp := by
  let w := advanceTo t s
  let v := { w with mst := { w.mst with evalDue := w.mst.evalDue ++ [dueEval e.target g x] } }
  have hact : deadlineIssue e.target t w = v := by
    unfold deadlineIssue
    rw [group_advanceTo, hg, Option.bind_some, hx]
    rfl
  obtain ⟨u, hex, hissued, hu⟩ := issue_takes (v := v) (by decide) (by decide) h
    (fun ha => by unfold issueAct; rw [ha]; exact hact) rfl
  have hdrop : v.disp.dropped = [] := (congrArg Disp.dropped (advanceTo_disp s t)).trans h.settled
  refine ⟨u, hex, hissued, ((hu.quiet hdrop).keeps .mst rfl).symm.trans ?_, 
    ((hu.quiet hdrop).keeps .disp rfl).symm.trans (advanceTo_disp s t)⟩
  change { w.mst with evalDue := w.mst.evalDue ++ [dueEval e.target g x] } = _
  rw [show w.mst = s.mst from advanceTo_mst ..]

/-! ### The issues of a capture -/

theorem tickIssue_triggers {r : CapRun} (h : Issues 6 n i e t s) (hr : capRun s e.target = some r) (htick : bit r.def_.trig 1 = true)
    (hphase : bit e.flags 0 = false) : ∃ u, exec (.tickIssue n i) s = .next u ∧ Issued n i e t u ∧ u.caps =
      (triggerCap e.target { src := 5, srcId := 0, t := t, mark := [], flags := 0 } false (advanceTo t s)).1.caps := by
  let w := advanceTo t s
  let c : Trigger := { src := 5, srcId := 0, t := t, mark := [], flags := 0 }
  have hact : tickIssue { idx := n, e := e, i := i } t w = (triggerCap e.target c false w).1 := by
    unfold tickIssue
    dsimp only
    rw [capRun_congr (advanceTo_caps s t), hr]
    dsimp only
    rw [if_neg (by simp [htick]), if_neg (by simp [hphase])]
  have hsame := triggerCap_same e.target c false w
  obtain ⟨u, hex, hissued, hu⟩ := issue_takes (v := (triggerCap e.target c false w).1) (by decide) (by decide) h
    (fun ha => by unfold issueAct; rw [ha]; exact hact) (triggerCap_told ..).now_eq
  have hdrop : (triggerCap e.target c false w).1.disp.dropped = [] := by
    rw [← hsame.keeps .disp rfl, advanceTo_disp, h.settled]
  exact ⟨u, hex, hissued, ((hu.quiet hdrop).keeps .caps rfl).symm⟩

/-- With PHASE, the capture waits for its phase. -/
theorem tickIssue_waits {r : CapRun} (h : Issues 6 n i e t s) (hr : capRun s e.target = some r) (htick : bit r.def_.trig 1 = true)
    (hphase : bit e.flags 0 = true) : ∃ u, exec (.tickIssue n i) s = .next u ∧ Issued n i e t u ∧ u.phaseNext = s.phaseNext + 1 ∧
      mget u.phases s.phaseNext = some
        { num := t / 2 ^ 32 * e.q + e.a + i * e.m, den := e.q, anchor := (t / 2 ^ 32 * e.q + e.a + i * e.m) * 2 ^ 32 / e.q
          phi := bits e.arg 15 0, cyc := bits e.arg 19 16, skip := bit e.arg 24
          act := .capture e.target 5 0 t [] false } := by
  let w := advanceTo t s
  let v := addPhaseAt (t / secU * e.q + e.a + i * e.m) e.q e.arg (.capture e.target 5 0 t [] false) w
  have hact : tickIssue { idx := n, e := e, i := i } t w = v := by
    unfold tickIssue
    dsimp only
    rw [capRun_congr (advanceTo_caps s t), hr]
    dsimp only
    rw [if_neg (by simp [htick]), if_pos hphase]
  obtain ⟨u, hex, hissued, hu⟩ := issue_takes (v := v) (by decide) (by decide) h
    (fun ha => by unfold issueAct; rw [ha]; exact hact) rfl
  have hdrop : v.disp.dropped = [] := (congrArg Disp.dropped (advanceTo_disp s t)).trans h.settled
  have hnext : w.phaseNext = s.phaseNext := advanceTo_phaseNext ..
  refine ⟨u, hex, hissued, ((hu.quiet hdrop).keeps .phaseNext rfl).symm.trans (congrArg (· + 1) hnext), ?_⟩
  rw [← (hu.quiet hdrop).keeps .phases rfl, ← hnext]
  exact mget_mput_same ..

/-! ### The copy for the partner -/

theorem copyIssue_releases {tid : Nat} {tm : Template} (h : Issues 5 n i e t s)
    (htm : (activeBank s).templates.find? (fun x => x.2.type == 7) = some (tid, tm)) (hroom : (tmplRun s tid).pending < 4)
    (hready : s.disp.ready.length < Config.maxReady) : ∃ u k, exec (.copyIssue n i) s = .next u ∧ Issued n i e t u ∧
      u.disp.ready = s.disp.ready ++ [k] ∧ k.tid = tid ∧ k.tmpl = tm ∧ k.t = t ∧ k.released = now u ∧
      (tmplRun u tid).pending = (tmplRun s tid).pending + 1 := by
  let w := advanceTo t s
  let c := commitFold w
  let z : State := { c with cas := { c.cas with copySnap := some (t, regionLines c, engineState c) } }
  let limit := issueLimit (fnom w) e (t / secU) i
  have hfold : Same _ w z := Same.cas rfl (commitFold_same w)
  have hdisp : z.disp = s.disp := (hfold.keeps .disp rfl).symm.trans (advanceTo_disp ..)
  have hbank : activeBank z = activeBank s := by
    rw [← activeBank_advanceTo t s, activeBank, activeBank, ← hfold.keeps .active rfl, ← hfold.keeps .bank0 rfl, ← hfold.keeps .bank1 rfl]
  have htype : tm.type ≠ 2 := by
    have := List.find?_some htm
    simp only [beq_iff_eq] at this
    omega
  have hact : copyRelease t limit w = readied tid tm t 0xFFFF limit z := by
    have hfind : copyRelease t limit w = releaseTask tid tm t 0xFFFF limit z := by
      unfold copyRelease
      dsimp only
      rw [show activeBank _ = _ from hbank, htm]
    exact hfind.trans (releaseTask_ready _ _ _ (skipsNow_of_type htype) (by rwa [tmplRun_congr hdisp]) (by rwa [hdisp]))
  have hnow : now z = now w := by rw [now, now, hfold.keeps .tb rfl]
  obtain ⟨u, hex, hissued, hu⟩ := issue_takes (v := readied tid tm t 0xFFFF limit z) (by decide) (by decide) h
    (fun ha => by unfold issueAct; rw [ha]; exact hact) hnow
  obtain ⟨k, hk⟩ := after_readied hu rfl rfl
  rw [hdisp, tmplRun_congr hdisp] at hk
  exact ⟨u, k, hex, hissued, hk⟩

/-! ### The cycle of a scheme -/

/-- A scheme's CYCLE issue for an instance is noted. -/
def cycleMarked (sch : Nat) (x : Instant) (s : State) : State := setSch sch { schRun s sch with cycleAt := some x } s

theorem schRun_cycleMarked (sch : Nat) (x : Instant) (s : State) :
    schRun (cycleMarked sch x s) sch = { schRun s sch with cycleAt := some x } := schRun_setSch_same ..

theorem stopDue_cycleMarked (sch : Nat) (x : Instant) (s : State) : stopDue (cycleMarked sch x s) sch = stopDue s sch := by
  unfold stopDue
  rw [schRun_cycleMarked]
  rfl

/-- The cycle of a running scheme opens, or the scheme stops. -/
theorem cycleIssue_running {sch tid : Nat} {tm : Template} {x : Instant} {s : State} (hrun : (schRun s sch).running = true)
    (hfirst : (schRun s sch).notBefore ≤ x)
    (htm : (activeBank s).templates.find? (fun x => x.2.type == 2 && x.2.object == sch) = some (tid, tm)) :
    cycleIssue sch x s = cyclePassed sch tm.gid x
      (if stopDue s sch then schemeStop sch (cycleMarked sch x s) else cycleOpen sch tid tm x (cycleMarked sch x s)) := by
  have hgo : ¬(!(schRun (cycleMarked sch x s) sch).running ∨ x < (schRun (cycleMarked sch x s) sch).notBefore) := by
    rw [schRun_cycleMarked]
    simpa [hrun] using hfirst
  unfold cycleIssue
  dsimp only
  rw [show activeBank (setSch _ _ s) = activeBank s from rfl, htm]
  refine congrArg (cyclePassed sch tm.gid x) ((if_neg hgo).trans ?_)
  rw [← stopDue_cycleMarked sch x s]
  rfl

/-- The cycle of an instance is opened. -/
def cycleOpened (sch : Nat) (x : Instant) (s : State) : State := setSch sch { schRun s sch with opened := (schRun s sch).opened ++ [x] } s

theorem cycleOpen_waits {sch tid : Nat} {tm : Template} {x : Instant} {s : State} (h : findInst s tm.gid x = none) :
    cycleOpen sch tid tm x s = cycleOpened sch x s := by
  unfold cycleOpen
  dsimp only
  split
  next hi _ => exact nomatch (show findInst s tm.gid x = _ from hi).symm.trans h
  next => rfl

theorem cycleOpen_releases {sch tid : Nat} {tm : Template} {x : Instant} {s : State} {y : GroupInst} {g : GroupDef}
    (hy : findInst s tm.gid x = some y) (hfired : y.state = .fired) (hg : group s tm.gid = some g) :
    cycleOpen sch tid tm x s = releaseTask tid tm x tm.gid (groupLimit (fnom s) g x)
      (takeOpened tm x (setInst { y with tasks := y.tasks + 1 } (cycleOpened sch x s))) := by
  unfold cycleOpen
  dsimp only
  split
  next hi hj =>
    cases (show findInst s tm.gid x = _ from hi).symm.trans hy
    cases (show group s tm.gid = _ from hj).symm.trans hg
    exact if_pos hfired
  next hno => exact (hno y g hy hg).elim

theorem stopDue_advanceTo (t : Instant) (s : State) (sch : Nat) : stopDue (advanceTo t s) sch = stopDue s sch := by
  unfold stopDue cyclesInFlight waitingCycles
  rw [schRun_advanceTo, advanceTo_disp]

theorem skipNext_takeOpened (tm : Template) (x : Instant) (s : State) (n : Nat) :
    (schRun (takeOpened tm x s) n).skipNext = (schRun s n).skipNext := by
  unfold takeOpened
  split
  · simp only [schRun, mgetD, mmod_eq_mmap, mget_mmap]
    cases mget s.schs n with
    | none => rfl
    | some r =>
      simp only [Option.map_some, Option.getD_some]
      split <;> rfl
  · rfl

theorem cyclePassed_of_none {sch gid : Nat} {x : Instant} {s : State} (h : findInst s gid x = none) : cyclePassed sch gid x s = s := by
  unfold cyclePassed
  rw [h]

theorem cyclePassed_disp (sch gid : Nat) (x : Instant) (s : State) : (cyclePassed sch gid x s).disp = s.disp :=
  ((cyclePassed_same sch gid x s).keeps .disp rfl).symm

theorem schRun_cyclePassed (sch gid : Nat) (x : Instant) (s : State) (n : Nat) : schRun (cyclePassed sch gid x s) n = schRun s n := by
  rw [schRun, schRun, ← (cyclePassed_same sch gid x s).keeps .schs rfl]

theorem now_cyclePassed (sch gid : Nat) (x : Instant) (s : State) : now (cyclePassed sch gid x s) = now s := by
  rw [now, now, ← (cyclePassed_same sch gid x s).keeps .tb rfl]

/-- The opened cycle of an instance that has not arrived waits for it. -/
theorem cycleIssue_opens {tid : Nat} {tm : Template} (h : Issues 4 n i e t s) (hrun : (schRun s e.target).running = true)
    (hstop : stopDue s e.target = false) (hfirst : (schRun s e.target).notBefore ≤ slotFloor s t)
    (htm : (activeBank s).templates.find? (fun x => x.2.type == 2 && x.2.object == e.target) = some (tid, tm))
    (hnone : findInst s tm.gid (slotFloor s t) = none) : ∃ u, exec (.cycleIssue n i) s = .next u ∧ Issued n i e t u ∧
      (schRun u e.target).opened = (schRun s e.target).opened ++ [slotFloor s t] ∧
      (schRun u e.target).cycleAt = some (slotFloor s t) ∧ u.disp = s.disp := by
  let w := advanceTo t s
  let x := slotFloor s t
  have hw : schRun w e.target = schRun s e.target := schRun_advanceTo ..
  let v := cycleOpened e.target x (cycleMarked e.target x w)
  have hact : cycleIssue e.target (slotFloor w t) w = v := by
    rw [slotFloor_advanceTo, cycleIssue_running (by rwa [hw]) (by rwa [hw]) (by rwa [activeBank_advanceTo]), stopDue_advanceTo, hstop,
      if_neg Bool.false_ne_true, cycleOpen_waits (s := cycleMarked e.target x w) ((findInst_advanceTo t s _ _).trans hnone)]
    exact cyclePassed_of_none ((findInst_advanceTo t s _ _).trans hnone)
  obtain ⟨u, hex, hissued, hu⟩ := issue_takes (v := v) (by decide) (by decide) h (fun ha => by unfold issueAct; rw [ha]; exact hact) rfl
  have hdisp : v.disp = s.disp := advanceTo_disp s t
  obtain ⟨-, hcycle, -, hopened⟩ := hu.cycles e.target
  rw [show schRun v e.target = _ from schRun_setSch_same .., schRun_cycleMarked] at hcycle hopened
  exact ⟨u, hex, hissued, by rw [hopened, hw], hcycle, by rw [hu.disp, hdisp, ← h.settled]⟩

/-- The cycle of an instance that has fired is released at once. -/
theorem cycleIssue_releases {tid : Nat} {tm : Template} {x : GroupInst} {g : GroupDef} (h : Issues 4 n i e t s)
    (hrun : (schRun s e.target).running = true) (hstop : stopDue s e.target = false)
    (hfirst : (schRun s e.target).notBefore ≤ slotFloor s t)
    (htm : (activeBank s).templates.find? (fun x => x.2.type == 2 && x.2.object == e.target) = some (tid, tm))
    (hx : findInst s tm.gid (slotFloor s t) = some x) (hfired : x.state = .fired) (hg : group s tm.gid = some g)
    (hskip : (schRun s e.target).skipNext = false) (hroom : (tmplRun s tid).pending < 4)
    (hready : s.disp.ready.length < Config.maxReady) : ∃ u k, exec (.cycleIssue n i) s = .next u ∧ Issued n i e t u ∧
      u.disp.ready = s.disp.ready ++ [k] ∧ k.tid = tid ∧ k.tmpl = tm ∧ k.t = slotFloor s t ∧ k.released = now u := by
  let w := advanceTo t s
  let y := slotFloor s t
  have hw : schRun w e.target = schRun s e.target := schRun_advanceTo ..
  have hobject : tm.object = e.target := by
    have := List.find?_some htm
    simp only [Bool.and_eq_true, beq_iff_eq] at this
    exact this.2
  let o := cycleMarked e.target y w
  let z := takeOpened tm y (setInst { x with tasks := x.tasks + 1 } (cycleOpened e.target y o))
  have hz : Same _ (setInst { x with tasks := x.tasks + 1 } (cycleOpened e.target y o)) z := takeOpened_same ..
  have hdisp : z.disp = s.disp := (hz.keeps .disp rfl).symm.trans (advanceTo_disp s t)
  have hnow : now z = now w := by rw [now, ← hz.keeps .tb rfl]; rfl
  let limit := groupLimit (fnom o) g y
  have hnoskip : skipsNow z tm = false := by
    refine skipsNow_of_run ((skipNext_takeOpened ..).trans ?_)
    have ho : schRun o e.target = { schRun w e.target with cycleAt := some y } := schRun_cycleMarked ..
    rw [hobject]
    refine (congrArg SchRun.skipNext (schRun_setSch_same o e.target _)).trans ?_
    rw [ho, hw]
    exact hskip
  have hrel : releaseTask tid tm y tm.gid limit z = readied tid tm y tm.gid limit z :=
    releaseTask_ready _ _ _ hnoskip (by rwa [tmplRun_congr hdisp]) (by rwa [hdisp])
  let v := cyclePassed e.target tm.gid y (readied tid tm y tm.gid limit z)
  have hact : cycleIssue e.target (slotFloor w t) w = v := by
    rw [slotFloor_advanceTo, cycleIssue_running (by rwa [hw]) (by rwa [hw]) (by rwa [activeBank_advanceTo]), stopDue_advanceTo, hstop,
      if_neg Bool.false_ne_true,
      cycleOpen_releases (s := o) ((findInst_advanceTo t s _ _).trans hx) hfired ((group_advanceTo t s _).trans hg), hrel]
  obtain ⟨u, hex, hissued, hu⟩ := issue_takes (v := v) (by decide) (by decide) h
    (fun ha => by unfold issueAct; rw [ha]; exact hact) ((now_cyclePassed ..).trans hnow)
  obtain ⟨k, hk, htid, htmpl, hkt, hkr, -⟩ := after_readied hu (cyclePassed_disp ..) (now_cyclePassed ..)
  rw [hdisp] at hk
  exact ⟨u, k, hex, hissued, hk, htid, htmpl, hkt, hkr⟩

/-- The issue of a scheme whose stop is due stops it. -/
theorem cycleIssue_stops {tid : Nat} {tm : Template} (h : Issues 4 n i e t s) (hrun : (schRun s e.target).running = true)
    (hstop : stopDue s e.target = true) (hfirst : (schRun s e.target).notBefore ≤ slotFloor s t)
    (htm : (activeBank s).templates.find? (fun x => x.2.type == 2 && x.2.object == e.target) = some (tid, tm)) :
    ∃ u, exec (.cycleIssue n i) s = .next u ∧ Issued n i e t u ∧ (schRun u e.target).running = false ∧
      (schRun u e.target).stopWait = none := by
  let w := advanceTo t s
  let x := slotFloor s t
  have hw : schRun w e.target = schRun s e.target := schRun_advanceTo ..
  have hmarked : (schRun (cycleMarked e.target x w) e.target).running = true := by rw [schRun_cycleMarked, hw]; exact hrun
  obtain ⟨hstopped, htold⟩ := schemeStop_stopped hmarked
  let v := cyclePassed e.target tm.gid x (schemeStop e.target (cycleMarked e.target x w))
  have hact : cycleIssue e.target (slotFloor w t) w = v := by
    rw [slotFloor_advanceTo, cycleIssue_running (by rwa [hw]) (by rwa [hw]) (by rwa [activeBank_advanceTo]), stopDue_advanceTo, hstop, if_pos rfl]
  obtain ⟨u, hex, hissued, hu⟩ := issue_takes (v := v) (by decide) (by decide) h
    (fun ha => by unfold issueAct; rw [ha]; exact hact) ((now_cyclePassed ..).trans htold.now_eq)
  obtain ⟨hrunning, -, hwait, -⟩ := hu.cycles e.target
  rw [schRun_cyclePassed, hstopped] at hrunning hwait
  exact ⟨u, hex, hissued, hrunning, hwait⟩

/-! ### The playout of a call -/

/-- Before its task, an issue of a call that neither ends nor changes can only open it. -/
theorem issueEdge_goes {v : Nat} {r : VchRun} {t : Instant} (s : State) (hended : r.ended = false) (hclose : comeBy r.closeAt t = false)
    (hnext : r.next = none) (hopen : r.openAt.isSome = true → comeBy r.openAt t = true) :
    issueEdge v r t s = (true, if r.openAt.isSome then vchStarts v r t s else s) := by
  unfold issueEdge
  rw [if_neg (ne_true_of_eq_false hended), if_neg (ne_true_of_eq_false hclose), if_neg fun h => by simp [hopen h.1] at h, hnext]

theorem playoutIssue_goes {v tid : Nat} {r : VchRun} {tm : Template} {t limit : Instant} {s z : State} (hr : vch s v = some r)
    (hedge : issueEdge v r t s = (true, z)) (htm : voiceTmpl (activeBank z) v = some (tid, tm)) :
    playoutIssue v t limit s = releaseTask tid tm t 0xFFFF limit z := by
  unfold playoutIssue
  rw [hr]
  dsimp only
  rw [hedge]
  dsimp only
  rw [htm]
  rfl

theorem vch_oqNoWait (n w : Nat) (p : QPkt) (s : State) (v : Nat) : vch (oqNoWait n w p s) v = vch s v := by
  rw [vch, vch, ← (oqNoWait_same n w p s).keeps .vchs rfl]

theorem recMark_openAt {v : Nat} {r : VchRun} {s : State} (code leg : Nat) (data : Bytes) (t : Instant) (h : vch s v = some r) :
    ∃ q, vch (recMark v code leg data t s) v = some q ∧ q.openAt = r.openAt := by
  unfold recMark
  rw [h]
  dsimp only
  split
  · exact ⟨r, h, rfl⟩
  · exact ⟨_, vch_setVch_same .., rfl⟩

/-- An event of a call leaves its opening as it is. -/
theorem voiceEvent_openAt {v : Nat} {r : VchRun} {s : State} (code leg : Nat) (data : Bytes) (t : Instant) (h : vch s v = some r) :
    ∃ q, vch (voiceEvent v code leg data t s) v = some q ∧ q.openAt = r.openAt := by
  unfold voiceEvent
  rw [h]
  dsimp only
  refine recMark_openAt code leg data t ?_
  split
  · exact h
  · exact (vch_oqNoWait ..).trans h

theorem vchStarts_opened (v : Nat) (r : VchRun) (t : Instant) (s : State) :
    ∃ q, vch (vchStarts v r t s) v = some q ∧ q.openAt = none :=
  voiceEvent_openAt 1 0xFF (openData r.par) t (vch_setVch_same s v { r with openAt := none, opened := t })

theorem playoutIssue_releases {r : VchRun} {tid : Nat} {tm : Template} (h : Issues 3 n i e t s) (hr : vch s e.target = some r)
    (hended : r.ended = false) (hclose : comeBy r.closeAt t = false) (hnext : r.next = none)
    (htm : voiceTmpl (activeBank s) e.target = some (tid, tm)) (htype : tm.type = 6) (hroom : (tmplRun s tid).pending < 4)
    (hready : s.disp.ready.length < Config.maxReady) (hopen : r.openAt = none) : ∃ u k, exec (.playoutIssue n i) s = .next u ∧
      Issued n i e t u ∧ u.disp.ready = s.disp.ready ++ [k] ∧ k.tid = tid ∧ k.tmpl = tm ∧ k.t = t ∧ u.vchs = s.vchs := by
  let w := advanceTo t s
  let limit := issueLimit (fnom w) e (t / secU) i
  have hdisp : w.disp = s.disp := advanceTo_disp ..
  have hact : playoutIssue e.target t limit w = readied tid tm t 0xFFFF limit w := by
    have hedge : issueEdge e.target r t w = (true, w) := by
      rw [issueEdge_goes w hended hclose hnext (by rw [hopen]; exact nofun), hopen]
      rfl
    rw [playoutIssue_goes ((congrArg (mget · e.target) (advanceTo_vchs s t)).trans hr) hedge (by rw [activeBank_advanceTo, htm])]
    exact releaseTask_ready _ _ _ (skipsNow_of_type (by omega)) (by rwa [tmplRun_congr hdisp]) (by rwa [hdisp])
  obtain ⟨u, hex, hissued, hu⟩ := issue_takes (v := readied tid tm t 0xFFFF limit w) (by decide) (by decide) h
    (fun ha => by unfold issueAct; rw [ha]; exact hact) rfl
  obtain ⟨k, hk, htid, htmpl, hkt, -, -⟩ := after_readied hu rfl rfl
  rw [hdisp] at hk
  have hdrop : (readied tid tm t 0xFFFF limit w).disp.dropped = [] := (congrArg Disp.dropped hdisp).trans h.settled
  exact ⟨u, k, hex, hissued, hk, htid, htmpl, hkt, ((hu.quiet hdrop).keeps .vchs rfl).symm.trans (advanceTo_vchs s t)⟩

/-- A call that waits for its first issue opens at it. -/
theorem playoutIssue_opens {r : VchRun} {tid : Nat} {tm : Template} {a : Instant} (h : Issues 3 n i e t s) (hr : vch s e.target = some r)
    (hended : r.ended = false) (hclose : comeBy r.closeAt t = false) (hnext : r.next = none)
    (htm : voiceTmpl (activeBank s) e.target = some (tid, tm)) (htype : tm.type = 6) (hroom : (tmplRun s tid).pending < 4)
    (hready : s.disp.ready.length < Config.maxReady) (hopen : r.openAt = some a) (hat : a ≤ t) : ∃ u k r',
      exec (.playoutIssue n i) s = .next u ∧ Issued n i e t u ∧ u.disp.ready = s.disp.ready ++ [k] ∧ k.tid = tid ∧ k.t = t ∧
      vch u e.target = some r' ∧ r'.openAt = none := by
  let w := advanceTo t s
  let limit := issueLimit (fnom w) e (t / secU) i
  let z := vchStarts e.target r t w
  have hz := vchStarts_same e.target r t w
  have hdisp : z.disp = s.disp := (hz.keeps .disp rfl).symm.trans (advanceTo_disp s t)
  have hbank : activeBank z = activeBank s := by
    rw [← activeBank_advanceTo t s, activeBank, activeBank, ← hz.keeps .active rfl, ← hz.keeps .bank0 rfl, ← hz.keeps .bank1 rfl]
  have hact : playoutIssue e.target t limit w = readied tid tm t 0xFFFF limit z := by
    have hedge : issueEdge e.target r t w = (true, z) := by
      rw [issueEdge_goes w hended hclose hnext (by rw [hopen]; exact fun _ => decide_eq_true hat), hopen]
      rfl
    rw [playoutIssue_goes ((congrArg (mget · e.target) (advanceTo_vchs s t)).trans hr) hedge (by rw [hbank, htm])]
    exact releaseTask_ready _ _ _ (skipsNow_of_type (by omega)) (by rwa [tmplRun_congr hdisp]) (by rwa [hdisp])
  have hnow : now z = now w := by rw [now, now, hz.keeps .tb rfl]
  obtain ⟨u, hex, hissued, hu⟩ := issue_takes (v := readied tid tm t 0xFFFF limit z) (by decide) (by decide) h
    (fun ha => by unfold issueAct; rw [ha]; exact hact) hnow
  obtain ⟨k, hk, htid, -, hkt, -, -⟩ := after_readied hu rfl rfl
  rw [hdisp] at hk
  have hdrop : (readied tid tm t 0xFFFF limit z).disp.dropped = [] := (congrArg Disp.dropped hdisp).trans h.settled
  obtain ⟨q, hq, hqopen⟩ := vchStarts_opened e.target r t w
  exact ⟨u, k, q, hex, hissued, hk, htid, hkt, (congrArg (mget · e.target) ((hu.quiet hdrop).keeps .vchs rfl).symm).trans hq, hqopen⟩

end

end Sys2Proof.Machine
end

section
/-! The issues of a filter chain (05 R119, R120). -/

namespace Sys2Proof.Machine

/-! ### The ready list through a release -/

/-- What is in the ready list stays there. -/
def ReadyKept (s u : State) : Prop := ∀ k ∈ s.disp.ready, k ∈ u.disp.ready

theorem ReadyKept.of_eq {s u : State} (h : u.disp.ready = s.disp.ready) : ReadyKept s u := fun k hk => by rwa [h]

theorem ReadyKept.of_disp {s u : State} (h : s.disp = u.disp) : ReadyKept s u := .of_eq (congrArg Disp.ready h.symm)

theorem ReadyKept.trans {s u v : State} (h : ReadyKept s u) (k : ReadyKept u v) : ReadyKept s v := fun x hx => k x (h x hx)

theorem ReadyKept.ite {c : Prop} [Decidable c] {s a b : State} (ha : c → ReadyKept s a) (hb : ¬c → ReadyKept s b) :
    ReadyKept s (if c then a else b) := by
  split
  · exact ha ‹_›
  · exact hb ‹_›

theorem skipCycle_ready (n : Nat) (x : Instant) (cause : Nat) (s : State) : (skipCycle n x cause s).disp.ready = s.disp.ready := by
  obtain ⟨sec, hsec⟩ := skipCycle_disp n x cause s
  rw [hsec]

theorem instTaskEnd_disp (gid : Nat) (t : Instant) (s : State) : (instTaskEnd gid t s).disp = s.disp :=
  ((instTaskEnd_same gid t s).keeps .disp rfl).symm

theorem releaseDropped_ready (k : TaskInst) (s : State) : (releaseDropped k s).disp.ready = s.disp.ready := by
  have hskip : (if k.tmpl.type = 2 then skipCycle k.tmpl.object k.t 2 s else s).disp.ready = s.disp.ready := by
    split
    · exact skipCycle_ready ..
    · rfl
  unfold releaseDropped
  dsimp only
  split
  · rw [instTaskEnd_disp]
    exact hskip
  · exact hskip

theorem noteData_disp (sev : Nat) (name : Bytes) (subject : Nat) (t : Instant) (s : State) :
    (noteData sev name subject t s).disp = s.disp := ((noteData_same ..).keeps .disp rfl).symm

theorem releaseTask_readyKept (tid : Nat) (tm : Template) (t : Instant) (gid : Nat) (limit : Instant) (s : State) :
    ReadyKept s (releaseTask tid tm t gid limit s) := by
  unfold releaseTask
  dsimp only
  refine ReadyKept.ite (fun _ => .of_eq ?_) (fun _ => ReadyKept.ite (fun _ => .of_eq ?_)
    (fun _ => ReadyKept.ite (fun _ => .of_eq rfl) (fun _ k hk => List.mem_append_left _ hk)))
  · split
    · rw [instTaskEnd_disp, skipCycle_ready]
    · exact skipCycle_ready ..
  · rw [releaseDropped_ready]
    split
    · rfl
    · rw [noteData_disp]
      rfl

/-! ### The release of an instance -/

/-- The state in which the samples of a chain's next instance are consumed. -/
def chainConsumed (tm : Template) (sid : Nat) (d : StreamDef) (s : State) : State :=
  let p := fcPar (fnom s) d.rate tm.blk
  let u := (chainSamples p (filter s sid) (filter s sid).next).foldl (consumeSample (activeBank s) sid d tm.blk) s
  setFilter sid (pruneLine p { filter u sid with next := (filter s sid).next + 1 }) u

theorem filterRelease_eq (tid : Nat) (tm : Template) (sid : Nat) (d : StreamDef) (limit : Instant) (s : State) :
    filterRelease tid tm sid d limit s =
      match stagingCell sid (gridAt (fcPar (fnom s) d.rate tm.blk).rOut (filter s sid).next)
        (filterBytes (fcPar (fnom s) d.rate tm.blk) tm.blk) (chainConsumed tm sid d s) with
      | none => streamRefused sid (chainConsumed tm sid d s)
      | some u => releaseTask tid tm (gridAt (fcPar (fnom s) d.rate tm.blk).rOut (filter s sid).next) 0xFFFF limit u := rfl

theorem chainConsumed_same (tm : Template) (sid : Nat) (d : StreamDef) (s : State) : Same 1105954081793 s (chainConsumed tm sid d s) := by
  unfold chainConsumed
  dsimp only
  refine (setFilter_same ..).step rfl ?_
  exact Same.foldl (fun u a => (consumeSample_same ..).of rfl) (Same.refl s)

theorem next_chainConsumed (tm : Template) (sid : Nat) (d : StreamDef) (s : State) :
    (filter (chainConsumed tm sid d s) sid).next = (filter s sid).next + 1 :=
  congrArg FilterRun.next (filter_setFilter_same ..)

/-- A staging cell is taken beside what stands. -/
theorem stagingCell_keeps {sid nbytes : Nat} {t : Instant} {s u : State} (h : stagingCell sid t nbytes s = some u) :
    u.filters = s.filters ∧ u.disp = s.disp ∧ u.tb = s.tb ∧ u.schs = s.schs :=
  have hsame := stagingCell_same sid t nbytes s u h
  ⟨(hsame.keeps .filters rfl).symm, (hsame.keeps .disp rfl).symm, (hsame.keeps .tb rfl).symm, (hsame.keeps .schs rfl).symm⟩

/-- A release takes the chain to its next instance and leaves what is ready. -/
theorem filterRelease_advances (tid : Nat) (tm : Template) (sid : Nat) (d : StreamDef) (limit : Instant) (s : State) :
    (filter (filterRelease tid tm sid d limit s) sid).next = (filter s sid).next + 1 ∧
      ReadyKept s (filterRelease tid tm sid d limit s) := by
  have hnext := next_chainConsumed tm sid d s
  have hdisp := (chainConsumed_same tm sid d s).keeps .disp rfl
  rw [filterRelease_eq]
  generalize chainConsumed tm sid d s = c at hnext hdisp
  split
  · have hrefused := streamRefused_same sid c
    exact ⟨by rw [filter, ← hrefused.keeps .filters rfl]; exact hnext, .of_disp (hdisp.trans (hrefused.keeps .disp rfl))⟩
  next u hu =>
    obtain ⟨hfilters, hd, -, -⟩ := stagingCell_keeps hu
    have hrel := releaseTask_same tid tm (gridAt (fcPar (fnom s) d.rate tm.blk).rOut (filter s sid).next) 0xFFFF limit u
    refine ⟨by rw [filter, ← hrel.keeps .filters rfl, hfilters]; exact hnext, ReadyKept.trans (.of_disp (hdisp.trans hd.symm)) ?_⟩
    exact releaseTask_readyKept tid tm _ 0xFFFF limit u

/-- Every instance up to j is released. -/
theorem filterUpTo_passes (fuel tid : Nat) (tm : Template) (sid : Nat) (d : StreamDef) (j : Nat) (limit : Instant) {s : State}
    (h : j < (filter s sid).next + fuel) : j < (filter (filterUpTo fuel tid tm sid d j limit s) sid).next := by
  induction fuel generalizing s with
  | zero => exact h
  | succ fuel ih =>
    rw [filterUpTo]
    split
    · refine ih ?_
      rw [(filterRelease_advances tid tm sid d limit s).1]
      omega
    · omega

theorem filterReady_advances (fuel tid : Nat) (tm : Template) (sid : Nat) (d : StreamDef) (s : State) :
    (filter s sid).next ≤ (filter (filterReady fuel tid tm sid d s) sid).next ∧ ReadyKept s (filterReady fuel tid tm sid d s) := by
  induction fuel generalizing s with
  | zero => exact ⟨Nat.le_refl _, .of_eq rfl⟩
  | succ fuel ih =>
    rw [filterReady]
    split
    · obtain ⟨hnext, hready⟩ := filterRelease_advances tid tm sid d
        (filterLimit s tid (fcPar (fnom s) d.rate tm.blk) (filter s sid).next) s
      obtain ⟨hle, hkept⟩ := ih (filterRelease tid tm sid d (filterLimit s tid (fcPar (fnom s) d.rate tm.blk) (filter s sid).next) s)
      exact ⟨by omega, hready.trans hkept⟩
    · exact ⟨Nat.le_refl _, .of_eq rfl⟩

/-- With room for its cell and its task, the release is in the ready list. -/
theorem filterRelease_readies {tid : Nat} {tm : Template} {sid : Nat} {d : StreamDef} (limit : Instant) {s : State} {p : FcPar} {j : Nat}
    (hp : p = fcPar (fnom s) d.rate tm.blk) (hj : (filter s sid).next = j) (htype : tm.type = 5) (hroom : (tmplRun s tid).pending < 4)
    (hready : s.disp.ready.length < Config.maxReady) (hcell : findCell s sid (gridAt p.rOut j) = none)
    (hcells : s.mst.cells.length < Config.maxCells) (hfit : (fbFit (ceilDiv (filterBytes p tm.blk) 64) s.mst.fb 0).isSome = true) :
    ∃ k ∈ (filterRelease tid tm sid d limit s).disp.ready, k.tid = tid ∧ k.tmpl = tm ∧ k.t = gridAt p.rOut j ∧ k.released = now s := by
  subst hp hj
  have hsame := chainConsumed_same tm sid d s
  have hmst := hsame.keeps .mst rfl
  have hstaged : ∃ u, stagingCell sid (gridAt (fcPar (fnom s) d.rate tm.blk).rOut (filter s sid).next)
      (filterBytes (fcPar (fnom s) d.rate tm.blk) tm.blk) (chainConsumed tm sid d s) = some u := by
    unfold stagingCell
    rw [findCell, ← hmst, if_neg (by simp [show List.find? _ s.mst.cells = none from hcell])]
    obtain ⟨-, u, hu, -⟩ := takeCell_some _ (by rwa [← hmst]) (by rwa [← hmst])
    exact ⟨u, hu⟩
  obtain ⟨u, hu⟩ := hstaged
  obtain ⟨-, hd, htb, -⟩ := stagingCell_keeps hu
  have hdisp : u.disp = s.disp := hd.trans (hsame.keeps .disp rfl).symm
  have hnow : now u = now s := by rw [now, htb, ← hsame.keeps .tb rfl, now]
  rw [filterRelease_eq, hu]
  dsimp only
  rw [releaseTask_ready _ _ _ (skipsNow_of_type (by omega)) (by rwa [tmplRun_congr hdisp]) (by rwa [hdisp])]
  exact ⟨_, List.mem_append_right _ (List.mem_singleton_self _), rfl, rfl, rfl, hnow⟩

/-! ### The RELEASE issue -/

theorem fnom_advanceTo (t : Instant) (s : State) : fnom (advanceTo t s) = fnom s := by
  rw [fnom, fnom, sched, sched, activeBank_advanceTo]

theorem filter_advanceTo (t : Instant) (s : State) (sid : Nat) : filter (advanceTo t s) sid = filter s sid := by
  rw [filter, advanceTo_filters, filter]

theorem releaseIssue_releases {n i : Nat} {e : SchedEntry} {t : Instant} {s : State} {tm : Template} {d : StreamDef} {p : FcPar} {j : Nat}
    (h : Issues 2 n i e t s) (htm : mget (activeBank s).templates e.target = some tm) (htype : tm.type = 5)
    (hd : mget (activeBank s).streams (fld tm.blk 0 2) = some d) (hp : p = fcPar (fnom s) d.rate tm.blk)
    (hj : j = (gridFloor p.rate t - p.lam) * p.rOut / p.rate) : ∃ u, exec (.releaseIssue n i) s = .next u ∧ Issued n i e t u ∧
      j < (filter u (fld tm.blk 0 2)).next ∧
      ((filter s (fld tm.blk 0 2)).next = j → (tmplRun s e.target).pending < 4 → s.disp.ready.length < Config.maxReady →
        findCell s (fld tm.blk 0 2) (gridAt p.rOut j) = none → s.mst.cells.length < Config.maxCells →
        (fbFit (ceilDiv (filterBytes p tm.blk) 64) s.mst.fb 0).isSome = true →
        ∃ k ∈ u.disp.ready, k.tid = e.target ∧ k.tmpl = tm ∧ k.t = gridAt p.rOut j ∧ k.released = now (advanceTo t s)) := by
  let w := advanceTo t s
  let sid := fld tm.blk 0 2
  let limit := issueLimit (fnom w) e (t / secU) i
  let z := filterUpTo (j + 1 - (filter w sid).next) e.target tm sid d j limit w
  let v := filterDrain e.target tm sid d z
  have hpw : p = fcPar (fnom w) d.rate tm.blk := by rw [fnom_advanceTo]; exact hp
  have hact : releaseIssue e.target t limit w = v := by
    unfold releaseIssue
    rw [activeBank_advanceTo, htm]
    dsimp only
    rw [hd]
    dsimp only
    rw [← hpw, ← hj]
  have hnow : now v = now w := by
    rw [now, now, ← (filterDrain_same e.target tm sid d z).keeps .tb rfl, ← (filterUpTo_same _ e.target tm sid d j limit w).keeps .tb rfl]
  obtain ⟨u, hex, hissued, hu⟩ := issue_takes (v := v) (by decide) (by decide) h (fun ha => by unfold issueAct; rw [ha]; exact hact) hnow
  have hdrain := filterReady_advances ((filter z sid).prim.length + (filter z sid).altq.length + 1) e.target tm sid d z
  refine ⟨u, hex, hissued, ?_, fun hnext hroom hready hcell hcells hfit => ?_⟩
  · calc j < (filter z sid).next := filterUpTo_passes _ _ _ _ _ _ _ (by omega)
      _ ≤ (filter v sid).next := hdrain.1
      _ ≤ (filter u sid).next := hu.next sid
  · have hone : z = filterRelease e.target tm sid d limit w := by
      have hat : (filter w sid).next = j := by rw [filter_advanceTo]; exact hnext
      change filterUpTo (j + 1 - (filter w sid).next) e.target tm sid d j limit w = _
      rw [hat, Nat.add_sub_cancel_left, filterUpTo, if_pos hat.le]
      rfl
    have hdisp : w.disp = s.disp := advanceTo_disp s t
    have hmst : w.mst = s.mst := advanceTo_mst s t
    obtain ⟨k, hk, hkrest⟩ := filterRelease_readies (tid := e.target) (sid := sid) (j := j) limit hpw (by rw [filter_advanceTo]; exact hnext) htype
      (by rwa [tmplRun_congr hdisp]) (by rwa [hdisp]) (by rw [findCell, hmst]; exact hcell) (by rwa [hmst]) (by rwa [hmst])
    refine ⟨k, ?_, hkrest⟩
    rw [hu.disp]
    exact hdrain.2 k (by rwa [hone])

end Sys2Proof.Machine
end

section
/-! The PUBLISH issues (03 R71; 12 R334, R337), and the schedule's issues together. -/

namespace Sys2Proof.Machine

/-! ### What sending leaves -/

theorem counter_egressStamp {n : Nat} (h : n ≠ 189) (p tag : Nat) (t : Instant) (s : State) : counter (egressStamp p tag t s) n = counter s n := by
  unfold egressStamp
  dsimp only
  split
  · exact counter_congr ((netIrq_same p 4 _).keeps .cnt rfl).symm n
  · exact counter_countPort_other _ h

theorem counter_txNoted (w : TxHeld) (s : State) (n : Nat) : counter (txNoted w s) n = counter s n := by
  unfold txNoted
  split <;> rfl

/-- A frame that leaves is counted as sent, and its stamp where the stamp queue is full. -/
theorem counter_txLeaves {n : Nat} (hsent : n ≠ 183) (hstamp : n ≠ 189) (p : Nat) (w : TxHeld) (s : State) :
    counter (txLeaves p w s) n = counter s n := by
  have hout : counter (txNoted w (countPort p 7 (emit w.e s))) n = counter s n :=
    (counter_txNoted ..).trans (counter_countPort_other _ hsent)
  rw [txLeaves_eq]
  split
  · exact (counter_egressStamp hstamp ..).trans hout
  · exact hout

theorem counter_txDrain {n : Nat} (hsent : n ≠ 183) (hstamp : n ≠ 189) (p : Nat) (s : State) : counter (txDrain p s) n = counter s n := by
  have hall : ∀ (l : List TxHeld) (u : State), counter (l.foldl (fun s w => txLeaves p w s) u) n = counter u n := fun l => by
    induction l with
    | nil => exact fun u => rfl
    | cons w l ih => exact fun u => (ih _).trans (counter_txLeaves hsent hstamp p w u)
  unfold txDrain
  split
  · rfl
  · exact hall _ _

theorem counter_outDrain {n : Nat} (hsent : n ≠ 183) (hstamp : n ≠ 189) (d : OutDef) (s : State) :
    counter (outDrain d s) n = counter s n := by
  unfold outDrain
  split
  · exact (counter_txDrain hsent hstamp ..).trans (counter_txDrain hsent hstamp ..)
  · exact counter_txDrain hsent hstamp ..

theorem outDrain_told (d : OutDef) (s : State) : Told s (outDrain d s) := by
  unfold outDrain
  exact Told.ite (fun _ => (txDrain_told ..).trans (txDrain_told ..)) (fun _ => txDrain_told ..)

theorem sendData_told (publish : Bool) (d : OutDef) (f : OutFrame) (s : State) : Told s (sendData publish d f s) :=
  Told.ite (fun _ => txOut_told ..) (fun _ => .refl s)

/-- A message of a publication advances its SPDU number and nothing more of it. -/
theorem pub_sendGoose (publish : Bool) (n : Nat) (d : OutDef) (ttl : Nat) (s : State) :
    ∃ k, pub (sendGoose publish n d ttl s) n = { pub s n with spdu := k } := by
  unfold sendGoose
  split
  · exact ⟨_, rfl⟩
  · split
    · exact ⟨_, rfl⟩
    · refine ⟨((pub s n).spdu + 1) % 2 ^ 32, ?_⟩
      exact (pub_congr ((outSend_same ..).keeps .pubs rfl).symm n).trans (pub_setPub_same ..)

/-- A publication with a new state, before its message. -/
def statePublished (n : Nat) (d : OutDef) (ms : List Nat) (s : State) : PubRun :=
  { pub s n with
    stNum := ((pub s n).stNum + 1) % 2 ^ 32, sqNum := 0, data := ms, newState := none
    interval := rtMin d, nextAt := some (now s + msU (rtMin d)) }

theorem publishState_eq (publish : Bool) (n : Nat) (d : OutDef) (ms : List Nat) (s : State) :
    publishState publish n d ms s = sendGoose publish n d (2 * rtMin d) (setPub n (statePublished n d ms s) s) := by
  unfold publishState statePublished
  rfl

/-- A published state is the publication's, with the next stNum. -/
theorem publishState_pub (publish : Bool) (n : Nat) (d : OutDef) (ms : List Nat) (s : State) :
    ∃ k, pub (publishState publish n d ms s) n = { statePublished n d ms s with spdu := k } := by
  obtain ⟨k, hk⟩ := pub_sendGoose publish n d (2 * rtMin d) (setPub n (statePublished n d ms s) s)
  exact ⟨k, by rw [publishState_eq, hk, pub_setPub_same]⟩

/-! ### The PUBLISH issue -/

section
variable {n i : Nat} {e : SchedEntry} {t : Instant} {s : State} {d : OutDef} {tid : Nat} {tm : Template} {g : GroupDef} {x : Instant}

theorem publishAt_due {out : Nat} (hd : mget (activeBank s).outs out = some d) (htm : outTmpl (activeBank s) out = some (tid, tm))
    (hg : group s tm.gid = some g) (hx : lastDue g t = some x) (hfirst : beforeFirst s tm.gid x = false) :
    publishAt out t s = outDrain d (if out < 0x100 then publishStream out tid tm.gid d x t s
      else publishGoose (out - 0x100) tid tm.gid d x t s) := by
  have hdue : publishDue out tid tm.gid d (some x) t s = if out < 0x100 then publishStream out tid tm.gid d x t s
      else publishGoose (out - 0x100) tid tm.gid d x t s := if_neg (ne_true_of_eq_false hfirst)
  unfold publishAt
  rw [hd, htm]
  dsimp only
  rw [hg]
  dsimp only
  rw [hx, hdue]

/-- The issue's own work for the instance that is due leaves z, and what the ports held back leaves after it. -/
theorem publishIssue_takes {z : State} (h : Issues 7 n i e t s) (hd : mget (activeBank s).outs e.target = some d)
    (htm : outTmpl (activeBank s) e.target = some (tid, tm)) (hg : group s tm.gid = some g) (hx : lastDue g t = some x)
    (hfirst : beforeFirst s tm.gid x = false)
    (hz : (if e.target < 0x100 then publishStream e.target tid tm.gid d x t (advanceTo t s)
      else publishGoose (e.target - 0x100) tid tm.gid d x t (advanceTo t s)) = z) (htold : Told (advanceTo t s) z)
    (hdisp : z.disp = (advanceTo t s).disp) : ∃ u, exec (.publishIssue n i) s = .next u ∧ Issued n i e t u ∧ u.pubs = z.pubs ∧
      u.outRuns = z.outRuns ∧ counter u 195 = counter z 195 := by
  let w := advanceTo t s
  have hact : publishAt e.target t w = outDrain d z :=
    (publishAt_due (by rw [activeBank_advanceTo, hd]) (by rw [activeBank_advanceTo, htm]) ((group_advanceTo ..).trans hg) hx
      (by rw [beforeFirst, advanceTo_mst]; exact hfirst)).trans (congrArg (outDrain d) hz)
  have hdrain := outDrain_same d z
  obtain ⟨u, hex, hissued, hu⟩ := issue_takes (v := outDrain d z) (by decide) (by decide) h
    (fun ha => by unfold issueAct; rw [ha]; exact hact) (htold.trans (outDrain_told d z)).now_eq
  have hdrop : (outDrain d z).disp.dropped = [] := by rw [← hdrain.keeps .disp rfl, hdisp, advanceTo_disp, h.settled]
  have hquiet := hu.quiet hdrop
  exact ⟨u, hex, hissued, ((hdrain.keeps .pubs rfl).trans (hquiet.keeps .pubs rfl)).symm,
    ((hdrain.keeps .outRuns rfl).trans (hquiet.keeps .outRuns rfl)).symm,
    (counter_congr (hquiet.keeps .cnt rfl).symm 195).trans (counter_outDrain (by decide) (by decide) d z)⟩

theorem pub_advanceTo (t : Instant) (s : State) (n : Nat) : pub (advanceTo t s) n = pub s n := pub_congr (advanceTo_pubs ..) n

theorem outRun_congr {s u : State} (h : u.outRuns = s.outRuns) (n : Nat) : outRun u n = outRun s n := by rw [outRun, outRun, h]

theorem outRun_advanceTo (t : Instant) (s : State) (n : Nat) : outRun (advanceTo t s) n = outRun s n := outRun_congr (advanceTo_outRuns ..) n

/-- A publication that is late at its issue counts so. -/
theorem lateCounted_keeps (c : Prop) [Decidable c] (p k : Nat) (s : State) : Told s (if c then countPort p k s else s) ∧
    (if c then countPort p k s else s).pubs = s.pubs ∧ (if c then countPort p k s else s).outRuns = s.outRuns ∧
    (if c then countPort p k s else s).disp = s.disp := by
  split
  · exact ⟨countPort_told p k s, rfl, rfl, rfl⟩
  · exact ⟨.refl s, rfl, rfl, rfl⟩

/-- A publication's new state is published at its issue. -/
theorem publishIssue_publishes (h : Issues 7 n i e t s) (hd : mget (activeBank s).outs e.target = some d)
    (htm : outTmpl (activeBank s) e.target = some (tid, tm)) (hg : group s tm.gid = some g) (hx : lastDue g t = some x)
    (hfirst : beforeFirst s tm.gid x = false) {a b : Instant} {ms : List Nat} (hgoose : 0x100 ≤ e.target)
    (hnew : (pub s (e.target - 0x100)).newState = some (a, b, ms)) : ∃ u, exec (.publishIssue n i) s = .next u ∧ Issued n i e t u ∧
      (pub u (e.target - 0x100)).data = ms ∧ (pub u (e.target - 0x100)).sqNum = 0 ∧
      (pub u (e.target - 0x100)).stNum = ((pub s (e.target - 0x100)).stNum + 1) % 2 ^ 32 ∧
      (pub u (e.target - 0x100)).newState = none := by
  let w := advanceTo t s
  let late := if t < b + usU 1 ∧ emits w then countPort d.port 17 w else w
  obtain ⟨hlate, hpubs, -, hdisp⟩ := lateCounted_keeps (t < b + usU 1 ∧ emits w) d.port 17 w
  have hpublished := publishState_same true (e.target - 0x100) d ms late
  have hz : (if e.target < 0x100 then publishStream e.target tid tm.gid d x t w
      else publishGoose (e.target - 0x100) tid tm.gid d x t w) = publishState true (e.target - 0x100) d ms late := by
    rw [if_neg (by omega)]
    unfold publishGoose
    dsimp only
    rw [pub_advanceTo, hnew]
  obtain ⟨u, hex, hissued, hupubs, -, -⟩ := publishIssue_takes h hd htm hg hx hfirst hz
    (hlate.trans (publishState_told ..)) ((hpublished.keeps .disp rfl).symm.trans hdisp)
  obtain ⟨k, hk⟩ := publishState_pub true (e.target - 0x100) d ms late
  have hpub : pub late (e.target - 0x100) = pub s (e.target - 0x100) := (pub_congr hpubs _).trans (pub_advanceTo ..)
  refine ⟨u, hex, hissued, ?_⟩
  rw [pub_congr hupubs, hk, ← hpub]
  exact ⟨rfl, rfl, rfl, rfl⟩

/-- The frame built for an output stream's instance goes out at its issue, and no older one stays. -/
theorem publishIssue_sends (h : Issues 7 n i e t s) (hd : mget (activeBank s).outs e.target = some d)
    (htm : outTmpl (activeBank s) e.target = some (tid, tm)) (hg : group s tm.gid = some g) (hx : lastDue g t = some x)
    (hfirst : beforeFirst s tm.gid x = false) {y : Instant × Instant × OutFrame} (hstream : e.target < 0x100)
    (hbuilt : (outRun s e.target).built.find? (fun b => b.1 == x) = some y) : ∃ u, exec (.publishIssue n i) s = .next u ∧
      Issued n i e t u ∧ (outRun u e.target).built = (outRun s e.target).built.filter fun b => decide (x < b.1) := by
  obtain ⟨a, b, f⟩ := y
  let w := advanceTo t s
  let r : OutRun := { outRun w e.target with built := (outRun w e.target).built.filter fun b => decide (x < b.1) }
  let o := setOutRun e.target r w
  let late := if t < b + usU 1 ∧ emits o then countPort d.port 17 o else o
  obtain ⟨hlate, -, hruns, hdisp⟩ := lateCounted_keeps (t < b + usU 1 ∧ emits o) d.port 17 o
  have hsent := sendData_same true d f late
  have hz : (if e.target < 0x100 then publishStream e.target tid tm.gid d x t w
      else publishGoose (e.target - 0x100) tid tm.gid d x t w) = sendData true d f late := by
    rw [if_pos hstream]
    unfold publishStream
    dsimp only
    rw [show (outRun w e.target).built.find? _ = some (a, b, f) by rw [outRun_advanceTo]; exact hbuilt]
  have ho : Told w o := .of_eq rfl rfl rfl rfl rfl
  obtain ⟨u, hex, hissued, -, huruns, -⟩ := publishIssue_takes h hd htm hg hx hfirst hz
    (ho.trans (hlate.trans (sendData_told ..))) ((hsent.keeps .disp rfl).symm.trans hdisp)
  refine ⟨u, hex, hissued, ?_⟩
  rw [outRun_congr huruns, outRun_congr (hsent.keeps .outRuns rfl).symm, outRun_congr hruns, ← outRun_advanceTo t s]
  exact congrArg OutRun.built (mgetD_mput_same ..)

/-- An output stream without a frame for its instance, of which no task is left, misses it. -/
theorem publishIssue_misses (h : Issues 7 n i e t s) (hd : mget (activeBank s).outs e.target = some d)
    (htm : outTmpl (activeBank s) e.target = some (tid, tm)) (hg : group s tm.gid = some g) (hx : lastDue g t = some x)
    (hfirst : beforeFirst s tm.gid x = false) (hstream : e.target < 0x100)
    (hbuilt : (outRun s e.target).built.find? (fun b => b.1 == x) = none) (htask : taskPending s tid x = false)
    (hfired : hasFired s tm.gid x = true) : ∃ u, exec (.publishIssue n i) s = .next u ∧ Issued n i e t u ∧
      counter u 195 = satAdd (2 ^ 64 - 1) (counter s 195) 1 := by
  let w := advanceTo t s
  let r : OutRun := { outRun w e.target with built := (outRun w e.target).built.filter fun b => decide (x < b.1) }
  have hgone : ¬(taskPending w tid x = true ∨ (!hasFired w tm.gid x) = true) := by
    have htaskW : taskPending w tid x = false := by rw [taskPending, advanceTo_disp]; exact htask
    have hfiredW : hasFired w tm.gid x = true := by rw [hasFired, advanceTo_mst]; exact hfired
    simp [htaskW, hfiredW]
  have hz : (if e.target < 0x100 then publishStream e.target tid tm.gid d x t w
      else publishGoose (e.target - 0x100) tid tm.gid d x t w) = count 195 (setOutRun e.target r w) := by
    rw [if_pos hstream]
    unfold publishStream
    dsimp only
    rw [show (outRun w e.target).built.find? _ = none by rw [outRun_advanceTo]; exact hbuilt]
    exact if_neg hgone
  have ho : Told w (setOutRun e.target r w) := .of_eq rfl rfl rfl rfl rfl
  obtain ⟨u, hex, hissued, -, -, hcnt⟩ := publishIssue_takes h hd htm hg hx hfirst hz (ho.trans (count_told (by decide) _)) rfl
  refine ⟨u, hex, hissued, ?_⟩
  rw [hcnt, counter_count_same]
  exact congrArg (satAdd (2 ^ 64 - 1) · 1) (counter_advanceTo t s 195)

end

/-! ### The obligation -/

/-- Settles O53. -/
theorem scheduleIssuesComplete : Obligations.ScheduleIssuesComplete := by
  unfold Obligations.ScheduleIssuesComplete
  refine ⟨fun n i e t s => ⟨fun a x y => issues_in_order, fun a q => issue_once, fun g x => deadlineIssue_waits, fun tid tm h hrun hstop hfirst htm =>
      ⟨fun hnone => cycleIssue_opens h hrun hstop hfirst htm hnone, fun x g hx hfired hg => cycleIssue_releases h hrun hstop hfirst htm hx hfired hg⟩,
    fun tid tm => cycleIssue_stops, fun tid tm => copyIssue_releases, fun r h hr htick => ⟨tickIssue_triggers h hr htick, tickIssue_waits h hr htick⟩⟩,
    fun n i e t s => ⟨fun tm d p j => releaseIssue_releases,
      fun r tid tm h hr hended hclose hnext htm htype hroom hready =>
        ⟨playoutIssue_releases h hr hended hclose hnext htm htype hroom hready,
          fun a => playoutIssue_opens h hr hended hclose hnext htm htype hroom hready⟩,
      fun d tid tm g x h hd htm hg hx hfirst => ⟨fun a w ms => publishIssue_publishes h hd htm hg hx hfirst,
        fun y => publishIssue_sends h hd htm hg hx hfirst, publishIssue_misses h hd htm hg hx hfirst⟩⟩⟩

end Sys2Proof.Machine
end
